-- ==== Sys2Proof/Word.lean ====
section
/-! DEFINITION. The words of the device: 32-bit registers (R379), 8-bit bytes, and the units of its parts. -/

namespace Sys2Proof

/-- A control and status register is 32 bits wide (R379). -/
abbrev Word := BitVec 32

/-- The smallest addressable unit of the appliance address space (R37). -/
abbrev Byte := BitVec 8

/-- A verb engine, VE0 to VE63 (R1). -/
abbrev Engine := Fin 64

/-- A host port, PORT0 to PORT7 (R1). -/
abbrev Port := Fin 8

/-- A logical port, 0 to 31 (R402). -/
abbrev Lport := Fin 32

/-- A DDR5 controller, DMC0 to DMC15 (R1). -/
abbrev Dmc := Fin 16

/-- A NAND target: channel × 16 + chip enable (R230). -/
abbrev Target := Fin 512

/-- A queue-pair index (R67). -/
abbrev Qpi := Fin 65536

end Sys2Proof
end

