-- ==== Sys2Proof/Syntax.lean ====
section
/-! DEFINITION. The commands of the block: one constructor of `Instr` per row of spec/opcode_table.json, and the plain
data their operands are made of. The table gives no operands: each command carries the facts from outside the
block that the rule of its row needs (DESIGN CHOICE, log entry 10). -/

namespace Sys2Proof

/-- Who issued a management command (R24). `core` is a management core pair. -/
inductive Source where
  | pcie | core (pair : Fin 4) | debug | mqp | twin
  deriving DecidableEq, Repr

/-- The fields of a management frame's header that an issuer chooses (R369): tag and 35-bit claim number (R24). -/
structure Hdr where
  src   : Source
  tag   : BitVec 16
  claim : BitVec 35
  deriving DecidableEq, Repr

/-- The objects of R27; registers and tile-table entries by the range of their addresses. -/
inductive Obj where
  | modeRole | doze | domain (n : Nat) | region (key : Nat) | qp (n : Nat) | srq (n : Nat) | extent (key : Nat)
  | channel (n : Nat) | engine (n : Nat) | bank (dmc bank : Nat) | security | registers (lo hi : Nat)
  | table (lo hi : Nat)
  deriving DecidableEq, Repr

/-- The completion statuses of R370. -/
inductive Status where
  | ok | invalid | busy | contended | capacity | brownout | malformed | stale | denied
  deriving DecidableEq, Repr

/-- RoCE v2 opcodes at the responder (R67), with every other opcode of the RC transport as `rcOther`, of the UD transport as `udOther`, and
of any other transport as `other`. -/
inductive Opcode where
  | sendFirst | sendMiddle | sendLast | sendOnly
  | writeFirst | writeMiddle | writeLast | writeOnly | writeLastImm | writeOnlyImm
  | readReq | cmpSwap | fetchAdd | atomicWrite | flush
  | udSend | readResp | ack | atomicAck | rcOther | udOther | other
  deriving DecidableEq, Repr

/-- RDMA extended header (RETH or AtomicETH): address, key, length. -/
structure Reth where
  va   : Nat
  key  : BitVec 32
  len  : Nat
  deriving DecidableEq, Repr

/-- What the commit's reads met (R77): nothing, an uncorrectable error in a Spool cell, or one on the merge of a
partly written line (its line number), or a line whose decryption disagreed with its check on a lane, and whose retry agreed or not (R269). -/
inductive CommitRead where
  | clean | spoolUe | mergeUe (line : Nat) | cipher (agrees : Bool) (lane : Fin 64)
  deriving DecidableEq, Repr

/-- What a NAND codeword's decoding came to (R243): hard decode, retry or soft decode, failure with parity held,
failure with parity gone, a decode after which the check of its metadata fails. -/
inductive NandRead where
  | hard | retried | rebuilt | lost | badCheck
  deriving DecidableEq, Repr

/-- The outcome of a cipher block's dual computation (R269). -/
inductive Dual where
  | agree | retryAgrees | retryDiffers
  deriving DecidableEq, Repr

/-- The power-fail paths of R140. -/
inductive PfPath where
  | comparator | pin | sampled | command
  deriving DecidableEq, Repr

/-- A path to the twin (R178). -/
inductive Path where
  | seam0 | seam1 | tack
  deriving DecidableEq, Repr

/-- A BEAT on a Seam link (R172, R176), and what its sender is (DESIGN CHOICE, log entry 16): its mode, whether it is failover-ready, and
whether it stands at its end of BRINGUP or at the release of an image (R164). -/
structure Beat where
  pairId  : Nat
  unit    : Bool
  epoch   : Nat
  mode    : Nat
  ready   : Bool
  joining : Bool
  sent    : Nat
  echo    : Nat
  delay   : Nat
  sync    : Nat
  linkSeq : Nat
  linkAck : Nat
  stamp   : Nat
  deriving DecidableEq, Repr

/-- A Tack BEAT frame (R177): `crcOk` is the result of its check. -/
structure TackBeat where
  crcOk  : Bool
  pairId : Nat
  unit   : Bool
  epoch  : Nat
  lead   : Bool
  held   : Bool
  ready  : Bool
  mode   : Nat
  sync   : Nat
  deriving DecidableEq, Repr

/-- What every Tack frame carries (R162, R177): whether it passes its check, the pair identity and the claim of its sender. -/
structure TackId where
  crcOk  : Bool
  pairId : Nat
  unit   : Bool
  epoch  : Nat
  deriving DecidableEq, Repr

/-- The header fields of a Seam frame that its receiver uses (R162, R172); of a message in several `frames`, the first one's link_seq. -/
structure SeamHdr where
  link    : Fin 2
  linkSeq : Nat
  frames  : Nat
  linkAck : Nat
  pairId  : Nat
  epoch   : Nat
  unit    : Bool
  pairSeq : Nat
  stamp   : Nat
  local_  : Bool
  relaxed : Bool
  deriving DecidableEq, Repr

/-- A DEPART notice (R160, R178): as a Seam frame or as a Tack frame. -/
inductive Notice where
  | seam (h : SeamHdr)
  | tack (t : TackId)
  deriving DecidableEq, Repr

/-- The operation a MIRROR or FWD frame carries: data written (address and bytes of each part), an atomic's operands, or a
publish with its channel and publisher index. -/
inductive SeamOp where
  | write (parts : List (Nat × List Byte))
  | publish (chan pub : Nat) (data : List Byte)
  | compareSwap (addr : Nat) (cmp swap : BitVec 64)
  | fetchAdd (addr : Nat) (add : BitVec 64)
  | atomicWrite (addr : Nat) (value : BitVec 64)
  deriving DecidableEq, Repr

/-- A message carried by MIRROR or FWD frames (R167, R173). `result` is the atomic's result on a MIRROR. -/
structure SeamMsg where
  qp     : Qpi
  psn    : Nat
  region : Nat
  op     : SeamOp
  result : Option (BitVec 64)
  deriving DecidableEq, Repr

/-- What a DIMM's SPD says (R196, R197, R202): a DDR5 RDIMM with ECC of two 40-bit subchannels; x4 devices, 10 per subchannel and rank; rated
rate in MT/s; devices stacked (1 planar, 2 or 4); package ranks; banks per logical rank; capacity in bytes; directed refresh management;
serial number. -/
structure Dimm where
  rdimm      : Bool
  x4         : Bool
  rate       : Nat
  height     : Nat
  ranks      : Nat
  banks      : Nat
  capacity   : Nat
  directedRm : Bool
  serial     : Nat
  deriving DecidableEq, Repr

/-- The slots of one DIMM channel as the SPD reads found them (R197). -/
structure DimmPop where
  slot0 : Option Dimm
  slot1 : Option Dimm
  deriving DecidableEq, Repr

/-- A retirement record (R221): the DIMM's serial number, logical rank and bank of it, and the frame of the bank, or none for the whole bank. -/
structure RetRec where
  serial : Nat
  lrank  : Nat
  bank   : Nat
  row    : Option Nat
  deriving DecidableEq, Repr

/-- The NAND profile of an Epette image (R229): interface, data rate in MT/s that its timing is made for, entries of its read-retry tables, 64 KiB slots per block
and per target, program rate per target in save mode in MB/s, and read-disturb limit in reads of a block. -/
structure NandProfile where
  toggle      : Bool := false
  rate        : Nat := 2400
  retries     : Nat := 8
  blockTiles  : Nat := 4
  targetTiles : Nat := 1000000
  progMBs     : Nat := 100
  disturb     : Nat := 100000
  deriving DecidableEq, Repr

/-- What the BRINGUP scan reads of a chip enable (R228, R229): interface (none: neither of the two), 8-bit bus, highest data rate in MT/s, user density in Gb, dies, data and spare
bytes of a page, planes, array times of page read, program and erase in µs, whether it has every operation of R228, slots per block and target, and whether its
DQ and DQS timing trained. -/
structure NandChip where
  ce          : Fin 16
  toggle      : Option Bool := some false
  bus8        : Bool := true
  rate        : Nat := 2400
  density     : Nat := 2048
  dies        : Nat := 4
  page        : Nat := 16384
  spare       : Nat := 2048
  planes      : Nat := 4
  readUs      : Nat := 45
  progUs      : Nat := 2500
  eraseUs     : Nat := 15000
  ops         : Bool := true
  blockTiles  : Nat := 4
  targetTiles : Nat := 1000000
  trained     : Bool := true
  deriving DecidableEq, Repr

/-- How a stored unit reads: the bytes of it, by offset, that read otherwise than they were written. -/
abbrev Altered := List (Nat × Byte)

/-- What the BRINGUP scan of the NAND and the read of the save area find (R152, R153, R229, R231): the chip enables of each channel that answer; factory bad-block
marks (target × 2^20 + block); whether a root record passes its check; how the journal's records read (by position), both header copies of the image, and the units of its
bitmap, on-chip section and carve-out, by slot offset, at their first read and at a second. -/
structure NandScan where
  channels : List (Fin 32 × List NandChip)
  bad      : List Nat := []
  root     : Bool
  journal  : List (Nat × Altered) := []
  header0  : Altered := []
  header1  : Altered := []
  units    : List (Nat × Altered × Altered) := []
  deriving DecidableEq, Repr

/-- Where a burst lies on a channel (R198, R227): subchannel, logical rank counted through slot 0 and then slot 1, bank, row, and its 64-byte column. -/
structure BurstLoc where
  subch  : Fin 2
  lrank  : Fin 16
  bank   : Fin 32
  row    : BitVec 18
  column : BitVec 10
  deriving DecidableEq, Repr

/-- A burst as it is read: what the ten x4 devices of the subchannel drive on each of its 16 beats, device d on bits 4d to 4d + 3 (R210). -/
abbrev Beats := List (BitVec 40)

/-- Who was reading when an error was met, or in which line of the near cache's arrays it was (R220). -/
inductive Reader where
  | coreFetch (pair : Fin 4) | coreData (pair : Fin 4) | walker | qpContext (qp : Qpi) | homeTable | engineRead
  | partialMerge | migration (tile : Nat) | scrubber | saveEngine | dirtyLine (line : Nat) | cleanLine (line : Nat) | cacheTag (line : Nat)
  deriving DecidableEq, Repr

/-- The pack's answer to Fen's reads on one bus (R295): temperature in °C, full-charge and design capacity in mAh,
serial number. -/
structure PackRead where
  temp   : Int
  fcc    : Nat
  dc     : Nat
  serial : Nat
  deriving DecidableEq, Repr

/-- One entry of the rail table (R285). -/
structure RailEntry where
  rail     : Fin 24
  pg       : Bool
  core     : Bool
  critical : Bool
  serdes   : Bool
  rst      : BitVec 8
  delayUs  : Nat
  pg100us  : Nat
  deriving DecidableEq, Repr

/-- An entry of the DDR field of an Epette image (R197, R399): a channel's longest trace and connector spacing in mm, and the rate the image
sets for it, coded as DMC_STATUS.rate. -/
structure DdrEntry where
  chan    : Dmc
  trace   : Nat
  spacing : Nat
  rate    : Option (Fin 5)
  deriving DecidableEq, Repr

/-- An entry of an image copy's record table (R320): type, flags, offset from the start of the copy, length. -/
structure RecEntry where
  type  : Nat
  flags : Nat := 0
  off   : Nat
  len   : Nat
  deriving DecidableEq, Repr

/-- What checks 1 to 6 of R323 read of an image copy: header fields and record table, whether magic, reserved bytes and payloads have their form, whether the
signature verifies under its key, whether every record's digest matches, and the records' contents (R319 to R321). -/
structure ImageInfo where
  formOk  : Bool
  build   : Nat
  svn     : Nat
  key     : Fin 4
  onHx    : Bool
  onMx    : Bool
  sigOk   : Bool
  digestOk : Bool
  rails   : List RailEntry
  railsOk : Bool
  eRated  : Nat
  ocv     : List (Nat × Nat)
  pairId  : Nat
  dramMax : Nat
  regs    : List (Nat × Word)
  ddr     : List DdrEntry := []
  version : Nat := 1
  count   : Nat := 7
  length  : Nat := 0x8000
  nand    : NandProfile := {}
  table   : List RecEntry := [⟨1, 0, 0x1000, 24⟩, ⟨2, 0, 0x2000, 16⟩, ⟨4, 0, 0x3000, 16⟩, ⟨5, 0, 0x4000, 16⟩, ⟨6, 0, 0x5000, 165⟩,
    ⟨7, 0, 0x6000, 105⟩, ⟨8, 0, 0x7000, 8⟩]
  deriving DecidableEq, Repr

/-- A counter record of the NOR (R292). -/
structure CounterRec where
  hours  : Nat
  cycles : Nat
  rails  : List Word
  sector : Nat
  deriving DecidableEq, Repr

/-- A record of the erase journal (R332): INTENT or DONE, its sector, its sequence. -/
structure JEntry where
  done   : Bool
  sector : Nat
  seq    : Nat
  deriving DecidableEq, Repr

/-- A configuration NOR that the board carries from now on (R316 to R321): density in MiB, bytes that are not erased (offset, byte), what
its image copies hold, counter records newest first, retirement records and marks (DIMM serial × 2 + subchannel, device), and the records of journal
sectors J0 and J1. -/
structure NorParts where
  mib       : Nat
  bytes     : List (Nat × Byte)
  copyA     : Option ImageInfo
  copyB     : Option ImageInfo
  counters  : List CounterRec
  retRecs   : List RetRec
  marks     : List (Nat × Nat)
  j0        : List JEntry := []
  j1        : List JEntry := []
  deriving DecidableEq, Repr

/-- Sources of the NOR window (R328). -/
inductive NorSrc where
  | pcie | mqp | core (pair : Fin 4)
  deriving DecidableEq, Repr

/-- A token presented to Thimble (R346, R364): its magic (0 "KBDBGT01", 1 "KBLCYC01", 2 "KBPCLR01", 3 anything else), the
fields the check compares (byte 48 is `level`), and whether its signature verifies under the named key. -/
structure Token where
  magic     : Fin 4
  devid     : Nat
  challenge : Nat
  level     : Nat
  key       : Fin 4
  sigOk     : Bool
  deriving DecidableEq, Repr

/-- A witness token (R184); `recOk` says that the record with the witness key passed its digest as it was read (R320). -/
structure WitToken where
  magicOk  : Bool
  pairId   : Nat
  unit     : Bool
  epoch    : Nat
  notAfter : Nat
  sigOk    : Bool
  recOk    : Bool := true
  deriving DecidableEq, Repr

/-- A cipher context blob (R272) as its check finds it. -/
structure Blob where
  magicOk : Bool
  kind    : Nat
  wrapped : Bool
  index   : Nat
  key     : Nat
  salt    : Nat
  ssci    : BitVec 32
  pn      : Nat
  tagOk   : Bool
  deriving DecidableEq, Repr

/-- IEEE 1149.1 instructions and debug accesses (R348). -/
inductive TapOp where
  | bypass | idcode | sample | extest | clamp | highz | extestPulse | extestTrain
  | csrRead (off : Nat) | peatRead (slot : Nat) | traceRead (pair : Fin 4)
  | haltPair (pair : Fin 4) | stepPair (pair : Fin 4) | releasePair (pair : Fin 4)
  | csrWrite (off : Nat) (v : Word) | sramRead (addr : Nat) | sramWrite (addr : Nat) (v : Byte)
  | memRead (addr : Nat) | memWrite (addr : Nat) (v : Byte)
  deriving DecidableEq, Repr

/-- Wake sources that reach Fen (R301). -/
inductive Wake where
  | port (p : Port) | monitor (ch : Fin 16) | energy | pcie | twin
  deriving DecidableEq, Repr

/-- PTP messages the time unit acts on (R307, R308): an Announce accepted by the firmware's BMCA, a completed
Sync/Delay exchange with the offset it measured in ns, or any other event message, which is only timestamped. -/
inductive PtpMsg where
  | announce (accepted : Bool) | exchange (offset : Int) | event
  deriving DecidableEq, Repr

/-- The attributes a queue-pair modify command gives (R68, R404). -/
structure QpAttrs where
  ty        : Option Bool := none        -- true = RC, false = UD
  pd        : Option Nat := none
  lport     : Option Nat := none
  rq        : Option (Option Nat) := none   -- own, or a shared receive queue
  qKey      : Option (BitVec 32) := none
  remote    : Option (Nat × Nat) := none
  epsn      : Option Nat := none
  pmtu      : Option Nat := none
  resources : Option Nat := none
  pKey      : Option (BitVec 16) := none
  dscp      : Option Nat := none
  priority  : Option Nat := none
  spsn      : Option Nat := none
  retry     : Option Nat := none
  rnrRetry  : Option Nat := none
  ccClass   : Option Nat := none
  relaxed   : Option Nat := none
  deriving DecidableEq, Repr

/-- The states of R69. -/
inductive QpState where
  | reset | init | rtr | rts | error
  deriving DecidableEq, Repr

/-- A receive completion ring named at the creation of a receive queue (R372). -/
structure CqDef where
  log2   : Nat
  key    : BitVec 32
  offset : Nat
  deriving DecidableEq, Repr

/-- What a register command supplies (R57). -/
structure RegArgs where
  index     : Option Nat
  pd        : Nat
  tiled     : Bool
  read      : Bool
  write     : Bool
  atomic    : Bool
  flush     : Bool
  local_    : Bool
  vaBase    : Nat
  length    : Nat
  target    : Nat
  tileCount : Nat
  rnrThr    : Nat
  ext       : Bool
  policy    : Nat
  reservedZero : Bool
  deriving DecidableEq, Repr

/-- What a channel-create command supplies (R92); no retention takes the default. The group is an IPv4 or IPv6 address. -/
structure ChanArgs where
  number    : Nat
  pd        : Nat
  local_    : Bool
  quorum    : Nat
  retention : Option Nat
  maxMsg    : Nat
  relKey    : BitVec 32
  relOffset : Nat
  snapshot  : Option (BitVec 32)
  hintOn    : Bool
  hintGroup : Nat
  hintQKey  : BitVec 32
  hintQp    : Nat
  logTile   : Nat
  deriving DecidableEq, Repr

/-- What an attach-subscriber command supplies (R101); no mode takes the default. -/
structure SubArgs where
  chan     : Nat
  sub      : Nat
  qp       : Qpi
  ringAddr : Nat
  ringKey  : BitVec 32
  ringSize : Nat
  sealMode : Option Bool
  start    : Nat
  deriving DecidableEq, Repr

/-- The state and cursors of a subscriber as a CTX frame carries them (R108). -/
structure SubSnap where
  stopped  : Bool
  detached : Bool
  released : Nat
  relOff   : Nat
  offset   : Nat
  nextOff  : Nat
  missing  : Nat
  gapDue   : Bool
  waits    : Bool
  ends     : List (Nat × Nat × Nat)
  deriving DecidableEq, Repr

/-- What a CTX frame updates (R173): a queue-pair context after its completed messages, a subscriber's cursors, an entry it
holds, its stop, an atomic's result;
the shared tables that LEAD sends a returning twin, object by object; the unmirrored marks FOLLOW reports and the copy set
it learns (R190), and a tile whose copy it wants first (R62); the host of a queue pair given back (R194) (DESIGN CHOICE, log entry 17). -/
inductive CtxUpdate where
  | qpEpsn (qp : Qpi) (epsn : Nat)
  | subCursor (chan : Nat) (sub : Nat) (sent released relOff offset : Nat) (ends : List (Nat × Nat × Nat))
  | subHeld (chan sub seq : Nat)
  | subStopped (chan sub : Nat)
  | atomicResult (qp : Qpi) (psn : Nat) (result : BitVec 64)
  | domain (pd : Nat) (quotas : Option (Nat × Nat × Nat))
  | region (index epoch : Nat) (a : Option RegArgs) (closing : Option (BitVec 16)) (fault : Nat)
  | queuePair (qp : Qpi) (host rc : Bool) (st : QpState) (epsn : Nat) (a : QpAttrs)
  | channel (a : ChanArgs) (next logEnd : Nat)
  | publisher (chan pub : Nat) (qp : Qpi)
  | subscriber (a : SubArgs) (x : SubSnap)
  | logEntry (chan seq stamp pub : Nat) (data : List Byte) (held : List Nat) (pos : Nat)
  | recvQueue (srq : Bool) (index pd : Nat) (cq : Option CqDef) (written : Nat) (entries : List (BitVec 64 × BitVec 32 × Nat × Nat))
  | marks (full : Bool) (tiles : List Nat)
  | copySet (full : Bool) (tiles : List Nat)
  | copyFirst (tile : Nat)
  | host (qp : Qpi) (unit : Bool)
  deriving DecidableEq, Repr

/-- Object classes of the query command (R27, R371). -/
inductive QueryObj where
  | unit | domain | region | qp | srq | channel | subscriber | engine | bank
  deriving DecidableEq, Repr

/-- A management command with its operands, as its frame carries it (R369, R371). `unlisted` is a frame whose code R371 does not list. -/
inductive Cmd where
  | query (cls : QueryObj) (index : Nat)
  | registerRead (off count : Nat)
  | registerWrite (off : Nat) (values : List Word)
  | createDomain (pd regionQuota qpQuota keySlot : Nat)
  | destroyDomain (pd : Nat)
  | createQp (qp : Qpi) (rc host : Bool) (cq : Option CqDef)
  | modifyQp (qp : Qpi) (dst : QpState) (a : QpAttrs)
  | destroyQp (qp : Qpi)
  | postReceive (srq : Bool) (index : Nat) (wrId : BitVec 64) (key : BitVec 32) (offset len : Nat)
  | createSrq (index pd : Nat) (cq : CqDef)
  | register (a : RegArgs)
  | deregister (key : BitVec 32)
  | repair (key : BitVec 32)
  | sync (key : BitVec 32)
  | setExtent (key : BitVec 32) (flag : Bool) (policy : Fin 4)
  | discard (start count : Nat) (secure : Bool)
  | tableWrite (addr count : Nat) (shapeOk : Bool) (entries : List (BitVec 64))
  | channelCreate (a : ChanArgs)
  | channelClose (chan : Nat)
  | attachPublisher (chan : Nat) (qp : Qpi)
  | detachPublisher (chan : Nat) (qp : Qpi)
  | attachSubscriber (a : SubArgs)
  | resume (chan sub : Nat) (qp : Qpi)
  | remove (chan sub : Nat)
  | fence (e : Engine)
  | test (e : Engine)
  | rejoin (e : Engine)
  | retireFrame (frame : Nat)
  | retireBank (ch : Dmc) (slot lrank bank : Nat)
  | save
  | acceptOlderImage
  | discardImage
  | doze
  | giveBack (qps : List Qpi)
  | setTime (n : Fin 2) (second : Nat)
  | witnessToken (t : WitToken)
  | keySlot (slot : Nat) (b : Blob)
  | contextSave (kind index : Nat) (wrapped : Bool)
  | contextRestore (b : Blob)
  | provisionBegin
  | provisionCommit (keys : BitVec 4) (tagOk : Bool)
  | secure (t : Option Token)
  | returnUnit (t : Option Token)
  | scrap (t : Option Token)
  | advanceRollback
  | debugChallenge
  | debugOpen (level : Fin 3) (t : Option Token)
  | debugClose
  | peatClear (scope : Fin 4) (t : Option Token)
  | subscribe (dest addr qpn : Nat)
  | unlisted (code : Nat)
  deriving DecidableEq, Repr

/-- A command as it waits at the gate: its header and operands. `posted` marks a register write of R380, which has no completion. -/
structure GateCmd where
  hdr    : Hdr
  cmd    : Cmd
  posted : Bool := false
  deriving DecidableEq, Repr

/-- A management frame as it arrives on a path, before the checks of R370: `shape` says whether type, length and
reserved bytes are right. -/
structure MgmtFrame where
  cmd   : GateCmd
  shape : Bool
  deriving DecidableEq, Repr

/-- A RoCE v2 packet at a host port (R72). `icvOk` is the result of the integrity check of T1, made under the receive association of secure
channel `sc` and association number `an`, and `pn` the frame's packet number (R86); `prio` its priority (R85); `hdrOk` is the result of T2; `aeth` the
AETH syndrome of a response; `dual` says that a
cipher block failed its dual computation and the retry matched (`some true`) or also mismatched (`some false`)
(R269); `dataUe` is the line of an uncorrectable error met by the reads of T11, if any. -/
structure Packet where
  lport   : Lport
  tagged  : Bool
  icvOk   : Bool
  sc      : Fin 8
  an      : Fin 4
  pn      : Nat
  prio    : Fin 8
  etype   : BitVec 16
  dual    : Option Bool
  lane    : Fin 64
  hdrOk   : Bool
  qpn     : Nat
  srcAddr : Nat
  srcQpn  : Nat
  pkey    : BitVec 16
  qkey    : BitVec 32
  op      : Opcode
  psn     : Nat
  aeth    : Nat
  ackReq  : Bool
  solicit : Bool
  ect     : Bool
  ce      : Bool
  reth    : Option Reth
  cmp     : BitVec 64
  swapAdd : BitVec 64
  imm     : BitVec 32
  region  : Bool
  data    : List Byte
  walkUe  : Option Nat
  dataUe  : Option Nat
  mgmt    : Option MgmtFrame
  deriving DecidableEq, Repr

/-- A command of the block: one constructor per row of spec/opcode_table.json. -/
inductive Instr where
  -- the command gate, Weft and Spool (01)
  | gateCommandArrive (c : GateCmd)
  | gateWindowClose
  | weftStall (channel : BitVec 16) (waitUs : Nat)
  | weftStallCfgWrite (value : Word)
  | spoolAllocate (owner : Fin 82) (prio : Fin 8)
  | spoolFree (cell : Fin 262144) (issuer : BitVec 8) (gen : BitVec 16)
  | spoolReclaimDone (e : Engine)
  -- transport (03)
  | packetReceive (p : Packet)
  | cnpReceive (qp : Qpi)
  | pfcPauseReceive (port : Port) (prio : Fin 8) (quanta : Nat)
  | ccRateUpdate (qp : Qpi)
  | messageCommit (qp : Qpi) (psn : Nat) (rd : CommitRead)
  | ackIdleExpire (qp : Qpi)
  | ackMsgsReached (qp : Qpi)
  | nakSend (qp : Qpi)
  | rnrThresholdExpire (qp : Qpi) (psn : Nat)
  | nandReadComplete (tile : Nat) (cw : Fin 16) (res : NandRead) (dual : Dual) (lane : Fin 64)
  | fetchHoldExpire (tile : Nat)
  | drainDeadline (region : Nat)
  | deregisterDrainDone (region : Nat)
  | engineCheckError (e : Engine)
  | engineBistFail (e : Engine)
  | seqReplaceSend (qp : Qpi)
  | selfTestDone (e : Engine) (pass : Bool)
  | qpMove (qp : Qpi) (dest : Engine)
  | qpRebalancePeriod
  | requesterRetryTimeout (qp : Qpi)
  -- publish (04)
  | publishDeliver (chan : Nat) (sub : Nat)
  | subscriberAckReceive (chan : Nat) (sub : Nat) (seq : Nat)
  | gapEntryWrite (chan : Nat) (sub : Nat)
  | publishHint (chan : Nat)
  -- Tailor (05)
  | migrationStart
  | migrationSwitch (tile : Nat) (unit : Option (Fin 16)) (reads : List (Fin 16 × NandRead))
  | ageTick
  | churnMerge (tile : Nat) (reads : List (Fin 16 × NandRead)) (fails : Nat)
  | dramRebalance (ch : Dmc)
  -- persistence (06)
  | powerFailIndication (path : PfPath)
  | powerFailGlitch (path : PfPath)
  | powerFailConfirm (path : PfPath)
  | tierCloseDone
  | saveStreamDone (saveMs : Nat) (cipher : List (Nat × Dual × Fin 64)) (fails : List Nat)
  | bringupComplete (scan : NandScan)
  | restoreServingBegin
  | restoreTilePresent (tile : Nat) (first second : Altered) (dual : Dual) (lane : Fin 64)
  | imageRelease
  | slotEraseDone (slot : Fin 2) (fails : Nat)
  -- the twin (07)
  | seamBeatSend (link : Fin 2)
  | seamBeatReceive (link : Fin 2) (b : Beat)
  | seamLinkUp (link : Fin 2)
  | seamLinkDown (link : Fin 2)
  | seamReplayTimeout (link : Fin 2)
  | mirrorReceive (h : SeamHdr) (m : SeamMsg)
  | mackReceive (h : SeamHdr) (qp : Qpi) (psn status syn : Nat)
  | fwdReceive (h : SeamHdr) (m : SeamMsg) (rd : CommitRead)
  | copyReceive (h : SeamHdr) (tile : Nat) (frameNo : Fin 16) (data : List Byte) (key : Nat)
  | discardFrameReceive (h : SeamHdr) (tile : Nat)
  | cmdFrameReceive (h : SeamHdr) (f : MgmtFrame) (vals : List Nat)
  | cmdDoneReceive (h : SeamHdr) (of_ : Hdr) (code : Nat) (status : Status) (vals : List Nat)
  | ctxReceive (h : SeamHdr) (u : CtxUpdate)
  | departReceive (n : Notice)
  | tackBeatSend
  | tackBeatReceive (b : TackBeat)
  | yieldReceive (t : TackId)
  | pathLost (path : Path)
  | pairWaitExpire
  | witnessGrant
  | witnessGrantFall
  | tokenExpire
  | addressAnnounce (lport : Lport)
  | resyncCopySend
  | resyncCutover
  | resyncDone
  | givebackForwardEnd (qp : Qpi)
  -- DRAM controllers and near cache (08)
  | dramRefresh (ch : Dmc) (subch : Fin 2) (busy : Bool)
  | dramTempRead (ch : Dmc) (temp : Int)
  | dramActivate (ch : Dmc) (loc : BurstLoc) (draw : Nat)
  | rowThrottleHold (ch : Dmc) (loc : BurstLoc)
  | rowCounterClear (ch : Dmc)
  | dqsDriftCheck (ch : Dmc) (drifts : List (Fin 2 × Fin 10 × Int))
  | zqCalibrate (ch : Dmc)
  | dramReadComplete (ch : Dmc) (loc : BurstLoc) (beats : Beats) (who : Reader) (ns : Nat)
  | trnWriteReadCompare (ch : Dmc) (value : Word)
  | trnReadCompare (ch : Dmc) (value : Word)
  | trnSweep (ch : Dmc) (value : Word)
  | trnRcdLoopback (ch : Dmc) (value : Word)
  | trnSetReady (ch : Dmc) (value : Word) (pop : DimmPop)
  | trnRunDone (ch : Dmc) (lanes : List (List Nat))
  | carveoutFill
  | fillLine
  | scrubRead (ch : Dmc) (loc : BurstLoc) (beats : Beats)
  | maintClean (value : Word)
  | maintCleanInvalidate (value : Word)
  | ncacheMaintDone (misses : List (Fin 64))
  | invWalkDone
  -- Quilt (09)
  | nandProgramComplete (t : Target) (tile : Nat) (pass : Bool)
  | nandEraseComplete (t : Target) (block : Nat) (pass : Bool)
  | readVerify (t : Target) (block : Nat) (pass : Bool) (failed : List Nat)
  | checkpointTimer
  | checkpointGibCount
  | checkpointComplete (ms : Nat) (fails : List Target)
  | gcStart (t : Target)
  | gcRelocateSwitch (tile : Nat) (reads : List (Fin 16 × NandRead)) (fails : Nat)
  | wearLevel (t : Target)
  | disturbScan (t : Target) (block : Nat) (pass : Bool)
  | retentionPatrol (t : Target) (block : Nat) (pass : Bool)
  | nchTargetFail (t : Target)
  | secureDiscardDone (tag : BitVec 16)
  -- check values, cipher engine, lockstep (10)
  | scanStart (value : Word)
  | crcScanDone
  | lksInject (pair : Fin 4) (caught : Bool)
  | lksCodeViolation (pair : Fin 4)
  | lksMismatch (pair : Fin 4)
  | lksTestDone (pair : Fin 4) (reproduced : Bool)
  -- Fen (11)
  | fenVddRise (amon1Mv : Nat) (twinId : Bool) (fitted : Option NorParts)
  | mainInputGood
  | powerButton
  | powerOnStart
  | railDelayExpire
  | railPgRise (rail : Fin 24) (lks : BitVec 4)
  | railSettleExpire (lks : BitVec 4)
  | railStepTimeout
  | seqRetryWaitExpire
  | fenRailDrop (rail : Fin 24)
  | vcoreWindowTrip
  | resetStretchExpire (n : Fin 8)
  | counterRecordAppend
  | vcoreStep (tj : Int)
  | vcoreCheck (senseMv : Nat) (answered : Bool)
  | monTrip (ch : Fin 16)
  | batRateLow
  | batRateHigh
  | batRead (sb1 : Option PackRead) (sb0 : Option PackRead)
  | batPresenceChange (present : Bool)
  | batAuthStart
  | batAuthRead (sigOk : Option Bool) (recOk : Bool)
  | socOcvReset
  | fenBatFull
  | energyEstimate
  | dozeProposeReceive (t : TackId)
  | dozeAcceptReceive (t : TackId)
  | dozeProposeRetry
  | dozeNoticeExpire
  | dozeCommitReceive (t : TackId)
  | dozeAbortReceive (t : TackId)
  | dozeCommitTimeout
  | fenDozeEnter
  | dozeWake (w : Wake)
  | wakeReceive (t : TackId)
  | fenDozeExit
  | dozeTwinGraceEnd
  -- time (12)
  | ptpMessageReceive (lport : Lport) (m : PtpMsg) (protected_ : Bool)
  | ptpSourceLost
  | ppsInEdge (n : Fin 2) (errNs : Int)
  | ppsInMissing (n : Fin 2)
  | timeLocked
  | holdoverUpdate
  | ppsOutPulse
  | commitClockRelease
  | timeTodSnapshot
  -- the NOR (13)
  | norWindowWrite (src : NorSrc) (off : Nat) (v : Word) (aligned32 : Bool)
  | norProgram
  | norErase (intentOk : Bool)
  | norSuspend
  | norResume
  | norAbort
  | norSeqTimeout
  | norWindowRead (off : Nat)
  | norSuspendGrant
  | norOpDone (info : Option (Bool × ImageInfo))
  | norRecordAppend (kind : Fin 3)
  | brownoutBegin
  | brownoutResume
  | norReboot
  -- Thimble (14)
  | thmLockSet
  | entropyHealthFail
  | drbgReseed (pass : Bool)
  | fuseBurnDone (readBack : Bool)
  | signatureVerifyDone
  | challengeExpire
  | tapTokenWrite (t : Token)
  | tapChallengeRead
  | tapInstruction (op : TapOp)
  -- events, monitors, Peat (15)
  | evtFrameGapExpire (source : Fin 640)
  | eventFrameSend
  | evtPendClear (group : Fin 40) (value : Word)
  | evtMaskWrite (group : Fin 40) (value : Word)
  | monSnap (value : Word)
  | peatRecord
  | peatSnapTake (value : Word)
  | peatSnapDone
  -- management paths and sideband (16), register map (17)
  | pcieDoorbell (value : Word) (slots : List MgmtFrame)
  | pcieCplHead (value : Word)
  | pcieLinkDown
  | pcieLinkUp (speed : Fin 6) (width : Fin 9)
  | portLinkDown (lport : Lport)
  | portLinkUp (lport : Lport)
  | sbusEnable (n : Fin 6) (sdaLow : Bool) (freed : Bool)
  | sbusRecoveryRetry (n : Fin 6) (freed : Bool)
  | sbusSclTimeout (n : Fin 6)
  | sbusTransactionDone (n : Fin 6) (ok : Bool)
  | csrWrite (pf1 : Bool) (width : Nat) (off : Nat) (v : Word)
  | csrReadLoLatch (src : Source) (off : Nat)
  -- the management commands (R371)
  | query (h : Hdr) (cls : QueryObj) (index : Nat)
  | registerRead (h : Hdr) (off : Nat) (count : Nat)
  | registerWrite (h : Hdr) (off : Nat) (values : List Word)
  | createDomain (h : Hdr) (pd : Nat) (regionQuota qpQuota keySlot : Nat)
  | destroyDomain (h : Hdr) (pd : Nat)
  | createQp (h : Hdr) (qp : Qpi) (rc : Bool) (host : Bool) (cq : Option CqDef)
  | modifyQp (h : Hdr) (qp : Qpi) (dst : QpState) (a : QpAttrs)
  | destroyQp (h : Hdr) (qp : Qpi)
  | postReceive (h : Hdr) (srq : Bool) (index : Nat) (wrId : BitVec 64) (key : BitVec 32) (offset len : Nat)
  | createSrq (h : Hdr) (index : Nat) (pd : Nat) (cq : CqDef)
  | register (h : Hdr) (a : RegArgs)
  | deregister (h : Hdr) (key : BitVec 32)
  | repair (h : Hdr) (key : BitVec 32)
  | sync (h : Hdr) (key : BitVec 32)
  | setExtent (h : Hdr) (key : BitVec 32) (flag : Bool) (policy : Fin 4)
  | discard (h : Hdr) (start count : Nat) (secure : Bool)
  | tableWrite (h : Hdr) (addr : Nat) (count : Nat) (shapeOk : Bool) (entries : List (BitVec 64))
  | channelCreate (h : Hdr) (a : ChanArgs)
  | channelClose (h : Hdr) (chan : Nat)
  | attachPublisher (h : Hdr) (chan : Nat) (qp : Qpi)
  | detachPublisher (h : Hdr) (chan : Nat) (qp : Qpi)
  | attachSubscriber (h : Hdr) (a : SubArgs)
  | resume (h : Hdr) (chan sub : Nat) (qp : Qpi)
  | remove (h : Hdr) (chan sub : Nat)
  | fence (h : Hdr) (e : Engine)
  | test (h : Hdr) (e : Engine)
  | rejoin (h : Hdr) (e : Engine)
  | retireFrame (h : Hdr) (frame : Nat)
  | retireBank (h : Hdr) (ch : Dmc) (slot lrank bank : Nat)
  | save (h : Hdr)
  | acceptOlderImage (h : Hdr)
  | discardImage (h : Hdr)
  | doze (h : Hdr)
  | giveBack (h : Hdr) (qps : List Qpi)
  | setTime (h : Hdr) (n : Fin 2) (second : Nat)
  | witnessToken (h : Hdr) (t : WitToken)
  | keySlot (h : Hdr) (slot : Nat) (b : Blob) (dual : Dual) (lane : Fin 64)
  | contextSave (h : Hdr) (kind index : Nat) (wrapped : Bool) (dual : Dual) (lane : Fin 64)
  | contextRestore (h : Hdr) (b : Blob) (dual : Dual) (lane : Fin 64)
  | provisionBegin (h : Hdr)
  | provisionCommit (h : Hdr) (keys : BitVec 4) (tagOk : Bool)
  | secure (h : Hdr) (t : Option Token)
  | returnUnit (h : Hdr) (t : Option Token)
  | scrap (h : Hdr) (t : Option Token)
  | advanceRollback (h : Hdr)
  | debugChallenge (h : Hdr)
  | debugOpen (h : Hdr) (level : Fin 3) (t : Option Token)
  | debugClose (h : Hdr)
  | peatClear (h : Hdr) (scope : Fin 4) (t : Option Token)
  | subscribe (h : Hdr) (dest : Nat) (addr qpn : Nat)
  -- added rows
  | fenVddLoss
  | seamFrameDiscard (link : Fin 2) (kind : Fin 4)
  | railRemoveDelayExpire
  | bankIdlePrecharge (ch : Dmc) (subch : Fin 2) (lrank : Fin 16) (bank : Fin 32)
  | fenSample (amon : List (Fin 16 × Nat)) (shuntNvs : Int) (shuntUv : Int)
  | monLevelSample
  | qpMovePassedOver (qp : Qpi)
  | batAuthRetry
  | pfcPauseExpire (port : Port) (prio : Fin 8)
  | pacedTransmit (lport : Lport) (dual : Dual) (lane : Fin 64)
  deriving DecidableEq, Repr

end Sys2Proof
end

