-- ==== Sys2Proof/Config.lean ====
section
/-! DEFINITION. The free values: constants without a body, so that nothing can be proved of them (DESIGN CHOICE, log entry 1). Each is applied
to the counter `State.free` or to the operands it depends on. -/

namespace Sys2Proof

/-- Where the Spool allocator begins to look for a free cell (R31 names no cell). -/
opaque Config.spoolStart : Nat → Nat

/-- The bytes a DRBG draw returns, as a number (R338, R340, R346). -/
opaque Config.draw : Nat → Nat

/-- The identity public key, derived from the DRK (R338, R343). -/
opaque Config.identityKey : Nat

/-- The value that IDCODE shifts out of the test access port (R348 names the instruction, no value). -/
opaque Config.idcode : Nat

/-- AES-256-XTS over one 256-byte data unit (R266): the key pair of a slot and the tweak, the appliance address of the line; its inverse decrypts. Nothing is assumed of it
but that it can be undone. -/
opaque Config.xts : Nat → Nat → (BitVec 2048 ≃ BitVec 2048)

/-- A byte that DRAM held of a line whose dirty copy is lost (R220): draw and address. -/
opaque Config.older : Nat → Nat → Byte

/-- A byte of a part of the carve-out whose layout the spec does not give (R40): draw and address. -/
opaque Config.carved : Nat → Nat → Byte

/-- A byte of the on-chip section of a save image, whose layout the spec does not give (R149): generation, offset. -/
opaque Config.onChip : Nat → Nat → Byte

/-- The encryption of one 64 KiB unit under a save key (R145 names no mode): the root of the save key, the generation, the unit's slot offset. Nothing is assumed of it but
that it can be undone. -/
opaque Config.saved : Nat → Nat → Nat → (BitVec 524288 ≃ BitVec 524288)

/-- The AES-256-CMAC that seals the header of a save image (R150), as a number: the root of the save key, the bytes. -/
opaque Config.saveSeal : Nat → List Byte → Nat

/-- The 80 bytes that a wrap gives (R272, R273): ciphertext and tag: the root of the context-wrap key, the bytes that go in, the place. -/
opaque Config.wrapped : Nat → List Byte → Nat → Byte

/-- A byte of the NOR's record areas, whose records have no layout in the spec (R292, R317): records taken, offset. -/
opaque Config.recorded : Nat → Nat → Byte

/-- The payload of a Seam frame whose layout the spec does not give (R173): a forwarded atomic's operands, CMD, CMD_DONE and CTX: draw. -/
opaque Config.seamBody : Nat → List Byte

/-- The type code of the Seam frame that forwards a packet to a queue pair's new host (R194 names none). -/
opaque Config.relayType : Nat

/-- The address of a logical port of a unit, IPv4 or IPv6 (R187 does not say how the addresses come to be held): unit, logical port, IPv6. -/
opaque Config.address : Bool → Nat → Bool → Nat

/-- Where in the map area a checkpoint programs a segment or the directory (R237 gives no place): draw. -/
opaque Config.mapPlace : Nat → Nat

/-- Whether TIME_UNCERT and TIME_HOLD_AGE round a fraction of a unit up (R310 gives no rounding). -/
opaque Config.roundsUp : Nat → Bool

/-- A position among choices that the spec leaves open (equal ages, simultaneous requests): draw, number of choices. -/
opaque Config.choice : Nat → Nat → Nat

/-- The state of charge, in hundredths of a percent, at a pack voltage outside the OCV table (R297 interpolates within it). -/
opaque Config.ocvOutside : Nat → Nat

/-- Fen's estimate in 0.01 Wh for an authenticated pack that has reported no design capacity (R298 divides by it): e_rated. -/
opaque Config.estimate : Nat → Nat

end Sys2Proof
end

