-- ==== Sys2Proof/Machine/Regs.lean ====
section
/-! DEFINITION. The register map (17, R377 to R385): every register of the CSR aperture with its offset, instances,
fields, access codes (R14), reset value and the rule its description gives for a write. The tables are those of the
spec's chapters. `F.<REGISTER>_<field>` names each field; a repeated register takes its instance number first. -/

namespace Sys2Proof.Machine

/-- A field of one register: the register's aperture offset and the field's highest and lowest bit. -/
structure Fld where
  off : Nat
  hi  : Nat
  lo  : Nat
  deriving DecidableEq, Repr

/-- The access codes of R14; RWS with the mode or lifecycle state that its field names. -/
inductive Access where
  | ro | rw | w1c | w1s | wo | rwl | rwsBringup | rwsBlank
  deriving DecidableEq, Repr

/-- What a field's description says of a value written to it. `whole`: a 1 in any bit of the field clears it;
`within`: a value outside the range is ignored; `signed w m`: two's complement of w bits, ignored beyond ±m;
`khz`: the range of the controller's bus (R376). -/
inductive WRule where
  | plain | whole | khz
  | zeroTo (n : Nat) | aboveTo (n : Nat) | belowTo (n : Nat) | clamp (lo hi : Nat) | within (lo hi : Nat)
  | outsideTo (lo hi n : Nat) | signed (w m : Nat)
  deriving DecidableEq, Repr

/-- A rule over a whole register: the watermarks' order (R136), the garbage collection levels (R258). -/
inductive WholeRule where
  | any | wm | gc
  deriving DecidableEq, Repr

/-- Reset values that are not one constant for all instances (R385). -/
inductive ResetRule where
  | const (w : Word) | route | sbus | ident | units
  deriving DecidableEq, Repr

structure FieldSpec where
  hi   : Nat
  lo   : Nat
  acc  : Access
  rule : WRule
  deriving DecidableEq, Repr

/-- A register or family of registers: `n` block instances `stride` apart, `m` copies `step` apart in each. -/
structure RegSpec where
  base   : Nat
  n      : Nat
  stride : Nat
  m      : Nat
  step   : Nat
  reset  : ResetRule
  all    : WholeRule
  fields : List FieldSpec
  deriving DecidableEq, Repr

/-- The registers of block WEFT. -/
def regsWEFT : List RegSpec := [
  -- WEFT_STALL_CFG
  ⟨0x90000, 1, 0x0, 1, 0x0, .const 0x00002710#32, .any, [⟨15, 0, .rw, .plain⟩]⟩,
  -- WEFT_STALL_LOG
  ⟨0x90004, 1, 0x0, 1, 0x0, .const 0x00000000#32, .any, [⟨31, 31, .w1c, .plain⟩, ⟨15, 0, .ro, .plain⟩]⟩]

/-- The registers of block GLB. -/
def regsGLB : List RegSpec := [
  -- GLB_GATE_CFG
  ⟨0x100, 1, 0x0, 1, 0x0, .const 0x00000010#32, .any, [⟨7, 0, .rw, .zeroTo 1⟩]⟩,
  -- GLB_GATE_STAT
  ⟨0x104, 1, 0x0, 1, 0x0, .const 0x00000000#32, .any, [⟨31, 16, .ro, .plain⟩, ⟨15, 0, .ro, .plain⟩]⟩,
  -- GLB_GATE_LAST
  ⟨0x108, 1, 0x0, 1, 0x0, .const 0x00000000#32, .any, [⟨31, 30, .ro, .plain⟩, ⟨29, 28, .ro, .plain⟩, ⟨15, 0, .ro, .plain⟩]⟩,
  -- GLB_SAVE_STAT
  ⟨0x200, 1, 0x0, 1, 0x0, .const 0x00000000#32, .any, [⟨31, 31, .ro, .plain⟩, ⟨30, 30, .ro, .plain⟩, ⟨29, 29, .ro, .plain⟩, ⟨28, 28, .ro, .plain⟩, ⟨15, 0, .ro, .plain⟩]⟩,
  -- GLB_SAVE_GEN
  ⟨0x204, 1, 0x0, 1, 0x0, .const 0x00000000#32, .any, [⟨31, 0, .ro, .plain⟩]⟩,
  -- GLB_RESTORE_CFG
  ⟨0x210, 1, 0x0, 1, 0x0, .const 0x80000000#32, .any, [⟨31, 31, .rw, .plain⟩, ⟨30, 30, .rw, .plain⟩]⟩,
  -- GLB_RESTORE_STAT
  ⟨0x214, 1, 0x0, 1, 0x0, .const 0x00000000#32, .any, [⟨31, 31, .ro, .plain⟩, ⟨30, 30, .ro, .plain⟩, ⟨27, 0, .ro, .plain⟩]⟩,
  -- GLB_RESTORE_DIRTY
  ⟨0x218, 1, 0x0, 1, 0x0, .const 0x00000000#32, .any, [⟨27, 0, .ro, .plain⟩]⟩,
  -- GLB_RESTORE_POISON
  ⟨0x21C, 1, 0x0, 1, 0x0, .const 0x00000000#32, .any, [⟨31, 0, .ro, .plain⟩]⟩,
  -- GLB_MODE
  ⟨0x0, 1, 0x0, 1, 0x0, .const 0x00000000#32, .any, [⟨31, 24, .ro, .plain⟩, ⟨19, 19, .ro, .plain⟩, ⟨18, 18, .ro, .plain⟩, ⟨17, 17, .ro, .plain⟩, ⟨16, 16, .ro, .plain⟩, ⟨15, 15, .ro, .plain⟩, ⟨10, 10, .ro, .plain⟩, ⟨9, 7, .ro, .plain⟩, ⟨2, 0, .ro, .plain⟩]⟩,
  -- GLB_ID
  ⟨0x10, 1, 0x0, 1, 0x0, .ident, .any, [⟨31, 16, .ro, .plain⟩, ⟨15, 8, .ro, .plain⟩, ⟨7, 4, .ro, .plain⟩, ⟨3, 0, .ro, .plain⟩]⟩,
  -- GLB_UNITS
  ⟨0x14, 1, 0x0, 1, 0x0, .units, .any, [⟨31, 24, .ro, .plain⟩, ⟨23, 16, .ro, .plain⟩, ⟨15, 8, .ro, .plain⟩, ⟨7, 4, .ro, .plain⟩, ⟨3, 0, .ro, .plain⟩]⟩,
  -- GLB_ACC_ERR
  ⟨0x20, 1, 0x0, 1, 0x0, .const 0x00000000#32, .any, [⟨31, 31, .w1c, .plain⟩, ⟨30, 29, .ro, .plain⟩, ⟨27, 0, .ro, .plain⟩]⟩,
  -- GLB_SCRATCH
  ⟨0x30, 1, 0x0, 1, 0x0, .const 0x00000000#32, .any, [⟨31, 0, .rw, .plain⟩]⟩]

/-- The registers of block SPOOL. -/
def regsSPOOL : List RegSpec := [
  -- SPOOL_FREE
  ⟨0xB80000, 1, 0x0, 1, 0x0, .const 0x00040000#32, .any, [⟨18, 0, .ro, .plain⟩]⟩,
  -- SPOOL_BADFREE_CELL
  ⟨0xB80010, 1, 0x0, 1, 0x0, .const 0x00000000#32, .any, [⟨31, 31, .w1c, .plain⟩, ⟨30, 30, .ro, .plain⟩, ⟨17, 0, .ro, .plain⟩]⟩,
  -- SPOOL_BADFREE_OWNER
  ⟨0xB80014, 1, 0x0, 1, 0x0, .const 0x00000000#32, .any, [⟨31, 24, .ro, .plain⟩, ⟨23, 16, .ro, .plain⟩, ⟨15, 0, .ro, .plain⟩]⟩]

/-- The registers of block RGN. -/
def regsRGN : List RegSpec := [
  -- RGN_RANGE_TOP
  ⟨0x200000, 1, 0x0, 1, 0x0, .const 0x00000000#32, .any, [⟨31, 0, .ro, .plain⟩]⟩,
  -- RGN_RDT_CFG
  ⟨0x200004, 1, 0x0, 1, 0x0, .const 0x00100000#32, .any, [⟨20, 0, .rwsBringup, .outsideTo 1 0x100000 0x100000⟩]⟩,
  -- RGN_RNR_CFG
  ⟨0x200010, 1, 0x0, 1, 0x0, .const 0x00080414#32, .any, [⟨20, 16, .rw, .plain⟩, ⟨12, 8, .rw, .plain⟩, ⟨7, 0, .rw, .zeroTo 1⟩]⟩,
  -- RGN_PARK_STAT
  ⟨0x200014, 1, 0x0, 1, 0x0, .const 0x00000000#32, .any, [⟨29, 16, .w1c, .whole⟩, ⟨13, 0, .ro, .plain⟩]⟩,
  -- RGN_DRAIN_ABANDON
  ⟨0x200020, 1, 0x0, 1, 0x0, .const 0x00000000#32, .any, [⟨31, 0, .ro, .plain⟩]⟩,
  -- RGN_REFUSE_CNT
  ⟨0x200024, 1, 0x0, 1, 0x0, .const 0x00000000#32, .any, [⟨31, 16, .ro, .plain⟩, ⟨15, 0, .ro, .plain⟩]⟩,
  -- RGN_FAULT_LOG
  ⟨0x200030, 1, 0x0, 1, 0x0, .const 0x00000000#32, .any, [⟨31, 31, .w1c, .plain⟩, ⟨30, 28, .ro, .plain⟩, ⟨19, 0, .ro, .plain⟩]⟩,
  -- RGN_FAULT_ADDR_LO
  ⟨0x200034, 1, 0x0, 1, 0x0, .const 0x00000000#32, .any, [⟨31, 0, .ro, .plain⟩]⟩,
  -- RGN_FAULT_ADDR_HI
  ⟨0x200038, 1, 0x0, 1, 0x0, .const 0x00000000#32, .any, [⟨15, 0, .ro, .plain⟩]⟩,
  -- RGN_BROKEN_CNT
  ⟨0x20003C, 1, 0x0, 1, 0x0, .const 0x00000000#32, .any, [⟨20, 0, .ro, .plain⟩]⟩]

/-- The registers of block VE. -/
def regsVE : List RegSpec := [
  -- VE_STATUS
  ⟨0x400000, 64, 0x10000, 1, 0x0, .const 0x00000000#32, .any, [⟨31, 30, .ro, .plain⟩, ⟨23, 20, .ro, .plain⟩, ⟨12, 0, .ro, .plain⟩]⟩,
  -- VE_MSG_CNT
  ⟨0x400008, 64, 0x10000, 1, 0x0, .const 0x00000000#32, .any, [⟨31, 0, .ro, .plain⟩]⟩,
  -- VE_NAK_CNT0
  ⟨0x400010, 64, 0x10000, 1, 0x0, .const 0x00000000#32, .any, [⟨31, 16, .ro, .plain⟩, ⟨15, 0, .ro, .plain⟩]⟩,
  -- VE_NAK_CNT1
  ⟨0x400014, 64, 0x10000, 1, 0x0, .const 0x00000000#32, .any, [⟨31, 16, .ro, .plain⟩, ⟨15, 0, .ro, .plain⟩]⟩,
  -- VE_LAST_REPLACE
  ⟨0x400020, 64, 0x10000, 1, 0x0, .const 0x00000000#32, .any, [⟨31, 16, .ro, .plain⟩, ⟨15, 0, .ro, .plain⟩]⟩]

/-- The registers of block PORT. PORT_CC_CFG.md_pct outside 1 to 100 is stored as written and acts as it stands: R91 gives the range and no
write rule (DESIGN CHOICE, log entry 111). -/
def regsPORT : List RegSpec := [
  -- PORT_TP_CFG
  ⟨0x800100, 8, 0x10000, 1, 0x0, .const 0x00021410#32, .any, [⟨31, 24, .rw, .plain⟩, ⟨19, 18, .rwsBringup, .aboveTo 2⟩, ⟨17, 16, .rw, .plain⟩, ⟨15, 8, .rw, .zeroTo 1⟩, ⟨7, 0, .rw, .zeroTo 1⟩]⟩,
  -- PORT_CC_CFG
  ⟨0x800110, 8, 0x10000, 1, 0x0, .const 0x0A320A0A#32, .any, [⟨31, 24, .rw, .plain⟩, ⟨23, 16, .rw, .plain⟩, ⟨15, 8, .rw, .plain⟩, ⟨7, 0, .rw, .zeroTo 1⟩]⟩,
  -- PORT_CC_ECN
  ⟨0x800114, 8, 0x10000, 1, 0x0, .const 0x0200320A#32, .any, [⟨31, 16, .rw, .plain⟩, ⟨15, 8, .rw, .plain⟩, ⟨7, 0, .rw, .plain⟩]⟩,
  -- PORT_MSEC_CFG
  ⟨0x800200, 8, 0x10000, 1, 0x0, .const 0x00000000#32, .any, [⟨31, 30, .rwl, .aboveTo 2⟩, ⟨5, 0, .rw, .aboveTo 30⟩]⟩,
  -- PORT_MSEC_BYPASS
  ⟨0x800204, 8, 0x10000, 1, 0x0, .const 0x000088CC#32, .any, [⟨31, 16, .rwl, .plain⟩, ⟨15, 0, .rwl, .plain⟩]⟩,
  -- PORT_RX_DROP
  ⟨0x800300, 8, 0x10000, 1, 0x0, .const 0x00000000#32, .any, [⟨31, 24, .w1c, .whole⟩, ⟨23, 16, .w1c, .whole⟩, ⟨15, 8, .w1c, .whole⟩, ⟨7, 0, .w1c, .whole⟩]⟩]

/-- The registers of block PUB. -/
def regsPUB : List RegSpec := [
  -- PUB_HINT_CFG
  ⟨0x900000, 1, 0x0, 1, 0x0, .const 0x00000064#32, .any, [⟨15, 0, .rw, .plain⟩]⟩,
  -- PUB_STAT_CHAN
  ⟨0x900004, 1, 0x0, 1, 0x0, .const 0x00000000#32, .any, [⟨12, 0, .ro, .plain⟩]⟩,
  -- PUB_STAT_SUB
  ⟨0x900008, 1, 0x0, 1, 0x0, .const 0x00000000#32, .any, [⟨22, 0, .ro, .plain⟩]⟩,
  -- PUB_DETACH_LOG
  ⟨0x900010, 1, 0x0, 1, 0x0, .const 0x00000000#32, .any, [⟨31, 31, .w1c, .plain⟩, ⟨21, 10, .ro, .plain⟩, ⟨9, 0, .ro, .plain⟩]⟩,
  -- PUB_DETACH_SEQ_LO
  ⟨0x900014, 1, 0x0, 1, 0x0, .const 0x00000000#32, .any, [⟨31, 0, .ro, .plain⟩]⟩,
  -- PUB_DETACH_SEQ_HI
  ⟨0x900018, 1, 0x0, 1, 0x0, .const 0x00000000#32, .any, [⟨31, 0, .ro, .plain⟩]⟩]

/-- The registers of block TLR. -/
def regsTLR : List RegSpec := [
  -- TLR_STATUS
  ⟨0x100000, 1, 0x0, 1, 0x0, .const 0x00000000#32, .any, [⟨31, 31, .ro, .plain⟩, ⟨30, 30, .ro, .plain⟩, ⟨29, 29, .ro, .plain⟩, ⟨4, 0, .ro, .plain⟩]⟩,
  -- TLR_HOMECAP
  ⟨0x100004, 1, 0x0, 1, 0x0, .const 0x00000000#32, .any, [⟨27, 0, .ro, .plain⟩]⟩,
  -- TLR_HOMED
  ⟨0x100008, 1, 0x0, 1, 0x0, .const 0x00000000#32, .any, [⟨27, 0, .ro, .plain⟩]⟩,
  -- TLR_CAP_CFG
  ⟨0x100010, 1, 0x0, 1, 0x0, .const 0x461001AE#32, .any, [⟨31, 24, .rwl, .within 10 100⟩, ⟨23, 16, .rwl, .zeroTo 1⟩, ⟨15, 0, .rwl, .within 1 65535⟩]⟩,
  -- TLR_CAP_IN
  ⟨0x100014, 1, 0x0, 1, 0x0, .const 0x00000000#32, .any, [⟨31, 16, .ro, .plain⟩, ⟨15, 0, .ro, .plain⟩]⟩,
  -- TLR_CAP_STAT
  ⟨0x100018, 1, 0x0, 1, 0x0, .const 0x00000000#32, .any, [⟨31, 16, .ro, .plain⟩, ⟨3, 0, .ro, .plain⟩]⟩,
  -- TLR_DRAM_TILES
  ⟨0x10001C, 1, 0x0, 1, 0x0, .const 0x00000000#32, .any, [⟨27, 0, .ro, .plain⟩]⟩,
  -- TLR_WM_CFG
  ⟨0x100020, 1, 0x0, 1, 0x0, .const 0x00625F5A#32, .wm, [⟨23, 16, .rw, .plain⟩, ⟨15, 8, .rw, .plain⟩, ⟨7, 0, .rw, .plain⟩]⟩,
  -- TLR_MIG_CFG
  ⟨0x100030, 1, 0x0, 1, 0x0, .const 0x00000014#32, .any, [⟨7, 0, .rw, .zeroTo 1⟩]⟩,
  -- TLR_HEAT_CFG
  ⟨0x100034, 1, 0x0, 1, 0x0, .const 0x03E8030A#32, .any, [⟨31, 16, .rw, .zeroTo 1⟩, ⟨15, 8, .rw, .plain⟩, ⟨7, 0, .rw, .zeroTo 1⟩]⟩,
  -- TLR_CHURN_STAT
  ⟨0x100038, 1, 0x0, 1, 0x0, .const 0x00000000#32, .any, [⟨20, 0, .ro, .plain⟩]⟩,
  -- TLR_DRAM_CFG
  ⟨0x100040, 1, 0x0, 1, 0x0, .const 0x00000019#32, .any, [⟨7, 0, .rw, .plain⟩]⟩,
  -- TLR_QPB_CFG
  ⟨0x100050, 1, 0x0, 1, 0x0, .const 0x00140340#32, .any, [⟨23, 16, .rw, .plain⟩, ⟨15, 8, .rw, .zeroTo 1⟩, ⟨7, 0, .rw, .plain⟩]⟩,
  -- TLR_MIG_DEM
  ⟨0x100060, 1, 0x0, 1, 0x0, .const 0x00000000#32, .any, [⟨31, 0, .ro, .plain⟩]⟩,
  -- TLR_MIG_PRO
  ⟨0x100064, 1, 0x0, 1, 0x0, .const 0x00000000#32, .any, [⟨31, 0, .ro, .plain⟩]⟩]

/-- The registers of block FEN. -/
def regsFEN : List RegSpec := [
  -- FEN_PF_CFG
  ⟨0x10200, 1, 0x0, 1, 0x0, .const 0xE0352014#32, .any, [⟨31, 31, .rwl, .plain⟩, ⟨30, 30, .rwl, .plain⟩, ⟨29, 29, .rwl, .plain⟩, ⟨23, 12, .rwl, .within 500 1000⟩, ⟨11, 0, .rwl, .clamp 1 2000⟩]⟩,
  -- FEN_PF_STAT
  ⟨0x10204, 1, 0x0, 1, 0x0, .const 0x00000000#32, .any, [⟨31, 31, .w1c, .plain⟩, ⟨30, 28, .ro, .plain⟩, ⟨15, 0, .ro, .plain⟩]⟩,
  -- FEN_STATUS
  ⟨0x10000, 1, 0x0, 1, 0x0, .const 0x00000000#32, .any, [⟨31, 30, .ro, .plain⟩, ⟨29, 29, .ro, .plain⟩, ⟨28, 28, .ro, .plain⟩]⟩,
  -- FEN_PWR_SEQ
  ⟨0x10010, 1, 0x0, 1, 0x0, .const 0x0000030A#32, .any, [⟨10, 8, .rw, .plain⟩, ⟨7, 0, .rw, .zeroTo 1⟩]⟩,
  -- FEN_SEQ_STAT
  ⟨0x10014, 1, 0x0, 1, 0x0, .const 0x00000000#32, .any, [⟨31, 31, .ro, .plain⟩, ⟨30, 28, .ro, .plain⟩, ⟨23, 16, .ro, .plain⟩, ⟨15, 8, .ro, .plain⟩, ⟨4, 0, .ro, .plain⟩]⟩,
  -- FEN_VCORE_CFG
  ⟨0x10100, 1, 0x0, 1, 0x0, .const 0xC82F8000#32, .any, [⟨31, 22, .rwl, .within 720 820⟩, ⟨21, 12, .rwl, .within 720 820⟩]⟩,
  -- FEN_VCORE_STAT
  ⟨0x10104, 1, 0x0, 1, 0x0, .const 0x00000000#32, .any, [⟨31, 22, .ro, .plain⟩, ⟨21, 12, .ro, .plain⟩, ⟨7, 0, .ro, .plain⟩]⟩,
  -- FEN_RSTn_CFG
  ⟨0x10300, 1, 0x0, 8, 0x4, .const 0x00000A00#32, .any, [⟨31, 31, .rw, .plain⟩, ⟨15, 8, .rw, .zeroTo 1⟩]⟩,
  -- FEN_RAILn_CNT
  ⟨0x10400, 1, 0x0, 24, 0x4, .const 0x00000000#32, .any, [⟨31, 16, .ro, .plain⟩, ⟨15, 0, .ro, .plain⟩]⟩,
  -- FEN_HOURS
  ⟨0x10500, 1, 0x0, 1, 0x0, .const 0x00000000#32, .any, [⟨31, 0, .ro, .plain⟩]⟩,
  -- FEN_CYCLES
  ⟨0x10504, 1, 0x0, 1, 0x0, .const 0x00000000#32, .any, [⟨31, 0, .ro, .plain⟩]⟩,
  -- FEN_BAT_CFG
  ⟨0x10600, 1, 0x0, 1, 0x0, .const 0x0A023232#32, .any, [⟨31, 24, .rwl, .zeroTo 1⟩, ⟨23, 16, .rwl, .within 0 50⟩, ⟨15, 8, .rwl, .zeroTo 1⟩, ⟨7, 0, .rwl, .zeroTo 1⟩]⟩,
  -- FEN_BAT_ERATED
  ⟨0x10604, 1, 0x0, 1, 0x0, .const 0x00000000#32, .any, [⟨15, 0, .rwl, .plain⟩]⟩,
  -- FEN_BAT_STAT
  ⟨0x10608, 1, 0x0, 1, 0x0, .const 0x00000000#32, .any, [⟨31, 31, .ro, .plain⟩, ⟨30, 30, .ro, .plain⟩, ⟨29, 29, .ro, .plain⟩, ⟨28, 28, .ro, .plain⟩, ⟨27, 27, .ro, .plain⟩, ⟨23, 16, .ro, .plain⟩, ⟨15, 8, .ro, .plain⟩, ⟨7, 0, .ro, .plain⟩]⟩,
  -- FEN_BAT_E
  ⟨0x1060C, 1, 0x0, 1, 0x0, .const 0x00000000#32, .any, [⟨31, 16, .ro, .plain⟩, ⟨15, 0, .ro, .plain⟩]⟩,
  -- FEN_DOZE_CFG
  ⟨0x10700, 1, 0x0, 1, 0x0, .const 0xFFC00A5F#32, .any, [⟨31, 24, .rw, .plain⟩, ⟨23, 23, .rw, .plain⟩, ⟨22, 22, .rw, .plain⟩, ⟨15, 8, .rw, .zeroTo 1⟩, ⟨7, 0, .rw, .aboveTo 99⟩]⟩,
  -- FEN_DOZE_STAT
  ⟨0x10704, 1, 0x0, 1, 0x0, .const 0x00000000#32, .any, [⟨31, 28, .ro, .plain⟩, ⟨23, 16, .w1c, .plain⟩, ⟨4, 4, .w1c, .plain⟩, ⟨3, 3, .w1c, .plain⟩, ⟨2, 2, .w1c, .plain⟩, ⟨1, 1, .w1c, .plain⟩]⟩,
  -- FEN_MONn_CFG
  ⟨0x10800, 1, 0x0, 16, 0x4, .const 0xFFF00000#32, .any, [⟨31, 20, .rw, .plain⟩, ⟨19, 8, .rw, .plain⟩, ⟨7, 7, .rw, .plain⟩, ⟨6, 6, .rw, .plain⟩, ⟨5, 5, .ro, .plain⟩]⟩,
  -- FEN_MONn_VAL
  ⟨0x10880, 1, 0x0, 16, 0x4, .const 0x00000000#32, .any, [⟨11, 0, .ro, .plain⟩]⟩]

/-- The registers of block SEAM. -/
def regsSEAM : List RegSpec := [
  -- SEAM_STATUS
  ⟨0xA00000, 1, 0x0, 1, 0x0, .const 0x00000000#32, .any, [⟨31, 30, .ro, .plain⟩, ⟨29, 29, .ro, .plain⟩, ⟨28, 28, .ro, .plain⟩, ⟨27, 27, .ro, .plain⟩, ⟨26, 26, .ro, .plain⟩, ⟨25, 25, .ro, .plain⟩, ⟨24, 24, .ro, .plain⟩, ⟨23, 23, .ro, .plain⟩]⟩,
  -- SEAM_CLAIM
  ⟨0xA00004, 1, 0x0, 1, 0x0, .const 0x00000000#32, .any, [⟨31, 0, .ro, .plain⟩]⟩,
  -- SEAM_TWIN_CLAIM
  ⟨0xA00008, 1, 0x0, 1, 0x0, .const 0x00000000#32, .any, [⟨31, 0, .ro, .plain⟩]⟩,
  -- SEAM_PAIR_CFG
  ⟨0xA00010, 1, 0x0, 1, 0x0, .const 0x8000001E#32, .any, [⟨31, 31, .rwsBringup, .plain⟩, ⟨15, 0, .rw, .plain⟩]⟩,
  -- SEAM_PAIR_ID_LO
  ⟨0xA00014, 1, 0x0, 1, 0x0, .const 0x00000000#32, .any, [⟨31, 0, .rwl, .plain⟩]⟩,
  -- SEAM_PAIR_ID_HI
  ⟨0xA00018, 1, 0x0, 1, 0x0, .const 0x00000000#32, .any, [⟨31, 0, .rwl, .plain⟩]⟩,
  -- SEAM_BEAT_CFG
  ⟨0xA00020, 1, 0x0, 1, 0x0, .const 0x140A3206#32, .any, [⟨31, 24, .rwl, .belowTo 5⟩, ⟨23, 16, .rwl, .within 2 63⟩, ⟨15, 8, .rwl, .belowTo 20⟩, ⟨7, 0, .rwl, .within 2 63⟩]⟩,
  -- SEAM_WIT_CFG
  ⟨0xA00030, 1, 0x0, 1, 0x0, .const 0xE000000A#32, .any, [⟨31, 31, .rw, .plain⟩, ⟨30, 30, .rwl, .plain⟩, ⟨29, 29, .rwl, .plain⟩, ⟨7, 0, .rwl, .zeroTo 1⟩]⟩,
  -- SEAM_WIT_STAT
  ⟨0xA00034, 1, 0x0, 1, 0x0, .const 0x00000000#32, .any, [⟨31, 31, .ro, .plain⟩, ⟨30, 30, .ro, .plain⟩, ⟨29, 29, .ro, .plain⟩, ⟨28, 28, .ro, .plain⟩]⟩,
  -- SEAM_RTT0
  ⟨0xA00040, 1, 0x0, 1, 0x0, .const 0xFFFF0000#32, .any, [⟨31, 16, .ro, .plain⟩, ⟨15, 0, .ro, .plain⟩]⟩,
  -- SEAM_RTT1
  ⟨0xA00044, 1, 0x0, 1, 0x0, .const 0xFFFF0000#32, .any, [⟨31, 16, .ro, .plain⟩, ⟨15, 0, .ro, .plain⟩]⟩,
  -- SEAM_TKO_CFG
  ⟨0xA00050, 1, 0x0, 1, 0x0, .const 0x000030FF#32, .any, [⟨15, 12, .rw, .zeroTo 1⟩, ⟨7, 0, .rw, .plain⟩]⟩,
  -- SEAM_RSY_CFG
  ⟨0xA00060, 1, 0x0, 1, 0x0, .const 0x00004064#32, .any, [⟨15, 8, .rw, .clamp 1 64⟩, ⟨7, 0, .rw, .zeroTo 1⟩]⟩,
  -- SEAM_RSY_STAT
  ⟨0xA00064, 1, 0x0, 1, 0x0, .const 0x00000000#32, .any, [⟨31, 31, .ro, .plain⟩, ⟨30, 30, .ro, .plain⟩, ⟨29, 29, .ro, .plain⟩, ⟨28, 0, .ro, .plain⟩]⟩,
  -- SEAM_RSY_LEFT
  ⟨0xA00068, 1, 0x0, 1, 0x0, .const 0x00000000#32, .any, [⟨31, 0, .ro, .plain⟩]⟩,
  -- SEAM_STALE_CNT
  ⟨0xA00070, 1, 0x0, 1, 0x0, .const 0x00000000#32, .any, [⟨31, 16, .ro, .plain⟩, ⟨15, 0, .ro, .plain⟩]⟩]

/-- The registers of block DMC. -/
def regsDMC : List RegSpec := [
  -- DMC_STATUS
  ⟨0xC00000, 16, 0x10000, 1, 0x0, .const 0x000000FF#32, .any, [⟨31, 30, .ro, .plain⟩, ⟨29, 27, .ro, .plain⟩, ⟨26, 26, .ro, .plain⟩, ⟨25, 25, .ro, .plain⟩, ⟨7, 4, .ro, .plain⟩, ⟨3, 0, .ro, .plain⟩]⟩,
  -- DMC_PAGE_CFG
  ⟨0xC00010, 16, 0x10000, 1, 0x0, .const 0x000000A0#32, .any, [⟨9, 0, .rw, .plain⟩]⟩,
  -- DMC_RH_CFG
  ⟨0xC00014, 16, 0x10000, 1, 0x0, .const 0x89000200#32, .any, [⟨31, 31, .rwl, .plain⟩, ⟨27, 24, .rwl, .within 6 12⟩, ⟨15, 0, .rwl, .zeroTo 1⟩]⟩,
  -- DMC_RH_STAT
  ⟨0xC00018, 16, 0x10000, 1, 0x0, .const 0x00000000#32, .any, [⟨31, 16, .ro, .plain⟩, ⟨15, 0, .ro, .plain⟩]⟩,
  -- DMC_TRN_CTRL
  ⟨0xC00100, 16, 0x10000, 1, 0x0, .const 0x00001000#32, .any, [⟨31, 31, .wo, .plain⟩, ⟨30, 30, .ro, .plain⟩, ⟨29, 27, .rw, .plain⟩, ⟨26, 24, .rw, .plain⟩, ⟨23, 20, .rw, .plain⟩, ⟨19, 19, .rw, .plain⟩, ⟨15, 8, .rw, .zeroTo 1⟩]⟩,
  -- DMC_TRN_SWEEP
  ⟨0xC00104, 16, 0x10000, 1, 0x0, .const 0x000FFC01#32, .any, [⟨29, 20, .rw, .plain⟩, ⟨19, 10, .rw, .plain⟩, ⟨9, 0, .rw, .zeroTo 1⟩]⟩,
  -- DMC_TRN_PAT
  ⟨0xC00108, 16, 0x10000, 1, 0x0, .const 0x20000001#32, .any, [⟨31, 28, .rw, .outsideTo 0 5 2⟩, ⟨27, 0, .rw, .plain⟩]⟩,
  -- DMC_TRN_RESn
  ⟨0xC00140, 16, 0x10000, 40, 0x4, .const 0xFFC00000#32, .any, [⟨31, 22, .ro, .plain⟩, ⟨21, 12, .ro, .plain⟩, ⟨11, 0, .ro, .plain⟩]⟩,
  -- DMC_ECC_CFG
  ⟨0xC00200, 16, 0x10000, 1, 0x0, .const 0x10000000#32, .any, [⟨31, 24, .rwl, .zeroTo 1⟩]⟩,
  -- DMC_ECC_CNT
  ⟨0xC00204, 16, 0x10000, 1, 0x0, .const 0x00000000#32, .any, [⟨31, 16, .ro, .plain⟩, ⟨15, 0, .ro, .plain⟩]⟩,
  -- DMC_ECC_LOG
  ⟨0xC00208, 16, 0x10000, 1, 0x0, .const 0x00000000#32, .any, [⟨31, 31, .w1c, .plain⟩, ⟨30, 30, .ro, .plain⟩, ⟨29, 29, .ro, .plain⟩, ⟨28, 25, .ro, .plain⟩, ⟨24, 20, .ro, .plain⟩, ⟨19, 16, .ro, .plain⟩]⟩,
  -- DMC_ECC_LOC
  ⟨0xC0020C, 16, 0x10000, 1, 0x0, .const 0x00000000#32, .any, [⟨27, 18, .ro, .plain⟩, ⟨17, 0, .ro, .plain⟩]⟩,
  -- DMC_SCRUB_CFG
  ⟨0xC00300, 16, 0x10000, 1, 0x0, .const 0x80000018#32, .any, [⟨31, 31, .rw, .plain⟩, ⟨7, 0, .rw, .zeroTo 1⟩]⟩,
  -- DMC_SCRUB_STAT
  ⟨0xC00304, 16, 0x10000, 1, 0x0, .const 0x00000000#32, .any, [⟨31, 0, .ro, .plain⟩]⟩]

/-- The registers of block NCACHE. -/
def regsNCACHE : List RegSpec := [
  -- NCACHE_STATUS
  ⟨0xB00000, 1, 0x0, 1, 0x0, .const 0x00000000#32, .any, [⟨31, 31, .ro, .plain⟩, ⟨30, 30, .ro, .plain⟩, ⟨29, 29, .w1c, .plain⟩, ⟨28, 28, .w1c, .plain⟩, ⟨20, 0, .ro, .plain⟩]⟩,
  -- NCACHE_MAINT_CTRL
  ⟨0xB00010, 1, 0x0, 1, 0x0, .const 0x00000000#32, .any, [⟨31, 31, .wo, .plain⟩, ⟨30, 29, .rw, .plain⟩, ⟨28, 27, .rw, .aboveTo 2⟩, ⟨19, 16, .rw, .plain⟩, ⟨15, 0, .rw, .plain⟩]⟩,
  -- NCACHE_MAINT_ADDR_LO
  ⟨0xB00014, 1, 0x0, 1, 0x0, .const 0x00000000#32, .any, [⟨31, 8, .rw, .plain⟩]⟩,
  -- NCACHE_MAINT_ADDR_HI
  ⟨0xB00018, 1, 0x0, 1, 0x0, .const 0x00000000#32, .any, [⟨15, 0, .rw, .plain⟩]⟩,
  -- NCACHE_MAINT_LEN
  ⟨0xB0001C, 1, 0x0, 1, 0x0, .const 0x00000000#32, .any, [⟨31, 0, .rw, .plain⟩]⟩,
  -- NCACHE_PF_CFG
  ⟨0xB00030, 1, 0x0, 1, 0x0, .const 0xC0000004#32, .any, [⟨31, 31, .rw, .plain⟩, ⟨30, 30, .rw, .plain⟩, ⟨3, 0, .rw, .plain⟩]⟩,
  -- NCACHE_FRESH_STAT
  ⟨0xB00040, 1, 0x0, 1, 0x0, .const 0x00000000#32, .any, [⟨19, 0, .ro, .plain⟩]⟩,
  -- NCACHE_FILL_CFG
  ⟨0xB00044, 1, 0x0, 1, 0x0, .const 0x00000020#32, .any, [⟨7, 0, .rw, .zeroTo 1⟩]⟩]

/-- The registers of block QLT. -/
def regsQLT : List RegSpec := [
  -- QLT_STATUS
  ⟨0xE00000, 1, 0x0, 1, 0x0, .const 0x00000000#32, .any, [⟨31, 31, .ro, .plain⟩, ⟨30, 30, .ro, .plain⟩, ⟨29, 29, .ro, .plain⟩, ⟨28, 28, .ro, .plain⟩, ⟨27, 27, .ro, .plain⟩]⟩,
  -- QLT_CAP
  ⟨0xE00004, 1, 0x0, 1, 0x0, .const 0x00000000#32, .any, [⟨31, 0, .ro, .plain⟩]⟩,
  -- QLT_NAND_TILES
  ⟨0xE00008, 1, 0x0, 1, 0x0, .const 0x00000000#32, .any, [⟨31, 0, .ro, .plain⟩]⟩,
  -- QLT_SPARE
  ⟨0xE00010, 1, 0x0, 1, 0x0, .const 0x00000000#32, .any, [⟨23, 0, .ro, .plain⟩]⟩,
  -- QLT_SPARE_INIT
  ⟨0xE00014, 1, 0x0, 1, 0x0, .const 0x00000000#32, .any, [⟨23, 0, .ro, .plain⟩]⟩,
  -- QLT_SPARE_CFG
  ⟨0xE00018, 1, 0x0, 1, 0x0, .const 0x00001905#32, .any, [⟨15, 8, .rwl, .plain⟩, ⟨7, 0, .rwl, .within 1 50⟩]⟩,
  -- QLT_CKPT_CFG
  ⟨0xE00020, 1, 0x0, 1, 0x0, .const 0x00001E01#32, .any, [⟨15, 8, .rw, .zeroTo 1⟩, ⟨7, 0, .rw, .zeroTo 1⟩]⟩,
  -- QLT_CKPT_STAT
  ⟨0xE00024, 1, 0x0, 1, 0x0, .const 0x00000000#32, .any, [⟨31, 16, .ro, .plain⟩, ⟨15, 0, .ro, .plain⟩]⟩,
  -- QLT_GC_CFG
  ⟨0xE00030, 1, 0x0, 1, 0x0, .const 0x00001008#32, .gc, [⟨15, 8, .rw, .plain⟩, ⟨7, 0, .rw, .plain⟩]⟩,
  -- QLT_WEAR_CFG
  ⟨0xE00034, 1, 0x0, 1, 0x0, .const 0x00000100#32, .any, [⟨15, 0, .rw, .zeroTo 1⟩]⟩,
  -- QLT_RD_CFG
  ⟨0xE00038, 1, 0x0, 1, 0x0, .const 0x00320007#32, .any, [⟨31, 16, .rw, .zeroTo 1⟩, ⟨7, 0, .rw, .zeroTo 1⟩]⟩,
  -- QLT_DEM_RATE
  ⟨0xE0003C, 1, 0x0, 1, 0x0, .const 0x00000000#32, .any, [⟨7, 0, .ro, .plain⟩]⟩,
  -- QLT_UE_CNT
  ⟨0xE00040, 1, 0x0, 1, 0x0, .const 0x00000000#32, .any, [⟨31, 16, .ro, .plain⟩, ⟨15, 0, .ro, .plain⟩]⟩]

/-- The registers of block NCH. -/
def regsNCH : List RegSpec := [
  -- NCH_STATUS
  ⟨0xE80000, 32, 0x1000, 1, 0x0, .const 0x00000000#32, .any, [⟨31, 30, .ro, .plain⟩, ⟨29, 16, .ro, .plain⟩, ⟨15, 0, .ro, .plain⟩]⟩,
  -- NCH_ERR
  ⟨0xE80004, 32, 0x1000, 1, 0x0, .const 0x00000000#32, .any, [⟨31, 16, .ro, .plain⟩, ⟨15, 0, .ro, .plain⟩]⟩]

/-- The registers of block CRC. -/
def regsCRC : List RegSpec := [
  -- CRC_SCAN_CTRL
  ⟨0xF80000, 1, 0x0, 1, 0x0, .const 0x00000000#32, .any, [⟨31, 31, .wo, .plain⟩, ⟨30, 30, .ro, .plain⟩, ⟨2, 2, .rw, .plain⟩, ⟨1, 1, .rw, .plain⟩, ⟨0, 0, .rw, .plain⟩]⟩,
  -- CRC_SCAN_ADDR_LO
  ⟨0xF80004, 1, 0x0, 1, 0x0, .const 0x00000000#32, .any, [⟨31, 0, .rw, .plain⟩]⟩,
  -- CRC_SCAN_ADDR_HI
  ⟨0xF80008, 1, 0x0, 1, 0x0, .const 0x00000000#32, .any, [⟨15, 0, .rw, .plain⟩]⟩,
  -- CRC_SCAN_LEN_LO
  ⟨0xF8000C, 1, 0x0, 1, 0x0, .const 0x00000000#32, .any, [⟨31, 0, .rw, .plain⟩]⟩,
  -- CRC_SCAN_LEN_HI
  ⟨0xF80010, 1, 0x0, 1, 0x0, .const 0x00000000#32, .any, [⟨12, 0, .rw, .plain⟩]⟩,
  -- CRC_SCAN_SEQ_LO
  ⟨0xF80014, 1, 0x0, 1, 0x0, .const 0x00000000#32, .any, [⟨31, 0, .rw, .plain⟩]⟩,
  -- CRC_SCAN_SEQ_HI
  ⟨0xF80018, 1, 0x0, 1, 0x0, .const 0x00000000#32, .any, [⟨31, 0, .rw, .plain⟩]⟩,
  -- CRC_SCAN_EXP_LO
  ⟨0xF80020, 1, 0x0, 1, 0x0, .const 0x00000000#32, .any, [⟨31, 0, .rw, .plain⟩]⟩,
  -- CRC_SCAN_EXP_HI
  ⟨0xF80024, 1, 0x0, 1, 0x0, .const 0x00000000#32, .any, [⟨31, 0, .rw, .plain⟩]⟩,
  -- CRC_SCAN_RES_LO
  ⟨0xF80028, 1, 0x0, 1, 0x0, .const 0x00000000#32, .any, [⟨31, 0, .ro, .plain⟩]⟩,
  -- CRC_SCAN_RES_HI
  ⟨0xF8002C, 1, 0x0, 1, 0x0, .const 0x00000000#32, .any, [⟨31, 0, .ro, .plain⟩]⟩,
  -- CRC_SCAN_STAT
  ⟨0xF80030, 1, 0x0, 1, 0x0, .const 0x00000000#32, .any, [⟨31, 31, .w1c, .plain⟩, ⟨30, 28, .ro, .plain⟩, ⟨27, 0, .ro, .plain⟩]⟩,
  -- CRC_FAIL_CNT
  ⟨0xF80040, 1, 0x0, 1, 0x0, .const 0x00000000#32, .any, [⟨31, 24, .w1c, .whole⟩, ⟨23, 16, .w1c, .whole⟩, ⟨15, 8, .w1c, .whole⟩, ⟨7, 0, .w1c, .whole⟩]⟩]

/-- The registers of block CRYP. -/
def regsCRYP : List RegSpec := [
  -- CRYP_STATUS
  ⟨0xF00000, 1, 0x0, 1, 0x0, .const 0x00000040#32, .any, [⟨31, 31, .ro, .plain⟩, ⟨6, 0, .ro, .plain⟩]⟩,
  -- CRYP_LANE_FAIL_LO
  ⟨0xF00004, 1, 0x0, 1, 0x0, .const 0x00000000#32, .any, [⟨31, 0, .ro, .plain⟩]⟩,
  -- CRYP_LANE_FAIL_HI
  ⟨0xF00008, 1, 0x0, 1, 0x0, .const 0x00000000#32, .any, [⟨31, 0, .ro, .plain⟩]⟩,
  -- CRYP_DUAL_CFG
  ⟨0xF00010, 1, 0x0, 1, 0x0, .const 0x80000000#32, .any, [⟨31, 31, .rwl, .plain⟩]⟩,
  -- CRYP_DUAL_CNT
  ⟨0xF00014, 1, 0x0, 1, 0x0, .const 0x00000000#32, .any, [⟨31, 16, .ro, .plain⟩, ⟨15, 0, .ro, .plain⟩]⟩,
  -- CRYP_CTX_CFG
  ⟨0xF00020, 1, 0x0, 1, 0x0, .const 0x00000014#32, .any, [⟨31, 31, .rwsBlank, .plain⟩, ⟨4, 0, .rw, .within 10 30⟩]⟩,
  -- CRYP_WRAP_CNT
  ⟨0xF00024, 1, 0x0, 1, 0x0, .const 0x00000000#32, .any, [⟨31, 0, .ro, .plain⟩]⟩]

/-- The registers of block LKS. -/
def regsLKS : List RegSpec := [
  -- LKS_STATUS
  ⟨0xFC0000, 1, 0x0, 1, 0x0, .const 0x00000000#32, .any, [⟨31, 24, .ro, .plain⟩, ⟨2, 0, .ro, .plain⟩]⟩,
  -- LKS_CFG
  ⟨0xFC0010, 1, 0x0, 1, 0x0, .const 0x00000003#32, .any, [⟨1, 0, .rwl, .plain⟩]⟩,
  -- LKS_FAULT_LOG
  ⟨0xFC0020, 1, 0x0, 1, 0x0, .const 0x00000000#32, .any, [⟨31, 31, .w1c, .plain⟩, ⟨30, 29, .ro, .plain⟩, ⟨28, 26, .ro, .plain⟩]⟩,
  -- LKS_CNT
  ⟨0xFC0024, 1, 0x0, 1, 0x0, .const 0x00000000#32, .any, [⟨31, 16, .ro, .plain⟩, ⟨15, 0, .ro, .plain⟩]⟩]

/-- The registers of block TIME. -/
def regsTIME : List RegSpec := [
  -- TIME_CTRL
  ⟨0x60000, 1, 0x0, 1, 0x0, .const 0x3800000A#32, .any, [⟨31, 31, .rw, .plain⟩, ⟨30, 30, .rwsBringup, .plain⟩, ⟨29, 27, .rw, .plain⟩, ⟨20, 16, .rw, .plain⟩, ⟨7, 0, .rw, .clamp 1 10⟩]⟩,
  -- TIME_STATUS
  ⟨0x60004, 1, 0x0, 1, 0x0, .const 0x00000000#32, .any, [⟨31, 30, .ro, .plain⟩, ⟨29, 28, .ro, .plain⟩, ⟨27, 27, .ro, .plain⟩, ⟨26, 26, .ro, .plain⟩, ⟨25, 25, .ro, .plain⟩]⟩,
  -- TIME_OFFSET_LO
  ⟨0x60008, 1, 0x0, 1, 0x0, .const 0x00000000#32, .any, [⟨31, 0, .ro, .plain⟩]⟩,
  -- TIME_OFFSET_HI
  ⟨0x6000C, 1, 0x0, 1, 0x0, .const 0x00000000#32, .any, [⟨31, 0, .ro, .plain⟩]⟩,
  -- TIME_HOLD_CFG
  ⟨0x60010, 1, 0x0, 1, 0x0, .const 0x00A0A064#32, .any, [⟨31, 20, .rw, .plain⟩, ⟨19, 12, .rw, .plain⟩, ⟨11, 0, .rw, .zeroTo 1⟩]⟩,
  -- TIME_HOLD_AGE
  ⟨0x60014, 1, 0x0, 1, 0x0, .const 0x00000000#32, .any, [⟨31, 0, .ro, .plain⟩]⟩,
  -- TIME_UNCERT
  ⟨0x60018, 1, 0x0, 1, 0x0, .const 0x00000000#32, .any, [⟨31, 0, .ro, .plain⟩]⟩,
  -- TIME_PPS_CFGn
  ⟨0x60020, 1, 0x0, 2, 0x4, .const 0x86400000#32, .any, [⟨31, 31, .rw, .plain⟩, ⟨28, 20, .rw, .clamp 1 500⟩, ⟨19, 0, .rw, .signed 20 500000⟩]⟩,
  -- TIME_TOD_SEC_LO
  ⟨0x60040, 1, 0x0, 1, 0x0, .const 0x00000000#32, .any, [⟨31, 0, .ro, .plain⟩]⟩,
  -- TIME_TOD_SEC_HI
  ⟨0x60044, 1, 0x0, 1, 0x0, .const 0x00000000#32, .any, [⟨31, 0, .ro, .plain⟩]⟩,
  -- TIME_TOD_NS
  ⟨0x60048, 1, 0x0, 1, 0x0, .const 0x00000000#32, .any, [⟨31, 0, .ro, .plain⟩]⟩,
  -- TIME_COMMIT_LO
  ⟨0x60050, 1, 0x0, 1, 0x0, .const 0x00000000#32, .any, [⟨31, 0, .ro, .plain⟩]⟩,
  -- TIME_COMMIT_HI
  ⟨0x60054, 1, 0x0, 1, 0x0, .const 0x00000000#32, .any, [⟨31, 0, .ro, .plain⟩]⟩]

/-- The registers of block NORC. -/
def regsNORC : List RegSpec := [
  -- NORC_CFG
  ⟨0x70000, 1, 0x0, 1, 0x0, .const 0x000000C8#32, .any, [⟨7, 0, .rwl, .within 50 200⟩]⟩,
  -- NORC_STAT
  ⟨0x70004, 1, 0x0, 1, 0x0, .const 0x00000000#32, .any, [⟨31, 31, .ro, .plain⟩, ⟨30, 30, .ro, .plain⟩, ⟨29, 29, .w1c, .plain⟩, ⟨28, 26, .ro, .plain⟩, ⟨25, 24, .ro, .plain⟩, ⟨9, 0, .ro, .plain⟩]⟩,
  -- NORC_BOOT
  ⟨0x70010, 1, 0x0, 1, 0x0, .const 0x00000000#32, .any, [⟨31, 31, .ro, .plain⟩, ⟨30, 30, .ro, .plain⟩, ⟨29, 27, .ro, .plain⟩, ⟨26, 24, .ro, .plain⟩, ⟨15, 0, .ro, .plain⟩]⟩,
  -- NORC_BUILD_LO
  ⟨0x70014, 1, 0x0, 1, 0x0, .const 0x00000000#32, .any, [⟨31, 0, .ro, .plain⟩]⟩,
  -- NORC_BUILD_HI
  ⟨0x70018, 1, 0x0, 1, 0x0, .const 0x00000000#32, .any, [⟨31, 0, .ro, .plain⟩]⟩,
  -- NORC_EINC
  ⟨0x70020, 1, 0x0, 1, 0x0, .const 0x00000000#32, .any, [⟨31, 31, .ro, .plain⟩, ⟨25, 16, .ro, .plain⟩, ⟨9, 0, .ro, .plain⟩]⟩,
  -- NORC_FEN_SEL
  ⟨0x70030, 1, 0x0, 1, 0x0, .const 0x00000000#32, .any, [⟨0, 0, .ro, .plain⟩]⟩,
  -- NORC_CTRL
  ⟨0x70034, 1, 0x0, 1, 0x0, .const 0x00000000#32, .any, [⟨0, 0, .wo, .plain⟩]⟩]

/-- The registers of block THM. -/
def regsTHM : List RegSpec := [
  -- THM_LIFECYCLE
  ⟨0x20000, 1, 0x0, 1, 0x0, .const 0x00000000#32, .any, [⟨31, 29, .ro, .plain⟩, ⟨28, 27, .ro, .plain⟩, ⟨26, 26, .ro, .plain⟩, ⟨25, 25, .ro, .plain⟩]⟩,
  -- THM_LOCK
  ⟨0x20004, 1, 0x0, 1, 0x0, .const 0x00000000#32, .any, [⟨0, 0, .w1s, .plain⟩]⟩,
  -- THM_KEYS
  ⟨0x20008, 1, 0x0, 1, 0x0, .const 0x00000000#32, .any, [⟨31, 28, .ro, .plain⟩, ⟨27, 24, .ro, .plain⟩, ⟨23, 20, .ro, .plain⟩, ⟨1, 0, .ro, .plain⟩]⟩,
  -- THM_ROLLBACK
  ⟨0x2000C, 1, 0x0, 1, 0x0, .const 0x00000000#32, .any, [⟨7, 0, .ro, .plain⟩]⟩,
  -- THM_DEVID_LO
  ⟨0x20010, 1, 0x0, 1, 0x0, .const 0x00000000#32, .any, [⟨31, 0, .ro, .plain⟩]⟩,
  -- THM_DEVID_HI
  ⟨0x20014, 1, 0x0, 1, 0x0, .const 0x00000000#32, .any, [⟨31, 0, .ro, .plain⟩]⟩,
  -- THM_ENTROPY
  ⟨0x20020, 1, 0x0, 1, 0x0, .const 0x00000000#32, .any, [⟨31, 31, .ro, .plain⟩, ⟨30, 30, .w1c, .plain⟩, ⟨15, 0, .ro, .plain⟩]⟩,
  -- THM_DBG_STAT
  ⟨0x20030, 1, 0x0, 1, 0x0, .const 0x00000000#32, .any, [⟨31, 30, .ro, .plain⟩, ⟨29, 28, .ro, .plain⟩, ⟨7, 0, .ro, .plain⟩]⟩]

/-- The registers of block EVT. -/
def regsEVT : List RegSpec := [
  -- EVT_CFG
  ⟨0x30000, 1, 0x0, 1, 0x0, .const 0x0000000A#32, .any, [⟨15, 0, .rw, .zeroTo 1⟩]⟩,
  -- EVT_OVF
  ⟨0x30004, 1, 0x0, 1, 0x0, .const 0x00000000#32, .any, [⟨31, 0, .ro, .plain⟩]⟩,
  -- EVT_PENDg
  ⟨0x30100, 1, 0x0, 40, 0x4, .const 0x00000000#32, .any, [⟨15, 0, .w1c, .plain⟩]⟩,
  -- EVT_MASKg
  ⟨0x30200, 1, 0x0, 40, 0x4, .const 0x00000000#32, .any, [⟨15, 0, .rw, .plain⟩]⟩,
  -- EVT_ROUTEn
  ⟨0x31000, 1, 0x0, 640, 0x4, .route, .any, [⟨31, 31, .rw, .plain⟩, ⟨30, 30, .rw, .plain⟩, ⟨29, 28, .rw, .plain⟩, ⟨27, 27, .rw, .plain⟩, ⟨10, 0, .rw, .plain⟩]⟩]

/-- The registers of block MON. -/
def regsMON : List RegSpec := [
  -- MON_CTRL
  ⟨0x40000, 1, 0x0, 1, 0x0, .const 0x40000000#32, .any, [⟨31, 31, .wo, .plain⟩, ⟨30, 30, .rw, .plain⟩, ⟨15, 0, .ro, .plain⟩]⟩,
  -- MON_CFGm low
  ⟨0x41000, 1, 0x0, 16, 0x80, .const 0x00000000#32, .any, [⟨31, 28, .rwl, .plain⟩, ⟨27, 23, .rwl, .plain⟩, ⟨15, 0, .rwl, .plain⟩]⟩,
  -- MON_CFGm high
  ⟨0x41800, 1, 0x0, 48, 0x80, .const 0x00000000#32, .any, [⟨31, 28, .rw, .plain⟩, ⟨27, 23, .rw, .plain⟩, ⟨15, 0, .rw, .plain⟩]⟩,
  -- MON_COUNTm
  ⟨0x41004, 1, 0x0, 64, 0x80, .const 0x00000000#32, .any, [⟨31, 0, .ro, .plain⟩]⟩,
  -- MON_MINm
  ⟨0x41008, 1, 0x0, 64, 0x80, .const 0xFFFFFFFF#32, .any, [⟨31, 0, .ro, .plain⟩]⟩,
  -- MON_MAXm
  ⟨0x4100C, 1, 0x0, 64, 0x80, .const 0x00000000#32, .any, [⟨31, 0, .ro, .plain⟩]⟩,
  -- MON_BINm_k
  ⟨0x41010, 64, 0x80, 16, 0x4, .const 0x00000000#32, .any, [⟨31, 0, .ro, .plain⟩]⟩]

/-- The registers of block PEAT. -/
def regsPEAT : List RegSpec := [
  -- PEAT_STATUS
  ⟨0x50000, 1, 0x0, 1, 0x0, .const 0x00000000#32, .any, [⟨28, 16, .ro, .plain⟩, ⟨15, 0, .ro, .plain⟩]⟩,
  -- PEAT_DROP
  ⟨0x50004, 1, 0x0, 1, 0x0, .const 0x00000000#32, .any, [⟨31, 24, .ro, .plain⟩, ⟨23, 16, .ro, .plain⟩, ⟨15, 8, .ro, .plain⟩, ⟨7, 0, .ro, .plain⟩]⟩,
  -- PEAT_SNAP_CTRL
  ⟨0x50010, 1, 0x0, 1, 0x0, .const 0x00000000#32, .any, [⟨31, 31, .wo, .plain⟩, ⟨30, 30, .ro, .plain⟩]⟩,
  -- PEAT_SNAP_SEQ_LO
  ⟨0x50014, 1, 0x0, 1, 0x0, .const 0x00000000#32, .any, [⟨31, 0, .ro, .plain⟩]⟩,
  -- PEAT_SNAP_SEQ_HI
  ⟨0x50018, 1, 0x0, 1, 0x0, .const 0x00000000#32, .any, [⟨31, 0, .ro, .plain⟩]⟩,
  -- PEAT_WIN_IDX
  ⟨0x50020, 1, 0x0, 1, 0x0, .const 0x00000000#32, .any, [⟨11, 0, .rw, .plain⟩]⟩,
  -- PEAT_WIN_DATAw
  ⟨0x50100, 1, 0x0, 32, 0x4, .const 0x00000000#32, .any, [⟨31, 0, .ro, .plain⟩]⟩]

/-- The registers of block SBUS. -/
def regsSBUS : List RegSpec := [
  -- SBUS_CFGn
  ⟨0x80000, 1, 0x0, 6, 0x40, .sbus, .any, [⟨31, 31, .rw, .plain⟩, ⟨30, 30, .rw, .plain⟩, ⟨15, 0, .rw, .khz⟩]⟩,
  -- SBUS_STATn
  ⟨0x80004, 1, 0x0, 6, 0x40, .const 0x00000000#32, .any, [⟨31, 30, .ro, .plain⟩, ⟨23, 16, .ro, .plain⟩, ⟨15, 0, .ro, .plain⟩]⟩]

/-- The registers of block PCIE. -/
def regsPCIE : List RegSpec := [
  -- PCIE_STATUS
  ⟨0xFE0000, 1, 0x0, 1, 0x0, .const 0x00000000#32, .any, [⟨31, 31, .ro, .plain⟩, ⟨30, 28, .ro, .plain⟩, ⟨27, 24, .ro, .plain⟩, ⟨5, 0, .ro, .plain⟩]⟩,
  -- PCIE_CMD_DB
  ⟨0xFE0010, 1, 0x0, 1, 0x0, .const 0x00000000#32, .any, [⟨5, 0, .rw, .plain⟩]⟩,
  -- PCIE_CPL_DB
  ⟨0xFE0014, 1, 0x0, 1, 0x0, .const 0x00000000#32, .any, [⟨5, 0, .rw, .plain⟩]⟩]

/-- Every register of the device (R385). -/
def regTable : List RegSpec :=
  regsWEFT ++ regsGLB ++ regsSPOOL ++ regsRGN ++ regsVE ++ regsPORT ++ regsPUB ++ regsTLR ++ regsFEN ++ regsSEAM ++ regsDMC ++ regsNCACHE ++ regsQLT ++ regsNCH ++ regsCRC ++ regsCRYP ++ regsLKS ++ regsTIME ++ regsNORC ++ regsTHM ++ regsEVT ++ regsMON ++ regsPEAT ++ regsSBUS ++ regsPCIE

namespace F

abbrev WEFT_STALL_CFG_limit_us : Fld := ⟨0x90000, 15, 0⟩
abbrev WEFT_STALL_LOG_valid : Fld := ⟨0x90004, 31, 31⟩
abbrev WEFT_STALL_LOG_channel : Fld := ⟨0x90004, 15, 0⟩
abbrev GLB_GATE_CFG_window : Fld := ⟨0x100, 7, 0⟩
abbrev GLB_GATE_STAT_contended : Fld := ⟨0x104, 31, 16⟩
abbrev GLB_GATE_STAT_granted : Fld := ⟨0x104, 15, 0⟩
abbrev GLB_GATE_LAST_winner_rank : Fld := ⟨0x108, 31, 30⟩
abbrev GLB_GATE_LAST_loser_rank : Fld := ⟨0x108, 29, 28⟩
abbrev GLB_GATE_LAST_loser_opcode : Fld := ⟨0x108, 15, 0⟩
abbrev SPOOL_FREE_free_cells : Fld := ⟨0xB80000, 18, 0⟩
abbrev SPOOL_BADFREE_CELL_valid : Fld := ⟨0xB80010, 31, 31⟩
abbrev SPOOL_BADFREE_CELL_kind : Fld := ⟨0xB80010, 30, 30⟩
abbrev SPOOL_BADFREE_CELL_cell : Fld := ⟨0xB80010, 17, 0⟩
abbrev SPOOL_BADFREE_OWNER_issuer : Fld := ⟨0xB80014, 31, 24⟩
abbrev SPOOL_BADFREE_OWNER_tag_owner : Fld := ⟨0xB80014, 23, 16⟩
abbrev SPOOL_BADFREE_OWNER_tag_gen : Fld := ⟨0xB80014, 15, 0⟩
abbrev RGN_RANGE_TOP_top_tiles : Fld := ⟨0x200000, 31, 0⟩
abbrev RGN_RDT_CFG_count : Fld := ⟨0x200004, 20, 0⟩
abbrev RGN_RNR_CFG_write_code : Fld := ⟨0x200010, 20, 16⟩
abbrev RGN_RNR_CFG_read_code : Fld := ⟨0x200010, 12, 8⟩
abbrev RGN_RNR_CFG_thr_us : Fld := ⟨0x200010, 7, 0⟩
abbrev RGN_PARK_STAT_peak : Fld := ⟨0x200014, 29, 16⟩
abbrev RGN_PARK_STAT_parked : Fld := ⟨0x200014, 13, 0⟩
abbrev RGN_DRAIN_ABANDON_count : Fld := ⟨0x200020, 31, 0⟩
abbrev RGN_REFUSE_CNT_stale : Fld := ⟨0x200024, 31, 16⟩
abbrev RGN_REFUSE_CNT_other : Fld := ⟨0x200024, 15, 0⟩
abbrev RGN_FAULT_LOG_valid : Fld := ⟨0x200030, 31, 31⟩
abbrev RGN_FAULT_LOG_cause : Fld := ⟨0x200030, 30, 28⟩
abbrev RGN_FAULT_LOG_region : Fld := ⟨0x200030, 19, 0⟩
abbrev RGN_FAULT_ADDR_LO_addr_lo : Fld := ⟨0x200034, 31, 0⟩
abbrev RGN_FAULT_ADDR_HI_addr_hi : Fld := ⟨0x200038, 15, 0⟩
abbrev RGN_BROKEN_CNT_broken : Fld := ⟨0x20003C, 20, 0⟩
abbrev VE_STATUS_state (n : Nat) : Fld := ⟨0x400000 + n * 0x10000, 31, 30⟩
abbrev VE_STATUS_fence_cause (n : Nat) : Fld := ⟨0x400000 + n * 0x10000, 23, 20⟩
abbrev VE_STATUS_qp_bound (n : Nat) : Fld := ⟨0x400000 + n * 0x10000, 12, 0⟩
abbrev VE_MSG_CNT_messages (n : Nat) : Fld := ⟨0x400008 + n * 0x10000, 31, 0⟩
abbrev VE_NAK_CNT0_seq (n : Nat) : Fld := ⟨0x400010 + n * 0x10000, 31, 16⟩
abbrev VE_NAK_CNT0_rnr (n : Nat) : Fld := ⟨0x400010 + n * 0x10000, 15, 0⟩
abbrev VE_NAK_CNT1_access (n : Nat) : Fld := ⟨0x400014 + n * 0x10000, 31, 16⟩
abbrev VE_NAK_CNT1_other (n : Nat) : Fld := ⟨0x400014 + n * 0x10000, 15, 0⟩
abbrev VE_LAST_REPLACE_qps (n : Nat) : Fld := ⟨0x400020 + n * 0x10000, 31, 16⟩
abbrev VE_LAST_REPLACE_time_us (n : Nat) : Fld := ⟨0x400020 + n * 0x10000, 15, 0⟩
abbrev PORT_TP_CFG_pfc_en (n : Nat) : Fld := ⟨0x800100 + n * 0x10000, 31, 24⟩
abbrev PORT_TP_CFG_brk (n : Nat) : Fld := ⟨0x800100 + n * 0x10000, 19, 18⟩
abbrev PORT_TP_CFG_pmtu_max (n : Nat) : Fld := ⟨0x800100 + n * 0x10000, 17, 16⟩
abbrev PORT_TP_CFG_ack_idle (n : Nat) : Fld := ⟨0x800100 + n * 0x10000, 15, 8⟩
abbrev PORT_TP_CFG_ack_msgs (n : Nat) : Fld := ⟨0x800100 + n * 0x10000, 7, 0⟩
abbrev PORT_CC_CFG_target_us (n : Nat) : Fld := ⟨0x800110 + n * 0x10000, 31, 24⟩
abbrev PORT_CC_CFG_md_pct (n : Nat) : Fld := ⟨0x800110 + n * 0x10000, 23, 16⟩
abbrev PORT_CC_CFG_ai_step (n : Nat) : Fld := ⟨0x800110 + n * 0x10000, 15, 8⟩
abbrev PORT_CC_CFG_min_rate (n : Nat) : Fld := ⟨0x800110 + n * 0x10000, 7, 0⟩
abbrev PORT_CC_ECN_mark_kib (n : Nat) : Fld := ⟨0x800114 + n * 0x10000, 31, 16⟩
abbrev PORT_CC_ECN_cnp_gap (n : Nat) : Fld := ⟨0x800114 + n * 0x10000, 15, 8⟩
abbrev PORT_CC_ECN_recover_us (n : Nat) : Fld := ⟨0x800114 + n * 0x10000, 7, 0⟩
abbrev PORT_MSEC_CFG_policy (n : Nat) : Fld := ⟨0x800200 + n * 0x10000, 31, 30⟩
abbrev PORT_MSEC_CFG_rpl_log2 (n : Nat) : Fld := ⟨0x800200 + n * 0x10000, 5, 0⟩
abbrev PORT_MSEC_BYPASS_etype1 (n : Nat) : Fld := ⟨0x800204 + n * 0x10000, 31, 16⟩
abbrev PORT_MSEC_BYPASS_etype0 (n : Nat) : Fld := ⟨0x800204 + n * 0x10000, 15, 0⟩
abbrev PORT_RX_DROP_macsec (n : Nat) : Fld := ⟨0x800300 + n * 0x10000, 31, 24⟩
abbrev PORT_RX_DROP_header (n : Nat) : Fld := ⟨0x800300 + n * 0x10000, 23, 16⟩
abbrev PORT_RX_DROP_qp (n : Nat) : Fld := ⟨0x800300 + n * 0x10000, 15, 8⟩
abbrev PORT_RX_DROP_unbound (n : Nat) : Fld := ⟨0x800300 + n * 0x10000, 7, 0⟩
abbrev PUB_HINT_CFG_gap_us : Fld := ⟨0x900000, 15, 0⟩
abbrev PUB_STAT_CHAN_open : Fld := ⟨0x900004, 12, 0⟩
abbrev PUB_STAT_SUB_stopped : Fld := ⟨0x900008, 22, 0⟩
abbrev PUB_DETACH_LOG_valid : Fld := ⟨0x900010, 31, 31⟩
abbrev PUB_DETACH_LOG_channel : Fld := ⟨0x900010, 21, 10⟩
abbrev PUB_DETACH_LOG_subscriber : Fld := ⟨0x900010, 9, 0⟩
abbrev PUB_DETACH_SEQ_LO_first_lo : Fld := ⟨0x900014, 31, 0⟩
abbrev PUB_DETACH_SEQ_HI_first_hi : Fld := ⟨0x900018, 31, 0⟩
abbrev TLR_STATUS_throttle : Fld := ⟨0x100000, 31, 31⟩
abbrev TLR_STATUS_over_cap : Fld := ⟨0x100000, 30, 30⟩
abbrev TLR_STATUS_cap_below_pin : Fld := ⟨0x100000, 29, 29⟩
abbrev TLR_STATUS_mig_busy : Fld := ⟨0x100000, 4, 0⟩
abbrev TLR_HOMECAP_cap_tiles : Fld := ⟨0x100004, 27, 0⟩
abbrev TLR_HOMED_homed_tiles : Fld := ⟨0x100008, 27, 0⟩
abbrev TLR_CAP_CFG_derate : Fld := ⟨0x100010, 31, 24⟩
abbrev TLR_CAP_CFG_reserve : Fld := ⟨0x100010, 23, 16⟩
abbrev TLR_CAP_CFG_pwr_w : Fld := ⟨0x100010, 15, 0⟩
abbrev TLR_CAP_IN_e_est : Fld := ⟨0x100014, 31, 16⟩
abbrev TLR_CAP_IN_b_save : Fld := ⟨0x100014, 15, 0⟩
abbrev TLR_CAP_STAT_t_dump : Fld := ⟨0x100018, 31, 16⟩
abbrev TLR_CAP_STAT_grow_wait : Fld := ⟨0x100018, 3, 0⟩
abbrev TLR_DRAM_TILES_d_tiles : Fld := ⟨0x10001C, 27, 0⟩
abbrev TLR_WM_CFG_wm_rel : Fld := ⟨0x100020, 23, 16⟩
abbrev TLR_WM_CFG_wm_hi : Fld := ⟨0x100020, 15, 8⟩
abbrev TLR_WM_CFG_wm_lo : Fld := ⟨0x100020, 7, 0⟩
abbrev TLR_MIG_CFG_bg_gbps : Fld := ⟨0x100030, 7, 0⟩
abbrev TLR_HEAT_CFG_promote_win_ms : Fld := ⟨0x100034, 31, 16⟩
abbrev TLR_HEAT_CFG_promote_reads : Fld := ⟨0x100034, 15, 8⟩
abbrev TLR_HEAT_CFG_age_100ms : Fld := ⟨0x100034, 7, 0⟩
abbrev TLR_CHURN_STAT_churning : Fld := ⟨0x100038, 20, 0⟩
abbrev TLR_DRAM_CFG_imbal_pct : Fld := ⟨0x100040, 7, 0⟩
abbrev TLR_QPB_CFG_imbal_pct : Fld := ⟨0x100050, 23, 16⟩
abbrev TLR_QPB_CFG_periods : Fld := ⟨0x100050, 15, 8⟩
abbrev TLR_QPB_CFG_moves : Fld := ⟨0x100050, 7, 0⟩
abbrev TLR_MIG_DEM_demoted : Fld := ⟨0x100060, 31, 0⟩
abbrev TLR_MIG_PRO_promoted : Fld := ⟨0x100064, 31, 0⟩
abbrev FEN_PF_CFG_pin_en : Fld := ⟨0x10200, 31, 31⟩
abbrev FEN_PF_CFG_cmp_en : Fld := ⟨0x10200, 30, 30⟩
abbrev FEN_PF_CFG_adc_en : Fld := ⟨0x10200, 29, 29⟩
abbrev FEN_PF_CFG_thr_mv : Fld := ⟨0x10200, 23, 12⟩
abbrev FEN_PF_CFG_filt_us : Fld := ⟨0x10200, 11, 0⟩
abbrev FEN_PF_STAT_valid : Fld := ⟨0x10204, 31, 31⟩
abbrev FEN_PF_STAT_path : Fld := ⟨0x10204, 30, 28⟩
abbrev FEN_PF_STAT_glitches : Fld := ⟨0x10204, 15, 0⟩
abbrev GLB_SAVE_STAT_sealed : Fld := ⟨0x200, 31, 31⟩
abbrev GLB_SAVE_STAT_lost : Fld := ⟨0x200, 30, 30⟩
abbrev GLB_SAVE_STAT_delta : Fld := ⟨0x200, 29, 29⟩
abbrev GLB_SAVE_STAT_slot : Fld := ⟨0x200, 28, 28⟩
abbrev GLB_SAVE_STAT_dur_10ms : Fld := ⟨0x200, 15, 0⟩
abbrev GLB_SAVE_GEN_gen_lo : Fld := ⟨0x204, 31, 0⟩
abbrev GLB_RESTORE_CFG_serve_en : Fld := ⟨0x210, 31, 31⟩
abbrev GLB_RESTORE_CFG_qp_err : Fld := ⟨0x210, 30, 30⟩
abbrev GLB_RESTORE_STAT_serving : Fld := ⟨0x214, 31, 31⟩
abbrev GLB_RESTORE_STAT_released : Fld := ⟨0x214, 30, 30⟩
abbrev GLB_RESTORE_STAT_left_tiles : Fld := ⟨0x214, 27, 0⟩
abbrev GLB_RESTORE_DIRTY_dirty_tiles : Fld := ⟨0x218, 27, 0⟩
abbrev GLB_RESTORE_POISON_tiles : Fld := ⟨0x21C, 31, 0⟩
abbrev SEAM_STATUS_twin : Fld := ⟨0xA00000, 31, 30⟩
abbrev SEAM_STATUS_lead : Fld := ⟨0xA00000, 29, 29⟩
abbrev SEAM_STATUS_unit : Fld := ⟨0xA00000, 28, 28⟩
abbrev SEAM_STATUS_gates_open : Fld := ⟨0xA00000, 27, 27⟩
abbrev SEAM_STATUS_link1_up : Fld := ⟨0xA00000, 26, 26⟩
abbrev SEAM_STATUS_link0_up : Fld := ⟨0xA00000, 25, 25⟩
abbrev SEAM_STATUS_tack_up : Fld := ⟨0xA00000, 24, 24⟩
abbrev SEAM_STATUS_ready : Fld := ⟨0xA00000, 23, 23⟩
abbrev SEAM_CLAIM_epoch : Fld := ⟨0xA00004, 31, 0⟩
abbrev SEAM_TWIN_CLAIM_epoch : Fld := ⟨0xA00008, 31, 0⟩
abbrev SEAM_PAIR_CFG_pair_en : Fld := ⟨0xA00010, 31, 31⟩
abbrev SEAM_PAIR_CFG_wait_s : Fld := ⟨0xA00010, 15, 0⟩
abbrev SEAM_PAIR_ID_LO_id_lo : Fld := ⟨0xA00014, 31, 0⟩
abbrev SEAM_PAIR_ID_HI_id_hi : Fld := ⟨0xA00018, 31, 0⟩
abbrev SEAM_BEAT_CFG_seam_us : Fld := ⟨0xA00020, 31, 24⟩
abbrev SEAM_BEAT_CFG_seam_miss : Fld := ⟨0xA00020, 23, 16⟩
abbrev SEAM_BEAT_CFG_tack_us : Fld := ⟨0xA00020, 15, 8⟩
abbrev SEAM_BEAT_CFG_tack_miss : Fld := ⟨0xA00020, 7, 0⟩
abbrev SEAM_WIT_CFG_hold_paired : Fld := ⟨0xA00030, 31, 31⟩
abbrev SEAM_WIT_CFG_pin_en : Fld := ⟨0xA00030, 30, 30⟩
abbrev SEAM_WIT_CFG_token_en : Fld := ⟨0xA00030, 29, 29⟩
abbrev SEAM_WIT_CFG_gnt_filt_us : Fld := ⟨0xA00030, 7, 0⟩
abbrev SEAM_WIT_STAT_held : Fld := ⟨0xA00034, 31, 31⟩
abbrev SEAM_WIT_STAT_pin : Fld := ⟨0xA00034, 30, 30⟩
abbrev SEAM_WIT_STAT_token : Fld := ⟨0xA00034, 29, 29⟩
abbrev SEAM_WIT_STAT_requesting : Fld := ⟨0xA00034, 28, 28⟩
abbrev SEAM_RTT0_min_ns : Fld := ⟨0xA00040, 31, 16⟩
abbrev SEAM_RTT0_cur_ns : Fld := ⟨0xA00040, 15, 0⟩
abbrev SEAM_RTT1_min_ns : Fld := ⟨0xA00044, 31, 16⟩
abbrev SEAM_RTT1_cur_ns : Fld := ⟨0xA00044, 15, 0⟩
abbrev SEAM_TKO_CFG_announce : Fld := ⟨0xA00050, 15, 12⟩
abbrev SEAM_TKO_CFG_port_en : Fld := ⟨0xA00050, 7, 0⟩
abbrev SEAM_RSY_CFG_cut_mib : Fld := ⟨0xA00060, 15, 8⟩
abbrev SEAM_RSY_CFG_gbps : Fld := ⟨0xA00060, 7, 0⟩
abbrev SEAM_RSY_STAT_active : Fld := ⟨0xA00064, 31, 31⟩
abbrev SEAM_RSY_STAT_full : Fld := ⟨0xA00064, 30, 30⟩
abbrev SEAM_RSY_STAT_cut : Fld := ⟨0xA00064, 29, 29⟩
abbrev SEAM_RSY_STAT_left_mib : Fld := ⟨0xA00064, 28, 0⟩
abbrev SEAM_RSY_LEFT_left_tiles : Fld := ⟨0xA00068, 31, 0⟩
abbrev SEAM_STALE_CNT_stale : Fld := ⟨0xA00070, 31, 16⟩
abbrev SEAM_STALE_CNT_replays : Fld := ⟨0xA00070, 15, 0⟩
abbrev DMC_STATUS_state (n : Nat) : Fld := ⟨0xC00000 + n * 0x10000, 31, 30⟩
abbrev DMC_STATUS_rate (n : Nat) : Fld := ⟨0xC00000 + n * 0x10000, 29, 27⟩
abbrev DMC_STATUS_dimm1 (n : Nat) : Fld := ⟨0xC00000 + n * 0x10000, 26, 26⟩
abbrev DMC_STATUS_dimm0 (n : Nat) : Fld := ⟨0xC00000 + n * 0x10000, 25, 25⟩
abbrev DMC_STATUS_mark1 (n : Nat) : Fld := ⟨0xC00000 + n * 0x10000, 7, 4⟩
abbrev DMC_STATUS_mark0 (n : Nat) : Fld := ⟨0xC00000 + n * 0x10000, 3, 0⟩
abbrev DMC_PAGE_CFG_idle_clk (n : Nat) : Fld := ⟨0xC00010 + n * 0x10000, 9, 0⟩
abbrev DMC_RH_CFG_pnr_en (n : Nat) : Fld := ⟨0xC00014 + n * 0x10000, 31, 31⟩
abbrev DMC_RH_CFG_k (n : Nat) : Fld := ⟨0xC00014 + n * 0x10000, 27, 24⟩
abbrev DMC_RH_CFG_thr_acts (n : Nat) : Fld := ⟨0xC00014 + n * 0x10000, 15, 0⟩
abbrev DMC_RH_STAT_holds (n : Nat) : Fld := ⟨0xC00018 + n * 0x10000, 31, 16⟩
abbrev DMC_RH_STAT_nrefs (n : Nat) : Fld := ⟨0xC00018 + n * 0x10000, 15, 0⟩
abbrev DMC_TRN_CTRL_go (n : Nat) : Fld := ⟨0xC00100 + n * 0x10000, 31, 31⟩
abbrev DMC_TRN_CTRL_busy (n : Nat) : Fld := ⟨0xC00100 + n * 0x10000, 30, 30⟩
abbrev DMC_TRN_CTRL_op (n : Nat) : Fld := ⟨0xC00100 + n * 0x10000, 29, 27⟩
abbrev DMC_TRN_CTRL_chain (n : Nat) : Fld := ⟨0xC00100 + n * 0x10000, 26, 24⟩
abbrev DMC_TRN_CTRL_lrank (n : Nat) : Fld := ⟨0xC00100 + n * 0x10000, 23, 20⟩
abbrev DMC_TRN_CTRL_subch (n : Nat) : Fld := ⟨0xC00100 + n * 0x10000, 19, 19⟩
abbrev DMC_TRN_CTRL_count (n : Nat) : Fld := ⟨0xC00100 + n * 0x10000, 15, 8⟩
abbrev DMC_TRN_SWEEP_start (n : Nat) : Fld := ⟨0xC00104 + n * 0x10000, 29, 20⟩
abbrev DMC_TRN_SWEEP_stop (n : Nat) : Fld := ⟨0xC00104 + n * 0x10000, 19, 10⟩
abbrev DMC_TRN_SWEEP_step (n : Nat) : Fld := ⟨0xC00104 + n * 0x10000, 9, 0⟩
abbrev DMC_TRN_PAT_kind (n : Nat) : Fld := ⟨0xC00108 + n * 0x10000, 31, 28⟩
abbrev DMC_TRN_PAT_seed (n : Nat) : Fld := ⟨0xC00108 + n * 0x10000, 27, 0⟩
abbrev DMC_TRN_RESn_first (n k : Nat) : Fld := ⟨0xC00140 + n * 0x10000 + k * 0x4, 31, 22⟩
abbrev DMC_TRN_RESn_last (n k : Nat) : Fld := ⟨0xC00140 + n * 0x10000 + k * 0x4, 21, 12⟩
abbrev DMC_TRN_RESn_fails (n k : Nat) : Fld := ⟨0xC00140 + n * 0x10000 + k * 0x4, 11, 0⟩
abbrev DMC_ECC_CFG_mark_thr (n : Nat) : Fld := ⟨0xC00200 + n * 0x10000, 31, 24⟩
abbrev DMC_ECC_CNT_ce (n : Nat) : Fld := ⟨0xC00204 + n * 0x10000, 31, 16⟩
abbrev DMC_ECC_CNT_ue (n : Nat) : Fld := ⟨0xC00204 + n * 0x10000, 15, 0⟩
abbrev DMC_ECC_LOG_valid (n : Nat) : Fld := ⟨0xC00208 + n * 0x10000, 31, 31⟩
abbrev DMC_ECC_LOG_kind (n : Nat) : Fld := ⟨0xC00208 + n * 0x10000, 30, 30⟩
abbrev DMC_ECC_LOG_subch (n : Nat) : Fld := ⟨0xC00208 + n * 0x10000, 29, 29⟩
abbrev DMC_ECC_LOG_lrank (n : Nat) : Fld := ⟨0xC00208 + n * 0x10000, 28, 25⟩
abbrev DMC_ECC_LOG_bank (n : Nat) : Fld := ⟨0xC00208 + n * 0x10000, 24, 20⟩
abbrev DMC_ECC_LOG_device (n : Nat) : Fld := ⟨0xC00208 + n * 0x10000, 19, 16⟩
abbrev DMC_ECC_LOC_column (n : Nat) : Fld := ⟨0xC0020C + n * 0x10000, 27, 18⟩
abbrev DMC_ECC_LOC_row (n : Nat) : Fld := ⟨0xC0020C + n * 0x10000, 17, 0⟩
abbrev DMC_SCRUB_CFG_en (n : Nat) : Fld := ⟨0xC00300 + n * 0x10000, 31, 31⟩
abbrev DMC_SCRUB_CFG_period_h (n : Nat) : Fld := ⟨0xC00300 + n * 0x10000, 7, 0⟩
abbrev DMC_SCRUB_STAT_passes (n : Nat) : Fld := ⟨0xC00304 + n * 0x10000, 31, 0⟩
abbrev NCACHE_STATUS_inv_done : Fld := ⟨0xB00000, 31, 31⟩
abbrev NCACHE_STATUS_maint_busy : Fld := ⟨0xB00000, 30, 30⟩
abbrev NCACHE_STATUS_maint_done : Fld := ⟨0xB00000, 29, 29⟩
abbrev NCACHE_STATUS_tag_lost : Fld := ⟨0xB00000, 28, 28⟩
abbrev NCACHE_STATUS_dirty : Fld := ⟨0xB00000, 20, 0⟩
abbrev NCACHE_MAINT_CTRL_go : Fld := ⟨0xB00010, 31, 31⟩
abbrev NCACHE_MAINT_CTRL_op : Fld := ⟨0xB00010, 30, 29⟩
abbrev NCACHE_MAINT_CTRL_scope : Fld := ⟨0xB00010, 28, 27⟩
abbrev NCACHE_MAINT_CTRL_way : Fld := ⟨0xB00010, 19, 16⟩
abbrev NCACHE_MAINT_CTRL_set : Fld := ⟨0xB00010, 15, 0⟩
abbrev NCACHE_MAINT_ADDR_LO_addr_lo : Fld := ⟨0xB00014, 31, 8⟩
abbrev NCACHE_MAINT_ADDR_HI_addr_hi : Fld := ⟨0xB00018, 15, 0⟩
abbrev NCACHE_MAINT_LEN_lines : Fld := ⟨0xB0001C, 31, 0⟩
abbrev NCACHE_PF_CFG_nand_follow : Fld := ⟨0xB00030, 31, 31⟩
abbrev NCACHE_PF_CFG_seq_en : Fld := ⟨0xB00030, 30, 30⟩
abbrev NCACHE_PF_CFG_seq_lines : Fld := ⟨0xB00030, 3, 0⟩
abbrev NCACHE_FRESH_STAT_used : Fld := ⟨0xB00040, 19, 0⟩
abbrev NCACHE_FILL_CFG_fill_gbps : Fld := ⟨0xB00044, 7, 0⟩
abbrev QLT_STATUS_frozen : Fld := ⟨0xE00000, 31, 31⟩
abbrev QLT_STATUS_full : Fld := ⟨0xE00000, 30, 30⟩
abbrev QLT_STATUS_replayed : Fld := ⟨0xE00000, 29, 29⟩
abbrev QLT_STATUS_save_short : Fld := ⟨0xE00000, 28, 28⟩
abbrev QLT_STATUS_reserve_empty : Fld := ⟨0xE00000, 27, 27⟩
abbrev QLT_CAP_usable_tiles : Fld := ⟨0xE00004, 31, 0⟩
abbrev QLT_NAND_TILES_tiles : Fld := ⟨0xE00008, 31, 0⟩
abbrev QLT_SPARE_left : Fld := ⟨0xE00010, 23, 0⟩
abbrev QLT_SPARE_INIT_init : Fld := ⟨0xE00014, 23, 0⟩
abbrev QLT_SPARE_CFG_warn_pct : Fld := ⟨0xE00018, 15, 8⟩
abbrev QLT_SPARE_CFG_freeze_pct : Fld := ⟨0xE00018, 7, 0⟩
abbrev QLT_CKPT_CFG_period_s : Fld := ⟨0xE00020, 15, 8⟩
abbrev QLT_CKPT_CFG_gib : Fld := ⟨0xE00020, 7, 0⟩
abbrev QLT_CKPT_STAT_last_ms : Fld := ⟨0xE00024, 31, 16⟩
abbrev QLT_CKPT_STAT_count : Fld := ⟨0xE00024, 15, 0⟩
abbrev QLT_GC_CFG_hi : Fld := ⟨0xE00030, 15, 8⟩
abbrev QLT_GC_CFG_lo : Fld := ⟨0xE00030, 7, 0⟩
abbrev QLT_WEAR_CFG_delta : Fld := ⟨0xE00034, 15, 0⟩
abbrev QLT_RD_CFG_scan_kreads : Fld := ⟨0xE00038, 31, 16⟩
abbrev QLT_RD_CFG_patrol_d : Fld := ⟨0xE00038, 7, 0⟩
abbrev QLT_DEM_RATE_gbps : Fld := ⟨0xE0003C, 7, 0⟩
abbrev QLT_UE_CNT_poisoned : Fld := ⟨0xE00040, 31, 16⟩
abbrev QLT_UE_CNT_rebuilt : Fld := ⟨0xE00040, 15, 0⟩
abbrev NCH_STATUS_state (n : Nat) : Fld := ⟨0xE80000 + n * 0x1000, 31, 30⟩
abbrev NCH_STATUS_rate (n : Nat) : Fld := ⟨0xE80000 + n * 0x1000, 29, 16⟩
abbrev NCH_STATUS_targets (n : Nat) : Fld := ⟨0xE80000 + n * 0x1000, 15, 0⟩
abbrev NCH_ERR_fails (n : Nat) : Fld := ⟨0xE80004 + n * 0x1000, 31, 16⟩
abbrev NCH_ERR_retries (n : Nat) : Fld := ⟨0xE80004 + n * 0x1000, 15, 0⟩
abbrev CRC_SCAN_CTRL_go : Fld := ⟨0xF80000, 31, 31⟩
abbrev CRC_SCAN_CTRL_busy : Fld := ⟨0xF80000, 30, 30⟩
abbrev CRC_SCAN_CTRL_fold : Fld := ⟨0xF80000, 2, 2⟩
abbrev CRC_SCAN_CTRL_poly : Fld := ⟨0xF80000, 1, 1⟩
abbrev CRC_SCAN_CTRL_mode : Fld := ⟨0xF80000, 0, 0⟩
abbrev CRC_SCAN_ADDR_LO_addr_lo : Fld := ⟨0xF80004, 31, 0⟩
abbrev CRC_SCAN_ADDR_HI_addr_hi : Fld := ⟨0xF80008, 15, 0⟩
abbrev CRC_SCAN_LEN_LO_len_lo : Fld := ⟨0xF8000C, 31, 0⟩
abbrev CRC_SCAN_LEN_HI_len_hi : Fld := ⟨0xF80010, 12, 0⟩
abbrev CRC_SCAN_SEQ_LO_value : Fld := ⟨0xF80014, 31, 0⟩
abbrev CRC_SCAN_SEQ_HI_value : Fld := ⟨0xF80018, 31, 0⟩
abbrev CRC_SCAN_EXP_LO_value : Fld := ⟨0xF80020, 31, 0⟩
abbrev CRC_SCAN_EXP_HI_value : Fld := ⟨0xF80024, 31, 0⟩
abbrev CRC_SCAN_RES_LO_value : Fld := ⟨0xF80028, 31, 0⟩
abbrev CRC_SCAN_RES_HI_value : Fld := ⟨0xF8002C, 31, 0⟩
abbrev CRC_SCAN_STAT_done : Fld := ⟨0xF80030, 31, 31⟩
abbrev CRC_SCAN_STAT_outcome : Fld := ⟨0xF80030, 30, 28⟩
abbrev CRC_SCAN_STAT_progress : Fld := ⟨0xF80030, 27, 0⟩
abbrev CRC_FAIL_CNT_seam : Fld := ⟨0xF80040, 31, 24⟩
abbrev CRC_FAIL_CNT_quilt : Fld := ⟨0xF80040, 23, 16⟩
abbrev CRC_FAIL_CNT_save : Fld := ⟨0xF80040, 15, 8⟩
abbrev CRC_FAIL_CNT_other : Fld := ⟨0xF80040, 7, 0⟩
abbrev CRYP_STATUS_lane_low : Fld := ⟨0xF00000, 31, 31⟩
abbrev CRYP_STATUS_lanes_ok : Fld := ⟨0xF00000, 6, 0⟩
abbrev CRYP_LANE_FAIL_LO_failed : Fld := ⟨0xF00004, 31, 0⟩
abbrev CRYP_LANE_FAIL_HI_failed : Fld := ⟨0xF00008, 31, 0⟩
abbrev CRYP_DUAL_CFG_mode : Fld := ⟨0xF00010, 31, 31⟩
abbrev CRYP_DUAL_CNT_mismatches : Fld := ⟨0xF00014, 31, 16⟩
abbrev CRYP_DUAL_CNT_double : Fld := ⟨0xF00014, 15, 0⟩
abbrev CRYP_CTX_CFG_clear_en : Fld := ⟨0xF00020, 31, 31⟩
abbrev CRYP_CTX_CFG_pn_skip_log2 : Fld := ⟨0xF00020, 4, 0⟩
abbrev CRYP_WRAP_CNT_count_lo : Fld := ⟨0xF00024, 31, 0⟩
abbrev LKS_STATUS_pairs : Fld := ⟨0xFC0000, 31, 24⟩
abbrev LKS_STATUS_usable : Fld := ⟨0xFC0000, 2, 0⟩
abbrev LKS_CFG_spare : Fld := ⟨0xFC0010, 1, 0⟩
abbrev LKS_FAULT_LOG_valid : Fld := ⟨0xFC0020, 31, 31⟩
abbrev LKS_FAULT_LOG_pair : Fld := ⟨0xFC0020, 30, 29⟩
abbrev LKS_FAULT_LOG_cause : Fld := ⟨0xFC0020, 28, 26⟩
abbrev LKS_CNT_mismatches : Fld := ⟨0xFC0024, 31, 16⟩
abbrev LKS_CNT_transients : Fld := ⟨0xFC0024, 15, 0⟩
abbrev FEN_STATUS_rails : Fld := ⟨0x10000, 31, 30⟩
abbrev FEN_STATUS_rate_low : Fld := ⟨0x10000, 29, 29⟩
abbrev FEN_STATUS_cnt_restored : Fld := ⟨0x10000, 28, 28⟩
abbrev FEN_PWR_SEQ_retries : Fld := ⟨0x10010, 10, 8⟩
abbrev FEN_PWR_SEQ_off_10ms : Fld := ⟨0x10010, 7, 0⟩
abbrev FEN_SEQ_STAT_fault : Fld := ⟨0x10014, 31, 31⟩
abbrev FEN_SEQ_STAT_cause : Fld := ⟨0x10014, 30, 28⟩
abbrev FEN_SEQ_STAT_step : Fld := ⟨0x10014, 23, 16⟩
abbrev FEN_SEQ_STAT_attempts : Fld := ⟨0x10014, 15, 8⟩
abbrev FEN_SEQ_STAT_rail : Fld := ⟨0x10014, 4, 0⟩
abbrev FEN_VCORE_CFG_v_cold : Fld := ⟨0x10100, 31, 22⟩
abbrev FEN_VCORE_CFG_v_hot : Fld := ⟨0x10100, 21, 12⟩
abbrev FEN_VCORE_STAT_set_mv : Fld := ⟨0x10104, 31, 22⟩
abbrev FEN_VCORE_STAT_meas_mv : Fld := ⟨0x10104, 21, 12⟩
abbrev FEN_VCORE_STAT_tj : Fld := ⟨0x10104, 7, 0⟩
abbrev FEN_RSTn_CFG_doze (n : Nat) : Fld := ⟨0x10300 + n * 0x4, 31, 31⟩
abbrev FEN_RSTn_CFG_stretch_ms (n : Nat) : Fld := ⟨0x10300 + n * 0x4, 15, 8⟩
abbrev FEN_RAILn_CNT_seq_fail (n : Nat) : Fld := ⟨0x10400 + n * 0x4, 31, 16⟩
abbrev FEN_RAILn_CNT_drops (n : Nat) : Fld := ⟨0x10400 + n * 0x4, 15, 0⟩
abbrev FEN_HOURS_count : Fld := ⟨0x10500, 31, 0⟩
abbrev FEN_CYCLES_count : Fld := ⟨0x10504, 31, 0⟩
abbrev FEN_BAT_CFG_rest_ma : Fld := ⟨0x10600, 31, 24⟩
abbrev FEN_BAT_CFG_soc_min : Fld := ⟨0x10600, 23, 16⟩
abbrev FEN_BAT_CFG_shunt : Fld := ⟨0x10600, 15, 8⟩
abbrev FEN_BAT_CFG_vdiv : Fld := ⟨0x10600, 7, 0⟩
abbrev FEN_BAT_ERATED_e_rated : Fld := ⟨0x10604, 15, 0⟩
abbrev FEN_BAT_STAT_auth : Fld := ⟨0x10608, 31, 31⟩
abbrev FEN_BAT_STAT_present : Fld := ⟨0x10608, 30, 30⟩
abbrev FEN_BAT_STAT_alt_bus : Fld := ⟨0x10608, 29, 29⟩
abbrev FEN_BAT_STAT_lost : Fld := ⟨0x10608, 28, 28⟩
abbrev FEN_BAT_STAT_charging : Fld := ⟨0x10608, 27, 27⟩
abbrev FEN_BAT_STAT_soc : Fld := ⟨0x10608, 23, 16⟩
abbrev FEN_BAT_STAT_soh : Fld := ⟨0x10608, 15, 8⟩
abbrev FEN_BAT_STAT_temp : Fld := ⟨0x10608, 7, 0⟩
abbrev FEN_BAT_E_e_est : Fld := ⟨0x1060C, 31, 16⟩
abbrev FEN_BAT_E_i_10ma : Fld := ⟨0x1060C, 15, 0⟩
abbrev FEN_DOZE_CFG_wake_port : Fld := ⟨0x10700, 31, 24⟩
abbrev FEN_DOZE_CFG_wake_mon : Fld := ⟨0x10700, 23, 23⟩
abbrev FEN_DOZE_CFG_wake_pcie : Fld := ⟨0x10700, 22, 22⟩
abbrev FEN_DOZE_CFG_notice_ms : Fld := ⟨0x10700, 15, 8⟩
abbrev FEN_DOZE_CFG_e_wake : Fld := ⟨0x10700, 7, 0⟩
abbrev FEN_DOZE_STAT_outcome : Fld := ⟨0x10704, 31, 28⟩
abbrev FEN_DOZE_STAT_port : Fld := ⟨0x10704, 23, 16⟩
abbrev FEN_DOZE_STAT_energy : Fld := ⟨0x10704, 4, 4⟩
abbrev FEN_DOZE_STAT_monitor : Fld := ⟨0x10704, 3, 3⟩
abbrev FEN_DOZE_STAT_pcie : Fld := ⟨0x10704, 2, 2⟩
abbrev FEN_DOZE_STAT_twin : Fld := ⟨0x10704, 1, 1⟩
abbrev FEN_MONn_CFG_hi_mv (n : Nat) : Fld := ⟨0x10800 + n * 0x4, 31, 20⟩
abbrev FEN_MONn_CFG_lo_mv (n : Nat) : Fld := ⟨0x10800 + n * 0x4, 19, 8⟩
abbrev FEN_MONn_CFG_fast (n : Nat) : Fld := ⟨0x10800 + n * 0x4, 7, 7⟩
abbrev FEN_MONn_CFG_wake (n : Nat) : Fld := ⟨0x10800 + n * 0x4, 6, 6⟩
abbrev FEN_MONn_CFG_tripped (n : Nat) : Fld := ⟨0x10800 + n * 0x4, 5, 5⟩
abbrev FEN_MONn_VAL_mv (n : Nat) : Fld := ⟨0x10880 + n * 0x4, 11, 0⟩
abbrev TIME_CTRL_step_allow : Fld := ⟨0x60000, 31, 31⟩
abbrev TIME_CTRL_ref_25 : Fld := ⟨0x60000, 30, 30⟩
abbrev TIME_CTRL_src_en : Fld := ⟨0x60000, 29, 27⟩
abbrev TIME_CTRL_ptp_lport : Fld := ⟨0x60000, 20, 16⟩
abbrev TIME_CTRL_slew_us : Fld := ⟨0x60000, 7, 0⟩
abbrev TIME_STATUS_state : Fld := ⟨0x60004, 31, 30⟩
abbrev TIME_STATUS_source : Fld := ⟨0x60004, 29, 28⟩
abbrev TIME_STATUS_commit_held : Fld := ⟨0x60004, 27, 27⟩
abbrev TIME_STATUS_step_pending : Fld := ⟨0x60004, 26, 26⟩
abbrev TIME_STATUS_in_spec : Fld := ⟨0x60004, 25, 25⟩
abbrev TIME_OFFSET_LO_value : Fld := ⟨0x60008, 31, 0⟩
abbrev TIME_OFFSET_HI_value : Fld := ⟨0x6000C, 31, 0⟩
abbrev TIME_HOLD_CFG_stab : Fld := ⟨0x60010, 31, 20⟩
abbrev TIME_HOLD_CFG_aging : Fld := ⟨0x60010, 19, 12⟩
abbrev TIME_HOLD_CFG_limit : Fld := ⟨0x60010, 11, 0⟩
abbrev TIME_HOLD_AGE_value : Fld := ⟨0x60014, 31, 0⟩
abbrev TIME_UNCERT_value : Fld := ⟨0x60018, 31, 0⟩
abbrev TIME_PPS_CFGn_en (n : Nat) : Fld := ⟨0x60020 + n * 0x4, 31, 31⟩
abbrev TIME_PPS_CFGn_width_ms (n : Nat) : Fld := ⟨0x60020 + n * 0x4, 28, 20⟩
abbrev TIME_PPS_CFGn_offset_ns (n : Nat) : Fld := ⟨0x60020 + n * 0x4, 19, 0⟩
abbrev TIME_TOD_SEC_LO_value : Fld := ⟨0x60040, 31, 0⟩
abbrev TIME_TOD_SEC_HI_value : Fld := ⟨0x60044, 31, 0⟩
abbrev TIME_TOD_NS_value : Fld := ⟨0x60048, 31, 0⟩
abbrev TIME_COMMIT_LO_value : Fld := ⟨0x60050, 31, 0⟩
abbrev TIME_COMMIT_HI_value : Fld := ⟨0x60054, 31, 0⟩
abbrev NORC_CFG_rate_mhz : Fld := ⟨0x70000, 7, 0⟩
abbrev NORC_STAT_busy : Fld := ⟨0x70004, 31, 31⟩
abbrev NORC_STAT_suspended : Fld := ⟨0x70004, 30, 30⟩
abbrev NORC_STAT_foreign : Fld := ⟨0x70004, 29, 29⟩
abbrev NORC_STAT_outcome : Fld := ⟨0x70004, 28, 26⟩
abbrev NORC_STAT_owner : Fld := ⟨0x70004, 25, 24⟩
abbrev NORC_STAT_sector : Fld := ⟨0x70004, 9, 0⟩
abbrev NORC_BOOT_copy : Fld := ⟨0x70010, 31, 31⟩
abbrev NORC_BOOT_none : Fld := ⟨0x70010, 30, 30⟩
abbrev NORC_BOOT_a_cause : Fld := ⟨0x70010, 29, 27⟩
abbrev NORC_BOOT_b_cause : Fld := ⟨0x70010, 26, 24⟩
abbrev NORC_BOOT_regs_skip : Fld := ⟨0x70010, 15, 0⟩
abbrev NORC_BUILD_LO_value : Fld := ⟨0x70014, 31, 0⟩
abbrev NORC_BUILD_HI_value : Fld := ⟨0x70018, 31, 0⟩
abbrev NORC_EINC_fen_reload : Fld := ⟨0x70020, 31, 31⟩
abbrev NORC_EINC_count : Fld := ⟨0x70020, 25, 16⟩
abbrev NORC_EINC_first : Fld := ⟨0x70020, 9, 0⟩
abbrev NORC_FEN_SEL_copy : Fld := ⟨0x70030, 0, 0⟩
abbrev NORC_CTRL_reboot : Fld := ⟨0x70034, 0, 0⟩
abbrev THM_LIFECYCLE_state : Fld := ⟨0x20000, 31, 29⟩
abbrev THM_LIFECYCLE_debug : Fld := ⟨0x20000, 28, 27⟩
abbrev THM_LIFECYCLE_destroy_begun : Fld := ⟨0x20000, 26, 26⟩
abbrev THM_LIFECYCLE_scrap_intent : Fld := ⟨0x20000, 25, 25⟩
abbrev THM_LOCK_lock : Fld := ⟨0x20004, 0, 0⟩
abbrev THM_KEYS_enabled : Fld := ⟨0x20008, 31, 28⟩
abbrev THM_KEYS_programmed : Fld := ⟨0x20008, 27, 24⟩
abbrev THM_KEYS_revoked : Fld := ⟨0x20008, 23, 20⟩
abbrev THM_KEYS_drk : Fld := ⟨0x20008, 1, 0⟩
abbrev THM_ROLLBACK_value : Fld := ⟨0x2000C, 7, 0⟩
abbrev THM_DEVID_LO_value : Fld := ⟨0x20010, 31, 0⟩
abbrev THM_DEVID_HI_value : Fld := ⟨0x20014, 31, 0⟩
abbrev THM_ENTROPY_health_ok : Fld := ⟨0x20020, 31, 31⟩
abbrev THM_ENTROPY_fail : Fld := ⟨0x20020, 30, 30⟩
abbrev THM_ENTROPY_reseeds : Fld := ⟨0x20020, 15, 0⟩
abbrev THM_DBG_STAT_level : Fld := ⟨0x20030, 31, 30⟩
abbrev THM_DBG_STAT_opened_by : Fld := ⟨0x20030, 29, 28⟩
abbrev THM_DBG_STAT_fails : Fld := ⟨0x20030, 7, 0⟩
abbrev EVT_CFG_frame_gap_ms : Fld := ⟨0x30000, 15, 0⟩
abbrev EVT_OVF_frames : Fld := ⟨0x30004, 31, 0⟩
abbrev EVT_PENDg_pend (n : Nat) : Fld := ⟨0x30100 + n * 0x4, 15, 0⟩
abbrev EVT_MASKg_mask (n : Nat) : Fld := ⟨0x30200 + n * 0x4, 15, 0⟩
abbrev EVT_ROUTEn_msix_en (n : Nat) : Fld := ⟨0x31000 + n * 0x4, 31, 31⟩
abbrev EVT_ROUTEn_frame_en (n : Nat) : Fld := ⟨0x31000 + n * 0x4, 30, 30⟩
abbrev EVT_ROUTEn_pin (n : Nat) : Fld := ⟨0x31000 + n * 0x4, 29, 28⟩
abbrev EVT_ROUTEn_pf (n : Nat) : Fld := ⟨0x31000 + n * 0x4, 27, 27⟩
abbrev EVT_ROUTEn_vector (n : Nat) : Fld := ⟨0x31000 + n * 0x4, 10, 0⟩
abbrev MON_CTRL_snap : Fld := ⟨0x40000, 31, 31⟩
abbrev MON_CTRL_clear_on_snap : Fld := ⟨0x40000, 30, 30⟩
abbrev MON_CTRL_snap_seq : Fld := ⟨0x40000, 15, 0⟩
abbrev PEAT_STATUS_used : Fld := ⟨0x50000, 28, 16⟩
abbrev PEAT_STATUS_lost : Fld := ⟨0x50000, 15, 0⟩
abbrev PEAT_DROP_sev3 : Fld := ⟨0x50004, 31, 24⟩
abbrev PEAT_DROP_sev2 : Fld := ⟨0x50004, 23, 16⟩
abbrev PEAT_DROP_sev1 : Fld := ⟨0x50004, 15, 8⟩
abbrev PEAT_DROP_sev0 : Fld := ⟨0x50004, 7, 0⟩
abbrev PEAT_SNAP_CTRL_take : Fld := ⟨0x50010, 31, 31⟩
abbrev PEAT_SNAP_CTRL_busy : Fld := ⟨0x50010, 30, 30⟩
abbrev PEAT_SNAP_SEQ_LO_value : Fld := ⟨0x50014, 31, 0⟩
abbrev PEAT_SNAP_SEQ_HI_value : Fld := ⟨0x50018, 31, 0⟩
abbrev PEAT_WIN_IDX_slot : Fld := ⟨0x50020, 11, 0⟩
abbrev PEAT_WIN_DATAw_data (n : Nat) : Fld := ⟨0x50100 + n * 0x4, 31, 0⟩
abbrev SBUS_CFGn_en (n : Nat) : Fld := ⟨0x80000 + n * 0x40, 31, 31⟩
abbrev SBUS_CFGn_pec (n : Nat) : Fld := ⟨0x80000 + n * 0x40, 30, 30⟩
abbrev SBUS_CFGn_khz (n : Nat) : Fld := ⟨0x80000 + n * 0x40, 15, 0⟩
abbrev SBUS_STATn_state (n : Nat) : Fld := ⟨0x80004 + n * 0x40, 31, 30⟩
abbrev SBUS_STATn_stuck (n : Nat) : Fld := ⟨0x80004 + n * 0x40, 23, 16⟩
abbrev SBUS_STATn_errors (n : Nat) : Fld := ⟨0x80004 + n * 0x40, 15, 0⟩
abbrev PCIE_STATUS_link_up : Fld := ⟨0xFE0000, 31, 31⟩
abbrev PCIE_STATUS_speed : Fld := ⟨0xFE0000, 30, 28⟩
abbrev PCIE_STATUS_width : Fld := ⟨0xFE0000, 27, 24⟩
abbrev PCIE_STATUS_head : Fld := ⟨0xFE0000, 5, 0⟩
abbrev PCIE_CMD_DB_tail : Fld := ⟨0xFE0010, 5, 0⟩
abbrev PCIE_CPL_DB_head : Fld := ⟨0xFE0014, 5, 0⟩
abbrev GLB_MODE_changes : Fld := ⟨0x0, 31, 24⟩
abbrev GLB_MODE_witness : Fld := ⟨0x0, 19, 19⟩
abbrev GLB_MODE_fenced : Fld := ⟨0x0, 18, 18⟩
abbrev GLB_MODE_holdover : Fld := ⟨0x0, 17, 17⟩
abbrev GLB_MODE_throttle : Fld := ⟨0x0, 16, 16⟩
abbrev GLB_MODE_frozen : Fld := ⟨0x0, 15, 15⟩
abbrev GLB_MODE_lead : Fld := ⟨0x0, 10, 10⟩
abbrev GLB_MODE_prev : Fld := ⟨0x0, 9, 7⟩
abbrev GLB_MODE_mode : Fld := ⟨0x0, 2, 0⟩
abbrev GLB_ID_part : Fld := ⟨0x10, 31, 16⟩
abbrev GLB_ID_code : Fld := ⟨0x10, 15, 8⟩
abbrev GLB_ID_major : Fld := ⟨0x10, 7, 4⟩
abbrev GLB_ID_minor : Fld := ⟨0x10, 3, 0⟩
abbrev GLB_UNITS_ve : Fld := ⟨0x14, 31, 24⟩
abbrev GLB_UNITS_nch : Fld := ⟨0x14, 23, 16⟩
abbrev GLB_UNITS_dmc : Fld := ⟨0x14, 15, 8⟩
abbrev GLB_UNITS_ports : Fld := ⟨0x14, 7, 4⟩
abbrev GLB_UNITS_seam : Fld := ⟨0x14, 3, 0⟩
abbrev GLB_ACC_ERR_valid : Fld := ⟨0x20, 31, 31⟩
abbrev GLB_ACC_ERR_kind : Fld := ⟨0x20, 30, 29⟩
abbrev GLB_ACC_ERR_offset : Fld := ⟨0x20, 27, 0⟩
abbrev GLB_SCRATCH_value : Fld := ⟨0x30, 31, 0⟩
abbrev MON_CFGm_sel (n : Nat) : Fld := ⟨0x41000 + n * 0x80, 31, 28⟩
abbrev MON_CFGm_base_log2 (n : Nat) : Fld := ⟨0x41000 + n * 0x80, 27, 23⟩
abbrev MON_CFGm_inst (n : Nat) : Fld := ⟨0x41000 + n * 0x80, 15, 0⟩
abbrev MON_COUNTm_value (n : Nat) : Fld := ⟨0x41004 + n * 0x80, 31, 0⟩
abbrev MON_MINm_value (n : Nat) : Fld := ⟨0x41008 + n * 0x80, 31, 0⟩
abbrev MON_MAXm_value (n : Nat) : Fld := ⟨0x4100C + n * 0x80, 31, 0⟩
abbrev MON_BINm_k_bin (n k : Nat) : Fld := ⟨0x41010 + n * 0x80 + k * 0x4, 31, 0⟩

end F

end Sys2Proof.Machine
end

