-- ==== Sys2Proof/Machine/Ev.lean ====
section
/-! DEFINITION. The events of R353 by number and their severities (R355). An event of DMCn or PORTn takes its
controller or port. -/

namespace Sys2Proof.Machine

namespace Ev

abbrev GLB_MODE_CHANGE : Nat := 0
abbrev WEFT_STALL : Nat := 1
abbrev SPOOL_DOUBLE_FREE : Nat := 2
abbrev SPOOL_FOREIGN_FREE : Nat := 3
abbrev GLB_IMAGE_LOST : Nat := 4
abbrev GLB_IMAGE_OLDER : Nat := 5
abbrev GLB_RESTORE_SERVING : Nat := 6
abbrev GLB_RESTORE_DONE : Nat := 7
abbrev GLB_RESTORE_POISON : Nat := 8
abbrev FEN_PWR_FAIL : Nat := 16
abbrev FEN_SEQ_FAULT : Nat := 17
abbrev FEN_RAIL_DROP : Nat := 18
abbrev FEN_VCORE_FAULT : Nat := 19
abbrev FEN_MON_TRIP : Nat := 20
abbrev FEN_BAT_FULL : Nat := 21
abbrev FEN_BAT_AUTH_FAIL : Nat := 22
abbrev FEN_BAT_LOST : Nat := 23
abbrev FEN_DOZE_ENTER : Nat := 24
abbrev FEN_DOZE_EXIT : Nat := 25
abbrev THM_LIFECYCLE : Nat := 32
abbrev THM_DBG_OPEN : Nat := 33
abbrev THM_DBG_FAIL : Nat := 34
abbrev THM_ENTROPY_FAIL : Nat := 35
abbrev THM_KEY_DESTROYED : Nat := 36
abbrev TIME_HOLDOVER : Nat := 48
abbrev TIME_OUT_OF_SPEC : Nat := 49
abbrev TIME_STEP_PENDING : Nat := 50
abbrev TIME_STEPPED : Nat := 51
abbrev TIME_COMMIT_HELD : Nat := 52
abbrev NORC_COPY_SKIPPED : Nat := 64
abbrev NORC_NO_IMAGE : Nat := 65
abbrev NORC_RAIL_MISMATCH : Nat := 66
abbrev NORC_REC_BAD : Nat := 67
abbrev NORC_ERASE_INCOMPLETE : Nat := 68
abbrev NORC_SEQ_FOREIGN : Nat := 69
abbrev NORC_BROWNOUT : Nat := 70
abbrev NORC_OP_DONE : Nat := 71
abbrev RGN_WALK_DEVICE : Nat := 80
abbrev RGN_WALK_POISON : Nat := 81
abbrev RGN_WALK_RANGE : Nat := 82
abbrev RGN_DRAIN_ABANDON : Nat := 83
abbrev RGN_PARK_FULL : Nat := 84
abbrev VE_QP_ERROR : Nat := 96
abbrev VE_FENCED : Nat := 97
abbrev VE_REPLACED : Nat := 98
abbrev VE_UNBOUND : Nat := 99
abbrev PUB_SUB_STOPPED : Nat := 112
abbrev PUB_SUB_DETACHED : Nat := 113
abbrev PUB_BAD_RELEASE : Nat := 114
abbrev TLR_CAP_SHRINK : Nat := 128
abbrev TLR_CAP_GROW : Nat := 129
abbrev TLR_THROTTLE : Nat := 130
abbrev TLR_CAP_BELOW_PIN : Nat := 131
abbrev TLR_CAP_OVER_FROZEN : Nat := 132
abbrev TLR_CHURN : Nat := 133
abbrev TLR_CHURN_FULL : Nat := 134
abbrev TLR_EXT_DONE : Nat := 135
abbrev SEAM_PAIR_MISMATCH : Nat := 144
abbrev SEAM_LINK_DOWN : Nat := 145
abbrev SEAM_LINK_UP : Nat := 146
abbrev SEAM_TWIN_STATE : Nat := 147
abbrev SEAM_TWIN_LOST : Nat := 148
abbrev SEAM_TWIN_BACK : Nat := 149
abbrev SEAM_WIT_GRANT : Nat := 150
abbrev SEAM_TOKEN_BAD : Nat := 151
abbrev SEAM_MIRROR_REFUSED : Nat := 152
abbrev SEAM_RSY_CUTOVER : Nat := 153
abbrev SEAM_RSY_DONE : Nat := 154
abbrev SEAM_RSY_ABORT : Nat := 155
abbrev NCACHE_MAINT_DONE : Nat := 160
abbrev NCACHE_FRESH_FULL : Nat := 161
abbrev NCACHE_TAG_LOST : Nat := 162
abbrev QLT_SAVE_SHORT : Nat := 176
abbrev QLT_ORPHAN : Nat := 177
abbrev QLT_PARITY_REBUILD : Nat := 178
abbrev QLT_UE : Nat := 179
abbrev QLT_BLOCK_RETIRE : Nat := 180
abbrev QLT_SPARE_LOW : Nat := 181
abbrev QLT_FROZEN : Nat := 182
abbrev QLT_FULL : Nat := 183
abbrev QLT_DISCARD_DONE : Nat := 184
abbrev NCH_TARGET_FAIL : Nat := 185
abbrev CRC_SCAN_DONE : Nat := 192
abbrev CRC_SCAN_MISMATCH : Nat := 193
abbrev CRYP_DUAL_MISMATCH : Nat := 194
abbrev CRYP_LANE_FAIL : Nat := 195
abbrev CRYP_LANE_LOW : Nat := 196
abbrev CRYP_CTX_BAD : Nat := 197
abbrev LKS_MISMATCH : Nat := 208
abbrev LKS_TRANSIENT : Nat := 209
abbrev LKS_UNTRUSTED : Nat := 210
abbrev LKS_DEGRADED : Nat := 211
abbrev SBUS_BUS_STUCK : Nat := 224
abbrev SBUS_BUS_FAILED : Nat := 225
abbrev PCIE_LINK_DOWN : Nat := 226
abbrev PCIE_LINK_UP : Nat := 227
abbrev EVT_OVERFLOW : Nat := 240
abbrev PEAT_CLEARED : Nat := 241
abbrev PEAT_CLEAR_BAD : Nat := 242
abbrev PEAT_DROPPED : Nat := 243
abbrev PEAT_STORE_LOST : Nat := 244
abbrev DMC_POP_BAD (n : Fin 16) : Nat := 256 + 16 * n.val
abbrev DMC_TRAIN_FAIL (n : Fin 16) : Nat := 257 + 16 * n.val
abbrev DMC_DRIFT (n : Fin 16) : Nat := 258 + 16 * n.val
abbrev DMC_CE (n : Fin 16) : Nat := 259 + 16 * n.val
abbrev DMC_UE (n : Fin 16) : Nat := 260 + 16 * n.val
abbrev DMC_MARK (n : Fin 16) : Nat := 261 + 16 * n.val
abbrev DMC_MARK_SECOND (n : Fin 16) : Nat := 262 + 16 * n.val
abbrev DMC_RETIRE (n : Fin 16) : Nat := 263 + 16 * n.val
abbrev PORT_LINK_DOWN (n : Fin 8) : Nat := 512 + 16 * n.val
abbrev PORT_LINK_UP (n : Fin 8) : Nat := 513 + 16 * n.val
abbrev PORT_MSEC_PN_HIGH (n : Fin 8) : Nat := 514 + 16 * n.val

end Ev

/-- The fixed severity of an event (R355): 3 CRITICAL, 2 ERROR, 1 NOTICE, 0 INFO. -/
def severity (ev : Nat) : Nat :=
  if [4, 16, 17, 19, 32, 36, 65, 148, 162, 177, 179, 182, 196, 210, 241, 244].contains ev || (256 ≤ ev && ev < 512 && [4].contains (ev % 16)) then 3
  else if [6, 7, 20, 33, 48, 50, 52, 84, 113, 128, 130, 147, 149, 150, 153, 184, 209].contains ev then 1
  else if [0, 21, 24, 25, 51, 71, 96, 98, 112, 114, 129, 133, 135, 146, 154, 160, 192, 227].contains ev || (256 ≤ ev && ev < 512 && [3, 2].contains (ev % 16)) || (512 ≤ ev && ev < 640 && [1].contains (ev % 16)) then 0
  else 2

end Sys2Proof.Machine
end

