-- ==== Sys2Proof/Machine/Base.lean ====
section
/-! DEFINITION. Keyed lists in canonical form (keys strictly rising), bit fields and bounded counters: the plain data
operations that every unit uses. -/

namespace Sys2Proof.Machine

/-- The value a keyed list holds under a key. -/
def alGet {α : Type} : List (Nat × α) → Nat → Option α
  | [], _ => none
  | (k, v) :: l, n => if k = n then some v else alGet l n

/-- Puts a value under a key, keeping the keys in rising order. -/
def alPut {α : Type} : List (Nat × α) → Nat → α → List (Nat × α)
  | [], n, v => [(n, v)]
  | (k, w) :: l, n, v =>
    if n < k then (n, v) :: (k, w) :: l
    else if n = k then (n, v) :: l
    else (k, w) :: alPut l n v

/-- Removes a key. -/
def alDel {α : Type} (l : List (Nat × α)) (n : Nat) : List (Nat × α) := l.filter (fun p => p.1 != n)

/-- The value under a key, or the value an unlisted key stands for. -/
def alGetD {α : Type} (l : List (Nat × α)) (n : Nat) (d : α) : α := (alGet l n).getD d

/-- Changes the value under a key, if there is one. -/
def alMod {α : Type} (l : List (Nat × α)) (n : Nat) (f : α → α) : List (Nat × α) :=
  match alGet l n with
  | some v => alPut l n (f v)
  | none => l

/-- The keys of a list strictly rise from a lower bound. -/
def alRises {α : Type} : Nat → List (Nat × α) → Bool
  | _, [] => true
  | b, (k, _) :: l => decide (b ≤ k) && alRises (k + 1) l

/-- Puts a number into a rising list of numbers. -/
def setAdd : List Nat → Nat → List Nat
  | [], n => [n]
  | k :: l, n => if n < k then n :: k :: l else if n = k then k :: l else k :: setAdd l n

/-- Removes a number from a list of numbers. -/
def setDel (l : List Nat) (n : Nat) : List Nat := l.filter (fun k => k != n)

/-- Bits `hi` to `lo` of a word. -/
def bitsOf (w : Word) (hi lo : Nat) : Nat := w.toNat / 2 ^ lo % 2 ^ (hi + 1 - lo)

/-- A word with `v` in bits `hi` to `lo`. -/
def putBits (w : Word) (hi lo v : Nat) : Word :=
  BitVec.ofNat 32 (w.toNat / 2 ^ (hi + 1) * 2 ^ (hi + 1) + v % 2 ^ (hi + 1 - lo) * 2 ^ lo + w.toNat % 2 ^ lo)

/-- The number of bits of a field. -/
def Fld.width (f : Fld) : Nat := f.hi + 1 - f.lo

/-- The greatest value of a field. -/
def Fld.max (f : Fld) : Nat := 2 ^ f.width - 1

/-- Two's complement of `w` bits. -/
def ofSigned (w : Nat) (v : Int) : Nat := (v % (2 ^ w : Int)).toNat

/-- A `w`-bit field read as two's complement. -/
def toSigned (w n : Nat) : Int := if n < 2 ^ (w - 1) then (n : Int) else (n : Int) - (2 ^ w : Int)

/-- Division rounding up. -/
def ceilDiv (a b : Nat) : Nat := (a + b - 1) / b

/-- The bytes of a number, least significant first. -/
def leBytes : Nat → Nat → List Byte
  | 0, _ => []
  | n + 1, v => BitVec.ofNat 8 v :: leBytes n (v / 256)

/-- The number that bytes spell, least significant first. -/
def leNat : List Byte → Nat
  | [] => 0
  | b :: l => b.toNat + 256 * leNat l

/-- Runs `f` for the numbers `n` to `n + k - 1` in order. -/
def forUp {σ : Type} (f : Nat → σ → σ) : Nat → Nat → σ → σ
  | 0, _, s => s
  | k + 1, n, s => forUp f k (n + 1) (f n s)

end Sys2Proof.Machine
end

