-- ==== Sys2Proof/Machine/Flags.lean ====
section
/-! DEFINITION. The check values of the device: CRC-32C and CRC-64 (R259), folding (R260), and the Reed-Solomon code over
GF(2^8) that protects a DRAM burst (R210, R211). -/

namespace Sys2Proof.Machine

/-- One bit of a reflected CRC with reflected polynomial `p`. -/
def crcBit (p c : Nat) : Nat := if c % 2 = 1 then Nat.xor (c / 2) p else c / 2

/-- One byte of a reflected CRC: eight bits, least significant first. -/
def crcByte (p c : Nat) (b : Byte) : Nat :=
  let c := Nat.xor c b.toNat
  crcBit p (crcBit p (crcBit p (crcBit p (crcBit p (crcBit p (crcBit p (crcBit p c)))))))

/-- A reflected CRC with initial value and final XOR `m` (all ones, R259). -/
def crcOver (p m : Nat) (data : List Byte) : Nat := Nat.xor (data.foldl (crcByte p) m) m

/-- CRC-32C (R259): polynomial 0x1EDC_6F41, reflected 0x82F6_3B78. -/
def crc32c (data : List Byte) : Nat := crcOver 0x82F63B78 0xFFFFFFFF data

/-- CRC-64 (R259): polynomial 0x42F0_E1EB_A9EA_3693, reflected 0xC96C_5795_D787_0F42. -/
def crc64 (data : List Byte) : Nat := crcOver 0xC96C5795D7870F42 0xFFFFFFFFFFFFFFFF data

/-- The 16-byte prefix of a folded check (R260): 48-bit address and sequence number, each as 8 bytes. -/
def foldPrefix (addr seq : Nat) : List Byte := leBytes 8 (addr % 2 ^ 48) ++ leBytes 8 seq

/-- Multiplication by α in GF(2^8) with field polynomial x^8 + x^4 + x^3 + x^2 + 1 (R210). -/
def gfDouble (a : Nat) : Nat := if a < 128 then 2 * a else Nat.xor (2 * a) 0x11D

/-- Multiplication by α^n. -/
def gfAlpha : Nat → Nat → Nat
  | 0, a => a
  | n + 1, a => gfAlpha n (gfDouble a)

/-- The XOR of α^(i step) times symbol i: a syndrome of a codeword (R210). -/
def rsSyndrome (step : Nat) : Nat → List Byte → Nat
  | _, [] => 0
  | i, b :: l => Nat.xor (gfAlpha (i * step) b.toNat) (rsSyndrome step (i + 1) l)

/-- The four bits that a device drives on a beat. -/
def nibble (beat : BitVec 40) (device : Nat) : Nat := beat.toNat / 16 ^ device % 16

/-- The eight codewords of a burst (R210): symbol d of codeword j is what device d drives on beats 2j and 2j + 1, the first of them in the low bits (DESIGN CHOICE, log
entry 172). -/
def burstWords (b : List (BitVec 40)) : List (List Byte) :=
  (List.range 8).map (fun j => (List.range 10).map (fun d =>
    BitVec.ofNat 8 (nibble (b.getD (2 * j) 0) d + 16 * nibble (b.getD (2 * j + 1) 0) d)))

/-- The two check symbols of eight data symbols (R210): with them both syndromes, at the roots α^0 and α^1, are zero. α^230 is the inverse of 1 + α, and α^247 that of
α^8. -/
def rsChecks (data : List Byte) : List Byte :=
  let s0 := rsSyndrome 0 0 data
  let c9 := gfAlpha 230 (Nat.xor s0 (gfAlpha 247 (rsSyndrome 1 0 data)))
  [BitVec.ofNat 8 (Nat.xor s0 c9), BitVec.ofNat 8 c9]

/-- What one codeword decodes to (R211): no error, one symbol in error, or no single symbol that explains it. -/
inductive Symbol where
  | clean | at_ (device : Nat) | bad
  deriving DecidableEq, Repr

/-- The symbol that a codeword's syndromes locate, among ten. -/
def rsLocate (word : List Byte) : Symbol :=
  let s0 := rsSyndrome 0 0 word
  let s1 := rsSyndrome 1 0 word
  if s0 = 0 ∧ s1 = 0 then .clean
  else if s0 = 0 then .bad
  else
    match (List.range 10).find? (fun i => gfAlpha i s0 = s1) with
    | some i => .at_ i
    | none => .bad

/-- The outcome of a burst (R211): no error, corrected on a device, rebuilt on the marked device, uncorrectable. -/
inductive Burst where
  | clean | corrected (device : Nat) | rebuilt | bad
  deriving DecidableEq, Repr

/-- The devices that the codewords in error locate; `none` where one locates no device. -/
def located : List Symbol → Option (List Nat)
  | [] => some []
  | .clean :: l => located l
  | .at_ i :: l => (located l).map (fun r => i :: r)
  | .bad :: _ => none

/-- R211: with a marked device its symbols are erasures, and a further error anywhere is uncorrectable. -/
def decodeBurst (mark : Option Nat) (words : List (List Byte)) : Burst :=
  match located (words.map rsLocate) with
  | some [] => .clean
  | some (d :: l) =>
    if l.all (· == d) then
      (match mark with
       | none => .corrected d
       | some m => if m = d then .rebuilt else .bad)
    else .bad
  | none => .bad

end Sys2Proof.Machine
end

