-- ==== Sys2Proof/Machine/RegOps.lean ====
section
/-! DEFINITION. What the register table says of an offset: whether a register lies there, its reset value on each part
(R385), its fields, and whether it belongs to a fused unit of an MX part (R2). -/

namespace Sys2Proof.Machine

/-- The two dies of R1. -/
inductive Part where
  | hx | mx
  deriving DecidableEq, Repr

/-- The pair of instance numbers at which a register family lies at `off`, if it does. -/
def RegSpec.at_ (r : RegSpec) (off : Nat) : Option (Nat × Nat) :=
  if off < r.base then none
  else
    let d := off - r.base
    let i := if r.stride = 0 then 0 else d / r.stride
    let e := if r.stride = 0 then d else d % r.stride
    let j := if r.step = 0 then 0 else e / r.step
    let z := if r.step = 0 then e else e % r.step
    if i < r.n ∧ j < r.m ∧ z = 0 then some (i, j) else none

/-- The first register family of a list that lies at `off`. -/
def findIn : List RegSpec → Nat → Option (RegSpec × Nat × Nat)
  | [], _ => none
  | r :: l, off =>
    match r.at_ off with
    | some (i, j) => some (r, i, j)
    | none => findIn l off

/-- The register at an aperture offset (R385). -/
def regAt (off : Nat) : Option (RegSpec × Nat × Nat) := findIn regTable off

/-- The ordering code and silicon revision of GLB_ID (R383); the die is revision 1.0 (DESIGN CHOICE, log entry 4). -/
def identWord : Part → Word
  | .hx => 0x72600110#32
  | .mx => 0x72600210#32

/-- GLB_UNITS (R383). -/
def unitsWord : Part → Word
  | .hx => 0x40201082#32
  | .mx => 0x20100842#32

/-- The reset value of instance `(i, j)` of a register family on a part (R385). -/
def ResetRule.value (p : Part) (i j : Nat) : ResetRule → Word
  | .const w => w
  | .route => BitVec.ofNat 32 (j + if severity j = 3 then 0x10000000 else 0)
  | .sbus => if j = 1 then 0xC0000064#32 else if j < 4 then 0x80000190#32 else 0x800030D4#32
  | .ident => if i = 0 then identWord p else identWord p
  | .units => unitsWord p

/-- The reset value of the register at an offset; 0 where no register lies. -/
def resetWord (p : Part) (off : Nat) : Word :=
  match regAt off with
  | some (r, i, j) => r.reset.value p i j
  | none => 0

/-- The offset lies in a block instance that is fused off on an MX part (R2). -/
def fusedOff (p : Part) (off : Nat) : Bool :=
  match p with
  | .hx => false
  | .mx =>
    (decide (0x600000 ≤ off) && decide (off < 0x800000)) || (decide (0x840000 ≤ off) && decide (off < 0x880000)) ||
    (decide (0xC80000 ≤ off) && decide (off < 0xD00000)) || (decide (0xE90000 ≤ off) && decide (off < 0xEA0000))

/-- Verb engines, ports, DRAM controllers and NAND channels of a part (R1). -/
def Part.engines : Part → Nat | .hx => 64 | .mx => 32
def Part.ports : Part → Nat | .hx => 8 | .mx => 4
def Part.dmcs : Part → Nat | .hx => 16 | .mx => 8
def Part.channels : Part → Nat | .hx => 32 | .mx => 16

end Sys2Proof.Machine
end

