-- ==== Sys2Proof/Machine/Units.lean ====
section
/-! DEFINITION. The state of each unit of the device behind its registers: plain data, one structure per unit. -/

namespace Sys2Proof.Machine

/-- The modes of R7. -/
inductive Mode where
  | reset | bringup | restore | solo | paired | resync | doze | save
  deriving DecidableEq, Repr

/-- The mode code of R7. -/
def Mode.code : Mode → Nat
  | .reset => 0 | .bringup => 1 | .restore => 2 | .solo => 3
  | .paired => 4 | .resync => 5 | .doze => 6 | .save => 7

/-! ### The command gate and the Weft watchdog (01) -/

/-- The command gate (R24 to R29). `window` holds the commands of the open window with the time each arrived, in arrival
order; `waiting` those that contend for a later window, one of each issuer, in arrival order (R21, R25); `behind` those that follow
them from the same issuers; `granted` the commands granted and not yet started, in start order; `running` those started and
not yet completed. -/
structure Gate where
  active  : Bool := false
  window  : List (GateCmd × Nat) := []
  waiting : List (GateCmd × Nat) := []
  behind  : List (GateCmd × Nat) := []
  granted : List GateCmd := []
  running : List GateCmd := []
  deriving DecidableEq, Repr

/-- A Weft handshake that waits for its acknowledge (R22): its channel, when it was requested, and whether its stall has
been raised. -/
structure Handshake where
  channel : BitVec 16
  since   : Nat
  raised  : Bool
  deriving DecidableEq, Repr

/-! ### Spool (01) -/

/-- A Spool cell's owner tag (R30) and the PFC priority of what it holds (R85). -/
structure Cell where
  owner : Nat
  gen   : Nat
  prio  : Nat
  deriving DecidableEq, Repr

/-- Spool (R30 to R34): the cells that differ from a free cell of generation 0, the requests that wait (owner, priority),
the bad frees of the last second per engine (engine, time), the engines whose cells are being reclaimed, and the chain (cell, generation)
that holds the packet at hand, which is empty between commands. -/
structure Spool where
  cells    : List (Nat × Cell) := []
  waiting  : List (Nat × Nat) := []
  badFrees : List (Nat × Nat) := []
  reclaims : List Nat := []
  inHand   : List (Nat × Nat) := []
  deriving DecidableEq, Repr

/-! ### Events, monitors, Peat (15) -/

/-- An entry of an event frame (R369): source, instance of the latest raise, raises counted. -/
structure Entry where
  source : Nat
  inst   : Nat
  count  : Nat
  deriving DecidableEq, Repr

/-- An event frame in its queue (R356): when it was produced, its commit-clock stamp and its entries. -/
structure EvFrame where
  at_     : Nat
  stamp   : Nat
  entries : List Entry
  deriving DecidableEq, Repr

/-- The event unit (R356 to R358, R368): queued frames, per source the time of its last entry, raises held with their
count and latest instance, whether EVT_OVERFLOW was raised in this full period, subscribed destinations by number
(address, QPN), and the MSI-X messages that wait (physical function, vector). -/
structure Events where
  frames   : List EvFrame := []
  last     : List (Nat × Nat) := []
  held     : List (Nat × Nat × Nat) := []
  fullSeen : Bool := false
  dests    : List (Nat × Nat × Nat) := []
  msix     : List (Nat × Nat) := []
  deriving DecidableEq, Repr

/-- A live monitor (R359): count, least, greatest, bins. -/
structure Live where
  count : Nat
  min   : Nat
  max   : Nat
  bins  : List Nat
  deriving DecidableEq, Repr

/-- A monitor that has taken no sample (R359). -/
def Live.zero : Live := ⟨0, 0xFFFFFFFF, 0, List.replicate 16 0⟩

/-- A Peat record (R361) without its reserved bytes and check. `lastAt` is the time of the latest raise on the management
reference timer, none where that time lies before the last entry into RESET (DESIGN CHOICE, log entry 11). -/
structure PeatRec where
  kind    : Nat
  sev     : Nat
  source  : Nat
  inst    : Nat
  config  : Nat
  seq     : Nat
  firstH  : Nat
  firstC  : Nat
  lastH   : Nat
  lastC   : Nat
  data    : Live
  lastAt  : Option Nat
  deriving DecidableEq, Repr

/-- A raise that waits for the Peat element (R360): source, instance, time. -/
structure Raise where
  source : Nat
  inst   : Nat
  at_    : Nat
  deriving DecidableEq, Repr

/-! ### Management paths and sideband buses (16) -/

/-- A submission slot taken and not yet completed (R367): its index and the command's tag. -/
structure PcieSlot where
  slot : Nat
  tag  : BitVec 16
  deriving DecidableEq, Repr

/-- A sideband controller under recovery (R374): the retries that have failed. Its requests have no row (DESIGN CHOICE, log entry 23). -/
structure Sbus where
  tries   : Nat
  deriving DecidableEq, Repr

/-! ### Cipher engine, scan engine, lockstep (10) -/

/-- A MACsec association (R270, R272): key, salt, SSCI and the next transmit or lowest acceptable packet number. -/
structure Assoc where
  key  : Nat
  salt : Nat
  ssci : BitVec 32
  pn   : Nat
  deriving DecidableEq, Repr

/-- The cipher engine outside the persistence domain: mismatches per lane (lane, time) and the 4-byte nonce prefix drawn at
BRINGUP (R269, R271). -/
structure Cryp where
  misses : List (Nat × Nat) := []
  nonce  : Option Nat := none
  deriving DecidableEq, Repr

/-- A scan that runs (R263): start, length, fold, CRC-64, compare, sequence number, expected value. -/
structure Scan where
  addr    : Nat
  len     : Nat
  fold    : Bool
  crc64   : Bool
  compare : Bool
  seq     : Nat
  expect  : Nat
  deriving DecidableEq, Repr

/-- The lockstep pairs behind LKS_STATUS (R276 to R279): tasks per pair, transients (pair, time), pairs a debugger halts,
pairs that failed the BRINGUP check. -/
structure Lks where
  tasks      : List Nat := [0, 0, 0, 0]
  transients : List (Nat × Nat) := []
  halted     : List Nat := []
  deriving DecidableEq, Repr

/-! ### Thimble (14) -/

/-- The DRK as THM_KEYS.drk tells it (R352). -/
inductive Drk where
  | absent | present | destroyed
  deriving DecidableEq, Repr

/-- One step of a fuse sequence (R341, R343, R349, R350). -/
inductive Burn where
  | drk | keys (which : BitVec 4) | wrapKey | rollback | destroyBegun | scrapIntent | revokeOwner | destroyKeys
  | revokeMaker | life (code : Nat)
  deriving DecidableEq, Repr

/-- A fuse sequence that runs: its steps left and the command it completes; `none` where the device completes an interrupted
sequence at power-on (R349). -/
structure BurnRun where
  steps : List Burn
  for_  : Option Hdr
  deriving DecidableEq, Repr

/-- What a token under verification opens (R346, R364). -/
inductive TokenUse where
  | debug (level : Nat) | life (code : Nat) | peat (scope : Nat)
  deriving DecidableEq, Repr

/-- A signature check that runs (R346): the token, its use, the command it completes (none for the test access port), and
whether its fields and challenge were right when it was presented. -/
structure Verify where
  token : Token
  use   : TokenUse
  for_  : Option Hdr
  ok    : Bool
  deriving DecidableEq, Repr

/-- Thimble's fuses (R338, R341, R342, R346): one-time-programmable. -/
structure Fuses where
  life         : Nat
  destroyBegun : Bool
  scrapIntent  : Bool
  programmed   : BitVec 4
  revoked      : BitVec 4
  drk          : Drk
  wrapKey      : Drk
  rollback     : Nat
  devid        : Nat
  deriving DecidableEq, Repr

/-- Thimble beside its fuses and registers. `challenge` is the current challenge, `verify` the tokens under check in the order
of the unlock element. `fresh` says that a reseed has passed since
the last failure of a health test (R340). -/
structure Thimble where
  challenge : Option Nat := none
  verify    : List Verify := []
  burn      : Option BurnRun := none
  fresh     : Bool := true
  deriving DecidableEq, Repr

/-! ### The time unit (12) -/

/-- A PPS input as a source of time (R307): the TAI second named for its next edge, edges that have fallen within ±1 µs. -/
structure Pps where
  named : Option Nat := none
  good  : Nat := 0
  deriving DecidableEq, Repr

/-- The time unit (R306 to R314). `tod` counts ns since the PTP epoch; `held` is the value at which the commit clock is held;
`announced` and `exchanges` qualify PTP; `pps0`, `pps1` the PPS inputs; `slew` is the offset still to be slewed out, `slewFs` the part of the next ns of it, in fs;
`band` the time since which the offset has stayed within ±100 ns in LOCKING;
`step` the offset above 1 ms that a permitted step will apply; `offsets` the offsets measured in LOCKED (time, ns);
`wasLocked` LOCKED was reached since BRINGUP;
`u0` the mean offset at the loss of the source as a sum and a count; `pulseAt` the time of the latest pulse, `pulseSec` the second of time-of-day whose boundary it marked. -/
structure TimeUnit where
  tod       : Nat := 0
  held      : Option Nat := none
  announced : Bool := false
  exchanges : Nat := 0
  pps0      : Pps := {}
  pps1      : Pps := {}
  slew      : Int := 0
  slewFs    : Nat := 0
  band      : Option Nat := none
  step      : Option Int := none
  offsets   : List (Nat × Int) := []
  wasLocked : Bool := false
  u0Sum     : Nat := 0
  u0Count   : Nat := 1
  pulseAt   : Option Nat := none
  pulseSec  : Nat := 0
  deriving DecidableEq, Repr

/-! ### SAVE and RESTORE (06) -/

/-- A SAVE in progress (R144): the step reached (0: none runs), planned, delta, the mode at step 0, whether Quilt's close and
the streaming have ended, and the header's values taken at step 0; the room_tiles of an image under RESTORE (R157); the slot and generation of
the image under SAVE or RESTORE. -/
structure SaveRun where
  step       : Nat := 0
  planned    : Bool := false
  delta      : Bool := false
  entryMode  : Mode := .reset
  lead       : Bool := false
  tierClosed : Bool := false
  streamed   : Option Nat := none
  lastCommit : Nat := 0
  eEst       : Nat := 0
  hours      : Nat := 0
  cycles     : Nat := 0
  epoch      : Nat := 0
  room       : Nat := 0
  slot       : Nat := 0
  gen        : Nat := 0
  deriving DecidableEq, Repr

/-- Power-fail indications under confirmation, per path 1 to 3 (R140), and the low samples path 3 has seen. -/
structure PowerFail where
  comparator : Bool := false
  pin        : Bool := false
  sampled    : Bool := false
  deriving DecidableEq, Repr

/-- The header of a save image (R150), with the write sequence that the image holds (R230). -/
structure ImgHeader where
  delta       : Bool
  planned     : Bool
  paired      : Bool
  lead        : Bool
  entryMode   : Mode
  generation  : Nat
  baseGen     : Nat
  lastCommit  : Nat
  mirrorStamp : Nat
  epoch       : Nat
  unit        : Bool
  framesFound : Nat
  framesSaved : Nat
  hours       : Nat
  cycles      : Nat
  saveMs      : Nat
  eEst        : Nat
  deltaOff    : Nat
  wseq        : Nat
  deriving DecidableEq, Repr

/-- The types of a journal record of the save area (R152). -/
inductive JType where
  | start | sealed_ | released | erased
  deriving DecidableEq, Repr

/-- A journal record of the save area (R152). -/
structure JRec where
  type       : JType
  slot       : Fin 2
  off        : Nat
  generation : Nat
  stamp      : Nat
  deriving DecidableEq, Repr

/-! ### Domains, regions, queue pairs (02, 03, 16) -/

/-- An ACTIVE protection domain (R41). -/
structure Domain where
  regionQuota : Nat
  qpQuota     : Nat
  keySlot     : Nat
  deriving DecidableEq, Repr

/-- The states of a region descriptor (R46, R49). -/
inductive RState where
  | free | valid | closing
  deriving DecidableEq, Repr

/-- A region descriptor (R46), with the deregister command that closes it and the drains that have ended, here and on the twin (R61). -/
structure Rgn where
  state     : RState := .free
  broken    : Bool := false
  tiled     : Bool := false
  local_    : Bool := false
  flush     : Bool := false
  atomic    : Bool := false
  write     : Bool := false
  read      : Bool := false
  pd        : Nat := 0
  epoch     : Nat := 0
  vaBase    : Nat := 0
  length    : Nat := 0
  target    : Nat := 0
  tileCount : Nat := 0
  rnrThr    : Nat := 0
  lastFault : Nat := 0
  ext       : Bool := false
  policy    : Nat := 0
  closer    : Option Hdr := none
  selfDone  : Bool := false
  twinDone  : Bool := true
  deriving DecidableEq, Repr

/-- A shared-state command that waits for the twin's CMD_DONE (R58, R169): its header, the command, the values the device chose
for it, and whether this unit issued it as FOLLOW, so that nothing of it has taken effect here. -/
structure Shared where
  hdr  : Hdr
  cmd  : Cmd
  vals : List Nat
  sent : Bool
  deriving DecidableEq, Repr

/-- A posted receive entry (R372). -/
structure RecvEntry where
  wrId   : BitVec 64
  key    : BitVec 32
  offset : Nat
  len    : Nat
  deriving DecidableEq, Repr

/-- A completion ring and the completions written to it (R372). -/
structure Ring where
  def_    : CqDef
  written : Nat := 0
  deriving DecidableEq, Repr

/-- A shared receive queue (R68, R372). -/
structure Srq where
  pd      : Nat
  ring    : Ring
  entries : List RecvEntry := []
  deriving DecidableEq, Repr

/-- What a message does (R67). -/
inductive Verb where
  | write | writeImm | send | read | compareSwap | fetchAdd | atomicWrite | flush
  deriving DecidableEq, Repr

/-- How far a message has come (R77): its packets still arrive, it is parked since a time on tiles that are not present, or
throttled for want of a home, it is accepted, it is committed, its last READ response has left. -/
inductive Phase where
  | receiving | parked (since : Nat) | accepted | committed | sent
  deriving DecidableEq, Repr

/-- A message on a queue pair at its responder (R72 to R79). `pieces` is its translation: appliance address and length of each
part; `got` counts the bytes received. `atPoint` says that a committed write is at its acknowledgement point; `fwd` that FOLLOW
forwarded it (R167); `dup` that it re-executes a READ or FLUSH (R75); `resent` that it re-sends a message already committed
(R87); `arrived` the time of its last packet; `cells` the chain of Spool cells it occupies (R30); `wirePsn` the PSN that a UD message came with,
whose `psn` only numbers it; `awaits` the tiles whose COPY brings a forwarded write that LEAD has committed (R167, R191); `pub` its channel and publisher or, once committed, its sequence number (R94). -/
structure Msg where
  psn     : Nat
  last    : Nat
  verb    : Verb
  region  : Option Nat
  pieces  : List (Nat × Nat)
  len     : Nat
  data    : List Byte
  imm     : BitVec 32
  cmp     : BitVec 64
  swapAdd : BitVec 64
  relaxed : Bool
  ackReq  : Bool
  local_  : Bool
  entry   : Option RecvEntry
  got     : Nat
  phase   : Phase
  atPoint : Bool
  fwd     : Bool
  dup     : Bool
  resent  : Bool
  pub     : Option (Nat × Nat)
  result  : Option (BitVec 64)
  solicit : Bool
  arrived : Nat
  throttled : Bool := false
  cells   : List (Nat × Nat) := []
  wirePsn : Option Nat := none
  awaits  : List Nat := []
  deriving DecidableEq, Repr

/-- A packet that leaves a port (R67, R73, R105): what it is, on which queue pair. -/
inductive Wire where
  | ack (psn : Nat) | nak (psn syndrome aeth : Nat)
  | readResp (psn : Nat) (data : List Byte) | atomicAck (psn : Nat) (result : BitVec 64) | flushResp (psn : Nat)
  | cnp (addr qpn : Nat) | write (key : BitVec 32) (psn : Nat) (parts : List (Nat × List Byte)) (imm : Option Nat)
  | hint (group : Nat) (qKey : BitVec 32) (destQpn : Nat) (payload : List Byte)
  deriving DecidableEq, Repr

/-- A request that the device sent as a requester (R98, R99): its PSNs, its channel and subscriber, the sequence numbers of the
entries it carries, the sequence number and ring offset of each entry and PAD that it leaves to be sealed (R99), the request itself, and when it was last sent (R83). -/
structure Req where
  psn  : Nat
  last : Nat
  chan : Nat
  sub  : Nat
  seqs : List Nat
  seals : List (Nat × Nat)
  wire : Wire
  at_  : Option Nat := none
  deriving DecidableEq, Repr

/-- A queue-pair context (R68 to R90). `nak` is a decided NAK that has not left (PSN, device syndrome and AETH of R73); `naked` says that
packets ahead of epsn are dropped without response; `doneTo` is the PSN after the last completed message; `unacked` holds
PSN and arrival time of each completed write without an ACK; `past` holds the committed messages at or above a replacement point; `replace` is the PSN
of a SEQ_REPLACE NAK that is due and `lostBy` the engine whose fence calls for it; `reqs` are the outstanding requests of a
requester and `tries` its retries of the oldest; `fwdUntil` ends the forwarding of R194, and `giving`
says that it goes back to its former host at its next quiescent point. `cnpAt` is when a CNP last lowered the rate, `cnpSeen` when one last came; `fencedBy` is the engine whose fence unbound it, until it is bound again (R91). `rnrAt` is the PSN of a duplicate that an RNR NAK waits for again (R63);
`rnrTries` counts the RNR NAKs that the oldest request has met; `flushed` holds the PSNs of the work requests flushed with status FLUSHED at the entry into
ERROR (R71); `nextAt` is when its rate lets the next packet leave, `rtts` its ACK round trips of the last 10 ms (time, ns), `ceMarks` the CE marks counted on a cc_class 0
queue pair (R83, R84). -/
structure Qp where
  state     : QpState := .reset
  rc        : Bool := true
  host      : Bool := false
  pd        : Nat := 0
  lport     : Nat := 0
  pmtu      : Nat := 0
  remote    : Option (Nat × Nat) := none
  pKey      : BitVec 16 := 0xFFFF
  qKey      : BitVec 32 := 0
  dscp      : Nat := 0
  prio      : Nat := 0
  epsn      : Nat := 0
  spsn      : Nat := 0
  retry     : Nat := 0
  rnrRetry  : Nat := 0
  resources : Nat := 16
  srq       : Option Nat := none
  ccClass   : Nat := 0
  relaxed   : Bool := false
  engine    : Option Nat := none
  moveTo    : Option Nat := none
  cur       : Option Msg := none
  msgs      : List Msg := []
  atomics   : List (Nat × BitVec 64) := []
  nak       : Option (Nat × Nat × Nat) := none
  naked     : Bool := false
  doneTo    : Nat := 0
  unacked   : List (Nat × Nat) := []
  replace   : Option Nat := none
  lostBy    : Option Nat := none
  past      : List Msg := []
  reqs      : List Req := []
  tries     : Nat := 0
  fwdUntil  : Option Nat := none
  giving    : Bool := false
  syndrome  : Nat := 0
  synPsn    : Nat := 0
  rate      : Rat := 0
  cnpAt     : Option Nat := none
  cnpSentAt : Option Nat := none
  cnpSeen   : Option Nat := none
  fencedBy  : Option Nat := none
  ring      : Option Ring := none
  recvs     : List RecvEntry := []
  rnrAt     : Option Nat := none
  rnrTries  : Nat := 0
  flushed   : List Nat := []
  nextAt    : Nat := 0
  rtts      : List (Nat × Nat) := []
  ceMarks   : Nat := 0
  deriving DecidableEq, Repr

/-- A packet queued at a port (R83): logical port, priority, queue pair, since when, whether it ends a READ's response. -/
structure Tx where
  lport : Nat
  prio  : Nat
  qp    : Nat
  since : Nat
  wire  : Wire
  last  : Bool
  deriving DecidableEq, Repr

/-- The ports (R85, R187, R353): logical ports with a link, pauses honoured (port × 8 + priority, quanta), transmit queues,
standby addresses taken over with announcements left. -/
structure Ports where
  up       : List Nat := []
  paused   : List (Nat × Nat) := []
  tx       : List Tx := []
  announce : List (Nat × Nat) := []
  deriving DecidableEq, Repr

/-- A write of the device's own into a region that waits for a DRAM home (R123): the key slot of the region's domain, its parts, its bytes. -/
structure OwnWrite where
  key   : Nat
  parts : List (Nat × Nat)
  data  : List Byte
  deriving DecidableEq, Repr

/-! ### Tailor (05) -/

/-- The home states of R110. -/
inductive HomeK where
  | unhomed | dram | nand
  deriving DecidableEq, Repr

/-- A tile of the tenant range (R110, R113): its home, or those of its 16 churn units where it is split (`units` not empty), its
DRAM frame, age, dirty-since-copy mark, fresh-frame entry, key slot, whether it is present (R153), the times of its
demotions of the last hour and of its fetches (unit, time), whether it is
flagged churning (R116), and the lines of it that are stored under another key pair than its slot now holds, with that pair (R268). -/
structure Tile where
  home    : HomeK := .unhomed
  units   : List HomeK := []
  frame   : Nat := 0
  age     : Nat := 0
  dirty   : Bool := false
  fresh   : Bool := false
  key     : Nat := 0
  present : Bool := true
  changed : Bool := false
  demoted : List Nat := []
  fetched : List (Nat × Nat) := []
  churn   : Bool := false
  keyed   : List (Nat × Nat) := []
  deriving DecidableEq, Repr

/-- A move of a tile or of one churn unit (R129): its class, towards DRAM or NAND, to a NAND target or a frame, whether Quilt has
reported the NAND copy durable (R112) and at which codeword number (R230), and the extent whose job it belongs to. `within` is a
move from one DRAM frame to another (R131). -/
structure Mig where
  tile    : Nat
  unit    : Option Nat
  cls     : Nat
  toDram  : Bool
  target  : Nat
  frame   : Nat
  durable : Bool
  ext     : Option Nat
  slot    : Nat := 0
  within  : Bool := false
  deriving DecidableEq, Repr

/-- An extent's job (R120): region index, towards DRAM, tiles left in order, and the channel whose turn it is for the next frame (R130). -/
structure ExtJob where
  region : Nat
  toDram : Bool
  left   : List Nat
  turn   : Option Nat := none
  deriving DecidableEq, Repr

/-- Tailor (R121 to R134): moves queued and running, extent jobs, bytes of classes 3 to 5 started (time, bytes), candidates of the
last 10 computations (newest first), whether class-4 demotion runs, the channel of the last demotion, accesses of the last
10 ms (time, channel, bank of the channel), pinned extents (oldest first), for queue-pair rebalancing the message counts at the
last measure per engine, messages completed per queue pair in this period and in the last, periods the busiest engine has been over its
band with its number, and moves left in this period. `back` holds the tiles that a failed switch put at the back of the demotion candidates (R114), `zeroed` the free
frames that a secure discard has written with zeros and valid check bits (R254). -/
structure Tailor where
  queue    : List Mig := []
  running  : List Mig := []
  jobs     : List ExtJob := []
  started  : List (Nat × Nat) := []
  cands    : List Nat := []
  demoting : Bool := false
  lastChan : Nat := 0
  loads    : List (Nat × Nat × Nat) := []
  pinned   : List Nat := []
  engBase  : List (Nat × Nat) := []
  qpLoad   : List (Nat × Nat) := []
  qpLast   : List (Nat × Nat) := []
  overFor  : Nat := 0
  back     : List Nat := []
  zeroed   : List Nat := []
  deriving DecidableEq, Repr

/-- A fetch from NAND under way or a hold on the lines it entered (R36, R62): the tile or unit, the messages that share it (queue
pair, PSN), the codewords entered, since when the critical codeword is in the near cache, when it was issued, whether its hold is over while the rest of
the tile still follows, and whether its map segment must be read first (R236). -/
structure Fetch where
  tile    : Nat
  unit    : Option Nat
  sharers : List (Nat × Nat)
  entered : List Nat
  since   : Option Nat
  issued  : Nat
  spent   : Bool := false
  seg     : Bool := false
  deriving DecidableEq, Repr

/-! ### Quilt (09) -/

/-- The states of a tier block (R239, R241, R245, R248): open for demotions or for relocations, closed, its data being relocated (and
then retired or erased), wholly stale and being erased, retired, the parity block of its group (R240). A free block is not listed while its counts are 0. -/
inductive BState where
  | free | open_ (reloc : Bool) | closed | draining (retire : Bool) | erasing | retired | parity
  deriving DecidableEq, Repr

/-- A tier block (R239 to R248): codewords programmed, erases, reads since the erase, read-verify passed since the close, a scan failed
before its last erase, its parity group, the tiles of which it holds a stale copy, and a secure discard of one of them (R254). -/
structure NBlock where
  st       : BState := .free
  fill     : Nat := 0
  erases   : Nat := 0
  reads    : Nat := 0
  verified : Bool := false
  suspect  : Bool := false
  group    : Nat := 0
  stale    : List Nat := []
  wipe     : Bool := false
  deriving DecidableEq, Repr

/-- The metadata record of a codeword of tier data (R230): appliance address of its first byte, churn unit, written by relocation, write sequence,
which of its 16 lines are poisoned, key slot. -/
structure CwMeta where
  addr   : Nat
  unit   : Bool
  reloc  : Bool
  wseq   : Nat
  poison : List Nat
  key    : Nat
  deriving DecidableEq, Repr

/-- A parity group (R240): the parity pages programmed, and the parity block that holds them, taken when the first of them is programmed. Until then the
parity is in the partial-parity buffer. -/
structure PGroup where
  pages : Nat := 0
  block : Option Nat := none
  deriving DecidableEq, Repr

/-- A root record (R237): checkpoint number, write sequence at the checkpoint, the NAND location of the directory, open blocks, frozen state,
spare blocks left and at the format, the two channels it is programmed on, and the map that the segments of the checkpoint hold. -/
structure Root where
  number : Nat
  wseq   : Nat
  dirAt  : Nat
  open_  : List Nat
  frozen : Bool
  left   : Nat
  init   : Nat := 0
  chans  : List Nat := []
  map    : List (Nat × Nat) := []
  deriving DecidableEq, Repr

/-- A segment in the map cache (R236, R237): its number, its place in the cache, changed since the last checkpoint began, and being
written by the one that runs. -/
structure Seg where
  no      : Nat
  place   : Nat
  dirty   : Bool
  writing : Bool := false
  deriving DecidableEq, Repr

/-- The operation of a target that a fetch suspends (R242): the program of a tile or unit, the erase of a block. -/
inductive NOp where
  | program (tile : Nat) (unit : Option Nat) | erase (block : Nat)
  deriving DecidableEq, Repr

/-- The NAND and Quilt's state that it holds (R230 to R251): formatted, slot size of the save area in tiles (D), usable tier in tiles,
spare blocks at the format and now, frozen, 64 KiB slots per block and per target, targets in use, blocks by
target × 2^20 + block, the next parity group, the write sequence, the newest root record, bytes programmed since the last
checkpoint began, whether one runs, secure discards that have not ended with their start and count (R254), the targets under garbage collection (R245), the map that a replay rebuilds (R238), the operation that each busy target carries out with the number of its
suspends (R242), the write sequence at which the checkpoint that runs began with the map as it was then, and the directory as the last one programmed
it. Of each target, after the format (R231): the blocks of the save area, those of the map area, the first block of the tier, the blocks with a factory bad-block
mark, and the spare blocks that joined its tier (R248); the blocks of the work pool over all targets; the two journal blocks (R255). The metadata of tier codewords that are not erased, by codeword number
(R230), and the parity groups (R240). -/
structure Nand where
  formatted  : Bool := false
  slotTiles  : Nat := 0
  usable     : Nat := 0
  init       : Nat := 0
  left       : Nat := 0
  frozen     : Bool := false
  blockTiles : Nat := 0
  perTarget  : Nat := 0
  targets    : List Nat := []
  blocks     : List (Nat × NBlock) := []
  nextGroup  : Nat := 0
  wseq       : Nat := 0
  root       : Option Root := none
  programmed : Nat := 0
  ckpt       : Bool := false
  secure     : List (Hdr × Nat × Nat) := []
  gcOn       : List Nat := []
  found      : List (Nat × Nat) := []
  ops        : List (Nat × NOp × Nat) := []
  ckptWseq   : Nat := 0
  dir        : List (Nat × Nat) := []
  ckptMap    : List (Nat × Nat) := []
  saveBlocks : Nat := 0
  mapBlocks  : Nat := 0
  first      : Nat := 0
  bad        : List Nat := []
  joined     : List (Nat × Nat) := []
  work       : Nat := 0
  journals   : List Nat := []
  cws        : List (Nat × CwMeta) := []
  groups     : List (Nat × PGroup) := []
  deriving DecidableEq, Repr

/-! ### DRAM controllers and the near cache (08) -/

/-- What training found on a channel (R196 to R198): DIMMs, logical ranks per DIMM, banks per logical rank, frames per bank. -/
structure Pop where
  slots   : Nat
  lranks  : Nat
  banks   : Nat
  perBank : Nat
  deriving DecidableEq, Repr

/-- A line of the near cache (R223). -/
structure CLine where
  line  : Nat
  dirty : Bool
  held  : Bool
  deriving DecidableEq, Repr

/-- A set of the near cache: its ways and the 15 bits of its replacement tree (R222, R223). -/
structure CSet where
  ways : List (Nat × CLine) := []
  tree : Nat := 0
  deriving DecidableEq, Repr

/-- The near cache (R222 to R226): sets, the side buffer oldest first (line, held), an invalidation walk and a maintenance
operation under way, per queue pair the last line missed, and whether an entry of the fresh-frame table has been freed in this command (R217). -/
structure Ncache where
  sets    : List (Nat × CSet) := []
  side    : List (Nat × Bool) := []
  walking : Bool := false
  misses  : List (Nat × Nat) := []
  freed   : Bool := false
  deriving DecidableEq, Repr

/-! ### Publish channels (04) -/

/-- An entry of a channel's log (R95 to R97): sequence number, stamp, publisher index, payload, whether it is at the channel's
acknowledgement point, the subscribers that hold it, and where in the log it lies, counted in bytes from the first entry of all. -/
structure LogEntry where
  seq     : Nat
  stamp   : Nat
  pub     : Nat
  payload : List Byte
  atPoint : Bool
  held    : List Nat
  pos     : Nat := 0
  deriving DecidableEq, Repr

/-- An open publish channel (R92 to R95): its attributes, its log and where the next entry goes in it, the next sequence
number, its publishers (index, queue pair), the number and time of the last hint. -/
structure Chan where
  args    : ChanArgs
  next    : Nat := 1
  pubs    : List (Nat × Nat) := []
  log     : List LogEntry := []
  logEnd  : Nat := 0
  hinted  : Nat := 0
  hintAt  : Option Nat := none
  deriving DecidableEq, Repr

/-- The states of R101; a FREE subscriber is not listed. -/
inductive SubState where
  | live | stopped | detached
  deriving DecidableEq, Repr

/-- A subscriber record (R98, R101, R103): its ring, the next sequence number to deliver, the highest released, the start and end
of the released entry and the next place to write, counted in bytes from the first lap's start; start and end of each entry
delivered and not released; the first missing sequence number, whether its GAP entry is still to be written, and whether that
waits for a resume command. -/
structure Sub where
  state   : SubState
  qp      : Nat
  addr    : Nat
  key     : BitVec 32
  size    : Nat
  seal_   : Bool
  sent    : Nat
  released : Nat
  relOff  : Nat := 0
  offset  : Nat := 0
  nextOff : Nat := 0
  ends    : List (Nat × Nat × Nat) := []
  missing : Nat := 0
  gapDue  : Bool := false
  waits   : Bool := false
  deriving DecidableEq, Repr

/-! ### The twin (07) -/

/-- What a sender puts on Seam (R173): one frame, or a message that takes several. A MIRROR of a publish names the places of its payload in the
channel's log. -/
inductive SFrame where
  | beat (sent echo delay sync : Nat)
  | mirror (seq : Nat) (m : SeamMsg) (isLocal relaxed : Bool) (stamp : Nat) (log : List (Nat × Nat))
  | mack (seq status qp psn : Nat) (syn : Nat := 0)
  | fwd (m : SeamMsg) (isLocal relaxed : Bool)
  | copy (seq tile : Nat) (frameNo : Nat) (data : List Byte) (key : Nat)
  | discard (seq tile : Nat)
  | command (h : Hdr) (c : Cmd) (vals : List Nat)
  | cmdDone (h : Hdr) (code : Nat) (status : Status) (vals : List Nat)
  | ctx (u : CtxUpdate)
  | depart
  | relay (qp : Nat) (p : Packet)
  deriving DecidableEq, Repr

/-- The header of a Seam frame (R172), but for its reserved bytes and its check. -/
structure SHead where
  type    : Nat
  flags   : Nat
  length  : Nat
  linkSeq : Nat
  linkAck : Nat
  claim   : Nat
  pairSeq : Nat
  commit  : Nat
  addr    : Nat
  qp      : Nat
  psn     : Nat
  status  : Nat
  ref     : Nat
  deriving DecidableEq, Repr

/-- A Seam link (R174, R176): up; consecutive beats since it went down; the time of the latest beat; the latest beat's send time
and its receipt; whether a frame has arrived since it went down; the highest link_seq received in order and sent; frames not
acknowledged (link_seq, frame of its message, message), and those that wait for room in the link's 1 MiB or for a link to come up. -/
structure Link where
  up      : Bool := false
  synced  : Bool := false
  beats   : Nat := 0
  last    : Option Nat := none
  peer    : Nat := 0
  peerAt  : Nat := 0
  rx      : Nat := 0
  tx      : Nat := 0
  unacked : List (Nat × Nat × SFrame) := []
  queue   : List (Nat × SFrame) := []
  deriving DecidableEq, Repr

/-- A commit that has no MACK (R181, R189, R191): its pair_seq, its message, its tiles, its stamp, whether the region's
acknowledgement point is local, whether FOLLOW refused it, whether its MIRROR part has its MACK, the tiles whose COPY it waits
for, the publish it is (channel, sequence number), and its frame. -/
structure Unmacked where
  seq     : Nat
  qp      : Nat
  psn     : Nat
  tiles   : List Nat
  stamp   : Nat
  isLocal : Bool
  refused : Bool
  acked   : Bool
  waits   : List Nat
  pub     : Option (Nat × Nat)
  frame   : SFrame
  deriving DecidableEq, Repr

/-- A frame FOLLOW holds until it may apply it (R175): MIRROR, COPY or DISCARD. -/
inductive Early where
  | mirror (h : SeamHdr) (m : SeamMsg)
  | copy (tile : Nat) (frameNo : Nat) (data : List Byte) (key : Nat)
  | discard (tile : Nat)
  deriving DecidableEq, Repr

/-- What the twin last reported of itself (R164, R176, R177). -/
structure Peer where
  epoch : Nat := 0
  unit  : Bool := false
  mode  : Nat := 0
  lead  : Bool := false
  held  : Bool := false
  ready : Bool := false
  joining : Bool := false
  sync  : Nat := 0
  deriving DecidableEq, Repr

/-- The twin unit (R162 to R194): links, Tack's last beat, frame number, what the twin reported, LEAD's latest pair_seq, FOLLOW's
latest applied, frames held early, commits without MACK, forwards that wait at LEAD for a home, the accepted token (epoch,
end of its life on the management reference timer, spent), a YIELD and a DEPART received, a refusal held, tiles still to be copied
and those in flight with the pair_seq of their last COPY, the frames of a tile under copy that have been applied, whether the
pairing wait has passed. Of the
present RESYNC: `joining` the unit stands at its end of BRINGUP or at release and has no twin yet, `blind` the copy set of
FOLLOW is not yet known, `full` the copy is full, `cut` cutover has taken place, `copying` SEAM_RSY_DONE is still to come.
`badTypes` counts frames of an unknown type (R173); `refusing` says that this unit, as FOLLOW, refused a MIRROR frame (R170);
`failed` lists, at LEAD, each queue pair whose forward it has refused, with the PSN (R80); `acked` is the stamp of the newest commit whose MACK has arrived or, on FOLLOW, that has been applied (R150). -/
structure Seam where
  link0    : Link := {}
  link1    : Link := {}
  tackLast : Option Nat := none
  tackSeq  : Nat := 0
  peer     : Option Peer := none
  pairSeq  : Nat := 0
  applied  : Nat := 0
  early    : List (Nat × Early) := []
  commits  : List Unmacked := []
  fwdWait  : List (SeamHdr × SeamMsg) := []
  token    : Option (Nat × Nat × Bool) := none
  yielded  : Bool := false
  departed : Bool := false
  copySet  : List Nat := []
  inflight : List (Nat × Nat) := []
  copied   : List (Nat × List Nat) := []
  waited   : Bool := false
  joining  : Bool := false
  blind    : Bool := false
  full     : Bool := false
  cut      : Bool := false
  copying  : Bool := false
  badTypes : Nat := 0
  refusing : Bool := false
  acked    : Nat := 0
  failed   : List (Nat × Nat) := []
  deriving DecidableEq, Repr

/-- The divergence record (R189): sync stamp and tiles. -/
structure Diverge where
  sync  : Nat
  tiles : List Nat
  deriving DecidableEq, Repr

/-! ### DRAM controllers: refresh, rows, training (08) -/

/-- A DRAM controller behind its registers (R199 to R212): refreshes due per subchannel, the refresh interval halved (R201), open rows
(bank key, row), the row counters of throttled banks (bank key, entries of row and count), drift of each device since
training in 1/64 UI (R209), directed refresh management (R202), the helper operation that runs (R208), correctable errors of the last 24 h
(subchannel × 10 + device, time), activates that are held with their draws (R203), and what the SPD reads found in its slots (R197). -/
structure Dram where
  due      : List (Nat × Nat) := []
  hot      : Bool := false
  open_    : List (Nat × Nat) := []
  counters : List (Nat × List (Nat × Nat)) := []
  drift    : List (Nat × Int) := []
  directed : Bool := false
  run      : Option Nat := none
  errors   : List (Nat × Nat) := []
  held     : List (BurstLoc × Nat) := []
  spd      : Option DimmPop := none
  deriving DecidableEq, Repr

/-! ### Fen (11) -/

/-- Where the rail sequence stands (R287 to R289): rails off; a step waits its delay, its power-good or its settle time; all on; rails being
removed; the off time before a retry; a latched sequence fault. -/
inductive RailPhase where
  | off | delay | pg | settle | on | removing | retryWait | fault
  deriving DecidableEq, Repr

/-- What follows a removal of rails: nothing, a retry after the off time (R288), a new sequence at once (R324, R325), the latched
fault. -/
inductive AfterOff where
  | stay | retry | again | fault
  deriving DecidableEq, Repr

/-- The hold-up battery (R295 to R298): on SB0, reads missed in a row, temperature, full-charge and design capacity in mAh, serial
number, state of charge in hundredths of a percent with the charge in µC not yet counted in it, the OCV table, the current in mA, the
challenge under answer and the tries made. -/
structure Pack where
  missed    : Nat := 0
  temp      : Int := 0
  fcc       : Nat := 0
  dc        : Nat := 0
  serial    : Nat := 0
  soc       : Nat := 0
  rest      : Int := 0
  ocv       : List (Nat × Nat) := []
  current   : Int := 0
  challenge : Option Nat := none
  tries     : Nat := 0
  mv        : Nat := 0
  deriving DecidableEq, Repr

/-- Fen beside its registers (R281 to R298): supply present, TWIN_ID pin, main input good, a power-on trigger not yet served, low samples
of path 3; the rail table that runs and the copy it came from, the entry at hand, the phase, rails enabled, what follows a removal,
failed attempts, rail mismatches since power-on; reset outputs asserted and those whose stretch runs; FAULT_N low; the Tj that the
core voltage follows, checks off target in a row, the fault that holds the target, and per tripped AMON channel the samples inside both
thresholds in a row (R284); the hold-up battery; the sector of the counter record that was loaded at the rise of FEN_VDD (R335). -/
structure Fen where
  vdd       : Bool := true
  twinId    : Bool := false
  inputGood : Bool := false
  trigger   : Bool := true
  table     : List RailEntry := []
  fromB     : Bool := false
  step      : Nat := 0
  phase     : RailPhase := .off
  on        : List Nat := []
  after     : AfterOff := .stay
  failed    : Nat := 0
  mismatch  : Nat := 0
  resets    : List Nat := [0, 1, 2, 3, 4, 5, 6, 7]
  due       : List Nat := []
  faultLow  : Bool := false
  tj        : Int := 0
  off       : Nat := 0
  vFault    : Bool := false
  inside    : List (Nat × Nat) := []
  beyond    : List (Nat × Nat) := []
  pack      : Pack := {}
  loaded    : Option Nat := none
  deriving DecidableEq, Repr

/-- Where a unit stands in the DOZE agreement (R300): none; DOZE_PROPOSE sent so many times; ACCEPT sent; the notice runs; committed;
in DOZE; exiting. -/
inductive DozePhase where
  | idle | proposed (sent : Nat) | accepted | noticed | committed | entered | exiting
  deriving DecidableEq, Repr

/-- DOZE (R299 to R304): the phase, the command to complete, the mode held at commit, E at commit, wake latches armed, and the 10 ms after
exit in which Tack alone judges the twin (R303). -/
structure Doze where
  phase : DozePhase := .idle
  cmd   : Option Hdr := none
  mode  : Mode := .reset
  e     : Nat := 0
  armed : Bool := false
  grace : Bool := false
  deriving DecidableEq, Repr

/-! ### The NOR (13) -/

/-- An operation on the NOR (R326, R329, R330): erase, offset of the page or sector, the data words of a PROGRAM with their offsets, when
it started or was last resumed; suspended by a SUSPEND, by brown-out; a SUSPEND or an append that waits for the 2 ms; window reads that
wait; started by the device itself (R336). -/
structure NorOp where
  erase     : Bool
  off       : Nat
  data      : List (Nat × Word)
  since     : Nat
  suspended : Bool := false
  brown     : Bool := false
  held      : Bool := false
  append    : Bool := false
  reads     : List Nat := []
  own       : Bool := false
  deriving DecidableEq, Repr

/-- The open command sequence of the window (R326, R328): source, how many writes of its opening have come, the code, the data words
with their offsets; for a confirmed command that waits for its row, the sector or page it names in `base`. -/
structure NorSeq where
  src  : NorSrc
  step : Nat
  code : Nat := 0
  base : Nat := 0
  data : List (Nat × Word) := []
  deriving DecidableEq, Repr

/-- A record that the device has still to append (R331): a counter record (R292), a retirement with its command (R221), a mark (R212). -/
inductive NorAppend where
  | counter (r : CounterRec) | frame (h : Hdr) (f : Nat) | bank (h : Hdr) (chan bank : Nat) | mark (sub device : Nat)
  deriving DecidableEq, Repr

/-- The configuration NOR (R316 to R337): density in MiB, bytes as their complements (an erased byte is 0xFF, so nothing is listed of
an erased NOR), what each image copy holds, counter records newest first, sectors whose newest journal record is an INTENT, the journal sequence, the operations that
run or are suspended (newest first), the open window sequence, complete commands that wait for their row, sectors marked
erase-incomplete at this BRINGUP, and the device's own appends that wait; the records of the journal sectors, `active` where J1 is the active one, and how
many records the two record areas have taken. -/
structure Nor where
  mib     : Nat := 64
  bytes   : List (Nat × Byte) := []
  j0      : List JEntry := []
  j1      : List JEntry := []
  active  : Bool := false
  recs    : Nat := 0
  copyA   : Option ImageInfo := none
  copyB   : Option ImageInfo := none
  counters : List CounterRec := []
  intents : List Nat := []
  seq     : Nat := 0
  ops     : List NorOp := []
  win     : Option NorSeq := none
  ready   : List NorSeq := []
  einc    : List Nat := []
  appends : List NorAppend := []
  deriving DecidableEq, Repr

/-- BRINGUP (R322): the check of the image has passed and firmware runs; the carve-out is filled (R215); the end of BRINGUP has come and
an image lost waits for a command (R153); an intrusive instruction of the test access port has halted it (R348); the lockstep pairs that fail their check
(R279); and debug reads of memory that wait for the fill or for the near cache's walk, by address (R215, R224). -/
structure Boot where
  ran    : Bool := false
  filled : Bool := false
  ready  : Bool := false
  halted : Bool := false
  lks    : BitVec 4 := 0#4
  reads  : List Nat := []
  deriving DecidableEq, Repr

end Sys2Proof.Machine
end

