-- ==== Sys2Proof/Machine/Out.lean ====
section
/-! DEFINITION. What leaves the device: completions, messages, frames, packets and pulses (DESIGN CHOICE, log entry 3). -/

namespace Sys2Proof.Machine

/-- The header of a management frame (R369): type, tag, command code, completion status, claim number, and the commit clock when the frame
was built. -/
structure MHead where
  type   : Nat
  tag    : BitVec 16 := 0
  code   : Nat := 0
  status : Status := .ok
  claim  : BitVec 35
  stamp  : Nat
  deriving DecidableEq, Repr

/-- The code of a completion status (R370). -/
def statusCode : Status → Nat
  | .ok => 0 | .invalid => 1 | .busy => 2 | .contended => 3 | .capacity => 4 | .brownout => 5 | .malformed => 6 | .stale => 7 | .denied => 8

/-- The types of a management frame (R369). -/
abbrev mCompletion : Nat := 2
abbrev mEvent : Nat := 3
abbrev mDoze : Nat := 4
abbrev mResume : Nat := 5

/-- The 32 bytes of a management frame's header (R369), little-endian, with the number of payload bytes. -/
def mHeadBytes (h : MHead) (length : Nat) : List Byte :=
  leBytes 1 h.type ++ leBytes 1 0 ++ leBytes 2 h.tag.toNat ++ leBytes 2 h.code ++ leBytes 2 (statusCode h.status) ++ leBytes 8 h.claim.toNat ++
    leBytes 4 length ++ leBytes 4 0 ++ leBytes 8 h.stamp

/-- The payload of an event frame (R369): 8 bytes an entry. -/
def eventBytes (es : List Entry) : List Byte :=
  es.flatMap (fun (e : Entry) => leBytes 2 e.source ++ leBytes 2 e.inst ++ leBytes 4 e.count)

/-- The payload of a DOZE notice (R369). -/
def noticeBytes (ms mode : Nat) : List Byte := leBytes 4 ms ++ leBytes 4 mode

/-- One thing that left the device. -/
inductive Out where
  /-- A completion (R369, R370): path, submission slot where it has one (R367), header, results. -/
  | completion (src : Source) (slot : Option Nat) (h : MHead) (vals : List Nat)
  /-- An MSI-X message (R356): physical function and vector. -/
  | msix (pf vector : Nat)
  /-- What follows leaves by the management queue pair (R368): logical port, marked ECT(0) (R84), and its protection (R86). -/
  | mqp (lport : Nat) (ect : Bool) (sec : Option (Nat × Nat))
  /-- An event frame, a DOZE notice or a resume notice to one subscribed destination (R300, R304, R358, R368, R369): its bytes, and its
  protection (R86), and whether it is marked ECT(0) (R84). -/
  | notice (dest : Nat) (bytes : List Byte) (sec : Option (Nat × Nat) := none) (ect : Bool := false)
  /-- A packet on a host port (R72 to R84): whether it is marked ECT(0), and under MACsec its transmit association and packet number (R86). -/
  | packet (lport qp : Nat) (ect : Bool) (sec : Option (Nat × Nat)) (w : Wire)
  /-- An IEEE 802.1Qbb pause frame (R85). -/
  | pause (port prio : Nat)
  /-- A Seam frame on a link (R172, R173): header, hdr_crc, payload, trailer (none where the payload is empty), and what it is part of. -/
  | seam (link : Nat) (h : SHead) (hdrCrc : Nat) (payload : List Byte) (trailer : Option Nat) (f : SFrame)
  /-- A Tack frame (R177): type, flags, frame number, claim, mode, sync, crc. -/
  | tack (type flags seq claim mode sync crc : Nat)
  /-- The announcement of an address on a logical port (R187, R194): a gratuitous ARP, or for IPv6 an unsolicited Neighbor Advertisement, with its protection
  (R86). -/
  | announce (lport : Nat) (v6 : Bool) (addr : Nat) (sec : Option (Nat × Nat) := none)
  /-- A trap in a lockstep pair at an uncorrectable instruction fetch, and a bus error returned to one (R220, R276). -/
  | coreTrap (pair : Nat)
  | busError (pair : Nat)
  /-- Data read through the test access port (R348, R375). -/
  | tap (data : List Nat)
  /-- Data read through the NOR window (R318): offset and word. -/
  | window (off : Nat) (v : Word)
  /-- A PPS pulse (R312): output, width in ms, time-of-day of the pulse in ns. -/
  | pps (n widthMs : Nat) (at_ : Int)
  deriving DecidableEq, Repr

end Sys2Proof.Machine
end

