-- ==== Sys2Proof/Machine/State.lean ====
section
/-! DEFINITION. The state of the block: plain data. -/

namespace Sys2Proof.Machine

/-- The persistence domain (R137): memory and its poisoned lines (R37, R219), Peat's store (R360), key slots and MACsec associations (R267, R270) and the
count of wraps (R271), protection domains (R41), region descriptors (R45), queue pairs and shared receive queues (R68, R372), tiles (R110) and the
fresh-frame table, oldest entry first (R216), publish channels and subscribers (R92, R98), the divergence record (R189) and the tiles marked without it,
the newest commit's stamp (R150), the sync stamp of the image restored (R190), the map (R230) with its home blocks and churn records by place (R113,
R235), the map cache, most recently used first, and the directory (R236), the device's own writes that wait for a home (R123), and management SRAM. -/
structure Kept where
  mem       : List Host.Cell := []
  peat      : List (Nat × PeatRec) := []
  peatSeq   : Nat := 0
  keySlots  : List (Nat × Nat) := []
  assocs    : List (Nat × Assoc) := []
  wrapCount : Nat := 0
  domains   : List (Nat × Domain) := []
  rdt       : List (Nat × Rgn) := []
  poison    : List Nat := []
  qps       : List (Nat × Qp) := []
  srqs      : List (Nat × Srq) := []
  tiles     : List (Nat × Tile) := []
  freshTab  : List (Nat × List Nat) := []
  freshAge  : List Nat := []
  chans     : List (Nat × Chan) := []
  subs      : List (Nat × Sub) := []
  record    : Option Diverge := none
  marks     : List Nat := []
  newest    : Nat := 0
  imgSync   : Option Nat := none
  map       : List (Nat × Nat) := []
  homes     : List (Nat × Nat) := []
  records   : List (Nat × Nat) := []
  segs      : List Seg := []
  mapDir    : List (Nat × Nat) := []
  own       : List OwnWrite := []
  sram      : List (Nat × Byte) := []
  deriving DecidableEq, Repr

/-- A save image (R149, R155): its header and all that the persistence domain held, with Tailor's pinned extents and extent jobs (R137), and the
root that its save key is derived from (R145, R338), and how often each block had been erased (R257). An image of a delta holds the same, for the frames it does not carry are those of its base. -/
structure Image where
  head   : ImgHeader
  root   : Drk
  kept   : Kept
  pinned : List Nat := []
  jobs   : List ExtJob := []
  erases : List (Nat × Nat) := []
  deriving DecidableEq, Repr

/-- A slot of the save area (R148): erased, the full image, the delta that completes it. -/
structure Slot where
  erased : Bool := true
  base   : Option Image := none
  delta  : Option Image := none
  deriving DecidableEq, Repr

/-- The save area (R148, R152, R255): two slots, the journal, newest record last, the write sequence that the newest
image or release holds (R238), and the blocks that are left of its own spares. -/
structure SaveArea where
  slot0   : Slot := {}
  slot1   : Slot := {}
  journal : List JRec := []
  wseq    : Nat := 0
  spares  : Nat := 0
  deriving DecidableEq, Repr

/-- The state of the block. The model's own fields are the queue of commands, the counter of free values and the record of what left the device (log entries 1
to 3). Then: the part (R2), the modes (R7, R383), the reference timer in quarter ns (R23), the register file over its reset values (R14, R379) and the
latches of register pairs (R382), the persistence domain (R137), the command gate (R24), handshakes that wait (R22), Spool (R30), events, monitors and
Peat (15), PCI Express slots and what is held for its link (R367), completions that wait at the management queue pair's port (R368), sideband controllers (R373), cipher, scan and lockstep (10), fuses and Thimble (14),
time (12), SAVE and power failure (06), brown-out (R323), the caches of tile entries and descriptors (R54), shared-state commands that wait for the twin (R58),
Tailor with its fetches (05, R36), parked messages (R62), channel populations (R198), retired frames and banks with their records (R221), DIMM serial
numbers (R212), frames that the carve-out moved to, the near cache (R222), ports (R85), engines fenced and when (R34), the twin (07), self-tests that
run (R404), the NAND (09), the image's security version (R336), the save area (R148), DRAM controllers (R199), marks kept by DIMM (R212), Fen (11), DOZE (R299), the configuration
NOR (13), and BRINGUP (R322). -/
@[ext]
structure State where
  pending  : List Instr
  free     : Nat
  part     : Part
  mode     : Mode
  prevMode : Mode
  changes  : Nat
  mrtQ     : Nat
  csr      : List (Nat × Word)
  latch    : List (Source × Nat × Word)
  out      : List Out
  kept     : Kept
  gate     : Gate
  weft     : List Handshake
  spool    : Spool
  ev       : Events
  mons     : List (Nat × Live)
  peatQ    : List Raise
  peatSnap : List (Nat × PeatRec)
  pcie     : List PcieSlot
  pcieHeld : List Out
  mqpOut   : List Out
  sbus     : List (Nat × Sbus)
  cryp     : Cryp
  scan     : Option Scan
  lks      : Lks
  fuses    : Fuses
  thm      : Thimble
  clk      : TimeUnit
  save     : SaveRun
  pf       : PowerFail
  brownout : Bool
  entries  : List (Nat × Nat)
  descs    : List Nat
  shared   : List Shared
  tlr      : Tailor
  fetches  : List Fetch
  parks    : List (Nat × Nat)
  pops     : List (Nat × Pop)
  retFrames : List Nat
  retBanks : List (Nat × Nat)
  retRecs  : List RetRec
  serials  : List (Nat × Nat)
  moved    : List (Nat × Nat)
  nc       : Ncache
  ports    : Ports
  fencedAt : List (Nat × Nat)
  seam     : Seam
  tests    : List (Nat × Hdr)
  nand     : Nand
  svn      : Nat
  area     : SaveArea
  drams    : List (Nat × Dram)
  dmarks   : List (Nat × Nat)
  fen      : Fen
  doze     : Doze
  nor      : Nor
  boot     : Boot
  deriving DecidableEq, Repr

/-- Why the block stops. No command raises a fault: every rule of the spec gives an effect, an error or a status, and what the spec leaves
open is a free value. -/
inductive Fault where
  /-- Raised by no command; kept so that a later stop has a name. Safe: a run never ends here. -/
  | stopped
  deriving DecidableEq, Repr

/-- Why a command is turned away by the model. -/
inductive Refusal where
  /-- Raised by an arm of `exec` whose command has no meaning yet; safe, for nothing can be proved of what it would do. No arm does. -/
  | notModelled (mnemonic : String)
  deriving DecidableEq, Repr

/-- Fen's pins, the fuses and what the memories off the die hold, as they leave the factory (DESIGN CHOICE, log entries 6 to 9): a blank unit on which
key 0 is burned. -/
def Fuses.factory : Fuses :=
  { life := 0, destroyBegun := false, scrapIntent := false, programmed := 0b0001#4, revoked := 0#4, drk := .absent, wrapKey := .absent,
    rollback := 0, devid := 0 }

/-- The machine right after FEN_VDD has risen (R7, R281): mode RESET, every register at its reset value, nothing in any memory, and a
power-on trigger that waits for the main input. -/
def State.reset : State :=
  { pending := [], free := 0, part := .hx, mode := .reset, prevMode := .reset, changes := 0, mrtQ := 0, csr := [], latch := [], out := []
    kept := {}, gate := {}, weft := [], spool := {}, ev := {}, mons := [], peatQ := [], peatSnap := [], pcie := [], pcieHeld := [], mqpOut := []
    sbus := [], cryp := {}, scan := none, lks := {}, fuses := Fuses.factory, thm := {}, clk := {}, save := {}, pf := {}, brownout := false
    entries := [], descs := [], shared := [], tlr := {}, fetches := [], parks := [], pops := [], retFrames := [], retBanks := [], retRecs := [], serials := [], moved := [], nc := {}, ports := {}
    fencedAt := [], seam := {}, tests := [], nand := {}, svn := 0, area := {}, drams := [], dmarks := [], fen := {}, doze := {}, nor := {}
    boot := {} }

end Sys2Proof.Machine
end

