-- ==== Sys2Proof/Machine/Ops.lean ====
section
/-! DEFINITION. The named operations over the state that every unit uses: registers, events (R356), mode changes, monitors
(R359), completions (R367 to R370), access to memory. -/

namespace Sys2Proof.Machine

/-! ### Outcomes -/

/-- What a command answers. -/
abbrev Res := Host.Outcome State Fault Refusal

/-- A command of the core acts only while the core is out of reset (R7: in RESET only Fen runs). -/
def State.core (s : State) (f : State → State) : Res := .next (if s.mode = .reset then s else f s)

/-- A command's row acts only on the command whose turn it is to start: the first that is granted and not started (R26), while the
core runs; from SAVE entry commands at the gate are discarded (R29). -/
def State.turn (s : State) (c : GateCmd) : Bool := s.mode != .reset && s.mode != .save && s.gate.granted.head? == some c

/-- The command whose turn it is has started (R26). -/
def State.begun (s : State) : State :=
  { s with gate := { s.gate with granted := s.gate.granted.tail, running := s.gate.running ++ s.gate.granted.take 1 } }

/-- A management command starts. -/
def State.start (s : State) (h : Hdr) (c : Cmd) (f : State → State) : Res := .next (if s.turn ⟨h, c, false⟩ then f s.begun else s)

/-- The granted command whose turn it is, if it is a register write of R380 of a value to an offset. -/
def State.turnWrite (s : State) (off : Nat) (v : Word) : Bool :=
  s.mode != .reset && s.mode != .save &&
  (match s.gate.granted.head? with
   | some c => c.posted && c.cmd == .registerWrite off [v]
   | none => false)

/-- A register write of R380 takes effect: it has passed the gate like a command, and has no completion. -/
def State.post (s : State) (off : Nat) (v : Word) (f : State → State) : Res :=
  .next (if s.turnWrite off v then f { s with gate := { s.gate with granted := s.gate.granted.tail } } else s)

/-! ### Registers (R379, R385) -/

/-- The value a register holds. -/
def State.reg (s : State) (off : Nat) : Word := (alGet s.csr off).getD (resetWord s.part off)

/-- A register set to a value; a register at its reset value is not listed. -/
def State.setReg (s : State) (off : Nat) (w : Word) : State :=
  { s with csr := if w = resetWord s.part off then alDel s.csr off else alPut s.csr off w }

/-- The value of a field. -/
def State.fld (s : State) (f : Fld) : Nat := bitsOf (s.reg f.off) f.hi f.lo

/-- A field set to a value, taken modulo the field's width. -/
def State.setFld (s : State) (f : Fld) (v : Nat) : State := s.setReg f.off (putBits (s.reg f.off) f.hi f.lo v)

/-- A field is not zero. -/
def State.bit (s : State) (f : Fld) : Bool := s.fld f != 0

/-- A one-bit field set from a Bool. -/
def State.setBit (s : State) (f : Fld) (b : Bool) : State := s.setFld f (if b then 1 else 0)

/-- A counter that wraps. -/
def State.wrap (s : State) (f : Fld) (n : Nat := 1) : State := s.setFld f (s.fld f + n)

/-- A counter that saturates. -/
def State.sat (s : State) (f : Fld) (n : Nat := 1) : State := s.setFld f (Nat.min f.max (s.fld f + n))

/-- A register pair that holds a 64-bit value in two 32-bit fields. -/
def State.setPair (s : State) (lo hi : Fld) (v : Nat) : State := (s.setFld lo v).setFld hi (v / 2 ^ 32)

/-- The 64-bit value of a register pair. -/
def State.pair (s : State) (lo hi : Fld) : Nat := s.fld lo + s.fld hi * 2 ^ 32

/-! ### Clocks -/

/-- The management reference timer in ns (R23). -/
def State.mrt (s : State) : Nat := s.mrtQ / 4

/-- The commit clock (R313): time-of-day, or the value at which it is held. -/
def State.commit (s : State) : Nat :=
  (match s.clk.held with
   | some h => h
   | none => s.clk.tod) % 2 ^ 64

/-! ### What leaves the device -/

/-- Records what leaves the device. -/
def State.put (s : State) (o : Out) : State := { s with out := s.out ++ [o] }

/-- From step 4 of a SAVE no MSI-X message and no frame leaves (R358, R144). -/
def State.quiet (s : State) : Bool := decide (4 ≤ s.save.step)

/-- The PCI Express link is up (R376). -/
def State.link (s : State) : Bool := s.bit F.PCIE_STATUS_link_up

/-- An MSI-X message leaves, or waits for the link (R358). -/
def State.sendMsix (s : State) (pf vector : Nat) : State :=
  if s.quiet then s
  else if s.mode = .doze || !s.link then { s with ev := { s.ev with msix := s.ev.msix ++ [(pf, vector)] } }
  else s.put (.msix pf vector)

/-! ### Events (R353 to R358) -/

/-- The event belongs to a unit fused off on this part (R2, R353). -/
def State.fusedEvent (s : State) (ev : Nat) : Bool :=
  match s.part with
  | .hx => false
  | .mx => (decide (384 ≤ ev) && decide (ev < 512)) || (decide (576 ≤ ev) && decide (ev < 640))

/-- An entry goes into the frame produced at this moment, or into a new frame; a frame that finds the queue full is
discarded and counted (R356). -/
def State.pushEntry (s : State) (e : Entry) : State :=
  match s.ev.frames.getLast? with
  | some f =>
    if f.at_ = s.mrt ∧ f.entries.length < 508 then
      { s with ev := { s.ev with
          frames := s.ev.frames.dropLast ++ [{ f with entries := f.entries ++ [e] }]
          last := alPut s.ev.last e.source s.mrt
          held := alDel s.ev.held e.source } }
    else if s.ev.frames.length < 256 then
      { s with ev := { s.ev with
          frames := s.ev.frames ++ [⟨s.mrt, s.commit, [e]⟩]
          last := alPut s.ev.last e.source s.mrt
          held := alDel s.ev.held e.source } }
    else
      { s with ev := { s.ev with
          fullSeen := true
          last := alPut s.ev.last e.source s.mrt
          held := alDel s.ev.held e.source } }.wrap F.EVT_OVF_frames
  | none =>
    { s with ev := { s.ev with
        frames := [⟨s.mrt, s.commit, [e]⟩]
        last := alPut s.ev.last e.source s.mrt
        held := alDel s.ev.held e.source } }

/-- frame_gap_ms in ns (R356). -/
def State.frameGap (s : State) : Nat := s.fld F.EVT_CFG_frame_gap_ms * 1000000

/-- The frame route of a raise (R356): an entry at once, or the raise is held until frame_gap_ms has passed. -/
def State.frameRoute (s : State) (ev inst : Nat) : State :=
  let (n, _) := alGetD s.ev.held ev (0, 0)
  match alGet s.ev.last ev with
  | some t =>
    if s.mrt < t + s.frameGap then { s with ev := { s.ev with held := alPut s.ev.held ev (n + 1, inst) } }
    else s.pushEntry ⟨ev, inst, n + 1⟩
  | none => s.pushEntry ⟨ev, inst, n + 1⟩

/-- A raise joins Peat's queue, or is counted lost; from step 5 of a SAVE Peat records nothing (R360, R365). -/
def State.peatPush (s : State) (ev inst : Nat) : State :=
  if 5 ≤ s.save.step then s
  else if s.peatQ.length < 4096 then { s with peatQ := s.peatQ ++ [⟨ev, inst % 65536, s.mrt⟩] }
  else s.sat F.PEAT_STATUS_lost

/-- The source's bit in EVT_MASKg is set. -/
def State.masked (s : State) (ev : Nat) : Bool := (s.fld (F.EVT_MASKg_mask (ev / 16))).testBit (ev % 16)

/-- The source's bit in EVT_PENDg is set. -/
def State.pended (s : State) (ev : Nat) : Bool := (s.fld (F.EVT_PENDg_pend (ev / 16))).testBit (ev % 16)

/-- The MSI-X route of a source, if it is enabled (R356). -/
def State.msixRoute (s : State) (ev : Nat) : State :=
  if s.bit (F.EVT_ROUTEn_msix_en ev) then s.sendMsix (s.fld (F.EVT_ROUTEn_pf ev)) (s.fld (F.EVT_ROUTEn_vector ev)) else s

/-- A raise (R356) but for EVT_OVERFLOW. -/
def State.raiseOne (s : State) (ev inst : Nat) : State :=
  let was := s.pended ev
  let s := s.setFld (F.EVT_PENDg_pend (ev / 16)) (s.fld (F.EVT_PENDg_pend (ev / 16)) ||| 2 ^ (ev % 16))
  let s := s.peatPush ev inst
  if s.masked ev then s
  else
    let s := if was then s else s.msixRoute ev
    if s.bit (F.EVT_ROUTEn_frame_en ev) && !s.quiet then s.frameRoute ev inst else s

/-- Raises EVT_OVERFLOW when a full period of the frame queue has just begun (R356). -/
def State.overflowOnce (s : State) (before : Bool) : State :=
  if s.ev.fullSeen && !before then s.raiseOne Ev.EVT_OVERFLOW 0 else s

/-- A raise of an event with its instance (R354, R356). No event of a fused unit fires (R2), and none is raised while the
core is in reset, where the event unit is held (DEDUCED, log entry 12). -/
def State.raise (s : State) (ev : Nat) (inst : Nat := 0) : State :=
  if s.mode = .reset || s.fusedEvent ev then s
  else (s.raiseOne ev inst).overflowOnce s.ev.fullSeen

/-! ### Modes (R7, R383) -/

/-- The modes in which hosts are served (R7): RESTORE once restore-serving has begun. -/
def State.serves (s : State) : Bool :=
  match s.mode with
  | .solo | .paired | .resync => true
  | .restore => s.bit F.GLB_RESTORE_STAT_serving
  | _ => false

/-- PAIRED or RESYNC, where commands on shared state reach both units (R169). -/
def State.mirrored (s : State) : Bool := s.mode = .paired || s.mode = .resync

/-! ### Monitors (R359) -/

/-- The bin of a sample: 0 below the base, then one bin for each doubling, 15 from base × 2^14 (R359). -/
def binOf (b v : Nat) : Nat :=
  if v < b then 0 else Nat.min 15 (Nat.log2 (v / b) + 1)

/-- A sample into 32-bit saturating counters (R359). -/
def Live.sample (l : Live) (b v : Nat) : Live :=
  { count := Nat.min 0xFFFFFFFF (l.count + 1)
    min := Nat.min l.min v
    max := Nat.max l.max (Nat.min 0xFFFFFFFF v)
    bins := l.bins.set (binOf b v) (Nat.min 0xFFFFFFFF (l.bins.getD (binOf b v) 0 + 1)) }

/-- Monitor m takes a sample; monitors 0 to 15 also update their lifetime record in Peat (R359, R360). -/
def State.monitor (s : State) (m v : Nat) : State :=
  let b := 2 ^ s.fld (F.MON_CFGm_base_log2 m)
  let s := { s with mons := alPut s.mons m ((alGetD s.mons m Live.zero).sample b v) }
  if 16 ≤ m ∨ 5 ≤ s.save.step then s
  else
    match s.kept.peat.find? (fun r => r.2.kind = 2 ∧ r.2.source = m) with
    | some (slot, r) =>
      let q := s.kept.peatSeq + 1
      { s with kept := { s.kept with
          peatSeq := q
          peat := alPut s.kept.peat slot { r with
            seq := q, data := r.data.sample b v
            lastH := s.fld F.FEN_HOURS_count, lastC := s.fld F.FEN_CYCLES_count } } }
    | none => s

/-- The monitors that record a quantity of an instance; `none` where the quantity has no instance (R359). -/
def State.monitorsOf (s : State) (sel : Nat) (inst : Option Nat) : List Nat :=
  (List.range 64).filter (fun m => s.fld (F.MON_CFGm_sel m) = sel ∧ (inst = none ∨ inst = some (s.fld (F.MON_CFGm_inst m))))

/-- A sample of a quantity, taken by every monitor that records it (R359). -/
def State.sample (s : State) (sel : Nat) (inst : Option Nat) (v : Nat) : State :=
  if s.csr.any (fun c => decide (0x41000 ≤ c.1) && decide (c.1 < 0x43000)) then
    (s.monitorsOf sel inst).foldl (fun s m => s.monitor m v) s
  else s

/-! ### Seam frames (R172 to R174, R180) -/

def State.seamLink (s : State) (l : Nat) : Link := if l = 0 then s.seam.link0 else s.seam.link1

def State.setLink (s : State) (l : Nat) (x : Link) : State :=
  { s with seam := if l = 0 then { s.seam with link0 := x } else { s.seam with link1 := x } }

/-- The selvedge gates are open (R180). -/
def State.gates (s : State) : Bool := s.bit F.SEAM_STATUS_gates_open

/-- The code of a command (R371). -/
def cmdCode : Cmd → Nat
  | .query _ _ => 0x01 | .registerRead _ _ => 0x02 | .registerWrite _ _ => 0x03
  | .createDomain _ _ _ _ => 0x10 | .destroyDomain _ => 0x11 | .createQp _ _ _ _ => 0x12 | .modifyQp _ _ _ => 0x13 | .destroyQp _ => 0x14
  | .postReceive _ _ _ _ _ _ => 0x18 | .createSrq _ _ _ => 0x19
  | .register _ => 0x20 | .deregister _ => 0x21 | .repair _ => 0x22 | .sync _ => 0x23 | .setExtent _ _ _ => 0x24 | .discard _ _ _ => 0x25
  | .tableWrite _ _ _ _ => 0x26
  | .channelCreate _ => 0x30 | .channelClose _ => 0x31 | .attachPublisher _ _ => 0x32 | .detachPublisher _ _ => 0x33
  | .attachSubscriber _ => 0x34 | .resume _ _ _ => 0x35 | .remove _ _ => 0x36
  | .fence _ => 0x40 | .test _ => 0x41 | .rejoin _ => 0x42 | .retireFrame _ => 0x43 | .retireBank _ _ _ _ => 0x44
  | .save => 0x50 | .acceptOlderImage => 0x51 | .discardImage => 0x52 | .doze => 0x53 | .giveBack _ => 0x54 | .setTime _ _ => 0x55
  | .witnessToken _ => 0x60 | .keySlot _ _ => 0x61 | .contextSave _ _ _ => 0x62 | .contextRestore _ => 0x63
  | .provisionBegin => 0x70 | .provisionCommit _ _ => 0x71 | .secure _ => 0x72 | .returnUnit _ => 0x73 | .scrap _ => 0x74
  | .advanceRollback => 0x75 | .debugChallenge => 0x76 | .debugOpen _ _ => 0x77 | .debugClose => 0x78 | .peatClear _ _ => 0x79
  | .subscribe _ _ _ => 0x80
  | .unlisted c => c

/-- The frames on which a selvedge gate sits (R180). -/
def SFrame.gated : SFrame → Bool
  | .mack .. | .cmdDone .. | .depart | .beat .. => false
  | _ => true

/-- No gated frame leaves while the gates are closed (R180). -/
def State.mayLeave (s : State) (f : SFrame) : Bool := !f.gated || s.gates

/-- Data in frames of at most 4,096 bytes, each with the address of its first byte (R172). -/
def framesOf : Nat → Nat → List Byte → List (Nat × List Byte)
  | 0, _, _ => []
  | k + 1, a, d => if d.length ≤ 4096 then [(a, d)] else (a, d.take 4096) :: framesOf k (a + 4096) (d.drop 4096)

/-- Cuts data to the parts of memory it belongs to. -/
def cutTo : List (Nat × Nat) → List Byte → List (Nat × List Byte)
  | [], _ => []
  | p :: l, d => (p.1, d.take p.2) :: cutTo l (d.drop p.2)

/-- The payload of a MIRROR: an atomic's carries its 8-byte result before the data it writes (R173), a publish's lies in the log. -/
def msgBody (m : SeamMsg) (log : List (Nat × Nat)) : List (Nat × List Byte) :=
  let r := m.result.getD 0
  let atomic := fun a (v : BitVec 64) => [(a, leBytes 8 r.toNat ++ leBytes 8 v.toNat)]
  match m.op with
  | .write ps => ps
  | .publish _ _ d => if log.isEmpty then [(0, d)] else cutTo log d
  | .compareSwap a c w => atomic a (if r = c then w else r)
  | .fetchAdd a v => atomic a (r + v)
  | .atomicWrite a v => atomic a v

/-- The payloads of a message's frames, in order, with their addresses; `open_` stands for a payload whose layout the spec does not give. -/
def SFrame.payloads (open_ : List Byte) (f : SFrame) : List (Nat × List Byte) :=
  let cut := fun (ps : List (Nat × List Byte)) => ps.flatMap (fun p => framesOf (p.2.length / 4096 + 1) p.1 p.2)
  match f with
  | .beat sent echo delay sync => [(0, leBytes 8 sent ++ leBytes 8 echo ++ leBytes 4 delay ++ leBytes 8 sync ++ leBytes 4 0)]
  | .mirror _ m _ _ _ log => cut (msgBody m log)
  | .fwd m _ _ =>
    match m.op with
    | .write ps => cut ps
    | .publish _ _ d => cut [(0, d)]
    | .compareSwap a _ _ | .fetchAdd a _ | .atomicWrite a _ => [(a, open_)]
  | .copy _ t i d _ => [(t * 65536 + i * 4096, d)]
  | .discard _ t => [(t * 65536, [])]
  | .command .. | .cmdDone .. | .ctx _ | .relay .. => [(0, open_)]
  | .mack .. | .depart => []

/-- The bytes that each frame of a message takes of a link's 1 MiB (R172, R174). A payload whose layout the spec does not give counts for
nothing (DESIGN CHOICE, log entry 124). -/
def SFrame.sizes (f : SFrame) : List Nat :=
  match f with
  | .copy .. => [4168]
  | f =>
    let l := (f.payloads []).map (fun p => if p.2.isEmpty then 64 else 72 + p.2.length)
    if l.isEmpty then [64] else l

/-- The type code of a frame (R173). -/
def SFrame.code : SFrame → Nat
  | .beat _ _ _ _ => 0x01 | .mirror _ _ _ _ _ _ => 0x10 | .mack .. => 0x11 | .fwd _ _ _ => 0x12 | .copy .. => 0x14
  | .discard _ _ => 0x15 | .command _ _ _ => 0x20 | .cmdDone .. => 0x21 | .ctx _ => 0x22 | .depart => 0x30
  | .relay .. => Config.relayType

/-- The order number of a frame; 0 for frames not ordered (R172). -/
def SFrame.pairSeq : SFrame → Nat
  | .mirror q _ _ _ _ _ | .mack q _ _ _ _ | .copy q _ _ _ _ | .discard q _ => q
  | _ => 0

/-- Flags 1 to 3 of a frame (R172): relaxed write, ackpt local, atomic result in payload. -/
def SFrame.flags (f : SFrame) : Nat :=
  let b := fun (p : Bool) (n : Nat) => if p then n else 0
  match f with
  | .mirror _ m loc rel _ _ => b rel 2 + b loc 4 + b m.result.isSome 8
  | .fwd _ loc rel => b rel 2 + b loc 4
  | _ => 0

/-- The queue pair and PSN that a frame names. -/
def SFrame.about : SFrame → Nat × Nat
  | .mirror _ m _ _ _ _ | .fwd m _ _ => (m.qp.val, m.psn)
  | .mack _ _ n psn _ => (n, psn)
  | .relay n p => (n, p.psn)
  | .ctx u => (match u with
    | .qpEpsn n e => (n.val, e) | .atomicResult n psn _ => (n.val, psn) | .queuePair n _ _ _ _ _ => (n.val, 0) | .host n _ => (n.val, 0)
    | _ => (0, 0))
  | _ => (0, 0)

/-- The status and the ref of a frame (R172): of MACK, its outcome; the region's descriptor index, or the command code. A MACK that refuses a forward has
in its ref, which the spec leaves unused there, the syndrome that its sender's queue pair answers with (DESIGN CHOICE, log entry 149). -/
def SFrame.status : SFrame → Nat
  | .mack _ st _ _ _ => st
  | _ => 0
def SFrame.ref : SFrame → Nat
  | .mirror _ m _ _ _ _ | .fwd m _ _ => m.region
  | .command _ c _ => cmdCode c
  | .cmdDone _ code _ _ => code
  | .mack _ _ _ _ syn => syn
  | _ => 0

/-- The claim that a unit's frames carry (R24, R162, R172): its epoch and its identity; a CMD frame's is that of its command. -/
def State.claimWord (s : State) : Nat := s.fld F.SEAM_CLAIM_epoch * 8 + (if s.bit F.SEAM_STATUS_unit then 1 else 0)
def SFrame.claim (s : State) : SFrame → Nat
  | .command h _ _ | .cmdDone h _ _ _ => h.claim.toNat
  | _ => s.claimWord

/-- Bytes 0 to 59 of a header (R172). -/
def SHead.bytes (h : SHead) : List Byte :=
  leBytes 1 h.type ++ leBytes 1 h.flags ++ leBytes 2 h.length ++ leBytes 4 h.linkSeq ++ leBytes 4 h.linkAck ++ leBytes 4 0 ++
  leBytes 8 h.claim ++ leBytes 8 h.pairSeq ++ leBytes 8 h.commit ++ leBytes 6 h.addr ++ leBytes 2 h.qp ++ leBytes 3 h.psn ++
  leBytes 1 h.status ++ leBytes 4 h.ref ++ leBytes 4 0

/-- One frame of a message, number `i` of it, leaves a link under a link_seq (R172). -/
def State.putFrame (s : State) (l n i : Nat) (f : SFrame) : State :=
  let ps := f.payloads (Config.seamBody s.free)
  let (addr, data) := ps.getD i (0, [])
  let stamp := match f with
    | .mirror _ _ _ _ c _ => c
    | _ => s.commit
  let h : SHead := ⟨f.code, f.flags + (if f.sizes.length ≤ i + 1 then 1 else 0), data.length, n, (s.seamLink l).rx, f.claim s, f.pairSeq, stamp, addr,
    f.about.1, f.about.2, f.status, f.ref⟩
  let trailer := if data.isEmpty then none else some (crc64 (foldPrefix addr f.pairSeq ++ data))
  ({ s with free := s.free + 1 }).put (.seam l h (crc32c h.bytes) data trailer f)

/-- The bytes of the frames that a link holds unacknowledged (R174). -/
def Link.heldBytes (x : Link) : Nat := x.unacked.foldl (fun n u => n + u.2.2.sizes.getD u.2.1 64) 0

/-- A link has room for one more frame in its 1 MiB, and nothing waits before it (R174). -/
def Link.room (x : Link) (size : Nat) : Bool := decide (x.heldBytes + size ≤ 1048576)

/-- Orders frames by pair_seq; those of one number, and those not ordered, keep their order (R174). -/
def inPairOrder : List (Nat × SFrame) → List (Nat × SFrame)
  | [] => []
  | x :: l =>
    let r := inPairOrder l
    r.takeWhile (fun y => decide (y.2.pairSeq < x.2.pairSeq)) ++ x :: r.dropWhile (fun y => decide (y.2.pairSeq < x.2.pairSeq))

def SFrame.isBeat : SFrame → Bool
  | .beat _ _ _ _ => true
  | _ => false

/-- What a link that goes down has not delivered, in pair_seq order (R174). Its beats are of no more use (DESIGN CHOICE, log entry 124). -/
def Link.pending (x : Link) : List (Nat × SFrame) :=
  inPairOrder ((x.unacked.map (fun u => (u.2.1, u.2.2)) ++ x.queue).filter (fun p => !p.2.isBeat))

/-- A link with nothing in flight and nothing heard. -/
def Link.taken (x : Link) : Link := { x with synced := false, beats := 0, last := none, unacked := [], queue := [] }

/-- A frame of a message is put on a link: link_seq is the next of that link, and the frame is held until acknowledged (R174). -/
def State.launch (s : State) (l i : Nat) (f : SFrame) : State :=
  let x := s.seamLink l
  let n := (x.tx + 1) % 2 ^ 32
  (s.setLink l { x with tx := n, unacked := x.unacked ++ [(n, i, f)] }).putFrame l n i f

/-- The place of a frame among what waits for a link (R21): beats, then mirrors, forwards and what else the pair says, then resync copies. -/
def SFrame.rank : SFrame → Nat
  | .beat .. => 0
  | .copy .. => 2
  | _ => 1

/-- A frame takes its place among those that wait for a link: behind those of its rank, before those of a later one (R21). -/
def Link.join (x : Link) (i : Nat) (f : SFrame) : Link :=
  let before := fun (q : Nat × SFrame) => decide (q.2.rank ≤ f.rank)
  { x with queue := x.queue.takeWhile before ++ (i, f) :: x.queue.dropWhile before }

/-- A frame leaves on a link, or waits behind those that go before it and until there is room (R21, R174). -/
def State.sendFrame (s : State) (l i : Nat) (f : SFrame) : State :=
  let x := s.seamLink l
  if x.queue.all (fun q => decide (f.rank < q.2.rank)) && x.up && s.mayLeave f && x.room (f.sizes.getD i 64) then s.launch l i f
  else s.setLink l (x.join i f)

/-- A message leaves on a link, frame by frame. -/
def State.sendOn (s : State) (l : Nat) (f : SFrame) : State := forUp (fun i s => s.sendFrame l i f) f.sizes.length 0 s

/-- What waits for room on a link leaves in its order while there is room (R174). -/
def State.pumpN : Nat → Nat → State → State
  | 0, _, s => s
  | k + 1, l, s =>
    let x := s.seamLink l
    match x.queue with
    | [] => s
    | (i, f) :: q => if x.up && s.mayLeave f && x.room (f.sizes.getD i 64) then State.pumpN k l ((s.setLink l { x with queue := q }).launch l i f) else s
def State.pump (s : State) (l : Nat) : State := State.pumpN (s.seamLink l).queue.length l s

/-- A MIRROR frame that cannot leave is not kept: LEAD sends it again from its commit (R188). -/
def SFrame.kept : SFrame → Bool
  | .mirror _ _ _ _ _ _ => false
  | _ => true

/-- A frame leaves on a link that is up; with both up the link is a free choice. In PAIRED and RESYNC a frame that cannot leave yet, be it
for a closed gate or for want of a link, waits (DESIGN CHOICE, log entry 125); outside them it is dropped. -/
def State.seamSend (s : State) (f : SFrame) : State :=
  let linked := s.seam.link0.up || s.seam.link1.up
  if s.mayLeave f && linked then
    if s.seam.link0.up && s.seam.link1.up then ({ s with free := s.free + 1 }).sendOn (Config.choice s.free 2 % 2) f
    else if s.seam.link0.up then s.sendOn 0 f
    else s.sendOn 1 f
  else if (s.mode == .paired || s.mode == .resync) && f.kept then s.sendOn (if linked && !s.seam.link0.up then 1 else 0) f
  else s

/-! ### Queue pairs -/

def State.qpAt (s : State) (n : Nat) : Option Qp := alGet s.kept.qps n

/-- The queue pair accepts packets and answers (R69). -/
def qpLive : QpState → Bool
  | .rtr | .rts => true
  | _ => false

/-! ### Completions (R367, R369, R370) -/

/-- Removes the first command with a header from the commands that run. -/
def dropRunning (h : Hdr) : List GateCmd → List GateCmd
  | [] => []
  | c :: l => if c.hdr = h then l else c :: dropRunning h l

/-- Sends a completion by the path its command came on; over PCI Express it takes the slot of the same index, and is held
while the link is down (R367). On the management queue pair it waits for its port (R83, R85, R86), and is lost where that queue pair sends nothing (R69).
Its header carries the command's tag, code and claim number (DEDUCED, log entry 137). -/
def State.answer (s : State) (h : Hdr) (code : Nat) (st : Status) (vals : List Nat := []) : State :=
  let f : MHead := ⟨mCompletion, h.tag, code, st, h.claim, s.commit⟩
  if s.quiet then s
  else
    match h.src with
    | .pcie =>
      match s.pcie.find? (fun p => p.tag = h.tag) with
      | some p =>
        let s := { s with pcie := s.pcie.erase p }
        let o := Out.completion h.src (some p.slot) f vals
        if s.link then (s.put o).sendMsix 0 0 else { s with pcieHeld := s.pcieHeld ++ [o] }
      | none =>
        let o := Out.completion h.src none f vals
        if s.link then s.put o else { s with pcieHeld := s.pcieHeld ++ [o] }
    | .twin => s.seamSend (.cmdDone h code st vals)
    | .mqp => if (s.qpAt 0).any (fun q => qpLive q.state) then { s with mqpOut := s.mqpOut ++ [.completion h.src none f vals] } else s
    | _ => s.put (.completion h.src none f vals)

/-- The code of the first command with a header among the commands that run. -/
def State.runningCode (s : State) (h : Hdr) : Nat := ((s.gate.running.find? (fun c => c.hdr = h)).map (fun c => cmdCode c.cmd)).getD 0

/-- A running command completes. -/
def State.complete (s : State) (h : Hdr) (st : Status) (vals : List Nat := []) : State :=
  ({ s with gate := { s.gate with running := dropRunning h s.gate.running } }).answer h (s.runningCode h) st vals

/-- Before restore-serving every command that would modify the carve-out or tenant data completes BUSY (R154). -/
def State.restoring (s : State) : Bool := s.mode = .restore && !s.bit F.GLB_RESTORE_STAT_serving

/-- What the checks of a command come to: the status that refuses it, or the values that the device chooses for it. -/
abbrev Verdict := Except Status (List Nat)

/-- A command that would modify the carve-out or tenant data completes BUSY before restore-serving (R154). -/
def State.unlessRestoring (s : State) (vals : List Nat) : Verdict := if s.restoring then .error .busy else .ok vals

/-! ### Logical ports (R402) -/

/-- The logical port is present: the breakout of its port uses it (R402). -/
def State.lportPresent (s : State) (l : Nat) : Bool :=
  decide (l / 4 < s.part.ports) && decide (l % 4 < 2 ^ Nat.min 2 (s.fld (F.PORT_TP_CFG_brk (l / 4))))

/-! ### Changes of mode (R7, R300, R353) -/

/-- An agreement on DOZE that has not committed ends: its command completes BUSY (R299, R300). -/
def State.endDoze (s : State) : State :=
  let c := s.doze.cmd
  let s := { s with doze := { s.doze with phase := .idle, cmd := none, armed := false } }
  match c with
  | some h => s.complete h .busy
  | none => s

/-- A change of mode (R7, R353, R383); a change to the mode the unit is in is none. It aborts an agreement on DOZE that has not
committed (R300). -/
def State.setMode (s : State) (m : Mode) : State :=
  if s.mode = m then s
  else
    let s := match s.doze.phase with
      | .proposed _ | .accepted | .noticed => s.endDoze
      | _ => s
    ({ s with mode := m, prevMode := s.mode, changes := Nat.min 255 (s.changes + 1) }).raise Ev.GLB_MODE_CHANGE

/-! ### Free values -/

/-- A fresh index for a free value. -/
def State.tickFree (s : State) : State := { s with free := s.free + 1 }

/-! ### Memory (R37) -/

/-- One byte of memory; an unlisted byte reads zero (R110, R215, R217). -/
def memRead (m : List Host.Cell) (a : Nat) : Byte := (alGet m a).getD 0

/-- Writes one byte, keeping the canonical form. -/
def memWrite (m : List Host.Cell) (a : Nat) (b : Byte) : List Host.Cell :=
  if b = 0 then alDel m a else alPut m a b

/-- Writes bytes at consecutive addresses. -/
def memWrites : List Host.Cell → Nat → List Byte → List Host.Cell
  | m, _, [] => m
  | m, a, b :: l => memWrites (memWrite m a b) (a + 1) l

/-- Reads consecutive bytes. -/
def memReads (m : List Host.Cell) : Nat → Nat → List Byte
  | _, 0 => []
  | a, n + 1 => memRead m a :: memReads m (a + 1) n

/-- The canonical form of memory: addresses strictly rising, no byte listed that reads as an unlisted one. -/
def Memory.wf (m : List Host.Cell) : Bool := alRises 0 m && m.all (fun c => c.2 != 0)

end Sys2Proof.Machine
end

