-- ==== Sys2Proof/Machine/Peat.lean ====
section
/-! DEFINITION. The Peat recorder (R360 to R365): its records and their bytes, and the commands that act on it. -/

namespace Sys2Proof.Machine

/-- The bytes of a record as R361 stores it, with its CRC-32C. -/
def PeatRec.bytes (r : PeatRec) : List Byte :=
  let b := leBytes 1 r.kind ++ leBytes 1 r.sev ++ leBytes 2 r.source ++ leBytes 2 r.inst ++ leBytes 2 r.config ++
    leBytes 8 r.seq ++ leBytes 4 r.firstH ++ leBytes 4 r.firstC ++ leBytes 4 r.lastH ++ leBytes 4 r.lastC ++
    leBytes 4 r.data.count ++ leBytes 4 0 ++ leBytes 4 r.data.min ++ leBytes 4 r.data.max ++
    r.data.bins.flatMap (leBytes 4) ++ leBytes 12 0
  b ++ leBytes 4 (crc32c b)

/-- FEN_HOURS and FEN_CYCLES, the stamp of an update (R361). -/
def State.stampH (s : State) : Nat := s.fld F.FEN_HOURS_count
def State.stampC (s : State) : Nat := s.fld F.FEN_CYCLES_count

/-- A fresh record stamped now. -/
def State.newRec (s : State) (kind sev source inst config seq count : Nat) : PeatRec :=
  { kind := kind, sev := sev, source := source, inst := inst, config := config, seq := seq
    firstH := s.stampH, firstC := s.stampC, lastH := s.stampH, lastC := s.stampC
    data := { Live.zero with count := count }, lastAt := some s.mrt }

/-- A further raise counted in its record: the interval since the raise before it in ms, with b = 1 ms (R361). -/
def State.countRaise (s : State) (r : PeatRec) (q at_ : Nat) : PeatRec :=
  let d := match r.lastAt with
    | some t => { r.data.sample 1 ((at_ - t) / 1000000) with count := Nat.min 0xFFFFFFFF (r.data.count + 1) }
    | none => { r.data with count := Nat.min 0xFFFFFFFF (r.data.count + 1) }
  { r with seq := q, lastH := s.stampH, lastC := s.stampC, data := d, lastAt := some at_ }

/-- The `k`-th slot of the store that holds no record, counting up from slot `n`; `fuel` bounds the search. -/
def freeSlot (l : List (Nat × PeatRec)) : Nat → Nat → Option Nat
  | 0, _ => none
  | fuel + 1, n => if (alGet l (n % 4096)).isNone then some (n % 4096) else freeSlot l fuel (n + 1)

/-- The record that R362 lets a raise displace: lowest severity, then lowest seq; never one of group 15 or kind 2. -/
def victim : List (Nat × PeatRec) → Option (Nat × PeatRec)
  | [] => none
  | (k, r) :: l =>
    let skip := r.kind = 2 ∨ (r.kind = 1 ∧ 240 ≤ r.source ∧ r.source < 256)
    match victim l with
    | none => if skip then none else some (k, r)
    | some (j, v) =>
      if ¬ skip ∧ (r.sev < v.sev ∨ (r.sev = v.sev ∧ r.seq < v.seq)) then some (k, r) else some (j, v)

/-- The field of PEAT_DROP that counts a severity. -/
def dropField (sev : Nat) : Fld :=
  match sev with
  | 0 => F.PEAT_DROP_sev0
  | 1 => F.PEAT_DROP_sev1
  | 2 => F.PEAT_DROP_sev2
  | _ => F.PEAT_DROP_sev3

/-- Puts a record into a slot and advances the store sequence. -/
def State.putRec (s : State) (slot : Nat) (r : PeatRec) : State :=
  { s with kept := { s.kept with peat := alPut s.kept.peat slot r, peatSeq := r.seq } }

/-- A new record: a free slot, the slot of a displaced record, or the raise is dropped (R362). -/
def State.allocRec (s : State) (sev : Nat) (r : PeatRec) : State :=
  match freeSlot s.kept.peat 4096 (Config.choice s.free 4096) with
  | some k => s.tickFree.putRec k r
  | none =>
    match victim s.kept.peat with
    | some (k, v) =>
      if v.sev < sev then s.putRec k r
      else (s.sat (dropField sev)).raise Ev.PEAT_DROPPED
    | none => ((s.sat (dropField sev))).raise Ev.PEAT_DROPPED

/-- A raise granted at the Peat element updates or allocates its record (R360 to R362). -/
def State.recordRaise (s : State) (x : Raise) : State :=
  let q := s.kept.peatSeq + 1
  match s.kept.peat.find? (fun p => p.2.kind = 1 ∧ p.2.source = x.source ∧ p.2.inst = x.inst) with
  | some (k, r) => s.putRec k (s.countRaise r q x.at_)
  | none =>
    let sev := severity x.source
    s.allocRec sev { s.newRec 1 sev x.source x.inst 0 q 1 with lastAt := some x.at_ }

/-- PEAT_RECORD (R360): the raise at the head of the queue is granted; while a snapshot copy runs, raises wait (R363). -/
def doPeatRecord (s : State) : State :=
  match s.peatQ with
  | [] => s
  | x :: l => if s.bit F.PEAT_SNAP_CTRL_busy ∨ 5 ≤ s.save.step then s else ({ s with peatQ := l }).recordRaise x

def execPeatRecord (s : State) : Res := s.core doPeatRecord

/-- PEAT_SNAP_TAKE (R363): a write of PEAT_SNAP_CTRL. -/
def doPeatSnapTake (value : Word) (s : State) : State :=
  if value.getLsbD 31 && !s.bit F.PEAT_SNAP_CTRL_busy then
    (({ s with peatSnap := s.kept.peat }).setPair F.PEAT_SNAP_SEQ_LO_value F.PEAT_SNAP_SEQ_HI_value s.kept.peatSeq).setBit
      F.PEAT_SNAP_CTRL_busy true
  else s

def execPeatSnapTake (value : Word) (s : State) : Res := s.post F.PEAT_SNAP_CTRL_take.off value (doPeatSnapTake value)

/-- PEAT_SNAP_DONE (R363): the copy has completed. -/
def doPeatSnapDone (s : State) : State := s.setBit F.PEAT_SNAP_CTRL_busy false

def execPeatSnapDone (s : State) : Res := s.core doPeatSnapDone

/-- The records a clear of a scope removes (R364). -/
def inScope (scope : Nat) (r : PeatRec) : Bool :=
  match scope with
  | 1 => r.kind = 1 && r.sev ≤ 1
  | 2 => r.kind = 1 && r.sev ≤ 2
  | 3 => r.kind = 1 || r.kind = 2 || r.kind = 3
  | _ => false

/-- A record cleared: records of group 15 and lifetime records keep their slot and start again (R361), others leave it. -/
def clearRec (scope : Nat) (p : Nat × PeatRec) : Option (Nat × PeatRec) :=
  if inScope scope p.2 then
    if p.2.kind = 2 ∨ (p.2.kind = 1 ∧ 240 ≤ p.2.source ∧ p.2.source < 256) then
      some (p.1, { p.2 with data := Live.zero, lastAt := none })
    else none
  else some p

/-- An accepted peat-clear (R364): the scope is cleared, then a kind-3 record is written and PEAT_CLEARED raised. -/
def State.clearPeat (s : State) (scope key : Nat) : State :=
  let n := (s.kept.peat.filter (fun p => inScope scope p.2)).length
  let s := { s with kept := { s.kept with peat := s.kept.peat.filterMap (clearRec scope) } }
  let q := s.kept.peatSeq + 1
  (s.allocRec 3 { s.newRec 3 3 0 0 (scope + 256 * key) q n with lastAt := none }).raise Ev.PEAT_CLEARED

/-- The lifetime record of monitor m restarts where its configuration differs from the record's (R361). -/
def State.lifeRec (m : Nat) (s : State) : State :=
  let cfg := s.fld (F.MON_CFGm_sel m) * 256 + s.fld (F.MON_CFGm_base_log2 m)
  let inst := s.fld (F.MON_CFGm_inst m)
  let fresh := fun q => { s.newRec 2 3 m inst cfg q 0 with lastAt := none }
  match s.kept.peat.find? (fun p => p.2.kind = 2 ∧ p.2.source = m) with
  | some (k, r) =>
    if r.config = cfg ∧ r.inst = inst then s else s.putRec k (fresh (s.kept.peatSeq + 1))
  | none => s.allocRec 4 (fresh (s.kept.peatSeq + 1))

/-- The records of group 15 that the store always holds (R361). -/
def State.ownRec (ev : Nat) (s : State) : State :=
  match s.kept.peat.find? (fun p => p.2.kind = 1 ∧ p.2.source = ev) with
  | some _ => s
  | none => s.allocRec 4 { s.newRec 1 (severity ev) ev 0 0 (s.kept.peatSeq + 1) 0 with lastAt := none }

/-- Peat at BRINGUP (R361, R365): the records it always holds are allocated; times of raises before RESET are not known on
this run's reference timer. -/
def State.startPeat (s : State) : State :=
  let s := { s with kept := { s.kept with peat := s.kept.peat.map (fun p => (p.1, { p.2 with lastAt := none })) } }
  forUp State.lifeRec 16 0 (forUp State.ownRec 5 240 s)

/-- A unit that restores no image has started with an empty store: a kind-4 record, and PEAT_STORE_LOST (R365). -/
def State.notePeatLost (s : State) : State :=
  (s.allocRec 3 { s.newRec 4 3 0 0 0 (s.kept.peatSeq + 1) 0 with lastAt := none }).raise Ev.PEAT_STORE_LOST

/-- A store that is lost in service (R365): empty but for the records it always holds and a kind-4 record. -/
def State.losePeat (s : State) : State :=
  let s := { s with kept := { s.kept with peat := [], peatSeq := 0 } }
  s.startPeat.notePeatLost

end Sys2Proof.Machine
end

