-- ==== Sys2Proof/Machine/Event.lean ====
section
/-! DEFINITION. The event unit's commands and the monitors' snapshot (R356, R357, R359). -/

namespace Sys2Proof.Machine

/-- EVT_FRAME_GAP_EXPIRE (R356): frame_gap_ms after a source's last entry, its held raises go out as one entry. -/
def doEvtFrameGapExpire (source : Nat) (s : State) : State :=
  match alGet s.ev.held source with
  | some (n, inst) => if s.quiet then s else (s.pushEntry ⟨source, inst, n⟩).overflowOnce s.ev.fullSeen
  | none => s

def execEvtFrameGapExpire (source : Fin 640) (s : State) : Res := s.core (doEvtFrameGapExpire source.val)

/-- Pending bits cleared by a W1C write (R357). -/
def doEvtPendClear (g : Nat) (value : Word) (s : State) : State :=
  s.setFld (F.EVT_PENDg_pend g) (s.fld (F.EVT_PENDg_pend g) &&& (65535 - value.toNat % 65536))

/-- EVT_PEND_CLEAR (R357). -/
def execEvtPendClear (g : Fin 40) (value : Word) (s : State) : Res :=
  s.post (F.EVT_PENDg_pend g.val).off value (doEvtPendClear g.val value)

/-- A source whose mask bit has just been cleared sends its MSI-X if it is pending (R356). -/
def unmaskedSource (g old new i : Nat) (s : State) : State :=
  if old.testBit i && !new.testBit i && s.pended (16 * g + i) then s.msixRoute (16 * g + i) else s

/-- A write of EVT_MASKg (R356). -/
def doEvtMaskWrite (g : Nat) (value : Word) (s : State) : State :=
  let old := s.fld (F.EVT_MASKg_mask g)
  let new := value.toNat % 65536
  forUp (unmaskedSource g old new) 16 0 (s.setFld (F.EVT_MASKg_mask g) new)

/-- EVT_MASK_WRITE (R356). -/
def execEvtMaskWrite (g : Fin 40) (value : Word) (s : State) : Res :=
  s.post (F.EVT_MASKg_mask g.val).off value (doEvtMaskWrite g.val value)

/-- A monitor's readout registers take its live values (R359). -/
def showMonitor (s : State) (p : Nat × Live) : State :=
  let s := ((s.setFld (F.MON_COUNTm_value p.1) p.2.count).setFld (F.MON_MINm_value p.1) p.2.min).setFld
    (F.MON_MAXm_value p.1) p.2.max
  forUp (fun k s => s.setFld (F.MON_BINm_k_bin p.1 k) (p.2.bins.getD k 0)) 16 0 s

/-- The offset is a readout register of a monitor. -/
def monReadout (off : Nat) : Bool := decide (0x41000 ≤ off) && decide (off < 0x43000) && decide (off % 0x80 ≠ 0)

/-- A write of MON_CTRL with snap = 1 (R359). -/
def State.snapMonitors (s : State) : State :=
  let s := s.mons.foldl showMonitor { s with csr := s.csr.filter (fun c => !monReadout c.1) }
  let s := s.wrap F.MON_CTRL_snap_seq
  if s.bit F.MON_CTRL_clear_on_snap then { s with mons := [] } else s

/-- A write of MON_CTRL: clear_on_snap takes its value, and snap = 1 takes a snapshot (R359). -/
def doMonSnap (value : Word) (s : State) : State :=
  let s := s.setBit F.MON_CTRL_clear_on_snap (value.getLsbD 30)
  if value.getLsbD 31 then s.snapMonitors else s

/-- MON_SNAP (R359). -/
def execMonSnap (value : Word) (s : State) : Res := s.post F.MON_CTRL_snap.off value (doMonSnap value)

end Sys2Proof.Machine
end

