-- ==== Sys2Proof/Machine/Clock.lean ====
section
/-! DEFINITION. The time unit and the commit clock (R306 to R315). -/

namespace Sys2Proof.Machine

/-- The states of TIME_STATUS.state (R309). -/
abbrev freerun : Nat := 0
abbrev locking : Nat := 1
abbrev locked : Nat := 2
abbrev holdover : Nat := 3

/-- The commit clock begins to be held at a value above time-of-day (R313). -/
def State.holdCommit (s : State) (v : Nat) : State :=
  if v ≤ s.commit ∧ s.clk.held.isSome then s
  else if v ≤ s.clk.tod then s
  else
    let was := s.clk.held.isSome
    let s := ({ s with clk := { s.clk with held := some v } }).setBit F.TIME_STATUS_commit_held true
    if was then s else s.raise Ev.TIME_COMMIT_HELD

/-- A commit stamp received in a Seam frame raises the commit clock to at least that stamp (R313). -/
def State.raiseCommit (s : State) (stamp : Nat) : State := if stamp ≤ s.commit then s else s.holdCommit stamp

/-- Time-of-day has passed the held value: the commit clock runs again (R313). -/
def State.releaseCommit (s : State) : State :=
  match s.clk.held with
  | some h =>
    if h < s.clk.tod then ({ s with clk := { s.clk with held := none } }).setBit F.TIME_STATUS_commit_held false else s
  | none => s

/-- COMMIT_CLOCK_RELEASE (R313). -/
def execCommitClockRelease (s : State) : Res := s.core State.releaseCommit

/-- A source is enabled in TIME_CTRL.src_en and qualified (R307): 1 PTP, 2 PPS_IN0, 3 PPS_IN1. -/
def State.srcReady (s : State) (n : Nat) : Bool :=
  (s.fld F.TIME_CTRL_src_en).testBit (n - 1) &&
  (match n with
   | 1 => s.clk.announced && decide (16 ≤ s.clk.exchanges)
   | 2 => s.clk.pps0.named.isSome && decide (4 ≤ s.clk.pps0.good)
   | _ => s.clk.pps1.named.isSome && decide (4 ≤ s.clk.pps1.good))

/-- The highest-priority source that is enabled and qualified; 0 where none is (R307). -/
def State.bestSrc (s : State) : Nat := if s.srcReady 1 then 1 else if s.srcReady 2 then 2 else if s.srcReady 3 then 3 else 0

/-- LOCKED ends: the mean offset over its last 16 s is kept for u0 (R310). -/
def State.leaveLocked (s : State) : State :=
  if s.fld F.TIME_STATUS_state = locked then
    let l := s.clk.offsets.filter (fun p => decide (s.mrt ≤ p.1 + 16000000000))
    { s with clk := { s.clk with
        u0Sum := (l.foldl (fun (a : Int) (p : Nat × Int) => a + p.2) 0).natAbs, u0Count := Nat.max 1 l.length, offsets := [] } }
  else s

/-- The holdover uncertainty after `t` seconds as a fraction (R310): u0 + s t + a t^2 / 2 in ns over a common denominator. -/
def State.uncert (s : State) (t : Nat) : Nat × Nat :=
  let n := s.clk.u0Count
  ((s.clk.u0Sum + 20 * n) * 1728000 + s.fld F.TIME_HOLD_CFG_stab * t * 172800 * n +
    s.fld F.TIME_HOLD_CFG_aging * t * t * n, 1728000 * n)

/-- TIME_UNCERT and in_spec at a holdover age (R310); the fraction of a ns is rounded either way. -/
def State.showUncert (s : State) (t : Nat) : State :=
  let (a, b) := s.uncert t
  let u := if Config.roundsUp s.free then ceilDiv a b else a / b
  ((s.tickFree.setFld F.TIME_HOLD_AGE_value t).setFld F.TIME_UNCERT_value (Nat.min 0xFFFFFFFF u)).setBit
    F.TIME_STATUS_in_spec (decide (a ≤ s.fld F.TIME_HOLD_CFG_limit * 10 * b))

/-- No source is followed: nothing is slewed or stepped any more. -/
def State.runFree (s : State) : State :=
  let s := { s with clk := { s.clk with slew := 0, step := none, band := none } }
  (s.setBit F.TIME_STATUS_step_pending false).setFld F.TIME_STATUS_source 0

/-- The time unit enters HOLDOVER (R309). -/
def State.enterHoldover (s : State) : State :=
  let s := s.leaveLocked.runFree
  let s := s.setFld F.TIME_STATUS_state holdover
  (s.showUncert 0).raise Ev.TIME_HOLDOVER

/-- The time unit follows a source: LOCKING (R309); the holdover registers read 0 outside HOLDOVER (R315). -/
def State.enterLocking (s : State) (src : Nat) : State :=
  let s := s.leaveLocked
  let s := (s.setFld F.TIME_STATUS_source src).setFld F.TIME_STATUS_state locking
  ((s.setFld F.TIME_HOLD_AGE_value 0).setFld F.TIME_UNCERT_value 0).setBit F.TIME_STATUS_in_spec false

/-- The followed source is lost or disabled: the time unit moves to the best source left, or to HOLDOVER once it has been
locked, or runs free again (R307, R309). -/
def State.dropSrc (s : State) : State :=
  let src := s.fld F.TIME_STATUS_source
  if src = 0 ∨ s.srcReady src then s
  else
    let b := s.bestSrc
    if b ≠ 0 then s.enterLocking b
    else if s.clk.wasLocked then s.enterHoldover
    else s.runFree.setFld F.TIME_STATUS_state freerun

/-- The offset lies, or does not lie, within the lock band (R309). -/
def State.noteBand (s : State) (off : Int) : State :=
  { s with clk := { s.clk with band := if off.natAbs ≤ 100 then some (s.clk.band.getD s.mrt) else none } }

/-- The offset of a qualified source is slewed, marked pending, or marked for a step (R311). One above 1 ms ends the slew of the offset before it
(DEDUCED, log entry 141). -/
def State.measure (s : State) (src : Nat) (off : Int) : State :=
  let s := (s.setPair F.TIME_OFFSET_LO_value F.TIME_OFFSET_HI_value (ofSigned 64 off)).noteBand off
  if off.natAbs ≤ 1000000 then
    let s := { s with clk := { s.clk with slew := off, step := none } }
    let s := s.setBit F.TIME_STATUS_step_pending false
    if s.fld F.TIME_STATUS_state = locked ∧ s.fld F.TIME_STATUS_source = src ∧ off.natAbs ≤ 100 then
      { s with clk := { s.clk with offsets := s.clk.offsets ++ [(s.mrt, off)] } }
    else if s.fld F.TIME_STATUS_state = locking ∧ s.fld F.TIME_STATUS_source = src then s
    else s.enterLocking src
  else
    let s := { s with clk := { s.clk with step := some off, slew := 0 } }
    if s.bit F.TIME_CTRL_step_allow then s.enterLocking src
    else if s.bit F.TIME_STATUS_step_pending then s
    else (s.setBit F.TIME_STATUS_step_pending true).raise Ev.TIME_STEP_PENDING

/-- An offset measured by source `src`, if that is the source to follow (R307). -/
def State.offsetFrom (s : State) (src : Nat) (off : Int) : State := if s.bestSrc = src then s.measure src off else s

/-- PTP_MESSAGE_RECEIVE (R307, R308): only the chosen logical port disciplines; other messages are timestamped. -/
def doPtpMessageReceive (lport : Nat) (m : PtpMsg) (s : State) : State :=
  if s.fld F.TIME_CTRL_ptp_lport ≠ lport ∨ !s.lportPresent lport then s
  else
    match m with
    | .announce accepted => if accepted then { s with clk := { s.clk with announced := true } } else s
    | .exchange off =>
      ({ s with clk := { s.clk with exchanges := Nat.min 16 (s.clk.exchanges + 1) } }).offsetFrom 1 off
    | .event => s

/-- PTP_SOURCE_LOST (R307). -/
def doPtpSourceLost (s : State) : State :=
  ({ s with clk := { s.clk with announced := false, exchanges := 0 } }).dropSrc

def execPtpSourceLost (s : State) : Res := s.core doPtpSourceLost

/-- The PPS input of a number, and that input set. -/
def TimeUnit.pps (c : TimeUnit) (n : Nat) : Pps := if n = 0 then c.pps0 else c.pps1
def State.setPps (s : State) (n : Nat) (p : Pps) : State :=
  { s with clk := if n = 0 then { s.clk with pps0 := p } else { s.clk with pps1 := p } }

/-- PPS_IN_EDGE (R307): an edge `errNs` from its predicted second boundary counts toward qualification, and a qualified
input's edge marks its named TAI second, which gives the offset. -/
def doPpsInEdge (n : Nat) (errNs : Int) (s : State) : State :=
  let p := s.clk.pps n
  match p.named with
  | none => s
  | some sec =>
    let good := if p.good = 4 then 4 else if errNs.natAbs ≤ 1000 then p.good + 1 else 0
    (s.setPps n ⟨some (sec + 1), good⟩).offsetFrom (n + 2) ((sec * 1000000000 : Nat) - (s.clk.tod : Int))

def execPpsInEdge (n : Fin 2) (errNs : Int) (s : State) : Res := s.core (doPpsInEdge n.val errNs)

/-- PPS_IN_MISSING (R307). -/
def doPpsInMissing (n : Nat) (s : State) : State := (s.setPps n {}).dropSrc

def execPpsInMissing (n : Fin 2) (s : State) : Res := s.core (doPpsInMissing n.val)

/-- TIME_LOCKED (R309): the offset has stayed within ±100 ns for 16 s. -/
def doTimeLocked (s : State) : State :=
  if s.fld F.TIME_STATUS_state = locking ∧ s.clk.band.any (fun t => decide (t + 16000000000 ≤ s.mrt)) then
    ({ s with clk := { s.clk with wasLocked := true } }).setFld F.TIME_STATUS_state locked
  else s

def execTimeLocked (s : State) : Res := s.core doTimeLocked

/-- HOLDOVER_UPDATE (R310): each second in HOLDOVER. -/
def doHoldoverUpdate (s : State) : State :=
  if s.fld F.TIME_STATUS_state = holdover then
    let was := s.bit F.TIME_STATUS_in_spec
    let s := s.showUncert (Nat.min 0xFFFFFFFF (s.fld F.TIME_HOLD_AGE_value + 1))
    if was && !s.bit F.TIME_STATUS_in_spec then s.raise Ev.TIME_OUT_OF_SPEC else s
  else s

def execHoldoverUpdate (s : State) : Res := s.core doHoldoverUpdate

/-- The reference timer advances by quarters of a ns; FEN_HOURS counts units of 0.01 h of it (R292). -/
def State.age (s : State) (q : Nat) : State :=
  let n := (s.mrtQ + q) / 144000000000 - s.mrtQ / 144000000000
  let s := { s with mrtQ := s.mrtQ + q }
  if n = 0 then s else s.wrap F.FEN_HOURS_count n

/-- What the slew adds to one cycle of the TIME clock (R311): its rate changes by slew_us µs per s and by 10 µs per s at most, so a cycle of 4 ns takes
1 ns more or less once that much has come together. Time-of-day therefore never runs backwards under a slew (R313). -/
def State.slewCycle (s : State) : Int × State :=
  if s.clk.slew = 0 then (0, { s with clk := { s.clk with slewFs := 0 } })
  else
    let fs := s.clk.slewFs + 4 * Nat.min 10 (s.fld F.TIME_CTRL_slew_us)
    if fs < 1000000 then (0, { s with clk := { s.clk with slewFs := fs } })
    else
      let d : Int := if s.clk.slew < 0 then -1 else 1
      (d, { s with clk := { s.clk with slewFs := fs - 1000000, slew := s.clk.slew - d } })

/-- A cycle of the TIME clock (R23): the reference timer advances by 4 ns, and time-of-day with it, slewed. -/
def State.pass (s : State) : State :=
  let s := s.age 16
  let (d, s) := s.slewCycle
  ({ s with clk := { s.clk with tod := (s.clk.tod + 4 + d).toNat } }).releaseCommit

/-- A pulse of PPS_OUTn at this boundary, shifted by its offset (R312). -/
def State.pulse (n : Nat) (s : State) : State :=
  if s.bit (F.TIME_PPS_CFGn_en n) then
    s.put (.pps n (s.fld (F.TIME_PPS_CFGn_width_ms n)) (s.clk.tod / 1000000000 * 1000000000 + toSigned 20 (s.fld (F.TIME_PPS_CFGn_offset_ns n))))
  else s

/-- The step that step_allow permits, applied immediately after the boundary's pulse; a backward step holds the commit
clock at its value at the step (R311, R313). -/
def State.stepSecond (s : State) : State :=
  match s.clk.step with
  | some off =>
    if s.bit F.TIME_CTRL_step_allow then
      let was := s.commit
      let t := (s.clk.tod + off).toNat
      let s := { s with clk := { s.clk with tod := t, pulseSec := t / 1000000000, step := none } }
      let s := (s.setBit F.TIME_CTRL_step_allow false).setBit F.TIME_STATUS_step_pending false
      let s := if off < 0 then s.holdCommit was else s.releaseCommit
      let s := s.raise Ev.TIME_STEPPED
      if s.fld F.TIME_STATUS_state = locking ∨ s.bestSrc = 0 then s else s.enterLocking s.bestSrc
    else s
  | none => s

/-- PPS_OUT_PULSE (R311, R312): time-of-day has reached a second boundary that has had no pulse; pulses leave, unless the previous pulse
lies less than 0.5 s back, then a permitted step is applied. The outputs stop in DOZE. -/
def doPpsOutPulse (s : State) : State :=
  let sec := s.clk.tod / 1000000000
  if s.mode = .doze ∨ sec ≤ s.clk.pulseSec then s
  else
    let late := match s.clk.pulseAt with
      | some t => decide (t + 500000000 ≤ s.mrt)
      | none => true
    let s := if late then { State.pulse 1 (State.pulse 0 s) with clk := { s.clk with pulseAt := some s.mrt, pulseSec := sec } }
      else { s with clk := { s.clk with pulseSec := sec } }
    s.stepSecond

def execPpsOutPulse (s : State) : Res := s.core doPpsOutPulse

/-- TIME_TOD_SNAPSHOT (R315): a read of TIME_TOD_NS latches the four registers at the same moment. -/
def doTimeTodSnapshot (s : State) : State :=
  let sec := s.clk.tod / 1000000000
  let s := s.setFld F.TIME_TOD_NS_value (s.clk.tod % 1000000000)
  let s := (s.setFld F.TIME_TOD_SEC_LO_value sec).setFld F.TIME_TOD_SEC_HI_value (sec / 2 ^ 32 % 65536)
  s.setPair F.TIME_COMMIT_LO_value F.TIME_COMMIT_HI_value s.commit

def execTimeTodSnapshot (s : State) : Res := s.core doTimeTodSnapshot

/-- SET_TIME (R307): names the TAI second of the next edge of a PPS input. -/
def doSetTime (h : Hdr) (n second : Nat) (s : State) : State :=
  if second < 2 ^ 48 then (s.setPps n { s.clk.pps n with named := some second }).complete h .ok
  else s.complete h .invalid

def execSetTime (h : Hdr) (n : Fin 2) (second : Nat) (s : State) : Res := s.start h (.setTime n second) (doSetTime h n.val second)

/-- One cycle of the clock that drives the reference timer (R23): 4 ns on the TIME clock, 126.25 ns on Fen's oscillator in
DOZE, where the TIME clock and time-of-day stop; none in RESET. -/
def State.tick (s : State) : State :=
  match s.mode with
  | .reset => s
  | .doze => s.age 505
  | _ => s.pass

end Sys2Proof.Machine
end

