-- ==== Sys2Proof/Machine/Thimble.lean ====
section
/-! DEFINITION. Thimble: fuses, lifecycle, tokens and debug levels (R338 to R352, R364). -/

namespace Sys2Proof.Machine

/-- The lifecycle states (R342, R352). -/
abbrev blank : Nat := 0
abbrev provisioned : Nat := 1
abbrev secured : Nat := 2
abbrev returned : Nat := 3
abbrev scrapped : Nat := 4

/-- The root of the keys derived from the DRK (R338): in BLANK a fixed one. -/
def Fuses.saveRoot (f : Fuses) : Drk := if f.life = blank then .absent else f.drk

/-- Keys 1 to 3 that are programmed and not revoked (R344). -/
def Fuses.ownerKeys (f : Fuses) : BitVec 4 := f.programmed &&& ~~~f.revoked &&& 0b1110#4

/-- Key 0 unless it is revoked (R344, R350). -/
def Fuses.makerKey (f : Fuses) : BitVec 4 := ~~~f.revoked &&& 0b0001#4

/-- The signing keys enabled in the lifecycle state (R344). -/
def Fuses.enabled (f : Fuses) : BitVec 4 :=
  if f.life = secured then f.ownerKeys
  else if f.life = returned then f.makerKey
  else if f.life = scrapped then 0
  else f.makerKey ||| f.ownerKeys

/-- The key may sign a token in the lifecycle state (R346). -/
def Fuses.tokenKey (f : Fuses) (key : Fin 4) : Bool :=
  f.enabled.getLsbD key.val &&
  (if f.life = returned then key.val == 0 else (f.life == provisioned || f.life == secured) && key.val != 0)

/-- The matrix of R348 permits the level in the lifecycle state. -/
def Fuses.levelOk (f : Fuses) (level : Nat) : Bool :=
  (level == 1 || level == 2) && f.life != scrapped && !(f.life == secured && level == 2)

/-! ### Entropy and challenges (R340, R346) -/

/-- ENTROPY_HEALTH_FAIL (R340). -/
def doEntropyHealthFail (s : State) : State :=
  let s := { s with thm := { s.thm with fresh := false } }
  ((s.setBit F.THM_ENTROPY_fail true).setBit F.THM_ENTROPY_health_ok false).raise Ev.THM_ENTROPY_FAIL

def execEntropyHealthFail (s : State) : Res := s.core doEntropyHealthFail

/-- A reseed of the DRBG (R340): a reseed that passes its health tests makes fresh entropy available again. -/
def doDrbgReseed (pass : Bool) (s : State) : State :=
  if pass then
    let s := { s with thm := { s.thm with fresh := true } }
    (s.wrap F.THM_ENTROPY_reseeds).setBit F.THM_ENTROPY_health_ok true
  else s.setBit F.THM_ENTROPY_health_ok false

/-- A new challenge voids the one before it (R346). -/
def State.drawChallenge (s : State) : State :=
  { s.tickFree with thm := { s.thm with challenge := some (Config.draw s.free) } }

/-- DEBUG_CHALLENGE (R340, R346). -/
def doDebugChallenge (h : Hdr) (s : State) : State :=
  if s.thm.fresh then s.drawChallenge.complete h .ok [Config.draw s.free] else s.complete h .busy

def execDebugChallenge (h : Hdr) (s : State) : Res := s.start h .debugChallenge (doDebugChallenge h)

/-- TAP_CHALLENGE_READ (R346, R375): the challenge leaves through the test access port. -/
def doTapChallengeRead (s : State) : State :=
  if s.thm.fresh then s.drawChallenge.put (.tap [Config.draw s.free]) else s

def execTapChallengeRead (s : State) : Res := s.core doTapChallengeRead

/-- CHALLENGE_EXPIRE (R346). -/
def doChallengeExpire (s : State) : State := { s with thm := { s.thm with challenge := none } }

def execChallengeExpire (s : State) : Res := s.core doChallengeExpire

/-! ### Debug levels (R346, R347) -/

/-- The two bits of a lockstep pair in LKS_STATUS (R280): 0 TRUSTED, 1 SPARE, 2 TESTING, 3 UNTRUSTED. -/
def State.pairState (s : State) (p : Nat) : Nat := s.fld F.LKS_STATUS_pairs / 4 ^ p % 4

/-- Pairs TRUSTED or SPARE (R280). -/
def State.countUsable (s : State) : Nat := ((List.range 4).filter (fun p => decide (s.pairState p < 2))).length

/-- Sets a pair's state and the count of usable pairs. -/
def State.setPair_ (s : State) (p v : Nat) : State :=
  let w := s.fld F.LKS_STATUS_pairs
  let s := s.setFld F.LKS_STATUS_pairs (w - w / 4 ^ p % 4 * 4 ^ p + v * 4 ^ p)
  s.setFld F.LKS_STATUS_usable s.countUsable

/-- A debugger's halted pair is released and becomes SPARE (R348). -/
def State.releasePair (s : State) (p : Nat) : State :=
  if s.lks.halted.contains p then
    ({ s with lks := { s.lks with halted := s.lks.halted.erase p } }).setPair_ p 1
  else s

/-- The debug level returns to CLOSED; halted pairs are released (R347). -/
def State.closeDebug (s : State) : State :=
  let s := forUp (fun p s => s.releasePair p) 4 0 s
  ((s.setFld F.THM_LIFECYCLE_debug 0).setFld F.THM_DBG_STAT_level 0).setFld F.THM_DBG_STAT_opened_by 0

/-- A debug level opens (R346). -/
def State.openDebug (s : State) (level opened : Nat) : State :=
  (((s.setFld F.THM_LIFECYCLE_debug level).setFld F.THM_DBG_STAT_level level).setFld F.THM_DBG_STAT_opened_by
    opened).raise Ev.THM_DBG_OPEN

/-- The fields of a token but its signature are right for its use: magic, device, current challenge, byte 48 (R346). -/
def State.tokenFields (s : State) (t : Token) (use : TokenUse) : Bool :=
  decide (t.devid = s.fuses.devid) && decide (s.thm.challenge = some t.challenge) &&
  (match use with
   | .debug l => t.magic == 0 && t.level == l && s.fuses.levelOk l
   | .life c => t.magic == 1 && t.level == c
   | .peat c => t.magic == 2 && t.level == c)

/-- A token reaches the unlock element: the challenge it is built on is spent, and the signature check begins (R346). A token built on another challenge leaves
the current one (DEDUCED, log entry 135). -/
def State.present (s : State) (t : Token) (use : TokenUse) (for_ : Option Hdr) : State :=
  { s with thm := { s.thm with
      challenge := if s.thm.challenge = some t.challenge then none else s.thm.challenge
      verify := s.thm.verify ++ [⟨t, use, for_, s.tokenFields t use⟩] } }

/-- Completes the command of a token, where it has one. -/
def State.completeIf (s : State) (h : Option Hdr) (st : Status) : State :=
  match h with
  | some h => s.complete h st
  | none => s

/-- A token refused (R346, R364). -/
def State.refuseToken (s : State) (use : TokenUse) (h : Option Hdr) : State :=
  match use with
  | .peat _ => (s.completeIf h .invalid).raise Ev.PEAT_CLEAR_BAD
  | _ => ((s.sat F.THM_DBG_STAT_fails).completeIf h .invalid).raise Ev.THM_DBG_FAIL

/-- DEBUG_OPEN (R346): in BLANK the level opens with no token; one that asks with no token elsewhere, or for a level that the matrix does not have, is refused
as a token is (DEDUCED, log entry 181). -/
def doDebugOpen (h : Hdr) (level : Nat) (t : Option Token) (s : State) : State :=
  if s.fuses.life = blank then
    if s.fuses.levelOk level then (s.openDebug level 1).complete h .ok else s.refuseToken (.debug level) (some h)
  else
    match t with
    | some t => s.present t (.debug level) (some h)
    | none => s.refuseToken (.debug level) (some h)

def execDebugOpen (h : Hdr) (level : Fin 3) (t : Option Token) (s : State) : Res := s.start h (.debugOpen level t) (doDebugOpen h level.val t)

/-- DEBUG_CLOSE (R347). -/
def doDebugClose (h : Hdr) (s : State) : State := s.closeDebug.complete h .ok

def execDebugClose (h : Hdr) (s : State) : Res := s.start h .debugClose (doDebugClose h)

/-- TAP_TOKEN_WRITE (R346). -/
def doTapTokenWrite (t : Token) (s : State) : State := s.present t (.debug t.level) none

def execTapTokenWrite (t : Token) (s : State) : Res := s.core (doTapTokenWrite t)

/-- PEAT_CLEAR (R364): in BLANK no token is needed. -/
def doPeatClear (h : Hdr) (scope : Nat) (t : Option Token) (s : State) : State :=
  if scope = 0 then s.complete h .invalid
  else if s.fuses.life = blank then (s.clearPeat scope 0).complete h .ok
  else
    match t with
    | some t => s.present t (.peat scope) (some h)
    | none => (s.complete h .invalid).raise Ev.PEAT_CLEAR_BAD

def execPeatClear (h : Hdr) (scope : Fin 4) (t : Option Token) (s : State) : Res := s.start h (.peatClear scope t) (doPeatClear h scope.val t)

/-! ### Lifecycle and fuses (R341 to R343, R349, R350) -/

/-- A lifecycle command is accepted only in BRINGUP after the THM lock is set, with no fuse sequence running (R342). -/
def State.lifeOpen (s : State) : Bool := s.mode = .bringup && s.bit F.THM_LOCK_lock && s.thm.burn.isNone

/-- A fuse sequence starts, unless Fen's brown-out indication is present (R341). -/
def State.startBurn (s : State) (h : Hdr) (steps : List Burn) : State :=
  if s.brownout then s.complete h .brownout
  else { s with thm := { s.thm with burn := some ⟨steps, some h⟩ } }

/-- The steps that destroy the keys (R349, steps 1 to 3). -/
def destroySteps : List Burn := [.destroyBegun, .revokeOwner, .destroyKeys]

/-- The burns of a transition to a lifecycle state (R342, R349, R350). -/
def Fuses.lifeSteps (f : Fuses) (code : Nat) : List Burn :=
  if code = secured then [.life secured]
  else if code = returned then destroySteps ++ [.life returned]
  else [.scrapIntent] ++ (if f.life = returned then [] else destroySteps) ++ [.revokeMaker, .life scrapped]

/-- The transition exists from the present state (R342). -/
def Fuses.canGo (f : Fuses) (code : Nat) : Bool :=
  if code = secured then f.life == provisioned
  else if code = returned then f.life == provisioned || f.life == secured
  else code == scrapped && f.life != scrapped

/-- A lifecycle command under a token (R342). -/
def doLifeCommand (code : Nat) (h : Hdr) (t : Option Token) (s : State) : State :=
  if !s.lifeOpen then s.complete h .busy
  else if !s.fuses.canGo code then s.complete h .invalid
  else if s.fuses.life = blank then s.startBurn h (s.fuses.lifeSteps code)
  else
    match t with
    | some t => s.present t (.life code) (some h)
    | none => s.complete h .invalid

def execSecure (h : Hdr) (t : Option Token) (s : State) : Res := s.start h (.secure t) (doLifeCommand secured h t)
def execReturnUnit (h : Hdr) (t : Option Token) (s : State) : Res := s.start h (.returnUnit t) (doLifeCommand returned h t)
def execScrap (h : Hdr) (t : Option Token) (s : State) : Res := s.start h (.scrap t) (doLifeCommand scrapped h t)

/-- PROVISION_BEGIN (R343): burns a DRK if there is none, and returns the identity public key and THM_DEVID. -/
def doProvisionBegin (h : Hdr) (s : State) : State :=
  if s.fuses.life ≠ blank then s.complete h .invalid
  else
    match s.fuses.drk with
    | .present => s.complete h .ok [Config.identityKey, s.fuses.devid]
    | .destroyed => s.complete h .invalid
    | .absent =>
      if s.thm.fresh && s.thm.burn.isNone then s.startBurn h [.drk] else s.complete h .busy

def execProvisionBegin (h : Hdr) (s : State) : Res := s.start h .provisionBegin (doProvisionBegin h)

/-- PROVISION_COMMIT (R342, R343). -/
def doProvisionCommit (h : Hdr) (keys : BitVec 4) (tagOk : Bool) (s : State) : State :=
  if !s.lifeOpen then s.complete h .busy
  else if s.fuses.life ≠ blank ∨ s.bit F.GLB_SAVE_STAT_sealed ∨ keys &&& 0b1110#4 = 0 ∨ !tagOk ∨ s.fuses.drk ≠ .present then
    s.complete h .invalid
  else s.startBurn h [.keys (keys &&& 0b1110#4), .wrapKey, .life provisioned]

def execProvisionCommit (h : Hdr) (keys : BitVec 4) (tagOk : Bool) (s : State) : Res := s.start h (.provisionCommit keys tagOk) (doProvisionCommit h keys tagOk)

/-- ADVANCE_ROLLBACK (R341): burns fuses up to the running copy's svn, at most 128. -/
def doAdvanceRollback (h : Hdr) (s : State) : State :=
  if s.fuses.life ≠ secured then s.complete h .invalid
  else if s.thm.burn.isSome then s.complete h .busy
  else
    let n := Nat.min 128 s.svn - s.fuses.rollback
    if n = 0 then s.complete h .ok else s.startBurn h (List.replicate n .rollback)

def execAdvanceRollback (h : Hdr) (s : State) : Res := s.start h .advanceRollback (doAdvanceRollback h)

/-- The effect of one burn on the fuses: a fuse only ever goes from unburned to burned. -/
def Fuses.apply (f : Fuses) : Burn → Fuses
  | .drk => { f with drk := if f.drk = .absent then .present else f.drk }
  | .keys k => { f with programmed := f.programmed ||| k }
  | .wrapKey => { f with wrapKey := if f.wrapKey = .absent then .present else f.wrapKey }
  | .rollback => { f with rollback := if f.rollback < 128 then f.rollback + 1 else f.rollback }
  | .destroyBegun => { f with destroyBegun := true }
  | .scrapIntent => { f with scrapIntent := true }
  | .revokeOwner => { f with revoked := f.revoked ||| 0b1110#4 }
  | .destroyKeys => { f with drk := .destroyed, wrapKey := .destroyed }
  | .revokeMaker => { f with revoked := f.revoked ||| 0b0001#4 }
  | .life c => { f with life := Nat.max f.life c }

/-- The burns an interrupted sequence still needs at power-on, none where the lifecycle has reached its target (R349). -/
def Fuses.leftover (f : Fuses) : List Burn :=
  let target := if f.scrapIntent then scrapped else returned
  if f.destroyBegun ∧ f.life < target then
    (if f.life = returned then []
     else (if f.revoked &&& 0b1110#4 = 0b1110#4 then [] else [.revokeOwner]) ++
       (if f.drk = .destroyed ∧ f.wrapKey = .destroyed then [] else [.destroyKeys])) ++
    (if f.scrapIntent then [.revokeMaker, .life scrapped] else [.life returned])
  else []

/-- A sequence ends: `reseq` runs the power-on sequence again after a lifecycle transition made by a command (R342), `go`
lets BRINGUP go on after a sequence completed at power-on (R349). -/
def State.burnEnd (reseq go : State → State) (b : Burn) (h : Option Hdr) (s : State) : State :=
  match b, h with
  | .life _, some h => reseq ((s.closeDebug.complete h .ok).raise Ev.THM_LIFECYCLE)
  | .life _, none => go (s.closeDebug.raise Ev.THM_LIFECYCLE)
  | .drk, some h => s.complete h .ok [Config.identityKey, s.fuses.devid]
  | _, some h => s.complete h .ok
  | _, none => go s

/-- FUSE_BURN_DONE (R341, R349): the next burn begins only when this one reads back, and none is made during brown-out. -/
def doFuseBurnDone (reseq go : State → State) (readBack : Bool) (s : State) : State :=
  match s.thm.burn with
  | none => s
  | some ⟨[], _⟩ => { s with thm := { s.thm with burn := none } }
  | some ⟨b :: l, h⟩ =>
    if !readBack ∨ s.brownout then s
    else
      let s := { s with fuses := s.fuses.apply b, thm := { s.thm with burn := if l.isEmpty then none else some ⟨l, h⟩ } }
      let s := if b = .destroyKeys then s.raise Ev.THM_KEY_DESTROYED else s
      if l.isEmpty then s.burnEnd reseq go b h else s

/-- The brown-out indication ends a burn that runs; the command completes BROWNOUT (R341). -/
def State.browned (s : State) : State :=
  match s.thm.burn with
  | some ⟨_, some h⟩ => ({ s with thm := { s.thm with burn := none } }).complete h .brownout
  | _ => s

/-- What an accepted token does (R342, R346, R364). -/
def State.acceptToken (s : State) (v : Verify) : State :=
  match v.use with
  | .debug l => (s.openDebug l (if v.token.key.val = 0 then 3 else 2)).completeIf v.for_ .ok
  | .life c =>
    match v.for_ with
    | some h => if s.lifeOpen then s.startBurn h (s.fuses.lifeSteps c) else s.complete h .busy
    | none => s
  | .peat c => (s.clearPeat c v.token.key.val).completeIf v.for_ .ok

/-- SIGNATURE_VERIFY_DONE (R346): the token at the unlock element is accepted or refused. -/
def doSignatureVerifyDone (s : State) : State :=
  match s.thm.verify with
  | [] => s
  | v :: l =>
    let s := { s with thm := { s.thm with verify := l } }
    if v.ok && v.token.sigOk && s.fuses.tokenKey v.token.key then s.acceptToken v else s.refuseToken v.use v.for_

def execSignatureVerifyDone (s : State) : Res := s.core doSignatureVerifyDone

/-- THM_LOCK_SET (R352): a W1S write freezes every RWL field until the next BRINGUP. -/
def doThmLockSet (s : State) : State := s.setBit F.THM_LOCK_lock true

def execThmLockSet (s : State) : Res := s.post F.THM_LOCK_lock.off 1#32 doThmLockSet

end Sys2Proof.Machine
end

