-- ==== Sys2Proof/Machine/Operands.lean ====
section
/-! DEFINITION. The operand forms of an access: appliance addresses (R37 to R40), region keys (R44), tile entries (R47), and the
walk from key and virtual address to appliance addresses (R51 to R53). -/

namespace Sys2Proof.Machine

/-! ### Appliance addresses (R37, R40) -/

abbrev rdtBase : Nat := 0xFFFE00000000
abbrev tableBase : Nat := 0xFFFE04000000
abbrev tableEnd : Nat := 0xFFFE24000000
abbrev carveBase : Nat := 0xFFFE00000000
abbrev carveEnd : Nat := 0xFFFF00000000
abbrev csrBase : Nat := 0xFFFFF0000000

/-- The end of the tenant persistent range (R37, R38). -/
def State.tenantEnd (s : State) : Nat := s.fld F.RGN_RANGE_TOP_top_tiles * 65536

/-- An address in a device aperture: Spool or CSR (R39). -/
def inAperture (a : Nat) : Bool :=
  (decide (0xFFFFE0000000 ≤ a) && decide (a < 0xFFFFE4000000)) || (decide (csrBase ≤ a) && decide (a < 2 ^ 48))

/-- A range inside the tile-table area (R40). -/
def inTableArea (a n : Nat) : Bool := decide (tableBase ≤ a) && decide (a + n ≤ tableEnd)

/-- A range inside the tenant persistent range. -/
def State.inTenant (s : State) (a n : Nat) : Bool := decide (a + n ≤ s.tenantEnd)

/-- The 256-byte line and the 64 KiB tile of an address. -/
def lineOf (a : Nat) : Nat := a / 256
def tileOf (a : Nat) : Nat := a / 65536

/-- The line of an address is poisoned (R219). -/
def State.poisoned (s : State) (a : Nat) : Bool := s.kept.poison.contains (lineOf a)

/-- A line becomes poisoned (R219). -/
def State.poisonLine (s : State) (line : Nat) : State := { s with kept := { s.kept with poison := setAdd s.kept.poison line } }

/-- A line stops being poisoned: a write covered it whole. -/
def State.clearLine (s : State) (line : Nat) : State := { s with kept := { s.kept with poison := setDel s.kept.poison line } }

/-! ### Keys and descriptors (R44 to R50) -/

def keyIndex (k : BitVec 32) : Nat := k.toNat / 4096
def keyTag (k : BitVec 32) : Nat := k.toNat % 4096

/-- The key of a descriptor (R44). -/
def keyOf (i epoch : Nat) : Nat := i % 2 ^ 20 * 4096 + epoch % 4096

/-- A region descriptor; an unlisted one is FREE with epoch 0 (R45, R215). -/
def State.rgn (s : State) (i : Nat) : Rgn := alGetD s.kept.rdt i {}

def State.setRgn (s : State) (i : Nat) (r : Rgn) : State := { s with kept := { s.kept with rdt := alPut s.kept.rdt i r } }

/-- The descriptor lies in a poisoned line of the descriptor table (R53). -/
def State.descPoisoned (s : State) (i : Nat) : Bool := s.poisoned (rdtBase + i * 64)

/-- The index a key names, if the key is current for a command (R50). -/
def State.current (s : State) (k : BitVec 32) : Option Nat :=
  let i := keyIndex k
  let r := s.rgn i
  if s.descPoisoned i then none
  else
    match r.state with
    | .free => none
    | .valid => if keyTag k = r.epoch % 4096 then some i else none
    | .closing => if keyTag k = (r.epoch + 2 ^ 32 - 1) % 4096 then some i else none

/-! ### The walk (R51 to R54) -/

/-- The rights of the table in R48. -/
inductive Right where
  | read | write | atomic | atomicWrite | flush | none
  deriving DecidableEq, Repr

def Rgn.grants (r : Rgn) : Right → Bool
  | .read => r.read
  | .write => r.write
  | .atomic => r.atomic
  | .atomicWrite => r.write && r.atomic
  | .flush => r.flush
  | .none => true

/-- Device syndromes (R73). -/
abbrev synKey : Nat := 0x20
abbrev synBroken : Nat := 0x21
abbrev synDomain : Nat := 0x22
abbrev synRights : Nat := 0x23
abbrev synBounds : Nat := 0x24
abbrev synWalk : Nat := 0x26

/-- Why a walk faulted (R53): its cause, the faulting pointer, and whether the region is marked. -/
structure WalkFault where
  cause : Nat
  ptr   : Nat
  mark  : Bool
  deriving DecidableEq, Repr

/-- The tile-entry cache with an entry used most recently; it holds 65,536 entries (R54). -/
def cacheEntry (l : List (Nat × Nat)) (a v : Nat) : List (Nat × Nat) :=
  ((a, v) :: l.filter (fun e => e.1 != a)).take 65536

/-- A tile entry as a walk reads it: from the cache, or from the table (R54). -/
def State.readEntry (s : State) (a : Nat) : Nat :=
  match s.entries.find? (fun e => e.1 = a) with
  | some e => e.2
  | none => leNat (memReads s.kept.mem a 8)

/-- The check of one tile entry (R47, R52). -/
def State.entryFault (s : State) (a v : Nat) : Option WalkFault :=
  if s.poisoned a ∧ (s.entries.find? (fun e => e.1 = a)).isNone then some ⟨2, a, true⟩
  else if inAperture (v % 2 ^ 48) then some ⟨1, v % 2 ^ 48, true⟩
  else if v % 65536 ≠ 0 ∨ 2 ^ 48 ≤ v ∨ ¬ v + 65536 ≤ s.tenantEnd then some ⟨3, v % 2 ^ 48, true⟩
  else none

/-- Reads and checks the tile entries of a message from offset `off` for `len` bytes; answers the translation. -/
def State.walkTiles (s : State) (target : Nat) : Nat → Nat → Nat → State × Except WalkFault (List (Nat × Nat))
  | 0, _, _ => (s, .ok [])
  | fuel + 1, off, len =>
    if len = 0 then (s, .ok [])
    else
      let a := target + off / 65536 * 8
      let v := s.readEntry a
      match s.entryFault a v with
      | some f => (s, .error f)
      | none =>
        let n := Nat.min len (65536 - off % 65536)
        let s := { s with entries := cacheEntry s.entries a v }
        match s.walkTiles target fuel (off + n) (len - n) with
        | (s, .ok l) => (s, .ok ((v + off % 65536, n) :: l))
        | (s, .error f) => (s, .error f)

/-- A range cut at the boundaries of tiles. -/
def splitTiles : Nat → Nat → Nat → List (Nat × Nat)
  | 0, _, _ => []
  | fuel + 1, a, n =>
    if n = 0 then [] else
      let k := Nat.min n (65536 - a % 65536)
      (a, k) :: splitTiles fuel (a + k) (n - k)

/-- Step 9 of R51: the translation of `len` bytes at offset `off` of a region. -/
def State.translate (s : State) (r : Rgn) (off len : Nat) : State × Except WalkFault (List (Nat × Nat)) :=
  if r.tiled then
    if inTableArea r.target (8 * r.tileCount) && r.target % 8 == 0 then s.walkTiles r.target (len / 65536 + 2) off len
    else if inAperture r.target then (s, .error ⟨1, r.target, true⟩)
    else (s, .error ⟨3, r.target, true⟩)
  else (s, .ok (splitTiles (len / 65536 + 2) (r.target + off) len))

/-- The record of a walk fault (R53): log, event, and the region's mark. -/
def State.logFault (s : State) (i : Nat) (f : WalkFault) : State :=
  let s := if f.mark then s.setRgn i { s.rgn i with broken := true, lastFault := f.cause } else s
  let s :=
    if s.bit F.RGN_FAULT_LOG_valid then s
    else
      let s := ((s.setBit F.RGN_FAULT_LOG_valid true).setFld F.RGN_FAULT_LOG_cause f.cause).setFld F.RGN_FAULT_LOG_region i
      (s.setFld F.RGN_FAULT_ADDR_LO_addr_lo f.ptr).setFld F.RGN_FAULT_ADDR_HI_addr_hi (f.ptr / 2 ^ 32)
  s.raise (if f.cause = 1 then Ev.RGN_WALK_DEVICE else if f.cause = 2 then Ev.RGN_WALK_POISON else Ev.RGN_WALK_RANGE) (i % 65536)

/-- Steps 1 to 7 of R51 in order: the syndrome of the first that fails, and whether RGN_REFUSE_CNT.stale counts it. Step 2 is
made by `admits`. -/
def State.keyCheck (s : State) (pd : Nat) (key : BitVec 32) (right : Right) (va len : Nat) (bounds : Bool) :
    Option (Nat × Bool) :=
  let r := s.rgn (keyIndex key)
  if s.fld F.RGN_RDT_CFG_count ≤ keyIndex key then some (synKey, false)
  else if r.state ≠ .valid ∨ keyTag key ≠ r.epoch % 4096 then some (synKey, true)
  else if r.broken then some (synBroken, false)
  else if r.pd ≠ pd then some (synDomain, false)
  else if !r.grants right then some (synRights, false)
  else if bounds ∧ ¬ (r.vaBase ≤ va ∧ va + len ≤ r.vaBase + r.length) then some (synBounds, false)
  else none

/-- The descriptor cache with a descriptor used most recently; it holds 16,384 entries (R54). -/
def State.cacheDesc (s : State) (i : Nat) : State := { s with descs := (i :: setDel s.descs i).take 16384 }

/-- A closing region leaves the descriptor cache (R59). -/
def State.dropDesc (s : State) (i : Nat) : State := { s with descs := setDel s.descs i }

/-- Steps 1 to 9 of R51 for an access to `len` bytes at `va`: the region and the translation, or the device syndrome of the
refusal. FLUSH at region selectivity skips steps 7 and 9 (`bounds` false). A request admitted at step 3 is granted at the
epoch element in the same command, so step 8 never fails on its own. -/
def State.admits (s : State) (pd : Nat) (key : BitVec 32) (right : Right) (va len : Nat) (bounds : Bool) :
    State × Except Nat (Nat × List (Nat × Nat)) :=
  let i := keyIndex key
  let s := if i < s.fld F.RGN_RDT_CFG_count ∧ !s.descPoisoned i then s.cacheDesc i else s
  if i < s.fld F.RGN_RDT_CFG_count ∧ s.descPoisoned i then
    (s.logFault i ⟨2, rdtBase + i * 64, false⟩, .error synWalk)
  else
    match s.keyCheck pd key right va len bounds with
    | some (syn, stale) => (s.wrap (if stale then F.RGN_REFUSE_CNT_stale else F.RGN_REFUSE_CNT_other), .error syn)
    | none =>
      if !bounds then (s, .ok (i, []))
      else
        match s.translate (s.rgn i) (va - (s.rgn i).vaBase) len with
        | (s, .ok l) => (s, .ok (i, l))
        | (s, .error f) => (s.logFault i f, .error synWalk)

/-- The sync of a region removes its cached tile entries (R54). -/
def State.dropEntries (s : State) (r : Rgn) : State :=
  { s with entries := s.entries.filter (fun e => !(decide (r.target ≤ e.1) && decide (e.1 < r.target + 8 * r.tileCount))) }

end Sys2Proof.Machine
end

