-- ==== Sys2Proof/Machine/Homes.lean ====
section
/-! DEFINITION. The home table (R110 to R118): tiles, their homes and home blocks (R113), and the bytes of the system carve-out as a reader
of memory sees them (R40, R45, R46, R113). -/

namespace Sys2Proof.Machine

/-! ### Tiles (R110 to R118) -/

/-- A tile; an unlisted one is UNHOMED (R110). -/
def State.tile (s : State) (t : Nat) : Tile := alGetD s.kept.tiles t {}


/-- The home of a granule: of the churn unit where the tile is split, else of the tile. -/
def Tile.homeOf (x : Tile) (unit : Nat) : HomeK := if x.units.isEmpty then x.home else x.units.getD unit .unhomed

/-- The tile has a DRAM frame. -/
def Tile.inDram (x : Tile) : Bool := if x.units.isEmpty then x.home == .dram else x.units.contains .dram

/-- The tile, or every unit of it, is UNHOMED. -/
def Tile.empty (x : Tile) : Bool := if x.units.isEmpty then x.home == .unhomed else x.units.all (· == .unhomed)

/-- Sets the home of a unit, or of the whole tile. -/
def Tile.setHome (x : Tile) (unit : Option Nat) (k : HomeK) : Tile :=
  match unit with
  | some u => if x.units.isEmpty then { x with home := k } else { x with units := x.units.set u k }
  | none => { x with home := k, units := [] }

/-- The granule a move of this tile takes for an access to a byte: the unit where the tile is split or churning, else the
tile (R116). -/
def Tile.granule (x : Tile) (a : Nat) : Option Nat :=
  if x.units.isEmpty ∧ !x.churn then none else some (a % 65536 / 4096)

/-- The tile takes an entry in a home block: it is DRAM-homed or split. -/
def Tile.entered (x : Tile) : Bool := !x.units.isEmpty || x.home == .dram

/-! ### Home blocks (R113) -/

/-- The number of home blocks in the pool. -/
abbrev blockPool : Nat := 131072

/-- Places in a pool follow their owners: an owner takes one with its first need and gives it back with its last. Which free place it takes
the spec leaves open: the lowest number (DESIGN CHOICE, log entry 114). -/
def placesFor (l : List (Nat × Nat)) (owner : Nat) (need : Bool) : List (Nat × Nat) :=
  if need then
    (if (alGet l owner).isSome then l
     else match (List.range (l.length + 1)).find? (fun b => !l.any (fun e => e.2 == b)) with
       | some b => alPut l owner b
       | none => l)
  else alDel l owner

/-- The home blocks, by group of 1,024 tiles: a group has one while one of its tiles has an entry (R113). -/
def homesFor (homes : List (Nat × Nat)) (tiles : List (Nat × Tile)) (g : Nat) : List (Nat × Nat) :=
  placesFor homes g (tiles.any (fun p => p.1 / 1024 == g && p.2.entered))

/-- A tile is set; its group's home block and its churn record, which a split tile has (R234, R235), follow. -/
def State.setTile (s : State) (t : Nat) (x : Tile) : State :=
  let tiles := alPut s.kept.tiles t x
  { s with kept := { s.kept with
      tiles := tiles, homes := homesFor s.kept.homes tiles (t / 1024), records := placesFor s.kept.records t !x.units.isEmpty } }

/-- The groups without a home block for which a promotion that has started keeps one (R113, R123). -/
def State.heldBlocks (s : State) : List Nat :=
  (((s.tlr.running.filter (·.toDram)).map (fun m => m.tile / 1024)).filter (fun g => (alGet s.kept.homes g).isNone)).foldl setAdd []

/-- Home blocks are at hand for some tiles together: for each of their groups one is taken or kept, or the pool has one free. -/
def State.homeBlocks (s : State) (ts : List Nat) : Bool :=
  let new := (ts.map (· / 1024)).filter (fun g => (alGet s.kept.homes g).isNone)
  new.isEmpty || decide (s.kept.homes.length + (new.foldl setAdd s.heldBlocks).length ≤ blockPool)

/-- A home block is at hand for a tile. -/
def State.homeBlock (s : State) (t : Nat) : Bool := s.homeBlocks [t]

/-- The 2 bits of a tile in the home state map. -/
def Tile.stateCode (x : Tile) : Nat :=
  if !x.units.isEmpty then 3 else match x.home with
    | .unhomed => 0
    | .dram => 1
    | .nand => 2

/-- The entry of a tile in its group's home block. -/
def State.homeEntry (s : State) (t : Nat) : Nat :=
  let x := s.tile t
  let b := fun (p : Bool) (n : Nat) => if p then 2 ^ n else 0
  if x.entered then
    x.age % 16 * 2 ^ 44 + b x.dirty 43 + b (s.tlr.running.any (fun m => m.tile == t)) 42 + b x.fresh 41 + x.key % 1024 * 2 ^ 28 + x.frame % 2 ^ 28
  else 0

/-! ### The map (R234 to R236) -/

/-- The name of a block: target × 2^20 + number. -/
def blockKey (t b : Nat) : Nat := t * 2 ^ 20 + b

def State.blk (s : State) (k : Nat) : NBlock := alGetD s.nand.blocks k {}
def State.setBlk (s : State) (k : Nat) (b : NBlock) : State := { s with nand := { s.nand with blocks := alPut s.nand.blocks k b } }

/-- The block of a codeword number (R230). -/
def State.blockOf (s : State) (cw : Nat) : Nat :=
  blockKey (cw / 16 / 2 ^ 22) (cw / 16 % 2 ^ 22 / Nat.max 1 s.nand.blockTiles)

/-- The key of a map entry: a whole tile, or one unit of a split tile. -/
def mapKey (t : Nat) (unit : Option Nat) : Nat := t * 17 + unit.getD 16

/-- The map cache holds 262,144 segments. -/
abbrev segMax : Nat := 262144

/-- The segment of a tile is in the map cache. -/
def State.segIn (s : State) (t : Nat) : Bool := s.kept.segs.any (fun g => g.no == t / 1024)

/-- The segment of a tile is used, and changed where `dirty`: it becomes the most recently used. One that is not in the cache is read into it,
in a full cache in place of the least recently used clean one; where every segment is dirty it stays outside (DESIGN CHOICE, log entry 126). -/
def segUse (l : List Seg) (no : Nat) (dirty : Bool) : List Seg :=
  match l.find? (fun g => g.no == no) with
  | some g => { g with dirty := g.dirty || dirty } :: l.erase g
  | none =>
    if l.length < segMax then
      match (List.range (l.length + 1)).find? (fun b => !l.any (fun g => g.place == b)) with
      | some b => ⟨no, b, dirty, false⟩ :: l
      | none => l
    else match l.reverse.find? (fun g => !g.dirty && !g.writing) with
      | some g => ⟨no, g.place, dirty, false⟩ :: l.erase g
      | none => l

def State.useSeg (s : State) (t : Nat) (dirty : Bool) : State := { s with kept := { s.kept with segs := segUse s.kept.segs (t / 1024) dirty } }

/-- A copy of a tile in a block is stale: a secure discard will look for it there (R254). -/
def State.addStale (s : State) (t cw : Nat) : State :=
  let k := s.blockOf cw
  s.setBlk k { s.blk k with stale := setAdd (s.blk k).stale t }

/-- The map entries of a tile change; the copies that no entry names any more are stale. -/
def State.setMap (s : State) (t : Nat) (m : List (Nat × Nat)) : State :=
  let gone := s.kept.map.filter (fun p => p.1 / 17 == t && !m.any (fun e => e.1 / 17 == t && s.blockOf e.2 == s.blockOf p.2))
  let s := gone.foldl (fun s p => s.addStale t p.2) s
  ({ s with kept := { s.kept with map := m } }).useSeg t true

/-- The 32-bit map entry of a tile (R234). -/
def State.mapEntry (s : State) (t : Nat) : Nat :=
  match alGet s.kept.records t, alGet s.kept.map (mapKey t none) with
  | some r, _ => 2 ^ 30 + r
  | none, some cw => 2 ^ 31 + cw / 16
  | none, none => 0

/-- A word of a churn record (R235). -/
def State.churnWord (s : State) (t u : Nat) : Nat :=
  match alGet s.kept.map (mapKey t (some u)) with
  | some cw => 2 ^ 63 + cw
  | none => 0

/-! ### The carve-out as bytes (R40) -/

/-- The state code of R46. -/
def RState.bits : RState → Nat | .free => 0 | .valid => 1 | .closing => 2

/-- Bytes 0 to 63 of a descriptor (R46, R118). -/
def Rgn.bytes (r : Rgn) : List Byte :=
  let b := fun (p : Bool) (n : Nat) => if p then 2 ^ n else 0
  leBytes 4 (r.state.bits * 2 ^ 30 + b r.broken 29 + b r.tiled 28 + b r.local_ 27 + b r.flush 26 + b r.atomic 25 + b r.write 24 + b r.read 23 + r.pd % 1024) ++
  leBytes 4 r.epoch ++ leBytes 8 r.vaBase ++ leBytes 8 r.length ++ leBytes 8 (r.target % 2 ^ 48) ++ leBytes 4 (r.tileCount % 2 ^ 23) ++
  leBytes 1 r.rnrThr ++ leBytes 1 r.lastFault ++ leBytes 2 0 ++ leBytes 4 (b r.ext 31 + r.policy % 4 * 2 ^ 29) ++ leBytes 20 0

/-- The sub-areas of R40 whose layout the spec gives. -/
abbrev stateMapBase : Nat := 0xFFFE24000000
abbrev directoryBase : Nat := 0xFFFE3E000000
abbrev blocksBase : Nat := 0xFFFE3E800000
abbrev blocksEnd : Nat := 0xFFFE7E800000
abbrev cacheBase : Nat := 0xFFFE7F800000
abbrev churnBase : Nat := 0xFFFEBF800000
abbrev churnEnd : Nat := 0xFFFEC7800000
abbrev reservedBase : Nat := 0xFFFEFC800000

/-- A byte of the home directory: a 4-byte entry for each group (R113). -/
def State.directoryByte (s : State) (i : Nat) : Byte :=
  BitVec.ofNat 8 ((alGet s.kept.homes (i / 4)).elim 0 (fun b => (2 ^ 31 + b) / 2 ^ (i % 4 * 8)))

/-- A byte of the home blocks (R113). What a block that no group has holds is free. -/
def State.blockByte (s : State) (i : Nat) : Byte :=
  match s.kept.homes.find? (fun e => e.2 == i / 8192) with
  | some (g, _) => BitVec.ofNat 8 (s.homeEntry (g * 1024 + i % 8192 / 8) / 2 ^ (i % 8 * 8))
  | none => Config.carved s.free (blocksBase + i)

/-- A byte of the map cache (R234, R236). -/
def State.cacheByte (s : State) (i : Nat) : Byte :=
  match s.kept.segs.find? (fun g => g.place == i / 4096) with
  | some g => BitVec.ofNat 8 (s.mapEntry (g.no * 1024 + i % 4096 / 4) / 2 ^ (i % 4 * 8))
  | none => Config.carved s.free (cacheBase + i)

/-- A byte of the churn table (R235). -/
def State.churnByte (s : State) (i : Nat) : Byte :=
  match s.kept.records.find? (fun e => e.2 == i / 128) with
  | some (t, _) => BitVec.ofNat 8 (s.churnWord t (i % 128 / 8) / 2 ^ (i % 8 * 8))
  | none => Config.carved s.free (churnBase + i)

/-- A byte of the carve-out (R40): the descriptor table, the home table, the map and the tile-table area as their rules lay them out, the reserved part
zero. Of the other sub-areas the spec gives the contents and no layout: their bytes are free (log entry 39). -/
def State.carveByte (s : State) (a : Nat) : Byte :=
  if a < tableBase then (s.rgn ((a - rdtBase) / 64)).bytes.getD ((a - rdtBase) % 64) 0
  else if a < tableEnd then memRead s.kept.mem a
  else if a < directoryBase then
    (List.range 4).foldl (fun n k => n + BitVec.ofNat 8 ((s.tile ((a - stateMapBase) * 4 + k)).stateCode * 4 ^ k)) 0
  else if a < blocksBase then s.directoryByte (a - directoryBase)
  else if a < blocksEnd then s.blockByte (a - blocksBase)
  else if cacheBase ≤ a ∧ a < churnBase then s.cacheByte (a - cacheBase)
  else if churnBase ≤ a ∧ a < churnEnd then s.churnByte (a - churnBase)
  else if reservedBase ≤ a then 0
  else Config.carved s.free a

end Sys2Proof.Machine
end

