-- ==== Sys2Proof/Machine/Place.lean ====
section
/-! DEFINITION. Placement (05): homes and frames, the home cap, throttling, extents, the near cache's lines, and the operations on
them that every data path shares. -/

namespace Sys2Proof.Machine

/-- TLR_HOMED.homed_tiles: DRAM-homed tiles and tiles whose promotion has started (R123, R136). -/
def State.homed (s : State) : Nat :=
  (s.kept.tiles.filter (fun p => p.2.inDram)).length +
  (((s.tlr.running.filter (fun m => m.toDram && !(s.tile m.tile).inDram)).map (·.tile)).foldl setAdd []).length

def State.cap (s : State) : Nat := s.fld F.TLR_HOMECAP_cap_tiles

/-- A percentage of the cap: `homed` is at or below it. -/
def State.atOrBelow (s : State) (f : Fld) : Bool := decide (s.homed * 100 ≤ s.fld f * s.cap)

/-- The NAND tier is frozen or full (R127, R249, R250). -/
def State.tierShut (s : State) : Bool := s.bit F.QLT_STATUS_frozen || s.bit F.QLT_STATUS_full

/-- The tile has a NAND-homed granule. -/
def Tile.inNand (x : Tile) : Bool := if x.units.isEmpty then x.home == .nand else x.units.contains .nand

/-- NAND-homed tiles; a split tile counts as one (R250). -/
def State.nandTiles (s : State) : Nat := (s.kept.tiles.filter (fun p => p.2.inNand)).length

/-- The tier is full while the NAND-homed tiles reach usable_tiles (R250). -/
def State.reviewFull (s : State) : State :=
  let n := s.fld F.QLT_CAP_usable_tiles
  let full := n != 0 && decide (n ≤ s.nandTiles)
  let was := s.bit F.QLT_STATUS_full
  let s := s.setBit F.QLT_STATUS_full full
  if full && !was then s.raise Ev.QLT_FULL else s

/-! ### Frames (R130, R198) -/

/-- Frames of a channel. -/
def Pop.frames (p : Pop) : Nat := p.slots * p.lranks * p.banks * p.perBank

/-- F, the frames found at BRINGUP (R121). -/
def State.framesFound (s : State) : Nat := s.pops.foldl (fun n p => n + p.2.frames) 0

/-- The channel, bank of the channel and frame within the bank of a frame number (R198); banks are numbered through slot,
logical rank and bank. -/
def frameAt : List (Nat × Pop) → Nat → Option (Nat × Nat × Nat)
  | [], _ => none
  | (c, p) :: l, f =>
    if f < p.frames then some (c, f / Nat.max 1 p.perBank, f % Nat.max 1 p.perBank) else frameAt l (f - p.frames)

/-- The first frame number of a channel. -/
def frameBase : List (Nat × Pop) → Nat → Nat
  | [], _ => 0
  | (c, p) :: l, n => if c = n then 0 else p.frames + frameBase l n

/-- Load of a channel, and of a bank of it, in the last 10 ms (R130). -/
def State.chanLoad (s : State) (c : Nat) : Nat :=
  (s.tlr.loads.filter (fun e => decide (e.2.1 = c) && decide (s.mrt ≤ e.1 + 10000000))).length
def State.bankLoad (s : State) (c b : Nat) : Nat :=
  (s.tlr.loads.filter (fun e => decide (e.2 = (c, b)) && decide (s.mrt ≤ e.1 + 10000000))).length

/-- A miss or write-back counts toward the load of its channel and bank (R130). -/
def State.countLoad (s : State) (frame : Nat) : State :=
  match frameAt s.pops frame with
  | some (c, b, _) =>
    { s with tlr := { s.tlr with
        loads := s.tlr.loads.filter (fun e => decide (s.mrt ≤ e.1 + 10000000)) ++ [(s.mrt, c, b)] } }
  | none => s

/-- Frames that hold or are reserved for something: frames of the carve-out that took the place of retired ones
(R215, R221), homes, and frames promotions fill. -/
def State.usedFrames (s : State) : List Nat :=
  s.moved.map (·.2) ++ (s.kept.tiles.filter (fun p => p.2.inDram)).map (fun p => p.2.frame) ++ (s.tlr.running.filter (·.toDram)).map (·.frame)

/-- The number of the carve-out's frames on a channel: 65,536 frames round-robin over the READY channels, lowest numbers first
(R215). -/
def State.carveOn (s : State) (c : Nat) : Nat :=
  let n := Nat.max 1 s.pops.length
  let i := (s.pops.filter (fun p => decide (p.1 < c))).length
  (65536 + n - 1 - i) / n

/-- A frame may be chosen: not the carve-out's, not retired, not in a retired bank, not in use (R130). -/
def State.frameFree (s : State) (used : List Nat) (c b f : Nat) : Bool :=
  decide (frameBase s.pops c + s.carveOn c ≤ f) && !s.retFrames.contains f && !s.retBanks.contains (c, b) && !used.contains f

/-- The free frame of lowest number of a bank, searching `fuel` frames from `f`. -/
def State.lowFrame (s : State) (used : List Nat) (c b : Nat) : Nat → Nat → Option Nat
  | 0, _ => none
  | fuel + 1, f => if s.frameFree used c b f then some f else s.lowFrame used c b fuel (f + 1)

/-- The entry of least cost of a list, the first on a tie. -/
def least : List (Nat × Nat) → Option (Nat × Nat)
  | [] => none
  | (c, x) :: l =>
    match least l with
    | some (d, y) => if d < c then some (d, y) else some (c, x)
    | none => some (c, x)

/-- The first free frame of a bank. A bank has a free frame when one lies within the frames in use and reserved plus one. -/
def State.bankFrame (s : State) (used : List Nat) (c : Nat) (p : Pop) (b : Nat) : Option Nat :=
  s.lowFrame used c b (Nat.min p.perBank (used.length + s.retFrames.length + s.carveOn c + 1)) (frameBase s.pops c + b * p.perBank)

/-- Banks of a channel with a free frame, with their loads. -/
def State.banksFree (s : State) (used : List Nat) (c : Nat) (p : Pop) : List (Nat × Nat) :=
  ((List.range (p.slots * p.lranks * p.banks)).filter (fun b => (s.bankFrame used c p b).isSome)).map (fun b => (s.bankLoad c b, b))

/-- The channels that have a free frame, with their loads. -/
def State.channelsFree (s : State) (used : List Nat) : List (Nat × Nat) :=
  (s.pops.filter (fun p => !(s.banksFree used p.1 p.2).isEmpty)).map (fun p => (s.chanLoad p.1, p.1))

/-- The frame of a channel that R130 chooses: the bank of lowest load, its lowest free frame. -/
def State.frameOn (s : State) (used : List Nat) (c : Nat) : Option Nat :=
  (alGet s.pops c).bind (fun p => (least (s.banksFree used c p)).bind (fun b => s.bankFrame used c p b.2))

/-- The frame that R130 chooses for a new DRAM home: channel and bank of lowest load, lowest free frame, ties to the lowest
number. -/
def State.chooseFrame (s : State) : Option Nat :=
  let used := s.usedFrames
  (least (s.channelsFree used)).bind (fun c => s.frameOn used c.2)

/-- The frame for a tile of an extent's job (R130): the tiles go round the channels in turn, from the channel of lowest load. `turn` is the
channel after that of the tile before. -/
def State.chooseInTurn (s : State) (turn : Option Nat) : Option Nat :=
  let used := s.usedFrames
  match turn with
  | none => s.chooseFrame
  | some t => (least ((s.channelsFree used).map (fun c => ((c.2 + 64 - t % 64) % 64, c.2)))).bind (fun c => s.frameOn used c.2)

/-! ### The cap's levels (R122, R123, R126, R127) -/

/-- throttle rises (R123); while the tier is shut it reads 0 (R127). -/
def State.setThrottle (s : State) : State :=
  if s.bit F.TLR_STATUS_throttle then s else (s.setBit F.TLR_STATUS_throttle true).raise Ev.TLR_THROTTLE

/-- The size of a channel's log (R92): 256 MiB where the command gives none. -/
def logBytes (a : ChanArgs) : Nat := a.retention.getD (2 ^ 28)

/-- The tiles of a channel's log. -/
def chanTiles (a : ChanArgs) : Nat := logBytes a / 65536

/-- The tile lies in the log of an open channel, which is a pinned extent (R93). -/
def State.inLog (s : State) (t : Nat) : Bool :=
  s.kept.chans.any (fun p => decide (p.2.args.logTile ≤ t) && decide (t < p.2.args.logTile + chanTiles p.2.args))

/-- The name of a channel's log among the pinned extents, which are else named by their region. -/
def logPin (c : Nat) : Nat := 2 ^ 20 + c

/-- The tiles of a pinned extent: a region's, or those of a channel's log (R93). -/
def State.tilesOfPin (s : State) (i : Nat) : List Nat :=
  if i < 2 ^ 20 then (List.range ((s.rgn i).length / 65536)).map (fun k => (s.rgn i).target / 65536 + k)
  else match alGet s.kept.chans (i - 2 ^ 20) with
    | some ch => (List.range (chanTiles ch.args)).map (fun k => ch.args.logTile + k)
    | none => []

/-- How many tiles a pinned extent covers. -/
def State.pinSize (s : State) (i : Nat) : Nat :=
  if i < 2 ^ 20 then (s.rgn i).length / 65536
  else match alGet s.kept.chans (i - 2 ^ 20) with
    | some ch => chanTiles ch.args
    | none => 0

/-- The tiles that pinned extents cover: those of regions, and the logs of open channels (R93). -/
def State.pinTiles (s : State) : Nat := (s.tlr.pinned.map s.pinSize).foldl (· + ·) 0

/-- The image stands: the unit is in RESTORE and has not released it (R157, R158). -/
def State.holdsImage (s : State) : Bool := s.mode == .restore && !s.bit F.GLB_RESTORE_STAT_released

/-- The tiles the grant test counts: homed_tiles, or dirty_tiles in RESTORE until the release (R157). -/
def State.grantBase (s : State) : Nat := if s.holdsImage then s.fld F.GLB_RESTORE_DIRTY_dirty_tiles else s.homed

/-- The statuses that follow from homed_tiles and the cap (R123, R126, R127). -/
def State.reviewCap (s : State) : State :=
  let above := decide (s.cap < s.homed)
  let wasOver := s.bit F.TLR_STATUS_over_cap
  let s := s.setBit F.TLR_STATUS_over_cap above
  let s := if above && !wasOver && s.tierShut then s.raise Ev.TLR_CAP_OVER_FROZEN else s
  let s := if s.tierShut then s.setBit F.TLR_STATUS_throttle false
    else if s.cap < s.grantBase then s.setThrottle
    else if s.grantBase * 100 ≤ s.fld F.TLR_WM_CFG_wm_rel * s.cap then s.setBit F.TLR_STATUS_throttle false
    else s
  let below := decide (s.cap < s.pinTiles)
  let was := s.bit F.TLR_STATUS_cap_below_pin
  let s := s.setBit F.TLR_STATUS_cap_below_pin below
  let s := if below && !was then s.raise Ev.TLR_CAP_BELOW_PIN else s
  { s with tlr := { s.tlr with
      demoting := if s.atOrBelow F.TLR_WM_CFG_wm_lo then false
        else if s.atOrBelow F.TLR_WM_CFG_wm_hi then s.tlr.demoting else true } }

/-! ### The home cap (R121, R122) -/

/-- t_dump (R121): whole seconds, 0 if negative. Energy is in 0.01 Wh, derating in percent. -/
def State.tDump (s : State) : Nat :=
  let p := s.fld F.TLR_CAP_CFG_pwr_w
  (s.fld F.TLR_CAP_CFG_derate * s.fld F.TLR_CAP_IN_e_est * 72 - 100 * p) / (200 * p)

/-- E_tiles (R121). -/
def State.eTiles (s : State) : Nat :=
  (s.tDump * (s.fld F.TLR_CAP_IN_b_save * 100000000) - 4294967296 - s.fld F.TLR_CAP_CFG_reserve * 67108864) / 65536

/-- X, the retired frames (R121): single frames outside retired banks, and the frames of retired banks. -/
def State.retired (s : State) : Nat :=
  let inBank := fun (f : Nat) => match frameAt s.pops f with
    | some (c, b, _) => s.retBanks.contains (c, b)
    | none => false
  (s.retFrames.filter (fun f => !inBank f)).length +
  s.retBanks.foldl (fun n p => n + (alGet s.pops p.1).elim 0 (·.perBank)) 0

/-- D_tiles (R121): the carve-out's frames and the move headroom are removed. -/
def State.dTiles (s : State) : Nat := s.framesFound - 65536 - s.retired - 4096

/-- The entries of a list of candidates before the first that is not above the cap. -/
def aboveRun (cap : Nat) : List Nat → Nat
  | [] => 0
  | c :: l => if c ≤ cap then 0 else aboveRun cap l + 1

/-- grow_wait (R122, R136): the computations after which the oldest candidate that is not above the cap has left the window of ten;
0 while no growth is pending. -/
def growWait (cap : Nat) (cands : List Nat) : Nat :=
  match cands with
  | c :: _ => if c ≤ cap ∨ cands.all (fun x => decide (cap < x)) then 0 else 10 - aboveRun cap cands
  | [] => 0

/-- One computation of the cap (R121, R122), with the statuses that follow from it. -/
def State.capNow (s : State) : State :=
  let c := Nat.min s.eTiles s.dTiles
  let l := (c :: s.tlr.cands).take 10
  let s := { s with tlr := { s.tlr with cands := l } }
  let s := (s.setFld F.TLR_CAP_STAT_t_dump (Nat.min 65535 s.tDump)).setFld F.TLR_DRAM_TILES_d_tiles s.dTiles
  let low := l.foldl Nat.min c
  let s := if c < s.cap then (s.setFld F.TLR_HOMECAP_cap_tiles c).raise Ev.TLR_CAP_SHRINK
    else if s.cap < low then (s.setFld F.TLR_HOMECAP_cap_tiles low).raise Ev.TLR_CAP_GROW
    else s
  (s.setFld F.TLR_CAP_STAT_grow_wait (growWait s.cap l)).reviewCap

/-- The first computation of the cap, as the unit leaves BRINGUP (R121). -/
def State.firstCap (s : State) (was : Mode) : State := if was = .bringup then s.reviewFull.capNow else s

/-- What a request for a new DRAM home meets (R123, R127, R157). -/
inductive Grant where
  | granted | throttled | refused
  deriving DecidableEq, Repr

/-- The grant test for a new DRAM home. `room` bounds a delta image in RESTORE (R157). -/
def State.grantHome (s : State) (room : Nat) : Grant :=
  let fits := decide (s.grantBase + 1 ≤ s.cap) && (!s.holdsImage || decide (s.grantBase + 1 ≤ room))
  if s.tierShut then (if fits then .granted else .refused)
  else if s.bit F.TLR_STATUS_throttle then .throttled
  else if fits then .granted else .throttled

/-- The lines of a tile, and those outside one churn unit. -/
def allLines : List Nat := List.range 256
def linesOutside (u : Nat) : List Nat := allLines.filter (fun l => l / 16 != u)

/-- A granule takes an entry of the fresh-frame table, clear for its lines (R216). -/
def State.enterFresh (s : State) (t : Nat) (unit : Option Nat) : State :=
  let bits := match unit, alGet s.kept.freshTab t with
    | none, _ => []
    | some u, none => linesOutside u
    | some u, some l => l.filter (fun k => k / 16 != u)
  let s := s.setTile t { s.tile t with fresh := true }
  let order := if (alGet s.kept.freshTab t).isSome then s.kept.freshAge
    else s.kept.freshAge.filter (fun u => u != t && (alGet s.kept.freshTab u).isSome) ++ [t]
  { s with kept := { s.kept with freshTab := alPut s.kept.freshTab t bits, freshAge := order } }

/-- A free frame is taken; it is no longer known to hold zeros (R254). -/
def State.takeFrame (s : State) (f : Nat) : State := { s with tlr := { s.tlr with zeroed := setDel s.tlr.zeroed f } }

/-- A granule takes a DRAM home from UNHOMED (R123, R130, R216, R267): a frame, the key slot of the domain that wrote it, and, unless a copy
fills its lines (`fresh` false), an entry of the fresh-frame table. Answers false where no frame is free, or the table is full. -/
def State.homeNew (s : State) (t : Nat) (unit : Option Nat) (key : Nat) (fresh : Bool := true) : State × Bool :=
  let x := s.tile t
  let enter := fun (s : State) => if fresh then s.enterFresh t unit else s
  if fresh ∧ (alGet s.kept.freshTab t).isNone ∧ 524288 ≤ s.kept.freshTab.length then (s.raise Ev.NCACHE_FRESH_FULL, false)
  else if x.inDram then (enter (s.setTile t { x.setHome unit .dram with age := 0 }), true)
  else
    match s.chooseFrame with
    | none => (s, false)
    | some f => (enter ((s.takeFrame f).setTile t { x.setHome unit .dram with frame := f, age := 0, key := if x.empty then key else x.key }), true)

/-- RESTORE counts a present tile the first time it is dirtied or newly homed (R155, R157). -/
def State.noteDirty (s : State) (t : Nat) : State :=
  let x := s.tile t
  if s.holdsImage ∧ !x.changed then (s.setTile t { x with changed := true }).sat F.GLB_RESTORE_DIRTY_dirty_tiles
  else s

/-- Any access sets a tile's age to 0 (R125). -/
def State.touch (s : State) (t : Nat) : State :=
  let x := s.tile t
  if x.age = 0 then s else s.setTile t { x with age := 0 }

/-! ### The near cache's lines (R222, R223, R226) -/

/-- The set of a line (R222). -/
def setOf (line : Nat) : Nat :=
  let a := line * 256
  Nat.xor (Nat.xor (a / 2 ^ 8 % 65536) (a / 2 ^ 24 % 65536)) (a / 2 ^ 40 % 256)

def State.cset (s : State) (i : Nat) : CSet := alGetD s.nc.sets i {}
def State.setCset (s : State) (i : Nat) (c : CSet) : State := { s with nc := { s.nc with sets := alPut s.nc.sets i c } }

/-- The way that holds a line. -/
def CSet.wayOf (c : CSet) (line : Nat) : Option (Nat × CLine) := c.ways.find? (fun w => w.2.line = line)

/-- The replacement tree points away from a way just used: four levels, node 1 at the root. -/
def treeTouch (tree way : Nat) : Nat :=
  let n1 := 1
  let n2 := 2 * n1 + way / 8 % 2
  let n3 := 2 * n2 + way / 4 % 2
  let n4 := 2 * n3 + way / 2 % 2
  let put := fun (t n b : Nat) => if b = 1 then (if t.testBit n then t - 2 ^ n else t) else (if t.testBit n then t else t + 2 ^ n)
  put (put (put (put tree n1 (way / 8 % 2)) n2 (way / 4 % 2)) n3 (way / 2 % 2)) n4 (way % 2)

/-- The way a tree walk reaches below node `n` that covers ways `lo` to `lo + 2^k - 1`, never entering a part whose ways are all
held (R223). -/
def treeVictim (tree : Nat) (held : Nat → Bool) : Nat → Nat → Nat → Nat
  | 0, _, lo => lo
  | k + 1, n, lo =>
    let half := 2 ^ k
    let full := fun a => (List.range half).all (fun i => held (a + i))
    let right := if full lo then true else if full (lo + half) then false else tree.testBit n
    if right then treeVictim tree held k (2 * n + 1) (lo + half) else treeVictim tree held k (2 * n) lo

/-- The line is in the near cache or its side buffer (R226). -/
def State.cached (s : State) (line : Nat) : Bool :=
  ((s.cset (setOf line)).wayOf line).isSome || s.nc.side.any (fun e => e.1 = line)

/-- The line is DIRTY. -/
def State.lineDirty (s : State) (line : Nat) : Bool :=
  match (s.cset (setOf line)).wayOf line with
  | some (_, l) => l.dirty
  | none => false

/-- An entry of the fresh-frame table is freed (R217): what waits for one is tried again as the command ends. -/
def State.freeFresh (s : State) (t : Nat) : State :=
  let s := s.setTile t { s.tile t with fresh := false }
  { s with kept := { s.kept with freshTab := alDel s.kept.freshTab t }, nc := { s.nc with freed := true } }

/-- A valid bit of a fresh frame is set; an entry whose bits are all set is freed (R217). -/
def State.setValid (s : State) (t l : Nat) : State :=
  match alGet s.kept.freshTab t with
  | some bits =>
    let bits := setAdd bits l
    if bits.length = 256 then s.freeFresh t else { s with kept := { s.kept with freshTab := alPut s.kept.freshTab t bits } }
  | none => s

/-- A DIRTY line is written back to its frame: the fresh-frame bit of the line is set (R217) and the load counted. -/
def State.writeBack (s : State) (line : Nat) : State :=
  (if line * 256 < carveBase then s.countLoad (s.tile (line / 256)).frame else s).setValid (line / 256) (line % 256)

/-- A line joins the side buffer; when it is full, the first line that is not held leaves (R226). -/
def State.sidePut (s : State) (line : Nat) (held : Bool) : State :=
  let l := s.nc.side ++ [(line, held)]
  let l := if l.length ≤ 4096 then l
    else match l.find? (fun e => !e.2) with
      | some e => l.erase e
      | none => l.dropLast
  { s with nc := { s.nc with side := l } }

/-- Puts a line into its set, replacing a way by pseudo-LRU; a DIRTY victim is written back (NCACHE_EVICT, R223). A line that finds
every way held is not entered. An INVALID way is taken before any is replaced, the lowest; the tree starts with every node at 0, which points to the lower half (DESIGN CHOICE,
log entry 171). -/
def State.enterLine (s : State) (line : Nat) (dirty held : Bool) : State :=
  let i := setOf line
  let c := s.cset i
  let s := { s with nc := { s.nc with side := s.nc.side.filter (fun e => e.1 != line) } }
  match c.wayOf line with
  | some (w, l) =>
    s.setCset i { ways := alPut c.ways w { l with dirty := l.dirty || dirty, held := l.held || held }, tree := treeTouch c.tree w }
  | none =>
    match (List.range 16).find? (fun w => (alGet c.ways w).isNone) with
    | some w => s.setCset i { ways := alPut c.ways w ⟨line, dirty, held⟩, tree := treeTouch c.tree w }
    | none =>
      let isHeld := fun w => match alGet c.ways w with | some l => l.held | none => false
      if (List.range 16).all isHeld then s
      else
        let w := treeVictim c.tree isHeld 4 1 0
        let s := match alGet c.ways w with
          | some l => if l.dirty then s.writeBack l.line else s
          | none => s
        s.setCset i { ways := alPut c.ways w ⟨line, dirty, held⟩, tree := treeTouch c.tree w }

/-- A DIRTY line is written back and left CLEAN. -/
def State.cleanLine (s : State) (line : Nat) : State :=
  let i := setOf line
  match (s.cset i).wayOf line with
  | some (w, l) =>
    if l.dirty then
      let s := s.writeBack line
      s.setCset i { s.cset i with ways := alPut (s.cset i).ways w { l with dirty := false } }
    else s
  | none => s

/-- Every DIRTY line of the near cache is written back. -/
def State.cleanAll (s : State) : State := (s.nc.sets.flatMap (fun p => p.2.ways.map (fun w => w.2.line))).foldl State.cleanLine s

/-- A miss that DRAM serves counts toward its channel's load (R130). -/
def State.missLoad (s : State) (line : Nat) : State :=
  if line * 256 < carveBase ∧ (s.tile (line / 256)).inDram then s.countLoad (s.tile (line / 256)).frame else s

/-- A read of a line (R223): a hit or a fill; UNHOMED granules are not accessed (R110). -/
def State.readLine (s : State) (line : Nat) : State :=
  if (s.tile (line / 256)).empty ∧ line * 256 < carveBase then s
  else if s.cached line then s.enterLine line false false
  else (s.missLoad line).enterLine line false false

/-- A write to a line leaves it DIRTY (R223). -/
def State.writeLine (s : State) (line : Nat) : State :=
  if s.cached line then s.enterLine line true false else (s.missLoad line).enterLine line true false

/-- The lines a range of bytes touches. -/
def linesOf (a n : Nat) : List Nat :=
  if n = 0 then [] else (List.range ((a + n - 1) / 256 - a / 256 + 1)).map (fun i => a / 256 + i)

/-- The near cache drops a line without a write-back: its data is gone with its tile (R252) or home. -/
def State.dropLine (s : State) (line : Nat) : State :=
  let i := setOf line
  let c := s.cset i
  let s := { s with nc := { s.nc with side := s.nc.side.filter (fun e => e.1 != line) } }
  match c.wayOf line with
  | some (w, _) => s.setCset i { c with ways := alDel c.ways w }
  | none => s

/-- The invalidation walk begins (R224): every way is cleared. -/
def State.startWalk (s : State) : State :=
  ({ s with nc := { sets := [], side := [], walking := true, misses := [] } }).setBit F.NCACHE_STATUS_inv_done false

/-! ### The role and the divergence record (R164, R189) -/

/-- The unit's role is LEAD. -/
def State.lead (s : State) : Bool := s.bit F.SEAM_STATUS_lead

/-- A tile that LEAD commits to, promotes, homes anew or discards is marked while the record is open. -/
def State.markRecord (s : State) (t : Nat) : State :=
  match s.kept.record with
  | some r => if s.mode = .solo ∨ (s.lead ∧ s.mirrored) then { s with kept := { s.kept with record := some { r with tiles := setAdd r.tiles t } } } else s
  | none => s

/-! ### Bytes of memory through the near cache (R264, R268) -/

/-- The key pair that a key slot holds; a slot never written holds pair 0 (R266; DESIGN CHOICE, log entry 167). -/
def State.slotKey (s : State) (slot : Nat) : Nat := alGetD s.kept.keySlots slot 0

/-- A line's 256 bytes encrypted under a key pair, with the line's address as the tweak (R266). -/
def encipher (key line : Nat) (data : List Byte) : List Byte := leBytes 256 (Config.xts key (line * 256) (BitVec.ofNat 2048 (leNat data))).toNat

/-- Decrypted. -/
def decipher (key line : Nat) (data : List Byte) : List Byte := leBytes 256 ((Config.xts key (line * 256)).symm (BitVec.ofNat 2048 (leNat data))).toNat

/-- The ciphertext of a line of the tenant range, the same in DRAM, on NAND, in a COPY frame and in a save image (R266). -/
def State.stored (s : State) (line : Nat) : List Byte :=
  let x := s.tile (line / 256)
  encipher ((alGet x.keyed (line % 256)).getD (s.slotKey x.key)) line (memReads s.kept.mem (line * 256) 256)

/-- A byte as a reader sees it: of the carve-out as R40 lays it out, else the byte written; what is stored under another key pair than the tile's slot now
holds decrypts to something else (R268). -/
def State.byte (s : State) (a : Nat) : Byte :=
  if carveBase ≤ a ∧ a < carveEnd then s.carveByte a
  else
  let x := s.tile (tileOf a)
  if (alGet x.keyed (lineOf a % 256)).isNone then memRead s.kept.mem a
  else (decipher (s.slotKey x.key) (lineOf a) (s.stored (lineOf a))).getD (a % 256) 0

/-- Consecutive bytes as a reader sees them. -/
def State.bytes (s : State) : Nat → Nat → List Byte
  | _, 0 => []
  | a, n + 1 => s.byte a :: s.bytes (a + 1) n

/-- A line that is written is stored under the present key pair from now on (R268): its bytes are first read as they are. -/
def State.replain (s : State) (line : Nat) : State :=
  let t := line / 256
  let x := s.tile t
  if (alGet x.keyed (line % 256)).isNone then s
  else
    let old := s.bytes (line * 256) 256
    let s := { s with kept := { s.kept with mem := memWrites s.kept.mem (line * 256) old } }
    s.setTile t { x with keyed := alDel x.keyed (line % 256) }

/-- A write of a line whole clears its poison; a partial write leaves it (R219). -/
def State.cleanse (s : State) (a n line : Nat) : State :=
  if a ≤ line * 256 ∧ line * 256 + 256 ≤ a + n then s.clearLine line else s

/-- A frame that its host has written whole frees its entry at once (R217): no line of it is left to the fill, each that is not valid in DRAM being DIRTY in the near cache
(DEDUCED, log entry 173). -/
def State.reviewFresh (s : State) (t : Nat) : State :=
  match alGet s.kept.freshTab t with
  | some bits => if allLines.all (fun l => bits.contains l || s.lineDirty (t * 256 + l)) then s.freeFresh t else s
  | none => s

/-- Writes bytes into the tenant range or the carve-out through the near cache: the lines become DIRTY, poison ends where a line is
covered whole, the tile's age is 0, and a tile being demoted takes its dirty-since-copy mark (R114). -/
def State.store (s : State) (a : Nat) (data : List Byte) : State :=
  let n := data.length
  let s := (linesOf a n).foldl (fun s l => ((s.replain l).cleanse a n l).writeLine l) s
  let s := { s with kept := { s.kept with mem := memWrites s.kept.mem a data } }
  let t := tileOf a
  if carveBase ≤ a ∨ n = 0 then s
  else
    let s := ((s.noteDirty t).touch t).reviewFresh t
    if s.tlr.running.any (fun m => m.tile = t ∧ !m.toDram) then s.setTile t { s.tile t with dirty := true } else s

/-- Reads bytes through the near cache. -/
def State.load (s : State) (a n : Nat) : State :=
  let s := (linesOf a n).foldl (fun s l => s.readLine l) s
  if carveBase ≤ a ∨ n = 0 then s else s.touch (tileOf a)

/-! ### Scans (R264, R265) -/

/-- The bytes that a scan has read count as class-5 work (R128, R264). -/
def State.countScan (s : State) (n : Nat) : State := { s with tlr := { s.tlr with started := s.tlr.started ++ [(s.mrt, n)] } }

/-- A scan ends (R265). How far one that is aborted has read is free. -/
def State.endScan (s : State) (outcome result : Nat) : State :=
  let s := match s.scan, outcome with
    | some x, 3 => (s.tickFree.countScan (Config.choice s.free (x.len + 1) % (x.len + 1)))
    | _, _ => s
  let s := { s with scan := none }
  let s := ((s.setBit F.CRC_SCAN_CTRL_busy false).setBit F.CRC_SCAN_STAT_done true).setFld F.CRC_SCAN_STAT_outcome outcome
  let s := s.setPair F.CRC_SCAN_RES_LO_value F.CRC_SCAN_RES_HI_value result
  let s := s.raise Ev.CRC_SCAN_DONE
  if outcome = 1 then s.raise Ev.CRC_SCAN_MISMATCH else s

end Sys2Proof.Machine
end

