-- ==== Sys2Proof/Machine/Tier.lean ====
section
/-! DEFINITION. The NAND tier as every data path sees it (09): blocks and parity groups (R239, R240), the metadata of codewords (R230), what a target carries
out (R242), spares and freeze (R248, R249), blocks that are emptied and erased, and the extents of placement (R119, R120). -/

namespace Sys2Proof.Machine

/-! ### Blocks (R239, R240, R246) -/

/-- The listed blocks of a target. -/
def State.blocksOf (s : State) (t : Nat) : List (Nat × NBlock) := s.nand.blocks.filter (fun p => p.1 / 2 ^ 20 = t)

/-- The tier blocks of a target: those of the format, and the spares that took the place of retired ones (R248). -/
def State.tierBlocks (s : State) (t : Nat) : Nat := s.nand.perTarget + alGetD s.nand.joined t 0

/-- Free blocks of a target (R245). -/
def State.freeBlocks (s : State) (t : Nat) : Nat := s.tierBlocks t - ((s.blocksOf t).filter (fun p => p.2.st != .free)).length

/-- The block that holds a tile's or unit's current copy. -/
def State.homeBlockOf (s : State) (t : Nat) (unit : Option Nat) : Option Nat := (alGet s.kept.map (mapKey t unit)).map s.blockOf

/-- Map entries whose codewords lie in a block: its live data. -/
def State.liveIn (s : State) (k : Nat) : List (Nat × Nat) := s.kept.map.filter (fun p => s.blockOf p.2 = k)

/-- The parity of a block's group is held: in the partial-parity buffer or in its parity block, which is not erased yet (R240). -/
def State.parityHeld (s : State) (k : Nat) : Bool :=
  (s.blk k).st != .free && (alGet s.nand.groups (s.blk k).group).isSome

/-- The free tier block of a target with the lowest erase count, the lowest number on a tie (DESIGN CHOICE, log entry 21); blocks with a factory bad-block
mark are passed over (R231). -/
def State.freshBlock (s : State) (t : Nat) : Option Nat :=
  let l := s.blocksOf t
  let bad := s.nand.bad.filter (fun k => k / 2 ^ 20 == t && decide (s.nand.first ≤ k % 2 ^ 20))
  match (List.range (Nat.min (s.tierBlocks t) (l.length + 1) + bad.length)).find? (fun b =>
      !bad.contains (blockKey t (s.nand.first + b)) && l.all (fun p => p.1 != blockKey t (s.nand.first + b))) with
  | some b => if l.length < s.tierBlocks t then some (blockKey t (s.nand.first + b)) else none
  | none => (least ((l.filter (fun p => p.2.st == .free)).map (fun p => (p.2.erases, p.1)))).map (·.2)

/-- The data blocks of a parity group. -/
def State.membersOf (s : State) (g : Nat) : List (Nat × NBlock) :=
  s.nand.blocks.filter (fun p => p.2.group == g && p.2.st != .free && p.2.st != .parity && p.2.st != .retired)

def NBlock.isOpen (b : NBlock) : Bool := match b.st with | .open_ _ => true | _ => false

/-- The most data blocks of a group: 15, each on a channel of its own with one more for the parity block. -/
def State.groupMax (s : State) : Nat := Nat.max 1 (Nat.min 15 (((s.nand.targets.map (· / 16)).foldl setAdd []).length - 1))

/-- The parity group that a block joins: one with an open block and room, none of it on the block's channel, and no parity page programmed yet, for a parity page covers the
group as it is (R240; the last is DESIGN CHOICE, log entry 129). -/
def State.groupFor (s : State) (t : Nat) : Option Nat :=
  (s.nand.groups.find? (fun p =>
    p.2.pages == 0 && (s.membersOf p.1).any (·.2.isOpen) && decide ((s.membersOf p.1).length < s.groupMax) &&
    (s.membersOf p.1).all (fun m => m.1 / 2 ^ 20 / 16 != t / 16))).map (·.1)

/-- A group begins; its parity is accumulated in the partial-parity buffer (R240). -/
def State.newGroup (s : State) : State × Nat :=
  let g := s.nand.nextGroup
  ({ s with nand := { s.nand with nextGroup := g + 1, groups := alPut s.nand.groups g {} } }, g)

/-! ### Spares, freeze (R248, R249) -/

/-- The spare count falls: warn level, freeze, and the end of the reserve (R248, R249). -/
def State.takeSpares (s : State) (n : Nat) : State :=
  let old := s.nand.left
  let left := old - n
  let s := { s with nand := { s.nand with left := left } }
  let s := s.setFld F.QLT_SPARE_left left
  let at_ := fun (pct : Nat) => decide (left * 100 ≤ s.nand.init * pct)
  let before := fun (pct : Nat) => decide (old * 100 ≤ s.nand.init * pct)
  let s := if at_ (s.fld F.QLT_SPARE_CFG_warn_pct) && !before (s.fld F.QLT_SPARE_CFG_warn_pct) then s.raise Ev.QLT_SPARE_LOW else s
  let s := if left = 0 then s.setBit F.QLT_STATUS_reserve_empty true else s
  if at_ (s.fld F.QLT_SPARE_CFG_freeze_pct) && !s.nand.frozen then
    ((({ s with nand := { s.nand with frozen := true } }).setBit F.QLT_STATUS_frozen true).raise Ev.QLT_FROZEN).reviewCap
  else s

/-- A spare block joins the tier of a target, while one is left (R248, R249). -/
def State.joinSpare (s : State) (t : Nat) : State :=
  if s.nand.left = 0 then s
  else { s.takeSpares 1 with nand := { (s.takeSpares 1).nand with joined := alPut s.nand.joined t (alGetD s.nand.joined t 0 + 1) } }

/-- The block that is opened next on a target: a free one; while the tier is frozen and the target's work pool has none, a relocation takes one of the spares that
remain (R249). -/
def State.drawBlock (s : State) (t : Nat) (reloc : Bool) : State × Option Nat :=
  if (s.freshBlock t).isNone && reloc && s.nand.frozen then (s.joinSpare t, (s.joinSpare t).freshBlock t) else (s, s.freshBlock t)

/-- Opens a block of a target for demotions or relocations. -/
def State.openBlock (s : State) (t : Nat) (reloc : Bool) : State × Option Nat :=
  match s.drawBlock t reloc with
  | (s, none) => (s, none)
  | (s, some k) =>
    let (s, g) := match s.groupFor t with
      | some g => (s, g)
      | none => s.newGroup
    (s.setBlk k { s.blk k with st := .open_ reloc, fill := 0, reads := 0, verified := false, group := g }, some k)

/-- The pages of a group whose parity is due: those that every member of a whole group has written; all that any has written once the group has closed
(R240; a group is whole with as many members as it can have: DESIGN CHOICE, log entry 129). -/
def State.pagesDue (s : State) (g : Nat) : Nat :=
  let ms := s.membersOf g
  if ms.all (fun m => !m.2.isOpen) then ms.foldl (fun n m => Nat.max n (ceilDiv m.2.fill 4)) 0
  else if ms.length < s.groupMax then 0
  else ms.foldl (fun n m => Nat.min n (m.2.fill / 4)) (2 ^ 32)

/-- The parity pages of a group that are due are programmed into its parity block, which is taken at the first of them on another channel than the
members', of the lowest target that has a free block (R240; DESIGN CHOICE, log entry 129). Where no target has one the parity stays in the buffer. -/
def State.programParity (s : State) (g : Nat) : State :=
  match alGet s.nand.groups g with
  | none => s
  | some x =>
    let n := s.pagesDue g
    if n ≤ x.pages then s
    else
      let chans := (s.membersOf g).map (fun m => m.1 / 2 ^ 20 / 16)
      match x.block.orElse (fun _ => (s.nand.targets.filter (fun t => !chans.contains (t / 16))).findSome? s.freshBlock) with
      | none => s
      | some k =>
        let s := s.setBlk k { s.blk k with st := .parity, fill := n * 4, reads := 0, verified := false, group := g }
        { s with nand := { s.nand with groups := alPut s.nand.groups g ⟨n, some k⟩, wseq := s.nand.wseq + 4 * (n - x.pages) } }

/-- A block takes no more programs. -/
def State.closeBlock (s : State) (k : Nat) : State := (s.setBlk k { s.blk k with st := .closed }).programParity (s.blk k).group

/-- The open block of a target. -/
def State.openOf (s : State) (t : Nat) (reloc : Bool) : Option Nat :=
  ((s.blocksOf t).find? (fun p => p.2.st = .open_ reloc)).map (·.1)

/-- The next place of a block: a tile begins at its next four free pages, a unit at its next codeword. -/
def NBlock.next (b : NBlock) (unit : Bool) : Nat := if unit then b.fill else ceilDiv b.fill 16 * 16

/-- A tile or unit is programmed on a target (R239): the codeword number it takes, none where the target has no block for it. A block that is
full is closed. -/
def State.program (s : State) (t : Nat) (reloc unit : Bool) : State × Option Nat :=
  let n := if unit then 1 else 16
  let (s, k) := match s.openOf t reloc with
    | some k =>
      if (s.blk k).next unit + n ≤ s.nand.blockTiles * 16 then (s, some k)
      else (s.closeBlock k).openBlock t reloc
    | none => s.openBlock t reloc
  match k with
  | none => (s, none)
  | some k =>
    let b := s.blk k
    let at_ := b.next unit
    let full := decide (s.nand.blockTiles * 16 ≤ at_ + n)
    let s := s.setBlk k { b with fill := at_ + n }
    let s := { s with nand := { s.nand with wseq := s.nand.wseq + n, programmed := s.nand.programmed + n * 4096 } }
    let s := if full then s.closeBlock k else s.programParity b.group
    (s, some ((t * 2 ^ 22 + k % 2 ^ 20 * s.nand.blockTiles) * 16 + at_))

/-- The metadata of one codeword of tier data (R230). -/
def State.metaOf (s : State) (tile c : Nat) (unit reloc : Bool) (wseq : Nat) : CwMeta :=
  { addr := tile * 65536 + c * 4096, unit := unit, reloc := reloc, wseq := wseq, key := (s.tile tile).key
    poison := (List.range 16).filter (fun i => s.kept.poison.contains (tile * 256 + c * 16 + i)) }

/-- A tile or one of its units is programmed with its metadata (R230): each codeword takes the next write sequence number. -/
def State.programTile (s : State) (t tile : Nat) (unit : Option Nat) (reloc : Bool) : State × Option Nat :=
  let from_ := s.nand.wseq
  match s.program t reloc unit.isSome with
  | (s, none) => (s, none)
  | (s, some cw) =>
    let cs := unit.elim (List.range 16) (fun u => [u])
    let l := cs.foldl (fun (l : List (Nat × CwMeta)) c =>
      alPut l (cw + (if unit.isSome then 0 else c)) (s.metaOf tile c unit.isSome reloc (from_ + (if unit.isSome then 1 else c + 1)))) s.nand.cws
    ({ s with nand := { s.nand with cws := l } }, some cw)

/-- A codeword's record as it is stored (R230): 24 bytes of fields and the CRC-64 of its data with address and write sequence folded in (R261). -/
def CwMeta.bytes (m : CwMeta) (data : List Byte) : List Byte :=
  leBytes 6 m.addr ++ leBytes 1 1 ++ leBytes 1 ((if m.unit then 1 else 0) + (if m.reloc then 2 else 0)) ++ leBytes 8 m.wseq ++
  leBytes 2 (m.poison.foldl (fun n i => n + 2 ^ i) 0) ++ leBytes 2 (m.key % 1024) ++ leBytes 4 0 ++ leBytes 8 (crc64 (foldPrefix m.addr m.wseq ++ data))

/-! ### What a target carries out (R242, R256) -/

/-- The images that the save area holds, until their slot is erased. -/
def State.images (s : State) : List Image :=
  s.area.slot0.base.toList ++ s.area.slot0.delta.toList ++ s.area.slot1.base.toList ++ s.area.slot1.delta.toList

/-- No erase of a block ends from step 3 of a SAVE on (R256), nor, but for a secure discard (R254), while the save area holds an image that maps a copy in it (R257). -/
def State.eraseHeld (s : State) (k : Nat) : Bool :=
  s.mode == .save || (!(s.blk k).wipe && s.images.any (fun i => i.kept.map.any (fun p => s.blockOf p.2 == k)))

/-- The program at the head of a target's work: the oldest demotion that is not durable. -/
def State.nextProgram (s : State) (t : Nat) : Option Mig := s.tlr.running.find? (fun (m : Mig) => !m.toDram && m.target == t && !m.durable)

/-- Live data of a draining block of the target waits to be relocated. -/
def State.relocWaits (s : State) (t : Nat) : Bool :=
  (s.blocksOf t).any (fun p => (match p.2.st with | .draining _ => true | _ => false) && !(s.liveIn p.1).isEmpty)

/-- A closed block of the target waits for its read-verify (R241). -/
def State.verifyWaits (s : State) (t : Nat) : Bool := (s.blocksOf t).any (fun p => p.2.st == .closed && !p.2.verified)

/-- A block that is to be erased: wholly stale, or retired with a copy that a secure discard removes (R254). -/
def NBlock.erasable (b : NBlock) : Bool := b.st == .erasing || (b.st == .retired && b.wipe)

/-- The next operation of a target (R242): a demotion's program, then, where no relocation and no read-verify waits, an erase. Within a class the order
is the model's: the oldest demotion, and the first listed block (DESIGN CHOICE, log entry 165). -/
def State.nextOp (s : State) (t : Nat) : Option NOp :=
  match s.nextProgram t with
  | some m => some (.program m.tile m.unit)
  | none =>
    if s.relocWaits t || s.verifyWaits t then none
    else ((s.blocksOf t).find? (fun p => p.2.erasable && !s.eraseHeld p.1)).map (fun p => .erase p.1)

/-- The operation still stands: its demotion is under way, its block waits for its erase. -/
def State.opStands (s : State) (t : Nat) : NOp → Bool
  | .program tile u => s.tlr.running.any (fun (m : Mig) => m.tile == tile && m.unit == u && !m.toDram && m.target == t && !m.durable)
  | .erase k => (s.blk k).erasable && !s.eraseHeld k

/-- The operation that a target carries out, with its suspends. -/
def State.opAt (s : State) (t : Nat) : Option (NOp × Nat) :=
  match (alGet s.nand.ops t).filter (fun o => s.opStands t o.1) with
  | some o => some o
  | none => (s.nextOp t).map (fun o => (o, 0))

/-- A target takes up its next operation where it has none. -/
def State.occupy (s : State) (t : Nat) : State :=
  { s with nand := { s.nand with ops := match s.opAt t with
      | some o => alPut s.nand.ops t o
      | none => alDel s.nand.ops t } }

/-- A target's operation has ended: the next begins. -/
def State.vacate (s : State) (t : Nat) : State := ({ s with nand := { s.nand with ops := alDel s.nand.ops t } }).occupy t

/-- A fetch that is still to read waits for a target: its work comes first (R242). -/
def State.fetchWaits (s : State) (t : Nat) : Bool :=
  s.fetches.any (fun f => f.since.isNone && !f.seg && (s.homeBlockOf f.tile f.unit).any (fun k => k / 2 ^ 20 == t))

/-- Reads of verify, patrol and scan wait for fetches, for relocations and for the target's operation (R242). -/
def State.idle (s : State) (t : Nat) : Bool := (s.opAt t).isNone && !s.fetchWaits t && !s.relocWaits t

/-- A fetch that reaches a busy target suspends its operation, once however many codewords it reads; after the 16th suspend it waits for the operation
to end (R242; DEDUCED, log entry 143). Answers whether it reads. -/
def State.suspend (s : State) (t : Nat) : State × Bool :=
  match s.opAt t with
  | none => (s, true)
  | some (o, n) => if 16 ≤ n then (s, false) else ({ s with nand := { s.nand with ops := alPut s.nand.ops t (o, n + 1) } }, true)

/-! ### Blocks that are emptied and erased (R241, R245, R248, R255) -/

/-- A failed block of the save area is replaced: from the area's own spares, then from the tier spare pool, then from the tier's free blocks (R255);
of those, one of the lowest target that has one (DESIGN CHOICE, log entry 129). -/
def State.saveReplace (s : State) : State :=
  if 0 < s.area.spares then { s with area := { s.area with spares := s.area.spares - 1 } }
  else if 0 < s.nand.left then s.takeSpares 1
  else
    match s.nand.targets.findSome? s.freshBlock with
    | some k => s.setBlk k { s.blk k with st := .retired }
    | none => s

/-- A wholly stale block waits for its erase. -/
def State.toErase (s : State) (k : Nat) : State := (s.setBlk k { s.blk k with st := .erasing }).occupy (k / 2 ^ 20)

/-- The parity block of a group is erased, and so returns to the work pool, once the group has closed and every page of every member has passed read-verify
(R240); the group's buffer is free with it. -/
def State.reviewGroup (s : State) (g : Nat) : State :=
  match alGet s.nand.groups g with
  | none => s
  | some x =>
    if (s.membersOf g).all (fun p => p.2.st == .erasing || (p.2.verified && !p.2.isOpen)) then
      let s := { s with nand := { s.nand with groups := alDel s.nand.groups g } }
      x.block.elim s s.toErase
    else s

/-- A block is retired and replaced from the spare pool: a spare of its own target joins the tier (R248; of its own target: DESIGN CHOICE, log entry 163). -/
def State.retireBlock (s : State) (k : Nat) : State :=
  let g := (s.blk k).group
  ((((s.setBlk k { s.blk k with st := .retired }).joinSpare (k / 2 ^ 20)).raise Ev.QLT_BLOCK_RETIRE (k / 2 ^ 20)).programParity g).reviewGroup g

/-- A block's data is to be relocated, and then the block is retired or erased; with no spare left data stays in place (R249). -/
def State.drainBlock (s : State) (k : Nat) (retire : Bool) : State :=
  if s.nand.frozen ∧ s.nand.left = 0 then s
  else if (s.liveIn k).isEmpty then (if retire then s.retireBlock k else s.toErase k)
  else s.setBlk k { s.blk k with st := .draining retire }

/-- A draining block whose last live data has gone is retired, or waits for its erase. -/
def State.reviewDrain (s : State) (k : Nat) : State :=
  match (s.blk k).st with
  | .draining retire =>
    if (s.liveIn k).isEmpty then (if retire then s.retireBlock k else s.toErase k) else s
  | _ => s

/-- Moves under way that `p` names are abandoned; the copies that demotions of theirs have programmed are stale (R112, R253, R254). -/
def State.abandonMoves (s : State) (p : Mig → Bool) : State :=
  let gone := s.tlr.running.filter (fun m => p m && !m.toDram && m.durable)
  let s := { s with tlr := { s.tlr with running := s.tlr.running.filter (fun m => !p m) } }
  gone.foldl (fun s m => s.addStale m.tile m.slot) s

/-- Counts a program or erase failure of a target's channel. -/
def State.countFail (s : State) (t : Nat) : State := s.sat (F.NCH_ERR_fails (t / 16))

/-! ### Extents (R119, R120) and at-rest keys (R268) -/

/-- The tiles of a region that is whole tiles. -/
def Rgn.tiles (r : Rgn) : List Nat := (List.range (r.length / 65536)).map (fun i => r.target / 65536 + i)

/-- An extent ends: no job, no pin (R119). -/
def State.endExtent (s : State) (i : Nat) : State :=
  { s with tlr := { s.tlr with jobs := s.tlr.jobs.filter (fun j => j.region != i), pinned := setDel s.tlr.pinned i } }

/-- A tile of a pinned extent is never churning (R117): it is whole once no unit of it is NAND-homed. -/
def State.unchurn (s : State) (t : Nat) : State :=
  let x := s.tile t
  if x.churn ∨ !x.units.isEmpty then
    s.setTile t (if !x.units.isEmpty && x.units.all (· == .dram) then { x with home := .dram, units := [], churn := false } else { x with churn := false })
  else s

/-- The demotions of a tile, waiting or under way, are abandoned: a pinned tile is never demoted (R120). -/
def State.abandonDown (s : State) (t : Nat) : State :=
  ({ s with tlr := { s.tlr with queue := s.tlr.queue.filter (fun m => m.tile != t || m.toDram) } }).abandonMoves (fun m => m.tile == t && !m.toDram)

/-- A tile that a job takes to DRAM, or to NAND, and that is not there or is on its way from there. -/
def State.leftFor (s : State) (toDram : Bool) (t : Nat) : Bool :=
  if toDram then (s.tile t).inNand || s.tlr.running.any (fun m => m.tile == t && !m.toDram) else (s.tile t).inDram

/-- Tiles become a pinned extent of a name (R117, R120, R126): none of them is churning or being demoted. -/
def State.pinDown (s : State) (name : Nat) (ts : List Nat) : State :=
  (ts.filter (fun t => alGetD s.kept.tiles t {} != {})).foldl (fun s t => (s.abandonDown t).unchurn t) { s with tlr := { s.tlr with pinned := s.tlr.pinned ++ [name] } }

/-- An extent's flag and policy take effect, and its move is queued as one class-3 job (R119, R120). -/
def State.applyExtent (s : State) (i : Nat) (flag : Bool) (policy : Nat) : State :=
  let s := (s.endExtent i).setRgn i { s.rgn i with ext := flag, policy := policy }
  if !flag ∨ policy = 0 then s
  else
    let toDram := policy != 2
    let s := if policy = 3 then s.pinDown i (s.rgn i).tiles else s
    let left := (s.rgn i).tiles.filter (s.leftFor toDram)
    let s := s.reviewCap
    if left.isEmpty then s.raise Ev.TLR_EXT_DONE
    else { s with tlr := { s.tlr with jobs := s.tlr.jobs ++ [⟨i, toDram, left, none⟩] } }

/-- The lines of a tile that are stored: of granules that have a home, and of a fresh frame those whose valid bit is set, for the others read as zeros (R217). -/
def State.storedLines (s : State) (t : Nat) (x : Tile) : List Nat :=
  ((alGet s.kept.freshTab t).getD (List.range 256)).filter (fun l => x.homeOf (l / 16) != .unhomed)

/-- What a tile holds under a slot that takes another key pair: every line stored under the old one stays so, in the near cache too, and one that was stored under the new
pair reads well again (R268; DEDUCED, log entry 36). -/
def State.rekey (s : State) (t old k : Nat) (x : Tile) : Tile :=
  let l := ((s.storedLines t x).filter (fun i => (alGet x.keyed i).isNone)).map (fun i => (i, old))
  { x with keyed := (l.foldl (fun (m : List (Nat × Nat)) e => alPut m e.1 e.2) x.keyed).filter (fun e => e.2 != k) }

/-- A key slot takes a key pair (R268): what is recorded with that slot decrypts to meaningless data from now on. -/
def State.installKey (s : State) (slot k : Nat) : State :=
  let old := s.slotKey slot
  { s with kept := { s.kept with
      keySlots := alPut s.kept.keySlots slot k
      tiles := if old = k then s.kept.tiles
        else s.kept.tiles.map (fun (p : Nat × Tile) => if p.2.key == slot then (p.1, s.rekey p.1 old k p.2) else p) } }

end Sys2Proof.Machine
end

