-- ==== Sys2Proof/Machine/Ecc.lean ====
section
/-! DEFINITION. Where data lies in DRAM (R198, R215), and an uncorrectable error where a line is met with one (R213, R219, R220, R227). -/

namespace Sys2Proof.Machine

/-! ### Frames and lines (R198, R215) -/

/-- The 64 KiB unit of the carve-out that a frame of its first placing was taken for: the channels take turns, each from its lowest frame (R215). -/
def State.carveUnit (s : State) (f : Nat) : Nat :=
  match frameAt s.pops f with
  | some (c, _, _) => (f - frameBase s.pops c) * s.pops.length + (s.pops.filter (fun p => decide (p.1 < c))).length
  | none => 0

/-- The frame of a unit of the carve-out. One whose frame is retired lies in another (R221); which unit moves where is the model's (DESIGN CHOICE, log entry 174). -/
def State.carveFrame (s : State) (u : Nat) : Option Nat :=
  (s.pops[u % Nat.max 1 s.pops.length]?).map (fun p =>
    let f := frameBase s.pops p.1 + u / Nat.max 1 s.pops.length
    (alGet s.moved f).getD f)

/-- The unit of the carve-out that a frame holds. -/
def State.carveIn (s : State) (f : Nat) : Option Nat :=
  match frameAt s.pops f with
  | none => none
  | some (c, _, _) =>
    if f < frameBase s.pops c + s.carveOn c then (if (alGet s.moved f).isNone then some (s.carveUnit f) else none)
    else (s.moved.find? (fun e => e.2 == f)).map (fun e => s.carveUnit e.1)

/-- The line that a frame holds in its 256 bytes from `i * 256` on: of the carve-out, or of a DRAM-homed tile. -/
def State.lineIn (s : State) (f i : Nat) : Option Nat :=
  match s.carveIn f with
  | some u => some (carveBase / 256 + u * 256 + i)
  | none => (s.kept.tiles.find? (fun p => p.2.inDram && p.2.frame == f)).map (fun p => p.1 * 256 + i)

/-- The offset of a burst in its frame (R198): bits 15 and 14 its row, 13 to 7 its 64-byte column, 6 its subchannel. -/
def burstOff (l : BurstLoc) : Nat := l.row.toNat % 4 * 16384 + l.column.toNat % 128 * 128 + l.subch.val * 64

/-- The frame of a burst (R198): four rows of one bank of one logical rank. -/
def State.burstFrame (s : State) (c : Nat) (l : BurstLoc) : Option Nat :=
  (alGet s.pops c).bind (fun p =>
    if l.lrank.val < p.slots * p.lranks ∧ l.bank.val < p.banks ∧ l.row.toNat / 4 < p.perBank then
      some (frameBase s.pops c + (l.lrank.val * p.banks + l.bank.val) * p.perBank + l.row.toNat / 4)
    else none)

/-- The line that a burst is part of. -/
def State.lineAt (s : State) (c : Nat) (l : BurstLoc) : Option Nat := (s.burstFrame c l).bind (fun f => s.lineIn f (burstOff l / 256))

/-- The frame that a line lies in. -/
def State.frameOfLine (s : State) (line : Nat) : Option Nat :=
  if carveBase ≤ line * 256 then (if line * 256 < carveEnd then s.carveFrame ((line * 256 - carveBase) / 65536) else none)
  else if (s.tile (line / 256)).homeOf (line % 256 / 16) = .dram then some (s.tile (line / 256)).frame
  else none

/-- One of the four bursts of a line (R198): two adjacent columns of one row in each subchannel. -/
def State.burstOf (s : State) (line k : Nat) : Option (Nat × BurstLoc) :=
  match (s.frameOfLine line).bind (frameAt s.pops) with
  | some (c, b, i) =>
    let n := Nat.max 1 ((alGet s.pops c).elim 1 (·.banks))
    some (c, ⟨Fin.ofNat 2 (k % 2), Fin.ofNat 16 (b / n), Fin.ofNat 32 (b % n), BitVec.ofNat 18 (i * 4 + line % 256 / 64), BitVec.ofNat 10 (line % 64 * 2 + k / 2 % 2)⟩)
  | none => none

/-! ### Errors (R213, R219, R220) -/

/-- DMC_ECC_LOG and DMC_ECC_LOC hold the first error since valid was cleared, or the first uncorrectable one since (R227). The column is that of the 64-byte burst (DESIGN
CHOICE, log entry 172). -/
def State.logEcc (s : State) (c : Nat) (loc : BurstLoc) (ue : Bool) (device : Nat) : State :=
  if s.bit (F.DMC_ECC_LOG_valid c) ∧ (!ue ∨ s.bit (F.DMC_ECC_LOG_kind c)) then s
  else
    let s := ((s.setBit (F.DMC_ECC_LOG_valid c) true).setBit (F.DMC_ECC_LOG_kind c) ue).setFld (F.DMC_ECC_LOG_subch c) loc.subch.val
    let s := ((s.setFld (F.DMC_ECC_LOG_lrank c) loc.lrank.val).setFld (F.DMC_ECC_LOG_bank c) loc.bank.val).setFld (F.DMC_ECC_LOG_device c) device
    (s.setFld (F.DMC_ECC_LOC_column c) loc.column.toNat).setFld (F.DMC_ECC_LOC_row c) loc.row.toNat

/-- An uncorrectable error of a burst, where its line was not poisoned before (R219, R227). -/
def State.uncorrectable (s : State) (c : Nat) (loc : BurstLoc) : State :=
  ((s.sat (F.DMC_ECC_CNT_ue c)).logEcc c loc true 15).raise (Ev.DMC_UE (Fin.ofNat 16 c)) 65535

/-- An uncorrectable error met in a line by an engine (R220): counted, logged and raised for one of the line's bursts, whichever it was (free), and the line is poisoned. One that
was poisoned before is no new error (R219). -/
def State.dataError (s : State) (line : Nat) : State :=
  if s.kept.poison.contains line then s
  else
    (match s.burstOf line (Config.choice s.free 4 % 4) with
     | some (c, loc) => s.tickFree.uncorrectable c loc
     | none => s).poisonLine line

end Sys2Proof.Machine
end

