-- ==== Sys2Proof/Machine/Movers.lean ====
section
/-! DEFINITION. The home lookup of an access (step 10 of R51, T10 of R72): fetches for reads (R36, R62), homes and promotions for
writes (R123, R127), and the heat count (R124). -/

namespace Sys2Proof.Machine

/-- What a home lookup answers: served, not present (the message parks), throttled (it parks too), refused with CAPACITY. -/
inductive Need where
  | ok | absent | throttled | refused
  deriving DecidableEq, Repr

def Need.join : Need → Need → Need
  | .refused, _ | _, .refused => .refused
  | .throttled, _ | _, .throttled => .throttled
  | .absent, _ | _, .absent => .absent
  | .ok, .ok => .ok

/-- The churn units that an access to a part of a tile touches. -/
def unitsOf (a n : Nat) : List Nat := (List.range 16).filter (fun u => decide (a % 65536 / 4096 ≤ u) && decide (u ≤ (a % 65536 + n - 1) / 4096))

/-- Granules of a part: the units touched where the tile is split or churning, else the whole tile. -/
def Tile.granules (x : Tile) (a n : Nat) : List (Option Nat) :=
  if x.units.isEmpty ∧ !x.churn then [none] else (unitsOf a n).map some

/-- The policy of the extent that covers a tile (R118), pin for a channel's log (R93), neutral where none does. -/
def State.policyOf (s : State) (t : Nat) : Nat :=
  if s.inLog t then 3
  else
  match s.kept.rdt.find? (fun p => p.2.state = .valid ∧ p.2.ext ∧ p.2.target / 65536 ≤ t ∧ t < p.2.target / 65536 + p.2.length / 65536) with
  | some p => p.2.policy
  | none => 0

/-! ### Fetches (R36, R62, R124) -/

/-- Counts a fetch for heat (R124) and queues the class-5 promotion it triggers. -/
def State.heat (s : State) (t : Nat) (unit : Option Nat) : State :=
  let x := s.tile t
  let win := s.fld F.TLR_HEAT_CFG_promote_win_ms * 1000000
  let u := unit.getD 16
  let l := x.fetched.filter (fun p => decide (s.mrt ≤ p.2 + win)) ++ [(u, s.mrt)]
  let s := s.setTile t { x with fetched := l }
  let n := s.fld F.TLR_HEAT_CFG_promote_reads
  let pol := s.policyOf t
  let busy := (s.tlr.queue ++ s.tlr.running).any (fun m => m.tile = t ∧ m.unit = unit)
  if n ≠ 0 ∧ n ≤ (l.filter (fun p => p.1 = u)).length ∧ pol ≤ 1 ∧ s.atOrBelow F.TLR_WM_CFG_wm_hi ∧ !busy then
    { s with tlr := { s.tlr with queue := s.tlr.queue ++ [⟨t, unit, 5, true, 0, 0, false, none, 0, false⟩] } }
  else s

/-- The lines of a part that are read from NAND are all in the near cache. -/
def State.linesIn (s : State) (a n : Nat) : Bool := (linesOf a n).all s.cached

/-- A read joins the fetch of a granule, or starts it (R62); where the tile's map segment is not in the map cache it is read first (R236). -/
def State.startFetch (s : State) (t : Nat) (unit : Option Nat) (n psn : Nat) : State :=
  if s.fetches.any (fun f => f.tile = t ∧ f.unit = unit) then
    { s with fetches := s.fetches.map (fun (f : Fetch) =>
        if f.tile = t ∧ f.unit = unit ∧ !f.sharers.contains (n, psn) then { f with sharers := f.sharers ++ [(n, psn)], spent := false } else f) }
  else
    let s := if s.segIn t then s.useSeg t false else s
    { s with fetches := s.fetches ++ [⟨t, unit, [(n, psn)], [], none, s.mrt, false, !s.segIn t⟩] }

/-! ### Home blocks (R113) and discards (R253) -/

/-- DRAM-homed tiles of a group. -/
def State.groupTiles (s : State) (g : Nat) : List (Nat × Tile) := s.kept.tiles.filter (fun p => p.1 / 1024 = g ∧ p.2.inDram)

/-- No home block is free: the DRAM-homed tiles of the group that holds the fewest, of the oldest tiles on a tie, are demoted as class-1
work (R113). -/
def State.freeGroup (s : State) : State :=
  let gs := (s.kept.homes.filter (fun e => !(s.groupTiles e.1).isEmpty)).map (fun e =>
    let g := e.1
    let l := s.groupTiles g
    (l.length * 2 ^ 40 + 2 ^ 32 - l.foldl (fun n p => n + p.2.age) 0, g))
  match least gs with
  | none => s
  | some (_, g) =>
    (s.groupTiles g).foldl (fun s p =>
      if (s.tlr.queue ++ s.tlr.running).any (fun m => m.tile == p.1 && (m.cls == 1 || m.toDram)) || s.tlr.running.any (fun m => m.tile == p.1) then s
      else { s with tlr := { s.tlr with
        queue := s.tlr.queue.filter (fun m => m.tile != p.1) ++ [⟨p.1, none, 1, false, 0, 0, false, none, 0, false⟩] } }) s

/-- A tile becomes UNHOMED (R110, R253): moves of it are abandoned, its frame and fresh-frame entry go, its lines leave the near cache
without a write-back, its map entries, its data and its poison are gone. Its codewords are stale: a draining block that held the last live of them is retired or
erased, and the tier may be full no more (R250). -/
def State.unhome (s : State) (t : Nat) : State :=
  let s := allLines.foldl (fun s l => s.dropLine (t * 256 + l)) s
  let ks := ((s.kept.map.filter (fun p => p.1 / 17 == t)).map (fun p => s.blockOf p.2)).foldl setAdd []
  let s := ({ s with
    fetches := s.fetches.filter (fun f => f.tile != t)
    tlr := { s.tlr with queue := s.tlr.queue.filter (fun m => m.tile != t) } }).abandonMoves (fun m => m.tile == t)
  let s := if s.kept.map.any (fun p => p.1 / 17 == t) then s.setMap t (s.kept.map.filter (fun p => p.1 / 17 != t)) else s
  let s := { s with kept := { s.kept with
      mem := s.kept.mem.filter (fun c => c.1 / 65536 != t)
      poison := s.kept.poison.filter (fun l => l / 256 != t)
      freshTab := alDel s.kept.freshTab t
      records := alDel s.kept.records t
      tiles := alDel s.kept.tiles t
      homes := homesFor s.kept.homes (alDel s.kept.tiles t) (t / 1024) } }
  (ks.foldl State.reviewDrain s).reviewFull

/-! ### Promotions for writes (R62, R123, R129) -/

/-- The frame of a move towards DRAM: for a job of an extent the channels take turns (R130). -/
def State.frameFor (s : State) (m : Mig) : Option Nat :=
  match m.ext.bind (fun r => s.tlr.jobs.find? (fun j => j.region == r)) with
  | some j => s.chooseInTurn j.turn
  | none => s.chooseFrame

/-- The turn of an extent's job passes to the channel after that of a frame (R130). -/
def State.passTurn (s : State) (m : Mig) (f : Nat) : State :=
  match m.ext, frameAt s.pops f with
  | some r, some (c, _, _) => { s with tlr := { s.tlr with jobs := s.tlr.jobs.map (fun (j : ExtJob) => if j.region == r then { j with turn := some (c + 1) } else j) } }
  | _, _ => s

/-- A move takes a channel, if one of the 16 is idle and hosts are served (R154); a promotion into a new frame reserves it. Answers whether it started. -/
def State.beginMove (s : State) (m : Mig) : State × Bool :=
  if 16 ≤ s.tlr.running.length ∨ !s.serves then (s, false)
  else if m.toDram ∧ (m.within ∨ !(s.tile m.tile).inDram) then
    match (if m.within || !s.tlr.running.any (fun x => x.tile == m.tile && x.toDram) then s.frameFor m
      else (s.tlr.running.find? (fun x => x.tile == m.tile && x.toDram)).map (·.frame)) with
    | some f =>
      let s := (({ s with tlr := { s.tlr with running := s.tlr.running ++ [{ m with frame := f }] } }).takeFrame f).passTurn m f
      (s.noteDirty m.tile, true)
    | none => (s, false)
  else
    let s := { s with tlr := { s.tlr with running := s.tlr.running ++ [{ m with frame := (s.tile m.tile).frame }] } }
    (if m.toDram then s.noteDirty m.tile else s, true)

/-- A promotion that waits is raised to class 2 by a parked access (R62, R129). -/
def State.raisePromotion (s : State) (t : Nat) (unit : Option Nat) : State :=
  { s with tlr := { s.tlr with queue := s.tlr.queue.map (fun (q : Mig) =>
      if q.tile = t ∧ q.unit = unit ∧ q.toDram ∧ !q.within ∧ 2 < q.cls then { q with cls := 2 } else q) } }

/-- A promotion for a parked write (R62, R129): one that waits is raised to class 2, else it is queued; it starts at once where no other work of
class 1 or 2 waits and a channel is free. -/
def State.promote (s : State) (t : Nat) (unit : Option Nat) : State :=
  if s.tlr.running.any (fun m => m.tile = t ∧ m.unit = unit ∧ m.toDram) then s
  else if s.tlr.queue.any (fun q => q.tile = t ∧ q.unit = unit ∧ q.toDram ∧ !q.within) then s.raisePromotion t unit
  else
    let m : Mig := ⟨t, unit, 2, true, 0, 0, false, none, 0, false⟩
    let wait := { s with tlr := { s.tlr with queue := s.tlr.queue ++ [m] } }
    if s.cap < s.homed ∨ s.tlr.queue.any (fun q => decide (q.cls ≤ 2)) then wait
    else
      let (s, ok) := s.beginMove m
      if ok then s else wait

/-- The grant test for a DRAM home of a granule (R113, R123, R127, R157): a tile that has a DRAM home already is in the count; a home that needs a
home block where none is free is throttled, and a group is demoted for it. -/
def State.askHome (s : State) (t : Nat) : State × Grant :=
  let x := s.tile t
  if x.inDram then (s, .granted)
  else if !x.entered && !s.homeBlock t then (s.freeGroup, .throttled)
  else (s, s.grantHome s.save.room)

/-- A throttled request sets TLR_STATUS.throttle (R123). -/
def State.denied (s : State) (g : Grant) : State × Need :=
  match g with
  | .refused => (s, .refused)
  | _ => (s.setThrottle, .throttled)

/-- The lookup of one granule for a write. -/
def State.lookupWrite (s : State) (t : Nat) (unit : Option Nat) (u key : Nat) : State × Need :=
  let x := s.tile t
  match x.homeOf u with
  | .dram =>
    if s.holdsImage ∧ !x.changed then
      match s.grantHome s.save.room with
      | .granted => (s.noteDirty t, .ok)
      | g => s.denied g
    else (s, .ok)
  | .unhomed =>
    match s.askHome t with
    | (s, .granted) =>
      let (s, ok) := s.homeNew t unit key
      if ok then (((s.noteDirty t).markRecord t).reviewCap, .ok) else (s, .absent)
    | (s, g) => s.denied g
  | .nand =>
    if s.tlr.running.any (fun m => m.tile = t ∧ m.unit = unit ∧ m.toDram) then (s, .absent)
    else
      match s.askHome t with
      | (s, .granted) => ((s.promote t unit).reviewCap, .absent)
      | (s, g) => s.denied g

/-- The lookup of one granule for a read. -/
def State.lookupRead (s : State) (t : Nat) (unit : Option Nat) (u a n qp psn : Nat) : State × Need :=
  match (s.tile t).homeOf u with
  | .nand => if s.linesIn a n then (s, .ok) else ((s.startFetch t unit qp psn).raisePromotion t unit, .absent)
  | _ => (s, .ok)

/-- The part of an access that lies in one churn unit. -/
def clipUnit (a n u : Nat) : Nat × Nat :=
  let lo := Nat.max a (a / 65536 * 65536 + u * 4096)
  let hi := Nat.min (a + n) (a / 65536 * 65536 + (u + 1) * 4096)
  (lo, hi - lo)

/-- An access to a tile of an extent whose job runs raises that tile to the head of the job (R120). -/
def State.raiseJob (s : State) (t : Nat) : State :=
  { s with tlr := { s.tlr with jobs := s.tlr.jobs.map (fun (j : ExtJob) =>
      if j.left.contains t then { j with left := t :: j.left.erase t } else j) } }

/-- A tile whose copy has not come: not restored, or not copied from the twin (R62). -/
def State.awaited (s : State) (t : Nat) : Bool := !(s.tile t).present || (s.seam.blind && !s.lead)

/-- The lookup of one part, which lies in one tile: granule by granule. -/
def State.lookupPart (s : State) (write : Bool) (key qp psn a n : Nat) : State × Need :=
  let t := tileOf a
  let x := s.tile t
  if carveBase ≤ a ∨ n = 0 then (s, .ok)
  else if s.awaited t then (s, .absent)
  else
    (x.granules a n).foldl (fun (r : State × Need) g =>
      let u := g.getD (a % 65536 / 4096)
      let (b, k) := match g with
        | some u => clipUnit a n u
        | none => (a, n)
      let (s, d) := if write then r.1.lookupWrite t g u key else r.1.lookupRead t g u b k qp psn
      (s, r.2.join d)) ((s.raiseJob t).touch t, .ok)

/-- Step 10 of R51 for the parts of a message. -/
def State.lookup (s : State) (write : Bool) (key qp psn : Nat) (parts : List (Nat × Nat)) : State × Need :=
  parts.foldl (fun (r : State × Need) p =>
    let (s, d) := r.1.lookupPart write key qp psn p.1 p.2
    (s, r.2.join d)) (s, .ok)

end Sys2Proof.Machine
end

