-- ==== Sys2Proof/Machine/Spool.lean ====
section
/-! DEFINITION. Spool's cells (R30 to R34): owner tags, the allocator, the chains that packets and messages occupy (R30, R35), and the pause
frames that a port sends for want of cells (R85). -/

namespace Sys2Proof.Machine

/-- A cell's tag; an unlisted cell is free with generation 0. -/
def State.cell (s : State) (i : Nat) : Cell := alGetD s.spool.cells i ⟨255, 0, 0⟩

def State.setCell (s : State) (i : Nat) (c : Cell) : State := { s with spool := { s.spool with cells := alPut s.spool.cells i c } }

def State.usedCells (s : State) : Nat := (s.spool.cells.filter (fun c => c.2.owner ≠ 255)).length
def State.freeCells (s : State) : Nat := 262144 - s.usedCells
def State.ownerCells (s : State) (o : Nat) : Nat := (s.spool.cells.filter (fun c => c.2.owner = o)).length

/-- The reserve of an owner (R31). -/
def reserveOf (o : Nat) : Nat :=
  if o < 64 then 32 else if o < 72 then 1024 else if o = 72 then 2048 else if o = 73 then 1024 else if o = 74 then 256
  else if o = 75 then 512 else if o = 76 then 1024 else if o = 77 then 256 else 64

/-- The allocator grants a cell to an owner (R31). -/
def State.mayAllocate (s : State) (o : Nat) : Bool :=
  decide (0 < s.freeCells) && (decide (16384 ≤ s.freeCells) || decide (s.ownerCells o < reserveOf o))

/-- The first free cell at or after a number, searching past the cells in use. -/
def State.freeFrom (s : State) : Nat → Nat → Nat
  | 0, i => i % 262144
  | k + 1, i => if (s.cell (i % 262144)).owner = 255 then i % 262144 else s.freeFrom k (i + 1)

/-- The cell that is granted next. Which free cell it is is a free value (R31 names none). -/
def State.pickCell (s : State) : Nat := s.freeFrom s.spool.cells.length (Config.spoolStart s.free)

/-- Spool cells that a port holds, and those of one priority (R84, R85). -/
def State.portCells (s : State) (port : Nat) : Nat := (s.spool.cells.filter (fun c => c.2.owner = 64 + port)).length
def State.prioCells (s : State) (port prio : Nat) : Nat :=
  (s.spool.cells.filter (fun c => c.2.owner = 64 + port ∧ c.2.prio = prio)).length

/-- PFC is enabled for a priority of a port (R85). -/
def State.pfcOn (s : State) (port prio : Nat) : Bool := (s.fld (F.PORT_TP_CFG_pfc_en port)).testBit prio

/-- PFC_PAUSE_SEND (R85): the port's cells of a priority exceed its guaranteed 1,024. -/
def State.pauseCheck (s : State) (port prio : Nat) : State :=
  if s.pfcOn port prio ∧ 1024 < s.prioCells port prio then s.put (.pause port prio) else s

/-- A cell is allocated: its generation rises (R30). -/
def State.takeCell (s : State) (o prio : Nat) : State :=
  let i := s.pickCell
  let c := s.cell i
  let s := (s.tickFree).setCell i ⟨o, (c.gen + 1) % 65536, prio⟩
  if 64 ≤ o ∧ o < 72 then s.pauseCheck (o - 64) prio else s

/-- The owner is a unit of this part. -/
def State.ownerHere (s : State) (o : Nat) : Bool :=
  if o < 64 then decide (o < s.part.engines) else if o < 72 then decide (o - 64 < s.part.ports) else true

/-- Waiting requests are granted in arrival order where the allocator may grant them. -/
def State.grantCells (s : State) : Nat → State
  | 0 => s
  | k + 1 =>
    match s.spool.waiting.find? (fun w => s.mayAllocate w.1) with
    | none => s
    | some w => (({ s with spool := { s.spool with waiting := s.spool.waiting.erase w } }).takeCell w.1 w.2).grantCells k

/-- A cell becomes free; its generation stays in its tag. -/
def State.freeCell (s : State) (i : Nat) (gen : Nat) : State :=
  { s with spool := { s.spool with
      cells := if gen = 0 then alDel s.spool.cells i else alPut s.spool.cells i ⟨255, gen, 0⟩ } }

/-- A chain of `k` cells for an owner (R30): each is granted as R31 says, and none is taken where one of them is not granted. Answers the
cells with their generations. -/
def State.takeChain (s : State) (o prio : Nat) : Nat → Option (State × List (Nat × Nat))
  | 0 => some (s, [])
  | k + 1 =>
    if s.mayAllocate o then
      let i := s.pickCell
      match (s.takeCell o prio).takeChain o prio k with
      | some (s', l) => some (s', (i, ((s.cell i).gen + 1) % 65536) :: l)
      | none => none
    else none

/-- The cells of a chain become free where their tags still carry the generations of the chain (R32). -/
def releaseIn (cells : List (Nat × Cell)) (l : List (Nat × Nat)) : List (Nat × Cell) :=
  l.foldl (fun cs c =>
    match alGet cs c.1 with
    | some x => if x.owner ≠ 255 ∧ x.gen = c.2 then (if c.2 = 0 then alDel cs c.1 else alPut cs c.1 ⟨255, c.2, 0⟩) else cs
    | none => cs) cells

/-- The cells of a chain pass to an engine (R35). -/
def State.passChain (s : State) (e : Nat) (l : List (Nat × Nat)) : State :=
  l.foldl (fun s c => s.setCell c.1 { s.cell c.1 with owner := e }) s

/-- Spool cells that `n` bytes of payload occupy (R30). -/
def cellsFor (n : Nat) : Nat := Nat.max 1 (ceilDiv n 256)

/-- What holds the packet at hand is free again, and requests that wait are granted. The port has taken the cells for this packet, so no check of R32 fails. -/
def State.dropHand (s : State) : State :=
  ({ s with spool := { s.spool with inHand := [], cells := releaseIn s.spool.cells s.spool.inHand } }).grantCells s.spool.waiting.length

end Sys2Proof.Machine
end

