-- ==== Sys2Proof/Machine/Qp.lean ====
section
/-! DEFINITION. Queue pairs (03): binding to engines, receive entries and completions, the completion of messages (R74), NAKs
(R73), entry into ERROR (R71), and the fence of an engine (R87). -/

namespace Sys2Proof.Machine

/-! ### Contexts -/

def State.setQp (s : State) (n : Nat) (q : Qp) : State := { s with kept := { s.kept with qps := alPut s.kept.qps n q } }

def State.modQp (s : State) (n : Nat) (f : Qp → Qp) : State := { s with kept := { s.kept with qps := alMod s.kept.qps n f } }

/-- PSN arithmetic modulo 2^24: the PSN `k` after `p`, and how far `p` lies ahead of `e`. -/
def psnAdd (p k : Nat) : Nat := (p + k) % 2 ^ 24
def psnDist (e p : Nat) : Nat := (p + 2 ^ 24 - e % 2 ^ 24) % 2 ^ 24

/-- PSN `p` lies before `e`. -/
def psnBefore (p e : Nat) : Bool := decide (2 ^ 23 ≤ psnDist e p)

/-- The queue pair belongs to this unit (R169). -/
def State.hosts (s : State) (q : Qp) : Bool := q.host == s.bit F.SEAM_STATUS_unit

/-- The port of a logical port (R402). -/
def portOf (lport : Nat) : Nat := lport / 4

/-! ### Engines and bindings (R70, R133) -/

/-- Queue pairs bound to an engine. -/
def State.boundTo (s : State) (e : Nat) : Nat := (s.kept.qps.filter (fun p => p.2.engine = some e)).length

/-- An engine is eligible for a binding (R133). -/
def State.eligible (s : State) (e : Nat) : Bool :=
  decide (e < s.part.engines) && decide (s.fld (F.VE_STATUS_state e) = 0) && decide (s.boundTo e < 4096)

/-- The eligible engine with the fewest bound queue pairs, ties to the lowest number (R133). -/
def State.bindTarget (s : State) : Option Nat :=
  (least (((List.range s.part.engines).filter s.eligible).map (fun e => (s.boundTo e, e)))).map (·.2)

/-- The line rate of a logical port in units of 100 Mb/s (R83, R402). -/
def State.lineRate (s : State) (lport : Nat) : Rat := 4000 / 2 ^ Nat.min 2 (s.fld (F.PORT_TP_CFG_brk (portOf lport)))

/-- Binds a queue pair, which is not bound: its rate starts at the line rate (R83), and a rebinding after a fence is counted for the fenced engine (R88,
R91). -/
def State.bindTo (s : State) (n e : Nat) : State :=
  match s.qpAt n with
  | none => s
  | some q =>
    let s := s.setQp n { q with engine := some e, fencedBy := none, rate := if q.rate = 0 then s.lineRate q.lport else q.rate }
    match q.fencedBy with
    | some f => if q.engine.isNone then s.wrap (F.VE_LAST_REPLACE_qps f) else s
    | none => s

/-- Binds a queue pair of this unit under R133; VE_UNBOUND where no engine is eligible. -/
def State.bindQp (s : State) (n : Nat) : State :=
  match s.bindTarget with
  | some e => s.bindTo n e
  | none => s.raise Ev.VE_UNBOUND n

/-- Binds every unbound queue pair in RTR, RTS or ERROR, in index order, while an engine is eligible (R133). -/
def State.bindAll (s : State) : State :=
  s.kept.qps.foldl (fun s p =>
    match s.qpAt p.1 with
    | some q =>
      if q.engine.isNone ∧ s.hosts q ∧ (q.state = .rtr ∨ q.state = .rts ∨ q.state = .error) then
        match s.bindTarget with
        | some e => s.bindTo p.1 e
        | none => s
      else s
    | none => s) s

/-! ### The device's own writes into regions (R372) -/

/-- Writes data over the parts of a translation. -/
def State.storeParts (s : State) : List (Nat × Nat) → List Byte → State
  | [], _ => s
  | (a, n) :: l, data => (s.store a (data.take n)).storeParts l (data.drop n)

/-- A write of the device's own needs its DRAM homes like any write (R110, R123). Answers whether it was made: where a home is not at hand, nothing of it is. -/
def State.tryOwn (s : State) (w : OwnWrite) : State × Bool :=
  let (s, d) := s.lookup true w.key 0 0 w.parts
  if d = .ok then (s.storeParts w.parts w.data, true) else (s, false)

/-- A write of the device's own (R372, R97, R348): made at once, or once its homes are at hand (DESIGN CHOICE, log entry 13). -/
def State.ownStore (s : State) (w : OwnWrite) : State :=
  let (s, ok) := s.tryOwn w
  if ok then s else { s with kept := { s.kept with own := s.kept.own ++ [w] } }

/-- The device's own writes that wait are tried again, in the order they came. -/
def State.retryOwn (s : State) : State :=
  s.kept.own.foldl (fun s w => s.ownStore w) { s with kept := { s.kept with own := [] } }

/-- Reads data over the parts of a translation. -/
def State.loadParts (s : State) : List (Nat × Nat) → List Byte
  | [] => []
  | (a, n) :: l => s.bytes a n ++ s.loadParts l

/-- The key slot of a domain (R41, R267). -/
def State.domainKey (s : State) (pd : Nat) : Nat :=
  match alGet s.kept.domains pd with
  | some d => d.keySlot
  | none => 0

/-- Writes at an offset of a region by key, when the key names a VALID region of the domain that holds the bytes (R42, R372). -/
def State.regionWrite (s : State) (pd : Nat) (key : BitVec 32) (off : Nat) (data : List Byte) : State :=
  let i := keyIndex key
  let r := s.rgn i
  if r.state = .valid ∧ r.pd = pd ∧ keyTag key = r.epoch % 4096 ∧ !s.descPoisoned i ∧ off + data.length ≤ r.length then
    match s.translate r off data.length with
    | (s, .ok l) => s.ownStore ⟨s.domainKey r.pd, l, data⟩
    | (s, .error f) => s.logFault i f
  else s

/-! ### Receive entries and their completions (R71, R372) -/

/-- The receive entries of a queue pair's messages that are reserved and not consumed, in posting order. -/
def Qp.reserved (q : Qp) : List RecvEntry :=
  (q.msgs ++ q.past ++ q.cur.toList).filterMap (fun m =>
    match m.phase with
    | .receiving | .parked _ | .accepted => m.entry
    | _ => none)

/-- The completion of a receive entry, 32 bytes (R372). -/
def completionBytes (n : Nat) (e : RecvEntry) (count : Nat) (imm : BitVec 32) (syn status psn : Nat) (phase : Bool) : List Byte :=
  leBytes 8 e.wrId.toNat ++ leBytes 4 count ++ leBytes 4 imm.toNat ++ leBytes 2 n ++ leBytes 1 syn ++ leBytes 1 status ++
  leBytes 3 psn ++ leBytes 8 0 ++ leBytes 1 (if phase then 1 else 0)

/-- The completion ring that a queue pair's receive entries complete to, with the domain of its receive queue (R372). -/
def State.ringOf (s : State) (q : Qp) : Option (Nat × Ring) :=
  match q.srq with
  | some r => (alGet s.kept.srqs r).map (fun x => (x.pd, x.ring))
  | none => q.ring.map (fun r => (q.pd, r))

/-- Counts one completion written to that ring. -/
def State.ringStep (s : State) (n : Nat) (q : Qp) : State :=
  match q.srq with
  | some r =>
    { s with kept := { s.kept with srqs := alMod s.kept.srqs r (fun x => { x with ring := { x.ring with written := x.ring.written + 1 } }) } }
  | none => s.modQp n (fun q => { q with ring := q.ring.map (fun r => { r with written := r.written + 1 }) })

/-- Writes the completion of a receive entry into its ring (R372). -/
def State.completeRecv (s : State) (n : Nat) (e : RecvEntry) (count : Nat) (imm : BitVec 32) (syn status psn : Nat) : State :=
  match s.qpAt n with
  | none => s
  | some q =>
    match s.ringOf q with
    | none => s
    | some (pd, r) =>
      let size := 2 ^ r.def_.log2
      (s.regionWrite pd r.def_.key (r.def_.offset + r.written % size * 32)
        (completionBytes n e count imm syn status psn (decide (r.written / size % 2 = 0)))).ringStep n q

/-- Completes receive entries as FLUSHED in posting order (R69, R71). -/
def State.flushEntries (s : State) (n : Nat) (es : List RecvEntry) : State :=
  es.foldl (fun s e => s.completeRecv n e 0 0 0 1 0) s

/-- Puts an entry back at the front of its queue (R372). -/
def State.giveEntry (s : State) (n : Nat) (e : RecvEntry) : State :=
  match s.qpAt n with
  | none => s
  | some q =>
    match q.srq with
    | some r => { s with kept := { s.kept with srqs := alMod s.kept.srqs r (fun x => { x with entries := e :: x.entries }) } }
    | none => s.setQp n { q with recvs := e :: q.recvs }

/-- Takes the first entry of a queue pair's receive queue. -/
def State.takeEntry (s : State) (n : Nat) : State × Option RecvEntry :=
  match s.qpAt n with
  | none => (s, none)
  | some q =>
    match q.srq with
    | some r =>
      match alGet s.kept.srqs r with
      | some x =>
        match x.entries with
        | e :: l => ({ s with kept := { s.kept with srqs := alPut s.kept.srqs r { x with entries := l } } }, some e)
        | [] => (s, none)
      | none => (s, none)
    | none =>
      match q.recvs with
      | e :: l => (s.setQp n { q with recvs := l }, some e)
      | [] => (s, none)

/-! ### Fetch holds (R36) and parks (R62) -/

/-- A line of the near cache is no longer held. -/
def State.unhold (s : State) (line : Nat) : State :=
  let i := setOf line
  let c := s.cset i
  let s := { s with nc := { s.nc with side := s.nc.side.map (fun e => if e.1 = line then (line, false) else e) } }
  match c.wayOf line with
  | some (w, l) => s.setCset i { c with ways := alPut c.ways w { l with held := false } }
  | none => s

/-- The lines of a tile's codeword (16 lines of 4 KiB). -/
def codewordLines (tile cw : Nat) : List Nat := (List.range 16).map (fun i => tile * 256 + cw * 16 + i)

/-- The codewords that a fetch brings: 16 of a tile, one of a unit. -/
def Fetch.size (f : Fetch) : Nat := if f.unit.isSome then 1 else 16

/-- A hold ends: its lines become ordinary CLEAN lines (R36). Codewords still to come follow and are not held. -/
def State.endHold (s : State) (f : Fetch) : State :=
  let s := f.entered.foldl (fun s cw => (codewordLines f.tile cw).foldl State.unhold s) s
  if f.size ≤ f.entered.length then { s with fetches := s.fetches.erase f }
  else { s with fetches := s.fetches.map (fun (x : Fetch) => if x = f then { x with spent := true, sharers := [] } else x) }

/-- Holds that no message counts toward end (R36). -/
def State.reviewHolds (s : State) : State :=
  s.fetches.foldl (fun s f => if f.since.isSome ∧ f.sharers.isEmpty ∧ !f.spent then s.endHold f else s) s

/-- A message no longer counts toward a hold. -/
def dropShare (hit : Nat × Nat → Bool) (l : List Fetch) : List Fetch :=
  l.map (fun (f : Fetch) => { f with sharers := f.sharers.filter (fun p => !hit p) })

/-- A message has been served or has ended: it no longer counts toward a hold (R36). -/
def State.endShare (s : State) (n psn : Nat) : State :=
  ({ s with parks := s.parks.filter (fun p => p != (n, psn)), fetches := dropShare (fun p => p == (n, psn)) s.fetches }).reviewHolds

/-- A message ends with an RNR NAK: it is not parked any more, and its re-send will be served from the lines that are held (R36). -/
def State.endPark (s : State) (n psn : Nat) : State := { s with parks := s.parks.filter (fun p => p != (n, psn)) }

/-- No message of a queue pair counts toward a hold any more (R36). -/
def State.endShares (s : State) (n : Nat) : State :=
  ({ s with parks := s.parks.filter (fun p => p.1 != n), fetches := dropShare (fun p => p.1 == n) s.fetches }).reviewHolds

/-! ### What a message is, and how it ends -/

def Msg.isWrite (m : Msg) : Bool :=
  match m.verb with
  | .write | .writeImm | .send => true
  | _ => false

def Msg.isAtomic (m : Msg) : Bool :=
  match m.verb with
  | .compareSwap | .fetchAdd | .atomicWrite => true
  | _ => false

def Msg.committed (m : Msg) : Bool :=
  match m.phase with
  | .committed | .sent => true
  | _ => false

/-- The cells of messages that are dropped. -/
def chainsOf (l : List Msg) : List (Nat × Nat) := l.flatMap (·.cells)

/-- A queue pair no longer awaits its replacement after a fence; `sent` says that its SEQ_REPLACE NAK has left, which VE_LAST_REPLACE times
(R91). The last one of the engine raises VE_REPLACED (R88). -/
def State.endReplace (s : State) (n : Nat) (sent : Bool) : State :=
  match s.qpAt n with
  | none => s
  | some q =>
    let s := s.setQp n { q with replace := none, lostBy := none }
    match q.lostBy with
    | none => s
    | some e =>
      let t := alGetD s.fencedAt e s.mrt
      let s := if sent then s.setFld (F.VE_LAST_REPLACE_time_us e) ((s.mrt - t) / 1000) else s
      if s.kept.qps.any (fun p => p.2.lostBy == some e) then s else s.raise Ev.VE_REPLACED e

/-- Counts an abandoned message (R60). -/
def State.countAbandon (s : State) (i : Nat) : State := (s.wrap F.RGN_DRAIN_ABANDON_count).raise Ev.RGN_DRAIN_ABANDON (i % 65536)

/-! ### The fence of an engine (R87, R88) -/

/-- The Weft channels whose sender is an engine (R384). -/
def engineChannel (e : Nat) (c : BitVec 16) : Bool :=
  decide (c.toNat / 16 * 4096 / 0x10000 = (0x400000 + e * 0x10000) / 0x10000)

/-- The lowest PSN whose message has not completed and is no committed write or atomic (R87). -/
def Qp.replacePoint (q : Qp) : Nat :=
  match (q.msgs ++ q.cur.toList).find? (fun m => !m.dup && !(m.committed && (m.isWrite || m.isAtomic))) with
  | some m => m.psn
  | none => q.epsn

/-- The PSN after the committed messages that stand one behind the other from a PSN on (R87). -/
def skipPast (past : List Msg) : Nat → Nat → Nat
  | 0, e => e
  | k + 1, e =>
    match past.find? (fun m => m.psn == e && m.committed) with
    | some m => skipPast past k (psnAdd m.last 1)
    | none => e

/-- A queue pair loses its engine (R87): what it has neither committed nor forwarded is dropped, committed messages below the replacement point go on, and
those at or above it, with forwards that have not returned, are recorded, so that their re-sends are duplicates. The packets at the port are discarded; the
engine's cells are reclaimed (R34). -/
def State.unbindLost (s : State) (n : Nat) (by_ : Option Nat) : State :=
  let s := s.endReplace n false
  match s.qpAt n with
  | none => s
  | some q =>
    let at_ := q.replacePoint
    let gone := (q.msgs ++ q.cur.toList).filter (fun m => !m.committed && !m.fwd)
    let s := (gone.filterMap (·.region)).foldl (fun s i => if (s.rgn i).state = .closing then s.countAbandon i else s) s
    let s := gone.foldl (fun s m => s.endShare n m.psn) s
    let keep := (q.msgs.filter (fun m => (m.committed || m.fwd) && (m.isWrite || m.isAtomic))).map (fun m => { m with cells := [] })
    let s := s.modQp n (fun q => { q with
      engine := none, moveTo := none, cur := none, nak := none, naked := false, rnrAt := none, epsn := at_
      msgs := keep.filter (fun m => psnBefore m.psn at_)
      past := q.past ++ keep.filter (fun m => !psnBefore m.psn at_)
      replace := if qpLive q.state then some at_ else none
      lostBy := if qpLive q.state then by_ else none, fencedBy := by_ })
    let s := (gone.filterMap (·.entry)).foldr (fun e s => s.giveEntry n e) s
    { s with ports := { s.ports with tx := s.ports.tx.filter (fun t => t.qp != n) } }

/-- The queue pairs bound to an engine, in index order. -/
def State.qpsOf (s : State) (e : Nat) : List Nat := (s.kept.qps.filter (fun p => p.2.engine = some e)).map (·.1)

/-- An engine is fenced (R87): isolated, its channels closed, its queue pairs unbound and rebound, its cells reclaimed. A fence that
finds it FENCED has no further effect; one that finds it TESTING ends the self-test. One that finds it TESTING or READY, when it has no queue pairs, raises no
VE_FENCED and leaves VE_LAST_REPLACE as it was (DESIGN CHOICE, log entry 150). -/
def State.fence (s : State) (e cause : Nat) : State :=
  let st := s.fld (F.VE_STATUS_state e)
  if s.part.engines ≤ e ∨ st = 1 then s
  else
    let s := (s.setFld (F.VE_STATUS_state e) 1).setFld (F.VE_STATUS_fence_cause e) cause
    let s := match alGet s.tests e with
      | some h => ({ s with tests := alDel s.tests e }).complete h .ok
      | none => s
    let s := { s with spool := { s.spool with reclaims := setAdd s.spool.reclaims e }, weft := s.weft.filter (fun h => !engineChannel e h.channel) }
    if st != 0 then s
    else
      let qs := s.qpsOf e
      let s := { s with fencedAt := alPut s.fencedAt e s.mrt }
      let s := s.setReg (0x400020 + e * 0x10000) 0
      let s := qs.foldl (fun s n => s.unbindLost n (some e)) s
      let s := s.raise Ev.VE_FENCED e
      let s := qs.foldl (fun s n => s.bindQp n) s
      if s.kept.qps.any (fun p => p.2.lostBy == some e) then s else s.raise Ev.VE_REPLACED e

/-! ### Frees (R32, R33) -/

/-- A bad free is recorded in SPOOL_BADFREE and raised; the third of one engine within 1 s fences it (R32, R33). Two that lie exactly 1 s
apart are not within one interval (DESIGN CHOICE, log entry 101). -/
def State.badFree (s : State) (dbl : Bool) (i issuer : Nat) (c : Cell) : State :=
  let s :=
    if s.bit F.SPOOL_BADFREE_CELL_valid then s
    else
      let s := ((s.setBit F.SPOOL_BADFREE_CELL_valid true).setBit F.SPOOL_BADFREE_CELL_kind dbl).setFld F.SPOOL_BADFREE_CELL_cell i
      ((s.setFld F.SPOOL_BADFREE_OWNER_issuer issuer).setFld F.SPOOL_BADFREE_OWNER_tag_owner c.owner).setFld F.SPOOL_BADFREE_OWNER_tag_gen c.gen
  let s := s.raise (if dbl then Ev.SPOOL_DOUBLE_FREE else Ev.SPOOL_FOREIGN_FREE) issuer
  if 64 ≤ issuer then s
  else
    let l := s.spool.badFrees.filter (fun b => decide (s.mrt < b.2 + 1000000000)) ++ [(issuer, s.mrt)]
    let s := { s with spool := { s.spool with badFrees := l } }
    if 3 ≤ (l.filter (fun b => b.1 = issuer)).length then s.fence issuer 3 else s

/-- A free of one cell by an owner that holds it at a generation, in the order of R32. -/
def State.freeAs (s : State) (issuer : Nat) (c : Nat × Nat) : State :=
  let t := s.cell c.1
  if t.owner = 255 ∨ c.2 ≠ t.gen then s.badFree true c.1 issuer t
  else if issuer ≠ t.owner then s.badFree false c.1 issuer t
  else s.freeCell c.1 t.gen

/-- An engine frees a chain, every free of it checked, and requests that wait are granted (R31, R32). -/
def State.freeChain (s : State) (issuer : Nat) (l : List (Nat × Nat)) : State :=
  if l.isEmpty then s else (l.foldl (State.freeAs · issuer) s).grantCells s.spool.waiting.length

/-- The owner identifier of the engine that a queue pair is bound to (R30). -/
def Qp.owner (q : Qp) : Nat := q.engine.getD 0

/-! ### Packets that leave (R83, R85, R180) -/

/-- The index of a MACsec association (R272): logical port, secure channel (0 transmit), association number. -/
def assocIndex (lport sc an : Nat) : Nat := lport * 2048 + sc * 128 + an * 32

/-- The transmit association in use: the lowest association number installed that has packet numbers left (R86, R270). -/
def State.txAssoc (s : State) (lport : Nat) : Option (Nat × Assoc) :=
  (List.range 4).findSome? (fun an =>
    match alGet s.kept.assocs (assocIndex lport 0 an) with
    | some a => if a.pn < 2 ^ 64 - 1 then some (assocIndex lport 0 an, a) else none
    | none => none)

/-- The MACsec policy of a logical port (R86). -/
def State.msecPolicy (s : State) (lport : Nat) : Nat := Nat.min 2 (s.fld (F.PORT_MSEC_CFG_policy (portOf lport)))

/-- The EtherType is one that the port's bypass policy leaves in the clear (R86). -/
def State.bypasses (s : State) (port ety : Nat) : Bool :=
  ety != 0 && (ety == s.fld (F.PORT_MSEC_BYPASS_etype0 port) || ety == s.fld (F.PORT_MSEC_BYPASS_etype1 port))

/-- A frame of an EtherType leaves a logical port without a SecTAG (R86). -/
def State.inClear (s : State) (lport ety : Nat) : Bool :=
  s.msecPolicy lport == 0 || (s.msecPolicy lport == 1 && s.bypasses (portOf lport) ety)

/-- A logical port may send at a priority: its link is up, the priority is not paused, and a protected frame has an association (R85, R86). -/
def State.mayTransmit (s : State) (lport prio ety : Nat) : Bool :=
  s.ports.up.contains lport && !(s.pfcOn (portOf lport) prio && s.ports.paused.any (fun p => p.1 = portOf lport * 8 + prio)) &&
  (s.inClear lport ety || (s.txAssoc lport).isSome)

/-- A protected frame takes the next packet number of its association, and PORT_MSEC_PN_HIGH tells that few are left (R86, R270). Answers the
association and the packet number. -/
def State.protect (s : State) (lport ety : Nat) : State × Option (Nat × Nat) :=
  if s.inClear lport ety then (s, none)
  else
    match s.txAssoc lport with
    | none => (s, none)
    | some (i, a) =>
      let s := { s with kept := { s.kept with assocs := alPut s.kept.assocs i { a with pn := a.pn + 1 } } }
      (if a.pn + 1 = 0xC000000000000000 then s.raise (514 + 16 * portOf lport) lport else s, some (i, a.pn))

/-- The EtherType of a packet to an address: IPv4 or IPv6 (R67). -/
def addrEther (a : Nat) : Nat := if a < 2 ^ 32 then 0x0800 else 0x86DD

/-- The EtherType of a packet of a queue pair. -/
def Qp.ether (q : Qp) (w : Wire) : Nat :=
  match w with
  | .hint g _ _ _ => addrEther g
  | .cnp a _ => addrEther a
  | _ => addrEther ((q.remote.map (·.1)).getD 0)

/-- The payload of a packet, which the queue pair's rate paces; a packet without payload takes no time of it (DESIGN CHOICE, log entry 103). -/
def Wire.payload : Wire → Nat
  | .readResp _ d => d.length
  | .write _ _ ps _ => ps.foldl (fun n p => n + p.2.length) 0
  | .hint _ _ _ d => d.length
  | _ => 0

/-- The time that `n` bytes take at a rate in units of 100 Mb/s, in ns (R83). -/
def paceNs (rate : Rat) (n : Nat) : Nat := ceilDiv (80 * n * rate.den) rate.num.toNat

/-- A packet of a queue pair leaves its port, marked ECT(0) where its cc_class is 1 (R84); the rate says when the next may follow (R83). -/
def State.emit (s : State) (n : Nat) (q : Qp) (w : Wire) : State :=
  let (s, sec) := s.protect q.lport (q.ether w)
  let s := if w.payload = 0 then s else s.modQp n (fun q => { q with nextAt := s.mrt + paceNs q.rate w.payload })
  s.put (.packet q.lport n (q.ccClass == 1) sec w)

/-- The PSN of a response. -/
def Wire.answers : Wire → Option Nat
  | .ack p | .nak p _ _ | .readResp p _ | .atomicAck p _ | .flushResp p => some p
  | _ => none

/-- A response leaves before another of a later PSN (R78). -/
def Wire.precedes (w x : Wire) : Bool :=
  match w.answers, x.answers with
  | some p, some r => psnBefore p r
  | _, _ => false

/-- A packet joins the transmit queue of its port: behind what its queue pair has queued, but before the responses of later PSNs (R78). -/
def joinTx (l : List Tx) (t : Tx) : List Tx :=
  let before := fun (x : Tx) => !(x.qp == t.qp && t.wire.precedes x.wire)
  l.takeWhile before ++ t :: l.dropWhile before

/-- A packet of a queue pair may leave at once: its port may send, its rate lets it, and none of its packets waits that goes before it, for responses leave
in PSN order (R78, R83). -/
def State.clearWay (s : State) (n : Nat) (q : Qp) (w : Wire) : Bool :=
  s.mayTransmit q.lport q.prio (q.ether w) && decide (q.nextAt ≤ s.mrt) && !(s.ports.tx.any (fun t => t.qp == n && !w.precedes t.wire))

/-- A packet leaves, or waits in its port's transmit queue. -/
def State.sendPkt (s : State) (n : Nat) (w : Wire) : State :=
  match s.qpAt n with
  | none => s
  | some q =>
    if s.clearWay n q w then s.emit n q w
    else { s with ports := { s.ports with tx := joinTx s.ports.tx ⟨q.lport, q.prio, n, s.mrt, w, false⟩ } }

/-- A packet joins the transmit queue of its port, where the queue pair's rate paces it (R83). -/
def State.queuePkt (s : State) (n : Nat) (w : Wire) (last : Bool) : State :=
  match s.qpAt n with
  | none => s
  | some q => { s with ports := { s.ports with tx := joinTx s.ports.tx ⟨q.lport, q.prio, n, s.mrt, w, last⟩ } }

/-! ### Completion of messages (R74) -/

/-- LIVE subscribers of a channel. -/
def State.liveSubs (s : State) (c : Nat) : List Nat :=
  (s.kept.subs.filter (fun p => p.1 / 1024 = c ∧ p.2.state = .live)).map (fun p => p.1 % 1024)

/-- A publish has its quorum (R96). One whose entry has been trimmed from the log waits for nothing more (DESIGN CHOICE, log entry 151). -/
def State.quorum (s : State) (c q : Nat) : Bool :=
  match alGet s.kept.chans c with
  | none => true
  | some ch =>
    match ch.log.find? (fun e => e.seq = q) with
    | some e => decide (Nat.min ch.args.quorum (s.liveSubs c).length ≤ e.held.length)
    | none => true

/-- A channel asks for no subscriber: its quorum, or its number of LIVE subscribers, is zero (R96). A forwarded publish that FOLLOW has not applied yet is held
by none. -/
def State.noQuorum (s : State) (c : Nat) : Bool :=
  match alGet s.kept.chans c with
  | none => true
  | some ch => decide (Nat.min ch.args.quorum (s.liveSubs c).length = 0)

/-- The first message of a queue pair completes (R74, R79). -/
def State.msgDone (s : State) (m : Msg) : Bool :=
  match m.verb with
  | .read => m.phase == .sent
  | .flush => m.phase == .accepted
  | _ => (m.phase == .committed || m.fwd) && m.atPoint &&
    (match m.pub with
     | some (c, q) => if m.committed then s.quorum c q else s.noQuorum c
     | none => true)

/-- Records the syndrome of a response (R73). -/
def Qp.answered (q : Qp) (syn psn : Nat) : Qp := { q with syndrome := syn, synPsn := psn }

/-- The completed write is acknowledged by a response that acknowledges every message up to a PSN. -/
def ackedBy (psn : Nat) (u : Nat × Nat) : Bool := !psnBefore psn u.1

/-- A response with an AETH acknowledges every message up to a PSN: they no longer count as without an ACK (R74), and the monitors sample the
writes' latency (R359). -/
def State.pay (s : State) (n syn psn upTo : Nat) : State :=
  match s.qpAt n with
  | none => s
  | some q =>
    (q.unacked.filter (ackedBy upTo)).foldl (fun s u => s.sample 2 (some q.lport) (s.mrt - u.2))
      (s.setQp n ({ q with unacked := q.unacked.filter (fun u => !ackedBy upTo u) }.answered syn psn))

/-- The response of a message that has completed (R74). -/
def State.respond (s : State) (n : Nat) (m : Msg) : State :=
  match s.qpAt n with
  | none => s
  | some q =>
    if !q.rc || !qpLive q.state then s
    else
      match m.verb with
      | .read => s.pay n 0 m.last m.last
      | .compareSwap | .fetchAdd | .atomicWrite => (s.pay n 0 m.last m.last).sendPkt n (.atomicAck m.psn (m.result.getD 0))
      | .flush => (s.pay n 0 m.last m.last).sendPkt n (.flushResp m.psn)
      | .write | .writeImm | .send =>
        let s := s.setQp n { q with unacked := q.unacked ++ [(m.last, m.arrived)] }
        if m.ackReq then (s.pay n 0 m.last m.last).sendPkt n (.ack m.last) else s

/-- A queue pair is quiescent (R90): committed messages that a fence left are at their acknowledgement points, and no NAK is due. -/
def State.quiescent (s : State) (n : Nat) (q : Qp) : Bool :=
  q.cur.isNone && q.msgs.isEmpty && q.reqs.isEmpty && !(s.ports.tx.any (fun t => t.qp = n)) && q.past.all (·.atPoint) && q.replace.isNone &&
  q.nak.isNone

/-- A queue pair under give-back goes to its former host at a quiescent point; packets that arrive here are forwarded for 1 s
(R194). -/
def State.tryGive (s : State) (n : Nat) : State :=
  match s.qpAt n with
  | none => s
  | some q =>
    if q.giving ∧ s.quiescent n q ∧ q.past.isEmpty then
      (s.setQp n { q with giving := false, host := !q.host, engine := none, moveTo := none, fwdUntil := some (s.mrt + 1000000000) }).seamSend
        (.ctx (.host ⟨n % 65536, by omega⟩ (!q.host))) |>.bindAll
    else s

/-- The first message of a queue pair, which has completed, leaves its context: the engine counts it, its receive entry completes, its
response leaves, its Spool cells are free, and the twin's copy of the context follows (R35, R74, R91, R169, R372). -/
def State.finish (s : State) (n : Nat) (m : Msg) : State :=
  let s := s.modQp n (fun q => { q with msgs := q.msgs.drop 1, doneTo := if m.dup then q.doneTo else psnAdd m.last 1 })
  let s := match (s.qpAt n).bind (·.engine) with
    | some e => s.wrap (F.VE_MSG_CNT_messages e)
    | none => s
  let s := { s with tlr := { s.tlr with qpLoad := alPut s.tlr.qpLoad n (alGetD s.tlr.qpLoad n 0 + 1) } }
  let s := match m.entry with
    | some e => s.completeRecv n e m.len m.imm 0 0 (m.wirePsn.getD m.psn)
    | none => s
  let s := ((s.endShare n m.psn).respond n m).freeChain (((s.qpAt n).map Qp.owner).getD 0) m.cells
  let s := if s.mirrored && !m.dup then s.seamSend (.ctx (.qpEpsn ⟨n % 65536, by omega⟩ (psnAdd m.last 1))) else s
  s.tryGive n

/-- The gates' check of an acknowledgement against the mirror (R181): on LEAD its commit has a MACK, on FOLLOW its MIRROR frame has been
applied; or its acknowledgement point is local, or the unit holds the witness. -/
def State.ackPasses (s : State) (n : Nat) (m : Msg) : Bool :=
  !s.mirrored || m.local_ || s.bit F.SEAM_WIT_STAT_held ||
  (if s.lead then s.seam.commits.all (fun c => c.qp != n || c.psn != m.psn || c.acked)
   else !m.fwd || m.committed || !m.awaits.isEmpty)

/-- Completes the messages of a queue pair from its first on, while they are done and the gates are open and let the acknowledgement pass (R74, R180, R181). -/
def State.sweepN : Nat → State → Nat → State
  | 0, s, _ => s
  | k + 1, s, n =>
    match s.qpAt n with
    | none => s
    | some q =>
      match q.msgs with
      | [] => s
      | m :: _ =>
        let stop := match q.nak with
          | some (p, _, _) => !psnBefore m.psn p
          | none => false
        if s.msgDone m && s.gates && s.ackPasses n m && !stop then (s.finish n m).sweepN k n else s

def State.sweep (s : State) (n : Nat) : State :=
  match s.qpAt n with
  | some q => s.sweepN q.msgs.length n
  | none => s

/-- Completes what can complete on every queue pair: the gates have opened, or a commit has reached its point. -/
def State.sweepAll (s : State) : State := s.kept.qps.foldl (fun s p => s.sweep p.1) s

/-- The queue pairs with a publish to a channel complete what a change of its subscribers lets complete (R96). -/
def State.sweepChan (s : State) (c : Nat) : State :=
  ((s.kept.qps.filter (fun p => p.2.msgs.any (fun m => m.pub.any (fun x => x.1 == c)))).map (·.1)).foldl State.sweep s

/-- An ACK of all that has completed (R74). -/
def State.ackNow (s : State) (n : Nat) : State :=
  match s.qpAt n with
  | none => s
  | some q =>
    let p := psnAdd q.doneTo (2 ^ 24 - 1)
    (s.pay n 0 p p).sendPkt n (.ack p)

/-! ### Entry into ERROR (R69, R71) -/

/-- Subscribers whose queue pair has failed stop (R101). -/
def State.stopSubs (s : State) (n : Nat) : State :=
  let hit := s.kept.subs.filter (fun p => p.2.qp = n ∧ p.2.state = .live)
  let s := hit.foldl (fun s p =>
    let s := { s with kept := { s.kept with subs := alPut s.kept.subs p.1 { p.2 with state := .stopped } } }
    let s := if s.mirrored && s.bit F.SEAM_STATUS_lead then s.seamSend (.ctx (.subStopped (p.1 / 1024) (p.1 % 1024))) else s
    s.raise Ev.PUB_SUB_STOPPED) s
  hit.foldl (fun s p => s.sweepChan (p.1 / 1024)) s

/-- Drops what a queue pair has not committed, and READs that have been; its parks and shares end, and its cells are free. -/
def State.dropUncommitted (s : State) (n : Nat) : State :=
  match s.qpAt n with
  | none => s
  | some q =>
    let stays := fun (m : Msg) => m.committed && m.verb != .read
    let gone := (q.msgs ++ q.cur.toList ++ q.past).filter (fun m => !stays m)
    let s := s.setQp n { q with msgs := q.msgs.filter stays ++ q.past.filter stays, past := [], cur := none }
    (s.endShares n).freeChain q.owner (chainsOf gone)

/-- A queue pair leaves INIT, RTR or RTS: its receive entries complete as FLUSHED, and nothing of it is left in the port's transmit queue (R69,
R71). -/
def State.flushQp (s : State) (n : Nat) : State :=
  match s.qpAt n with
  | none => s
  | some q =>
    let es := q.reserved ++ (if q.srq.isSome then [] else q.recvs)
    let s := s.dropUncommitted n
    let s := s.modQp n (fun q => { q with recvs := [], reqs := [], tries := 0, rnrTries := 0 })
    let s := { s with ports := { s.ports with tx := s.ports.tx.filter (fun t => t.qp != n) }, mqpOut := if n = 0 then [] else s.mqpOut }
    s.flushEntries n es

/-- A queue pair enters ERROR (R71): what it has not committed is discarded, its receive entries and its outstanding work requests are FLUSHED, and the
syndrome and PSN are recorded. For a modify command and for exhausted retries the spec gives no code, and 0x00 is recorded with epsn or with the oldest request's
PSN (DESIGN CHOICE, log entry 102). -/
def State.enterError (s : State) (n syn psn : Nat) : State :=
  match s.qpAt n with
  | none => s
  | some q =>
    let s := ((s.flushQp n).endReplace n false).modQp n (fun x =>
      ({ x with state := .error, nak := none, naked := false, rnrAt := none, flushed := q.reqs.map (fun (r : Req) => r.psn) }).answered syn psn)
    ((s.stopSubs n).raise Ev.VE_QP_ERROR n).sweep n

/-! ### NAKs (R73, R74, R80) -/

/-- The AETH syndrome of a device syndrome; `writes` chooses the RNR timer code, which is write_code for a message that writes and for a missing receive entry, and read_code for
a READ or atomic (R73). -/
def State.aeth (s : State) (syn : Nat) (writes : Bool) : Nat :=
  if syn < 0x10 then 0x60
  else if syn < 0x20 then 0x61
  else if syn < 0x30 then 0x62
  else if syn < 0x40 then 0x63
  else 0x20 + (if writes ∨ syn = 0x43 then s.fld F.RGN_RNR_CFG_write_code else s.fld F.RGN_RNR_CFG_read_code)

/-- Messages of a queue pair are discarded: their cells are free, their receive entries return to the front of their queue (R63, R372), and they no longer
count toward a hold, but for one that an RNR NAK will bring back (`kept`; R36). -/
def State.discard (s : State) (n : Nat) (gone : List Msg) (kept : Option Nat) : State :=
  let s := gone.foldl (fun s m => if kept = some m.psn then s.endPark n m.psn else s.endShare n m.psn) s
  ((gone.filterMap (·.entry)).foldr (fun e s => s.giveEntry n e) s).freeChain (((s.qpAt n).map Qp.owner).getD 0) (chainsOf gone)

/-- Discards the messages of a queue pair from a PSN on, which have not committed. -/
def State.discardFrom (s : State) (n psn : Nat) (kept : Option Nat := none) : State :=
  match s.qpAt n with
  | none => s
  | some q =>
    let gone := (q.msgs ++ q.cur.toList).filter (fun m => !m.committed && !psnBefore m.psn psn)
    let s := s.setQp n { q with
      msgs := q.msgs.filter (fun m => m.committed || psnBefore m.psn psn)
      cur := q.cur.filter (fun m => psnBefore m.psn psn) }
    s.discard n gone kept

/-- A UD message is dropped without response. -/
def State.dropOne (s : State) (n psn : Nat) : State :=
  match s.qpAt n with
  | none => s
  | some q => (s.setQp n { q with msgs := q.msgs.filter (fun (m : Msg) => m.psn != psn) }).discard n (q.msgs.filter (fun (m : Msg) => m.psn == psn)) none

/-- An RNR NAK of a re-executed READ discards it and what came after it; epsn steps back to the first new message among them, and later packets are
dropped until the duplicate comes again (R63; DEDUCED, log entry 104). -/
def State.discardDup (s : State) (n psn : Nat) : State :=
  match s.qpAt n with
  | none => s
  | some q =>
    let tail := q.msgs.dropWhile (fun m => !(m.dup && m.psn == psn))
    let gone := tail.filter (fun m => !m.committed) ++ q.cur.toList
    let s := s.setQp n { q with
      msgs := q.msgs.takeWhile (fun m => !(m.dup && m.psn == psn)) ++ tail.filter (·.committed), cur := none, rnrAt := some psn
      epsn := ((gone.find? (fun m => !m.dup)).map (·.psn)).getD q.epsn }
    s.discard n gone (some psn)

/-- Decides a NAK. One of ERROR class keeps what follows from committing until it leaves (R80); an RNR NAK discards the message and all
later ones and steps back to its PSN (R63). A NAK at a lower PSN takes the place of one that waits. -/
def State.decideNak (s : State) (n psn syn : Nat) (writes : Bool) : State :=
  match s.qpAt n with
  | none => s
  | some q =>
    let keep := match q.nak with
      | some (p, _, _) => psnBefore p psn
      | none => false
    if keep then s
    else
      let s := s.setQp n { q with nak := some (psn, syn, s.aeth syn writes) }
      if 0x40 ≤ syn then
        if q.msgs.any (fun m => m.dup && m.psn == psn) then s.discardDup n psn
        else (s.discardFrom n psn (some psn)).modQp n (fun q => { q with epsn := psn, naked := true })
      else s

/-- Counts a NAK sent by an engine (R91). -/
def State.countNak (s : State) (e syn : Nat) : State :=
  if syn < 0x10 then s.wrap (F.VE_NAK_CNT0_seq e)
  else if 0x40 ≤ syn then s.wrap (F.VE_NAK_CNT0_rnr e)
  else if 0x20 ≤ syn ∧ syn < 0x30 then s.wrap (F.VE_NAK_CNT1_access e)
  else s.wrap (F.VE_NAK_CNT1_other e)

/-- A decided NAK leaves once every message below it has completed, the gates are open and its port can send it; then the queue pair enters ERROR
where its class requires it (R73, R74, R80). It acknowledges every message below its PSN. -/
def State.tryNak (s : State) (n : Nat) : State :=
  match s.qpAt n with
  | none => s
  | some q =>
    match q.nak, q.engine with
    | some (psn, syn, aeth), some e =>
      let w := Wire.nak psn syn aeth
      if s.gates && qpLive q.state && s.clearWay n q w && q.msgs.all (fun m => m.dup || !psnBefore m.psn psn) then
        let s := (((s.setQp n { q with nak := none }).pay n syn psn (psnAdd psn (2 ^ 24 - 1))).sendPkt n w).countNak e syn
        if 0x10 ≤ syn ∧ syn < 0x40 then s.enterError n syn psn else s
      else s
    | _, _ => s

/-! ### Drains (R56, R60) -/

/-- The messages admitted to a region and neither applied nor abandoned. -/
def Qp.admitted (q : Qp) (i : Nat) : List Msg := (q.msgs ++ q.cur.toList ++ q.past).filter (fun m => !m.committed && m.region == some i)

def State.admitted (s : State) (i : Nat) : Nat := s.kept.qps.foldl (fun k p => k + (p.2.admitted i).length) 0

end Sys2Proof.Machine
end

