-- ==== Sys2Proof/Machine/Mirror.lean ====
section
/-! DEFINITION. The operations of the pair (07) that the data path shares: the witness (R183), the selvedge gates (R180), acknowledgement
points (R167), the mirror of a commit (R167, R191, R192), the divergence record (R189), and entry into SOLO with takeover
(R179, R186, R187). -/

namespace Sys2Proof.Machine

/-- The bit of a Seam link (R174). -/
def linkBit (l : Nat) : Fld := if l = 0 then F.SEAM_STATUS_link0_up else F.SEAM_STATUS_link1_up

/-- The unit holds the witness (R183). -/
def State.held (s : State) : Bool := s.bit F.SEAM_WIT_STAT_held

/-- The twin's state (R178): 0 UP, 1 SEAM_LOST, 2 LOST. -/
def State.twin (s : State) : Nat := s.fld F.SEAM_STATUS_twin
def State.twinUp (s : State) : Bool := s.twin == 0 && (s.seam.link0.up || s.seam.link1.up)

def State.epoch (s : State) : Nat := s.fld F.SEAM_CLAIM_epoch

/-- Failover-ready (R193). -/
def State.ready (s : State) : Bool :=
  s.mirrored && (s.lead || (s.mode == .paired && s.seam.copySet.isEmpty && s.kept.tiles.all (fun p => p.2.present)))

/-- The unit wants the witness (R183): for restore-serving only where no twin is UP. -/
def State.wants (s : State) : Bool :=
  s.mode == .solo || s.twin == 2 || (s.mirrored && s.lead && s.twin == 1) ||
  (s.lead && s.seam.commits.any (·.refused)) || (s.mode == .paired && s.lead && s.bit F.SEAM_WIT_CFG_hold_paired) ||
  s.seam.waited || (s.restoring && !s.twinUp)

/-- The unit may not drive WIT_REQ_N low (R183): FOLLOW that is not failover-ready, or that has received a YIELD. A YIELD received does not keep LEAD from it,
which R188 has act on it (DEDUCED, log entry 18). -/
def State.barred (s : State) : Bool := s.mirrored && !s.lead && (!s.ready || s.seam.yielded)

/-- The permission of the gates (R180). -/
def State.permitted (s : State) : Bool :=
  (s.twinUp && s.mirrored && (match s.seam.peer with | some p => p.epoch == s.epoch | none => false)) ||
  (s.held && decide (s.fld F.SEAM_TWIN_CLAIM_epoch < s.epoch) && s.serves)

/-- The witness and the gates follow from the state (R180, R183); gates that open let what waits leave. The witness held keeps WIT_REQ_N low; in PAIRED, once
cutover has released it, a witness still held does so no more (R183, R192). -/
def State.reviewPair (s : State) : State :=
  let tok := s.seam.token.isSome
  let held := s.held
  let req := s.bit F.SEAM_WIT_STAT_requesting
  let s := (s.setBit F.SEAM_WIT_STAT_token tok).setBit F.SEAM_WIT_STAT_held
    ((s.bit F.SEAM_WIT_STAT_pin && s.bit F.SEAM_WIT_CFG_pin_en) || tok)
  let s := s.setBit F.SEAM_WIT_STAT_requesting ((s.wants || (s.held && (s.mode != .paired || req || !held))) && !s.barred)
  let s := s.setBit F.SEAM_STATUS_ready s.ready
  let was := s.gates
  let s := s.setBit F.SEAM_STATUS_gates_open s.permitted
  if s.gates && !was then (s.sweepAll.pump 0).pump 1 else s

/-! ### Acknowledgement points (R74, R167) -/

/-- A log entry is at its channel's acknowledgement point (R95). -/
def State.entryPoint (s : State) (c q : Nat) : State :=
  { s with kept := { s.kept with
      chans := alMod s.kept.chans c (fun ch => { ch with
        log := ch.log.map (fun e => if e.seq = q then { e with atPoint := true } else e) }) } }

/-- A committed message is at its region's acknowledgement point. -/
def State.reachPoint (s : State) (n psn : Nat) (pub : Option (Nat × Nat)) : State :=
  let mark := fun m : Msg => if m.psn = psn ∧ m.committed then { m with atPoint := true } else m
  let s := s.modQp n (fun q => { q with msgs := q.msgs.map mark, past := q.past.map mark })
  let s := match pub with
    | some (c, q) => s.entryPoint c q
    | none => s
  s.sweep n

/-! ### The divergence record and the unmirrored marks (R189) -/

def State.markTiles (s : State) (ts : List Nat) : State :=
  let s := ts.foldl State.markRecord s
  { s with kept := { s.kept with marks := ts.foldl setAdd s.kept.marks } }

/-- Marks are cleared as MACKs arrive: those of tiles that no commit without a MACK names. -/
def State.clearMarks (s : State) (ts : List Nat) : State :=
  { s with kept := { s.kept with
      marks := s.kept.marks.filter (fun t => !(ts.contains t) || s.seam.commits.any (fun c => c.tiles.contains t)) } }

/-- The sync stamp a unit reports (R189, R190): the mirror_stamp of the image it was restored from, until it serves in SOLO or is paired again; else of its
open record; of its oldest commit without a MACK; else of its newest commit (DEDUCED, log entry 19). -/
def State.sync (s : State) : Nat :=
  match s.kept.imgSync, s.kept.record, s.seam.commits with
  | some x, _, _ => x
  | none, some r, _ => r.sync
  | none, none, c :: _ => c.stamp
  | none, none, [] => s.kept.newest

/-- LEAD opens its record as it enters SOLO (R189): the tiles of its commits without a MACK. One still open keeps its older stamp. -/
def State.openRecord (s : State) : State :=
  let old := s.kept.record.getD ⟨s.sync, []⟩
  { s with kept := { s.kept with
      record := some { old with tiles := s.kept.marks.foldl setAdd (s.seam.commits.foldl (fun l c => c.tiles.foldl setAdd l) old.tiles) } } }

/-- A unit that serves in SOLO reports the stamp of its record, no more that of its image. -/
def State.dropStamp (s : State) : State := { s with kept := { s.kept with imgSync := none } }

/-! ### Copies (R190, R191) -/

/-- The next number of LEAD's ordering sequencer. -/
def State.nextSeq (s : State) : State × Nat :=
  ({ s with seam := { s.seam with pairSeq := s.seam.pairSeq + 1 } }, s.seam.pairSeq + 1)

/-- LEAD sends a tile of the copy set: its frames, in ciphertext (R266), or a DISCARD where it holds the tile UNHOMED. -/
def State.sendCopy (s : State) (t : Nat) : State :=
  let s :=
    if (s.tile t).empty then
      let (s, q) := s.nextSeq
      s.seamSend (.discard q t)
    else
      forUp (fun i s =>
        let (s, q) := s.nextSeq
        s.seamSend (.copy q t i ((List.range 16).flatMap (fun l => s.stored (t * 256 + i * 16 + l))) (s.tile t).key)) 16 0 s
  { s with seam := { s.seam with
      copySet := setDel s.seam.copySet t
      inflight := s.seam.inflight.filter (fun p => p.1 != t) ++ [(t, s.seam.pairSeq)] } }

/-- A tile goes to the head of the copy set. -/
def State.copyFirst (s : State) (t : Nat) : State :=
  if s.seam.copySet.contains t then { s with seam := { s.seam with copySet := t :: setDel s.seam.copySet t } } else s

/-- A tile in flight is copied again from the start (R191). -/
def State.copyAgain (s : State) (t : Nat) : State :=
  if s.seam.inflight.any (fun p => p.1 = t) then
    { s with seam := { s.seam with
        inflight := s.seam.inflight.filter (fun p => p.1 != t), copySet := t :: setDel s.seam.copySet t } }
  else s

/-- The part of an operation that touches given tiles; the data of the others goes by a COPY (R191). -/
def opWithin (o : SeamOp) (ts : List Nat) : SeamOp :=
  match o with
  | .write ps => .write (ps.filter (fun p => ts.contains (tileOf p.1)))
  | .publish _ _ _ => o
  | .compareSwap a _ _ | .fetchAdd a _ | .atomicWrite a _ => if ts.contains (tileOf a) then o else .write []

/-! ### Where a log lies (R93, R97) -/

/-- Where `n` bytes from a position of a channel's log lie: the log is one circle, in which an entry may go over the end (DESIGN CHOICE, log entry 112). -/
def logParts (a : ChanArgs) (pos n : Nat) : List (Nat × Nat) :=
  let base := a.logTile * 65536
  let size := logBytes a
  let first := Nat.min n (size - pos % size)
  splitTiles (first / 65536 + 2) (base + pos % size) first ++ splitTiles (n / 65536 + 2) base (n - first)

/-- Where the payload of an entry lies in the log, behind the 32 bytes of its head (R97, R172). -/
def State.logPayload (s : State) (c q : Nat) : List (Nat × Nat) :=
  match alGet s.kept.chans c with
  | some ch =>
    match ch.log.find? (fun e => e.seq = q) with
    | some e => logParts ch.args (e.pos + 32) e.payload.length
    | none => []
  | none => []

/-! ### The mirror of a commit (R167, R191, R192) -/

/-- LEAD has committed a message: its tiles are marked, and in PAIRED and RESYNC its MIRROR or COPY frames leave. Answers whether the
commit is at the acknowledgement point already. A forwarded message always returns a MIRROR frame (`always`), and a publish always has one, for its entry
in the log's order (R95). A commit without a MIRROR frame takes no pair_seq. -/
def State.mirrorCommit (s : State) (m : SeamMsg) (tiles : List Nat) (isLocal : Bool) (pub : Option (Nat × Nat))
    (relaxed : Bool := false) (always : Bool := false) : State × Bool :=
  let s := ({ s with kept := { s.kept with newest := s.commit } }).markTiles tiles
  if !s.mirrored then (s, true)
  else
    let stamp := s.commit
    let away := tiles.filter (fun t => s.seam.copySet.contains t || s.seam.inflight.any (fun p => p.1 = t))
    let here := tiles.filter (fun t => !away.contains t)
    let s := away.foldl (fun s t =>
      if s.mode = .paired then s.sendCopy t
      else
        let s := s.copyAgain t
        if s.held then s else s.copyFirst t) s
    let noFrame := here.isEmpty && !away.isEmpty && !always && pub.isNone
    let (s, q) := if noFrame then (s, 0) else s.nextSeq
    let log := match pub with
      | some (c, k) => s.logPayload c k
      | none => []
    let f := SFrame.mirror q { m with op := opWithin m.op here } isLocal relaxed stamp log
    let waits := if s.mode = .resync && s.held then [] else away
    let s := if noFrame then s else s.seamSend f
    let at_ := isLocal || (noFrame && waits.isEmpty)
    if noFrame && waits.isEmpty then (s, true)
    else
      ({ s with seam := { s.seam with commits := s.seam.commits ++
          [⟨q, m.qp.val, m.psn, tiles, stamp, isLocal, false, noFrame, waits, pub, f⟩] } }, at_)

/-- Commits whose mirror is complete reach their acknowledgement point (R167, R191). -/
def State.settle (s : State) : State :=
  let done := s.seam.commits.filter (fun c => c.acked && c.waits.isEmpty)
  let s := { s with seam := { s.seam with commits := s.seam.commits.filter (fun c => !(c.acked && c.waits.isEmpty)) } }
  let s := { s with seam := { s.seam with acked := done.foldl (fun n c => Nat.max n c.stamp) s.seam.acked } }
  done.foldl (fun s c => (s.clearMarks c.tiles).reachPoint c.qp c.psn c.pub) s

/-! ### SOLO and takeover (R179, R186, R187) -/

/-- The unit raises its epoch (R179): to that of an accepted token, which is spent, or past the highest seen. A spent token is
still held until it expires, and does not raise an epoch again (DEDUCED, log entry 14). -/
def State.raiseEpoch (s : State) : State :=
  match s.seam.token with
  | some (e, u, false) => ({ s with seam := { s.seam with token := some (e, u, true) } }).setFld F.SEAM_CLAIM_epoch e
  | _ => s.setFld F.SEAM_CLAIM_epoch (Nat.max s.epoch (s.fld F.SEAM_TWIN_CLAIM_epoch) + 1)

/-- The survivor takes over the lost unit's queue pairs (R187): host is this unit, bound as at a fence, and SEQ_REPLACE is due at the PSN of R87: committed
messages below it go on, those behind it are recorded. -/
def State.adoptQp (s : State) (n : Nat) : State :=
  match s.qpAt n with
  | none => s
  | some q =>
    let p := skipPast q.past q.past.length q.epsn
    let s := s.setQp n { q with
      host := s.bit F.SEAM_STATUS_unit, epsn := p, replace := if qpLive q.state then some p else none
      msgs := q.msgs ++ q.past.filter (fun m => psnBefore m.psn p), past := q.past.filter (fun m => !psnBefore m.psn p) }
    let s := if qpLive q.state ∨ q.state = .error then s.bindQp n else s
    s.sweep n

/-- The unit's own queue pairs drop the forwards that have not returned and every later message (R175, R187). -/
def State.dropForwards (s : State) (n : Nat) : State :=
  match s.qpAt n with
  | none => s
  | some q =>
    let s := s.setQp n { q with past := q.past.filter (fun m => !(m.fwd && !m.committed)) }
    match q.msgs.find? (fun m => m.fwd && !m.committed) with
    | none => s
    | some m =>
      let s := s.discardFrom n m.psn
      s.modQp n (fun q =>
        { q with
          epsn := m.psn, cur := none, nak := none, naked := false, replace := some m.psn
          msgs := q.msgs.filter (fun x => psnBefore x.psn m.psn)
          past := q.past ++ q.msgs.filter (fun x => !psnBefore x.psn m.psn && x.committed && (x.isWrite || x.isAtomic)) })

/-- A LIVE subscriber restarts after its released entry (R101, R108). -/
def Sub.restart (b : Sub) : Sub := { b with sent := b.released + 1, nextOff := b.offset, ends := [] }

/-- Takeover of the lost unit's queue pairs and addresses (R187). A unit that was not LEAD before restarts the LIVE subscribers (R108). -/
def State.takeover (s : State) (new : Bool) : State :=
  let lost := (s.kept.qps.filter (fun p => !s.hosts p.2)).map (·.1)
  let own := (s.kept.qps.filter (fun p => s.hosts p.2)).map (·.1)
  let s := own.foldl State.dropForwards s
  let s := lost.foldl State.adoptQp s
  let s := { s with kept := { s.kept with subs := s.kept.subs.map (fun (p : Nat × Sub) => if new && p.2.state == SubState.live then (p.1, p.2.restart) else p) } }
  let ls := (List.range 32).filter (fun l => s.lportPresent l && (s.fld F.SEAM_TKO_CFG_port_en).testBit (l / 4))
  { s with ports := { s.ports with announce := ls.map (fun l => (l, s.fld F.SEAM_TKO_CFG_announce)) } }

/-- The twin is lost: regions it was draining no longer wait for it (R61). Commands that wait for its CMD_DONE end on this unit alone,
as `settleShared` says. -/
def State.twinGone (s : State) : State :=
  { s with kept := { s.kept with rdt := s.kept.rdt.map (fun p => (p.1, { p.2 with twinDone := true })) } }

/-- The unit enters SOLO as LEAD (R164, R179, R186, R189): epoch, role, record, gates; what waited for a MACK is acknowledged. -/
def State.enterSolo (s : State) : State :=
  let was := s.mode
  let s := (s.raiseEpoch.openRecord).setBit F.SEAM_STATUS_lead true
  let cs := s.seam.commits
  let s := { s with seam := { s.seam with
    link0 := { s.seam.link0 with queue := [] }, link1 := { s.seam.link1 with queue := [] }
    commits := [], waited := false, joining := false, copySet := [], inflight := [], copied := [], early := [], yielded := false
    blind := false, copying := false, cut := false, full := false } }
  let s := (s.setMode .solo).dropStamp.reviewPair
  let s := cs.foldl (fun s c => s.reachPoint c.qp c.psn c.pub) s
  s.twinGone.firstCap was

/-- Entry into SOLO after the loss of the twin, with takeover (R186). -/
def State.takeSolo (s : State) : State := (s.enterSolo.takeover (!s.lead)).reviewPair

end Sys2Proof.Machine
end

