-- ==== Sys2Proof/Machine/Publish.lean ====
section
/-! DEFINITION. Publish channels (04): log, trim and detach (R102), release (R100), delivery (R98, R99), and the channel and
subscriber commands (R92 to R104). -/

namespace Sys2Proof.Machine

/-! ### Entries (R97) -/

/-- Entry types. -/
abbrev tData : Nat := 1
abbrev tPad : Nat := 2
abbrev tGap : Nat := 3

/-- Units of 64 bytes of an entry with a payload. -/
def entryUnits (payload : Nat) : Nat := (32 + payload + 63) / 64

/-- An entry's bytes (R97): header, payload, padding. -/
def entryBytes (seq type units stamp pub : Nat) (payload : List Byte) : List Byte :=
  let head := leBytes 8 seq ++ leBytes 4 payload.length ++ leBytes 2 type ++ leBytes 2 units ++ leBytes 8 stamp ++ leBytes 2 pub ++ leBytes 2 0
  let chk := leBytes 4 (crc32c (head ++ payload))
  head ++ chk ++ payload ++ List.replicate (units * 64 - 32 - payload.length) 0

/-! ### Channels and subscribers -/

def State.chan (s : State) (c : Nat) : Option Chan := alGet s.kept.chans c
def State.setChan (s : State) (c : Nat) (x : Chan) : State := { s with kept := { s.kept with chans := alPut s.kept.chans c x } }
def State.sub (s : State) (c b : Nat) : Option Sub := alGet s.kept.subs (c * 1024 + b)
def State.setSub (s : State) (c b : Nat) (x : Sub) : State := { s with kept := { s.kept with subs := alPut s.kept.subs (c * 1024 + b) x } }

/-- Bytes of a channel's log. -/
def Chan.bytes (ch : Chan) : Nat := ch.log.foldl (fun n e => n + entryUnits e.payload.length * 64) 0

/-- The oldest retained sequence number. -/
def Chan.oldest (ch : Chan) : Nat :=
  match ch.log with
  | e :: _ => e.seq
  | [] => ch.next

/-- The record of a subscriber with its attributes, and its state and cursors, as a CTX frame carries them (R108). -/
def Sub.snap (x : Sub) : SubSnap :=
  ⟨x.state == .stopped, x.state == .detached, x.released, x.relOff, x.offset, x.nextOff, x.missing, x.gapDue, x.waits, x.ends⟩

def Sub.args (c b : Nat) (x : Sub) : SubArgs := ⟨c, b, ⟨x.qp % 65536, by omega⟩, x.addr, x.key, x.size, some x.seal_, x.sent⟩

/-- LEAD tells FOLLOW of shared context (R108, R169, R173). -/
def State.tellTwin (s : State) (u : CtxUpdate) : State :=
  if s.mirrored && s.bit F.SEAM_STATUS_lead then s.seamSend (.ctx u) else s

/-- FOLLOW learns a subscriber's record. -/
def State.tellSub (s : State) (c b : Nat) : State :=
  match s.sub c b with
  | some x => s.tellTwin (.subscriber (x.args c b) x.snap)
  | none => s

/-- A subscriber of a trimmed message is detached (R102, R103). One that was STOPPED takes its GAP after the released entry, and waits for a resume
command. -/
def State.detach (s : State) (c b : Nat) (x : Sub) : State :=
  let m := x.released + 1
  let s := s.setSub c b { x with
    state := .detached, missing := m, gapDue := true, waits := x.state == .stopped
    nextOff := if x.state = .stopped then x.offset else x.nextOff }
  let s :=
    if s.bit F.PUB_DETACH_LOG_valid then s
    else
      let s := ((s.setBit F.PUB_DETACH_LOG_valid true).setFld F.PUB_DETACH_LOG_channel c).setFld F.PUB_DETACH_LOG_subscriber b
      s.setPair F.PUB_DETACH_SEQ_LO_first_lo F.PUB_DETACH_SEQ_HI_first_hi m
  (s.raise Ev.PUB_SUB_DETACHED).tellSub c b

/-- Trims the oldest entries until `need` bytes fit (R102). -/
def State.trim (s : State) (c need : Nat) : Nat → State
  | 0 => s
  | k + 1 =>
    match s.chan c with
    | none => s
    | some ch =>
      if ch.bytes + need ≤ logBytes ch.args then s
      else
        match ch.log with
        | [] => s
        | e :: l =>
          let late := s.kept.subs.filter (fun p => p.1 / 1024 = c ∧ p.2.state != .detached ∧ p.2.released < e.seq)
          let s := late.foldl (fun s p => s.detach c (p.1 % 1024) p.2) s
          State.trim (s.setChan c { ch with log := l }) c need k

/-- The tiles of the log that hold an entry: LEAD's commit marks them (R189). -/
def State.logTilesOf (s : State) (c q : Nat) : List Nat :=
  match s.chan c with
  | some ch =>
    match ch.log.find? (fun e => e.seq = q) with
    | some e => ((logParts ch.args e.pos (entryUnits e.payload.length * 64)).map (fun p => tileOf p.1)).foldl setAdd []
    | none => []
  | none => []

/-- A publish commits (R95): trim, number, stamp, and its entry in the log (R97). A subscriber that the trim detached holds back no quorum (R96).
Answers the sequence number. -/
def State.commitPublish (s : State) (c pub : Nat) (payload : List Byte) (stamp : Nat) : State × Nat :=
  match s.chan c with
  | none => (s, 0)
  | some ch =>
    let units := entryUnits payload.length
    let live := s.liveSubs c
    let s := s.trim c (units * 64) ch.log.length
    match s.chan c with
    | none => (s, 0)
    | some ch =>
      let e : LogEntry := ⟨ch.next, stamp, pub, payload, false, [], ch.logEnd⟩
      let s := s.setChan c { ch with next := ch.next + 1, log := ch.log ++ [e], logEnd := ch.logEnd + units * 64 }
      let s := s.ownStore ⟨s.domainKey ch.args.pd, logParts ch.args ch.logEnd (units * 64), entryBytes ch.next tData units stamp pub payload⟩
      (if s.liveSubs c = live then s else s.sweepChan c, ch.next)

/-- A value read from a subscriber's release word (R100), whatever the subscriber's state. -/
def State.release (s : State) (c b v : Nat) : State :=
  match s.sub c b with
  | none => s
  | some x =>
    if v ≤ x.released then s
    else if x.sent ≤ v then s.raise Ev.PUB_BAD_RELEASE
    else
      (match x.ends.find? (fun (e : Nat × Nat × Nat) => e.1 = v) with
       | some (_, lo, hi) => s.setSub c b { x with released := v, relOff := lo, offset := hi, ends := x.ends.filter (fun (e : Nat × Nat × Nat) => decide (v < e.1)) }
       | none => s.setSub c b { x with released := v }).tellSub c b

/-- Two byte ranges meet. -/
def meets (a n b m : Nat) : Bool := decide (a < b + m) && decide (b < a + n)

/-- Release words that a committed write to a region touched are read (R100), where the channel's key is the region's (R44). -/
def State.readReleases (s : State) (region : Nat) (parts : List (Nat × Nat)) : State :=
  (s.kept.chans.filter (fun p => keyIndex p.2.args.relKey = region ∧ keyTag p.2.args.relKey = (s.rgn region).epoch % 4096)).foldl (fun s p =>
    (s.kept.subs.filter (fun b => b.1 / 1024 = p.1)).foldl (fun s b =>
      match (s.translate (s.rgn region) (p.2.args.relOffset + b.1 % 1024 * 8) 8).2 with
      | .ok [(a, _)] => if parts.any (fun q => meets q.1 q.2 a 8) then s.release p.1 (b.1 % 1024) (leNat (s.bytes a 8)) else s
      | _ => s) s) s

/-! ### Delivery (R98, R99, R106) -/

/-- A request of a requester queue pair: one RDMA WRITE of the parts given (R98, R99). -/
def State.sendWrite (s : State) (n : Nat) (key : BitVec 32) (parts : List (Nat × List Byte)) (imm : Option Nat)
    (c b : Nat) (seqs : List Nat) (seals : List (Nat × Nat)) : State :=
  match s.qpAt n with
  | none => s
  | some q =>
    let k := Nat.max 1 (ceilDiv (parts.foldl (fun n p => n + p.2.length) 0) (Nat.max 1 q.pmtu))
    let w := Wire.write key q.spsn parts imm
    let r : Req := { psn := q.spsn, last := psnAdd q.spsn (k - 1), chan := c, sub := b, seqs := seqs, seals := seals, wire := w }
    (s.setQp n { q with spsn := psnAdd q.spsn k, reqs := q.reqs ++ [r] }).queuePkt n w true

/-- The subscriber's queue pair can send: RTS and bound. -/
def State.canSend (s : State) (n : Nat) : Bool :=
  match s.qpAt n with
  | some q => q.state == .rts && q.engine.isSome && q.rc
  | none => false

/-- Bytes of PAD before an entry of `len` bytes (R98). -/
def Sub.padFor (x : Sub) (len : Nat) : Nat := if x.size < x.nextOff % x.size + len then x.size - x.nextOff % x.size else 0

/-- The ring has room for an entry with its PAD: up to the start of the released entry one lap later (R98). -/
def Sub.room (x : Sub) (len : Nat) : Bool := decide (x.nextOff + x.padFor len + len ≤ x.relOff + x.size)

/-- What is written of an entry at an offset of the ring: all of it in IMM mode, all but its sequence number in SEAL mode (R99). -/
def Sub.part (x : Sub) (off : Nat) (bytes : List Byte) : Nat × List Byte :=
  if x.seal_ then (x.addr + off % x.size + 8, bytes.drop 8) else (x.addr + off % x.size, bytes)

/-- The PAD before an entry of `len` bytes, where it does not fit before the end of the ring (R97, R98). -/
def Sub.pad (x : Sub) (seq len stamp : Nat) : List (Nat × List Byte) :=
  let n := x.padFor len
  if n = 0 then [] else [x.part x.nextOff (entryBytes seq tPad (n / 64) stamp 0xFFFF [])]

/-- What is left to seal of a PAD and its entry. -/
def Sub.sealsFor (x : Sub) (seq len : Nat) : List (Nat × Nat) :=
  (if x.padFor len = 0 then [] else [(seq, x.nextOff % x.size)]) ++ [(seq, (x.nextOff + x.padFor len) % x.size)]

/-- The cursors after a PAD and an entry. -/
def Sub.after (x : Sub) (seq len : Nat) : Sub :=
  let off := x.nextOff + x.padFor len
  { x with nextOff := off + len, ends := x.ends ++ [(seq, off, off + len)] }

/-- Writes one entry into the ring, after its PAD: in IMM mode the PAD by a WRITE of its own and the entry with immediate; in SEAL mode both as
one WRITE, whose seals follow (R99). -/
def State.writeEntry (s : State) (c b : Nat) (x : Sub) (seq type stamp pub : Nat) (payload : List Byte) : State × Sub :=
  let len := entryUnits payload.length * 64
  let pad := x.pad seq len s.commit
  let here := x.part (x.nextOff + x.padFor len) (entryBytes seq type (entryUnits payload.length) stamp pub payload)
  let s :=
    if x.seal_ then s.sendWrite x.qp x.key (pad ++ [here]) none c b [seq] (x.sealsFor seq len)
    else
      let s := if pad.isEmpty then s else s.sendWrite x.qp x.key pad none c b [] []
      s.sendWrite x.qp x.key [here] (some (seq % 2 ^ 32)) c b [seq] []
  (s, x.after seq len)

/-- The next entry of a subscriber that may be delivered: at the acknowledgement point, with room for it in the ring (R98, R106). -/
def Sub.nextEntry (x : Sub) (ch : Chan) : Option LogEntry :=
  ch.log.find? (fun e => e.seq == x.sent && e.atPoint && x.room (entryUnits e.payload.length * 64))

/-- Gathers up to `k` consecutive entries and PADs, of at most the number of entries given first, for one WRITE in SEAL mode (R99): the cursors after them, the parts, the seals and the
sequence numbers. -/
def Sub.gather (ch : Chan) (stamp : Nat) : Nat → Nat → Sub → Sub × List (Nat × List Byte) × List (Nat × Nat) × List Nat
  | 0, _, x => (x, [], [], [])
  | n + 1, k, x =>
    match x.nextEntry ch with
    | none => (x, [], [], [])
    | some e =>
      let len := entryUnits e.payload.length * 64
      let pad := x.pad e.seq len stamp
      if k < 1 + pad.length then (x, [], [], [])
      else
        let here := x.part (x.nextOff + x.padFor len) (entryBytes e.seq tData (entryUnits e.payload.length) e.stamp e.pub e.payload)
        let (y, ps, ss, qs) := Sub.gather ch stamp n (k - 1 - pad.length) { x.after e.seq len with sent := x.sent + 1 }
        (y, pad ++ here :: ps, x.sealsFor e.seq len ++ ss, e.seq :: qs)

/-- Delivers to a LIVE subscriber: one entry in IMM mode, up to 16 in one WRITE in SEAL mode (R98, R99, R106). -/
def State.deliver (s : State) (c b : Nat) (ch : Chan) (x : Sub) : State :=
  if x.state ≠ .live ∨ !s.canSend x.qp then s
  else if x.seal_ then
    let (y, ps, ss, qs) := Sub.gather ch s.commit 16 16 x
    if qs.isEmpty then s else (s.sendWrite x.qp x.key ps none c b qs ss).setSub c b y
  else
    match x.nextEntry ch with
    | none => s
    | some e =>
      let (s, x) := s.writeEntry c b x e.seq tData e.stamp e.pub e.payload
      s.setSub c b { x with sent := x.sent + 1 }

/-- In PAIRED and RESYNC only LEAD delivers, and publish deliveries pass the gates (R7, R108, R180). -/
def State.delivers (s : State) : Bool := s.serves && s.gates && (!s.mirrored || s.lead)

/-- PUBLISH_DELIVER (R98, R99, R106): one entry in IMM mode, up to 16 in SEAL mode. -/
def State.doPublishDeliver (s : State) (c b : Nat) : State :=
  match s.chan c, s.sub c b with
  | some ch, some x => if s.delivers then (s.deliver c b ch x).tellSub c b else s
  | _, _ => s

def execPublishDeliver (chan sub : Nat) (s : State) : Res := s.core fun s => s.doPublishDeliver chan sub

/-- The seals of a WRITE that is acknowledged: the sequence number at bytes 0 to 7 of each entry and PAD, in sequence order (R99). The ACK of the last
seal of an entry tells that the subscriber has it. -/
def State.sendSeals (s : State) (c b : Nat) (x : Sub) (seqs : List Nat) : List (Nat × Nat) → State
  | [] => s
  | (seq, off) :: l =>
    let mine := if seqs.contains seq ∧ !(l.any (fun e => e.1 = seq)) then [seq] else []
    (s.sendWrite x.qp x.key [(x.addr + off, leBytes 8 seq)] none c b mine []).sendSeals c b x seqs l

/-- A subscriber has an entry in its ring (R96). -/
def State.holdEntry (s : State) (c b seq : Nat) : State :=
  match s.chan c with
  | some ch =>
    (s.setChan c { ch with log := ch.log.map (fun e => if e.seq = seq then { e with held := setAdd e.held b } else e) }).tellTwin (.subHeld c b seq)
  | none => s

/-- One request is acknowledged: its entries are in the ring, or their seals follow (R96, R99). -/
def State.ackReqOne (s : State) (r : Req) : State :=
  match s.sub r.chan r.sub with
  | none => s
  | some x =>
    if !r.seals.isEmpty then s.sendSeals r.chan r.sub x r.seqs r.seals
    else r.seqs.foldl (fun s q => s.holdEntry r.chan r.sub q) s

/-- Splits the outstanding requests at the first that carries a sequence number of a subscriber; an RC ACK covers all before it. -/
def ackSplit (c b seq : Nat) : List Req → List Req × List Req
  | [] => ([], [])
  | r :: l =>
    if r.chan = c ∧ r.sub = b ∧ r.seqs.contains seq then ([r], l)
    else
      let (a, d) := ackSplit c b seq l
      (r :: a, d)

/-- SUBSCRIBER_ACK_RECEIVE (R96, R99); the round trip of the latest request that it acknowledges is measured (R83). -/
def State.doSubscriberAck (s : State) (c b seq : Nat) : State :=
  match s.sub c b with
  | none => s
  | some x =>
    match s.qpAt x.qp with
    | none => s
    | some q =>
      if q.reqs.any (fun r => r.chan = c ∧ r.sub = b ∧ r.seqs.contains seq) then
        let (got, rest) := ackSplit c b seq q.reqs
        let trip := (got.getLast?.bind (·.at_)).map (fun t => (s.mrt, s.mrt - t))
        let s := s.setQp x.qp { q with
          reqs := rest, tries := 0, rnrTries := 0
          rtts := q.rtts.filter (fun (e : Nat × Nat) => decide (s.mrt ≤ e.1 + 10000000)) ++ trip.toList }
        (got.foldl State.ackReqOne s).sweepChan c
      else s

def execSubscriberAckReceive (chan sub seq : Nat) (s : State) : Res := s.core fun s => s.doSubscriberAck chan sub seq

/-- GAP_ENTRY_WRITE (R103): for a detached subscriber, as soon as the ring has room and the queue pair is in RTS; for one that was STOPPED at its detach, after a
resume command. -/
def State.doGap (s : State) (c b : Nat) : State :=
  match s.chan c, s.sub c b with
  | some ch, some x =>
    if x.state = .detached ∧ x.gapDue ∧ !x.waits ∧ s.delivers ∧ s.canSend x.qp ∧ x.room (entryUnits 16 * 64) then
      let (s, x) := s.writeEntry c b x x.missing tGap s.commit 0xFFFF (leBytes 8 x.missing ++ leBytes 8 ch.oldest)
      (s.setSub c b { x with gapDue := false }).tellSub c b
    else s
  | _, _ => s

def execGapEntryWrite (chan sub : Nat) (s : State) : Res := s.core fun s => s.doGap chan sub

/-- The payload of a hint (R105). -/
def hintBytes (c top : Nat) : List Byte := leBytes 2 c ++ leBytes 6 0 ++ leBytes 8 top

/-- PUBLISH_HINT (R105). -/
def State.doHint (s : State) (c : Nat) : State :=
  match s.chan c with
  | none => s
  | some ch =>
    let top := (ch.log.filter (·.atPoint)).foldl (fun n e => Nat.max n e.seq) 0
    let gap := s.fld F.PUB_HINT_CFG_gap_us * 1000
    let rested : Bool := match ch.hintAt with
      | some t => decide (t + gap ≤ s.mrt)
      | none => true
    let up : Bool := match s.qpAt ch.args.hintQp with
      | some q => q.state == .rts && q.engine.isSome && !q.rc
      | none => false
    if ch.args.hintOn ∧ gap ≠ 0 ∧ ch.hinted < top ∧ rested ∧ up ∧ s.delivers then
      (s.setChan c { ch with hinted := top, hintAt := some s.mrt }).sendPkt ch.args.hintQp
        (.hint ch.args.hintGroup ch.args.hintQKey 0xFFFFFF (hintBytes c top))
    else s

def execPublishHint (chan : Nat) (s : State) : Res := s.core fun s => s.doHint chan

/-! ### Commands (R92 to R104) -/

/-- An IPv4 or IPv6 multicast address. -/
def isMulticast (g : Nat) : Bool := (decide (g < 2 ^ 32) && g / 2 ^ 28 == 14) || (decide (g < 2 ^ 128) && g / 2 ^ 120 == 255)

/-- The attributes of R92 lie in their ranges. The group of a hint that is not enabled is not looked at (DESIGN CHOICE, log entry 94). -/
def chanInRange (a : ChanArgs) : Bool :=
  decide (a.number < 4096) && decide (a.pd < 1024) && decide (a.quorum ≤ 1024) && decide (65536 ≤ logBytes a) &&
  decide (logBytes a ≤ 2 ^ 32) && logBytes a % 65536 == 0 && decide (1 ≤ a.maxMsg) && decide (a.maxMsg ≤ 65504) && a.relOffset % 8 == 0 &&
  (!a.hintOn || isMulticast a.hintGroup)

/-- A key names a VALID region of a domain (R92). -/
def State.keyOfDomain (s : State) (pd : Nat) (k : BitVec 32) : Bool :=
  (s.current k).any (fun i => (s.rgn i).state == .valid && (s.rgn i).pd == pd)

/-- One UNHOMED tile of a log takes its DRAM home (R93, R155); a tile that has a home keeps it. -/
def State.takeLogTile (s : State) (key i : Nat) : State :=
  if (s.tile i).empty then ((s.homeNew i none key).1.noteDirty i).markRecord i else s

/-- The tiles of a log. -/
def logTiles (a : ChanArgs) : List Nat := (List.range (chanTiles a)).map (fun i => a.logTile + i)

/-- The log takes its DRAM homes as a pinned extent (R93): tiles of it that are in NAND are promoted as the extent's job (R111, R112, R120). -/
def State.takeLog (s : State) (a : ChanArgs) : State :=
  let s := forUp (fun i s => s.takeLogTile (s.domainKey a.pd) i) (chanTiles a) a.logTile s
  let s := s.pinDown (logPin a.number) (logTiles a)
  let left := (logTiles a).filter (s.leftFor true)
  if left.isEmpty then s else { s with tlr := { s.tlr with jobs := s.tlr.jobs ++ [⟨logPin a.number, true, left, none⟩] } }

/-- The log meets an extent or another log, which pinned extents do not share (R118). -/
def State.logClash (s : State) (a : ChanArgs) : Bool :=
  (s.kept.rdt.any (fun p => p.2.state == .valid && p.2.ext && meets p.2.target p.2.length (a.logTile * 65536) (logBytes a))) ||
  (s.kept.chans.any (fun p => meets (p.2.args.logTile * 65536) (logBytes p.2.args) (a.logTile * 65536) (logBytes a)))

/-- Home blocks that the log's tiles still need (R113). -/
def State.blocksFor (s : State) (a : ChanArgs) : Bool :=
  s.homeBlocks ((logTiles a).filter (fun t => !(s.tile t).entered))

/-- The checks of channel-create (R92, R93). A number already open, or a log that would meet an extent or another log, completes BUSY, and a log past the tenant range CAPACITY; the first
tile of the log is the operand `logTile` (DESIGN CHOICE, log entry 95). -/
def State.checkChannelCreate (s : State) (a : ChanArgs) : Verdict :=
  let fresh := ((List.range (chanTiles a)).filter (fun i => !(s.tile (a.logTile + i)).inDram)).length
  if !(chanInRange a) ∨ (alGet s.kept.domains a.pd).isNone ∨ !s.keyOfDomain a.pd a.relKey ∨ !(a.snapshot.all (s.keyOfDomain a.pd)) then .error .invalid
  else if (s.chan a.number).isSome ∨ s.logClash a then .error .busy
  else if s.fld F.RGN_RANGE_TOP_top_tiles < a.logTile + chanTiles a ∨ s.fld F.TLR_WM_CFG_wm_hi * s.cap < (s.homed + fresh) * 100 ∨
      !s.blocksFor a then .error .capacity
  else s.unlessRestoring []

/-- CHANNEL_CREATE (R92, R93): the channel is open, and its log takes its homes. -/
def State.putChannel (s : State) (a : ChanArgs) : State :=
  ((s.setChan a.number { args := a }).takeLog a).reviewCap

/-- The checks of channel-close (R93). A channel that is not open completes INVALID (DESIGN CHOICE, log entry 96). -/
def State.checkChannelClose (s : State) (c : Nat) : Verdict :=
  match s.chan c with
  | none => .error .invalid
  | some ch => if !ch.pubs.isEmpty then .error .busy else s.unlessRestoring []

/-- CHANNEL_CLOSE (R93): the log is no pinned extent any more; its tiles keep their homes and become neutral (R114, R119). -/
def State.dropChannel (s : State) (c : Nat) : State :=
  match s.chan c with
  | none => s
  | some _ =>
    let s := s.endExtent (logPin c)
    ({ s with
        kept := { s.kept with chans := alDel s.kept.chans c, subs := s.kept.subs.filter (fun p => p.1 / 1024 != c) } }).reviewCap

/-- The lowest publisher index that is free (R94). -/
def Chan.freeIndex (ch : Chan) : Option Nat := (List.range 64).find? (fun i => (alGet ch.pubs i).isNone)

/-- The channel that a queue pair publishes to, with its index. -/
def State.publisher (s : State) (n : Nat) : Option (Nat × Nat) :=
  match s.kept.chans.find? (fun p => p.2.pubs.any (fun e => e.2 = n)) with
  | some p => (p.2.pubs.find? (fun e => e.2 = n)).map (fun e => (p.1, e.1))
  | none => none

/-- The checks of attach-publisher (R94): an RC queue pair of the channel's domain. One in RESET, or a publisher already, completes INVALID;
a 65th publisher completes CAPACITY; the lowest free index is given (DESIGN CHOICE, log entry 97). -/
def State.checkAttachPublisher (s : State) (c n : Nat) : Verdict :=
  match s.chan c, s.qpAt n with
  | some ch, some q =>
    if !q.rc ∨ q.pd ≠ ch.args.pd ∨ q.state = .reset ∨ (s.publisher n).isSome then .error .invalid
    else
      match ch.freeIndex with
      | some i => s.unlessRestoring [i]
      | none => .error .capacity
  | _, _ => .error .invalid

/-- ATTACH_PUBLISHER (R94): the queue pair publishes under an index. -/
def State.putPublisher (s : State) (c n i : Nat) : State :=
  { s with kept := { s.kept with chans := alMod s.kept.chans c (fun (ch : Chan) => { ch with pubs := alPut ch.pubs i n }) } }

/-- The checks of detach-publisher (R94). A queue pair that is not attached completes INVALID (DESIGN CHOICE, log entry 96). -/
def State.checkDetachPublisher (s : State) (c n : Nat) : Verdict :=
  match s.chan c with
  | none => .error .invalid
  | some ch => if !(ch.pubs.any (fun e => e.2 = n)) then .error .invalid else s.unlessRestoring []

/-- DETACH_PUBLISHER (R94). -/
def State.dropPublisher (s : State) (c n : Nat) : State :=
  { s with kept := { s.kept with chans := alMod s.kept.chans c (fun (ch : Chan) => { ch with pubs := ch.pubs.filter (fun e => e.2 != n) }) } }

/-- A queue pair may carry a subscriber: RC, of the channel's domain, in RTS. -/
def State.subQp (s : State) (ch : Chan) (n : Nat) : Bool :=
  match s.qpAt n with
  | some q => q.rc && q.pd == ch.args.pd && q.state == .rts
  | none => false

/-- A ring of R98. -/
def ringOk (addr size : Nat) : Bool :=
  decide (131072 ≤ size) && decide (size ≤ 2 ^ 30) && size == 2 ^ Nat.log2 size && addr % 64 == 0

/-- The checks of attach-subscriber (R101): from FREE or DETACHED, start in [oldest retained, newest + 1]. A LIVE or STOPPED subscriber
completes INVALID (DESIGN CHOICE, log entry 98). -/
def State.checkAttachSubscriber (s : State) (a : SubArgs) : Verdict :=
  match s.chan a.chan with
  | none => .error .invalid
  | some ch =>
    let free := match s.sub a.chan a.sub with
      | some x => x.state == .detached
      | none => true
    if !(decide (a.sub < 1024)) ∨ !s.subQp ch a.qp.val ∨ !ringOk a.ringAddr a.ringSize ∨ !free ∨
        ¬ (ch.oldest ≤ a.start ∧ a.start ≤ ch.next) then .error .invalid
    else s.unlessRestoring []

/-- The record of a subscriber that has just been attached (R101); IMM mode where the command gives none (R99). -/
def subRecord (a : SubArgs) : Sub :=
  { state := .live, qp := a.qp.val, addr := a.ringAddr, key := a.ringKey, size := a.ringSize, seal_ := a.sealMode.getD false,
    sent := a.start, released := a.start - 1 }

/-- ATTACH_SUBSCRIBER (R101). -/
def State.putSubscriber (s : State) (a : SubArgs) : State := (s.setSub a.chan a.sub (subRecord a)).sweepChan a.chan

/-- The checks of resume (R101). -/
def State.checkResume (s : State) (c b n : Nat) : Verdict :=
  match s.chan c, s.sub c b with
  | some ch, some x => if x.state = .live ∨ !s.subQp ch n then .error .invalid else s.unlessRestoring []
  | _, _ => .error .invalid

/-- RESUME (R101, R103). -/
def State.resumeSub (s : State) (c b n : Nat) : State :=
  match s.sub c b with
  | none => s
  | some x =>
    match x.state with
    | .stopped => (s.setSub c b { x.restart with qp := n, state := .live }).sweepChan c
    | _ => if x.gapDue then (s.setSub c b { x with qp := n, waits := false }).doGap c b else s

/-- The checks of remove (R101). A subscriber that is FREE already completes OK (DESIGN CHOICE, log entry 98). -/
def State.checkRemove (s : State) (c b : Nat) : Verdict :=
  if (s.chan c).isNone ∨ 1024 ≤ b then .error .invalid else s.unlessRestoring []

/-- REMOVE (R101): any state to FREE. -/
def State.dropSub (s : State) (c b : Nat) : State :=
  ({ s with kept := { s.kept with
      subs := alDel s.kept.subs (c * 1024 + b)
      chans := alMod s.kept.chans c (fun (ch : Chan) => { ch with log := ch.log.map (fun (e : LogEntry) => { e with held := setDel e.held b }) }) } }).sweepChan c

end Sys2Proof.Machine
end

