-- ==== Sys2Proof/Machine/Cipher.lean ====
section
/-! DEFINITION. The dual computation of the cipher engine (R269). -/

namespace Sys2Proof.Machine

/-- A lane is marked failed: it takes no further work, and fewer than 52 lanes in service set lane_low (R269). -/
def State.failLane (s : State) (lane : Nat) : State :=
  let f := if lane < 32 then F.CRYP_LANE_FAIL_LO_failed else F.CRYP_LANE_FAIL_HI_failed
  let b := lane % 32
  if (s.fld f).testBit b then s
  else
    let s := (s.setFld f (s.fld f + 2 ^ b)).setFld F.CRYP_STATUS_lanes_ok (s.fld F.CRYP_STATUS_lanes_ok - 1)
    let s := s.raise Ev.CRYP_LANE_FAIL lane
    if s.fld F.CRYP_STATUS_lanes_ok < 52 ∧ !s.bit F.CRYP_STATUS_lane_low then
      (s.setBit F.CRYP_STATUS_lane_low true).raise Ev.CRYP_LANE_LOW
    else s

/-- One mismatch of a lane: counted, raised; the third within 24 h fails the lane (R269). -/
def State.missLane (s : State) (lane : Nat) : State :=
  let l := s.cryp.misses.filter (fun m => decide (s.mrt < m.2 + 86400000000000)) ++ [(lane, s.mrt)]
  let s := (({ s with cryp := { s.cryp with misses := l } }).wrap F.CRYP_DUAL_CNT_mismatches).raise Ev.CRYP_DUAL_MISMATCH
  if 3 ≤ (l.filter (fun m => m.1 = lane)).length then s.failLane lane else s

/-- A lane is in service: it is not marked failed (R269). -/
def State.laneOk (s : State) (l : Nat) : Bool :=
  !(if l < 32 then (s.fld F.CRYP_LANE_FAIL_LO_failed).testBit l else (s.fld F.CRYP_LANE_FAIL_HI_failed).testBit (l - 32))

/-- The next lane in service after one. -/
def State.nextLane (s : State) (lane : Nat) : Nat :=
  (((List.range 64).map (fun i => (lane + 1 + i) % 64)).find? s.laneOk).getD lane

/-- The lane that does the work of a lane: a failed one takes none, and the next in service does it (R269). -/
def State.laneFor (s : State) (lane : Nat) : Nat := if s.laneOk lane then lane else s.nextLane lane

/-- The outcome of a dual computation on a lane. A retry runs on the next lane in turn. Which rows carry an outcome is the model's choice (DESIGN
CHOICE, log entry 140). -/
def State.dual (s : State) (d : Dual) (lane : Nat) : State :=
  match d with
  | .agree => s
  | .retryAgrees => s.missLane (s.laneFor lane)
  | .retryDiffers =>
    let first := s.laneFor lane
    ((s.missLane first).missLane (s.nextLane first)).wrap F.CRYP_DUAL_CNT_double

/-- A write-back whose dual computation failed on some lanes is tried on further ones until two agree (R269). -/
def State.retryLanes (s : State) (lanes : List (Fin 64)) : State :=
  let s := lanes.foldl (fun (s : State) l => s.missLane (s.laneFor l.val)) s
  if 2 ≤ lanes.length then s.wrap F.CRYP_DUAL_CNT_double else s

end Sys2Proof.Machine
end

