-- ==== Sys2Proof/Machine/Image.lean ====
section
/-! DEFINITION. The save image as bytes (R149 to R151): its sections, its header, its frame bitmap, and the checks of its units. -/

namespace Sys2Proof.Machine

/-! ### Sections (R149) -/

/-- The offsets of the sections in a slot, counted for a delta from its delta offset. -/
abbrev headerOff (copy : Fin 2) : Nat := copy.val * 0x10000
abbrev bitmapOff : Nat := 0x20000
abbrev onChipOff : Nat := 0x1020000
abbrev carveOff : Nat := 0x2020000
abbrev frameDataOff : Nat := 0x102020000

/-- The frames that an image carries, in ascending order (R144, R155). -/
def Image.frames (i : Image) : List Nat :=
  (((i.kept.tiles.filter (fun p => p.2.inDram && (!i.head.delta || p.2.changed))).map (fun p => p.2.frame)).foldl
    (fun (l : List (Nat × Unit)) f => alPut l f ()) []).map (·.1)

/-- Where the frame data of a frame lies in the slot, if the image carries it. -/
def Image.frameOff (i : Image) (f : Nat) : Option Nat :=
  if i.frames.contains f then some (i.head.deltaOff + frameDataOff + i.frames.findIdx (· == f) * 65536) else none

/-- The frame bitmap as written: F ÷ 8 bytes, rounded up to 64 KiB; bit 0 of byte 0 is frame 0. -/
def Image.bitmap (i : Image) : List Byte :=
  let fs := i.frames
  (List.range (ceilDiv (ceilDiv i.head.framesFound 8) 65536 * 65536)).map (fun b =>
    BitVec.ofNat 8 ((fs.filter (fun f => f / 8 == b)).foldl (fun n f => n + 2 ^ (f % 8)) 0))

/-! ### The header (R150) -/

/-- The flags of a header. -/
def ImgHeader.flags (h : ImgHeader) : Nat :=
  let b := fun (p : Bool) (n : Nat) => if p then 2 ^ n else 0
  b h.delta 0 + b h.planned 1 + b h.paired 2 + b h.lead 3

/-- Bytes 0 to 4,063 of the header, from the magic "KBSAVE01" on. -/
def ImgHeader.body (h : ImgHeader) (bitmapCrc : Nat) : List Byte :=
  [0x4B#8, 0x42#8, 0x53#8, 0x41#8, 0x56#8, 0x45#8, 0x30#8, 0x31#8] ++ leBytes 2 1 ++ leBytes 2 h.flags ++ leBytes 4 h.entryMode.code ++
  leBytes 8 h.generation ++ leBytes 8 h.baseGen ++ leBytes 8 h.lastCommit ++ leBytes 8 h.mirrorStamp ++ leBytes 4 h.epoch ++
  leBytes 4 (if h.unit then 1 else 0) ++ leBytes 8 h.framesFound ++ leBytes 8 h.framesSaved ++ leBytes 8 bitmapCrc ++ leBytes 4 h.hours ++
  leBytes 4 h.cycles ++ leBytes 4 h.saveMs ++ leBytes 4 h.eEst ++ leBytes 8 h.deltaOff ++ leBytes 3960 0

/-- The 4,096 bytes of both header copies: the body, its CRC-64, and the seal under the save key, whose value is free. -/
def Image.headerBytes (i : Image) : List Byte :=
  let body := i.head.body (crc64 i.bitmap)
  let signed := body ++ leBytes 8 (crc64 body) ++ leBytes 8 0
  signed ++ leBytes 16 (Config.saveSeal (if i.root = .present then 1 else 0) signed)

/-! ### Units and their checks (R145, R151, R261) -/

/-- The CRC-64 of a 64 KiB unit at an offset of the slot, with offset and generation folded in. -/
def unitCheck (off gen : Nat) (data : List Byte) : Nat := crc64 (foldPrefix off gen ++ data)

/-- A unit passes where it was written for this place and image. -/
def unitPasses (off gen : Nat) (data : List Byte) (check : Nat) : Bool := unitCheck off gen data == check

/-- What was written, with the bytes that read otherwise. -/
def alter (data : List Byte) (a : Altered) : List Byte := a.foldl (fun d e => d.set e.1 e.2) data

/-- The block as the image holds it. -/
def Image.view (i : Image) : State := { State.reset with kept := i.kept }

/-- A frame as the image carries it: the ciphertext of its tile's lines, dirty ones as their write-back would write them (R145). -/
def Image.frameBytes (i : Image) (f : Nat) : List Byte :=
  match i.kept.tiles.find? (fun p => p.2.inDram && p.2.frame == f) with
  | some p => (List.range 256).flatMap (fun l => i.view.stored (p.1 * 256 + l))
  | none => leBytes 65536 0

/-- A unit of the on-chip section or the carve-out, encrypted under the save key (R145). -/
def Image.underSaveKey (i : Image) (off : Nat) (data : List Byte) : List Byte :=
  leBytes 65536 (Config.saved (if i.root = .present then 1 else 0) i.head.generation off (BitVec.ofNat 524288 (leNat data))).toNat

/-- The 64 KiB unit at an offset of the slot (R149). -/
def Image.unitData (i : Image) (off : Nat) : List Byte :=
  let o := off - i.head.deltaOff
  if o < bitmapOff then i.headerBytes ++ leBytes 61440 0
  else if o < onChipOff then (i.bitmap.drop (o - bitmapOff)).take 65536
  else if o < carveOff then i.underSaveKey off ((List.range 65536).map (fun b => Config.onChip i.head.generation (o - onChipOff + b)))
  else if o < frameDataOff then i.underSaveKey off ((List.range 65536).map (fun b => i.view.carveByte (carveBase + (o - carveOff) + b)))
  else (i.frames[(o - frameDataOff) / 65536]?).elim (leBytes 65536 0) i.frameBytes

/-- A unit as it is read passes its check; one that reads as written does. -/
def Image.unitReads (i : Image) (off : Nat) (a : Altered) : Bool :=
  a.isEmpty ||
  (let data := i.unitData off
   let u := alter (data ++ leBytes 8 (unitCheck off i.head.generation data)) a
   unitPasses off i.head.generation (u.take 65536) (leNat (u.drop 65536)))

/-- The checks that a unit fails, read once and, where that fails, once again (R156). -/
def Image.unitFails (i : Image) (off : Nat) (first second : Altered) : Nat :=
  if i.unitReads off first then 0 else if i.unitReads off second then 1 else 2

/-- A header copy as it is read passes its CRC and its seal (R150, R152); one that reads as written does. -/
def Image.headerReads (i : Image) (a : Altered) : Bool :=
  a.isEmpty ||
  (let u := alter i.headerBytes a
   crc64 (u.take 4064) == leNat ((u.drop 4064).take 8) && Config.saveSeal (if i.root = .present then 1 else 0) (u.take 4080) == leNat (u.drop 4080))

/-- The slot offsets of the sections that BRINGUP reads of an image: bitmap, on-chip section and carve-out; of the base of a delta only the bitmap (R153). -/
def Image.reads (i : Image) (top : Bool) (off : Nat) : Bool :=
  let o := off - i.head.deltaOff
  decide (i.head.deltaOff ≤ off) && decide (bitmapOff ≤ o) && decide (o < if top then frameDataOff else onChipOff)

/-! ### Journal records (R152) -/

def JType.code : JType → Nat
  | .start => 1 | .sealed_ => 2 | .released => 3 | .erased => 4

/-- The 64 bytes of a journal record; R152 names its fields and no places for them (DESIGN CHOICE, log entry 168). -/
def JRec.bytes (r : JRec) : List Byte :=
  let b := leBytes 1 r.type.code ++ leBytes 1 r.slot.val ++ leBytes 6 0 ++ leBytes 8 r.off ++ leBytes 8 r.generation ++ leBytes 8 r.stamp ++ leBytes 28 0
  b ++ leBytes 4 (crc32c b)

/-- A record as it is read passes its CRC-32C; one that reads as written does. -/
def JRec.reads (r : JRec) (a : Altered) : Bool :=
  a.isEmpty || (let u := alter r.bytes a; crc32c (u.take 60) == leNat (u.drop 60))

end Sys2Proof.Machine
end

