-- ==== Sys2Proof/Machine/Message.lean ====
section
/-! DEFINITION. Messages at the responder (03): the checks T1 to T11 of R72, parks (R62 to R64), acceptance, commit (R77, R78),
forwarding (R167), and the responses. -/

namespace Sys2Proof.Machine

/-! ### Opcodes (R67) -/

/-- A packet's place in its message. -/
inductive Pos where
  | first | middle | last | only
  deriving DecidableEq, Repr

/-- Verb and place of a request opcode; none for an opcode that is no request the device supports. -/
def opVerb : Opcode → Option (Verb × Pos)
  | .sendFirst => some (.send, .first) | .sendMiddle => some (.send, .middle)
  | .sendLast => some (.send, .last) | .sendOnly => some (.send, .only) | .udSend => some (.send, .only)
  | .writeFirst => some (.write, .first) | .writeMiddle => some (.write, .middle)
  | .writeLast => some (.write, .last) | .writeOnly => some (.write, .only)
  | .writeLastImm => some (.writeImm, .last) | .writeOnlyImm => some (.writeImm, .only)
  | .readReq => some (.read, .only) | .cmpSwap => some (.compareSwap, .only) | .fetchAdd => some (.fetchAdd, .only)
  | .atomicWrite => some (.atomicWrite, .only) | .flush => some (.flush, .only)
  | .readResp | .ack | .atomicAck | .rcOther | .udOther | .other => none

/-- A response to a request that the device itself sent. -/
def opResponse : Opcode → Bool
  | .readResp | .ack | .atomicAck => true
  | _ => false

def verbRight : Verb → Right
  | .write | .writeImm => .write
  | .read => .read
  | .compareSwap | .fetchAdd => .atomic
  | .atomicWrite => .atomicWrite
  | .flush => .flush
  | .send => .none

/-- A message that writes, as against a READ or an atomic that reads: it chooses the timer code of an RNR NAK (R63, R73; DEDUCED, log entry 43). -/
def verbWrites : Verb → Bool
  | .write | .writeImm | .send | .atomicWrite => true
  | .read | .compareSwap | .fetchAdd | .flush => false

/-- An opcode continues the message under way: MIDDLE or LAST of its verb. -/
def continues (m : Msg) (v : Verb) (p : Pos) : Bool :=
  (p == .middle || p == .last) && (m.verb == v || (m.verb == .write && v == .writeImm && p == .last))

/-- T7: the opcode is legal after the previous packet of the message. -/
def legal (cur : Option Msg) (v : Verb) (p : Pos) : Bool :=
  match cur with
  | some m => continues m v p
  | none => p == .first || p == .only

/-! ### Parts of a message -/

/-- `n` bytes from offset `off` of a translation. -/
def sliceParts : List (Nat × Nat) → Nat → Nat → List (Nat × Nat)
  | [], _, _ => []
  | (a, k) :: l, off, n =>
    if n = 0 then []
    else if k ≤ off then sliceParts l (off - k) n
    else
      let m := Nat.min (k - off) n
      (a + off, m) :: sliceParts l 0 (n - m)

/-- The data that falls to each part. -/
def carve : List (Nat × Nat) → List Byte → List (Nat × List Byte)
  | [], _ => []
  | (a, n) :: l, d => (a, d.take n) :: carve l (d.drop n)

/-- The tiles of a translation, each once. -/
def tilesOf (parts : List (Nat × Nat)) : List Nat := (parts.map (fun p => tileOf p.1)).foldl setAdd []

/-- The parts that a message's data covers. -/
def Msg.parts (m : Msg) : List (Nat × Nat) := sliceParts m.pieces 0 m.len

/-- A line of a part is poisoned; `whole` lets lines pass that the part covers whole (T11). -/
def State.partPoisoned (s : State) (whole : Bool) (p : Nat × Nat) : Bool :=
  (linesOf p.1 p.2).any (fun l =>
    s.kept.poison.contains l && !(whole && decide (p.1 ≤ l * 256) && decide (l * 256 + 256 ≤ p.1 + p.2)))

/-! ### Drops and NAKs of a packet -/

/-- Counts a packet dropped at a port (R72, R91). -/
def State.drop (s : State) (p : Packet) (f : Nat → Fld) : State := s.sat (f (portOf p.lport))

/-- A check of T7 to T11 has failed: on RC a NAK is decided; a UD message is dropped without response. -/
def State.refuse (s : State) (n psn syn : Nat) (v : Verb) : State :=
  match s.qpAt n with
  | some q => if q.rc then s.decideNak n psn syn (verbWrites v) else s.dropOne n psn
  | none => s

/-- RNR NAKs leave at once where they can (R60, R63, R64). -/
def State.rnr (s : State) (n psn syn : Nat) (v : Verb) : State := (s.refuse n psn syn v).tryNak n

/-! ### Parks (R62, R64) -/

/-- RGN_PARK_STAT.peak follows the number of parked messages. -/
def State.notePark (s : State) : State :=
  if s.fld F.RGN_PARK_STAT_peak < s.parks.length then s.setFld F.RGN_PARK_STAT_peak s.parks.length else s

/-- A message that parks on tiles whose copy has not come raises them in the copy that runs: LEAD's copy order, which FOLLOW asks LEAD to change, for the
restore order looks at the parked messages itself (R62, R156). -/
def State.raiseCopies (s : State) (parts : List (Nat × Nat)) : State :=
  ((tilesOf parts).filter s.awaited).foldl (fun s t =>
    if s.mirrored then (if s.lead then s.copyFirst t else s.seamSend (.ctx (.copyFirst t))) else s) s

/-- A message parks, or gets an RNR NAK at once where 8,192 are parked. -/
def State.park (s : State) (n : Nat) (m : Msg) (put : State → Msg → State) : State :=
  if s.parks.contains (n, m.psn) then put s m
  else if 8192 ≤ s.parks.length then ((put s m).rnr n m.psn 0x42 m.verb).raise Ev.RGN_PARK_FULL
  else ((put { s with parks := s.parks ++ [(n, m.psn)] } { m with phase := .parked s.mrt }).raiseCopies m.parts).notePark

/-! ### Acceptance (R72) -/

/-- Replaces a message of a queue pair by its PSN. -/
def State.setMsg (s : State) (n : Nat) (m : Msg) : State :=
  s.modQp n (fun q => { q with msgs := q.msgs.map (fun x => if x.psn = m.psn ∧ !x.committed then m else x) })

/-- Every message before one on its queue pair has been accepted (R77). -/
def earlierOf (ms : List Msg) (psn : Nat) : List Msg := ms.takeWhile (fun x => x.psn != psn || x.committed)

def Msg.accepted (m : Msg) : Bool :=
  match m.phase with
  | .receiving | .parked _ => false
  | _ => true

/-- FOLLOW may forward a message: those before it are accepted, and READs before it have been read (R77, R78). -/
def mayForward (before : List Msg) : Bool := before.all (fun x => x.accepted && (x.verb != .read || x.dup || x.committed))

/-- The operation a message carries to the twin (R167). -/
def Msg.op (m : Msg) : SeamOp :=
  match m.pub, m.verb with
  | some (c, p), .send => .publish c p m.data
  | _, .compareSwap => .compareSwap ((m.pieces.head?.map (·.1)).getD 0) m.cmp m.swapAdd
  | _, .fetchAdd => .fetchAdd ((m.pieces.head?.map (·.1)).getD 0) m.swapAdd
  | _, .atomicWrite => .atomicWrite ((m.pieces.head?.map (·.1)).getD 0) m.swapAdd
  | _, _ => .write (carve m.parts m.data)

/-- A message as it crosses Seam. -/
def Msg.carry (m : Msg) (n : Nat) : SeamMsg := ⟨⟨n % 65536, by omega⟩, m.psn, m.region.getD 0, m.op, m.result⟩

/-- FOLLOW forwards to LEAD what it has accepted and may forward (R167). -/
def State.forwardReady (s : State) (n : Nat) : State :=
  if !s.mirrored || s.lead then s
  else
    match s.qpAt n with
    | none => s
    | some q =>
      q.msgs.foldl (fun s m =>
        if (m.isWrite || m.isAtomic) && m.phase == .accepted && !m.fwd && mayForward (earlierOf q.msgs m.psn) then
          (s.seamSend (.fwd (m.carry n) m.local_ m.relaxed)).setMsg n { m with fwd := true }
        else s) s

/-- T11: what a message reads, or writes in part, is not poisoned. -/
def State.t11 (s : State) (m : Msg) : Bool :=
  match m.verb with
  | .read | .compareSwap | .fetchAdd => m.parts.all (fun p => !s.partPoisoned false p)
  | .write | .writeImm | .send | .atomicWrite => m.parts.all (fun p => !s.partPoisoned true p)
  | .flush => true

/-- A message whose packets have all arrived, and whose granules are present, is accepted, or refused at T11 (R72). -/
def State.accept (s : State) (n : Nat) (m : Msg) : State :=
  if s.t11 m then (s.setMsg n { m with phase := .accepted }).forwardReady n
  else s.refuse n m.psn 0x28 m.verb

/-- A park has ended: the monitors sample its length (R359). -/
def State.sampleRest (s : State) (m : Msg) : State :=
  match m.phase with
  | .parked t => s.sample 4 none (s.mrt - t)
  | _ => s

/-- The message waits for want of a home, and not for a granule (R123). -/
def Msg.waitsFor (m : Msg) (d : Need) : Msg := { m with throttled := d == .throttled }

/-- Replaces a message of a queue pair that has not committed, complete or under reception. -/
def State.putMsg (s : State) (n : Nat) (m : Msg) : State :=
  s.modQp n (fun q => { q with
    msgs := q.msgs.map (fun (x : Msg) => if x.psn = m.psn ∧ !x.committed then m else x)
    cur := q.cur.map (fun (x : Msg) => if x.psn = m.psn then m else x) })

/-- The lookup of a message's granules again: a parked message whose granules are present unparks (R63). -/
def State.retryPark (s : State) (p : Nat × Nat) : State :=
  match s.qpAt p.1 with
  | none => s
  | some q =>
    let key := s.domainKey q.pd
    match (q.msgs ++ q.cur.toList).find? (fun m => m.psn = p.2 ∧ !m.accepted) with
    | none => { s with parks := s.parks.erase p }
    | some m =>
      let got := sliceParts m.pieces 0 (if m.phase = .receiving then 0 else if q.cur = some m then m.got else m.len)
      let (s, d) := s.lookup (m.isWrite || m.isAtomic) key p.1 p.2 got
      if d = .ok then
        let s := ({ s with parks := s.parks.erase p }).sampleRest m
        if q.cur = some m then s.modQp p.1 (fun q => { q with cur := some { m with phase := .receiving } })
        else s.accept p.1 m
      else s.putMsg p.1 (m.waitsFor d)

/-- Parked messages are tried again in the order parked (R62, R123). -/
def State.retryParks (s : State) : State := s.parks.foldl State.retryPark s.retryOwn

/-! ### T9 and T10 -/

/-- The number that a message goes by: the PSN of its first packet; on a UD queue pair, whose packets are in no order, its number among those
received (DESIGN CHOICE, log entry 105). -/
def Qp.key (q : Qp) (p : Packet) : Nat := if q.rc then p.psn else q.epsn

/-- A message as its first packet makes it. -/
def mkMsg (q : Qp) (p : Packet) (v : Verb) (region : Option Nat) (isLocal : Bool) (pieces : List (Nat × Nat)) (len k : Nat) : Msg :=
  { psn := q.key p, wirePsn := if q.rc then none else some p.psn, last := psnAdd (q.key p) (k - 1), verb := v, region := region, pieces := pieces, len := len, data := [], imm := p.imm,
    cmp := p.cmp, swapAdd := p.swapAdd, relaxed := q.relaxed && p.solicit && v == .write, ackReq := p.ackReq, local_ := isLocal,
    entry := none, got := 0, phase := .receiving, atPoint := false, fwd := false, dup := false, resent := false, pub := none,
    result := none, solicit := p.solicit, arrived := 0 }

/-- An uncorrectable error met by the walk or by a read (R220). -/
def State.meet (s : State) (line : Option Nat) : State :=
  match line with
  | some l => s.dataError l
  | none => s

/-- READ and atomic requests of a queue pair that have not completed (T8). -/
def Qp.outstanding (q : Qp) : Nat := (q.msgs.filter (fun m => m.verb == .read || m.isAtomic)).length

/-- Keeps the results of the last `resources` atomics (R76). -/
def Qp.keepAtomic (q : Qp) (psn : Nat) (r : BitVec 64) : Qp :=
  let l := q.atomics.filter (fun a => a.1 != psn) ++ [(psn, r)]
  { q with atomics := l.drop (l.length - q.resources) }

/-- A request that is admitted takes the cells that hold its packet: they pass to the engine (R35). -/
def State.takeHand (s : State) (n : Nat) (m : Msg) : State × Msg :=
  (({ s with spool := { s.spool with inHand := [] } }).passChain (((s.qpAt n).bind (·.engine)).getD 0) s.spool.inHand,
    { m with cells := m.cells ++ s.spool.inHand })

/-- A packet's data joins the message under way; T10 on what it covers; its last packet ends reception. -/
def State.receiveData (s : State) (n : Nat) (m : Msg) (p : Packet) (done : Bool) : State :=
  match s.qpAt n with
  | none => s
  | some q =>
    let here := sliceParts m.pieces m.got p.data.length
    let (s, d) := s.lookup true (s.domainKey q.pd) n m.psn here
    let (s, m) := s.takeHand n m
    let m := { m with
      data := m.data ++ p.data, got := m.got + p.data.length, last := if q.rc then p.psn else m.last, ackReq := p.ackReq, arrived := s.mrt }
    let put := fun (s : State) (m : Msg) =>
      if done then s.modQp n (fun q => { q with cur := none, msgs := q.msgs ++ [m] }) else s.modQp n (fun q => { q with cur := some m })
    let s := s.modQp n (fun q => { q with epsn := psnAdd m.last 1 })
    match d with
    | .refused => (put s m).refuse n m.psn 0x29 m.verb
    | .ok =>
      if done then
        if m.phase = .receiving then (put s m).accept n m else put s m
      else put s m
    | _ => s.park n (m.waitsFor d) put

/-- A request that carries no data: READ, atomic, FLUSH. -/
def State.receiveRequest (s : State) (n : Nat) (m : Msg) (k : Nat) : State :=
  match s.qpAt n with
  | none => s
  | some q =>
    let (s, m) := s.takeHand n { m with arrived := s.mrt }
    let (s, d) := if m.verb = .flush then (s, .ok) else s.lookup m.isAtomic (s.domainKey q.pd) n m.psn m.parts
    let put := fun (s : State) (m : Msg) => s.modQp n (fun q => { q with msgs := q.msgs ++ [m] })
    let s := if m.dup then s else s.modQp n (fun q => { q with epsn := psnAdd m.psn k })
    match d with
    | .refused => (put s m).refuse n m.psn 0x29 m.verb
    | .ok => (put s m).accept n m
    | _ => s.park n (m.waitsFor d) put

/-- The first entry of a queue pair's receive queue. -/
def State.peekEntry (s : State) (n : Nat) : Option RecvEntry := (s.takeEntry n).2

/-- A SEND's first packet (T9): a publisher's needs no entry and keeps to max_msg (R94); any other needs an entry whose buffer holds it
and whose region passes R51. The length of a SEND of several packets is not known at the first of them: R51 is checked for the whole buffer of the entry then,
and for the message's own length where its first packet is the only one (DESIGN CHOICE, log entry 153). -/
def State.startSend (s : State) (n : Nat) (q : Qp) (p : Packet) (pos : Pos) : State :=
  let len := p.data.length
  match s.publisher n with
  | some (c, i) =>
    let max := (alGet s.kept.chans c).elim 0 (fun ch => ch.args.maxMsg)
    let isLocal := (alGet s.kept.chans c).elim false (fun ch => ch.args.local_)
    if max < len then s.refuse n (q.key p) 0x14 .send
    else s.receiveData n { mkMsg q p .send none isLocal [] len 1 with pub := some (c, i) } p (pos == .only)
  | none =>
    match s.peekEntry n with
    | none => s.rnr n (q.key p) 0x43 .send
    | some e =>
      if e.len < len then s.refuse n (q.key p) 0x14 .send
      else
        let want := if pos = .only then len else e.len
        let (s, r) := (s.meet p.walkUe).admits q.pd e.key .none ((s.rgn (keyIndex e.key)).vaBase + e.offset) want true
        match r with
        | .error syn => s.refuse n (q.key p) syn .send
        | .ok (i, pieces) =>
          let s := (s.takeEntry n).1
          let m := { mkMsg q p .send (some i) (s.rgn i).local_ pieces len 1 with entry := some e }
          s.receiveData n m p (pos == .only)

/-- A WRITE's first packet (T8, T9). One with immediate on a publisher takes no receive entry, for the queue pair's rq is ignored (R94). -/
def State.startWrite (s : State) (n : Nat) (q : Qp) (p : Packet) (v : Verb) (pos : Pos) (r : Reth) : State :=
  if 2 ^ 31 < r.len ∨ r.len < p.data.length ∨ (pos = .only ∧ p.data.length ≠ r.len) then s.refuse n p.psn 0x11 v
  else
    let (s, a) :=
      if r.len = 0 then (s, .ok (0, []))
      else (s.meet p.walkUe).admits q.pd r.key .write r.va r.len true
    match a with
    | .error syn => s.refuse n p.psn syn v
    | .ok (i, pieces) =>
      let own := v == .writeImm && !(s.publisher n).isSome
      if own ∧ (s.peekEntry n).isNone then s.rnr n p.psn 0x43 v
      else
        let (s, e) := if own then s.takeEntry n else (s, none)
        let m := mkMsg q p v (if r.len = 0 then none else some i) (r.len != 0 && (s.rgn i).local_) pieces r.len 1
        s.receiveData n { m with entry := e } p (pos == .only)

/-- READ, atomics and FLUSH (T8, T9). An atomic of other than 8 bytes is not supported (R67), and so fails T7 (DEDUCED, log entry 106). -/
def State.startOther (s : State) (n : Nat) (q : Qp) (p : Packet) (v : Verb) (r : Reth) (dup : Bool) : State :=
  let len := if v = .read then r.len else if v = .flush then 0 else 8
  let k := if v = .read then Nat.max 1 (ceilDiv len (Nat.max 1 q.pmtu)) else 1
  let bounds := v != .flush || p.region == false
  let span := if v = .flush then r.len else len
  if v = .atomicWrite ∧ r.len ≠ 8 then s.refuse n p.psn 0x10 v
  else if 2 ^ 31 < r.len then s.refuse n p.psn 0x11 v
  else if v ≠ .read ∧ v ≠ .flush ∧ r.va % 8 ≠ 0 then s.refuse n p.psn 0x12 v
  else if v ≠ .flush ∧ !dup ∧ q.resources ≤ q.outstanding then s.refuse n p.psn 0x13 v
  else
    let (s, a) :=
      if v = .read ∧ len = 0 then (s, .ok (0, []))
      else (s.meet p.walkUe).admits q.pd r.key (verbRight v) r.va span bounds
    match a with
    | .error syn => s.refuse n p.psn syn v
    | .ok (i, pieces) =>
      let s := if v = .read ∨ v = .compareSwap ∨ v = .fetchAdd then s.meet p.dataUe else s
      let m := mkMsg q p v (if v = .read ∧ len = 0 then none else some i) ((s.rgn i).local_) (if v = .flush then [] else pieces) len k
      s.receiveRequest n { m with dup := dup } k

/-- A MIDDLE or LAST packet (T8, T9): the message keeps to its length and buffer. -/
def State.continueMsg (s : State) (n : Nat) (m : Msg) (p : Packet) (v : Verb) (pos : Pos) : State :=
  let total := m.got + p.data.length
  let max := match m.pub with
    | some (c, _) => (alGet s.kept.chans c).elim 0 (fun ch => ch.args.maxMsg)
    | none => m.entry.elim 0 (·.len)
  if m.verb = .send then
    if 2 ^ 31 < total then s.refuse n m.psn 0x11 .send
    else if max < total then s.refuse n m.psn 0x14 .send
    else s.receiveData n { m with len := total } p (pos == .last)
  else if m.len < total ∨ (pos = .last ∧ total ≠ m.len) then s.refuse n m.psn 0x11 v
  else if v = .writeImm then
    let own := !(s.publisher n).isSome
    if own ∧ (s.peekEntry n).isNone then s.rnr n m.psn 0x43 v
    else
      let (s, e) := if own then s.takeEntry n else (s, none)
      s.receiveData n { m with verb := .writeImm, imm := p.imm, relaxed := false, entry := e } p true
  else s.receiveData n m p (pos == .last)

/-- A packet that re-sends a message already committed: nothing is applied; its last packet puts the message back in its place (R87). -/
def State.resend (s : State) (n : Nat) (m : Msg) (p : Packet) (pos : Pos) : State :=
  s.modQp n (fun q =>
    let q := { q with epsn := psnAdd p.psn 1 }
    if pos = .only ∨ pos = .last then
      match q.past.find? (fun x => x.psn = m.psn) with
      | some x => { q with cur := none, past := q.past.filter (fun y => y.psn != m.psn), msgs := q.msgs ++ [{ x with ackReq := p.ackReq, last := p.psn }] }
      | none => { q with cur := none }
    else { q with cur := some { m with resent := true, last := p.psn } })

/-- A packet at epsn: T7 to T11 (R72). It ends a replacement before its NAK has left (R87), and withdraws a SEQ_AHEAD NAK that still waits (DESIGN
CHOICE, log entry 107). -/
def State.inOrder (s : State) (n : Nat) (p : Packet) : State :=
  let s := if ((s.qpAt n).bind (·.replace)).isSome then s.endReplace n false else s
  let s := s.modQp n (fun q => { q with naked := false, nak := q.nak.filter (fun k => k.2.1 != 1) })
  match s.qpAt n with
  | none => s
  | some q =>
    match opVerb p.op with
    | none => s.refuse n p.psn 0x10 .write
    | some (v, pos) =>
      if !legal q.cur v pos then s.refuse n ((q.cur.map (·.psn)).getD p.psn) 0x10 v
      else
        let old := match q.cur with
          | some m => if m.resent then some m else none
          | none => q.past.find? (fun m => m.psn = p.psn)
        match old with
        | some m => (s.resend n m p pos).sweep n
        | none =>
          let start := (q.cur.map (·.psn)).getD p.psn
          if q.pmtu < p.data.length ∨ ((pos = .first ∨ pos = .middle) ∧ p.data.length ≠ q.pmtu) then s.refuse n start 0x11 v
          else
            match q.cur with
            | some m => s.continueMsg n m p v pos
            | none =>
              let r := p.reth.getD ⟨0, 0, 0⟩
              match v with
              | .send => s.startSend n q p pos
              | .write | .writeImm => s.startWrite n q p v pos r
              | .read | .compareSwap | .fetchAdd | .atomicWrite | .flush => s.startOther n q p v r false

/-- A duplicate (R75). -/
def State.duplicate (s : State) (n : Nat) (p : Packet) : State :=
  match s.qpAt n with
  | none => s
  | some q =>
    match opVerb p.op with
    | none => s
    | some (v, pos) =>
      match v with
      | .send | .write | .writeImm =>
        if psnBefore p.psn q.doneTo then (if (pos = .last ∨ pos = .only) ∧ s.gates then s.ackNow n else s)
        else s.modQp n (fun q => { q with msgs := q.msgs.map (fun m => if m.last = p.psn then { m with ackReq := true } else m) })
      | .compareSwap | .fetchAdd | .atomicWrite =>
        match q.atomics.find? (fun a => a.1 = p.psn) with
        | some (_, r) => if psnBefore p.psn q.doneTo ∧ s.gates then (s.pay n 0 p.psn p.psn).sendPkt n (.atomicAck p.psn r) else s
        | none => s
      | .read | .flush =>
        if q.msgs.any (fun m => m.psn = p.psn) then s
        else s.startOther n q p v (p.reth.getD ⟨0, 0, 0⟩) true

/-- T6: the packet's PSN (R75). After an RNR NAK of a duplicate, later packets are dropped until it comes again (R63). -/
def State.t6 (s : State) (n : Nat) (q : Qp) (p : Packet) : State :=
  let late : Bool := match q.rnrAt with
    | some r => psnBefore r p.psn
    | none => false
  if late then s
  else
    let s := s.modQp n (fun q => { q with rnrAt := q.rnrAt.filter (fun r => r != p.psn) })
    let d := psnDist q.epsn p.psn
    if d = 0 then s.inOrder n p
    else if 2 ^ 23 ≤ d then s.duplicate n p
    else if q.naked then s
    else (s.modQp n (fun q => { q with naked := true })).decideNak n q.epsn 0x01 true

/-! ### PACKET_RECEIVE (R72) -/

/-- CNP_SEND (R84): to the source queue pair, at most once per cnp_gap per queue pair. A CE mark on a cc_class 0 queue pair is counted and not echoed. -/
def State.echo (s : State) (n : Nat) (p : Packet) : State :=
  match s.qpAt n with
  | none => s
  | some q =>
    let port := portOf p.lport
    let ce := p.ce || (p.ect && decide (s.fld (F.PORT_CC_ECN_mark_kib port) * 1024 < s.portCells port * 256))
    let rested : Bool := match q.cnpSentAt with
      | some t => decide (t + s.fld (F.PORT_CC_ECN_cnp_gap port) * 1000 ≤ s.mrt)
      | none => true
    if ce && q.ccClass == 0 then s.setQp n { q with ceMarks := q.ceMarks + 1 }
    else if ce && rested then (s.setQp n { q with cnpSentAt := some s.mrt }).sendPkt n (.cnp p.srcAddr p.srcQpn)
    else s

/-- The receive association that protects a packet (R86, R272). -/
def State.rxAssoc (s : State) (p : Packet) : Option Assoc := alGet s.kept.assocs (assocIndex p.lport (1 + p.sc.val) p.an.val)

/-- T1 (R86): the secure tag against the policy, the integrity check, the replay window, the dual computation (R269). An association that is not
installed verifies nothing. -/
def State.t1 (s : State) (p : Packet) : Bool :=
  let pol := s.msecPolicy p.lport
  if pol = 0 then !p.tagged
  else if p.tagged then p.icvOk && p.dual != some false && (s.rxAssoc p).any (fun a => decide (a.pn ≤ p.pn))
  else pol == 1 && s.bypasses (portOf p.lport) p.etype.toNat

/-- PTP's EtherType, which IEEE 1588 gives (PRESUMED, log entry 132). -/
abbrev ptpEther : Nat := 0x88F7

/-- A PTP message passes its port's MACsec policy (R86); `protected_` says that it came protected and passed T1. -/
def State.ptpPasses (s : State) (lport : Nat) (protected_ : Bool) : Bool :=
  if s.msecPolicy lport = 0 then !protected_ else protected_ || (s.msecPolicy lport == 1 && s.bypasses (portOf lport) ptpEther)

/-- PTP_MESSAGE_RECEIVE (R86, R307, R308): the policy applies to PTP's frames too. -/
def State.ptpReceive (s : State) (lport : Nat) (m : PtpMsg) (protected_ : Bool) : State :=
  if s.ptpPasses lport protected_ then doPtpMessageReceive lport m s else s.sat (F.PORT_RX_DROP_macsec (portOf lport))

def execPtpMessageReceive (lport : Lport) (m : PtpMsg) (protected_ : Bool) (s : State) : Res := s.core fun s => s.ptpReceive lport.val m protected_

/-- The replay window moves up behind a frame that has been verified: its lowest acceptable packet number lies 2^rpl_log2 − 1 below the next one
(R86). -/
def State.slide (s : State) (p : Packet) : State :=
  match s.rxAssoc p with
  | some a =>
    let low := p.pn + 1 - (2 ^ s.fld (F.PORT_MSEC_CFG_rpl_log2 (portOf p.lport)) - 1)
    if p.tagged then
      { s with kept := { s.kept with assocs := alPut s.kept.assocs (assocIndex p.lport (1 + p.sc.val) p.an.val) { a with pn := Nat.max a.pn low } } }
    else s
  | none => s

/-- T5: the source, P_Key or Q_Key that the context names. -/
def Qp.t5 (q : Qp) (p : Packet) : Bool :=
  if q.rc then q.remote == some (p.srcAddr, p.srcQpn) && q.pKey == p.pkey else q.qKey == p.qkey

/-- The opcode's transport is that of the queue pair (T3). -/
def Qp.t3 (q : Qp) (p : Packet) : Bool :=
  match p.op with
  | .udSend | .udOther => !q.rc
  | .other => false
  | _ => q.rc

/-- A NAK of ERROR class waits (R80). -/
def Qp.failing (q : Qp) : Bool :=
  match q.nak with
  | some (_, syn, _) => decide (0x10 ≤ syn) && decide (syn < 0x40)
  | none => false

/-- Outstanding requests take their places in the transmit queue again. -/
def State.resendReqs (s : State) (n : Nat) (l : List Req) : State :=
  let s := { s with ports := { s.ports with tx := s.ports.tx.filter (fun t => !(t.qp == n && l.any (fun r => r.wire == t.wire))) } }
  l.foldl (fun s r => s.queuePkt n r.wire true) s

/-- The outstanding requests of a requester are sent again, unless its retries are exhausted, when it enters ERROR (R69). -/
def State.retryReqs (s : State) (n : Nat) : State :=
  match s.qpAt n with
  | none => s
  | some q =>
    match q.reqs with
    | [] => s
    | r :: _ =>
      if q.retry ≤ q.tries then s.enterError n 0 r.psn
      else (s.setQp n { q with tries := q.tries + 1 }).resendReqs n q.reqs

/-- A response to a request that the device sent (R69): ACKs have their row; a sequence-error NAK and an RNR NAK have the outstanding requests sent
again, at most `retry` and `rnr_retry` times, 7 being no limit to the latter; any other NAK ends in ERROR (R101; PRESUMED of RoCE v2, log entry 108). -/
def State.takeNak (s : State) (n : Nat) (q : Qp) (p : Packet) : State :=
  if q.state ≠ .rts ∨ p.op ≠ .ack ∨ !(q.reqs.any (fun r => decide (psnDist r.psn p.psn ≤ psnDist r.psn r.last))) then s
  else if p.aeth = 0x60 then s.retryReqs n
  else if 0x61 ≤ p.aeth ∧ p.aeth < 0x80 then s.enterError n 0 p.psn
  else if 0x20 ≤ p.aeth ∧ p.aeth < 0x40 then
    if q.rnrRetry ≠ 7 ∧ q.rnrRetry ≤ q.rnrTries then s.enterError n 0 p.psn
    else (s.setQp n { q with rnrTries := q.rnrTries + 1 }).resendReqs n q.reqs
  else s

/-- A UD SEND (T7, T8): one packet, no longer than the path MTU; what fails is dropped. -/
def State.udSend (s : State) (n : Nat) (q : Qp) (p : Packet) : State :=
  if p.op ≠ .udSend ∨ q.pmtu < p.data.length then s else s.startSend n q p .only

/-- T4 onwards. `deliver` takes a management frame to the gate (R368). A packet of a queue pair that has gone back to its former host is forwarded whole for
1 s (R194); that unit takes it with its own PACKET_RECEIVE (DESIGN CHOICE, log entry 154). -/
def State.t4 (s : State) (n : Nat) (q : Qp) (p : Packet) (deliver : State → MgmtFrame → State) : State :=
  if !s.hosts q ∧ q.fwdUntil.any (fun t => decide (s.mrt < t)) then s.seamSend (.relay n p)
  else if !qpLive q.state then s.drop p F.PORT_RX_DROP_qp
    else if q.engine.isNone then s.drop p F.PORT_RX_DROP_unbound
  else if !q.t5 p || q.failing then s.drop p F.PORT_RX_DROP_qp
  else
    let s := s.echo n p
    let q := (s.qpAt n).getD q
    if opResponse p.op then s.takeNak n q p
    else if q.rc then s.t6 n q p
    else
      match p.mgmt with
      | some f => if n = 0 then deliver s f else s.udSend n q p
      | none => if n = 0 then s else s.udSend n q p

/-- T3 onwards, for a packet that Spool holds. -/
def State.route (s : State) (p : Packet) (deliver : State → MgmtFrame → State) : State :=
  if p.qpn < 0x10000 ∨ 0x20000 ≤ p.qpn then s.drop p F.PORT_RX_DROP_qp
  else
    let n := p.qpn - 0x10000
    match s.qpAt n with
    | none => s.drop p F.PORT_RX_DROP_qp
    | some q => if q.t3 p then s.t4 n q p deliver else s.drop p F.PORT_RX_DROP_qp

/-- The hosts' requests are served: a mode that serves hosts (R7), and the gates open (R182). -/
def State.hostsServed (s : State) : Bool := s.serves && s.gates

/-- PACKET_RECEIVE: T1 to T11 in order; the first check that fails ends it (R72). A unit whose gates are closed drops requests (R182). Between T2 and
T3 the port holds the packet in Spool cells of its own, which an admitted request takes over (R35); a packet that Spool has no cells for is
lost, and counted nowhere (DESIGN CHOICE, log entry 109). -/
def State.doPacket (s : State) (p : Packet) (deliver : State → MgmtFrame → State) : State :=
  let s := match p.dual with
    | some true => s.dual .retryAgrees p.lane
    | some false => s.dual .retryDiffers p.lane
    | none => s
  if !s.t1 p then s.drop p F.PORT_RX_DROP_macsec
  else
    let s := s.slide p
    if !p.hdrOk then s.drop p F.PORT_RX_DROP_header
    else if !s.hostsServed then s.drop p F.PORT_RX_DROP_qp
    else
      match s.takeChain (64 + portOf p.lport) p.prio.val (cellsFor p.data.length) with
      | none => s
      | some (s, l) => (State.route { s with spool := { s.spool with inHand := l } } p deliver).dropHand

/-! ### MESSAGE_COMMIT (R77, R78) -/

/-- The order of R78: a message may commit after those before it on its queue pair. -/
def mayCommit (m : Msg) (before : List Msg) : Bool :=
  before.all (fun x => x.accepted) &&
  (match m.verb with
   | .read => before.all (fun x => (x.verb != .read && !x.isAtomic) || x.committed)
   | .flush => false
   | _ =>
     if m.relaxed then
       -- relaxed writes of one run commit in any order
       let run := ((before.filter (fun x => !x.dup)).reverse.takeWhile (fun x => x.relaxed)).map (·.psn)
       before.all (fun x => x.committed || x.verb == .flush || run.contains x.psn)
     else before.all (fun x => x.committed || x.verb == .flush))

/-- Bytes of earlier writes of the same queue pair that have not committed, over a byte of memory (R78). -/
def patch (ws : List (Nat × List Byte)) (a : Nat) (b : Byte) : Byte :=
  ws.foldl (fun b w => if w.1 ≤ a ∧ a < w.1 + w.2.length then w.2.getD (a - w.1) b else b) b

/-- The data of a READ: also writes of the queue pair whose MIRROR frames have arrived and are not yet applied (R167). -/
def State.readData (s : State) (n : Nat) (before : List Msg) (parts : List (Nat × Nat)) : List Byte :=
  let early := s.seam.early.flatMap (fun e =>
    match e.2 with
    | .mirror _ m => if m.qp.val = n then (match m.op with | .write ps => ps | .atomicWrite a v => [(a, leBytes 8 v.toNat)] | _ => []) else []
    | _ => [])
  let ws := early ++ (before.filter (fun m => m.isWrite && !m.committed)).flatMap (fun m => carve m.parts m.data)
  parts.flatMap (fun p => (List.range p.2).map (fun i => patch ws (p.1 + i) (s.byte (p.1 + i))))

/-- Splits data into packets of a path MTU. -/
def chunks (k : Nat) : Nat → List Byte → List (List Byte)
  | 0, d => [d]
  | fuel + 1, d => if d.length ≤ k then [d] else d.take k :: chunks k fuel (d.drop k)

/-- The responses of a READ join the port's transmit queue. -/
def State.queueRead (s : State) (n : Nat) (q : Qp) (m : Msg) (data : List Byte) : State :=
  let cs := chunks (Nat.max 1 q.pmtu) data.length data
  (cs.zipIdx).foldl (fun s c => s.queuePkt n (.readResp (psnAdd m.psn c.2) c.1) (c.2 + 1 = cs.length)) s

/-- Lines of the next addresses enter the side buffer after two ascending line misses by one queue pair (R226). -/
def State.prefetch (s : State) (n line : Nat) : State :=
  let before := alGet s.nc.misses n
  let s := { s with nc := { s.nc with misses := alPut s.nc.misses n line } }
  if s.bit F.NCACHE_PF_CFG_seq_en ∧ before = some (line - 1) ∧ 1 ≤ line then
    (List.range (s.fld F.NCACHE_PF_CFG_seq_lines)).foldl (fun s i =>
      let l := line + 1 + i
      if s.cached l || !((s.tile (l / 256)).homeOf (l % 256 / 16) == .dram) || !(s.tile (l / 256)).present then s
      else s.sidePut l false) s
  else s

/-- The line misses of a queue pair's access to a part (R226). -/
def State.missesOf (s : State) (n : Nat) (p : Nat × Nat) : State :=
  (linesOf p.1 p.2).foldl (fun s l => if s.cached l || !((s.tile (l / 256)).homeOf (l % 256 / 16) == .dram) then s else s.prefetch n l) s

/-- Reads the lines of a part for a queue pair. -/
def State.loadFor (s : State) (n : Nat) (p : Nat × Nat) : State := (s.missesOf n p).load p.1 p.2

/-- Writes bytes to parts for a queue pair. -/
def State.storeFor (s : State) (n : Nat) (parts : List (Nat × Nat)) (data : List Byte) : State :=
  (parts.foldl (fun s p => s.missesOf n p) s).storeParts parts data

/-- Marks a message committed. -/
def State.setCommitted (s : State) (n : Nat) (m : Msg) : State := s.setMsg n { m with phase := .committed }

/-- The old value and the new one of an atomic. -/
def atomicStep (m : Msg) (old : BitVec 64) : BitVec 64 × BitVec 64 :=
  match m.verb with
  | .compareSwap => (old, if old = m.cmp then m.swapAdd else old)
  | .fetchAdd => (old, old + m.swapAdd)
  | _ => (0, m.swapAdd)

/-- A write or atomic has been applied: releases are read, the mirror leaves, and it may be at its acknowledgement point. -/
def State.afterCommit (s : State) (n : Nat) (m : Msg) : State :=
  let s := match m.region with
    | some i => s.readReleases i m.parts
    | none => s
  let s := s.endShare n m.psn
  let tiles := match m.verb, m.pub with
    | .send, some (c, q) => s.logTilesOf c q
    | _, _ => tilesOf m.parts
  let (s, now) := s.mirrorCommit (m.carry n) tiles m.local_ (if m.verb = .send then m.pub else none) m.relaxed
  if now then (s.setCommitted n { m with atPoint := true }).reachPoint n m.psn (if m.verb = .send then m.pub else none)
  else s.setCommitted n m

/-- A message commits on the unit that orders writes, or a READ on its own unit (R77). -/
def State.apply (s : State) (n : Nat) (q : Qp) (m : Msg) (before : List Msg) : State :=
  match m.verb with
  | .read =>
    let s := m.parts.foldl (fun s p => s.loadFor n p) s
    ((s.queueRead n q m (s.readData n before m.parts)).setCommitted n m).endShare n m.psn |>.forwardReady n
  | .flush => s
  | .compareSwap | .fetchAdd | .atomicWrite =>
    let a := (m.pieces.head?.map (·.1)).getD 0
    let (r, v) := atomicStep m (BitVec.ofNat 64 (leNat (s.bytes a 8)))
    let s := s.storeFor n m.parts (leBytes 8 v.toNat)
    let s := s.modQp n (fun q => q.keepAtomic m.psn r)
    s.afterCommit n { m with result := some r }
  | .write | .writeImm => (s.storeFor n m.parts m.data).afterCommit n m
  | .send =>
    match m.pub with
    | some (c, i) =>
      let (s, seq) := s.commitPublish c i m.data s.commit
      s.afterCommit n { m with pub := some (c, seq) }
    | none => (s.storeFor n m.parts m.data).afterCommit n m

/-- MESSAGE_COMMIT (R77, R78): a message that is accepted and may commit is applied whole, or stops at an error its reads meet. One that finds a
granule NAND-homed, for a demotion has switched since, parks under R62 (R114; so does a read: DEDUCED, log entry 145). -/
def State.doCommit (s : State) (n psn : Nat) (rd : CommitRead) : State :=
  match s.qpAt n with
  | none => s
  | some q =>
    match q.msgs.find? (fun m => m.psn = psn ∧ !m.committed) with
    | none => s
    | some m =>
      let before := earlierOf q.msgs psn
      let stopped : Bool := match q.nak with
        | some (p, _, _) => !psnBefore psn p
        | none => false
      if m.phase ≠ .accepted ∨ !mayCommit m before ∨ !qpLive q.state ∨ q.engine.isNone ∨ stopped ∨ !s.hostsServed ∨
          (m.verb ≠ .read ∧ s.mirrored ∧ !s.lead) then s
      else
        match rd, m.isWrite || m.verb == .atomicWrite with
        | .spoolUe, true => s.refuse n psn 0x30 m.verb
        | .mergeUe line, true => (s.dataError line).refuse n psn 0x30 m.verb
        | .cipher false lane, _ => (s.dual .retryDiffers lane.val).refuse n psn 0x30 m.verb
        | rd, _ =>
          let s := match rd with
            | .cipher _ lane => s.dual .retryAgrees lane.val
            | _ => s
          let (s, d) := s.lookup (m.isWrite || m.isAtomic) (s.domainKey q.pd) n psn m.parts
          if d = .ok then s.apply n q m before else s.park n (m.waitsFor d) (fun s m => s.setMsg n m)


/-! ### ACKs, NAKs and thresholds -/

/-- ACK_IDLE_EXPIRE (R74). -/
def State.doAckIdle (s : State) (n : Nat) : State :=
  match s.qpAt n with
  | some q => if q.rc ∧ qpLive q.state ∧ !q.unacked.isEmpty ∧ s.gates then s.ackNow n else s
  | none => s

def execAckIdleExpire (qp : Qpi) (s : State) : Res := s.core fun s => s.doAckIdle qp.val

/-- ACK_MSGS_REACHED (R74): ack_msgs messages have completed without an ACK. -/
def State.doAckMsgs (s : State) (n : Nat) : State :=
  match s.qpAt n with
  | some q =>
    if q.rc ∧ qpLive q.state ∧ s.fld (F.PORT_TP_CFG_ack_msgs (portOf q.lport)) ≤ q.unacked.length ∧ !q.unacked.isEmpty ∧ s.gates then s.ackNow n else s
  | none => s

def execAckMsgsReached (qp : Qpi) (s : State) : Res := s.core fun s => s.doAckMsgs qp.val

/-- NAK_SEND (R74). -/
def execNakSend (qp : Qpi) (s : State) : Res := s.core fun s => s.tryNak qp.val

/-- The RNR threshold of a parked message has passed: the region's rnr_thr, or RGN_RNR_CFG.thr_us where that is 0, counted from the park (R63). -/
def State.parkedPast (s : State) (m : Msg) : Bool :=
  let r := (m.region.map (fun i => (s.rgn i).rnrThr)).getD 0
  let us := if r = 0 then s.fld F.RGN_RNR_CFG_thr_us else r
  match m.phase with
  | .parked t => decide (t + us * 1000 ≤ s.mrt)
  | _ => false

/-- RNR_THRESHOLD_EXPIRE (R63): a message still parked gets an RNR NAK and is discarded; its fetch or promotion goes on. -/
def State.doRnrExpire (s : State) (n psn : Nat) : State :=
  match s.qpAt n with
  | none => s
  | some q =>
    match (q.msgs ++ q.cur.toList).find? (fun m => m.psn = psn ∧ !m.accepted ∧ m.phase ≠ .receiving) with
    | some m => if s.parkedPast m then (s.sampleRest m).rnr n psn 0x40 m.verb else s
    | none => s

def execRnrThresholdExpire (qp : Qpi) (psn : Nat) (s : State) : Res := s.core fun s => s.doRnrExpire qp.val psn

/-- SEQ_REPLACE_SEND (R87, R88): on the new binding, once every commit below the replacement point is at its acknowledgement point. -/
def State.doSeqReplace (s : State) (n : Nat) : State :=
  match s.qpAt n with
  | none => s
  | some q =>
    match q.replace, q.engine with
    | some p, some e =>
      if q.msgs.isEmpty ∧ s.hostsServed ∧ qpLive q.state ∧ s.clearWay n q (.nak p 2 0x60) then
        ((((s.setQp n { q with epsn := p }).pay n 2 p (psnAdd p (2 ^ 24 - 1))).sendPkt n (.nak p 2 0x60)).countNak e 2).endReplace n true
      else s
    | _, _ => s

def execSeqReplaceSend (qp : Qpi) (s : State) : Res := s.core fun s => s.doSeqReplace qp.val

/-- REQUESTER_RETRY_TIMEOUT (R69). -/
def State.doRetryTimeout (s : State) (n : Nat) : State :=
  match s.qpAt n with
  | none => s
  | some q => if q.state = .rts then s.retryReqs n else s

def execRequesterRetryTimeout (qp : Qpi) (s : State) : Res := s.core fun s => s.doRetryTimeout qp.val

/-! ### Pacing, congestion, PFC (R83 to R85) -/

/-- CNP_RECEIVE (R83): the ECN rule's decrease, at most once per cnp_gap; every CNP holds back the increase. -/
def State.doCnp (s : State) (n : Nat) : State :=
  match s.qpAt n with
  | none => s
  | some q =>
    let port := portOf q.lport
    let rested : Bool := match q.cnpAt with
      | some t => decide (t + s.fld (F.PORT_CC_ECN_cnp_gap port) * 1000 ≤ s.mrt)
      | none => true
    let q := { q with cnpSeen := some s.mrt }
    if q.engine.isSome ∧ q.ccClass = 1 ∧ rested then
      s.setQp n { q with rate := max (s.fld (F.PORT_CC_CFG_min_rate port) : Rat) (q.rate / 2), cnpAt := some s.mrt }
    else s.setQp n q

def execCnpReceive (qp : Qpi) (s : State) : Res := s.core fun s => s.doCnp qp.val

/-- The delay of the delay rule in µs (R83): for a responder how long its oldest queued packet has waited, for a requester the latest ACK round
trip less the least of the last 10 ms. The kind of the oldest queued packet says which it is (DEDUCED, log entry 110). -/
def State.delayUs (s : State) (n : Nat) (q : Qp) : Rat :=
  let mine := s.ports.tx.filter (fun x => x.qp = n)
  match mine.head? with
  | none => 0
  | some x =>
    let since := mine.foldl (fun k x => Nat.min k x.since) x.since
    match x.wire, q.rtts with
    | .write _ _ _ _, [] => 0
    | .write _ _ _ _, r :: l =>
      let recent := (r :: l).filter (fun (e : Nat × Nat) => decide (s.mrt ≤ e.1 + 10000000))
      let last := ((r :: l).getLast?.map (·.2)).getD 0
      ((last - recent.foldl (fun k e => Nat.min k e.2) last : Nat) : Rat) / 1000
    | _, _ => ((s.mrt - since : Nat) : Rat) / 1000

/-- CC_RATE_UPDATE (R83): every 50 µs while the queue pair has traffic queued. A md_pct outside 1 to 100 acts as it stands (DESIGN CHOICE, log
entry 111). -/
def State.doRate (s : State) (n : Nat) : State :=
  match s.qpAt n with
  | none => s
  | some q =>
    let port := portOf q.lport
    let line := s.lineRate q.lport
    let lo : Rat := s.fld (F.PORT_CC_CFG_min_rate port)
    let ai : Rat := s.fld (F.PORT_CC_CFG_ai_step port)
    let t : Rat := s.fld (F.PORT_CC_CFG_target_us port)
    let d := s.delayUs n q
    if q.engine.isNone ∨ !(s.ports.tx.any (fun x => x.qp = n)) then s
    else if q.ccClass = 0 then
      if t < d then
        let md : Rat := s.fld (F.PORT_CC_CFG_md_pct port)
        s.setQp n { q with rate := max lo (q.rate * (1 - md / 100 * ((d - t) / d))) }
      else s.setQp n { q with rate := min line (q.rate + ai) }
    else
      let quiet : Bool := match q.cnpSeen with
        | some a => decide (a + s.fld (F.PORT_CC_ECN_recover_us port) * 10000 ≤ s.mrt)
        | none => true
      if quiet then s.setQp n { q with rate := min line (q.rate + ai) } else s

def execCcRateUpdate (qp : Qpi) (s : State) : Res := s.core fun s => s.doRate qp.val

/-- PFC_PAUSE_RECEIVE (R85): a pause of no quanta ends one. -/
def State.doPause (s : State) (port prio quanta : Nat) : State :=
  if s.part.ports ≤ port ∨ !s.pfcOn port prio then s
  else
    let l := s.ports.paused.filter (fun p => p.1 != port * 8 + prio)
    ({ s with ports := { s.ports with paused := if quanta = 0 then l else l ++ [(port * 8 + prio, quanta)] } }).pauseCheck port prio

def execPfcPauseReceive (port : Port) (prio : Fin 8) (quanta : Nat) (s : State) : Res :=
  s.core fun s => s.doPause port.val prio.val quanta

/-- PFC_PAUSE_EXPIRE (R85). -/
def execPfcPauseExpire (port : Port) (prio : Fin 8) (s : State) : Res :=
  s.core fun s =>
    ({ s with ports := { s.ports with paused := s.ports.paused.filter (fun p => p.1 != port.val * 8 + prio.val) } }).pauseCheck port.val prio.val

/-- The last response of a READ has left: it completes (R74). -/
def State.readSent (s : State) (n psn : Nat) : State :=
  let s := match s.qpAt n with
    | some q =>
      match q.msgs.find? (fun (m : Msg) => m.verb == Verb.read && m.phase == Phase.committed) with
      | some m => s.sample 1 (some q.lport) (s.mrt - m.arrived)
      | none => s
    | none => s
  (s.modQp n (fun q => { q with msgs := q.msgs.map (fun (m : Msg) =>
    if m.verb == Verb.read && m.phase == Phase.committed && decide (psnDist m.psn psn ≤ psnDist m.psn m.last) then { m with phase := .sent } else m) })).sweep n

/-- A READ response acknowledges every earlier message, so it leaves once they have completed (R74). -/
def Qp.mayAnswer (q : Qp) (psn : Nat) : Bool :=
  q.msgs.all (fun m => m.dup || !psnBefore m.psn psn || (m.verb == .read && decide (psnDist m.psn psn ≤ psnDist m.psn m.last)))

/-- A queued packet may leave: its port may send, its rate lets it, no packet of its queue pair waits before it, and what it acknowledges has
completed (R74, R78, R83). -/
def State.txReady (s : State) (before : List Tx) (t : Tx) : Bool :=
  match s.qpAt t.qp with
  | none => false
  | some q =>
    s.mayTransmit t.lport t.prio (q.ether t.wire) && decide (q.nextAt ≤ s.mrt) && !(before.any (fun x => x.qp == t.qp)) &&
    (match t.wire with
     | .readResp psn _ => q.mayAnswer psn
     | _ => true)

/-- The first packet of a logical port that may leave. -/
def State.nextTx (s : State) (lport : Nat) : List Tx → List Tx → Option Tx
  | _, [] => none
  | before, t :: l => if t.lport = lport ∧ s.txReady before t then some t else s.nextTx lport (before ++ [t]) l

/-- The request that a packet carries has just been sent (R83). -/
def State.noteSent (s : State) (n : Nat) (w : Wire) : State :=
  s.modQp n (fun q => { q with reqs := q.reqs.map (fun (r : Req) => if r.wire = w then { r with at_ := some s.mrt } else r) })

/-- A protected frame whose dual computation failed twice is not sent, though its packet number is used up; where it answered a message, that message is
answered INTERNAL instead (R269). -/
def State.unsent (s : State) (t : Tx) (q : Qp) : State :=
  let s := (s.protect q.lport (q.ether t.wire)).1
  match t.wire with
  | .readResp psn _ =>
    let mine := fun (x : Tx) => x.qp == t.qp && (match x.wire with | .readResp _ _ => true | _ => false)
    ({ s with ports := { s.ports with tx := s.ports.tx.filter (fun x => !mine x) } }).refuse t.qp psn 0x30 .read
  | .ack psn => s.refuse t.qp psn 0x30 .write
  | .atomicAck psn _ => s.refuse t.qp psn 0x30 .fetchAdd
  | .flushResp psn => s.refuse t.qp psn 0x30 .flush
  | .write _ _ _ _ => s.modQp t.qp (fun q => { q with reqs := q.reqs.map (fun (r : Req) => if r.wire = t.wire then { r with at_ := some s.mrt } else r) })
  | _ => s

/-- A completion that waits at the management queue pair leaves its logical port (R368): protected where the policy asks for it, and marked ECT(0) where the
queue pair's cc_class is 1 (R84, R86). One whose dual computation failed twice is not sent (R269). -/
def State.sendMqp (s : State) (q : Qp) (o : Out) (d : Dual) (lane : Nat) : State :=
  let sec := !s.inClear q.lport (q.ether (.ack 0))
  let s := { s with mqpOut := s.mqpOut.tail }
  let s := if sec then s.dual d lane else s
  let (s, tag) := s.protect q.lport (q.ether (.ack 0))
  if sec ∧ d = .retryDiffers then s else (s.put (.mqp q.lport (q.ccClass == 1) tag)).put o

/-- The completion that the management queue pair may send on a logical port (R83, R85, R86), with its context. -/
def State.nextMqp (s : State) (lport : Nat) : Option (Qp × Out) :=
  match s.qpAt 0, s.mqpOut.head? with
  | some q, some o => if q.lport = lport ∧ s.mayTransmit lport q.prio (q.ether (.ack 0)) ∧ q.nextAt ≤ s.mrt then some (q, o) else none
  | _, _ => none

/-- PACED_TRANSMIT (R83, R269): the next queued packet of a logical port leaves, when hosts are served; a completion that waits at the management queue pair
goes first, in every mode (R368; DESIGN CHOICE, log entry 155). What waited behind it may follow: a READ that
completes, a NAK, a move of its queue pair to the other unit. -/
def State.doTransmit (s : State) (lport : Nat) (d : Dual) (lane : Nat) : State :=
  if !s.hostsServed then
    match s.nextMqp lport with
    | some (q, o) => s.sendMqp q o d lane
    | none => s
  else
    match s.nextMqp lport, s.nextTx lport [] s.ports.tx with
    | some (q, o), _ => s.sendMqp q o d lane
    | none, none => s
    | none, some t =>
      match s.qpAt t.qp with
      | none => s
      | some q =>
        let s := { s with ports := { s.ports with tx := s.ports.tx.erase t } }
        let sec := !s.inClear q.lport (q.ether t.wire)
        let s := if sec then s.dual d lane else s
        let s := if sec ∧ d = .retryDiffers then s.unsent t q
          else
            let s := s.emit t.qp q t.wire
            match t.wire with
            | .readResp psn _ => if t.last then s.readSent t.qp psn else s
            | .write _ _ _ _ => s.noteSent t.qp t.wire
            | _ => s
        (s.tryNak t.qp).tryGive t.qp

def execPacedTransmit (lport : Lport) (dual : Dual) (lane : Fin 64) (s : State) : Res := s.core fun s => s.doTransmit lport.val dual lane.val

end Sys2Proof.Machine
end

