-- ==== Sys2Proof/Machine/Gate.lean ====
section
/-! DEFINITION. The command gate (R24 to R29, R370), Weft's watchdog (R22), Spool (R30 to R34), and the arrival of packets, which may
carry a command (R368). -/

namespace Sys2Proof.Machine

/-! ### Codes and objects (R27, R371) -/

/-- R371 lists the command's code. -/
def cmdListed : Cmd → Bool
  | .unlisted _ => false
  | _ => true

/-- The object that a query names (R27, R371). -/
def queryObj : QueryObj → Nat → List Obj
  | .unit, _ => [.modeRole]
  | .domain, i => [.domain i]
  | .region, i => [.region i]
  | .qp, i => [.qp i]
  | .srq, i => [.srq i]
  | .channel, i => [.channel i]
  | .subscriber, i => [.channel (i / 1024)]
  | .engine, i => [.engine i]
  | .bank, i => [.bank (i / 1024) (i % 1024)]

/-- The channel and bank of a frame, as R27 names a retirement. -/
def State.frameObj (s : State) (f : Nat) : List (Obj × Bool) :=
  match frameAt s.pops f with
  | some (c, b, _) => [(.bank c b, true)]
  | none => []

/-- The channel and bank that a retire-bank command names. -/
def State.bankObj (s : State) (c slot lrank bank : Nat) : List (Obj × Bool) :=
  match alGet s.pops c with
  | some p => [(.bank c ((slot * p.lranks + lrank) * p.banks + bank), true)]
  | none => []

/-- A region that a key names, which the command only reads. -/
def keyRead (k : BitVec 32) : Obj × Bool := (.region (keyIndex k), false)

/-- The objects a command names, each with whether the command modifies it (R27). A region is named by the descriptor index of its key
(DESIGN CHOICE, log entry 91). -/
def State.objsOf (s : State) : Cmd → List (Obj × Bool)
  | .query cls i => (queryObj cls i).map (fun o => (o, false))
  | .registerRead off n => [(.registers off (off + 4 * n), false)]
  | .registerWrite off vs => [(.registers off (off + 4 * vs.length), true)]
  | .createDomain pd _ _ _ | .destroyDomain pd => [(.domain pd, true)]
  | .createQp q _ _ cq => (.qp q.val, true) :: (cq.toList.map (fun c => keyRead c.key))
  | .modifyQp q _ a =>
    (.qp q.val, true) :: (a.pd.toList.map (fun d => (.domain d, false)) ++ (a.rq.join).toList.map (fun n => (.srq n, false)))
  | .destroyQp q => [(.qp q.val, true)]
  | .postReceive srq i _ k _ _ => [(if srq then .srq i else .qp i, true), keyRead k]
  | .createSrq i pd cq => [(.srq i, true), (.domain pd, false), keyRead cq.key]
  | .register a =>
    match a.index with
    | some i => [(.region i, true), (.domain a.pd, false)]
    | none => []
  | .deregister k | .repair k | .sync k => [(.region (keyIndex k), true)]
  | .setExtent k _ _ => [(.extent (keyIndex k), true), keyRead k]
  | .tableWrite addr n _ _ => [(.table addr (addr + 8 * n), true)]
  | .channelCreate a => [(.channel a.number, true), (.domain a.pd, false), keyRead a.relKey] ++ a.snapshot.toList.map keyRead
  | .channelClose c => [(.channel c, true)]
  | .attachPublisher c q | .detachPublisher c q | .resume c _ q => [(.channel c, true), (.qp q.val, true)]
  | .attachSubscriber a => [(.channel a.chan, true), (.qp a.qp.val, true), keyRead a.ringKey]
  | .remove c _ => [(.channel c, true)]
  | .fence e | .test e | .rejoin e => [(.engine e.val, true)]
  | .retireFrame f => s.frameObj f
  | .retireBank c slot lrank bank => s.bankObj c.val slot lrank bank
  | .save | .acceptOlderImage | .discardImage => [(.modeRole, true)]
  | .doze => [(.doze, true)]
  | .giveBack qs => qs.map (fun q => (.qp q.val, true))
  | .witnessToken _ | .provisionBegin | .provisionCommit _ _ | .secure _ | .returnUnit _ | .scrap _ | .advanceRollback
  | .debugChallenge | .debugOpen _ _ | .debugClose => [(.security, true)]
  | .discard _ _ _ | .setTime _ _ | .keySlot _ _ | .contextSave _ _ _ | .contextRestore _ | .peatClear _ _ | .subscribe _ _ _
  | .unlisted _ => []

/-! ### Checks before the gate (R370, R371) -/

/-- The rank of a source (R24, R368). -/
def rankOf : Source → Nat
  | .pcie | .core _ | .debug => 3
  | .mqp => 2
  | .twin => 1

/-- Epoch and rank of a claim number (R24). -/
def claimEpoch (c : BitVec 35) : Nat := c.toNat / 8
def claimRank (c : BitVec 35) : Nat := c.toNat / 2 % 4

/-- A claim number at this unit's epoch with a rank and this unit's identity (R24). -/
def State.claimOf (s : State) (rank : Nat) : BitVec 35 :=
  BitVec.ofNat 35 (s.fld F.SEAM_CLAIM_epoch * 8 + rank * 2 + s.fld F.SEAM_STATUS_unit)

/-- The header of a register write of R380: rank 3 and the unit's current epoch. -/
def State.postedHdr (s : State) (src : Source) : Hdr := ⟨src, 0, s.claimOf 3⟩

/-- The header under which FOLLOW sends a command on to LEAD (R169): rank 1, FOLLOW's epoch and identity. -/
def State.twinHdr (s : State) (h : Hdr) : Hdr := ⟨.twin, h.tag, s.claimOf 1⟩

/-- The checks for MALFORMED, STALE and DENIED, in that order (R370); none where the command goes to the gate. -/
def State.frontCheck (s : State) (f : MgmtFrame) : Option Status :=
  let h := f.cmd.hdr
  if !f.shape || !cmdListed f.cmd.cmd || claimRank h.claim != rankOf h.src then some .malformed
  else if claimEpoch h.claim < s.fld F.SEAM_CLAIM_epoch then some .stale
  else if 0x70 ≤ cmdCode f.cmd.cmd ∧ cmdCode f.cmd.cmd ≤ 0x79 ∧ h.src ≠ .pcie then some .denied
  else none

/-! ### The arbitration window (R25 to R28) -/

/-- Two objects of R27 are the same, or share an address of the register or tile-table space. -/
def sameObj : Obj → Obj → Bool
  | .table a b, .table c d => decide (a < d) && decide (c < b)
  | .registers a b, .registers c d => decide (a < d) && decide (c < b)
  | x, y => x == y

/-- Two lists of objects name one object that at least one of the two modifies (R27). -/
def objsConflict (a b : List (Obj × Bool)) : Bool := a.any (fun x => b.any (fun y => sameObj x.1 y.1 && (x.2 || y.2)))

/-- Two commands conflict (R27). -/
def State.conflict (s : State) (a b : GateCmd) : Bool := objsConflict (s.objsOf a.cmd) (s.objsOf b.cmd)

/-- The gate hears one command of each rank at a time: a source of R25. -/
def sameSource (a b : GateCmd) : Bool := rankOf a.hdr.src == rankOf b.hdr.src

/-- A command reaches the gate. One source delivers one command at a time, and an issuer of the local merge contends with one (R21, R25),
so a later one waits: with the other issuers in arrival order, or behind the one its own issuer has there. No issuer loses more
grants than there are other issuers, so the guard of R21 has nothing to do (DEDUCED, log entry 92). -/
def State.arrive (s : State) (c : GateCmd) : State :=
  let g := s.gate
  if !g.active then { s with gate := { g with active := true, window := [(c, s.mrt)] } }
  else if !(g.window.any (fun p => sameSource p.1 c)) then { s with gate := { g with window := g.window ++ [(c, s.mrt)] } }
  else if g.waiting.any (fun p => p.1.hdr.src = c.hdr.src) then { s with gate := { g with behind := g.behind ++ [(c, s.mrt)] } }
  else { s with gate := { g with waiting := g.waiting ++ [(c, s.mrt)] } }

/-- A frame arrives on a path: it is checked, then goes to the gate. -/
def State.deliverFrame (s : State) (src : Source) (f : MgmtFrame) : State :=
  let f := { f with cmd := { f.cmd with hdr := { f.cmd.hdr with src := src }, posted := false } }
  match s.frontCheck f with
  | some st => s.answer f.cmd.hdr (cmdCode f.cmd.cmd) st
  | none => s.arrive f.cmd

/-- A register write of R380 reaches the gate: one register, from a local source. -/
def State.deliverWrite (s : State) (c : GateCmd) : State :=
  match c.cmd with
  | .registerWrite _ [_] => if rankOf c.hdr.src = 3 then s.arrive { c with hdr := s.postedHdr c.hdr.src } else s
  | _ => s

/-- GATE_COMMAND_ARRIVE (R24 to R26): a command reaches the gate on its source's path. -/
def State.doArrive (s : State) (c : GateCmd) : State :=
  if c.posted then s.deliverWrite c else s.deliverFrame c.hdr.src ⟨c, true⟩

def execGateCommandArrive (c : GateCmd) (s : State) : Res :=
  .next (if s.mode = .reset ∨ s.mode = .save then s else s.doArrive c)

/-- Commands of a window in descending order of claim number. -/
def byClaim : List (GateCmd × Nat) → List (GateCmd × Nat)
  | [] => []
  | c :: l =>
    let rec ins : List (GateCmd × Nat) → List (GateCmd × Nat)
      | [] => [c]
      | d :: l => if d.1.hdr.claim.toNat < c.1.hdr.claim.toNat then c :: d :: l else d :: ins l
    ins (byClaim l)

/-- A command is granted: it starts when every command granted before it has started (R26). -/
def State.grant (s : State) (c : GateCmd) (t : Nat) : State :=
  let s := ({ s with gate := { s.gate with granted := s.gate.granted ++ [c] } }).wrap F.GLB_GATE_STAT_granted
  s.sample 7 (some (rankOf c.hdr.src)) (s.mrt - t)

/-- A command loses its window to a granted one (R26). -/
def State.lose (s : State) (c w : GateCmd) : State :=
  let s := s.wrap F.GLB_GATE_STAT_contended
  let s := (((s.setReg 0x108 0).setFld F.GLB_GATE_LAST_winner_rank (rankOf w.hdr.src)).setFld F.GLB_GATE_LAST_loser_rank
    (rankOf c.hdr.src)).setFld F.GLB_GATE_LAST_loser_opcode (cmdCode c.cmd)
  if c.posted then s else s.answer c.hdr (cmdCode c.cmd) .contended

/-- Decides a window in order: a command is granted unless it conflicts with one granted before it in the window (R26, R28). -/
def State.decideWindow (s : State) : List (GateCmd × Nat) → List GateCmd → State
  | [], _ => s
  | (c, t) :: l, won =>
    match won.find? (s.conflict c) with
    | some w => (s.lose c w).decideWindow l won
    | none => (s.grant c t).decideWindow l (won ++ [c])

/-- The first waiting command of each source opens the next window, the others wait on (R25, R26). -/
def nextWindow (l : List (GateCmd × Nat)) : List (GateCmd × Nat) × List (GateCmd × Nat) :=
  l.foldl (fun r c => if r.1.any (fun d => sameSource d.1 c.1) then (r.1, r.2 ++ [c]) else (r.1 ++ [c], r.2)) ([], [])

/-- The commands behind those that have been taken contend in their turn: the first of each such issuer. -/
def bringUp (taken : List (GateCmd × Nat)) (behind : List (GateCmd × Nat)) : List (GateCmd × Nat) × List (GateCmd × Nat) :=
  behind.foldl (fun r c =>
    if taken.any (fun d => d.1.hdr.src = c.1.hdr.src) && !r.1.any (fun d => d.1.hdr.src = c.1.hdr.src) then (r.1 ++ [c], r.2)
    else (r.1, r.2 ++ [c])) ([], [])

/-- The next window opens with what waits (R26). -/
def State.openNext (s : State) : State :=
  let (a, r) := nextWindow s.gate.waiting
  let (u, b) := bringUp a s.gate.behind
  { s with gate := { s.gate with window := a, waiting := r ++ u, behind := b, active := !a.isEmpty } }

/-- GATE_WINDOW_CLOSE (R26 to R28): the commands of the window are decided in descending order of claim number. -/
def State.doWindowClose (s : State) : State := if !s.gate.active then s else s.openNext.decideWindow (byClaim s.gate.window) []

def execGateWindowClose (s : State) : Res := .next (if s.mode = .reset ∨ s.mode = .save then s else s.doWindowClose)

/-! ### Weft's watchdog (R22) -/

/-- The engine whose channel this is (R384). -/
def channelEngine (c : BitVec 16) : Option Nat :=
  let b := c.toNat / 16 * 4096
  if 0x400000 ≤ b ∧ b < 0x800000 then some ((b - 0x400000) / 0x10000) else none

/-- A stall is recorded and raised; one on an engine's channel fences the engine. -/
def State.recordStall (s : State) (c : BitVec 16) : State :=
  let s := if s.bit F.WEFT_STALL_LOG_valid then s
    else (s.setBit F.WEFT_STALL_LOG_valid true).setFld F.WEFT_STALL_LOG_channel c.toNat
  let s := s.raise Ev.WEFT_STALL
  match channelEngine c with
  | some e => s.fence e 2
  | none => s

/-- The watchdog watches a channel: not one of a fenced engine, whose channels the fence has closed. It watches those of an engine that is TESTING or READY
(DESIGN CHOICE, log entry 152). -/
def State.watched (s : State) (c : BitVec 16) : Bool :=
  match channelEngine c with
  | some e => decide (e < s.part.engines) && s.fld (F.VE_STATUS_state e) != 1
  | none => true

/-- Raises every handshake that waits longer than the limit and has not been raised. -/
def State.watch (s : State) : State :=
  let limit := s.fld F.WEFT_STALL_CFG_limit_us * 1000
  if limit = 0 then s
  else
    let late := s.weft.filter (fun h => !h.raised && decide (limit < s.mrt - h.since) && s.watched h.channel)
    let s := { s with weft := s.weft.map (fun h => if late.contains h then { h with raised := true } else h) }
    late.foldl (fun s h => s.recordStall h.channel) s

/-- A channel carries one handshake at a time (R17): a stall reported from another request time belongs to a new handshake, and the one
before it has been acknowledged. -/
def sameRequest (a b : Nat) : Bool := decide (a < b + 1000) && decide (b < a + 1000)

/-- WEFT_STALL (R22): a handshake has waited for its acknowledge for some time. No command carries an acknowledge, so a handshake counts as
waiting until the channel reports another (DESIGN CHOICE, log entry 100). -/
def State.doWeftStall (s : State) (c : BitVec 16) (waitUs : Nat) : State :=
  if !s.watched c then s
  else
    let since := s.mrt - waitUs * 1000
    let s := if s.weft.any (fun h => h.channel == c && sameRequest h.since since) then s
      else { s with weft := s.weft.filter (fun h => h.channel != c) ++ [⟨c, since, false⟩] }
    let limit := s.fld F.WEFT_STALL_CFG_limit_us
    if limit ≠ 0 ∧ limit < waitUs ∧ s.weft.any (fun h => h.channel = c ∧ !h.raised) then
      ({ s with weft := s.weft.map (fun (h : Handshake) => if h.channel = c then { h with raised := true } else h) }).recordStall c
    else s

def execWeftStall (channel : BitVec 16) (waitUs : Nat) (s : State) : Res := s.core fun s => s.doWeftStall channel waitUs

/-- WEFT_STALL_CFG_WRITE (R22): the new limit applies at once to handshakes that wait. -/
def execWeftStallCfgWrite (value : Word) (s : State) : Res :=
  s.post 0x90000 value fun s => (s.setFld F.WEFT_STALL_CFG_limit_us (bitsOf value 15 0)).watch

/-! ### Spool (R30 to R34) -/

/-- SPOOL_ALLOCATE (R31). -/
def State.doAllocate (s : State) (o prio : Nat) : State :=
  if !s.ownerHere o then s
  else if s.mayAllocate o then s.takeCell o prio
  else { s with spool := { s.spool with waiting := s.spool.waiting ++ [(o, prio)] } }

def execSpoolAllocate (owner : Fin 82) (prio : Fin 8) (s : State) : Res := s.core fun s => s.doAllocate owner.val prio.val

/-- SPOOL_FREE (R32, R33). -/
def State.doFree (s : State) (i issuer gen : Nat) : State :=
  let c := s.cell i
  if c.owner = 255 ∨ gen ≠ c.gen then s.badFree true i issuer c
  else if issuer ≠ c.owner then s.badFree false i issuer c
  else (s.freeCell i c.gen).grantCells s.spool.waiting.length

def execSpoolFree (cell : Fin 262144) (issuer : BitVec 8) (gen : BitVec 16) (s : State) : Res :=
  s.core fun s => s.doFree cell.val issuer.toNat gen.toNat

/-- SPOOL_RECLAIM_DONE (R34): every cell of a fenced engine is free, with its generation incremented. -/
def State.doReclaim (s : State) (e : Nat) : State :=
  if s.spool.reclaims.contains e then
    let mine := s.spool.cells.filter (fun c => c.2.owner = e)
    let s := mine.foldl (fun s c => s.freeCell c.1 ((c.2.gen + 1) % 65536)) s
    ({ s with spool := { s.spool with reclaims := setDel s.spool.reclaims e } }).grantCells s.spool.waiting.length
  else s

def execSpoolReclaimDone (e : Engine) (s : State) : Res := s.core fun s => s.doReclaim e.val

/-! ### Packets (R72, R368) -/

/-- PACKET_RECEIVE (R72, R368): a management frame on queue pair 0 is a command of rank 2. -/
def State.receive (s : State) (p : Packet) : State :=
  if s.lportPresent p.lport.val then s.doPacket p (fun s f => if s.mode = .save then s else s.deliverFrame .mqp f) else s

end Sys2Proof.Machine
end

