-- ==== Sys2Proof/Machine/Region.lean ====
section
/-! DEFINITION. Domains (R41 to R43), registration (R57), deregistration and its drain (R59 to R61), sync and repair (R54), table writes
(R55) and extents (R118 to R120). -/

namespace Sys2Proof.Machine

/-! ### Protection domains (R41, R43) -/

/-- Queue pairs that a domain holds: those that have left RESET (DEDUCED, log entry 15). -/
def State.qpsIn (s : State) (pd : Nat) : Nat := (s.kept.qps.filter (fun p => p.2.pd = pd ∧ p.2.state ≠ .reset)).length

/-- Regions that a domain holds. -/
def State.rgnsIn (s : State) (pd : Nat) : Nat := (s.kept.rdt.filter (fun p => p.2.pd = pd ∧ p.2.state ≠ .free)).length

/-- The checks of create-domain (R41). -/
def State.checkCreateDomain (s : State) (pd rq qq slot : Nat) : Verdict :=
  if 1024 ≤ pd then .error .invalid
  else if (alGet s.kept.domains pd).isSome then .error .busy
  else if 1048576 < rq ∨ 65536 < qq ∨ 1024 ≤ slot then .error .invalid
  else s.unlessRestoring []

/-- CREATE_DOMAIN (R41): the domain is ACTIVE. -/
def State.putDomain (s : State) (pd rq qq slot : Nat) : State :=
  { s with kept := { s.kept with domains := alPut s.kept.domains pd ⟨rq, qq, slot⟩ } }

/-- The checks of destroy-domain (R43). -/
def State.checkDestroyDomain (s : State) (pd : Nat) : Verdict :=
  if (alGet s.kept.domains pd).isNone then .error .invalid
  else if 0 < s.rgnsIn pd ∨ 0 < s.qpsIn pd then .error .busy
  else s.unlessRestoring []

/-- DESTROY_DOMAIN (R43): the domain is FREE. -/
def State.dropDomain (s : State) (pd : Nat) : State := { s with kept := { s.kept with domains := alDel s.kept.domains pd } }

/-! ### Registration (R57) -/

/-- The index that a register command under way on both units has reserved (R57). -/
def Shared.index (x : Shared) : Option Nat :=
  match x.cmd with
  | .register _ => x.vals.head?.map (· / 4096)
  | _ => none

/-- A descriptor index that a register command has reserved and not yet written (R57). -/
def State.reserved (s : State) (i : Nat) : Bool := s.shared.any (fun x => x.index == some i)

/-- Regions that register commands under way will add to a domain. -/
def State.rgnsComing (s : State) (pd : Nat) : Nat :=
  (s.shared.filter (fun x => !x.sent && (match x.cmd with | .register a => a.pd == pd | _ => false))).length

/-- The lowest FREE index below the provisioned count, skipping poisoned descriptor lines (R53, R57). -/
def State.chooseIndex (s : State) : Nat → Nat → Option Nat
  | 0, _ => none
  | k + 1, i =>
    if s.fld F.RGN_RDT_CFG_count ≤ i then none
    else if (s.rgn i).state = .free ∧ !s.descPoisoned i ∧ !s.reserved i then some i
    else s.chooseIndex k (i + 1)

/-- The TILED checks of R57: table placed as in R52, enough entries. -/
def tiledOk (a : RegArgs) : Bool :=
  a.target % 8 == 0 && inTableArea a.target (8 * a.tileCount) && decide (ceilDiv a.length 65536 ≤ a.tileCount) && decide (a.tileCount ≤ 4194304)

/-- The extent flag is given only with what R118 asks of an extent. -/
def extArgsOk (a : RegArgs) : Bool := !a.ext || (!a.tiled && a.length % 65536 == 0 && decide (a.length ≤ 2 ^ 36))

/-- The checks of R57 after the index, in order. A CONTIG region's tile count is zero (R46), and bytes 40 to 43 name an extent only as
R118 allows; what breaks either completes INVALID with the reserved fields (DESIGN CHOICE, log entry 93). -/
def State.registerCheck (s : State) (i : Nat) (a : RegArgs) : Option Status :=
  if s.fld F.RGN_RDT_CFG_count ≤ i ∨ s.descPoisoned i then some .invalid
  else if (s.rgn i).state ≠ .free ∨ s.reserved i then some .busy
  else
    match alGet s.kept.domains a.pd with
    | none => some .invalid
    | some d =>
      if d.regionQuota ≤ s.rgnsIn a.pd + s.rgnsComing a.pd then some .invalid
      else if a.length = 0 ∨ 2 ^ 46 < a.length ∨ !a.reservedZero ∨ 256 ≤ a.rnrThr ∨ 4 ≤ a.policy ∨
          !(a.read || a.write || a.atomic || a.flush) ∨ (!a.tiled ∧ a.tileCount ≠ 0) ∨ !extArgsOk a then some .invalid
      else if a.tiled then (if tiledOk a then none else some .invalid)
      else if a.target % 65536 = 0 ∧ s.inTenant a.target a.length then none
      else some .invalid

/-- The descriptor that a register command writes: VALID, at the current epoch. -/
def regDescriptor (epoch : Nat) (a : RegArgs) : Rgn :=
  { state := .valid, tiled := a.tiled, local_ := a.local_, flush := a.flush, atomic := a.atomic, write := a.write, read := a.read,
    pd := a.pd, epoch := epoch, vaBase := a.vaBase, length := a.length, target := a.target, tileCount := a.tileCount,
    rnrThr := a.rnrThr, ext := a.ext, policy := a.policy }

/-- The index of a register command: the one it names, or the one the device chooses (R57). -/
def State.registerIndex (s : State) (a : RegArgs) : Option Nat :=
  match a.index with
  | some i => some i
  | none => s.chooseIndex (s.kept.rdt.length + 4 * s.kept.poison.length + s.shared.length + 1) 0

/-- The checks of register (R57): the value is the key (R44). -/
def State.checkRegister (s : State) (a : RegArgs) : Verdict :=
  match s.registerIndex a with
  | none => .error .capacity
  | some i =>
    match s.registerCheck i a with
    | some st => .error st
    | none => s.unlessRestoring [keyOf i (s.rgn i).epoch]

/-- REGISTER (R57): the descriptor that the key names is VALID at its current epoch; one that is an extent moves its tiles (R120). -/
def State.putRegion (s : State) (a : RegArgs) (key : Nat) : State :=
  let s := s.setRgn (key / 4096) (regDescriptor (s.rgn (key / 4096)).epoch a)
  if (s.rgn (key / 4096)).ext then s.applyExtent (key / 4096) true (s.rgn (key / 4096)).policy else s

/-! ### Deregistration (R59 to R61) -/

/-- A message is abandoned or lost with its queue pair about to fail: its entry flushes with the queue's (R71, R372). -/
def State.forfeitEntry (s : State) (n : Nat) (e : RecvEntry) : State :=
  match s.qpAt n with
  | some q => if q.srq.isSome then s.flushEntries n [e] else s.giveEntry n e
  | none => s

/-- Requests parked on granules that are not present get RNR NAKs at the close, whatever their threshold (R60); one that is throttled
stays until the deadline. -/
def State.closeParked (s : State) (i : Nat) : State :=
  s.parks.foldl (fun s p =>
    match s.qpAt p.1 with
    | none => s
    | some q =>
      match (q.msgs ++ q.cur.toList).find? (fun (m : Msg) => m.psn = p.2 ∧ !m.accepted ∧ m.region = some i ∧ !m.throttled) with
      | some m => (s.sampleRest m).rnr p.1 p.2 0x41 m.verb
      | none => s) s

/-- The close of a region at its epoch element (R59): the command `h` waits for the drains; `alone` says that no twin drains. -/
def State.closeRegion (s : State) (i : Nat) (h : Hdr) : State :=
  let r := s.rgn i
  let s := ((s.dropEntries r).dropDesc i).setRgn i { r with
    state := .closing, epoch := (r.epoch + 1) % 2 ^ 32, closer := some h, selfDone := false, twinDone := !s.mirrored }
  (s.endExtent i).closeParked i

/-- The checks of deregister (R50): the value is the region's index. -/
def State.checkDeregister (s : State) (key : BitVec 32) : Verdict :=
  match s.current key with
  | none => .error .invalid
  | some i => if (s.rgn i).state = .closing then .error .busy else s.unlessRestoring [i]

/-- Both drains of a closing region have ended: the descriptor is FREE, and the command completes on the unit that issued it (R61). -/
def State.freeRegion (s : State) (i : Nat) : State :=
  let r := s.rgn i
  if r.state = .closing ∧ r.selfDone ∧ r.twinDone then
    let s := s.setRgn i { epoch := r.epoch }
    match r.closer with
    | some h => if h.src = .twin then s else s.complete h .ok
    | none => s
  else s

/-- DEREGISTER_DRAIN_DONE (R61): no message of the region is left on this unit; in PAIRED and RESYNC the twin hears of it. -/
def State.doDrainDone (s : State) (i : Nat) : State :=
  let r := s.rgn i
  if r.state = .closing ∧ s.admitted i = 0 ∧ !r.selfDone then
    let s := s.setRgn i { r with selfDone := true }
    let s := match r.closer with
      | some h => if s.mirrored then s.seamSend (.cmdDone h (cmdCode (.deregister 0)) .ok [i]) else s
      | none => s
    s.freeRegion i
  else s

def execDeregisterDrainDone (region : Nat) (s : State) : Res := s.core fun s => s.doDrainDone region

/-- A region closes under a command's tag and waits for the twin's drain. -/
def State.awaitsDrain (s : State) (h : Hdr) (vals : List Nat) : Bool :=
  let r := s.rgn (vals.headD 0)
  !vals.isEmpty && r.state == .closing && !r.twinDone && r.closer.any (fun c => c.tag == h.tag)

/-- The twin's drain of a closing region has ended (R61). -/
def State.twinDrained (s : State) (i : Nat) : State := (s.setRgn i { s.rgn i with twinDone := true }).freeRegion i

/-- FOLLOW has refused the close of a region, whose descriptor it cannot read (R53): the command completes with that status and changes nothing, so LEAD, which
closed first (R59), opens the region again as it was (DESIGN CHOICE, log entry 157). -/
def State.reopen (s : State) (i : Nat) (st : Status) : State :=
  let r := s.rgn i
  let s := s.setRgn i { r with state := .valid, epoch := (r.epoch + 2 ^ 32 - 1) % 2 ^ 32, closer := none, selfDone := false, twinDone := true }
  let s := if r.ext then s.applyExtent i true r.policy else s
  match r.closer with
  | some h => if h.src = .twin then s else s.complete h st
  | none => s

/-- The messages of a queue pair to a closing region that `pick` chooses are abandoned: nothing of them is applied, they are counted, their Spool cells are
free, and a remote access error NAK is due at the PSN the responder next expects (R60). -/
def State.abandonPicked (s : State) (i n : Nat) (pick : Msg → Bool) : State :=
  match s.qpAt n with
  | none => s
  | some q =>
    let gone := (q.admitted i).filter pick
    if gone.isEmpty then s
    else
      let stays := fun (m : Msg) => m.committed || m.region != some i || !pick m
      let s := s.setQp n { q with msgs := q.msgs.filter stays, past := q.past.filter stays, cur := q.cur.filter stays }
      let s := gone.foldl (fun s m => (s.endShare n m.psn).countAbandon i) s
      let s := (gone.filterMap (·.entry)).foldr (fun e s => s.forfeitEntry n e) (s.freeChain q.owner (chainsOf gone))
      (s.refuse n q.epsn 0x27 .write).sweep n

/-- The messages of a queue pair to a closing region that have not begun to apply are abandoned at the deadline (R60). One that FOLLOW has forwarded may have
begun to apply at LEAD, which says so if it has not (R59). -/
def State.abandonQp (s : State) (i n : Nat) : State := s.abandonPicked i n (fun m => !m.fwd)

/-- A forward to a closing region that waits at LEAD for a home has not begun to apply either: LEAD gives it up, and FOLLOW, which admitted it, hears of it
(R60). -/
def State.dropWaiting (s : State) (i : Nat) : State :=
  let gone := s.seam.fwdWait.filter (fun w => w.2.region == i)
  gone.foldl (fun s w => s.seamSend (.mack 0 1 w.2.qp.val w.2.psn 0x27))
    { s with seam := { s.seam with fwdWait := s.seam.fwdWait.filter (fun w => w.2.region != i) } }

/-- DRAIN_DEADLINE (R60): 50 µs after this unit's close. -/
def State.doDrainDeadline (s : State) (i : Nat) : State :=
  if (s.rgn i).state = .closing then s.kept.qps.foldl (fun s p => s.abandonQp i p.1) (s.dropWaiting i) else s

def execDrainDeadline (region : Nat) (s : State) : Res := s.core fun s => s.doDrainDeadline region

/-! ### Sync and repair (R50, R54) -/

/-- The checks of sync and of repair (R50): the value is the region's index. -/
def State.checkSync (s : State) (key : BitVec 32) : Verdict :=
  match s.current key with
  | none => .error .invalid
  | some i => if (s.rgn i).state ≠ .valid then .error .invalid else s.unlessRestoring [i]

/-- SYNC (R54): the region's cached tile entries are removed. -/
def State.syncRegion (s : State) (i : Nat) : State := s.dropEntries (s.rgn i)

/-- REPAIR (R49, R54): sync, and admission reopens. -/
def State.repairRegion (s : State) (i : Nat) : State :=
  (s.dropEntries (s.rgn i)).setRgn i { s.rgn i with broken := false, lastFault := 0 }

/-! ### Table writes (R55) -/

/-- A poisoned line of a range that the range covers only in part. -/
def State.partlyPoisoned (s : State) (a n : Nat) : Bool := s.partPoisoned true (a, n)

/-- The checks of R55 in order. -/
def State.tableCheck (s : State) (addr count : Nat) (shapeOk : Bool) (entries : List (BitVec 64)) : Option Status :=
  if addr % 8 ≠ 0 ∨ (count ≠ 0 ∧ !inTableArea addr (8 * count)) then some .invalid
  else if count = 0 ∨ 506 < count ∨ !shapeOk ∨ entries.length ≠ count then some .malformed
  else if !(entries.all (fun e => e.toNat % 65536 == 0 && decide (e.toNat < 2 ^ 48))) ∨ s.partlyPoisoned addr (8 * count) then some .invalid
  else if s.restoring ∨ s.mode = .save then some .busy
  else none

/-- The checks of table-write (R55). -/
def State.checkTableWrite (s : State) (addr count : Nat) (shapeOk : Bool) (entries : List (BitVec 64)) : Verdict :=
  match s.tableCheck addr count shapeOk entries with
  | some st => .error st
  | none => .ok []

/-- TABLE_WRITE (R55): entries in ascending address order. -/
def State.writeTable (s : State) (addr : Nat) (entries : List (BitVec 64)) : State :=
  s.store addr (entries.flatMap (fun e => leBytes 8 e.toNat))

/-! ### Extents (R118 to R120) -/

/-- Another extent, or the log of a channel, shares a tile. -/
def State.extentClash (s : State) (i : Nat) : Bool :=
  let r := s.rgn i
  s.kept.rdt.any (fun p => p.1 != i && p.2.state == .valid && p.2.ext && meets p.2.target p.2.length r.target r.length) ||
  s.kept.chans.any (fun p => meets (p.2.args.logTile * 65536) (logBytes p.2.args) r.target r.length)

/-- The checks of R119 in order. -/
def State.extentCheck (s : State) (i : Nat) (flag : Bool) (policy : Nat) : Option Status :=
  let r := s.rgn i
  let need := (r.tiles.filter (fun t => !(s.tile t).inDram)).length
  if r.state ≠ .valid ∨ r.broken then some .invalid
  else if r.tiled ∨ r.length % 65536 ≠ 0 ∨ 2 ^ 36 < r.length then some .invalid
  else if flag ∧ s.extentClash i then some .busy
  else if flag ∧ (policy = 1 ∨ policy = 3) ∧ s.fld F.TLR_WM_CFG_wm_hi * s.cap < (s.homed + need) * 100 then some .capacity
  else if flag ∧ !r.ext ∧ 65536 ≤ (s.kept.rdt.filter (fun p => p.2.state = .valid ∧ p.2.ext)).length then some .capacity
  else none

/-- The checks of set-extent (R119): the value is the region's index. -/
def State.checkSetExtent (s : State) (key : BitVec 32) (flag : Bool) (policy : Nat) : Verdict :=
  match s.current key with
  | none => .error .invalid
  | some i =>
    match s.extentCheck i flag policy with
    | some st => .error st
    | none => s.unlessRestoring [i]

end Sys2Proof.Machine
end

