-- ==== Sys2Proof/Machine/QpCmd.lean ====
section
/-! DEFINITION. The commands on queue pairs, receive queues and engines (R68 to R70, R87 to R90, R372, R404), and the movement of queue
pairs between engines (R90, R134). -/

namespace Sys2Proof.Machine

/-! ### Queue pairs (R68, R69, R404) -/

/-- A completion ring's size is in range (R372). -/
def cqOk (c : CqDef) : Bool := decide (6 ≤ c.log2) && decide (c.log2 ≤ 16)

/-- The checks of create-qp (R69, R372). -/
def State.checkCreateQp (s : State) (n : Nat) (cq : Option CqDef) : Verdict :=
  if (s.qpAt n).isSome then .error .busy
  else if !(cq.all cqOk) then .error .invalid
  else s.unlessRestoring []

/-- CREATE_QP (R69, R169): in PAIRED and RESYNC the command names the host unit; alone, the unit hosts it. -/
def State.putQp (s : State) (n : Nat) (rc host : Bool) (cq : Option CqDef) : State :=
  s.setQp n { rc := rc, host := if s.mirrored then host else s.bit F.SEAM_STATUS_unit, ring := cq.map (fun c => { def_ := c }) }

/-- The largest path MTU of a port (R91). -/
def State.pmtuMax (s : State) (lport : Nat) : Nat := 1024 * 2 ^ Nat.min 2 (s.fld (F.PORT_TP_CFG_pmtu_max (portOf lport)))

/-- The domain of a queue pair is ACTIVE and below its quota (R68). -/
def State.pdOk (s : State) (pd : Nat) : Bool :=
  match alGet s.kept.domains pd with
  | some d => decide (s.qpsIn pd < d.qpQuota)
  | none => false

/-- Attributes that every transition may carry lie in their ranges (R68). `rc` is the type after the command. -/
def optionalOk (rc : Bool) (a : QpAttrs) : Bool :=
  (!rc || a.resources.all (fun r => decide (1 ≤ r) && decide (r ≤ 64))) && a.dscp.all (fun d => decide (d < 64)) &&
  a.priority.all (fun p => decide (p < 8)) && a.ccClass.all (fun c => decide (c ≤ 1)) && (!rc || a.relaxed.all (fun r => decide (r ≤ 1)))

/-- What the transition from RESET to INIT requires and allows (R404). -/
def State.initOk (s : State) (a : QpAttrs) : Bool :=
  match a.ty, a.pd, a.lport, a.rq with
  | some ty, some pd, some l, some rq =>
    s.pdOk pd && decide (l < 32) && s.lportPresent l && (ty || a.qKey.isSome) &&
    (match rq with | some r => (alGet s.kept.srqs r).isSome | none => true)
  | _, _, _, _ => false

/-- What the transition from INIT to RTR requires (R404). -/
def State.rtrOk (s : State) (q : Qp) (a : QpAttrs) : Bool :=
  a.pmtu.any (fun m => (m == 1024 || m == 2048 || m == 4096) && decide (m ≤ s.pmtuMax q.lport)) &&
  (!q.rc || (a.remote.any (fun r => decide (r.2 < 2 ^ 24)) && a.epsn.any (fun e => decide (e < 2 ^ 24))))

/-- What the transition from RTR to RTS requires (R404). -/
def rtsOk (q : Qp) (a : QpAttrs) : Bool :=
  a.spsn.any (fun p => decide (p < 2 ^ 24)) &&
  (!q.rc || (a.retry.any (fun r => decide (r < 8)) && a.rnrRetry.any (fun r => decide (r < 8))))

/-- The optional attributes of a command, given with any of the three forward transitions (R404). -/
def Qp.withOptional (q : Qp) (a : QpAttrs) : Qp :=
  { q with
    resources := if q.rc then a.resources.getD q.resources else q.resources
    pKey := a.pKey.getD q.pKey, dscp := a.dscp.getD q.dscp, prio := a.priority.getD q.prio, ccClass := a.ccClass.getD q.ccClass
    relaxed := if q.rc then (a.relaxed.map (· == 1)).getD q.relaxed else q.relaxed }

/-- The transition to RESET (R69, R70): entries flush, the binding ends, the context's progress is cleared. -/
def State.resetQp (s : State) (n : Nat) : State :=
  match s.qpAt n with
  | none => s
  | some q =>
    let s := (if q.state = .init ∨ q.state = .rtr ∨ q.state = .rts then s.flushQp n else s).endReplace n false
    let left := ((s.qpAt n).map (·.msgs)).getD []
    let s := s.modQp n (fun q => { q with
      state := .reset, engine := none, moveTo := none, cur := none, msgs := [], past := [], atomics := [], nak := none, naked := false,
      unacked := [], replace := none, lostBy := none, reqs := [], tries := 0, cnpAt := none, cnpSentAt := none, cnpSeen := none, fencedBy := none, fwdUntil := none, giving := false,
      rnrAt := none, rnrTries := 0, flushed := [], nextAt := 0, rtts := [] })
    let s := s.freeChain q.owner (chainsOf left)
    { s with ports := { s.ports with tx := s.ports.tx.filter (fun t => t.qp != n) }, mqpOut := if n = 0 then [] else s.mqpOut }

/-- A transition that R69 lists, with the attributes R404 requires of it in their ranges. -/
def State.modifyOk (s : State) (q : Qp) (dst : QpState) (a : QpAttrs) : Bool :=
  match q.state, dst with
  | _, .reset => true
  | .reset, .init => s.initOk a && optionalOk (a.ty.getD q.rc) a
  | .init, .rtr => s.rtrOk q a && optionalOk q.rc a
  | .rtr, .rts => rtsOk q a && optionalOk q.rc a
  | .rtr, .error | .rts, .error => true
  | _, _ => false

/-- The transition itself. -/
def State.applyModify (s : State) (n : Nat) (q : Qp) (dst : QpState) (a : QpAttrs) : State :=
  match dst with
  | .reset => (s.resetQp n).bindAll
  | .init =>
    let q := { q with
      state := .init, rc := a.ty.getD q.rc, pd := a.pd.getD q.pd, lport := a.lport.getD q.lport, srq := a.rq.getD q.srq, qKey := a.qKey.getD q.qKey }
    s.setQp n (q.withOptional a)
  | .rtr =>
    let e := if q.rc then a.epsn.getD q.epsn else 0
    let q := { q with state := .rtr, pmtu := a.pmtu.getD q.pmtu, remote := if q.rc then a.remote else q.remote, epsn := e, doneTo := e, rate := s.lineRate q.lport }
    let s := s.setQp n (q.withOptional a)
    if s.hosts q then s.bindQp n else s
  | .rts =>
    s.setQp n ({ q with
      state := .rts, spsn := a.spsn.getD q.spsn, retry := a.retry.getD q.retry, rnrRetry := a.rnrRetry.getD q.rnrRetry }.withOptional a)
  | .error => s.enterError n 0 q.epsn

/-- The checks of modify-qp (R68, R69, R404). -/
def State.checkModifyQp (s : State) (n : Nat) (dst : QpState) (a : QpAttrs) : Verdict :=
  match s.qpAt n with
  | none => .error .invalid
  | some q => if !s.modifyOk q dst a then .error .invalid else s.unlessRestoring []

/-- MODIFY_QP (R68, R69, R404). -/
def State.modifyQp (s : State) (n : Nat) (dst : QpState) (a : QpAttrs) : State :=
  match s.qpAt n with
  | none => s
  | some q => s.applyModify n q dst a

/-- The checks of destroy-qp (R69): in RESET or ERROR. -/
def State.checkDestroyQp (s : State) (n : Nat) : Verdict :=
  match s.qpAt n with
  | none => .error .invalid
  | some q => if q.state ≠ .reset ∧ q.state ≠ .error then .error .busy else s.unlessRestoring []

/-- DESTROY_QP (R69). Entries posted while the queue pair was in RESET or ERROR, which no rule refuses, go with it without a completion (DESIGN CHOICE, log
entry 156). -/
def State.dropQp (s : State) (n : Nat) : State :=
  let s := (s.endReplace n false).freeChain (((s.qpAt n).map Qp.owner).getD 0) (chainsOf (((s.qpAt n).map (·.msgs)).getD []))
  ({ s with kept := { s.kept with qps := alDel s.kept.qps n } }).bindAll

/-! ### Receive queues (R372) -/

/-- Receive entries of all queues. -/
def State.poolUsed (s : State) : Nat :=
  s.kept.qps.foldl (fun k p => k + p.2.recvs.length + p.2.reserved.length) 0 + s.kept.srqs.foldl (fun k p => k + p.2.entries.length) 0

/-- A queue that holds `used` entries, and the pool, take one more, or the command completes CAPACITY. -/
def State.postRoom (s : State) (used : Nat) : Verdict :=
  if 4096 ≤ used ∨ 4194304 ≤ s.poolUsed then .error .capacity else s.unlessRestoring []

/-- The checks of post-receive (R372). -/
def State.checkPostReceive (s : State) (srq : Bool) (i : Nat) : Verdict :=
  if srq then
    match alGet s.kept.srqs i with
    | none => .error .invalid
    | some x => s.postRoom x.entries.length
  else
    match s.qpAt i with
    | none => .error .invalid
    | some q => if q.srq.isSome then .error .invalid else s.postRoom (q.recvs.length + q.reserved.length)

/-- POST_RECEIVE (R372): the entry is the last of its queue. -/
def State.putReceive (s : State) (srq : Bool) (i : Nat) (e : RecvEntry) : State :=
  if srq then { s with kept := { s.kept with srqs := alMod s.kept.srqs i (fun (x : Srq) => { x with entries := x.entries ++ [e] }) } }
  else s.modQp i (fun q => { q with recvs := q.recvs ++ [e] })

/-- The checks of create-srq (R372). -/
def State.checkCreateSrq (s : State) (i pd : Nat) (cq : CqDef) : Verdict :=
  if 4096 ≤ i then .error .invalid
  else if (alGet s.kept.srqs i).isSome then .error .busy
  else if (alGet s.kept.domains pd).isNone ∨ !cqOk cq then .error .invalid
  else s.unlessRestoring []

/-- CREATE_SRQ (R372). -/
def State.putSrq (s : State) (i pd : Nat) (cq : CqDef) : State :=
  { s with kept := { s.kept with srqs := alPut s.kept.srqs i { pd := pd, ring := { def_ := cq } } } }

/-! ### Engines (R87, R89) -/

/-- ENGINE_CHECK_ERROR (R87): cause 4. -/
def execEngineCheckError (e : Engine) (s : State) : Res := s.core fun s => s.fence e.val 4

/-- ENGINE_BIST_FAIL (R87): cause 5. -/
def execEngineBistFail (e : Engine) (s : State) : Res := s.core fun s => s.fence e.val 5

/-- FENCE (R87): completes OK once the engine is isolated; a fused engine is INVALID (R2). -/
def State.doFence (s : State) (h : Hdr) (e : Nat) : State :=
  if s.part.engines ≤ e then s.complete h .invalid else (s.fence e 1).complete h .ok

def execFence (h : Hdr) (e : Engine) (s : State) : Res := s.start h (.fence e) fun s => s.doFence h e.val

/-- TEST (R89): a FENCED engine runs its self-test. -/
def State.doTest (s : State) (h : Hdr) (e : Nat) : State :=
  let st := s.fld (F.VE_STATUS_state e)
  if s.part.engines ≤ e then s.complete h .invalid
  else if st = 2 then s.complete h .busy
  else if st = 1 then { s.setFld (F.VE_STATUS_state e) 2 with tests := alPut s.tests e h }
  else s.complete h .invalid

def execTest (h : Hdr) (e : Engine) (s : State) : Res := s.start h (.test e) fun s => s.doTest h e.val

/-- SELF_TEST_DONE (R89). -/
def State.doSelfTest (s : State) (e : Nat) (pass : Bool) : State :=
  if s.fld (F.VE_STATUS_state e) = 2 then
    let s := if pass then s.setFld (F.VE_STATUS_state e) 3 else (s.setFld (F.VE_STATUS_state e) 1).setFld (F.VE_STATUS_fence_cause e) 5
    match alGet s.tests e with
    | some h => ({ s with tests := alDel s.tests e }).complete h .ok
    | none => s
  else s

def execSelfTestDone (e : Engine) (pass : Bool) (s : State) : Res := s.core fun s => s.doSelfTest e.val pass

/-- REJOIN (R89, R133): READY to ACTIVE; queue pairs left unbound are bound. -/
def State.doRejoin (s : State) (h : Hdr) (e : Nat) : State :=
  if s.part.engines ≤ e ∨ s.fld (F.VE_STATUS_state e) ≠ 3 then s.complete h .invalid
  else (((s.setFld (F.VE_STATUS_state e) 0).setFld (F.VE_STATUS_fence_cause e) 0).bindAll).complete h .ok

def execRejoin (h : Hdr) (e : Engine) (s : State) : Res := s.start h (.rejoin e) fun s => s.doRejoin h e.val

/-! ### Moves between engines (R90, R134) -/

/-- QP_MOVE (R90): a chosen queue pair moves at a quiescent point; an engine that has room again takes queue pairs that are unbound (R133). -/
def State.doQpMove (s : State) (n dest : Nat) : State :=
  match s.qpAt n with
  | none => s
  | some q =>
    if q.engine.isSome ∧ q.moveTo = some dest ∧ s.quiescent n q ∧ s.eligible dest then
      (s.setQp n { q with engine := some dest, moveTo := none }).bindAll
    else s

def execQpMove (qp : Qpi) (dest : Engine) (s : State) : Res := s.core fun s => s.doQpMove qp.val dest.val

/-- An engine's load of this period (R134). -/
def State.engLoad (s : State) (e : Nat) : Nat :=
  (s.fld (F.VE_MSG_CNT_messages e) + 2 ^ 32 - alGetD s.tlr.engBase e 0) % 2 ^ 32

/-- ACTIVE engines with their loads. -/
def State.engLoads (s : State) : List (Nat × Nat) :=
  ((List.range s.part.engines).filter (fun e => s.fld (F.VE_STATUS_state e) = 0)).map (fun e => (s.engLoad e, e))

/-- The entry of greatest value, the first on a tie. -/
def most : List (Nat × Nat) → Option (Nat × Nat)
  | [] => none
  | (c, x) :: l =>
    match most l with
    | some (d, y) => if c < d then some (d, y) else some (c, x)
    | none => some (c, x)

/-- A load lies above the band over the mean (R134). -/
def overBand (loads : List (Nat × Nat)) (pct top : Nat) : Bool :=
  decide (loads.foldl (fun n l => n + l.1) 0 * (100 + pct) < top * 100 * loads.length)

/-- The heaviest queue pair of an engine that is not chosen yet, with its load in the period measured. -/
def State.heaviest (s : State) (loads : List (Nat × Nat)) (e : Nat) (but : List Nat) : Option (Nat × Nat) :=
  most ((s.kept.qps.filter (fun p => p.2.engine == some e && p.2.moveTo.isNone && !but.contains p.1)).map (fun p => (alGetD loads p.1 0, p.1)))

/-- Chooses queue pairs of the busiest engine `b` for the least-loaded one until the projected load of `b` lies within the band. -/
def State.planMoves (s : State) (pct b : Nat) (loads : List (Nat × Nat)) (but : List Nat) : Nat → State
  | 0 => s
  | k + 1 =>
    let top := ((loads.find? (fun l => l.2 = b)).map (·.1)).getD 0
    match least (loads.filter (fun l => s.eligible l.2)) with
    | some (_, d) =>
      if b = d ∨ !overBand loads pct top then s
      else
        match s.heaviest s.tlr.qpLoad b but with
        | none => s
        | some (w, n) =>
          if w = 0 then s
          else
            let s := s.modQp n (fun q => { q with moveTo := some d })
            let loads := loads.map (fun (l : Nat × Nat) => if l.2 = b then (l.1 - w, b) else if l.2 = d then (l.1 + w, d) else l)
            s.planMoves pct b loads (n :: but) k
    | none => s

/-- QP_REBALANCE_PERIOD (R134): every 100 ms. -/
def State.doRebalance (s : State) : State :=
  let pct := s.fld F.TLR_QPB_CFG_imbal_pct
  let loads := s.engLoads
  let (hot, b) : Bool × Nat := match most loads with
    | some (top, b) => (pct != 0 && overBand loads pct top, b)
    | none => (false, 0)
  let s := { s with tlr := { s.tlr with overFor := if hot then s.tlr.overFor + 1 else 0 } }
  let s := if s.fld F.TLR_QPB_CFG_periods ≤ s.tlr.overFor ∧ hot then s.planMoves pct b loads [] (s.fld F.TLR_QPB_CFG_moves) else s
  { s with tlr := { s.tlr with qpLoad := [], qpLast := s.tlr.qpLoad, engBase := (List.range s.part.engines).map (fun e => (e, s.fld (F.VE_MSG_CNT_messages e))) } }

def execQpRebalancePeriod (s : State) : Res := s.core fun s => s.doRebalance

/-- QP_MOVE_PASSED_OVER (R134): no quiescent point within 10 ms; the next heaviest of its engine in the period measured is taken. -/
def State.doPassOver (s : State) (n : Nat) : State :=
  match s.qpAt n with
  | none => s
  | some q =>
    match q.moveTo, q.engine with
    | some d, some e =>
      let s := s.setQp n { q with moveTo := none }
      match s.heaviest s.tlr.qpLast e [n] with
      | some (_, m) => s.modQp m (fun q => { q with moveTo := some d })
      | none => s
    | _, _ => s

def execQpMovePassedOver (qp : Qpi) (s : State) : Res := s.core fun s => s.doPassOver qp.val

end Sys2Proof.Machine
end

