-- ==== Sys2Proof/Machine/Twin.lean ====
section
/-! DEFINITION. The twin (07): links and beats (R174 to R178), claims and the witness (R179 to R188), mirrored and forwarded messages
(R167 to R175), RESYNC (R189 to R193) and give-back (R194). -/

namespace Sys2Proof.Machine

/-! ### The unit and its twin (R162, R176, R178) -/

/-- The unit's identity (R162). -/
def State.unitBit (s : State) : Bool := s.bit F.SEAM_STATUS_unit

def State.pairId (s : State) : Nat := s.fld F.SEAM_PAIR_ID_LO_id_lo + s.fld F.SEAM_PAIR_ID_HI_id_hi * 2 ^ 32

/-- Pairing is enabled (R165). -/
def State.pairEn (s : State) : Bool := s.bit F.SEAM_PAIR_CFG_pair_en

/-- The highest epoch seen from the twin (R179). -/
def State.seeClaim (s : State) (e : Nat) : State :=
  let s := if s.fld F.SEAM_TWIN_CLAIM_epoch < e then s.setFld F.SEAM_TWIN_CLAIM_epoch e else s
  { s with seam := { s.seam with peer := s.seam.peer.map (fun (p : Peer) => { p with epoch := Nat.max p.epoch e }) } }

/-- Tack flags (R177). -/
def State.tackFlags (s : State) : Nat :=
  (if s.lead then 1 else 0) + (if s.held then 2 else 0) + (if s.seam.link0.up then 4 else 0) + (if s.seam.link1.up then 8 else 0) +
  (if s.ready then 16 else 0)

/-- The check of a Tack frame: CRC-32C over its bytes 0 to 15 (R177). -/
def tackCrc (type flags seq claim mode sync : Nat) : Nat :=
  crc32c (leBytes 1 type ++ leBytes 1 flags ++ leBytes 2 seq ++ leBytes 5 claim ++ leBytes 1 mode ++ leBytes 6 sync)

/-- A Tack frame of a type leaves (R177). Tack is disabled with pairing (R165). -/
def State.sendTack (s : State) (type : Nat) : State :=
  if s.pairEn then
    let seq := s.seam.tackSeq % 65536
    let sync := s.sync % 2 ^ 48
    ({ s with seam := { s.seam with tackSeq := (s.seam.tackSeq + 1) % 65536 } }).put
      (.tack type s.tackFlags seq s.claimWord s.mode.code sync (tackCrc type s.tackFlags seq s.claimWord s.mode.code sync))
  else s

/-! ### SOLO by the witness (R164, R170, R186, R188) -/

/-- The unit is to take over from its twin once it holds the witness (R186, R188, R193). -/
def State.mustTake (s : State) : Bool :=
  s.mirrored && ((s.twin == 2 && (s.lead || s.ready)) || (s.lead && s.twin == 1 && s.seam.yielded))

/-- LEAD holds a write whose mirror FOLLOW has refused (R170). -/
def State.refusedWrite (s : State) : Bool := s.mirrored && s.lead && s.seam.commits.any (·.refused)

/-- A unit that begins to serve alone hosts every queue pair (R153, R187). -/
def State.adoptAll (s : State) : State := (s.kept.qps.filter (fun p => !s.hosts p.2)).foldl (fun s p => s.adoptQp p.1) s

/-- What the unit does with the witness it holds: take over, enter SOLO, or, where it serves without a pair, raise its epoch for its
gates to open. -/
def State.seize (s : State) : State :=
  if !s.held ∨ s.mode = .save then s
  else if s.mustTake then s.takeSolo.raise Ev.SEAM_WIT_GRANT
  else if s.refusedWrite then s.enterSolo.raise Ev.SEAM_WIT_GRANT
  else if s.seam.joining && s.seam.waited then ((s.enterSolo.adoptAll).bindAll).raise Ev.SEAM_WIT_GRANT
  else if s.mode == .solo && !s.pairEn && decide (s.epoch ≤ s.fld F.SEAM_TWIN_CLAIM_epoch) then
    s.raiseEpoch.reviewPair.raise Ev.SEAM_WIT_GRANT
  else s

/-! ### What the pair's shared tables hold, object by object (R58, R169, R173) -/

/-- The attributes of a region as a command supplies them. -/
def Rgn.args (r : Rgn) (i : Nat) : RegArgs :=
  { index := some i, pd := r.pd, tiled := r.tiled, read := r.read, write := r.write, atomic := r.atomic, flush := r.flush,
    local_ := r.local_, vaBase := r.vaBase, length := r.length, target := r.target, tileCount := r.tileCount, rnrThr := r.rnrThr,
    ext := r.ext, policy := r.policy, reservedZero := true }

/-- The attributes of a queue pair as a command supplies them. -/
def Qp.attrs (q : Qp) : QpAttrs :=
  { ty := some q.rc, pd := some q.pd, lport := some q.lport, rq := some q.srq, qKey := some q.qKey, remote := q.remote,
    epsn := some q.epsn, pmtu := some q.pmtu, resources := some q.resources, pKey := some q.pKey, dscp := some q.dscp,
    priority := some q.prio, spsn := some q.spsn, retry := some q.retry, rnrRetry := some q.rnrRetry, ccClass := some q.ccClass,
    relaxed := some (if q.relaxed then 1 else 0) }

/-- A queue pair with the attributes a CTX frame brings. -/
def Qp.withAttrs (q : Qp) (host rc : Bool) (st : QpState) (epsn : Nat) (a : QpAttrs) : Qp :=
  { q with
    state := st, rc := rc, host := host, pd := a.pd.getD q.pd, lport := a.lport.getD q.lport, srq := a.rq.getD q.srq, qKey := a.qKey.getD q.qKey
    remote := a.remote, epsn := epsn, doneTo := epsn, pmtu := a.pmtu.getD q.pmtu, resources := a.resources.getD q.resources
    pKey := a.pKey.getD q.pKey, dscp := a.dscp.getD q.dscp, prio := a.priority.getD q.prio, spsn := a.spsn.getD q.spsn
    retry := a.retry.getD q.retry, rnrRetry := a.rnrRetry.getD q.rnrRetry, ccClass := a.ccClass.getD q.ccClass
    relaxed := a.relaxed == some 1 }

/-- A queue-pair index as frames carry it. -/
def qpi (n : Nat) : Qpi := ⟨n % 65536, by omega⟩

/-- The number of entries of a channel's log, oldest first, as CTX updates. -/
def Chan.entryUpdates (c : Nat) (ch : Chan) : List CtxUpdate := ch.log.map (fun e => .logEntry c e.seq e.stamp e.pub e.payload e.held e.pos)

/-- The tag of the command that closes a region, for a CLOSING one. -/
def Rgn.tagOf (r : Rgn) : Option (BitVec 16) := if r.state = .closing then some (r.closer.elim 0 (·.tag)) else none

/-- A receive entry as a CTX frame carries it. -/
def RecvEntry.parts (e : RecvEntry) : BitVec 64 × BitVec 32 × Nat × Nat := (e.wrId, e.key, e.offset, e.len)

/-- The shared tables of this unit (R58, R108, R169). -/
def State.tables (s : State) : List CtxUpdate :=
  s.kept.srqs.map (fun p => .recvQueue true p.1 p.2.pd (some p.2.ring.def_) p.2.ring.written (p.2.entries.map RecvEntry.parts)) ++
  s.kept.domains.map (fun p => .domain p.1 (some (p.2.regionQuota, p.2.qpQuota, p.2.keySlot))) ++
  s.kept.rdt.map (fun p => .region p.1 p.2.epoch (if p.2.state = .free then none else some (p.2.args p.1)) (p.2.tagOf) p.2.lastFault) ++
  s.kept.qps.flatMap (fun p => [.queuePair (qpi p.1) p.2.host p.2.rc p.2.state p.2.epsn p.2.attrs,
    .recvQueue false p.1 p.2.pd (p.2.ring.map (·.def_)) ((p.2.ring.map (·.written)).getD 0) ((p.2.reserved ++ p.2.recvs).map RecvEntry.parts)] ++
    p.2.atomics.map (fun a => .atomicResult (qpi p.1) a.1 a.2)) ++
  s.kept.chans.flatMap (fun p => [.channel p.2.args p.2.next p.2.logEnd] ++ p.2.pubs.map (fun x => .publisher p.1 x.1 (qpi x.2)) ++ p.2.entryUpdates p.1) ++
  s.kept.subs.map (fun p => .subscriber (p.2.args (p.1 / 1024) (p.1 % 1024)) p.2.snap)

/-! ### Entering RESYNC (R163, R164, R190) -/

/-- This unit's claim is the higher (R163): epoch, then the LEAD flag where the units pair after a SAVE (R160), then identity. -/
def State.leads (s : State) (p : Peer) : Bool :=
  decide (p.epoch < s.epoch) ||
  (p.epoch == s.epoch && ((s.lead && !p.lead) || (s.lead == p.lead && s.unitBit && !p.unit)))

/-- The tiles that are not UNHOMED. -/
def State.heldTiles (s : State) : List Nat := (s.kept.tiles.filter (fun p => !p.2.empty)).map (·.1)

/-- Tiles in the order of a copy (R156, R190): DRAM homes from the most recently used, then the others. -/
def State.copyOrder (s : State) (ts : List Nat) : List Nat :=
  (List.range 16).flatMap (fun a => ts.filter (fun t => (s.tile t).inDram && (s.tile t).age == a)) ++
  ts.filter (fun t => !(s.tile t).inDram)

/-- LEAD's copy set from its record, or from every tile it holds where the copy is full, with what FOLLOW reports (R190). -/
def State.leadCopySet (s : State) (theirs : List Nat) : List Nat :=
  let own := if s.seam.full then s.heldTiles else match s.kept.record with
    | some r => r.tiles
    | none => []
  s.copyOrder (theirs.foldl setAdd (own.foldl setAdd []))

/-- Begins a RESYNC on this unit; the pair's order starts afresh (DEDUCED, log entry 20). -/
def State.beginResync (s : State) (lead full : Bool) : State :=
  let s := { s with seam := { s.seam with
    pairSeq := 0, applied := 0, early := [], commits := [], fwdWait := [], failed := [], inflight := [], copied := [], copySet := []
    link0 := { s.seam.link0 with queue := [] }, link1 := { s.seam.link1 with queue := [] }, refusing := false
    joining := false, waited := false, blind := true, copying := true, cut := false, full := full, yielded := false } }
  ((s.setBit F.SEAM_STATUS_lead lead).setMode .resync).firstCap s.mode

/-- The unit enters RESYNC as LEAD: its record, or its marks where none is open, is the copy set to begin with, and the shared tables go
across. -/
def State.startLead (s : State) (p : Peer) : State :=
  let full := decide (p.sync < s.sync)
  let s := if s.kept.record.isSome then s
    else { s with kept := { s.kept with record := some ⟨s.sync, s.kept.marks⟩ } }
  let s := s.beginResync true full
  let s := { s with seam := { s.seam with copySet := s.leadCopySet [] } }
  let s := s.reviewPair
  s.tables.foldl (fun s u => s.seamSend (.ctx u)) s

/-- The shared tables of a returning unit are LEAD's from now on (R58, R108): what it held of them goes, with its messages and their cells. -/
def State.forgetShared (s : State) : State :=
  let s := s.kept.qps.foldl (fun s p => (s.endShares p.1).freeChain p.2.owner (chainsOf (p.2.msgs ++ p.2.cur.toList))) s
  { s with
    kept := { s.kept with domains := [], rdt := [], qps := [], srqs := [], chans := [], subs := [] }
    entries := [], descs := [], tlr := { s.tlr with pinned := [], jobs := [] }, ports := { s.ports with tx := [] }, mqpOut := [] }

/-- The unit enters RESYNC as FOLLOW at LEAD's epoch (R179), and reports its marks, or every tile it holds where the copy is full
(R190); after a lost image it is (R160). -/
def State.startFollow (s : State) (p : Peer) : State :=
  let full := decide (s.sync < p.sync) || s.bit F.GLB_SAVE_STAT_lost
  let mine := match s.kept.record with
    | some r => s.kept.marks.foldl setAdd r.tiles
    | none => s.kept.marks
  let s := ((s.beginResync false full).setFld F.SEAM_CLAIM_epoch p.epoch).forgetShared
  let s := ({ s with kept := { s.kept with record := none } }).reviewPair
  s.seamSend (.ctx (.marks full (if full then s.heldTiles else mine)))

/-- The twin serves (R164): its mode is SOLO, PAIRED or RESYNC. -/
def Peer.serves (p : Peer) : Bool := decide (3 ≤ p.mode) && decide (p.mode ≤ 5)

/-- Both units enter PAIRED, and WIT_REQ_N is released (R192). -/
def State.cutOver (s : State) : State :=
  ((({ s.setBit F.SEAM_WIT_STAT_requesting false with seam := { s.seam with cut := true }, kept := { s.kept with imgSync := none } }).setMode .paired).raise Ev.SEAM_RSY_CUTOVER).reviewPair

/-- What the twin's report makes this unit do, with Seam up (R164, R192). A FOLLOW that refused a MIRROR frame returns only once its tier
is no longer frozen (R170), and LEAD in SOLO leaves it when its twin stands ready to pair or has come to its epoch as FOLLOW. -/
def State.consider (s : State) : State :=
  match s.seam.peer with
  | none => s
  | some p =>
    if !s.twinUp || !s.pairEn || s.mode == .doze || s.mode == .save || s.mode == .reset then s
    else if s.epoch < p.epoch && s.serves && p.serves then (if s.seam.refusing && s.bit F.QLT_STATUS_frozen then s else s.startFollow p)
    else if s.mode == .bringup && s.bit F.GLB_SAVE_STAT_lost then (if s.boot.ready && p.serves then s.startFollow p else s)
    else if s.seam.joining then
      if p.serves then s.startFollow p
      else if p.joining then (if s.leads p then s.startLead p else s.startFollow p)
      else s
    else if s.mode == .solo && (p.joining || (p.mode == 5 && p.epoch == s.epoch)) then s.startLead p
    else if s.mode == .resync && !s.lead && p.mode == 4 && p.epoch == s.epoch && !s.seam.blind then s.cutOver
    else s

/-! ### The twin's state (R178, R186, R188) -/

/-- The twin has become SEAM_LOST or LOST. -/
def State.twinWorse (s : State) : State :=
  let s := if s.twin = 2 then s.raise Ev.SEAM_TWIN_LOST else s
  let s := s.reviewPair
  let s := if s.twin = 1 ∧ s.mirrored ∧ !s.lead then s.sendTack 8 else s
  let s := if s.twin = 2 ∧ s.mirrored ∧ !s.lead ∧ !s.ready then s.raise Ev.SEAM_RSY_ABORT else s
  s.seize

/-- A path has returned: both units keep mode and role while neither has raised its epoch, and LEAD sends again what has no MACK
(R188). -/
def State.twinBetter (s : State) : State :=
  let same := match s.seam.peer with
    | some p => p.epoch == s.epoch
    | none => false
  let s := if s.mirrored && same then s.raise Ev.SEAM_TWIN_BACK else s
  let s := s.reviewPair
  if s.mirrored && same && s.lead && s.twin == 0 then
    (s.seam.commits.filter (fun c => !c.acked)).foldl (fun s c => s.seamSend c.frame) s
  else s

/-- The twin's state as the paths tell it (R178): in DOZE, and for 10 ms after it, by Tack alone (R303). -/
def State.twinSeen (s : State) : Nat :=
  let tack := s.seam.tackLast.isSome
  if s.seam.departed then 2
  else if tack && (s.mode == .doze || s.doze.grace) then 0
  else if s.mode == .doze then 2
  else if s.seam.link0.up || s.seam.link1.up then 0
  else if tack then 1
  else 2

/-- The twin's state follows from the paths (R178). -/
def State.reviewTwin (s : State) : State :=
  let new := s.twinSeen
  let old := s.twin
  let s := s.setBit F.SEAM_STATUS_tack_up s.seam.tackLast.isSome
  if new = old then s.reviewPair.consider
  else
    let s := (s.setFld F.SEAM_STATUS_twin new).raise Ev.SEAM_TWIN_STATE
    let s := if new = 0 then { s with seam := { s.seam with yielded := false } } else s
    (if old < new then s.twinWorse else s.twinBetter).consider

/-! ### Beats (R176, R177) -/

/-- The twin reports itself: a beat ends a departure unless its sender is in SAVE. -/
def State.heard (s : State) (p : Peer) : State :=
  let s := { s with seam := { s.seam with peer := some p, departed := s.seam.departed && p.mode == 7 } }
  (s.seeClaim p.epoch).reviewTwin

/-- A frame or beat of another pair, or of the unit's own identity, is ignored (R162). -/
def State.mismatch (s : State) (id : Nat) (unit : Bool) : Bool := id != s.pairId || unit == s.unitBit

/-- SEAM_BEAT_SEND (R176). Seam's SerDes are parked in DOZE and from step 4 of a SAVE. While the link is down its beats are not held for a
replay (DESIGN CHOICE, log entry 124). -/
def State.doBeatSend (s : State) (l : Nat) : State :=
  if !s.pairEn || s.mode == .doze || s.quiet then s
  else
    let x := s.seamLink l
    let f := SFrame.beat s.mrt x.peer (if x.last.isSome then s.mrt - x.peerAt else 0) s.sync
    if x.up then s.sendFrame l 0 f
    else
      let n := (x.tx + 1) % 2 ^ 32
      (s.setLink l { x with tx := n }).putFrame l n 0 f

def execSeamBeatSend (link : Fin 2) (s : State) : Res := s.core fun s => s.doBeatSend link.val

/-- The round trip of a link (R176, R359). -/
def State.measureRtt (s : State) (l : Nat) (b : Beat) : State :=
  if b.echo = 0 then s
  else
    let t := Nat.min 65535 (s.mrt - b.echo - b.delay)
    let (lo, cur) := if l = 0 then (F.SEAM_RTT0_min_ns, F.SEAM_RTT0_cur_ns) else (F.SEAM_RTT1_min_ns, F.SEAM_RTT1_cur_ns)
    ((s.setFld cur t).setFld lo (Nat.min t (s.fld lo))).sample 3 (some l) t

/-- Frames up to a link_ack are acknowledged (R174). -/
def ackTo (l : List (Nat × Nat × SFrame)) (n : Nat) : List (Nat × Nat × SFrame) :=
  if l.any (fun p => p.1 = n) then (l.dropWhile (fun p => p.1 != n)).drop 1 else l

/-- A frame follows a gap in link_seq: it is discarded (R174). Where nothing has arrived since the link went down, any number is in order
(DESIGN CHOICE, log entry 124). -/
def Link.gap (x : Link) (seq : Nat) : Bool := x.up && x.synced && seq != (x.rx + 1) % 2 ^ 32

/-- Frames have arrived in order on a link, `n` of them from a link_seq on; what their link_ack acknowledges makes room (R172, R174). -/
def State.gotFrames (s : State) (l seq n ack : Nat) : State :=
  let x := s.seamLink l
  (s.setLink l { x with synced := true, rx := (seq + n - 1) % 2 ^ 32, unacked := ackTo x.unacked ack }).pump l

/-- SEAM_BEAT_RECEIVE (R176). -/
def State.doBeatReceive (s : State) (l : Nat) (b : Beat) : State :=
  if !s.pairEn || s.mode == .doze then s
  else if s.mismatch b.pairId b.unit then s.raise Ev.SEAM_PAIR_MISMATCH
  else if (s.seamLink l).gap b.linkSeq then s
  else
    let s := s.gotFrames l b.linkSeq 1 b.linkAck
    let x := s.seamLink l
    let near := match x.last with
      | some t => decide (s.mrt < t + 2000 * s.fld F.SEAM_BEAT_CFG_seam_us)
      | none => false
    let s := s.setLink l { x with
      last := some s.mrt, peer := b.sent, peerAt := s.mrt
      beats := if x.up then x.beats else if near then x.beats + 1 else 1 }
    let s := (s.measureRtt l b).raiseCommit b.stamp
    let old := s.seam.peer.getD {}
    s.heard { old with epoch := b.epoch, unit := b.unit, mode := b.mode, ready := b.ready, joining := b.joining, sync := b.sync }

/-- TACK_BEAT_SEND (R177): Fen sends it in DOZE too. -/
def execTackBeatSend (s : State) : Res := s.core fun s => if s.quiet then s else s.sendTack 1

/-- A Tack frame that passes its check and comes of the twin (R162, R177, R262). -/
def State.tackIn (s : State) (t : TackId) (k : State → State) : State :=
  if !s.pairEn then s
  else if !t.crcOk then s.sat F.CRC_FAIL_CNT_seam
  else if s.mismatch t.pairId t.unit then s.raise Ev.SEAM_PAIR_MISMATCH
  else k s

/-- TACK_BEAT_RECEIVE (R177, R262). In DOZE nothing but the twin's report changes. -/
def State.doTackReceive (s : State) (b : TackBeat) : State :=
  s.tackIn ⟨b.crcOk, b.pairId, b.unit, b.epoch⟩ fun s =>
    let old := s.seam.peer.getD {}
    let p : Peer := { old with epoch := b.epoch, unit := b.unit, mode := b.mode, lead := b.lead, held := b.held, ready := b.ready }
    let s := { s with seam := { s.seam with tackLast := some s.mrt } }
    s.heard p

/-! ### Links and paths (R174, R178) -/

/-- SEAM_LINK_UP (R174): after 8 consecutive beats. What waits for a link leaves. -/
def State.doLinkUp (s : State) (l : Nat) : State :=
  let x := s.seamLink l
  if x.up ∨ x.beats < 8 ∨ !s.pairEn then s
  else
    let s := ((((s.setLink l { x with up := true }).setBit (linkBit l) true).raise Ev.SEAM_LINK_UP l)).reviewTwin
    let o := s.seamLink (1 - l)
    let s := if o.up then s else o.queue.foldl (fun s f => s.sendFrame l f.1 f.2) (s.setLink (1 - l) { o with queue := [] })
    s.pump l

/-- SEAM_LINK_DOWN (R174): what the link has not delivered leaves on the other link in pair_seq order, or waits. -/
def State.doLinkDown (s : State) (l : Nat) : State :=
  let x := s.seamLink l
  if !x.up then s
  else
    let o := s.seamLink (1 - l)
    let s := ((s.setLink l { x.taken with up := false, queue := if o.up then [] else x.pending }).setBit (linkBit l) false).raise Ev.SEAM_LINK_DOWN l
    let s := if o.up then x.pending.foldl (fun s f => s.sendFrame (1 - l) f.1 f.2) s else s
    s.reviewTwin

/-- SEAM_REPLAY_TIMEOUT (R174): the transmitter sends again from link_ack + 1. -/
def State.doReplay (s : State) (l : Nat) : State :=
  let x := s.seamLink l
  if !x.up ∨ x.unacked.isEmpty then s
  else (x.unacked.filter (fun u => s.mayLeave u.2.2)).foldl (fun s u => s.putFrame l u.1 u.2.1 u.2.2) (s.wrap F.SEAM_STALE_CNT_replays)

def execSeamReplayTimeout (link : Fin 2) (s : State) : Res := s.core fun s => s.doReplay link.val

/-- SEAM_FRAME_DISCARD (R173, R174, R262): kind 0 a bad hdr_crc, 1 a bad trailer, which are counted as check failures; 2 a gap; 3 an unknown
type, which is counted. -/
def State.doFrameDiscard (s : State) (_ : Nat) (kind : Nat) : State :=
  if !s.pairEn then s
  else if kind ≤ 1 then s.sat F.CRC_FAIL_CNT_seam
  else if kind = 3 then { s with seam := { s.seam with badTypes := s.seam.badTypes + 1 } }
  else s

def execSeamFrameDiscard (link : Fin 2) (kind : Fin 4) (s : State) : Res := s.core fun s => s.doFrameDiscard link.val kind.val

/-- A path is lost (R178); in DOZE only Tack is judged (R303). -/
def State.doPathLost (s : State) (p : Path) : State :=
  match p with
  | .seam0 => if s.mode == .doze then s else if s.seam.link0.up then s.doLinkDown 0 else s.reviewTwin
  | .seam1 => if s.mode == .doze then s else if s.seam.link1.up then s.doLinkDown 1 else s.reviewTwin
  | .tack => ({ s with seam := { s.seam with tackLast := none } }).reviewTwin

/-- A Seam frame of the twin arrives in order on its link (R162, R174). -/
def State.linkFrame (s : State) (h : SeamHdr) (k : State → State) : State :=
  if !s.pairEn || s.mode == .save || s.mode == .doze then s
  else if s.mismatch h.pairId h.unit then s.raise Ev.SEAM_PAIR_MISMATCH
  else if (s.seamLink h.link.val).gap h.linkSeq then s
  else k ((s.gotFrames h.link.val h.linkSeq (Nat.max 1 h.frames) h.linkAck).raiseCommit h.stamp)

/-- DEPART_RECEIVE (R160, R178): the twin is LOST at once; its claim may be a higher one (R176). -/
def State.doDepart (s : State) (n : Notice) : State :=
  let gone := fun (e : Nat) (s : State) => ({ s.seeClaim e with seam := { (s.seeClaim e).seam with departed := true } }).reviewTwin
  match n with
  | .seam h => s.linkFrame h (gone h.epoch)
  | .tack t => s.tackIn t (gone t.epoch)

/-- YIELD_RECEIVE (R188). A higher claim closes the gates (R176). -/
def State.doYield (s : State) (t : TackId) : State :=
  s.tackIn t fun s =>
    let s := s.seeClaim t.epoch
    let s := if s.mirrored then { s with seam := { s.seam with yielded := true } } else s
    (if s.mirrored ∧ s.lead then s.reviewPair.seize else s.reviewPair).consider

/-- PAIR_WAIT_EXPIRE (R164). -/
def State.doPairWait (s : State) : State :=
  if s.seam.joining then (({ s with seam := { s.seam with waited := true } }).reviewPair).seize else s

/-! ### The witness (R183, R184, R186, R314) -/

/-- WITNESS_GRANT (R183, R186): the filtered WIT_GNT rises. -/
def State.doWitness (s : State) : State := ((s.setBit F.SEAM_WIT_STAT_pin true).reviewPair).seize

/-- WITNESS_GRANT_FALL (R180, R183). -/
def execWitnessGrantFall (s : State) : Res := s.core fun s => (s.setBit F.SEAM_WIT_STAT_pin false).reviewPair

/-- TOKEN_EXPIRE (R314). -/
def execTokenExpire (s : State) : Res :=
  s.core fun s => ({ s with seam := { s.seam with token := none } }).reviewPair

/-- The checks of a witness token (R184). -/
def State.tokenOk (s : State) (t : WitToken) : Bool :=
  s.bit F.SEAM_WIT_CFG_token_en && t.magicOk && t.sigOk && t.recOk && t.pairId == s.pairId && t.unit == s.unitBit &&
  decide (s.epoch < t.epoch) && decide (s.fld F.SEAM_TWIN_CLAIM_epoch < t.epoch) && decide (s.commit < t.notAfter)

/-- WITNESS_TOKEN (R184, R314): the reference timer bounds the token's life from its acceptance. -/
def State.doWitnessToken (s : State) (h : Hdr) (t : WitToken) : State :=
  if s.tokenOk t then
    (({ s with seam := { s.seam with token := some (t.epoch, s.mrt + (t.notAfter - s.commit), false) } }).complete h .ok).reviewPair.seize
  else
    let s := (s.complete h .invalid).raise Ev.SEAM_TOKEN_BAD
    if t.recOk then s else s.raise Ev.NORC_REC_BAD

/-- One address is announced on a logical port: by gratuitous ARP, EtherType 0x0806, or by an unsolicited Neighbor Advertisement, EtherType 0x86DD (R86, R187). -/
def State.announceOn (s : State) (l : Nat) (v6 : Bool) (addr : Nat) : State :=
  let (s, sec) := s.protect l (if v6 then 0x86DD else 0x0806)
  s.put (.announce l v6 addr sec)

/-- The IPv4 and the IPv6 address of a unit's logical port are announced. No rule says how the addresses come to be held (DESIGN CHOICE, log entry 159). -/
def State.announceAll (s : State) (l : Nat) (unit : Bool) : State :=
  (s.announceOn l false (Config.address unit l false)).announceOn l true (Config.address unit l true)

/-- One announcement fewer is left under a key of the list. -/
def State.countAnnounce (s : State) (k n : Nat) : State :=
  { s with ports := { s.ports with announce := if n = 0 then alDel s.ports.announce k else alPut s.ports.announce k n } }

/-- ADDRESS_ANNOUNCE (R187, R194): the standby addresses of a port that has taken over, or the port's own once its unit is back. -/
def State.doAnnounce (s : State) (l : Nat) : State :=
  match alGet s.ports.announce l, alGet s.ports.announce (l + 32) with
  | some (k + 1), _ => (s.countAnnounce l k).announceAll l (!s.unitBit)
  | _, some (k + 1) => (s.countAnnounce (l + 32) k).announceAll l s.unitBit
  | _, _ => s

def execAddressAnnounce (lport : Lport) (s : State) : Res := s.core fun s => s.doAnnounce lport.val

/-! ### Frames from the twin (R172, R174, R175) -/

/-- A frame arrives in order on its link, of the twin, at an epoch that is not above this unit's; `gated` frames of a lower epoch are
discarded, counted and answered by `stale` (R175, R176). -/
def State.frameIn (s : State) (h : SeamHdr) (gated : Bool) (stale k : State → State) : State :=
  s.linkFrame h fun s =>
    if s.epoch < h.epoch then (s.seeClaim h.epoch).reviewPair.consider
    else if h.epoch < s.epoch ∧ gated then stale (s.wrap F.SEAM_STALE_CNT_stale)
    else k s

/-- The parts of memory that an operation writes. -/
def opParts : SeamOp → List (Nat × Nat)
  | .write ps => ps.map (fun p => (p.1, p.2.length))
  | .publish _ _ _ => []
  | .compareSwap a _ _ | .fetchAdd a _ | .atomicWrite a _ => [(a, 8)]

/-- An operation takes effect; `stamp` is that of its commit, for a publish. A MIRROR carries an atomic's result, which stands for what LEAD read. Answers the result and, for a
publish, the channel and sequence number. -/
def State.applyOp (s : State) (op : SeamOp) (result : Option (BitVec 64)) (stamp : Nat) :
    State × Option (BitVec 64) × Option (Nat × Nat) :=
  match op with
  | .write ps => (s.storeParts (opParts op) (ps.flatMap (·.2)), none, none)
  | .publish c p d =>
    let (s, q) := s.commitPublish c p d stamp
    (s, none, some (c, q))
  | .compareSwap a c w =>
    let old := result.getD (BitVec.ofNat 64 (leNat (s.bytes a 8)))
    (s.storeParts [(a, 8)] (leBytes 8 (if old = c then w else old).toNat), some old, none)
  | .fetchAdd a v =>
    let old := result.getD (BitVec.ofNat 64 (leNat (s.bytes a 8)))
    (s.storeParts [(a, 8)] (leBytes 8 (old + v).toNat), some old, none)
  | .atomicWrite a v => (s.storeParts [(a, 8)] (leBytes 8 v.toNat), some 0, none)

/-- The key slot that a message's writes are recorded with. -/
def State.msgKey (s : State) (n : Nat) : Nat := (s.qpAt n).elim 0 (fun q => s.domainKey q.pd)

/-- The last PSN of a mirrored message. -/
def lastPsn (q : Qp) (m : SeamMsg) : Nat :=
  match m.op with
  | .publish _ _ d => psnAdd m.psn (Nat.max 1 (ceilDiv d.length (Nat.max 1 q.pmtu)) - 1)
  | .write ps => psnAdd m.psn (Nat.max 1 (ceilDiv (ps.foldl (fun n p => n + p.2.length) 0) (Nat.max 1 q.pmtu)) - 1)
  | _ => m.psn

/-- A mirrored or forwarded message as the context of a queue pair of the other unit records it (R187). -/
def recordOf (m : SeamMsg) (q : Qp) (result : Option (BitVec 64)) : Msg :=
  { psn := m.psn, last := lastPsn q m
    verb := match m.op with
      | .write _ => .write | .publish _ _ _ => .send | .compareSwap _ _ _ => .compareSwap | .fetchAdd _ _ => .fetchAdd | .atomicWrite _ _ => .atomicWrite
    region := some m.region, pieces := [], len := 0, data := [], imm := 0, cmp := 0, swapAdd := 0, relaxed := false, ackReq := true,
    local_ := false, entry := none, got := 0, phase := .committed, atPoint := true, fwd := false, dup := false, resent := false,
    pub := none, result := result, solicit := false, arrived := 0 }

/-- A queue pair of the other unit keeps the message among the committed, and its atomic's result (R76, R187). -/
def State.noteRemote (s : State) (m : SeamMsg) (result : Option (BitVec 64)) : State :=
  match s.qpAt m.qp.val with
  | none => s
  | some q =>
    if s.hosts q then s
    else
      let q := { q with past := q.past ++ [recordOf m q result] }
      s.setQp m.qp.val (match result with
        | some r => q.keepAtomic m.psn r
        | none => q)

/-! ### Forwards at LEAD (R167) -/

/-- A forward of a queue pair that has failed at LEAD comes after the one that was refused: nothing behind that one is applied (R80). The refused message
itself may come again after a fence of its engine (R87). -/
def State.behindFailed (s : State) (n psn : Nat) : Bool := s.seam.failed.any (fun f => f.1 == n && f.2 != psn && !psnBefore psn f.2)

/-- LEAD refuses a forward with a syndrome, and marks its queue pair (R80). -/
def State.refuseFwd (s : State) (n psn syn : Nat) : State :=
  ({ s with seam := { s.seam with failed := alPut s.seam.failed n psn } }).seamSend (.mack 0 1 n psn syn)

/-- LEAD commits a forwarded message at its sequencer and returns its MIRROR frame; one that needs a home LEAD cannot give yet waits,
with those of its queue pair behind it; one that is refused, or that an uncorrectable error stops (R77), is answered REFUSED. -/
def State.commitFwd (s : State) (h : SeamHdr) (m : SeamMsg) (rd : CommitRead) : State :=
  let n := m.qp.val
  let wait := fun (s : State) => { s with seam := { s.seam with fwdWait := s.seam.fwdWait ++ [(h, m)] } }
  if s.seam.fwdWait.any (fun w => w.2.qp = m.qp) then wait s
  else if (s.qpAt n).any (fun q => q.past.any (fun x => x.psn = m.psn)) then s
  else if s.behindFailed n m.psn then s.seamSend (.mack 0 1 n m.psn 0x29)
  else
    let s := { s with seam := { s.seam with failed := s.seam.failed.filter (fun f => !(f.1 == n && f.2 == m.psn)) } }
    match rd with
    | .spoolUe => s.refuseFwd n m.psn 0x30
    | .mergeUe line => (s.dataError line).refuseFwd n m.psn 0x30
    | .cipher false lane => (s.dual .retryDiffers lane.val).refuseFwd n m.psn 0x30
    | rd =>
      let s := match rd with
        | .cipher _ lane => s.dual .retryAgrees lane.val
        | _ => s
      let key := s.msgKey n
      let (s, d) := s.lookup true key n m.psn (opParts m.op)
      match d with
      | .refused => s.refuseFwd n m.psn 0x29
      | .ok =>
        let (s, r, pub) := s.applyOp m.op none s.commit
        let s := s.readReleases m.region (opParts m.op)
        let s := s.noteRemote m r
        let tiles := match pub with
          | some (c, q) => s.logTilesOf c q
          | none => tilesOf (opParts m.op)
        let (s, now) := s.mirrorCommit { m with result := r } tiles h.local_ pub h.relaxed true
        if now then s.reachPoint n m.psn pub else s
      | _ => wait s

/-- Forwards that wait are tried again in order. -/
def State.retryForwards (s : State) : State :=
  s.seam.fwdWait.foldl (fun s w => s.commitFwd w.1 w.2 .clean) { s with seam := { s.seam with fwdWait := [] } }

/-- FWD_RECEIVE (R167, R175). -/
def State.doFwd (s : State) (h : SeamHdr) (m : SeamMsg) (rd : CommitRead) : State :=
  let stale := fun (s : State) => s.seamSend (.mack 0 2 m.qp.val m.psn)
  s.frameIn h true stale fun s => if s.mirrored && s.lead then s.commitFwd h m rd else stale s

/-! ### MIRROR, COPY and DISCARD at FOLLOW (R132, R167, R168, R175, R190) -/

/-- FOLLOW's own queue pair has its forwarded message back, be it in its place or recorded after a fence (R87): it is at its acknowledgement point,
or, where `awaits` names tiles whose COPY brings its data, once `now` says so or they have come (R191). `done` says that it has been applied
here; until then it stays in the write buffer (R167). -/
def State.returned (s : State) (m : SeamMsg) (done : Bool) (result : Option (BitVec 64)) (pub : Option (Nat × Nat)) (awaits : List Nat := [])
    (now : Bool := true) : State :=
  let n := m.qp.val
  let upd := fun (x : Msg) =>
    if x.psn == m.psn && x.fwd && !x.committed then
      { x with phase := if done then .committed else x.phase, atPoint := x.atPoint || now, result := result, pub := if done then pub else x.pub
               awaits := awaits }
    else x
  let s := s.modQp n (fun q => { q with msgs := q.msgs.map upd, past := q.past.map upd })
  let s := match result with
    | some r => s.modQp n (fun q => q.keepAtomic m.psn r)
    | none => s
  (if done then s.endShare n m.psn else s).sweep n

/-- The tiles of a forwarded write that its MIRROR frame leaves to a COPY (R191): those in the copy set and, in RESYNC, those whose copy was in
flight. After cutover LEAD sends the COPY first (R192). -/
def State.leftToCopy (s : State) (m : SeamMsg) : List Nat :=
  match m.op, (s.qpAt m.qp.val).bind (fun q => (q.msgs ++ q.past).find? (fun x => x.psn == m.psn && x.fwd && !x.committed)) with
  | .write ps, some x =>
    (tilesOf x.parts).filter (fun t => !ps.any (fun p => tileOf p.1 == t) && (s.mode == .resync || s.seam.copySet.contains t))
  | _, _ => []

/-- A tile is to be copied (again): it is not present on FOLLOW (R190, R191). -/
def State.expectCopy (s : State) (t : Nat) : State :=
  let s := s.setTile t { s.tile t with present := false }
  { s with seam := { s.seam with copySet := setAdd s.seam.copySet t } }

/-- A COPY has brought a tile: forwarded writes that waited for it on one queue pair are applied (R167, R191). -/
def State.broughtOne (s : State) (t n : Nat) : State :=
  match s.qpAt n with
  | none => s
  | some q =>
    let upd := fun (x : Msg) =>
      let l := setDel x.awaits t
      if x.awaits == [t] then { x with awaits := [], phase := .committed, atPoint := true } else { x with awaits := l }
    let s := s.setQp n { q with msgs := q.msgs.map upd, past := q.past.map upd }
    (((q.msgs ++ q.past).filter (fun x => x.awaits == [t])).foldl (fun s x => s.endShare n x.psn) s).sweep n

def State.brought (s : State) (t : Nat) : State :=
  ((s.kept.qps.filter (fun p => (p.2.msgs ++ p.2.past).any (fun x => x.awaits.contains t))).map (·.1)).foldl (fun s n => s.broughtOne t n) s

/-- A copied tile takes a DRAM home on FOLLOW, under the key slot that LEAD records for it (R267); what FOLLOW held of it is stale (R132, R190). -/
def State.homeCopy (s : State) (t key : Nat) : State × Need :=
  if (s.tile t).inDram ∧ (s.tile t).units.isEmpty then (s, .ok)
  else
    match s.askHome t with
    | (s, .granted) =>
      let (s, ok) := (s.unhome t).homeNew t none key false
      if ok then ((s.setTile t { s.tile t with present := false }).reviewCap.reviewFull, .ok) else (s, .absent)
    | (s, g) => s.denied g

/-- A tile of the copy set is complete on FOLLOW. -/
def State.copyArrived (s : State) (t : Nat) : State :=
  let s := if (s.tile t).present then s else s.setTile t { s.tile t with present := true }
  ({ s with seam := { s.seam with copySet := setDel s.seam.copySet t, copied := alDel s.seam.copied t } }).brought t

/-- One COPY frame, which carries ciphertext (R266); the first of a tile homes it, and a frame that does not follow the one before is part of a copy that was broken
off. -/
def State.applyCopy (s : State) (q t i : Nat) (data : List Byte) (key : Nat) : State × Bool :=
  let (s, d) := if i = 0 then s.homeCopy t key else (s, .ok)
  match d with
  | .ok =>
    let got := if i = 0 then [] else alGetD s.seam.copied t []
    if i ≠ got.length then (s.seamSend (.mack q 1 0 0), true)
    else
      let k := s.slotKey (s.tile t).key
      let s := s.store (t * 65536 + i * 4096) ((List.range 16).flatMap (fun l => decipher k (t * 256 + i * 16 + l) ((data.drop (l * 256)).take 256)))
      let s := { s with seam := { s.seam with copied := alPut s.seam.copied t (got ++ [i]) } }
      ((if i = 15 then s.copyArrived t else s).seamSend (.mack q 0 0 0), true)
  | .refused => (({ s with seam := { s.seam with copied := alDel s.seam.copied t } }).seamSend (.mack q 1 0 0), true)
  | _ => (s, false)

/-- A MIRROR frame: its granules are homed first, then it takes effect and its MACK leaves, or it is refused (R132, R170). Where LEAD left a part of the
write to a COPY, the acknowledgement follows the witness that the twin last reported holding (R191; DEDUCED, log entry 142). -/
def State.applyMirror (s : State) (q : Nat) (h : SeamHdr) (m : SeamMsg) : State × Bool :=
  let n := m.qp.val
  let key := s.msgKey n
  let (s, d) := s.lookup true key n m.psn (opParts m.op)
  match d with
  | .ok =>
    let (s, _, pub) := s.applyOp m.op m.result h.stamp
    let s := match pub with
      | some (c, k) => s.entryPoint c k
      | none => s
    let s := { s with kept := { s.kept with newest := h.stamp }, seam := { s.seam with acked := Nat.max s.seam.acked h.stamp } }
    let left := s.leftToCopy m
    let s := (if s.mode = .resync then left else []).foldl State.expectCopy (s.noteRemote m m.result)
    let s := if left.isEmpty then s.returned m true m.result pub
      else s.returned m false m.result none left (h.local_ || s.seam.peer.any (·.held))
    (s.seamSend (.mack q 0 n m.psn), true)
  | .refused =>
    ((({ s with seam := { s.seam with refusing := true } }).seamSend (.mack q 1 n m.psn)).raise Ev.SEAM_MIRROR_REFUSED, true)
  | _ => (s, false)

/-- The frame whose turn it is; answers whether the order moves on. -/
def State.applyEarly (s : State) (q : Nat) : Early → State × Bool
  | .mirror h m => s.applyMirror q h m
  | .copy t i data key => s.applyCopy q t i data key
  | .discard t => ((((s.unhome t).reviewFull).copyArrived t).seamSend (.mack q 0 0 0), true)

/-- Applies held frames in pair_seq order while the next one is there (R175). -/
def State.drainN : Nat → State → State
  | 0, s => s
  | k + 1, s =>
    let q := s.seam.applied + 1
    match alGet s.seam.early q with
    | none => s
    | some e =>
      match s.applyEarly q e with
      | (s, true) => State.drainN k { s with seam := { s.seam with applied := q, early := alDel s.seam.early q } }
      | (s, false) => s

/-- Applies what can be applied; messages parked on tiles that have come look their granules up again. -/
def State.drain (s : State) : State := (State.drainN s.seam.early.length s).reviewPair.retryParks

/-- A frame of the pair's order arrives at FOLLOW: a duplicate is discarded, any other is held until its turn (R175). -/
def State.orderIn (s : State) (q : Nat) (e : Early) : State :=
  if s.lead || !s.mirrored || decide (q ≤ s.seam.applied) then s
  else ({ s with seam := { s.seam with early := alPut s.seam.early q e } }).drain

/-- MIRROR_RECEIVE (R167, R168, R175): at the local point a forwarded write is acknowledged as its frame arrives. -/
def State.doMirror (s : State) (h : SeamHdr) (m : SeamMsg) : State :=
  s.frameIn h true id fun s =>
    let fresh := !s.lead && s.mirrored && decide (s.seam.applied < h.pairSeq)
    let s := s.orderIn h.pairSeq (.mirror h m)
    if fresh && h.local_ && decide (s.seam.applied < h.pairSeq) then s.returned m false m.result none [] else s

/-- DISCARD_FRAME_RECEIVE (R173, R252). -/
def execDiscardFrameReceive (h : SeamHdr) (tile : Nat) (s : State) : Res :=
  s.core fun s => s.frameIn h true id fun s => s.orderIn h.pairSeq (.discard tile)

/-- Everything that waits for a home or a granule is tried again: parked messages, forwards, frames of the pair's order. -/
def State.retryAll (s : State) : State :=
  let s := s.retryParks
  let s := if s.seam.fwdWait.isEmpty then s else s.retryForwards
  if s.seam.early.isEmpty then s else s.drain

/-- An entry of the fresh-frame table has been freed in this command: what waits for one is tried again (R217). -/
def State.afterFree (s : State) : State := if s.nc.freed then ({ s with nc := { s.nc with freed := false } }).retryAll else s

def execMessageCommit (qp : Qpi) (psn : Nat) (rd : CommitRead) (s : State) : Res := s.core fun s => (s.doCommit qp.val psn rd).afterFree

def execFwdReceive (h : SeamHdr) (m : SeamMsg) (rd : CommitRead) (s : State) : Res := s.core fun s => (s.doFwd h m rd).afterFree

def execMirrorReceive (h : SeamHdr) (m : SeamMsg) (s : State) : Res := s.core fun s => (s.doMirror h m).afterFree

/-- COPY_RECEIVE (R190). -/
def execCopyReceive (h : SeamHdr) (tile : Nat) (frameNo : Fin 16) (data : List Byte) (key : Nat) (s : State) : Res :=
  s.core fun s => (s.frameIn h true id fun s => s.orderIn h.pairSeq (.copy tile frameNo.val data key)).afterFree

/-! ### MACKs at LEAD (R170, R181, R191) -/

/-- Commits and copies that a MACK of the order completes; a tile that has been copied is marked no more (R189). -/
def State.mackOk (s : State) (q : Nat) : State :=
  let done := (s.seam.inflight.filter (fun p => p.2 = q)).map (·.1)
  let upd := fun (c : Unmacked) =>
    { c with acked := c.acked || c.seq == q, waits := c.waits.filter (fun t => !done.contains t) }
  ({ s with seam := { s.seam with
      inflight := s.seam.inflight.filter (fun p => p.2 != q)
      commits := s.seam.commits.map upd } }).clearMarks done |>.settle

/-- FOLLOW refused a frame: LEAD holds the write unacknowledged, marks its tiles in the record and requests the witness (R170); a tile
whose COPY was refused is copied again later. -/
def State.mackRefused (s : State) (q : Nat) : State :=
  match s.seam.commits.find? (fun c => c.seq = q) with
  | some c =>
    let s := { s with seam := { s.seam with
      commits := s.seam.commits.map (fun (x : Unmacked) => if x.seq == q then { x with refused := true } else x) } }
    let old := s.kept.record.getD ⟨c.stamp, []⟩
    let s := { s with kept := { s.kept with record := some { old with tiles := c.tiles.foldl setAdd old.tiles } } }
    s.reviewPair.seize
  | none =>
    match s.seam.inflight.find? (fun p => decide (q ≤ p.2) && decide (p.2 ≤ q + 15)) with
    | some p => { s with seam := { s.seam with inflight := s.seam.inflight.erase p, copySet := s.seam.copySet ++ [p.1] } }
    | none => s

/-- FOLLOW's forwards have been refused as stale: its queue pairs return to their lowest message that has not completed (R175). -/
def State.mackStale (s : State) : State :=
  ((s.kept.qps.filter (fun p => s.hosts p.2)).map (·.1)).foldl State.dropForwards s

/-- FOLLOW abandons a forward that LEAD has given up at the deadline of its region's drain (R60). -/
def State.abandonFwd (s : State) (n : Nat) (m : Msg) : State :=
  s.abandonPicked (m.region.getD 0) n (fun x => x.psn == m.psn && x.fwd)

/-- MACK_RECEIVE (R172, R181): status 0 applied, 1 REFUSED, 2 STALE. A refused forward to a closing region is abandoned (R60). A refused forward of a queue pair that has lost its engine is forgotten, so that its
re-send is forwarded anew. -/
def State.doMack (s : State) (h : SeamHdr) (n psn status syn : Nat) : State :=
  s.frameIn h false id fun s =>
    if s.lead then
      match status with
      | 0 => s.mackOk h.pairSeq
      | 1 => s.mackRefused h.pairSeq
      | _ => s
    else
      match status with
      | 1 =>
        match (s.qpAt n).bind (fun q => q.msgs.find? (fun m => m.psn = psn ∧ m.fwd ∧ !m.committed)) with
        | some m => if m.region.any (fun i => (s.rgn i).state == .closing) then s.abandonFwd n m else s.refuse n psn (if syn = 0 then 0x29 else syn) m.verb
        | none => s.modQp n (fun q => { q with past := q.past.filter (fun (m : Msg) => !(m.psn == psn && m.fwd && !m.committed)) })
      | 2 => s.mackStale
      | _ => s

/-! ### Commands and shared context (R58, R169, R173) -/

/-- LEAD has FOLLOW's marks: the copy set is complete and goes to FOLLOW; an empty one pairs the units at once (R164, R190). -/
def State.takeMarks (s : State) (full : Bool) (ts : List Nat) : State :=
  let s := { s with seam := { s.seam with full := s.seam.full || full } }
  let s := { s with seam := { s.seam with copySet := s.leadCopySet ts, blind := false } }
  let s := s.seamSend (.ctx (.copySet s.seam.full s.seam.copySet))
  if s.seam.copySet.isEmpty ∧ s.seam.inflight.isEmpty then s.cutOver else s

/-- FOLLOW learns its copy set: the tiles are not present (R190). -/
def State.takeCopySet (s : State) (full : Bool) (ts : List Nat) : State :=
  let s := { s with seam := { s.seam with copySet := ts, blind := false, full := full } }
  let s := ts.foldl (fun s t => s.setTile t { s.tile t with present := false }) s
  if ts.isEmpty then s.cutOver else s.reviewPair

/-- A descriptor as LEAD sends it: VALID with its attributes and last fault, CLOSING under a command's tag with no drain on the returning
unit, or FREE (R49, R61). -/
def regionOf (epoch : Nat) (a : Option RegArgs) (tag : Option (BitVec 16)) (fault : Nat) : Rgn :=
  match a, tag with
  | some a, none => { regDescriptor epoch a with broken := fault != 0, lastFault := fault }
  | some a, some t =>
    { regDescriptor epoch a with
      state := .closing, broken := fault != 0, lastFault := fault, closer := some ⟨.twin, t, 0⟩, selfDone := true, twinDone := false }
  | none, _ => { epoch := epoch }

/-- A subscriber record as LEAD sends it (R108). -/
def subOf (a : SubArgs) (x : SubSnap) : Sub :=
  { subRecord a with
    state := if x.detached then .detached else if x.stopped then .stopped else .live
    released := x.released, relOff := x.relOff, offset := x.offset, nextOff := x.nextOff, missing := x.missing, gapDue := x.gapDue, waits := x.waits, ends := x.ends }

/-- A receive queue as LEAD sends it (R372): its ring, the completions written, its entries. -/
def State.takeQueue (s : State) (srq : Bool) (i pd : Nat) (cq : Option CqDef) (written : Nat) (es : List (BitVec 64 × BitVec 32 × Nat × Nat)) : State :=
  let l := es.map (fun e => (⟨e.1, e.2.1, e.2.2.1, e.2.2.2⟩ : RecvEntry))
  if srq then
    match cq with
    | some c => { s with kept := { s.kept with srqs := alPut s.kept.srqs i { pd := pd, ring := ⟨c, written⟩, entries := l } } }
    | none => s
  else s.modQp i (fun q => { q with ring := cq.map (fun c => ⟨c, written⟩), recvs := l })

/-- A descriptor as LEAD sends it, with its extent's place among the pinned extents (R126). -/
def State.takeRegion (s : State) (i : Nat) (r : Rgn) : State :=
  let s := (s.endExtent i).setRgn i r
  if r.state = .valid ∧ r.ext ∧ r.policy = 3 then ({ s with tlr := { s.tlr with pinned := s.tlr.pinned ++ [i] } }).reviewCap else s

/-- What a CTX frame updates (R169, R173, R190, R194). -/
def State.applyCtx (s : State) (u : CtxUpdate) : State :=
  match u with
  | .qpEpsn n e =>
    s.modQp n.val (fun q => if s.hosts q then q else
      { q with epsn := e, doneTo := e, past := q.past.filter (fun m => !psnBefore m.psn e) })
  | .subCursor c b sent released relOff offset ends =>
    match s.sub c b with
    | some x => s.setSub c b { x with sent := sent, released := released, relOff := relOff, offset := offset, ends := ends }
    | none => s
  | .subHeld c b q => (s.holdEntry c b q).sweepChan c
  | .subStopped c b =>
    match s.sub c b with
    | some x => (s.setSub c b { x with state := .stopped }).sweepChan c
    | none => s
  | .atomicResult n psn r => s.modQp n.val (fun q => q.keepAtomic psn r)
  | .domain pd q =>
    { s with kept := { s.kept with domains := match q with
        | some (r, k, slot) => alPut s.kept.domains pd ⟨r, k, slot⟩
        | none => alDel s.kept.domains pd } }
  | .region i e a tag fault => s.takeRegion i (regionOf e a tag fault)
  | .queuePair n host rc st e a =>
    let q := ((s.qpAt n.val).getD {}).withAttrs host rc st e a
    let s := s.setQp n.val q
    if s.hosts q ∧ q.engine.isNone ∧ qpLive q.state then s.bindQp n.val else s
  | .channel a next logEnd =>
    let s := s.setChan a.number { (s.chan a.number).getD { args := a } with args := a, next := next, logEnd := logEnd, pubs := [], log := [] }
    ({ s with tlr := { s.tlr with pinned := s.tlr.pinned.filter (· != logPin a.number) ++ [logPin a.number] } }).reviewCap
  | .publisher c i n =>
    match s.chan c with
    | some ch => s.setChan c { ch with pubs := alPut ch.pubs i n.val }
    | none => s
  | .subscriber a x => (s.setSub a.chan a.sub (subOf a x)).sweepChan a.chan
  | .recvQueue srq i pd cq written es => s.takeQueue srq i pd cq written es
  | .logEntry c q stamp pub d held pos =>
    match s.chan c with
    | some ch => s.setChan c { ch with log := ch.log ++ [⟨q, stamp, pub, d, true, held, pos⟩] }
    | none => s
  | .marks full ts => if s.lead ∧ s.mode = .resync then s.takeMarks full ts else s
  | .copyFirst t => if s.lead then s.copyFirst t else s
  | .copySet full ts => if !s.lead ∧ s.mode = .resync then s.takeCopySet full ts else s
  | .host n unit =>
    let s := s.modQp n.val (fun q => { q with host := unit })
    if unit = s.unitBit then
      let s := s.bindQp n.val
      let ls := (List.range 32).filter s.lportPresent
      { s with ports := { s.ports with announce := ls.map (fun l => (l + 32, s.fld F.SEAM_TKO_CFG_announce)) } }
    else s

/-- CTX_RECEIVE (R169, R173): shared context changes in PAIRED and RESYNC; FOLLOW's marks may come while LEAD is still SOLO. -/
def State.doCtx (s : State) (h : SeamHdr) (u : CtxUpdate) : State :=
  s.frameIn h true id fun s =>
    match u, s.seam.peer with
    | .marks full ts, some p => if s.mode = .solo ∧ s.twinUp then (s.startLead p).takeMarks full ts else s.applyCtx u
    | _, _ => if s.mirrored then s.applyCtx u else s

def execCtxReceive (h : SeamHdr) (u : CtxUpdate) (s : State) : Res := s.core fun s => s.doCtx h u

/-! ### RESYNC on its way (R190, R192) -/

/-- RESYNC_COPY_SEND (R190): the next tile of the copy set. -/
def State.doCopySend (s : State) : State :=
  match s.seam.copySet with
  | t :: _ => if s.lead && s.mirrored && s.gates && s.twinUp && !s.seam.blind then s.sendCopy t else s
  | [] => s

def execResyncCopySend (s : State) : Res := s.core fun s => s.doCopySend

/-- Bytes in FOLLOW's copy set (R192). -/
def State.copyBytes (s : State) : Nat := (s.seam.copySet.length + s.seam.inflight.length) * 65536

/-- RESYNC_CUTOVER (R192). -/
def State.doCutover (s : State) : State :=
  if s.mode == .resync && !s.seam.blind && s.twinUp && decide (s.copyBytes < s.fld F.SEAM_RSY_CFG_cut_mib * 2 ^ 20) then s.cutOver
  else s

def execResyncCutover (s : State) : Res := s.core fun s => s.doCutover

/-- RESYNC_DONE (R192, R193): the copy set is empty. -/
def State.doResyncDone (s : State) : State :=
  if s.mode == .paired && s.seam.copying && s.seam.copySet.isEmpty && s.seam.inflight.isEmpty then
    let s := { s with seam := { s.seam with copying := false, full := false, cut := false } }
    let s := if s.lead then ({ s with kept := { s.kept with record := none } }).raise Ev.SEAM_RSY_DONE else s
    s.reviewPair
  else s

def execResyncDone (s : State) : Res := s.core fun s => s.doResyncDone

/-! ### Give-back (R194) -/

/-- GIVE_BACK (R194): once the pair is PAIRED, queue pairs that are hosted here go back, each at a quiescent point. -/
def State.doGiveBack (s : State) (h : Hdr) (ns : List Nat) : State :=
  if ns.isEmpty ∨ !(ns.all (fun n => (s.qpAt n).any s.hosts)) then s.complete h .invalid
  else if s.mode ≠ .paired then s.complete h .busy
  else
    let s := ns.foldl (fun s n => s.modQp n (fun q => { q with giving := true })) s
    (ns.foldl State.tryGive s).complete h .ok

def execGiveBack (h : Hdr) (qps : List Qpi) (s : State) : Res := s.start h (.giveBack qps) fun s => s.doGiveBack h (qps.map (·.val))

/-- GIVEBACK_FORWARD_END (R194). -/
def execGivebackForwardEnd (qp : Qpi) (s : State) : Res := s.core fun s => s.modQp qp.val (fun q => { q with fwdUntil := none })

end Sys2Proof.Machine
end

