-- ==== Sys2Proof/Machine/Quilt.lean ====
section
/-! DEFINITION. Quilt (09): programs and erases (R239, R248), reads (R243), verification, garbage collection, wear and scans (R241 to R247),
checkpoints (R237), failed targets (R251), discards (R252 to R254). Blocks and what a target carries out are in Tier. -/

namespace Sys2Proof.Machine

/-! ### Programs and erases (R239, R248) -/

/-- A program fails on a target (R248): the block is retired once its data is elsewhere, and the program is redone in another. -/
def State.failProgram (s : State) (t : Nat) (reloc : Bool) : State :=
  let s := s.countFail t
  match s.openOf t reloc with
  | some k => (s.closeBlock k).drainBlock k true
  | none =>
    match s.openBlock t reloc with
    | (s, some k) => s.retireBlock k
    | (s, none) => s

/-- NAND_PROGRAM_COMPLETE (R239, R240, R242, R248) of the program that the target carries out: the copy of a demotion is durable, for its four pages have passed and
their parity is accumulated; or the program failed and is redone. -/
def State.doProgram (s : State) (t tile : Nat) (pass : Bool) : State :=
  match s.tlr.running.find? (fun (m : Mig) => m.tile == tile && !m.toDram && m.target == t && !m.durable) with
  | none => s
  | some m =>
    if (s.opAt t).map (·.1) ≠ some (.program m.tile m.unit) then s
    else if pass then
      match s.programTile t m.tile m.unit false with
      | (s, some cw) =>
        let upd := fun (x : Mig) => if x == m then { x with durable := s.parityHeld (s.blockOf cw), slot := cw } else x
        ({ s with tlr := { s.tlr with running := s.tlr.running.map upd } }).vacate t
      | (s, none) => s
    else (s.vacate t).failProgram t false

def execNandProgramComplete (t : Target) (tile : Nat) (pass : Bool) (s : State) : Res := s.core fun s => s.doProgram t.val tile pass

/-- Closed blocks of a target with their live codewords (a tile counts 16) and erase counts. -/
def State.victims (s : State) (t : Nat) : List (Nat × Nat) :=
  ((s.blocksOf t).filter (fun p => p.2.st == .closed)).map (fun p =>
    (((s.liveIn p.1).foldl (fun n e => n + (if e.1 % 17 = 16 then 16 else 1)) 0) * 2 ^ 32 + p.2.erases, p.1))

/-- A garbage collection runs on a target. -/
def State.collecting (s : State) (t : Nat) : Bool :=
  (s.blocksOf t).any (fun p => match p.2.st with | .draining false | .erasing => true | _ => false)

/-- Garbage collection of a target takes its next victim, where it has none in hand (R245); while the tier is frozen only a wholly stale block
(R249). -/
def State.takeVictim (s : State) (t : Nat) : State :=
  if s.collecting t then s
  else
    match least (s.victims t) with
    | none => s
    | some (_, k) => if s.nand.frozen && !(s.liveIn k).isEmpty then s else s.drainBlock k false

/-- Garbage collection goes on until the target has QLT_GC_CFG.hi free blocks (R245). -/
def State.continueGc (s : State) (t : Nat) : State :=
  if !s.nand.gcOn.contains t then s
  else if s.fld F.QLT_GC_CFG_hi ≤ s.freeBlocks t then { s with nand := { s.nand with gcOn := setDel s.nand.gcOn t } }
  else s.takeVictim t

/-- A block has been erased: it holds no copy any more, and is free unless it is retired. -/
def State.erased (s : State) (k : Nat) : State :=
  let b := s.blk k
  let s := { s with nand := { s.nand with cws := s.nand.cws.filter (fun p => s.blockOf p.1 != k) } }
  (s.setBlk k { b with
    st := if b.st = .retired then .retired else .free, fill := 0, reads := 0, erases := b.erases + 1, verified := false, stale := [], wipe := false
    }).reviewGroup b.group

/-- NAND_ERASE_COMPLETE (R242, R245, R246, R248) of the erase that the target carries out. -/
def State.doErase (s : State) (t b : Nat) (pass : Bool) : State :=
  let k := blockKey t b
  if (s.opAt t).map (·.1) = some (.erase k) then
    ((if pass then s.erased k
      else if (s.blk k).st = .retired then (s.setBlk k { s.blk k with wipe := false }).countFail t
      else (s.countFail t).retireBlock k).vacate t).continueGc t
  else s

def execNandEraseComplete (t : Target) (block : Nat) (pass : Bool) (s : State) : Res := s.core fun s => s.doErase t.val block pass

/-! ### Read-verify and scans (R241, R246, R247) -/

/-- All lines of a tile, or of one of its units, are poisoned. -/
def State.poisonUnit (s : State) (t : Nat) (unit : Nat) : State :=
  let lines := if unit = 16 then List.range 256 else (List.range 16).map (fun i => unit * 16 + i)
  lines.foldl (fun s l => s.poisonLine (t * 256 + l)) s

/-- Reads of a block since its erase (R247). -/
def State.countReads (s : State) (k n : Nat) : State := s.setBlk k { s.blk k with reads := (s.blk k).reads + n }

/-- A codeword of a live tile that fails its decoding, or whose check fails after it (R243): rebuilt from parity while the group is held, else its 16
lines are poisoned. Answers whether it was rebuilt. -/
def State.failedRead (s : State) (tile cw k : Nat) : State × Bool :=
  if s.parityHeld k then ((s.wrap F.QLT_UE_CNT_rebuilt).raise Ev.QLT_PARITY_REBUILD, true)
  else (((s.poisonUnit tile cw).sat F.QLT_UE_CNT_poisoned).raise Ev.QLT_UE, false)

/-- One codeword of a tile is read from a block (R243, R247, R262): the read is counted, and what its decoding came to has its effect. Answers
whether it was rebuilt from parity. -/
def State.readCodeword (s : State) (tile cw k : Nat) (res : NandRead) : State × Bool :=
  let s := s.countReads k 1
  match res with
  | .hard => (s, false)
  | .retried => (s.wrap (F.NCH_ERR_retries (k / 2 ^ 20 / 16)), false)
  | .rebuilt | .lost => (s.wrap (F.NCH_ERR_retries (k / 2 ^ 20 / 16))).failedRead tile cw k
  | .badCheck => (s.sat F.CRC_FAIL_CNT_quilt).failedRead tile cw k

/-- The block of a tile's or of one unit's copy, for one of its codewords. -/
def State.blockFor (s : State) (tile cw : Nat) : Option Nat :=
  ((alGet s.kept.map (mapKey tile none)).orElse (fun _ => alGet s.kept.map (mapKey tile (some cw)))).map s.blockOf

/-- The codewords of a tile or unit are read from NAND for a copy (R243, R247). What `reads` does not name decodes at once. -/
def State.readCopy (s : State) (tile : Nat) (unit : Option Nat) (reads : List (Fin 16 × NandRead)) : State :=
  (unit.elim (List.range 16) (fun u => [u])).foldl (fun s c =>
    match s.blockFor tile c with
    | some k => (s.readCodeword tile c k ((reads.find? (fun r => r.1.val == c)).elim .hard (·.2))).1
    | none => s) s

/-- The codewords of a block: tile and codeword of the live ones by their place in the block. -/
def State.liveAt (s : State) (k pos : Nat) : Option (Nat × Nat) :=
  (s.liveIn k).findSome? (fun p =>
    let at_ := p.2 - (p.2 / 16 / 2 ^ 22 * 2 ^ 22 + k % 2 ^ 20 * s.nand.blockTiles) * 16
    if p.1 % 17 = 16 then (if at_ ≤ pos ∧ pos < at_ + 16 then some (p.1 / 17, pos - at_) else none)
    else if at_ = pos then some (p.1 / 17, p.1 % 17) else none)

/-- READ_VERIFY (R241): every page of a closed block is read. Of a block that fails, the live codewords that do not decode (`failed`, by their place in the block) are
first rebuilt from parity; then its live data is relocated and it is retired. -/
def State.doReadVerify (s : State) (t b : Nat) (pass : Bool) (failed : List Nat) : State :=
  let k := blockKey t b
  if (s.blk k).st = .closed ∧ !(s.blk k).verified ∧ s.idle t then
    let s := s.countReads k (s.blk k).fill
    let s := if pass then (s.setBlk k { s.blk k with verified := true }).reviewGroup (s.blk k).group
      else (failed.foldl (fun s p => (s.liveAt k p).elim s (fun x => (s.failedRead x.1 x.2 k).1)) s).drainBlock k true
    s.occupy t
  else s

def execReadVerify (t : Target) (block : Nat) (pass : Bool) (failed : List Nat) (s : State) : Res :=
  s.core fun s => s.doReadVerify t.val block pass failed

/-- A disturb or retention scan of a closed block: a failure relocates its data, and a second one after its erase retires it (R247,
R248). -/
def State.scanBlock (s : State) (k : Nat) (pass : Bool) : State :=
  let b := s.blk k
  if pass then s.setBlk k { b with reads := 0 }
  else if b.suspect then s.drainBlock k true
  else (s.setBlk k { b with suspect := true }).drainBlock k false

/-- DISTURB_SCAN (R247); the tier is closed during a SAVE (R256). -/
def State.doDisturb (s : State) (t b : Nat) (pass : Bool) : State :=
  let k := blockKey t b
  if (s.blk k).st = .closed ∧ s.idle t ∧ s.mode ≠ .save ∧ s.fld F.QLT_RD_CFG_scan_kreads * 1000 ≤ (s.blk k).reads then
    (s.countReads k (s.blk k).fill).scanBlock k pass
  else s

def execDisturbScan (t : Target) (block : Nat) (pass : Bool) (s : State) : Res := s.core fun s => s.doDisturb t.val block pass

/-- RETENTION_PATROL (R247). -/
def State.doPatrol (s : State) (t b : Nat) (pass : Bool) : State :=
  let k := blockKey t b
  if (s.blk k).st = .closed ∧ s.idle t ∧ s.mode ≠ .save then
    let s := s.countReads k (s.blk k).fill
    if pass then s else s.scanBlock k false
  else s

def execRetentionPatrol (t : Target) (block : Nat) (pass : Bool) (s : State) : Res := s.core fun s => s.doPatrol t.val block pass

/-! ### Garbage collection and wear (R245, R246) -/

/-- GC_START (R245): a target with fewer than QLT_GC_CFG.lo free blocks; none begins during a SAVE (R256). -/
def State.doGc (s : State) (t : Nat) : State :=
  if s.fld F.QLT_GC_CFG_lo ≤ s.freeBlocks t ∨ s.mode = .save then s
  else ({ s with nand := { s.nand with gcOn := setAdd s.nand.gcOn t } }).takeVictim t

def execGcStart (t : Target) (s : State) : Res := s.core fun s => s.doGc t.val

/-- The target is busy with garbage collection (R239). -/
def State.gcBusy (s : State) (t : Nat) : Bool :=
  decide (s.freeBlocks t < s.fld F.QLT_GC_CFG_lo) && (s.blocksOf t).any (fun p => match p.2.st with | .draining _ => true | _ => false)

/-- Relocates one map entry within its target. -/
def State.relocate (s : State) (key cw : Nat) : State :=
  let k := s.blockOf cw
  match s.programTile (k / 2 ^ 20) (key / 17) (if key % 17 = 16 then none else some (key % 17)) true with
  | (s, some n) => (s.setMap (key / 17) (alPut s.kept.map key n)).reviewDrain k
  | (s, none) => s

/-- The map entries of a tile that wait in draining blocks whose targets have no other operation in hand (R242). -/
def State.relocatable (s : State) (tile : Nat) : List (Nat × Nat) :=
  s.kept.map.filter (fun p => p.1 / 17 == tile && (match (s.blk (s.blockOf p.2)).st with | .draining _ => true | _ => false) &&
    (s.opAt (p.2 / 16 / 2 ^ 22)).isNone)

/-- GC_RELOCATE_SWITCH (R243, R245, R247, R248): the data is read from its block and programmed in another of the target, where `fails` programs fail before one passes; the
mapping of a relocated tile switches at its home element. Of a tile promoted or discarded meanwhile nothing is mapped here, and its copy is dropped. During a SAVE no
relocation goes on (R256). -/
def State.doRelocate (s : State) (tile : Nat) (reads : List (Fin 16 × NandRead)) (fails : Nat) : State :=
  if s.mode = .save then s
  else
    (s.relocatable tile).foldl (fun s p =>
      let s := s.readCopy tile (if p.1 % 17 = 16 then none else some (p.1 % 17)) reads
      let t := p.2 / 16 / 2 ^ 22
      ((forUp (fun _ s => State.failProgram s t true) fails 0 s).relocate p.1 p.2).occupy t) s

def execGcRelocateSwitch (tile : Nat) (reads : List (Fin 16 × NandRead)) (fails : Nat) (s : State) : Res := s.core fun s => s.doRelocate tile reads fails

/-- WEAR_LEVEL (R246): the data of the least-worn block moves, so that the block returns to use. -/
def State.doWear (s : State) (t : Nat) : State :=
  let es := (s.blocksOf t).map (·.2.erases)
  let hi := es.foldl Nat.max 0
  match least (((s.blocksOf t).filter (fun p => p.2.st == .closed)).map (fun p => (p.2.erases, p.1))) with
  | some (lo, k) => if lo + s.fld F.QLT_WEAR_CFG_delta < hi ∧ !s.nand.frozen ∧ s.mode ≠ .save then s.drainBlock k false else s
  | none => s

def execWearLevel (t : Target) (s : State) : Res := s.core fun s => s.doWear t.val

/-! ### Checkpoints (R237) -/

/-- A checkpoint starts (R237): it writes the segments that have changed; later changes fall into the next. -/
def State.startCkpt (s : State) : State :=
  if s.nand.ckpt ∨ !s.nand.formatted ∨ s.mode = .save then s
  else { s with
    nand := { s.nand with ckpt := true, programmed := 0, ckptWseq := s.nand.wseq, ckptMap := s.kept.map }
    kept := { s.kept with segs := s.kept.segs.map (fun (g : Seg) => { g with dirty := false, writing := g.dirty }) } }

/-- CHECKPOINT_TIMER (R237). -/
def execCheckpointTimer (s : State) : Res := s.core fun s => s.startCkpt

/-- CHECKPOINT_GIB_COUNT (R237). -/
def State.doGibCount (s : State) : State := if s.fld F.QLT_CKPT_CFG_gib * 2 ^ 30 ≤ s.nand.programmed then s.startCkpt else s

def execCheckpointGibCount (s : State) : Res := s.core fun s => s.doGibCount

/-- The segments of a checkpoint are programmed, each at a place in the map area that the spec does not give, and the directory names it; each is one
codeword, and so are 512 entries of the directory (R230, R237; that an entry has 8 bytes: DEDUCED, log entry 164). -/
def State.writeSegs (s : State) : State :=
  let l := s.kept.segs.filter (·.writing)
  let s := l.foldl (fun s g =>
    { s.tickFree with kept := { s.kept with mapDir := alPut s.kept.mapDir g.no (Config.mapPlace s.free) } }) s
  { s with nand := { s.nand with wseq := s.nand.wseq + l.length + ((l.map (fun g => g.no / 512)).foldl setAdd []).length } }

/-- Open blocks (R237). -/
def State.openBlocks (s : State) : List Nat := (s.nand.blocks.filter (·.2.isOpen)).map (·.1)

/-- The two channels that a root record, or the journal, is programmed on (R237, R255): the first two that have a target (DESIGN CHOICE, log entry 164). -/
def State.rootChans (s : State) : List Nat := ((s.nand.targets.map (· / 16)).foldl setAdd []).take 2

/-- The checkpoint's root record, of four codewords on each of its channels (R237). -/
def State.writeRoot (s : State) : State :=
  let n := s.nand.root.elim 1 (·.number + 1)
  { s.tickFree with nand := { s.nand with
      ckpt := false, dir := s.kept.mapDir, wseq := s.nand.wseq + 4 * s.rootChans.length
      root := some ⟨n, s.nand.ckptWseq, Config.mapPlace s.free, s.openBlocks, s.nand.frozen, s.nand.left, s.nand.init, s.rootChans, s.nand.ckptMap⟩ } }

/-- CHECKPOINT_COMPLETE (R237, R248): segments, directory and root record are programmed; the segments are clean (R236). The `fails` are map-area blocks that
failed meanwhile: each is replaced from the spare pool. -/
def State.doCkptDone (s : State) (ms : Nat) (fails : List Target) : State :=
  if s.nand.ckpt then
    let s := fails.foldl (fun s t => ((s.countFail t.val).takeSpares 1).raise Ev.QLT_BLOCK_RETIRE t.val) s
    let s := s.writeSegs.writeRoot
    let s := { s with kept := { s.kept with segs := s.kept.segs.map (fun (g : Seg) => { g with writing := false }) } }
    (s.setFld F.QLT_CKPT_STAT_last_ms ms).wrap F.QLT_CKPT_STAT_count
  else s

def execCheckpointComplete (ms : Nat) (fails : List Target) (s : State) : Res := s.core fun s => s.doCkptDone ms fails

/-! ### A target that fails (R251) -/

/-- What a failed target held of one map entry: rebuilt from parity and rewritten where its block was open, else poisoned. It is rewritten on the first target
in use (DESIGN CHOICE, log entry 166). -/
def State.loseEntry (s : State) (key cw : Nat) : State :=
  let lost := s.poisonUnit (key / 17) (key % 17)
  match s.nand.targets with
  | t :: _ =>
    if (s.blk (s.blockOf cw)).isOpen && s.parityHeld (s.blockOf cw) then
      match s.programTile t (key / 17) (if key % 17 = 16 then none else some (key % 17)) true with
      | (s, some n) => (s.setMap (key / 17) (alPut s.kept.map key n)).wrap F.QLT_UE_CNT_rebuilt (if key % 17 = 16 then 16 else 1)
      | (s, none) => s.poisonUnit (key / 17) (key % 17)
    else lost
  | [] => lost

/-- The demotions to a target that have not switched begin again elsewhere (R248, R251): their data is still in DRAM. -/
def State.redoDemotions (s : State) (t : Nat) : State :=
  let p := fun (m : Mig) => !m.toDram && m.target == t
  { s with
    nand := { s.nand with ops := alDel s.nand.ops t, gcOn := setDel s.nand.gcOn t }
    tlr := { s.tlr with
      running := s.tlr.running.filter (fun m => !p m)
      queue := s.tlr.queue ++ (s.tlr.running.filter p).map (fun m => { m with durable := false, slot := 0 }) } }

/-- NCH_TARGET_FAIL (R251): the target's blocks of the tier and of the map area are retired against the spare pool, those of the save area replaced. -/
def State.doTargetFail (s : State) (t : Nat) : State :=
  if !s.nand.targets.contains t then s
  else
    let s := { s with nand := { s.nand with targets := s.nand.targets.erase t } }
    let w := s.fld (F.NCH_STATUS_targets (t / 16))
    let s := if w.testBit (t % 16) then s.setFld (F.NCH_STATUS_targets (t / 16)) (w - 2 ^ (t % 16)) else s
    let s := (s.raise Ev.NCH_TARGET_FAIL t).redoDemotions t
    let lost := s.kept.map.filter (fun p => p.2 / 16 / 2 ^ 22 = t)
    let s := lost.foldl (fun s p => s.loseEntry p.1 p.2) s
    let s := { s with nand := { s.nand with blocks := s.nand.blocks.map (fun (p : Nat × NBlock) =>
      if p.1 / 2 ^ 20 = t then (p.1, { p.2 with st := .retired }) else p) } }
    forUp (fun _ s => State.saveReplace s) s.nand.saveBlocks 0 (s.takeSpares (s.tierBlocks t + s.nand.mapBlocks))

def execNchTargetFail (t : Target) (s : State) : Res := s.core fun s => s.doTargetFail t.val

/-! ### Fetches (R36, R124, R220, R223, R226, R243, R269) -/

/-- A fetched line enters the near cache held: in its set while that holds fewer than 12 held lines, else in the side buffer, which takes
2,048 of those; follow-on lines go to the side buffer while nand_follow is set. -/
def State.enterHeld (s : State) (line : Nat) (follow : Bool) : State :=
  let c := s.cset (setOf line)
  let room := decide ((c.ways.filter (fun w => w.2.held)).length < 12)
  if s.cached line then s
  else if follow && s.bit F.NCACHE_PF_CFG_nand_follow then s.sidePut line true
  else if room then s.enterLine line false true
  else if (s.nc.side.filter (·.2)).length < 2048 then s.sidePut line true
  else s.enterLine line false false

/-- One codeword of a fetch is read (R243, R247, R359): one rebuilt from parity is rewritten elsewhere with its tile. -/
def State.readFetched (s : State) (tile cw issued : Nat) (res : NandRead) : State :=
  match s.blockFor tile cw with
  | none => s
  | some k =>
    let (s, rebuilt) := (s.sample 5 (some (k / 2 ^ 20 / 16)) (s.mrt - issued)).readCodeword tile cw k res
    let key := if (alGet s.kept.map (mapKey tile none)).isSome then mapKey tile none else mapKey tile (some cw)
    match rebuilt, alGet s.kept.map key with
    | true, some p => s.relocate key p
    | _, _ => s

/-- The page of the map that a fetch needed has been read: its segment is in the map cache (R236). -/
def State.readSeg (s : State) (f : Fetch) : State :=
  ({ s with fetches := s.fetches.map (fun (x : Fetch) => if x = f then { x with seg := false } else x) }).useSeg f.tile false

/-- A codeword enters the near cache, held while its fetch's hold stands (R36). -/
def State.enterCodeword (s : State) (f : Fetch) (cw : Nat) : State :=
  (codewordLines f.tile cw).foldl (fun s l =>
    if f.spent then (if s.cached l then s else s.enterLine l false false) else s.enterHeld l f.since.isSome) s

/-- A codeword of a fetch has come (R36): the rest of the fetch follows; a hold that no message counts toward ends. -/
def State.gotCodeword (s : State) (f : Fetch) (cw : Nat) : State :=
  let upd := fun (x : Fetch) =>
    if x.tile == f.tile && x.unit == f.unit then { x with entered := x.entered ++ [cw], since := some (x.since.getD s.mrt) } else x
  let s := ({ s with fetches := s.fetches.map upd }).reviewHolds
  { s with fetches := s.fetches.filter (fun (x : Fetch) => !(x.spent && decide (x.size ≤ x.entered.length))) }

/-- NAND_READ_COMPLETE (R36, R62, R236, R242, R243): the page of the map where the fetch needs it, else one codeword of the fetch, the critical
one first. A block that fails its dual computation twice is not entered, and what waits for it is answered INTERNAL (R269). -/
def State.doNandRead (s : State) (tile cw : Nat) (res : NandRead) (d : Dual) (lane : Nat) : State :=
  match s.fetches.find? (fun (f : Fetch) => f.tile == tile && (f.unit == none || f.unit == some cw) && !f.entered.contains cw) with
  | none => s
  | some f =>
    let (s, reads) := if f.since.isSome || f.seg then (s, true) else s.suspend ((s.homeBlockOf f.tile f.unit).getD 0 / 2 ^ 20)
    if f.seg then s.readSeg f
    else if !reads then s
    else
    let s := (s.readFetched tile cw f.issued res).dual d lane
    if d = .retryDiffers then
      let s := f.sharers.foldl (fun s p =>
        match (s.qpAt p.1).bind (fun q => (q.msgs ++ q.cur.toList).find? (fun m => m.psn = p.2 ∧ !m.committed)) with
        | some m => s.refuse p.1 p.2 0x30 m.verb
        | none => s) s
      { (s.fetches.filter (fun (x : Fetch) => x.tile == f.tile && x.unit == f.unit)).foldl State.endHold s with
        fetches := s.fetches.filter (fun (x : Fetch) => !(x.tile == f.tile && x.unit == f.unit)) }
    else
      let s := if f.since.isNone then s.heat tile f.unit else s
      ((s.enterCodeword f cw).gotCodeword f cw).retryParks

def execNandReadComplete (tile : Nat) (cw : Fin 16) (res : NandRead) (dual : Dual) (lane : Fin 64) (s : State) : Res :=
  s.core fun s => s.doNandRead tile cw.val res dual lane.val

/-- FETCH_HOLD_EXPIRE (R36): the holds of a tile end whose 100 ms have passed since the critical codeword entered. -/
def State.doHoldExpire (s : State) (tile : Nat) : State :=
  (s.fetches.filter (fun (f : Fetch) => f.tile == tile && !f.spent && f.since.any (fun a => decide (a + 100000000 ≤ s.mrt)))).foldl State.endHold s

def execFetchHoldExpire (tile : Nat) (s : State) : Res := s.core fun s => s.doHoldExpire tile

/-! ### Discards (R252 to R254) -/

/-- The first check of R252 that fails. -/
def State.discardCheck (s : State) (start count : Nat) : Option Status :=
  if count = 0 ∨ 1048576 < count ∨ s.fld F.RGN_RANGE_TOP_top_tiles < start + count then some .invalid
  else if s.kept.rdt.any (fun p => p.2.state = .valid ∧ p.2.ext ∧ p.2.policy = 3 ∧
      p.2.target / 65536 < start + count ∧ start < p.2.target / 65536 + p.2.length / 65536) ∨
    s.kept.chans.any (fun p => p.2.args.logTile < start + count ∧ start < p.2.args.logTile + ceilDiv (logBytes p.2.args) 65536) then some .busy
  else if s.restoring || s.mode == .save then some .busy
  else none

/-- The discard of one tile (R253); LEAD sends it on in its order (R252). -/
def State.discardTile (s : State) (t : Nat) : State :=
  let s := ((s.markRecord t).noteDirty t).unhome t
  if s.mirrored && s.lead then
    let (s, q) := s.nextSeq
    s.seamSend (.discard q t)
  else s

/-- The tiles of a range that are listed: the others are UNHOMED already. -/
def State.discardRange (s : State) (start count : Nat) : State :=
  let ts := (s.kept.tiles.map (·.1)).filter (fun t => decide (start ≤ t) && decide (t < start + count))
  ((ts.foldl State.discardTile s).reviewFull.reviewCap).retryAll

/-- The checks of discard (R252). -/
def State.checkDiscard (s : State) (start count : Nat) : Verdict :=
  match s.discardCheck start count with
  | some st => .error st
  | none => .ok []

/-- The blocks that hold a copy of a tile of a range (R254), on targets that answer. -/
def State.copiesOf (s : State) (start count : Nat) : List Nat :=
  (s.nand.blocks.filter (fun p => s.nand.targets.contains (p.1 / 2 ^ 20) &&
    p.2.stale.any (fun t => decide (start ≤ t) && decide (t < start + count)))).map (·.1)

/-- A block that holds a copy is emptied and erased (R254); an open one is closed first, and one that was retired with the copy in it is erased and stays retired. -/
def State.wipeBlock (s : State) (k : Nat) : State :=
  let s := s.setBlk k { s.blk k with wipe := true }
  let s := if (s.blk k).isOpen then s.closeBlock k else s
  if (s.blk k).st = .closed then s.drainBlock k false else s.occupy (k / 2 ^ 20)

/-- The frames that a secure discard of a range frees, which are written with zeros and valid check bits (R254). -/
def State.framesOf (s : State) (start count : Nat) : List Nat :=
  (s.kept.tiles.filter (fun p => decide (start ≤ p.1) && decide (p.1 < start + count) && p.2.inDram)).map (fun p => p.2.frame)

/-- DISCARD (R252 to R254): on FOLLOW the tiles follow LEAD's DISCARD frames. A secure discard runs until every physical copy is gone. -/
def State.putDiscard (s : State) (h : Hdr) (start count : Nat) (secure : Bool) : State :=
  let s := if secure then { s with tlr := { s.tlr with zeroed := (s.framesOf start count).foldl setAdd s.tlr.zeroed } } else s
  let s := if s.mirrored && !s.lead then s else s.discardRange start count
  if secure then
    let s := { s with nand := { s.nand with secure := s.nand.secure ++ [(h, start, count)] } }
    (s.copiesOf start count).foldl State.wipeBlock s
  else s

/-- SECURE_DISCARD_DONE (R254): every block that held a copy on this unit has been erased. In PAIRED and RESYNC a command issued here then waits
for the twin's CMD_DONE; one of the twin's is answered. -/
def State.doSecureDone (s : State) (tag : BitVec 16) : State :=
  match s.nand.secure.find? (fun e => e.1.tag == tag) with
  | none => s
  | some (h, start, count) =>
    if !(s.copiesOf start count).isEmpty then ((s.copiesOf start count).filter (fun k => !(s.blk k).wipe)).foldl State.wipeBlock s
    else
      let s := { s with nand := { s.nand with secure := s.nand.secure.erase (h, start, count) } }
      if h.src = .twin then s.complete h .ok
      else if s.shared.any (fun x => x.hdr == h) then s
      else (s.complete h .ok).raise Ev.QLT_DISCARD_DONE

def execSecureDiscardDone (tag : BitVec 16) (s : State) : Res := s.core fun s => s.doSecureDone tag

end Sys2Proof.Machine
end

