-- ==== Sys2Proof/Machine/Tailor.lean ====
section
/-! DEFINITION. Tailor (05): the home cap (R121, R122), migrations (R112, R114, R125 to R131), ageing (R125), churn (R116, R117) and DRAM
rebalancing (R131). -/

namespace Sys2Proof.Machine

/-! ### The home cap (R121, R122) -/

/-- One computation of the cap; writes that waited for a home are tried again (R121 to R123). -/
def State.computeCap (s : State) : State := s.capNow.retryAll

/-- A write of Fen's estimate (R121, R298): the cap is computed in RESTORE, SOLO, PAIRED and RESYNC only. -/
def State.newEstimate (s : State) (e : Nat) : State :=
  let s := s.setFld F.TLR_CAP_IN_e_est e
  match s.mode with
  | .restore | .solo | .paired | .resync => s.computeCap
  | _ => s

/-! ### What a migration can move -/

/-- The homes of a tile's units as a move towards DRAM or NAND sees them: a churning tile is moved towards DRAM by units (R116). -/
def Tile.parts (x : Tile) (toDram : Bool) : List HomeK :=
  if x.units.isEmpty ∧ x.churn ∧ toDram then List.replicate 16 x.home else x.units

/-- A move of this granule, or of the whole tile, runs. -/
def State.isMoving (s : State) (t : Nat) (unit : Option Nat) : Bool :=
  s.tlr.running.any (fun (m : Mig) => m.tile == t && (m.unit == none || unit == none || m.unit == unit))

/-- The next granule of a tile that a job towards DRAM or NAND has to move. -/
def State.nextGranule (s : State) (t : Nat) (toDram : Bool) : Option (Option Nat) :=
  let x := s.tile t
  let src := if toDram then HomeK.nand else HomeK.dram
  let us := x.parts toDram
  if us.isEmpty then (if x.home == src && !s.isMoving t none then some none else none)
  else ((List.range 16).find? (fun u => us.getD u .unhomed == src && !s.isMoving t (some u))).map some

/-- The operations queued on a NAND target: demotions, fetches whose data it holds, relocations and erases of its blocks. -/
def State.queuedOn (s : State) (t : Nat) : Nat :=
  (s.tlr.running.filter (fun (m : Mig) => !m.toDram && m.target == t)).length +
  (s.fetches.filter (fun f => (s.homeBlockOf f.tile f.unit).any (fun k => k / 2 ^ 20 == t))).length +
  ((s.blocksOf t).filter (fun p => match p.2.st with | .draining _ | .erasing => true | _ => false)).length

/-- The NAND target of a demotion (R125): the channel after that of the previous demotion, and on it the target with the fewest
queued operations that is not busy with garbage collection. The first demotion takes the first channel after 0, and of targets with equally
few the lowest number is taken (DESIGN CHOICE, log entry 116). -/
def State.chooseTarget (s : State) : Option Nat :=
  let on := fun (c : Nat) => (s.nand.targets.filter (fun t => t / 16 == c && !s.gcBusy t)).map (fun t => (s.queuedOn t, t))
  let chans := (List.range 32).map (fun i => (s.tlr.lastChan + 1 + i) % 32)
  ((chans.find? (fun c => !(on c).isEmpty)).bind (fun c => least (on c))).map (·.2)

/-- The rate limit of classes 3 to 5 (R128): bytes started in the preceding 10 ms. -/
def State.rateOk (s : State) (cls : Nat) : Bool :=
  decide (cls ≤ 2) ||
  decide (((s.tlr.started.filter (fun p => decide (s.mrt ≤ p.1 + 10000000))).map (·.2)).foldl (· + ·) 0 ≤ s.fld F.TLR_MIG_CFG_bg_gbps * 10000000)

/-- Counts the bytes of a move of class 3 to 5. -/
def State.countStart (s : State) (cls : Nat) (unit : Option Nat) : State :=
  if cls ≤ 2 then s
  else { s with tlr := { s.tlr with
    started := s.tlr.started.filter (fun p => decide (s.mrt ≤ p.1 + 10000000)) ++ [(s.mrt, if unit.isSome then 4096 else 65536)] } }

/-- Starts a demotion of a granule, where the tier takes it (R127) and a target is at hand. -/
def State.startDemotion (s : State) (m : Mig) : Option State :=
  let x := s.tile m.tile
  if s.tierShut ∨ !x.present ∨ s.isMoving m.tile m.unit ∨ x.homeOf (m.unit.getD 0) ≠ .dram ∨ !s.rateOk m.cls then none
  else
    match s.chooseTarget with
    | none => none
    | some t =>
      let s := { s with tlr := { s.tlr with lastChan := t / 16 } }
      let s := if s.tlr.running.any (fun x => x.tile == m.tile && !x.toDram) then s else s.setTile m.tile { s.tile m.tile with dirty := false }
      let (s, ok) := s.beginMove { m with toDram := false, target := t, within := false }
      if ok then some ((s.countStart m.cls m.unit).occupy t) else none

/-- Starts a promotion of a granule (R123): where its home is granted, and for classes 3 to 5 only at or below wm_hi. -/
def State.startPromotion (s : State) (m : Mig) : Option State :=
  let x := s.tile m.tile
  if !x.present ∨ s.isMoving m.tile m.unit ∨ x.homeOf (m.unit.getD 0) ≠ .nand ∨ !s.rateOk m.cls then none
  else if 3 ≤ m.cls ∧ !s.atOrBelow F.TLR_WM_CFG_wm_hi then none
  else if !x.inDram ∧ ((!x.entered ∧ !s.homeBlock m.tile) ∨ s.grantHome s.save.room ≠ .granted) then none
  else
    let (s, ok) := s.beginMove m
    if ok then some ((s.countStart m.cls m.unit).reviewCap) else none

/-- Starts a move to another frame (R131). With no frame free an evacuation demotes the tile instead, a split one unit by unit. -/
def State.startWithin (s : State) (m : Mig) : Option State :=
  if !(s.tile m.tile).present ∨ s.isMoving m.tile none ∨ !(s.tile m.tile).inDram ∨ !s.rateOk m.cls then none
  else
    let (r, ok) := s.beginMove m
    if ok then some (r.countStart m.cls m.unit)
    else if m.cls = 1 then
      match s.nextGranule m.tile false with
      | some g => s.startDemotion { m with unit := g }
      | none => none
    else none

def State.startMove (s : State) (m : Mig) : Option State :=
  if m.within then s.startWithin m else if m.toDram then s.startPromotion m else s.startDemotion m

/-! ### The classes of work (R129) -/

/-- A waiting move with the granule it takes next; none where nothing is left of it. -/
def State.refine (s : State) (m : Mig) : Option Mig :=
  if m.within then (if (s.tile m.tile).inDram then some m else none)
  else
    match m.unit with
    | some u => if (s.tile m.tile).homeOf u == (if m.toDram then HomeK.nand else HomeK.dram) then some m else none
    | none => (s.nextGranule m.tile m.toDram).map (fun g => { m with unit := g })

/-- The first waiting move of a class that can start, in queue order. -/
def State.startQueued (s : State) (cls : Nat) : List Mig → Option State
  | [] => none
  | m :: l =>
    if m.cls ≠ cls then s.startQueued cls l
    else
      match s.refine m with
      | none => ({ s with tlr := { s.tlr with queue := s.tlr.queue.erase m } }).startQueued cls l
      | some m' =>
        match s.startMove m' with
        | none => s.startQueued cls l
        | some s =>
          let more := if m.within then !s.tlr.running.any (fun (x : Mig) => x.tile == m.tile && x.within)
            else m.unit.isNone && (s.nextGranule m.tile m.toDram).isSome
          some (if more then s else { s with tlr := { s.tlr with queue := s.tlr.queue.erase m } })

/-- The jobs that have ended: no tile left, and no move of theirs runs (R120). -/
def State.endJobs (s : State) : State :=
  let done := fun (j : ExtJob) => j.left.isEmpty && !(s.tlr.running ++ s.tlr.queue).any (fun (m : Mig) => m.ext == some j.region)
  let n := (s.tlr.jobs.filter done).length
  let s := { s with tlr := { s.tlr with jobs := s.tlr.jobs.filter (fun j => !done j) } }
  (List.range n).foldl (fun s _ => s.raise Ev.TLR_EXT_DONE) s

/-- The tiles of a job that are where it takes them are passed. -/
def State.trimJob (s : State) (j : ExtJob) : ExtJob :=
  { j with left := j.left.dropWhile (fun t => (s.nextGranule t j.toDram).isNone && !s.isMoving t none) }

/-- A move of an extent's job (R120): the first tile left of the first job that can move. -/
def State.startJob (s : State) : List ExtJob → Option State
  | [] => none
  | j :: l =>
    match j.left.findSome? (fun t => (s.nextGranule t j.toDram).bind (fun g =>
        (s.startMove ⟨t, g, 3, j.toDram, 0, 0, false, some j.region, 0, false⟩).map (fun s => (t, s)))) with
    | none => s.startJob l
    | some (t, s) =>
      let rest := if (s.nextGranule t j.toDram).isSome then j.left else j.left.erase t
      some { s with tlr := { s.tlr with jobs := s.tlr.jobs.map (fun (x : ExtJob) => if x.region == j.region then { x with left := rest } else x) } }

/-- The tiles of a pinned extent that were demoted under R126 are promoted again as the cap allows, like those of a job (DEDUCED, log entry
118). -/
def State.startPin (s : State) : Option State :=
  (s.tlr.pinned.filter (fun i => !s.tlr.jobs.any (fun j => j.region == i))).findSome? (fun i =>
    (s.tilesOfPin i).findSome? (fun t => (s.nextGranule t true).bind (fun g => s.startMove ⟨t, g, 3, true, 0, 0, false, none, 0, false⟩)))

/-- A tile with a parked access (R125). -/
def State.parkedOn (s : State) (t : Nat) : Bool :=
  s.parks.any (fun p => match s.qpAt p.1 with
    | some q => (q.msgs ++ q.cur.toList).any (fun m => m.psn == p.2 && m.pieces.any (fun x => decide (x.1 / 65536 ≤ t) && decide (t ≤ (x.1 + x.2 - 1) / 65536)))
    | none => false)

/-- The demotion group of a tile (R125), and its place in the group: the age, for pinned tiles after the order of their pins, the latest first
(R126). Within the groups of prefer-NAND and pinned extents the spec gives no order by age (DESIGN CHOICE, log entry 115). -/
def State.rankOf (s : State) (t : Nat) : Nat × Nat :=
  let age := 15 - (s.tile t).age
  match s.policyOf t with
  | 2 => (0, age)
  | 0 => (1, age)
  | 1 => (2, age)
  | _ => (3, (s.tlr.pinned.length - s.tlr.pinned.findIdx (fun i => (s.tilesOfPin i).contains t)) * 16 + age)

/-- The place of a tile among those of equal rank: a failed switch puts it at the back, until the next ageing tick (R114; DESIGN CHOICE, log
entry 115). -/
def State.backOf (s : State) (t : Nat) : Nat := if s.tlr.back.contains t then s.tlr.back.findIdx (· == t) + 1 else 0

/-- The granule that demotion of a class takes next (R125): pinned tiles only over the cap (R126); the order among equals is a free choice. -/
def State.candidate (s : State) (cls : Nat) : State × Option (Nat × Option Nat) :=
  let ok := fun (p : Nat × Tile) =>
    p.2.inDram && p.2.present && !s.isMoving p.1 none && !s.tlr.queue.any (fun (m : Mig) => m.tile == p.1) && !s.parkedOn p.1
  let l := (s.kept.tiles.filter ok).map (fun p => (s.rankOf p.1, p.1))
  let l := l.filter (fun p => decide (p.1.1 < 3) || (cls == 1 && s.bit F.TLR_STATUS_cap_below_pin))
  let cost := fun (p : (Nat × Nat) × Nat) => (p.1.1 * 2 ^ 40 + p.1.2) * 2 ^ 40 + s.backOf p.2
  match l.map cost with
  | [] => (s, none)
  | c :: cs =>
    let best := cs.foldl Nat.min c
    let eq := l.filter (fun p => cost p = best)
    match eq[Config.choice s.free eq.length % eq.length]? with
    | some p => (s.tickFree, (s.nextGranule p.2 false).map (fun g => (p.2, g)))
    | none => (s, none)

/-- A demotion for the cap (class 1) or the watermark (class 4). -/
def State.startCap (s : State) (cls : Nat) : Option State :=
  if s.tierShut then none
  else
    match s.candidate cls with
    | (s, some (t, g)) => s.startDemotion ⟨t, g, cls, false, 0, 0, false, none, 0, false⟩
    | (_, none) => none

/-- The work of a class starts, if any can. -/
def State.startClass (s : State) (cls : Nat) : Option State :=
  match s.startQueued cls s.tlr.queue with
  | some s => some s
  | none =>
    match cls with
    | 1 => if s.cap < s.homed then s.startCap 1 else none
    | 3 => (s.startJob s.tlr.jobs).orElse (fun _ => s.startPin)
    | 4 => if s.tlr.demoting then s.startCap 4 else none
    | _ => none

/-- The classes that may run in a mode: none before restore-serving (R154). -/
def State.classes (s : State) : List Nat := if s.serves then [1, 2, 3, 4, 5] else []

/-- MIGRATION_START (R129): a free channel takes the next move by class and queue order. Work that cannot start, such as a promotion that waits for
room under the cap, does not count as waiting for a channel, or demotion could never make that room (DEDUCED, log entry 117). -/
def State.doMigStart (s : State) : State :=
  if 16 ≤ s.tlr.running.length then s
  else
    let s := { s with tlr := { s.tlr with jobs := s.tlr.jobs.map s.trimJob } }
    let s := (s.classes.findSome? s.startClass).getD s
    s.endJobs

def execMigrationStart (s : State) : Res := s.core fun s => s.doMigStart

/-! ### The switch (R112, R114) -/

/-- Cached lines of a granule are CLEAN: its new home holds their data. -/
def State.cleanGranule (s : State) (t : Nat) (unit : Option Nat) : State :=
  let ls := match unit with
    | none => allLines
    | some u => (List.range 16).map (fun i => u * 16 + i)
  ls.foldl (fun s l =>
    let i := setOf (t * 256 + l)
    match (s.cset i).wayOf (t * 256 + l) with
    | some (w, c) => s.setCset i { s.cset i with ways := alPut (s.cset i).ways w { c with dirty := false } }
    | none => s) s

/-- A demoted granule's part of the fresh-frame entry ends (R216, R217). -/
def State.freshGone (s : State) (t : Nat) (unit : Option Nat) : State :=
  match alGet s.kept.freshTab t with
  | none => s
  | some bits =>
    let bits := match unit with
      | none => allLines
      | some u => ((List.range 16).map (fun i => u * 16 + i)).foldl setAdd bits
    if bits.length = 256 ∨ !(s.tile t).inDram then
      let s := s.setTile t { s.tile t with fresh := false }
      { s with kept := { s.kept with freshTab := alDel s.kept.freshTab t } }
    else { s with kept := { s.kept with freshTab := alPut s.kept.freshTab t bits } }

/-- A counted demotion may make a tile churning (R116, R117). -/
def State.countDemotion (s : State) (t : Nat) : State :=
  let x := s.tile t
  let l := x.demoted.filter (fun a => decide (s.mrt ≤ a + 3600000000000)) ++ [s.mrt]
  let s := s.setTile t { x with demoted := l }
  if l.length < 4 ∨ x.churn ∨ s.policyOf t = 3 then s
  else if (s.kept.tiles.filter (fun p => p.2.churn)).length < 1048576 then
    (s.setTile t { s.tile t with churn := true }).raise Ev.TLR_CHURN
  else s.raise Ev.TLR_CHURN_FULL

/-- The map entry of a granule ends; a whole-tile entry of a tile that splits becomes 16 unit entries. -/
def State.splitMap (s : State) (t : Nat) : State :=
  match alGet s.kept.map (mapKey t none) with
  | some cw =>
    let m := (List.range 16).foldl (fun m u => alPut m (mapKey t (some u)) (cw + u)) (alDel s.kept.map (mapKey t none))
    s.setMap t m
  | none => s

def State.unmap (s : State) (t : Nat) (unit : Option Nat) : State :=
  match alGet s.kept.map (mapKey t unit) with
  | some cw => (s.setMap t (alDel s.kept.map (mapKey t unit))).reviewDrain (s.blockOf cw)
  | none => s

/-- The switch of a demotion (R112, R114, R116). One that fails releases the NAND copy, which is stale from now on (R254). -/
def State.switchDown (s : State) (m : Mig) : State :=
  let x := s.tile m.tile
  if x.dirty then
    let s := s.setTile m.tile { x with dirty := s.tlr.running.any (fun r => r.tile == m.tile && !r.toDram), age := 0 }
    let s := { s with tlr := { s.tlr with back := s.tlr.back.erase m.tile ++ [m.tile] } }
    let s := s.addStale m.tile m.slot
    match m.ext with
    | some r => { s with tlr := { s.tlr with jobs := s.tlr.jobs.map (fun (j : ExtJob) =>
        if j.region == r && !j.left.contains m.tile then { j with left := j.left ++ [m.tile] } else j) } }
    | none => s
  else
    let s := (s.setTile m.tile (x.setHome m.unit .nand)).cleanGranule m.tile m.unit
    let s := s.freshGone m.tile m.unit
    let s := s.setMap m.tile (alPut s.kept.map (mapKey m.tile m.unit) m.slot)
    ((s.wrap F.TLR_MIG_DEM_demoted).countDemotion m.tile).reviewFull

/-- The switch of a promotion or of a move to another frame (R112). -/
def State.switchUp (s : State) (m : Mig) : State :=
  let x := s.tile m.tile
  if m.within then (s.setTile m.tile { x with frame := m.frame }).noteDirty m.tile
  else
    let split := m.unit.isSome && x.units.isEmpty
    let x := if split then { x with units := List.replicate 16 x.home } else x
    let x := if x.inDram then x else { x with frame := m.frame }
    let s := s.setTile m.tile (x.setHome m.unit .dram)
    let s := if split then s.splitMap m.tile else s
    let s := if s.policyOf m.tile = 3 then s.unchurn m.tile else s
    ((((s.unmap m.tile m.unit).wrap F.TLR_MIG_PRO_promoted).markRecord m.tile).reviewFull)

/-- MIGRATION_SWITCH (R112): a demotion switches only after Quilt has reported its copy durable; `reads` says what the codewords that a promotion has read came to
(R243). -/
def State.doMigSwitch (s : State) (tile : Nat) (unit : Option Nat) (reads : List (Fin 16 × NandRead)) : State :=
  match s.tlr.running.find? (fun (m : Mig) => m.tile == tile && m.unit == unit) with
  | none => s
  | some m =>
    if !m.toDram ∧ !m.durable then s
    else
      let s := { s with tlr := { s.tlr with running := s.tlr.running.erase m } }
      let s := if m.toDram then (if m.within then s else s.readCopy tile unit reads).switchUp m else s.switchDown m
      (s.endJobs.reviewCap).retryAll

def execMigrationSwitch (tile : Nat) (unit : Option (Fin 16)) (reads : List (Fin 16 × NandRead)) (s : State) : Res :=
  s.core fun s => s.doMigSwitch tile (unit.map (·.val)) reads

/-! ### Ageing, churn, rebalancing (R117, R125, R131) -/

/-- AGE_TICK (R125). -/
def State.doAge (s : State) : State :=
  { s with tlr := { s.tlr with back := [] }, kept := { s.kept with tiles := s.kept.tiles.map (fun (p : Nat × Tile) => (p.1, { p.2 with age := Nat.min 15 (p.2.age + 1) })) } }

def execAgeTick (s : State) : Res := s.core fun s => s.doAge

/-- The 16 units of a churning tile in NAND are read and programmed as one tile (R235, R243), after the `fails` programs that failed (R248). -/
def State.mergeMap (s : State) (t : Nat) (reads : List (Fin 16 × NandRead)) (fails : Nat) : State :=
  if s.tierShut then s
  else
    match s.chooseTarget with
    | none => s
    | some g =>
      let s := forUp (fun _ s => State.failProgram s g false) fails 0 ((List.range 16).foldl (fun s u => s.readCopy t (some u) reads) s)
      match s.programTile g t none false with
      | (s, none) => s
      | (s, some cw) =>
        let s := (List.range 16).foldl (fun s u => s.unmap t (some u)) s
        let s := s.setMap t (alPut s.kept.map (mapKey t none) cw)
        s.setTile t { s.tile t with home := .nand, units := [], churn := false }

/-- CHURN_MERGE (R117): all units have one home tier, and none moves. A tile that a pin has taken from the churning ones while it was split becomes
whole in the same way. -/
def State.doMerge (s : State) (t : Nat) (reads : List (Fin 16 × NandRead)) (fails : Nat) : State :=
  let x := s.tile t
  if (!x.churn ∧ x.units.isEmpty) ∨ s.isMoving t none then s
  else if x.units.isEmpty then s.setTile t { x with churn := false }
  else if x.units.all (· == .dram) then s.setTile t { x with home := .dram, units := [], churn := false }
  else if x.units.all (· == .nand) then s.mergeMap t reads fails
  else s

def execChurnMerge (tile : Nat) (reads : List (Fin 16 × NandRead)) (fails : Nat) (s : State) : Res := s.core fun s => s.doMerge tile reads fails

/-- DRAM_REBALANCE (R131): the hottest tile of a channel above the band is queued to move; TLR_DRAM_CFG.imbal_pct 0 disables it. R131 gives no
measure of heat: the tile of the lowest age is taken, of the lowest number on a tie (DESIGN CHOICE, log entry 119). -/
def State.doDramRebalance (s : State) (c : Nat) : State :=
  let n := s.pops.length
  let total := (s.pops.map (fun p => s.chanLoad p.1)).foldl (· + ·) 0
  let pct := s.fld F.TLR_DRAM_CFG_imbal_pct
  let on := fun (p : Nat × Tile) => p.2.inDram && (match frameAt s.pops p.2.frame with | some (d, _, _) => d == c | none => false) &&
    !(s.tlr.queue ++ s.tlr.running).any (fun (m : Mig) => m.tile == p.1)
  if pct = 0 ∨ s.chanLoad c * 100 * n ≤ total * (100 + pct) then s
  else
    match least ((s.kept.tiles.filter on).map (fun p => (p.2.age, p.1))) with
    | none => s
    | some (_, t) => { s with tlr := { s.tlr with queue := s.tlr.queue ++ [⟨t, none, 5, true, 0, 0, false, none, 0, true⟩] } }

def execDramRebalance (ch : Dmc) (s : State) : Res := s.core fun s => s.doDramRebalance ch.val

end Sys2Proof.Machine
end

