-- ==== Sys2Proof/Machine/Power.lean ====
section
/-! DEFINITION. Fen (11): RESET, the rail sequence (R285 to R292) up to the release of the core, core voltage (R293, R294), samples and
thresholds (R282 to R284), the hold-up battery (R295 to R298). -/

namespace Sys2Proof.Machine

/-! ### DRAM channels as power sees them (R227) -/

def State.dram (s : State) (c : Nat) : Dram := alGetD s.drams c {}
def State.setDram (s : State) (c : Nat) (d : Dram) : State := { s with drams := alPut s.drams c d }

/-- The states of DMC_STATUS.state (R227). -/
abbrev dmcOff : Nat := 0
abbrev dmcTraining : Nat := 1
abbrev dmcReady : Nat := 2
abbrev dmcSelfRefresh : Nat := 3

def State.dmcState (s : State) (c : Nat) : Nat := s.fld (F.DMC_STATUS_state c)

/-- Every channel in one state goes to another. -/
def State.moveChannels (s : State) (from_ to_ : Nat) : State :=
  forUp (fun c s => if s.dmcState c = from_ then
    (s.setDram c { s.dram c with open_ := [] }).setFld (F.DMC_STATUS_state c) to_ else s) s.part.dmcs 0 s


/-- A command of Fen acts in every mode while FEN_VDD is present (R281). -/
def State.fenCmd (s : State) (f : State → State) : Res := .next (if s.fen.vdd then f s else s)

/-! ### RESET (R7, R281) -/

/-- Registers of Fen's domain: block FEN, sideband buses 0 and 1, NORC_FEN_SEL (R281, R337). -/
def inFen (off : Nat) : Bool :=
  (decide (0x10000 ≤ off) && decide (off < 0x11000)) || (decide (0x80000 ≤ off) && decide (off < 0x80080)) ||
  off == F.NORC_FEN_SEL_copy.off

/-- The core enters RESET: all of its state is lost but the fuses, what the memories off the die hold, and Fen. -/
def State.enterReset (s : State) : State :=
  if s.mode = .reset then s
  else
    { State.reset with
      pending := s.pending, free := s.free, part := s.part, out := s.out, csr := s.csr.filter (fun p => inFen p.1)
      sbus := s.sbus.filter (fun p => decide (p.1 < 2)), fuses := s.fuses, pf := s.pf, brownout := s.brownout, retFrames := s.retFrames.filter (fun f => !s.nor.appends.any (fun a =>
        match a with | .frame _ g => g == f | _ => false))
      retBanks := s.retBanks.filter (fun b => !s.nor.appends.any (fun a => match a with | .bank _ c k => (c, k) == b | _ => false)), nand := { s.nand with ckpt := false, secure := [], ops := [], found := [] }, area := s.area, dmarks := s.dmarks, retRecs := s.retRecs, fen := s.fen
      nor := { s.nor with ops := [], win := none, ready := [], einc := [], appends := s.nor.appends.filter (fun a =>
        match a with | .counter _ | .mark _ _ => true | _ => false) } }

/-! ### Removing rails (R289, R291) -/

def State.setRails (s : State) (v : Nat) : State := s.setFld F.FEN_STATUS_rails v

/-- A sequence fault is latched (R286, R288). -/
def State.latchFault (s : State) (cause : Nat) : State :=
  let s := (s.setBit F.FEN_SEQ_STAT_fault true).setFld F.FEN_SEQ_STAT_cause cause
  ({ s with fen := { s.fen with phase := .fault, faultLow := true } }.setRails 3).raise Ev.FEN_SEQ_FAULT

/-- The rail table of a copy, valid for Fen when its crc passes (R286) and it has an entry. -/
def railsOf (c : Option ImageInfo) : Option (List RailEntry) :=
  match c with
  | some i => if i.railsOk && !i.rails.isEmpty then some i.rails else none
  | none => none

/-- A NOR of another density is treated as holding no valid image or rail table (R316). -/
def Nor.copy (n : Nor) (b : Bool) : Option ImageInfo := if n.mib = 32 ∨ n.mib = 64 then (if b then n.copyB else n.copyA) else none

/-- Fen runs the sequence from its first entry (R286 to R288), with the table of the copy that NORC_FEN_SEL names, else of the other. -/
def State.startSequence (s : State) : State :=
  let b := s.bit F.NORC_FEN_SEL_copy
  let pick := match railsOf (s.nor.copy b) with
    | some t => some (t, b)
    | none => (railsOf (s.nor.copy (!b))).map (fun t => (t, !b))
  match pick with
  | none => s.latchFault 2
  | some (t, c) =>
    let s := s.setFld F.FEN_SEQ_STAT_attempts (s.fen.failed + 1)
    { s with fen := { s.fen with
        table := t, fromB := c, step := 0, trigger := false, phase := .delay, on := [], after := .stay, off := 0, vFault := false } }.setRails 1

/-- The removal of rails has ended. -/
def State.railsGone (s : State) : State :=
  match s.fen.after with
  | .stay => { s with fen := { s.fen with phase := .off } }.setRails 0
  | .retry => { s with fen := { s.fen with phase := .retryWait } }
  | .again => s.startSequence
  | .fault => s.latchFault 1

/-- Fen disables the last of the rails that are on; rails are listed in table order. -/
def State.dropRail (s : State) : State :=
  let s := { s with fen := { s.fen with on := s.fen.on.dropLast } }
  if s.fen.on.isEmpty then s.railsGone else s

/-- Fen begins to remove every rail, in the reverse of table order (R289): the core returns to RESET, and every reset output is
asserted (R291). -/
def State.removeRails (s : State) (a : AfterOff) : State :=
  if s.fen.phase = .fault then s
  else
    let s := s.enterReset
    let s := { s with fen := { s.fen with phase := .removing, after := a, resets := List.range 8, due := [] } }
    if s.fen.on.isEmpty then s.railsGone else (s.setRails 1).dropRail

/-- The sequence runs again on Fen's own decision (R324, R325, R342): the near cache is cleaned before the core enters RESET (R224). -/
def State.resequence (s : State) : State := s.cleanAll.removeRails .again

/-- RAIL_REMOVE_DELAY_EXPIRE (R289). -/
def execRailRemoveDelayExpire (s : State) : Res := s.fenCmd fun s => if s.fen.phase = .removing then s.dropRail else s

/-! ### The power-on sequence (R287, R288) -/

/-- A power-on trigger that waits (R287). -/
def State.trigger (s : State) : State := { s with fen := { s.fen with trigger := true } }

/-- An event that triggers power-on does so with the rails off, or as they are removed: one before that starts nothing later (R143, R287). -/
def State.pressed (s : State) : State := if s.fen.phase = .off ∨ s.fen.phase = .removing then s.trigger else s

/-- MAIN_INPUT_GOOD (R287). -/
def State.doInputGood (s : State) : State := if s.fen.inputGood then s else { s.pressed with fen := { s.pressed.fen with inputGood := true } }

def execMainInputGood (s : State) : Res := s.fenCmd State.doInputGood

/-- POWER_BUTTON (R287): a falling edge on PWR_BTN_N. -/
def execPowerButton (s : State) : Res := s.fenCmd State.pressed

/-- POWER_ON_START (R287, R292): with rails off, a trigger not yet served, and the main input good for 100 ms. -/
def State.doPowerOn (s : State) : State :=
  if s.fen.phase ≠ .off ∨ !s.fen.trigger ∨ !s.fen.inputGood then s
  else
    let s := { s with fen := { s.fen with trigger := false, failed := 0, mismatch := 0 } }
    (s.wrap F.FEN_CYCLES_count).startSequence

def execPowerOnStart (s : State) : Res := s.fenCmd State.doPowerOn

/-- The entry at hand. -/
def State.entry (s : State) : Option RailEntry := s.fen.table[s.fen.step]?

/-- The core voltage for a junction temperature, in mV (R293): a straight line rounded up to 5 mV between the ends. -/
def State.vTarget (s : State) (tj : Int) : Nat :=
  let cold : Int := s.fld F.FEN_VCORE_CFG_v_cold
  let hot : Int := s.fld F.FEN_VCORE_CFG_v_hot
  if tj ≤ -20 then cold.toNat
  else if 85 ≤ tj then hot.toNat
  else ceilDiv (cold * 105 + (hot - cold) * (tj + 20)).toNat 525 * 5

/-- RAIL_DELAY_EXPIRE (R287): RAILn_EN is asserted; the core step first writes the core voltage. -/
def State.doRailDelay (s : State) : State :=
  match s.fen.phase, s.entry with
  | .delay, some e =>
    let s := if e.core then s.setFld F.FEN_VCORE_STAT_set_mv (s.vTarget s.fen.tj) else s
    { s with fen := { s.fen with on := s.fen.on ++ [e.rail.val], phase := if e.pg then .pg else .settle } }
  | _, _ => s

def execRailDelayExpire (s : State) : Res := s.fenCmd State.doRailDelay

/-- An attempt has failed (R288): a retry while retries are left, else the sequence fault is latched. -/
def State.failAttempt (s : State) (failed : Nat) : State :=
  let s := { s with fen := { s.fen with failed := failed } }
  s.removeRails (if s.fld F.FEN_PWR_SEQ_retries < failed then .fault else .retry)

/-- A step has failed: it is counted and recorded, and with it the attempt (R288). -/
def State.failStep (s : State) (e : RailEntry) (step failed : Nat) : State :=
  (((s.sat (F.FEN_RAILn_CNT_seq_fail e.rail.val)).setFld F.FEN_SEQ_STAT_rail e.rail.val).setFld F.FEN_SEQ_STAT_step step).failAttempt failed

/-- The steps of DOZE exit that wait for power-good (R289, R304): the table's places of them. -/
def State.exitSteps (s : State) : List Nat := (s.fen.table.zipIdx.filter (fun x => x.1.serdes && x.1.pg)).map (·.2)

/-- RAIL_STEP_TIMEOUT (R288): the step at hand fails; in DOZE exit one of the group-1 steps, and which is a free choice, for the row does not say (DESIGN
CHOICE, log entry 180). -/
def State.doStepTimeout (s : State) : State :=
  match s.fen.phase, s.entry with
  | .pg, some e => s.failStep e s.fen.step (s.fen.failed + 1)
  | .on, _ =>
    let l := s.exitSteps
    let n := l.getD (Config.choice s.free l.length % l.length) 0
    match s.fen.table[n]? with
    | some e => if s.doze.phase = .exiting ∧ !l.isEmpty then s.tickFree.failStep e n 1 else s
    | none => s
  | _, _ => s

def execRailStepTimeout (s : State) : Res := s.fenCmd State.doStepTimeout

/-- SEQ_RETRY_WAIT_EXPIRE (R288). -/
def execSeqRetryWaitExpire (s : State) : Res := s.fenCmd fun s => if s.fen.phase = .retryWait then s.startSequence else s

/-- A held rail has dropped (R290): a critical one removes every rail without a SAVE, and counts as that rail's failed attempt. It is counted as a drop and
not among the failed steps (DEDUCED, log entry 131). -/
def State.doRailDrop (s : State) (rail : Nat) : State :=
  if !s.fen.on.contains rail then s
  else
    let s := (s.sat (F.FEN_RAILn_CNT_drops rail)).raise Ev.FEN_RAIL_DROP rail
    if s.fen.phase ≠ .removing ∧ s.fen.table.any (fun e => e.rail.val = rail ∧ e.critical) then
      let s := (s.setFld F.FEN_SEQ_STAT_rail rail).setFld F.FEN_SEQ_STAT_step (s.fen.table.findIdx (fun e => e.rail.val == rail))
      s.failAttempt (if s.fen.phase = .on then 1 else s.fen.failed + 1)
    else s

def execFenRailDrop (rail : Fin 24) (s : State) : Res := s.fenCmd fun s => s.doRailDrop rail.val

/-- VCORE_WINDOW_TRIP (R294): the core rail has dropped. -/
def State.doWindowTrip (s : State) : State :=
  match s.fen.table.find? (·.core) with
  | some e => s.doRailDrop e.rail.val
  | none => s

def execVcoreWindowTrip (s : State) : Res := s.fenCmd State.doWindowTrip

/-- RESET_STRETCH_EXPIRE (R291). -/
def State.doStretch (s : State) (n : Nat) : State :=
  if s.fen.due.contains n then
    { s with fen := { s.fen with resets := setDel s.fen.resets n, due := setDel s.fen.due n } }
  else s

def execResetStretchExpire (n : Fin 8) (s : State) : Res := s.fenCmd fun s => s.doStretch n.val

/-! ### Core voltage (R293, R294) -/

/-- The core regulator is on. -/
def State.coreOn (s : State) : Bool := s.fen.table.any (fun e => e.core && s.fen.on.contains e.rail.val)

/-- VCORE_STEP (R293): at most 5 mV towards the target; Tj is followed with 2 °C of hysteresis. -/
def State.doVcoreStep (s : State) (tj : Int) : State :=
  let s := s.setFld F.FEN_VCORE_STAT_tj (ofSigned 8 tj)
  let s := if 2 ≤ (tj - s.fen.tj).natAbs then { s with fen := { s.fen with tj := tj } } else s
  if !s.coreOn ∨ s.fen.vFault then s
  else
    let v := s.fld F.FEN_VCORE_STAT_set_mv
    let t := s.vTarget s.fen.tj
    s.setFld F.FEN_VCORE_STAT_set_mv (if v < t then Nat.min t (v + 5) else Nat.max t (v - 5))

def execVcoreStep (tj : Int) (s : State) : Res := s.fenCmd fun s => s.doVcoreStep tj

/-- Checks in a row that have found the core voltage more than 15 mV from its target, this one counted (R294). -/
def State.offTarget (s : State) (mv : Nat) : Nat :=
  let v := s.fld F.FEN_VCORE_STAT_set_mv
  if mv + 15 < v ∨ v + 15 < mv then s.fen.off + 1 else 0

/-- The tenth check off target in a row, or a regulator that does not answer, holds the target (R294). -/
def State.holdTarget (s : State) (answered : Bool) : State :=
  if s.fen.vFault || (decide (s.fen.off < 10) && answered) then s
  else { s with fen := { s.fen with vFault := true } }.raise Ev.FEN_VCORE_FAULT

/-- VCORE_CHECK (R294). -/
def State.doVcoreCheck (s : State) (mv : Nat) (answered : Bool) : State :=
  if !s.coreOn then s
  else
    let s := s.setFld F.FEN_VCORE_STAT_meas_mv mv
    { s with fen := { s.fen with off := s.offTarget mv } }.holdTarget answered

def execVcoreCheck (senseMv : Nat) (answered : Bool) (s : State) : Res := s.fenCmd fun s => s.doVcoreCheck senseMv answered

/-! ### The hold-up battery (R295 to R298) -/

/-- The OCV table in straight lines (R297): SoC in hundredths of a percent; the rounding, and a voltage outside the table, are free. -/
def ocv (up : Bool) : List (Nat × Nat) → Nat → Option Nat
  | (c0, v0) :: (c1, v1) :: l, mv =>
    if v0 ≤ mv ∧ mv ≤ v1 then
      (if v1 = v0 then some c0
       else some (c0 + (if up then ceilDiv ((c1 - c0) * (mv - v0)) (v1 - v0) else (c1 - c0) * (mv - v0) / (v1 - v0))))
    else ocv up ((c1, v1) :: l) mv
  | _, _ => none

def State.setSoc (s : State) (c : Nat) : State :=
  { s with fen := { s.fen with pack := { s.fen.pack with soc := c, rest := 0 } } }.setFld F.FEN_BAT_STAT_soc (c / 100)

/-- SoC is set from the OCV table at a pack voltage. -/
def State.socFrom (s : State) (mv : Nat) : State :=
  let c := (ocv (Config.roundsUp s.free) s.fen.pack.ocv mv).getD (Config.ocvOutside mv)
  s.tickFree.setSoc (Nat.min 10000 c)

/-- The pack voltage: AMON1 behind its divider (R282). -/
def State.packMv (s : State) (amon1 : Nat) : Nat := amon1 * s.fld F.FEN_BAT_CFG_vdiv

/-- The battery current last read lies below rest_ma in magnitude (R283). -/
def State.atRest (s : State) : Bool := decide (s.fen.pack.current.natAbs < s.fld F.FEN_BAT_CFG_rest_ma)

/-- SOC_OCV_RESET (R297): the current is below rest_ma in magnitude. -/
def State.doOcvReset (s : State) : State := if s.atRest then s.socFrom (s.packMv (s.fld (F.FEN_MONn_VAL_mv 1))) else s

def execSocOcvReset (s : State) : Res := s.fenCmd State.doOcvReset

/-- The charging current lies above rest_ma and below the full-charge capacity over 20 h (R297). -/
def State.tapers (s : State) : Bool :=
  decide ((s.fld F.FEN_BAT_CFG_rest_ma : Int) < s.fen.pack.current) && decide (s.fen.pack.current * 20 < (s.fen.pack.fcc : Int))

/-- FEN_BAT_FULL (R297): the end of charge. -/
def State.doBatFull (s : State) : State := if s.tapers then (s.setSoc 10000).raise Ev.FEN_BAT_FULL else s

def execFenBatFull (s : State) : Res := s.fenCmd State.doBatFull

/-- The charge of one sample, read as the shunt voltage integrated over it in nV s (R282, R297): SoC + 100 ΔQ ÷ FCC, held from 0 % to 99.00 %.
The shunt's unit is 0.1 mΩ, so nV s × 10 ÷ shunt is the charge in µC; what is less than 0.01 % waits in `rest` (DESIGN CHOICE, log entry 146). -/
def State.coulombs (s : State) (nvs : Int) : State :=
  let p := s.fen.pack
  if p.fcc = 0 then s
  else
    let full : Int := p.fcc * 3600000 * s.fld F.FEN_BAT_CFG_shunt
    let acc := p.rest + nvs * 10 * 10000
    let d := acc.fdiv full
    let c := max 0 (min 9900 ((p.soc : Int) + d))
    { s with fen := { s.fen with pack := { p with soc := c.toNat, rest := acc - d * full } } }.setFld F.FEN_BAT_STAT_soc (c.toNat / 100)

/-- An AMON sample (R282, R284), which the converter holds to its 1,200 mV: samples in a row beyond a threshold are counted, and a tripped channel is armed
again after 4 samples inside both. -/
def State.sampleMon (s : State) (ch mv : Nat) : State :=
  let mv := Nat.min 1200 mv
  let s := s.setFld (F.FEN_MONn_VAL_mv ch) mv
  let ok := decide (mv ≤ s.fld (F.FEN_MONn_CFG_hi_mv ch)) && decide (s.fld (F.FEN_MONn_CFG_lo_mv ch) ≤ mv)
  let s := { s with fen := { s.fen with beyond := alPut s.fen.beyond ch (if ok then 0 else alGetD s.fen.beyond ch 0 + 1) } }
  if !s.bit (F.FEN_MONn_CFG_tripped ch) then s
  else
    let n := if ok then alGetD s.fen.inside ch 0 + 1 else 0
    if 4 ≤ n then ({ s with fen := { s.fen with inside := alDel s.fen.inside ch } }).setBit (F.FEN_MONn_CFG_tripped ch) false
    else { s with fen := { s.fen with inside := alPut s.fen.inside ch n } }

/-- FEN_SAMPLE (R282, R297): AMON0 at or below the power-on level ends a good main input (R287). -/
def State.doFenSample (s : State) (amon : List (Fin 16 × Nat)) (nvs uv : Int) : State :=
  let ma := (uv * 10).tdiv (s.fld F.FEN_BAT_CFG_shunt)
  let s := amon.foldl (fun s p => s.sampleMon p.1.val p.2) s
  let low := amon.any (fun p => p.1.val = 0 ∧ p.2 ≤ s.fld F.FEN_PF_CFG_thr_mv + 20)
  let s := if low then { s with fen := { s.fen with inputGood := false } } else s
  let s := { s with fen := { s.fen with pack := { s.fen.pack with current := ma } } }
  let s := (s.setFld F.FEN_BAT_E_i_10ma (ofSigned 16 (ma.tdiv 10))).setBit F.FEN_BAT_STAT_charging
    (decide ((s.fld F.FEN_BAT_CFG_rest_ma : Int) < ma))
  s.coulombs nvs

def execFenSample (amon : List (Fin 16 × Nat)) (shuntNvs shuntUv : Int) (s : State) : Res :=
  s.fenCmd fun s => s.doFenSample amon shuntNvs shuntUv

/-- BAT_RATE_LOW (R283). -/
def execBatRateLow (s : State) : Res := s.fenCmd fun s => if s.atRest then s.setBit F.FEN_STATUS_rate_low true else s

/-- BAT_RATE_HIGH (R283). -/
def execBatRateHigh (s : State) : Res := s.fenCmd fun s => s.setBit F.FEN_STATUS_rate_low false

/-- What the pack answered (R295). -/
def State.packIs (s : State) (r : PackRead) : State :=
  let s := { s with fen := { s.fen with pack := { s.fen.pack with
    missed := 0, temp := r.temp, fcc := r.fcc, dc := r.dc, serial := r.serial } } }
  let s := s.setBit F.FEN_BAT_STAT_lost false
  (s.setFld F.FEN_BAT_STAT_temp (ofSigned 8 r.temp)).setFld F.FEN_BAT_STAT_soh (if r.dc = 0 then 0 else Nat.min 100 (r.fcc * 100 / r.dc))

/-- The pack answers on neither bus. -/
def State.packLost (s : State) : State :=
  if s.bit F.FEN_BAT_STAT_lost then s else (s.setBit F.FEN_BAT_STAT_lost true).raise Ev.FEN_BAT_LOST

/-- The pack on its second connection (R295). -/
def State.packAlt (s : State) (sb1 sb0 : Option PackRead) : State :=
  match sb0, sb1 with
  | some r, _ => s.packIs r
  | none, some r => (s.packIs r).setBit F.FEN_BAT_STAT_alt_bus false
  | none, none => s.packLost

/-- SBUS_STATn.state of a controller that is marked failed (R374). -/
abbrev sbusFailed : Nat := 3

/-- BAT_READ (R295): SB0 is used from the third missed answer on SB1, or when SB1 is marked failed. -/
def State.doBatRead (s : State) (sb1 sb0 : Option PackRead) : State :=
  if s.bit F.FEN_BAT_STAT_alt_bus then s.packAlt sb1 sb0
  else
    let failed := s.fld (F.SBUS_STATn_state 1) = sbusFailed
    match (if failed then none else sb1) with
    | some r => s.packIs r
    | none =>
      let n := s.fen.pack.missed + 1
      let s := { s with fen := { s.fen with pack := { s.fen.pack with missed := n } } }
      if failed ∨ 3 ≤ n then (s.setBit F.FEN_BAT_STAT_alt_bus true).packAlt none sb0 else s

def execBatRead (sb1 sb0 : Option PackRead) (s : State) : Res := s.fenCmd fun s => s.doBatRead sb1 sb0

/-- A challenge is written to the pack (R296), drawn from Thimble's entropy source. Without a draw, which Thimble refuses after a failure of its source (R340),
no challenge is written, and the try has no answer (DEDUCED, log entry 130). -/
def State.challengePack (s : State) (tries : Nat) : State :=
  if s.mode = .reset then s
  else if !s.thm.fresh then { s with fen := { s.fen with pack := { s.fen.pack with challenge := none, tries := tries } } }
  else { s.tickFree with fen := { s.fen with pack := { s.fen.pack with challenge := some (Config.draw s.free), tries := tries } } }

/-- Authentication has failed. -/
def State.authFail (s : State) : State :=
  let s := { s with fen := { s.fen with pack := { s.fen.pack with challenge := none, tries := 0 } } }
  (s.setBit F.FEN_BAT_STAT_auth false).raise Ev.FEN_BAT_AUTH_FAIL

/-- BAT_AUTH_START (R296). -/
def execBatAuthStart (s : State) : Res := s.fenCmd fun s => s.challengePack 1

/-- BAT_AUTH_READ (R296): the answer's signature, or no valid answer. The pack key is read from the image; a record that fails its digest is absent
(R320). -/
def State.doBatAuthRead (s : State) (sigOk : Option Bool) (recOk : Bool) : State :=
  if s.fen.pack.challenge.isNone then s
  else if sigOk.isSome ∧ !recOk then s.authFail.raise Ev.NORC_REC_BAD
  else
    match sigOk with
    | some true =>
      { s with fen := { s.fen with pack := { s.fen.pack with challenge := none, tries := 0 } } }.setBit F.FEN_BAT_STAT_auth true
    | some false => s.authFail
    | none => { s with fen := { s.fen with pack := { s.fen.pack with challenge := none } } }

def execBatAuthRead (sigOk : Option Bool) (recOk : Bool) (s : State) : Res := s.fenCmd fun s => s.doBatAuthRead sigOk recOk

/-- BAT_AUTH_RETRY (R296): a new challenge, or after three tries the failure. -/
def State.doBatAuthRetry (s : State) : State :=
  let p := s.fen.pack
  if p.challenge.isSome ∨ p.tries = 0 then s else if 3 ≤ p.tries then s.authFail else s.challengePack (p.tries + 1)

def execBatAuthRetry (s : State) : Res := s.fenCmd fun s => s.doBatAuthRetry

/-- k_T in units of 1/300 (R298). -/
def kTemp (t : Int) : Nat :=
  if 15 ≤ t then 300
  else if 0 ≤ t then (270 + 2 * t).toNat
  else if -20 ≤ t then (270 + 3 * t).toNat
  else if -30 ≤ t then (21 * (t + 30)).toNat
  else 0

/-- E in 0.01 Wh, rounded down (R298); 0 while auth is clear. -/
def State.estimate (s : State) : Nat :=
  let p := s.fen.pack
  let min_ := s.fld F.FEN_BAT_CFG_soc_min
  let k := if s.bit F.FEN_BAT_STAT_lost then 210 else kTemp p.temp
  if !s.bit F.FEN_BAT_STAT_auth then 0
  else if p.dc = 0 then Config.estimate (s.fld F.FEN_BAT_ERATED_e_rated)
  else s.fld F.FEN_BAT_ERATED_e_rated * Nat.min p.fcc p.dc * k * (p.soc - 100 * min_) / (p.dc * 300 * (10000 - 100 * min_))

/-- E is written to FEN_BAT_E and, while the core runs, to TLR_CAP_IN, and the cap's computation follows (R298, R121). -/
def State.writeE (s : State) (e : Nat) : State :=
  let s := s.setFld F.FEN_BAT_E_e_est e
  if s.mode = .reset then s else s.newEstimate (e % 65536)

end Sys2Proof.Machine
end

