-- ==== Sys2Proof/Machine/Persist.lean ====
section
/-! DEFINITION. Persistence (06): power failure (R140 to R143), SAVE (R144 to R151), the save area and its journal (R148, R152), the end of
BRINGUP (R38, R121, R152, R164, R229 to R238) and RESTORE (R153 to R160). -/

namespace Sys2Proof.Machine

/-! ### The save area (R148 to R152) -/

def State.slotAt (s : State) (n : Nat) : Slot := if n = 0 then s.area.slot0 else s.area.slot1
def State.setSlot (s : State) (n : Nat) (x : Slot) : State :=
  { s with area := if n = 0 then { s.area with slot0 := x } else { s.area with slot1 := x } }

/-- Appends a journal record (R152), a codeword in each of the two journal blocks (R230, R255; in each: DEDUCED, log entry 168). -/
def State.journal (s : State) (t : JType) (slot off gen : Nat) : State :=
  { s with nand := { s.nand with wseq := s.nand.wseq + s.nand.journals.length }, area := { s.area with journal := s.area.journal ++ [⟨t, if slot = 0 then 0 else 1, off, gen, s.commit⟩] } }

/-- The highest generation that the journal names. -/
def State.lastGen (s : State) : Nat := s.area.journal.foldl (fun n r => Nat.max n r.generation) 0

/-- The newest journal record: the last of the highest generation. -/
def State.newestRec (s : State) : Option JRec := (s.area.journal.filter (fun r => r.generation = s.lastGen)).getLast?

/-- The image that completes what a slot holds: its delta, else its full image. -/
def Slot.top (x : Slot) : Option Image := x.delta.orElse (fun _ => x.base)

/-- Where the delta on a slot's full image begins (R149). -/
def Slot.deltaOff (x : Slot) : Nat := frameDataOff + x.base.elim 0 (fun i => i.head.framesSaved) * 65536

/-- The slot for a full image (R148): the erased one, or, where none is erased yet, one that does not hold the newest image. -/
def State.freshSlot (s : State) : Nat :=
  if s.area.slot0.erased then 0
  else if s.area.slot1.erased then 1
  else
    let g := fun (x : Slot) => x.top.elim 0 (fun i => i.head.generation)
    if g s.area.slot0 ≤ g s.area.slot1 then 0 else 1

/-! ### SAVE (R144, R147, R256) -/

/-- Where a queue pair stands after a SAVE (R147): at its lowest message that has not committed, or at a NAK that has not left. -/
def Qp.savePoint (q : Qp) : Nat :=
  let p := ((q.msgs ++ q.cur.toList).find? (fun m => !m.dup && !m.committed)).elim q.epsn (·.psn)
  match q.nak with
  | some (n, _, _) => if psnBefore n p then n else p
  | none => p

/-- Step 3 for one queue pair: what has not committed is discarded, and receive entries return to their queue in posting order (R147). Committed
messages stay whose completion is not written yet (R372). -/
def State.rollBack (s : State) (n : Nat) : State :=
  match s.qpAt n with
  | none => s
  | some q =>
    let p := q.savePoint
    let s := s.discardFrom n p
    s.modQp n (fun q => { q with
      engine := none, moveTo := none, cur := none, nak := none, naked := false, replace := none, lostBy := none
      epsn := p, doneTo := p, unacked := []
      msgs := (q.msgs.filter (fun m => m.committed && m.entry.isSome && psnBefore m.psn p)).map (fun m => { m with cells := [] }), reqs := [], tries := 0, fwdUntil := none, giving := false
      past := q.past ++ q.msgs.filter (fun m => m.committed && (m.isWrite || m.isAtomic) && !psnBefore m.psn p) })

/-- Raises that wait for Peat are recorded before step 5, from which Peat records nothing (R365). -/
def State.drainPeat (s : State) : State := forUp (fun _ s => doPeatRecord s) (s.peatQ.length + 1) 0 s

/-- The mode that counts as the mode at step 0: in DOZE the one held at its commit. -/
def State.heldMode (s : State) : Mode := if s.mode = .doze then s.doze.mode else s.mode

/-- The departure notice leaves on a link of the Seam that is up, whatever waits there, and on Tack (R144). -/
def State.sendDepart (s : State) : State :=
  let s := if !s.mayLeave .depart then s
    else if s.seam.link0.up then s.launch 0 0 .depart
    else if s.seam.link1.up then s.launch 1 0 .depart
    else s
  s.sendTack 2

/-- The tier programs in flight are finished (R256). Their demotions are abandoned, and so the copies are stale. -/
def State.finishPrograms (s : State) : State :=
  s.nand.targets.foldl (fun s t =>
    match s.opAt t with
    | some (.program tile u, _) =>
      match s.programTile t tile u false with
      | (s, some cw) => s.addStale tile cw
      | (s, none) => s
    | _ => s) s

/-- Steps 0 to 5 (R144): the header's values are taken, the mode changes, the debug level closes (R347), the twin is told, what has not committed is discarded, the gate is
cleared (R29), programs in flight finish and moves in their copy phase are abandoned (R112), Quilt appends no more to open blocks (R244, R256), the SerDes of ports, Seam and PCI Express are
parked and their rails removed, and the journal has its START record. Links parked in this way raise no link-down event (DESIGN CHOICE, log entry
121). -/
def State.startSave (s : State) (planned delta : Bool) : State :=
  let entry := s.mode
  let pairedAt := s.heldMode = .paired || s.heldMode = .resync
  let s := { s with save := { s.save with
    step := 1, planned := planned, delta := delta, entryMode := entry, lead := s.lead, tierClosed := false, streamed := none
    eEst := s.fld F.TLR_CAP_IN_e_est, hours := s.fld F.FEN_HOURS_count, cycles := s.fld F.FEN_CYCLES_count, epoch := s.epoch } }
  let s := if entry = .doze then s.startWalk else s
  let s := { ((s.moveChannels dmcSelfRefresh dmcReady).setMode .save).closeDebug with boot := { s.boot with reads := [] }, seam := { s.seam with joining := false, waited := false } }
  let s := if pairedAt then s.sendDepart else s
  let s := (s.kept.qps.map (·.1)).foldl State.rollBack s
  let s := (if s.scan.isSome then s.endScan 3 0 else s).finishPrograms
  let s := { s with
    gate := {}, parks := [], shared := [], fetches := [], pcieHeld := [], thm := { s.thm with verify := [] }
    kept := { s.kept with segs := s.kept.segs.map (fun (g : Seg) => { g with dirty := g.dirty || g.writing, writing := false }) }
    nand := { s.nand with ckpt := false, ops := [], blocks := s.nand.blocks.map (fun (p : Nat × NBlock) =>
      match p.2.st with | .open_ _ => (p.1, { p.2 with st := .closed }) | _ => p) }
    tlr := { s.tlr with running := [], queue := [] }, save := { s.save with lastCommit := s.kept.newest } }
  let s := { s with
    fen := { s.fen with on := s.fen.on.filter (fun r => !(s.fen.table.any (fun e => e.rail.val = r ∧ e.serdes))) }
    ports := { s.ports with tx := [], up := [] }
    seam := { s.seam with link0 := { s.seam.link0 with up := false, synced := false }, link1 := { s.seam.link1 with up := false, synced := false } } }
  let s := ((s.setBit (linkBit 0) false).setBit (linkBit 1) false).setBit F.PCIE_STATUS_link_up false
  let s := { s.drainPeat with save := { s.drainPeat.save with step := 5 } }
  let gen := s.lastGen + 1
  let slot := if delta then s.save.slot else s.freshSlot
  let x := s.slotAt slot
  let s := s.setSlot slot (if delta then x else { erased := false, base := none, delta := none })
  let s := { s with save := { s.save with slot := slot, gen := gen } }
  s.journal .start slot (if delta then x.deltaOff else 0) gen

/-- The header of the image (R150). -/
def State.header (s : State) (ms : Nat) : ImgHeader :=
  let v := s.save
  let pairedAt := v.entryMode = .paired || v.entryMode = .resync || (v.entryMode = .doze && (s.doze.mode = .paired || s.doze.mode = .resync))
  { delta := v.delta, planned := v.planned, paired := pairedAt, lead := v.lead, entryMode := v.entryMode, generation := v.gen
    baseGen := if v.delta then (s.slotAt v.slot).base.elim 0 (fun i => i.head.generation) else 0
    lastCommit := v.lastCommit, mirrorStamp := if v.entryMode = .solo || (v.entryMode = .doze && s.doze.mode = .solo) then 0 else s.seam.acked, epoch := v.epoch, unit := s.unitBit
    framesFound := s.framesFound
    framesSaved := (s.kept.tiles.filter (fun p => p.2.inDram && (!v.delta || p.2.changed))).length
    hours := v.hours, cycles := v.cycles, saveMs := ms, eEst := v.eEst, deltaOff := if v.delta then (s.slotAt v.slot).deltaOff else 0, wseq := s.nand.wseq }

/-- Steps 10 and 11 (R144): the headers and the SEALED record, then Fen removes the rails. An unplanned SAVE is followed by the power-on
sequence (R141), a planned one by the next trigger (R143). -/
def State.seal (s : State) : State :=
  match s.save.streamed with
  | some ms =>
    if s.mode = .save ∧ s.save.tierClosed then
      let img : Image := ⟨s.header ms, s.fuses.saveRoot, s.kept, s.tlr.pinned, s.tlr.jobs,
        s.nand.blocks.map (fun (p : Nat × NBlock) => (p.1, p.2.erases))⟩
      let n := s.save.slot
      let x := s.slotAt n
      let s := s.setSlot n (if s.save.delta then { x with delta := some img } else { x with base := some img })
      let s := s.journal .sealed_ n (if s.save.delta then x.deltaOff else 0) s.save.gen
      let s := { s with area := { s.area with wseq := s.nand.wseq } }
      let s := if s.save.planned then s else s.trigger
      s.removeRails .stay
    else s
  | none => s

/-- TIER_CLOSE_DONE (R144, R256). -/
def State.doTierClose (s : State) : State :=
  if s.mode = .save then ({ s with save := { s.save with tierClosed := true } }).seal else s

def execTierCloseDone (s : State) : Res := s.core State.doTierClose

/-- A line of the image whose encryption failed its dual computation; one that failed twice is saved with its poison flag (R269). -/
def State.saveLine (s : State) (x : Nat × Dual × Fin 64) : State :=
  let s := s.dual x.2.1 x.2.2.val
  if x.2.1 = .retryDiffers then s.poisonLine x.1 else s

/-- The channel of a codeword of the save area (R255): each 64 KiB unit is striped over every channel in service, from the channel after that where the unit before
ended (DESIGN CHOICE, log entry 169). -/
def State.stripe (s : State) (off : Nat) : Nat :=
  let l := (s.nand.targets.map (· / 16)).foldl setAdd []
  l.getD (off / 4096 % Nat.max 1 l.length) 0

/-- A save-area block that fails a program is replaced, and the program goes on in its place (R255). -/
def State.saveFail (s : State) (off : Nat) : State := (s.sat (F.NCH_ERR_fails (s.stripe off))).saveReplace

/-- The 64 KiB units that an image of `n` frames is written in: both header copies, bitmap, on-chip section, carve-out and frames (R149). -/
def State.unitsOf (s : State) (n : Nat) : Nat := 2 + ceilDiv (ceilDiv s.framesFound 8) 65536 + 256 + 65536 + n

/-- SAVE_STREAM_DONE (R144, R255, R269): sixteen codewords for every unit (R230). -/
def State.doStreamDone (s : State) (ms : Nat) (cipher : List (Nat × Dual × Fin 64)) (fails : List Nat) : State :=
  if s.mode = .save then
    let s := fails.foldl State.saveFail (cipher.foldl State.saveLine s)
    let s := { s with nand := { s.nand with wseq := s.nand.wseq + 16 * s.unitsOf (s.header ms).framesSaved } }
    ({ s with save := { s.save with streamed := some ms } }).seal else s

def execSaveStreamDone (saveMs : Nat) (cipher : List (Nat × Dual × Fin 64)) (fails : List Nat) (s : State) : Res :=
  s.core fun s => s.doStreamDone saveMs cipher fails

/-! ### Power failure (R140 to R142) -/

/-- The path of R140 by number. -/
def pathNo : PfPath → Nat
  | .comparator => 1 | .pin => 2 | .sampled => 3 | .command => 4

/-- Paths 1 to 3 are enabled (R140). -/
def State.pfEnabled (s : State) : PfPath → Bool
  | .comparator => s.bit F.FEN_PF_CFG_cmp_en
  | .pin => s.bit F.FEN_PF_CFG_pin_en
  | .sampled => s.bit F.FEN_PF_CFG_adc_en
  | .command => false

/-- The indication of a path. -/
def PowerFail.get (p : PowerFail) : PfPath → Bool
  | .comparator => p.comparator
  | .pin => p.pin
  | .sampled => p.sampled
  | .command => false

def PowerFail.set (p : PowerFail) (b : Bool) : PfPath → PowerFail
  | .comparator => { p with comparator := b }
  | .pin => { p with pin := b }
  | .sampled => { p with sampled := b }
  | .command => p

/-- The action of R142. -/
def State.powerFailed (s : State) (planned : Bool) : State :=
  match s.mode with
  | .save => s
  | .reset | .bringup => s.removeRails .stay
  | .restore =>
    if s.bit F.GLB_RESTORE_STAT_released then s.startSave planned false
    else if s.bit F.GLB_RESTORE_STAT_serving then s.startSave planned true
    else s.removeRails .stay
  | _ => s.startSave planned false

/-- A path confirms: FEN_PF_STAT records the first since its valid was cleared (R161; DEDUCED, log entry 120), the event is raised, and the action
follows. -/
def State.confirmFail (s : State) (path : Nat) (planned : Bool) : State :=
  if s.mode = .save then s
  else
    let s := if s.bit F.FEN_PF_STAT_valid then s else (s.setBit F.FEN_PF_STAT_valid true).setFld F.FEN_PF_STAT_path path
    (s.raise Ev.FEN_PWR_FAIL).powerFailed planned

/-- POWER_FAIL_INDICATION (R140). -/
def State.doPfIndication (s : State) (p : PfPath) : State :=
  if s.pfEnabled p then { s with pf := s.pf.set true p } else s

def execPowerFailIndication (path : PfPath) (s : State) : Res := s.fenCmd fun s => s.doPfIndication path

/-- POWER_FAIL_GLITCH (R141). -/
def State.doPfGlitch (s : State) (p : PfPath) : State :=
  if s.pf.get p then ({ s with pf := s.pf.set false p }).wrap F.FEN_PF_STAT_glitches else s

def execPowerFailGlitch (path : PfPath) (s : State) : Res := s.fenCmd fun s => s.doPfGlitch path

/-- POWER_FAIL_CONFIRM (R140 to R142): path 3 confirms on its third low sample, paths 1 and 2 where their indication stands. -/
def State.doPfConfirm (s : State) (p : PfPath) : State :=
  if s.pfEnabled p ∧ (p = .sampled ∨ s.pf.get p) then
    let s := { s with pf := s.pf.set false p, fen := { s.fen with inputGood := false } }
    s.confirmFail (pathNo p) false
  else s

def execPowerFailConfirm (path : PfPath) (s : State) : Res := s.fenCmd fun s => s.doPfConfirm path

/-- SAVE (R140, R143): path 4; the command completes as it is granted. -/
def execSave (h : Hdr) (s : State) : Res := s.start h .save fun s => (s.complete h .ok).confirmFail 4 true

/-! ### RESTORE is entered (R153, R159, R160) -/

/-- A tile of the image: one that has a frame is not present (R153). Its demotions of the hour before the SAVE count as made now (DESIGN CHOICE,
log entry 122). -/
def Tile.restored (now : Nat) (x : Tile) : Tile :=
  { x with present := !x.inDram, changed := false, dirty := false, fresh := false, demoted := x.demoted.map (fun _ => now), fetched := [] }

/-- A queue pair of the image: no engine is bound (R133, R159). -/
def Qp.restored (q : Qp) : Qp := { q with engine := none, cnpAt := none, cnpSentAt := none }

/-- The completions of messages that had committed and not completed are written (R147, R372); nothing is sent (R159). -/
def State.finishRestored (s : State) (n : Nat) : State :=
  match s.qpAt n with
  | none => s
  | some q =>
    let s := s.setQp n { q with msgs := [] }
    q.msgs.foldl (fun s m => match m.entry with
      | some e => s.completeRecv n e m.len m.imm 0 0 m.psn
      | none => s) s

/-- A region that was CLOSING comes back FREE (R159). -/
def Rgn.restored (r : Rgn) : Rgn := if r.state = .closing then { epoch := r.epoch } else r

/-- RC queue pairs that were in RTR or RTS come back in ERROR where qp_err is set (R159). -/
def State.failQps (s : State) : State :=
  if s.bit F.GLB_RESTORE_CFG_qp_err then
    (s.kept.qps.filter (fun p => p.2.rc && qpLive p.2.state)).foldl (fun s p => s.enterError p.1 p.2.syndrome p.2.synPsn) s
  else s

/-- room_tiles (R157). -/
def State.roomFor (s : State) (h : ImgHeader) : Nat :=
  let off := if h.delta then h.deltaOff else frameDataOff + h.framesSaved * 65536
  (s.nand.slotTiles * 65536 - off - frameDataOff) / 65536

/-- The map entries of an image whose block has been erased since its save, as only a secure discard does while the image stands: their tiles
are restored as poisoned (R257). -/
def State.lostCopies (s : State) (img : Image) : List Nat :=
  (img.kept.map.filter (fun p =>
    let k := s.blockOf p.2
    (s.blk k).erases != alGetD img.erases k 0)).map (·.1)

/-- The unit enters RESTORE with an image (R153 steps 0 to 4, R159): claim and role come from its header, and the commit clock resumes no
lower than last_commit; LIVE subscribers restart, and deliver once the unit serves. GLB_SAVE_STAT.lost is cleared, for the image in hand is the newest that is not lost (DESIGN
CHOICE, log entry 160). -/
def State.enterRestore (s : State) (slot : Nat) (img : Image) : State :=
  let h := img.head
  let k := img.kept
  let tiles := k.tiles.map (fun p => (p.1, p.2.restored s.mrt))
  let left := (tiles.filter (fun p => !p.2.present)).length
  let s := { s with
    seam := { s.seam with acked := h.mirrorStamp }
    kept := { k with
      tiles := tiles, freshTab := [], rdt := k.rdt.map (fun (p : Nat × Rgn) => (p.1, p.2.restored))
      qps := k.qps.map (fun (p : Nat × Qp) => (p.1, p.2.restored))
      subs := k.subs.map (fun (p : Nat × Sub) => if p.2.state == SubState.live then (p.1, p.2.restart) else p)
      imgSync := some h.mirrorStamp }
    tlr := { s.tlr with pinned := img.pinned, jobs := img.jobs }
    save := { step := 0, delta := h.delta, slot := slot, gen := h.generation, room := s.roomFor h } }
  let s := ((s.setBit F.GLB_SAVE_STAT_sealed true).setBit F.GLB_SAVE_STAT_lost false).setBit F.GLB_SAVE_STAT_delta h.delta
  let s := (s.setFld F.GLB_SAVE_STAT_slot slot).setFld F.GLB_SAVE_STAT_dur_10ms (Nat.min 65535 (h.saveMs / 10))
  let s := (s.setFld F.GLB_SAVE_GEN_gen_lo h.generation).setFld F.GLB_RESTORE_STAT_left_tiles left
  let s := ((s.setFld F.SEAM_CLAIM_epoch h.epoch).setBit F.SEAM_STATUS_lead h.lead).setFld F.CRYP_WRAP_CNT_count_lo k.wrapCount
  let s := (s.lostCopies img).foldl (fun (s : State) k => s.poisonUnit (k / 17) (k % 17)) s
  let s := (s.raiseCommit h.lastCommit).setMode .restore
  let s := (s.kept.qps.map (·.1)).foldl State.finishRestored s.startPeat
  (s.failQps.sendTack 1).reviewPair.firstCap .bringup

/-! ### The end of BRINGUP (R38, R121, R152, R164, R196, R229 to R238) -/

/-- The profile of the image that runs (R229). -/
def State.profile (s : State) : NandProfile := (s.nor.copy (s.bit F.NORC_BOOT_copy)).elim {} (·.nand)

/-- What R228 supports. -/
def chipSupported (c : NandChip) : Bool :=
  c.toggle.isSome && c.bus8 && decide (800 ≤ c.rate) && decide (c.density ≤ 2048) && decide (1 ≤ c.dies) && decide (c.dies ≤ 4) && c.page == 16384 &&
  decide (2048 ≤ c.spare) && decide (1 ≤ c.planes) && decide (c.planes ≤ 6) && c.ops && decide (c.readUs ≤ 45) && decide (c.progUs ≤ 2500) &&
  decide (c.eraseUs ≤ 15000)

/-- The target matches the profile (R229); one whose DQ and DQS timing does not train is taken for one that does not (DEDUCED, log entry 169). -/
def chipFits (p : NandProfile) (c : NandChip) : Bool :=
  chipSupported c && c.toggle == some p.toggle && decide (800 ≤ p.rate) && decide (p.rate ≤ 3200) && decide (p.rate ≤ c.rate) &&
  c.blockTiles == p.blockTiles && c.targetTiles == p.targetTiles && c.trained

/-- The scan of one channel (R228, R229): its usable targets, and an event for every target that does not match. -/
def State.scanChannel (s : State) (c : Fin 32 × List NandChip) : State :=
  let p := s.profile
  let good := c.2.filter (chipFits p)
  let s := (c.2.filter (fun x => !chipFits p x)).foldl (fun s x => s.raise Ev.NCH_TARGET_FAIL (c.1.val * 16 + x.ce.val)) s
  if good.isEmpty then s
  else
    let mask := good.foldl (fun n x => n ||| 2 ^ x.ce.val) 0
    let s := ((s.setFld (F.NCH_STATUS_state c.1.val) 2).setFld (F.NCH_STATUS_rate c.1.val) (p.rate / 100)).setFld (F.NCH_STATUS_targets c.1.val) mask
    { s with nand := { s.nand with targets := s.nand.targets ++ ((List.range 16).filter mask.testBit).map (fun i => c.1.val * 16 + i) } }

/-- B in GB/s (R233): of the channels in service, each at its rate or its targets' program rate, whichever is lower, less a tenth. -/
def State.saveRate (s : State) : Nat :=
  let p := s.profile
  let chans := (s.nand.targets.map (· / 16)).foldl setAdd []
  chans.foldl (fun n c => n + Nat.min (p.rate / 100 * 100) (p.progMBs * (s.nand.targets.filter (fun t => t / 16 == c)).length)) 0 * 9 / 10000

/-- dram_max of the image that runs, in tiles (R231, R321). -/
def State.dramMaxTiles (s : State) : Nat :=
  match s.nor.copy (s.bit F.NORC_BOOT_copy) with
  | some i => i.dramMax / 65536
  | none => 0

/-- The format (R231): the good blocks are divided into slots, their spares with the two journal blocks on two channels (R255), map area and tier; of the tier, spare pool
and work pool. Shares are rounded to whole blocks, the pools down, and spread evenly over the targets, each target's tier blocks after the others (DESIGN CHOICE, log entry
170). -/
def State.format (s : State) (sc : NandScan) : State :=
  let p := s.profile
  let bt := Nat.max 1 p.blockTiles
  let n := Nat.max 1 s.nand.targets.length
  let raw := s.nand.targets.length * p.targetTiles - sc.bad.length * p.blockTiles
  let d := Nat.max s.framesFound s.dramMaxTiles
  let map := match s.part with | .hx => 524288 | .mx => 262144
  let tier := raw - ceilDiv (2 * d * 102) 100 - map
  let spare := tier * 25 / 1000 / bt
  let chans := ((s.nand.targets.map (· / 16)).foldl setAdd []).take 2
  { s with
    nand := { s.nand with
      formatted := true, slotTiles := d, usable := tier * 96 / 100, init := spare, left := spare, frozen := false, blocks := [], nextGroup := 0
      blockTiles := p.blockTiles, perTarget := (tier * 975 / 1000) / (n * bt), root := none, found := [], dir := [], ckptMap := [], joined := [], cws := []
      groups := [], bad := sc.bad, saveBlocks := ceilDiv (ceilDiv (2 * d * 102) 100) bt, mapBlocks := map / bt, work := tier * 15 / 1000 / bt
      first := ceilDiv (s.nand.targets.length * (p.targetTiles / bt) - tier / bt) n
      journals := chans.filterMap (fun c => (s.nand.targets.find? (fun t => t / 16 == c)).map (fun t => blockKey t 0)) }
    area := { s.area with slot0 := {}, slot1 := {}, journal := [], wseq := s.nand.wseq, spares := 2 * d * 2 / 100 / bt - 2 } }

/-- More DRAM than a slot can hold (R232): channels are left OFF, the highest first. -/
def State.fitSlot : Nat → State → State
  | 0, s => s
  | k + 1, s =>
    if s.framesFound ≤ s.nand.slotTiles then s
    else
      match s.pops.getLast? with
      | some (c, _) => State.fitSlot k ((({ s with pops := s.pops.dropLast }).setFld (F.DMC_STATUS_state c) 0).setBit (F.DMC_STATUS_dimm0 c) false |>.setBit (F.DMC_STATUS_dimm1 c) false)
      | none => s

/-- Quilt's registers at the end of BRINGUP. -/
def State.showQuilt (s : State) : State :=
  let s := (s.setFld F.QLT_CAP_usable_tiles s.nand.usable).setFld F.QLT_SPARE_INIT_init s.nand.init
  let s := (s.setFld F.QLT_SPARE_left s.nand.left).setBit F.QLT_STATUS_frozen s.nand.frozen
  s.setBit F.QLT_STATUS_reserve_empty (s.nand.left = 0)

/-- The NAND (R229 to R233): scan, format where no root record is found, slots against the DRAM found, B and the demotion rate. -/
def State.bringNand (s : State) (sc : NandScan) : State :=
  let s := forUp (fun c s => s.setFld (F.NCH_STATUS_state c) 0) s.part.channels 0 { s with nand := { s.nand with targets := [] } }
  let s := (sc.channels.filter (fun c => decide (c.1.val < s.part.channels))).foldl State.scanChannel s
  let s := if s.nand.formatted ∧ sc.root then s else s.format sc
  let s := if s.nand.slotTiles < s.framesFound then
    State.fitSlot 16 ((s.setBit F.QLT_STATUS_save_short true).raise Ev.QLT_SAVE_SHORT) else s
  let b := s.saveRate
  ((s.setFld F.TLR_CAP_IN_b_save (b * 10)).setFld F.QLT_DEM_RATE_gbps (b / 3)).showQuilt

/-- One codeword of tier data, newer than what is mapped, replaces it (R238): the last codeword of a tile written whole completes the tile, one of a churn unit splits it. -/
def replayCw (map : List (Nat × Nat)) (cw : Nat) (m : CwMeta) : List (Nat × Nat) :=
  let t := m.addr / 65536
  let u := m.addr % 65536 / 4096
  if m.unit then
    let l := match alGet map (t * 17 + 16) with
      | some b => (List.range 16).foldl (fun (l : List (Nat × Nat)) i => alPut l (t * 17 + i) (b + i)) (alDel map (t * 17 + 16))
      | none => map
    alPut l (t * 17 + u) cw
  else if u = 15 then alPut (map.filter (fun e => e.1 / 17 != t)) (t * 17 + 16) (cw - 15)
  else map

/-- The codewords programmed after the newest root record, in the order of their write sequence (R238). -/
def State.newerCws (s : State) (from_ : Nat) : List (Nat × CwMeta) :=
  ((s.nand.cws.filter (fun e => decide (from_ < e.2.wseq))).foldl (fun (l : List (Nat × (Nat × CwMeta))) e => alPut l e.2.wseq e) []).map (·.2)

/-- The map that replay finds: that of the newest root record, and what the codewords programmed since add (R238). -/
def State.replayed (s : State) : List (Nat × Nat) :=
  (s.newerCws (s.nand.root.elim 0 (·.wseq))).foldl (fun map e => replayCw map e.1 e.2) (s.nand.root.elim [] (·.map))

/-- A tile that replay finds is NAND-homed and not present, with the key slot and the poison that its codewords name (R230, R238, R267). -/
def State.foundTile (s : State) (e : Nat × Nat) : State :=
  let t := e.1 / 17
  let whole := e.1 % 17 = 16
  let l := (if whole then List.range 16 else [0]).filterMap (fun i => alGet s.nand.cws (e.2 + i))
  let x := { s.tile t with present := false, key := (l.head?).elim (s.tile t).key (·.key) }
  let s := s.setTile t (if whole then x.setHome none .nand
    else ({ x with units := if x.units.isEmpty then List.replicate 16 .unhomed else x.units }).setHome (some (e.1 % 17)) .nand)
  l.foldl (fun s m => m.poison.foldl (fun s i => s.poisonLine (m.addr / 256 + i)) s) s

/-- Quilt rebuilds its map by replay (R238). What the lost image held of the tier is gone with it: blocks that were open are closed, and parity that was only in the
buffer (R240). -/
def State.replay (s : State) : State :=
  let s := { s with
    nand := { s.nand with
      found := s.replayed, groups := s.nand.groups.filter (fun g => g.2.block.isSome)
      blocks := s.nand.blocks.map (fun (p : Nat × NBlock) => if p.2.isOpen then (p.1, { p.2 with st := .closed }) else p) }
    kept := { s.kept with map := s.replayed, mapDir := s.nand.dir } }
  (s.nand.found.foldl State.foundTile s).setBit F.QLT_STATUS_replayed true

/-- The newest image is lost (R152, R238); `bad` is the generation that fails its checks. -/
def State.loseImage (s : State) (bad : Nat) : State :=
  let s := { s with save := { gen := bad } }
  ((s.setBit F.GLB_SAVE_STAT_lost true).raise Ev.GLB_IMAGE_LOST).replay

/-- The unit serves without a pair (R165), or stands at a point where it pairs (R164). -/
def State.stand (s : State) : State :=
  if s.pairEn then ({ s with seam := { s.seam with joining := true, waited := false } }).reviewPair.consider
  else
    let s := (((s.openRecord.setBit F.SEAM_STATUS_lead true).setMode .solo).dropStamp).firstCap s.mode
    ((s.adoptAll).bindAll).reviewPair.seize

/-- Every tile becomes UNHOMED and the tier is erased (R152). -/
def State.discardAll (s : State) : State :=
  let s := { s with
    kept := { s.kept with mem := [], tiles := [], freshTab := [], map := [], poison := [], homes := [], records := [], segs := [], mapDir := [] }
    nand := { s.nand with
      found := [], cws := [], groups := [], root := s.nand.root.map (fun (r : Root) => { r with map := [] }), blocks := s.nand.blocks.map (fun (p : Nat × NBlock) =>
        if p.2.st == BState.retired then p else (p.1, { p.2 with st := .free, fill := 0, reads := 0, erases := p.2.erases + 1, verified := false, stale := [], wipe := false })) } }
  let gen := s.lastGen
  let s := if gen = 0 then s else s.journal .erased s.save.slot 0 gen
  let s := { s with area := { s.area with slot0 := {}, slot1 := {}, wseq := s.nand.wseq }, save := {} }
  s.setBit F.GLB_SAVE_STAT_lost false

/-- What the journal and the newest root record say of the image (R152, R238). -/
inductive Found where
  | none | image (slot : Nat) (img : Image) | lost (bad : Nat) | orphan
  deriving DecidableEq, Repr

/-- The journal is read (R152, R262): a record that fails its check is counted and not used. -/
def State.readJournal (s : State) (sc : NandScan) : State :=
  let read : List (JRec × Bool) := s.area.journal.zipIdx.map (fun (x : JRec × Nat) => (x.1, x.1.reads (alGetD sc.journal x.2 [])))
  ({ s with area := { s.area with journal := (read.filter (fun (x : JRec × Bool) => x.2)).map (fun (x : JRec × Bool) => x.1) } }).sat F.CRC_FAIL_CNT_save (read.filter (fun (x : JRec × Bool) => !x.2)).length

/-- The image that the newest record seals. -/
def State.sealedImage (s : State) : Option (Nat × Image) :=
  match s.newestRec with
  | some r =>
    if r.type = .sealed_ then ((if r.off = 0 then (s.slotAt r.slot.val).base else (s.slotAt r.slot.val).delta).map (fun i => (r.slot.val, i))) else none
  | none => none

/-- The checks that a unit of an image's sections fails: of the image itself, or of the bitmap of the base under a delta (R151, R153). -/
def State.sectionFails (s : State) (n : Nat) (i : Image) (u : Nat × Altered × Altered) : Nat :=
  if i.reads true u.1 then i.unitFails u.1 u.2.1 u.2.2
  else
    match (s.slotAt n).base with
    | some b => if i.head.delta && b.reads false u.1 then b.unitFails u.1 u.2.1 u.2.2 else 0
    | none => 0

/-- The checks of the image that fail as BRINGUP reads it (R152, R262): of its header copies, the second read where the first fails, and of its sections. -/
def State.scanFails (s : State) (sc : NandScan) : Nat :=
  match s.sealedImage with
  | some (n, i) =>
    let h0 := i.headerReads sc.header0
    let h1 := i.headerReads sc.header1
    (if h0 then 0 else if h1 then 1 else 2) + sc.units.foldl (fun k u => k + s.sectionFails n i u) 0
  | none => 0

/-- An image can be restored: a header copy passes its CRC and its seal under this unit's save key, and no unit of its sections fails its check twice (R151, R152, R156). -/
def State.imagePasses (s : State) (sc : NandScan) (n : Nat) (i : Image) : Bool :=
  (i.headerReads sc.header0 || i.headerReads sc.header1) && i.root == s.fuses.saveRoot && sc.units.all (fun u => s.sectionFails n i u != 2)

/-- The image that BRINGUP finds (R152, R238). -/
def State.findImage (s : State) (sc : NandScan) : Found :=
  let f := match s.newestRec with
    | none => Found.none
    | some r =>
      match r.type with
      | .released | .erased => .none
      | .start => .lost r.generation
      | .sealed_ =>
        match s.sealedImage with
        | some (n, i) => if s.imagePasses sc n i then .image n i else .lost r.generation
        | none => .lost r.generation
  match f with
  | .lost g => .lost g
  | f => if s.nand.root.any (fun r => decide (s.area.wseq < r.wseq)) then .orphan else f

/-- BRINGUP ends (R164): with an image RESTORE begins, with none the unit serves or pairs, and with a lost one it stays (R152). In
lifecycle RETURNED no image is restored: the NAND is treated as under discard-image (R345). -/
def State.endBringup (s : State) (sc : NandScan) : State :=
  if s.fuses.life = Machine.returned then s.discardAll.notePeatLost.stand
  else
    let s := s.readJournal sc
    let s := s.sat F.CRC_FAIL_CNT_save (s.scanFails sc)
    match s.findImage sc with
    | .none => s.notePeatLost.stand
    | .image n i => s.enterRestore n i
    | .lost g => (s.loseImage g).notePeatLost.consider
    | .orphan => ((s.raise Ev.QLT_ORPHAN).loseImage 0).notePeatLost.consider

/-- BRINGUP may end (R196, R197, R215, R226, R278, R352): the firmware runs, the THM lock is set, the carve-out is filled, the near cache is
invalid, two lockstep pairs are usable, and the channels READY hold 32 GiB in two channels. -/
def State.canEnd (s : State) : Bool :=
  s.mode == .bringup && s.boot.ran && !s.boot.halted && !s.boot.ready && s.boot.filled && !s.nc.walking && s.bit F.THM_LOCK_lock &&
  decide (2 ≤ s.countUsable) && s.fuses.life != scrapped && decide (2 ≤ s.pops.length) && decide (524288 ≤ s.framesFound)

/-- BRINGUP_COMPLETE (R38, R121, R152, R164, R229 to R238, R365). -/
def State.doBringupComplete (s : State) (sc : NandScan) : State :=
  if s.canEnd then
    let s := s.bringNand sc
    let s := s.setFld F.RGN_RANGE_TOP_top_tiles (Nat.min 0x68000000 (s.nand.usable + s.framesFound))
    let s := { s with boot := { s.boot with ready := true } }
    let s := s.setFld F.TLR_CAP_IN_e_est (s.fld F.FEN_BAT_E_e_est % 65536)
    (s.endBringup sc).reviewFull
  else s

def execBringupComplete (scan : NandScan) (s : State) : Res := s.core fun s => s.doBringupComplete scan

/-! ### The commands of a lost image (R152) -/

/-- The unit stays in BRINGUP with its newest image lost. -/
def State.isLost (s : State) : Bool := s.mode == .bringup && s.boot.ready && s.bit F.GLB_SAVE_STAT_lost

/-- An image of a slot is still sealed: its SEALED record stands in the journal, no later record releases or erases the slot, and it is not the
lost one. -/
def State.stillSealed (s : State) (slot : Nat) (i : Image) : Bool :=
  let l := s.area.journal.filter (fun r => r.slot.val == slot)
  let after := (l.dropWhile (fun r => !(r.type == .sealed_ && r.generation == i.head.generation)))
  i.head.generation != s.save.gen && !after.isEmpty && !after.any (fun r => r.type == .released || r.type == .erased)

/-- The newest image that is still sealed, with its slot. -/
def State.olderImage (s : State) : Option (Nat × Image) :=
  let l := (s.area.slot0.base.toList ++ s.area.slot0.delta.toList).map (fun i => (0, i)) ++
    (s.area.slot1.base.toList ++ s.area.slot1.delta.toList).map (fun i => (1, i))
  let l := l.filter (fun p => s.stillSealed p.1 p.2)
  let top := l.foldl (fun n p => Nat.max n p.2.head.generation) 0
  l.find? (fun p => p.2.head.generation = top)

/-- ACCEPT_OLDER_IMAGE (R152). -/
def State.doAcceptOlder (s : State) (h : Hdr) : State :=
  if !s.isLost then s.complete h .invalid
  else
    match s.olderImage with
    | some (n, i) => ((s.complete h .ok).raise Ev.GLB_IMAGE_OLDER).enterRestore n i
    | none => s.complete h .invalid

def execAcceptOlderImage (h : Hdr) (s : State) : Res := s.start h .acceptOlderImage fun s => s.doAcceptOlder h

/-- DISCARD_IMAGE (R152, R365). -/
def State.doDiscardImage (s : State) (h : Hdr) : State :=
  if s.isLost then ((s.discardAll.losePeat).complete h .ok).stand else s.complete h .invalid

def execDiscardImage (h : Hdr) (s : State) : Res := s.start h .discardImage fun s => s.doDiscardImage h

/-! ### RESTORE (R153 to R158) -/

/-- The conditions of R154 and R160: with a twin that restores too, the higher epoch, then the LEAD flag, serves. -/
def State.mayServe (s : State) : Bool :=
  s.mode == .restore && !s.bit F.GLB_RESTORE_STAT_serving && !s.bit F.GLB_RESTORE_STAT_released && s.bit F.GLB_RESTORE_CFG_serve_en &&
  !s.save.delta && (s.slotAt (1 - s.save.slot)).erased && s.held &&
  (match s.seam.peer with
   | some p =>
     s.twin == 2 || (!p.serves && (p.mode != 2 || decide (p.epoch < s.epoch) || (p.epoch == s.epoch && s.lead && !p.lead)))
   | none => true)

/-- RESTORE_SERVING_BEGIN (R153 step 5, R154, R159). -/
def State.doServe (s : State) : State :=
  if s.mayServe then
    let s := s.raiseEpoch.setBit F.SEAM_STATUS_lead true
    let s := (s.setBit F.GLB_RESTORE_STAT_serving true).raise Ev.GLB_RESTORE_SERVING
    (s.adoptAll.bindAll).reviewPair
  else s

def execRestoreServingBegin (s : State) : Res := s.core State.doServe

/-- The frame of a tile can still be used: found, not retired, not the carve-out's (R153). -/
def State.frameOk (s : State) (f : Nat) : Bool :=
  match frameAt s.pops f with
  | some (c, b, _) => !s.retFrames.contains f && !s.retBanks.contains (c, b) && decide (frameBase s.pops c + s.carveOn c ≤ f)
  | none => false

/-- The units of a tile that have a frame. -/
def Tile.dramUnits (x : Tile) : List (Option Nat) :=
  if x.units.isEmpty then [none] else ((List.range 16).filter (fun u => x.units.getD u .unhomed == .dram)).map some

/-- The tile is restored into a NAND home through the demotion path (R153). -/
def State.restoreNand (s : State) (t : Nat) : Option State :=
  (s.tile t).dramUnits.foldl (fun (r : Option State) u =>
    match r with
    | none => none
    | some s =>
      match s.chooseTarget with
      | none => none
      | some g =>
        match s.programTile g t u false with
        | (s, some cw) =>
          let s := s.setMap t (alPut s.kept.map (mapKey t u) cw)
          some (s.setTile t ((s.tile t).setHome u .nand))
        | (_, none) => none) (some s)

/-- A place for a tile of the image: its frame, a new one, which a delta must hold (R155), or a NAND home. -/
def State.placeRestored (s : State) (t : Nat) : Option State :=
  if s.frameOk (s.tile t).frame then some s
  else
    match s.chooseFrame with
    | some f => some (((s.takeFrame f).setTile t { s.tile t with frame := f }).noteDirty t)
    | none => s.restoreNand t

/-- The tiles that messages parked on which are not present, in the order parked. -/
def State.parkedTiles (s : State) : List Nat :=
  s.parks.flatMap (fun p =>
    match (s.qpAt p.1).bind (fun q => (q.msgs ++ q.cur.toList).find? (fun m => m.psn == p.2)) with
    | some m => (tilesOf m.pieces).filter (fun t => !(s.tile t).present)
    | none => [])

/-- A tile as the image that is restored holds it. -/
def State.savedTile (s : State) (t : Nat) : Tile := ((s.slotAt s.save.slot).top).elim (s.tile t) (fun i => alGetD i.kept.tiles t {})

/-- The tile whose turn it is in the restore copy (R156): the first with a parked access, else one of the lowest saved age, those of one age in
frame order (DEDUCED, log entry 123). -/
def State.restoreTurn (s : State) (t : Nat) : Bool :=
  !(s.tile t).present &&
  (match s.parkedTiles with
   | p :: _ => p == t
   | [] => (s.kept.tiles.filter (fun p => !p.2.present)).all (fun p =>
       decide ((s.savedTile t).age < (s.savedTile p.1).age) || ((s.savedTile p.1).age == (s.savedTile t).age && decide ((s.tile t).frame ≤ p.2.frame))))

/-- The requests that wait for a tile are answered INTERNAL (R269). -/
def State.refuseParked (s : State) (t : Nat) : State :=
  s.parks.foldl (fun (s : State) p =>
    match (s.qpAt p.1).bind (fun q => q.msgs.find? (fun m => m.psn == p.2 && !m.committed && (tilesOf m.parts).contains t)) with
    | some m => s.refuse p.1 p.2 0x30 m.verb
    | none => s) s

/-- The checks that the unit of a tile's frame fails: the delta's where its bit is set there, else the base's (R151, R153). -/
def State.frameFails (s : State) (t : Nat) (first second : Altered) : Nat :=
  if first.isEmpty then 0
  else
    let x := s.slotAt s.save.slot
    let f := (s.savedTile t).frame
    let in_ := fun (i : Option Image) => i.bind (fun i => (i.frameOff f).map (fun o => (i, o)))
    match (in_ x.delta).orElse (fun _ => in_ x.base) with
    | some (i, o) => i.unitFails o first second
    | none => 0

/-- RESTORE_TILE_PRESENT (R153, R156, R262, R269): a unit that fails its check twice restores the tile as poisoned. One whose decryption fails its dual
computation twice does not enter, and what waits for it is answered INTERNAL. -/
def State.doTilePresent (s : State) (t : Nat) (first second : Altered) (d : Dual) (lane : Nat) : State :=
  if s.mode = .restore ∧ s.restoreTurn t then
    let fails := s.frameFails t first second
    let s := s.dual d lane
    if d = .retryDiffers then s.refuseParked t
    else
    let s := s.sat F.CRC_FAIL_CNT_save fails
    let s := if 2 ≤ fails then
      (((List.range 256).foldl (fun s l => s.poisonLine (t * 256 + l)) s).wrap F.GLB_RESTORE_POISON_tiles).raise Ev.GLB_RESTORE_POISON else s
    match s.placeRestored t with
    | some s =>
      let s := s.setTile t { s.tile t with present := true }
      ((s.setFld F.GLB_RESTORE_STAT_left_tiles (s.fld F.GLB_RESTORE_STAT_left_tiles - 1)).reviewFull.reviewCap).retryAll
    | none => s
  else s

def execRestoreTilePresent (tile : Nat) (first second : Altered) (dual : Dual) (lane : Fin 64) (s : State) : Res :=
  s.core fun s => s.doTilePresent tile first second dual lane.val

/-- The image may be released (R158). -/
def State.canRelease (s : State) : Bool :=
  s.mode == .restore && !s.bit F.GLB_RESTORE_STAT_released && s.kept.tiles.all (fun p => p.2.present) && decide (s.homed ≤ s.cap) &&
  (s.slotAt (1 - s.save.slot)).erased

/-- IMAGE_RELEASE (R158): the unit leaves RESTORE for SOLO, or pairs (R164). -/
def State.doRelease (s : State) : State :=
  if s.canRelease then
    let off := ((s.slotAt s.save.slot).top).elim 0 (fun i => i.head.deltaOff)
    let s := s.journal .released s.save.slot off s.save.gen
    let s := { s with area := { s.area with wseq := s.nand.wseq } }
    let s := ((s.setBit F.GLB_RESTORE_STAT_released true).setBit F.GLB_SAVE_STAT_sealed false).raise Ev.GLB_RESTORE_DONE
    s.stand
  else s

def execImageRelease (s : State) : Res := s.core State.doRelease

/-- SLOT_ERASE_DONE (R148, R158, R255): the slot of an image that is held, or that a command may still restore, is not erased. The `fails` blocks that
failed the erase are replaced before the slot counts as erased. -/
def State.doSlotErase (s : State) (n fails : Nat) : State :=
  let holds := (s.mode == .restore && !s.bit F.GLB_RESTORE_STAT_released && s.save.slot == n) || s.isLost
  if holds ∨ s.mode = .save ∨ !s.boot.ready ∨ (s.slotAt n).erased then s
  else
    let gen := (s.area.journal.filter (fun r => r.slot.val = n)).foldl (fun g r => Nat.max g r.generation) 0
    ((forUp (fun _ s => State.saveReplace s) fails 0 s).setSlot n {}).journal .erased n 0 gen

def execSlotEraseDone (slot : Fin 2) (fails : Nat) (s : State) : Res := s.core fun s => s.doSlotErase slot.val fails

end Sys2Proof.Machine
end

