-- ==== Sys2Proof/Machine/Integrity.lean ====
section
/-! DEFINITION. The scan engine (R263 to R265), key slots and cipher contexts (R268 to R274), and the lockstep pairs (R276 to R279). -/

namespace Sys2Proof.Machine

/-! ### The scan engine (R263 to R265) -/

/-- The range lies wholly in the tenant range or in the system carve-out (R263). -/
def State.scanRange (s : State) (a n : Nat) : Bool := s.inTenant a n || (decide (carveBase ≤ a) && decide (a + n ≤ carveEnd))

/-- SCAN_START (R263): a write of CRC_SCAN_CTRL. -/
def State.doScanStart (s : State) (value : Word) : State :=
  let a := s.fld F.CRC_SCAN_ADDR_LO_addr_lo + s.fld F.CRC_SCAN_ADDR_HI_addr_hi * 2 ^ 32
  let n := s.fld F.CRC_SCAN_LEN_LO_len_lo + s.fld F.CRC_SCAN_LEN_HI_len_hi * 2 ^ 32
  if value.getLsbD 31 ∧ (s.bit F.CRC_SCAN_CTRL_busy ∨ n = 0) then s
  else
    let s := ((s.setBit F.CRC_SCAN_CTRL_fold (value.getLsbD 2)).setBit F.CRC_SCAN_CTRL_poly (value.getLsbD 1)).setBit F.CRC_SCAN_CTRL_mode
      (value.getLsbD 0)
    if !value.getLsbD 31 then s
    else
      let s := s.setFld F.CRC_SCAN_STAT_progress 0
      if 2 ^ 44 < n ∨ !s.scanRange a n then s.endScan 4 0
      else
        let x : Scan := ⟨a, n, value.getLsbD 2, value.getLsbD 1, value.getLsbD 0, s.pair F.CRC_SCAN_SEQ_LO_value F.CRC_SCAN_SEQ_HI_value,
          s.pair F.CRC_SCAN_EXP_LO_value F.CRC_SCAN_EXP_HI_value⟩
        ({ s with scan := some x }).setBit F.CRC_SCAN_CTRL_busy true

def execScanStart (value : Word) (s : State) : Res := s.post F.CRC_SCAN_CTRL_go.off value fun s => s.doScanStart value

/-- The check value of a scan over the bytes it reads (R259, R260, R264). -/
def State.scanValue (s : State) (x : Scan) : Nat :=
  let data := (if x.fold then foldPrefix x.addr x.seq else []) ++ s.bytes x.addr x.len
  if x.crc64 then crc64 data else crc32c data

/-- The lines that a scan reads, through the near cache (R264). -/
def State.scanLoad (s : State) (a n : Nat) : State := (splitTiles (n / 65536 + 2) a n).foldl (fun s p => s.load p.1 p.2) s

/-- CRC_SCAN_DONE (R264, R265): the lines are read through the near cache, up to a poisoned one. -/
def State.doScanDone (s : State) : State :=
  match s.scan with
  | none => s
  | some x =>
    match (linesOf x.addr x.len).find? (fun l => s.kept.poison.contains l) with
    | some l =>
      let s := s.scanLoad x.addr (l * 256 - x.addr)
      ((s.setFld F.CRC_SCAN_STAT_progress ((l * 256 - x.addr) / 65536)).countScan (l * 256 - x.addr)).endScan 2 (l * 256)
    | none =>
      let v := s.scanValue x
      let s := s.scanLoad x.addr x.len
      let s := (if carveBase ≤ x.addr then s.tickFree else s).countScan x.len
      let s := s.setFld F.CRC_SCAN_STAT_progress (ceilDiv x.len 65536)
      let want := if x.crc64 then x.expect else x.expect % 2 ^ 32
      s.endScan (if x.compare ∧ v ≠ want then 1 else 0) v

def execCrcScanDone (s : State) : Res := s.core State.doScanDone

/-! ### Key slots and contexts (R268, R272 to R274) -/

/-- A command that a bad blob ends (R273). -/
def State.badContext (s : State) (h : Hdr) : State := (s.complete h .invalid).raise Ev.CRYP_CTX_BAD

/-- The checks of key-slot (R268): the key pair comes wrapped as a kind 3 context. -/
def State.checkKeySlot (s : State) (slot : Nat) (b : Blob) : Verdict :=
  if s.kept.domains.any (fun p => p.2.keySlot = slot) then .error .busy
  else if !(b.magicOk && b.kind == 3 && b.wrapped && b.tagOk && b.index == slot && decide (slot < 1024)) then .error .invalid
  else s.unlessRestoring []

/-- A key-slot command that a bad blob ends raises CRYP_CTX_BAD (R273). -/
def State.keySlotBad (s : State) (slot : Nat) (b : Blob) : Bool :=
  !(s.kept.domains.any (fun p => p.2.keySlot = slot)) &&
  !(b.magicOk && b.kind == 3 && b.wrapped && b.tagOk && b.index == slot && decide (slot < 1024))

/-- A wrap takes the next value of the wrap counter (R271). -/
def State.countWrap (s : State) : State :=
  let n := s.kept.wrapCount + 1
  ({ s with kept := { s.kept with wrapCount := n } }).setFld F.CRYP_WRAP_CNT_count_lo n

/-- The 104 bytes of a saved context (R272). -/
def blobBytes (root kind index : Nat) (wrapped : Bool) (prefix_ counter key salt ssci pn : Nat) : List Byte :=
  let nonce := if wrapped then leBytes 4 prefix_ ++ leBytes 8 counter else leBytes 12 0
  let head := [0x4B#8, 0x42#8, 0x43#8, 0x58#8] ++ leBytes 1 kind ++ leBytes 1 (if wrapped then 1 else 0) ++ leBytes 2 index ++ nonce ++ leBytes 4 0
  let body := if kind = 3 then leBytes 64 key else leBytes 32 key ++ leBytes 12 salt ++ leBytes 4 ssci ++ leBytes 8 pn ++ leBytes 8 0
  if wrapped then head ++ (List.range 80).map (Config.wrapped root (head ++ body)) else head ++ body ++ leBytes 16 0

/-- What a context save returns: the bytes of its blob. -/
def State.blobOf (s : State) (kind index : Nat) (wrapped : Bool) (key salt ssci pn : Nat) : List Nat :=
  (blobBytes (if s.fuses.wrapKey = .present then 1 else 0) kind index wrapped (s.cryp.nonce.getD 0) s.kept.wrapCount key salt ssci pn).map BitVec.toNat

/-- The context that a save names: key, salt, SSCI, packet number. -/
def State.context (s : State) (kind index : Nat) : Option (Nat × Nat × Nat × Nat) :=
  if kind = 3 then (alGet s.kept.keySlots index).map (fun k => (k, 0, 0, 0))
  else if (kind = 1 ∧ index / 128 % 16 = 0) ∨ (kind = 2 ∧ index / 128 % 16 ≠ 0) then
    (alGet s.kept.assocs index).map (fun (a : Assoc) => (a.key, a.salt, a.ssci.toNat, a.pn))
  else none

/-- CONTEXT_SAVE (R269, R271 to R273). -/
def State.doContextSave (s : State) (h : Hdr) (kind index : Nat) (wrapped : Bool) (d : Dual) (lane : Nat) : State :=
  if !wrapped ∧ (kind = 3 ∨ !s.bit F.CRYP_CTX_CFG_clear_en) then s.complete h .invalid
  else if wrapped ∧ s.fuses.wrapKey ≠ .present then s.complete h .invalid
  else
    match s.context kind index with
    | none => s.complete h .invalid
    | some (k, salt, ssci, pn) =>
      if !wrapped then s.complete h .ok (s.blobOf kind index false k salt ssci pn)
      else
        let s := (s.countWrap).dual d lane
        if d = .retryDiffers then s.badContext h else s.complete h .ok (s.blobOf kind index true k salt ssci pn)

def execContextSave (h : Hdr) (kind index : Nat) (wrapped : Bool) (dual : Dual) (lane : Fin 64) (s : State) : Res :=
  s.start h (.contextSave kind index wrapped) fun s => s.doContextSave h kind index wrapped dual lane.val

/-- The kind and index of an association are valid (R272). -/
def State.assocValid (s : State) (kind index : Nat) : Bool :=
  let sc := index / 128 % 16
  decide (index < 65536) && index % 32 == 0 && decide (index / 2048 / 4 < s.part.ports) &&
  ((kind == 1 && sc == 0) || (kind == 2 && decide (1 ≤ sc) && decide (sc ≤ 8)))

/-- An association restored from a blob (R274). -/
def State.restoreAssoc (s : State) (b : Blob) : State :=
  let cur := (alGet s.kept.assocs b.index).elim 0 (fun (a : Assoc) => a.pn)
  let pn := if b.kind = 1 then Nat.max cur (b.pn + 2 ^ s.fld F.CRYP_CTX_CFG_pn_skip_log2) else Nat.max cur b.pn
  let lport := b.index / 2048
  let s := if b.kind = 1 ∧ cur < 0xC000000000000000 ∧ 0xC000000000000000 ≤ pn then s.raise (514 + 16 * portOf lport) lport else s
  { s with kept := { s.kept with assocs := alPut s.kept.assocs b.index { key := b.key, salt := b.salt, ssci := b.ssci, pn := pn } } }

/-- CONTEXT_RESTORE (R269, R272 to R274). -/
def State.doContextRestore (s : State) (h : Hdr) (b : Blob) (d : Dual) (lane : Nat) : State :=
  if !b.wrapped ∧ !s.bit F.CRYP_CTX_CFG_clear_en then s.complete h .invalid
  else if !b.wrapped ∧ b.kind = 3 then s.complete h .invalid
  else
    let s := if b.wrapped then s.dual d lane else s
    if !b.magicOk ∨ !s.assocValid b.kind b.index ∨ (b.wrapped ∧ (!b.tagOk ∨ d = .retryDiffers ∨ s.fuses.wrapKey ≠ .present)) then s.badContext h
    else (s.restoreAssoc b).complete h .ok

def execContextRestore (h : Hdr) (b : Blob) (dual : Dual) (lane : Fin 64) (s : State) : Res :=
  s.start h (.contextRestore b) fun s => s.doContextRestore h b dual lane.val

/-! ### Lockstep pairs (R276 to R279) -/

/-- The pair that takes over the tasks of a pair (R278): a SPARE one, else the TRUSTED one with the fewest tasks. -/
def State.heir (s : State) (p : Nat) : Option Nat :=
  let others := (List.range 4).filter (fun q => q != p)
  match others.find? (fun q => s.pairState q = 1) with
  | some q => some q
  | none => (least ((others.filter (fun q => s.pairState q = 0)).map (fun q => (s.lks.tasks.getD q 0, q)))).map (·.2)

/-- The tasks of a halted pair restart on another, which is TRUSTED from then on. -/
def State.moveTasks (s : State) (p : Nat) : State :=
  match s.heir p with
  | some q =>
    let n := Nat.max 1 (s.lks.tasks.getD p 0)
    ({ s with lks := { s.lks with tasks := (s.lks.tasks.set q (s.lks.tasks.getD q 0 + n)).set p 0 } }).setPair_ q 0
  | none => s

/-- A pair is declared UNTRUSTED (R277 to R280): with two pairs usable service is degraded, with fewer a planned SAVE starts. -/
def State.distrust (s : State) (p cause : Nat) : State :=
  let s := s.setPair_ p 3
  let s := if s.bit F.LKS_FAULT_LOG_valid then s
    else ((s.setBit F.LKS_FAULT_LOG_valid true).setFld F.LKS_FAULT_LOG_pair p).setFld F.LKS_FAULT_LOG_cause cause
  let s := s.raise Ev.LKS_UNTRUSTED p
  if s.mode = .bringup then s
  else if s.countUsable = 2 then s.raise Ev.LKS_DEGRADED p
  else if s.countUsable < 2 then s.confirmFail 4 true
  else s

/-- LKS_INJECT (R277). -/
def State.doInject (s : State) (p : Nat) (caught : Bool) : State :=
  if caught ∨ s.pairState p = 3 then s else s.distrust p 2

def execLksInject (pair : Fin 4) (caught : Bool) (s : State) : Res := s.core fun s => s.doInject pair.val caught

/-- LKS_CODE_VIOLATION (R277). -/
def State.doCodeViolation (s : State) (p : Nat) : State := if s.pairState p = 3 then s else s.distrust p 3

def execLksCodeViolation (pair : Fin 4) (s : State) : Res := s.core fun s => s.doCodeViolation pair.val

/-- LKS_MISMATCH (R278): the pair is halted and tested. -/
def State.doMismatch (s : State) (p : Nat) : State :=
  if 2 ≤ s.pairState p then s
  else (((s.setPair_ p 2).wrap F.LKS_CNT_mismatches).raise Ev.LKS_MISMATCH p).moveTasks p

def execLksMismatch (pair : Fin 4) (s : State) : Res := s.core fun s => s.doMismatch pair.val

/-- LKS_TEST_DONE (R278): the test vector decides; a third transient of a pair in 24 h counts as a fault. -/
def State.doTestVector (s : State) (p : Nat) (reproduced : Bool) : State :=
  if s.pairState p ≠ 2 ∨ s.lks.halted.contains p then s
  else if reproduced then s.distrust p 1
  else
    let l := s.lks.transients.filter (fun x => decide (s.mrt < x.2 + 86400000000000)) ++ [(p, s.mrt)]
    let s := ({ s with lks := { s.lks with transients := l } }).wrap F.LKS_CNT_transients
    if 3 ≤ (l.filter (fun x => x.1 = p)).length then s.distrust p 4
    else (s.setPair_ p 1).raise Ev.LKS_TRANSIENT p

def execLksTestDone (pair : Fin 4) (reproduced : Bool) (s : State) : Res := s.core fun s => s.doTestVector pair.val reproduced

/-- The check of the pairs at BRINGUP (R279): `failed` has the bits of the pairs that fail. -/
def State.checkPairs (s : State) (failed : BitVec 4) : State :=
  let s := (List.range 4).foldl (fun s p =>
    if failed.getLsbD p then s.distrust p 5
    else s.setPair_ p (if s.fld F.LKS_CFG_spare = p then 1 else 0)) s
  if s.countUsable = 2 then s.raise Ev.LKS_DEGRADED (((List.range 4).filter (fun p => failed.getLsbD p)).foldl Nat.max 0) else s

end Sys2Proof.Machine
end

