-- ==== Sys2Proof/Machine/Shared.lean ====
section
/-! DEFINITION. Commands that change shared state (R58, R169): their checks, their effects, and how the two units of a pair carry
them out together. Rows of the twin after which a unit may stand alone end with the commands that waited for it. -/

namespace Sys2Proof.Machine

/-! ### Checks and effects, command by command -/

/-- The checks of a shared-state command, in its rule's order. -/
def State.checkShared (s : State) : Cmd → Verdict
  | .createDomain pd rq qq slot => s.checkCreateDomain pd rq qq slot
  | .destroyDomain pd => s.checkDestroyDomain pd
  | .createQp q _ _ cq => s.checkCreateQp q.val cq
  | .modifyQp q dst a => s.checkModifyQp q.val dst a
  | .destroyQp q => s.checkDestroyQp q.val
  | .postReceive srq i _ _ _ _ => s.checkPostReceive srq i
  | .createSrq i pd cq => s.checkCreateSrq i pd cq
  | .register a => s.checkRegister a
  | .deregister k => s.checkDeregister k
  | .repair k | .sync k => s.checkSync k
  | .setExtent k flag policy => s.checkSetExtent k flag policy.val
  | .discard start count _ => s.checkDiscard start count
  | .tableWrite addr n ok es => s.checkTableWrite addr n ok es
  | .channelCreate a => s.checkChannelCreate a
  | .channelClose c => s.checkChannelClose c
  | .attachPublisher c q => s.checkAttachPublisher c q.val
  | .detachPublisher c q => s.checkDetachPublisher c q.val
  | .attachSubscriber a => s.checkAttachSubscriber a
  | .resume c b q => s.checkResume c b q.val
  | .remove c b => s.checkRemove c b
  | .keySlot slot b => s.checkKeySlot slot b
  | _ => .error .invalid

/-- The effect of a shared-state command on one unit, with the values chosen for it. -/
def State.applyShared (s : State) (h : Hdr) (vals : List Nat) : Cmd → State
  | .createDomain pd rq qq slot => s.putDomain pd rq qq slot
  | .destroyDomain pd => s.dropDomain pd
  | .createQp q rc host cq => s.putQp q.val rc host cq
  | .modifyQp q dst a => s.modifyQp q.val dst a
  | .destroyQp q => s.dropQp q.val
  | .postReceive srq i wr k off len => s.putReceive srq i ⟨wr, k, off, len⟩
  | .createSrq i pd cq => s.putSrq i pd cq
  | .register a => s.putRegion a (vals.headD 0)
  | .deregister _ => s.closeRegion (vals.headD 0) h
  | .repair _ => s.repairRegion (vals.headD 0)
  | .sync _ => s.syncRegion (vals.headD 0)
  | .setExtent _ flag policy => s.applyExtent (vals.headD 0) flag policy.val
  | .discard start count secure => s.putDiscard h start count secure
  | .tableWrite addr _ _ es => s.writeTable addr es
  | .channelCreate a => s.putChannel a
  | .channelClose c => s.dropChannel c
  | .attachPublisher c q => s.putPublisher c q.val (vals.headD 0)
  | .detachPublisher c q => s.dropPublisher c q.val
  | .attachSubscriber a => s.putSubscriber a
  | .resume c b q => s.resumeSub c b q.val
  | .remove c b => s.dropSub c b
  | .keySlot slot b => s.installKey slot b.key
  | _ => s

/-- The values that a command's completion returns: the key of a register command (R57), the index of a publisher (R94). -/
def cmdReturns (vals : List Nat) : Cmd → List Nat
  | .register _ | .attachPublisher _ _ => vals
  | _ => []

/-- The command ends later than its effect on this unit: with the drains (R61), or when every physical copy is gone (R254). -/
def cmdLasts : Cmd → Bool
  | .deregister _ => true
  | .discard _ _ secure => secure
  | _ => false

/-- The checks of the command rest on what only this unit knows: its poisoned lines (R53, R55), its homes (R93, R119), its mode. -/
def cmdLocal : Cmd → Bool
  | .register _ | .deregister _ | .repair _ | .sync _ | .tableWrite _ _ _ _ | .setExtent _ _ _ | .keySlot _ _ | .channelCreate _ => true
  | _ => false

/-- LEAD's own command takes effect on LEAD at its grant (R169), where FOLLOW cannot refuse it. The others take effect once both units have accepted them, so
that one which a unit refuses changes neither (R53, R55, R93, R119, R268); a close is LEAD's first (R59). -/
def cmdAtOnce (c : Cmd) : Bool :=
  match c with
  | .deregister _ => true
  | c => !cmdLocal c

/-- A command with the choices that LEAD has made: FOLLOW takes the same index (R58). -/
def cmdChosen (vals : List Nat) : Cmd → Cmd
  | .register a => .register { a with index := some (vals.headD 0 / 4096) }
  | c => c

/-! ### On one unit -/

/-- A shared-state command is refused; a bad key blob raises its event (R273). -/
def State.failShared (s : State) (h : Hdr) (c : Cmd) (st : Status) : State :=
  let bad := match c with
    | .keySlot slot b => s.keySlotBad slot b
    | _ => false
  let s := s.complete h st
  if bad then s.raise Ev.CRYP_CTX_BAD else s

/-- The command completes OK; a secure discard raises its event (R254). -/
def State.endShared (s : State) (h : Hdr) (c : Cmd) (vals : List Nat) : State :=
  let s := s.complete h .ok (cmdReturns vals c)
  match c with
  | .discard _ _ true => s.raise Ev.QLT_DISCARD_DONE
  | _ => s

/-- The effect of a command and its completion, which a lasting one reaches later. -/
def State.finishShared (s : State) (h : Hdr) (c : Cmd) (vals : List Nat) : State :=
  let s := s.applyShared h vals c
  if cmdLasts c then s else s.endShared h c vals

/-! ### On both units (R58, R169) -/

/-- A command waits for the twin's CMD_DONE. -/
def State.awaitTwin (s : State) (h : Hdr) (c : Cmd) (vals : List Nat) (sent : Bool) : State :=
  { s with shared := s.shared ++ [⟨h, c, vals, sent⟩] }

/-- FOLLOW sends its command on: nothing of it takes effect before LEAD has granted it (R169). -/
def State.sendToLead (s : State) (h : Hdr) (c : Cmd) : State := (s.awaitTwin h c [] true).seamSend (.command (s.twinHdr h) c [])

/-- LEAD's own command: it goes to FOLLOW, and a deregister command has closed the region on LEAD first (R59). -/
def State.leadCmd (s : State) (h : Hdr) (c : Cmd) (vals : List Nat) : State :=
  let s := if cmdAtOnce c then s.applyShared h vals c else s
  let s := match c with
    | .deregister _ => s
    | _ => s.awaitTwin h c vals false
  s.seamSend (.command h c vals)

/-- FOLLOW's command that LEAD has granted takes effect on LEAD, and the answer takes it to FOLLOW; a close goes back as a CMD frame. -/
def State.leadForTwin (s : State) (h : Hdr) (c : Cmd) (vals : List Nat) : State :=
  let s := s.applyShared h vals c
  match c with
  | .deregister _ => s.seamSend (.command h c vals)
  | _ => if cmdLasts c then s else s.complete h .ok vals

/-- A shared-state command starts on this unit (R26, R58, R169). -/
def State.runShared (s : State) (h : Hdr) (c : Cmd) : State :=
  match s.checkShared c with
  | .error st => s.failShared h c st
  | .ok vals =>
    if !s.mirrored then s.finishShared h c vals
    else if s.lead then (if h.src = .twin then s.leadForTwin h c vals else s.leadCmd h c vals)
    else if h.src = .twin then s
    else s.sendToLead h c

/-- FOLLOW applies what LEAD has granted (R58, R169): its own deregister command, which LEAD carries back to it (R59), or a command of LEAD's, which it checks
where only it can and answers with CMD_DONE. -/
def State.followCmd (s : State) (f : GateCmd) (vals : List Nat) : State :=
  let h := { f.hdr with src := .twin }
  match s.shared.find? (fun x => x.sent && x.hdr.tag == h.tag && x.cmd == f.cmd) with
  | some x => ({ s with shared := s.shared.erase x }).applyShared x.hdr vals x.cmd
  | none =>
    match if cmdLocal f.cmd then s.checkShared (cmdChosen vals f.cmd) else .ok vals with
    | .error st => s.seamSend (.cmdDone h (cmdCode f.cmd) st vals)
    | .ok _ =>
      let s := s.applyShared h vals f.cmd
      if cmdLasts f.cmd then s else s.seamSend (.cmdDone h (cmdCode f.cmd) .ok [])

/-- CMD_FRAME_RECEIVE (R169): LEAD's gate arbitrates FOLLOW's command at rank 1; what LEAD has granted takes effect on FOLLOW. -/
def State.doCmdFrame (s : State) (h : SeamHdr) (f : MgmtFrame) (vals : List Nat) : State :=
  s.frameIn h true id fun s =>
    if s.lead then s.deliverFrame .twin f
    else if s.mirrored then s.followCmd f.cmd vals
    else s

def execCmdFrameReceive (h : SeamHdr) (f : MgmtFrame) (vals : List Nat) (s : State) : Res := s.core fun s => s.doCmdFrame h f vals

/-- The twin has done its part of a command that waited: FOLLOW's own takes effect here now; LEAD's takes effect if it had not yet, and
completes unless its own part lasts. -/
def State.twinDid (s : State) (x : Shared) (vals : List Nat) : State :=
  if x.sent then s.finishShared x.hdr x.cmd vals
  else
    let s := if cmdAtOnce x.cmd then s else s.applyShared x.hdr x.vals x.cmd
    if s.nand.secure.any (fun e => e.1 == x.hdr) then s else s.endShared x.hdr x.cmd x.vals

/-- The command that waits and that a CMD_DONE names: by its tag, its code and, where this unit granted it, its claim (R369; DESIGN CHOICE, log entry 158). -/
def Shared.named (x : Shared) (h : Hdr) (code : Nat) : Bool := x.hdr.tag == h.tag && cmdCode x.cmd == code && (x.sent || x.hdr.claim == h.claim)

/-- CMD_DONE_RECEIVE (R58, R61, R169): the drain of a closing region, or the end of a command. Only OK ends a drain; a close that FOLLOW refuses is undone. -/
def State.doCmdDone (s : State) (h : SeamHdr) (of_ : Hdr) (code : Nat) (st : Status) (vals : List Nat) : State :=
  s.frameIn h false id fun s =>
    if code = cmdCode (.deregister 0) ∧ s.awaitsDrain of_ vals then
      if st = .ok then s.twinDrained (vals.headD 0) else s.reopen (vals.headD 0) st
    else
      match s.shared.find? (fun x => x.named of_ code) with
      | some x =>
        let s := { s with shared := s.shared.erase x }
        if st = .ok then s.twinDid x vals else s.complete x.hdr st
      | none => s

def execCmdDoneReceive (h : SeamHdr) (of_ : Hdr) (code : Nat) (status : Status) (vals : List Nat) (s : State) : Res :=
  s.core fun s => s.doCmdDone h of_ code status vals

/-! ### The twin is gone -/

/-- A command that waited for the twin ends on this unit alone: what FOLLOW had sent on is checked again and takes effect here, what LEAD had
granted takes effect and completes (DESIGN CHOICE, log entry 99). -/
def State.settleOne (s : State) (x : Shared) : State := if x.sent then s.runShared x.hdr x.cmd else s.twinDid x x.vals

/-- In SOLO nothing waits for the twin: commands end, and regions whose drain is over are FREE (R61). -/
def State.settleShared (s : State) : State :=
  if s.mode ≠ .solo then s
  else
    let l := s.shared
    let s := l.foldl State.settleOne { s with shared := [] }
    (s.kept.rdt.map (·.1)).foldl State.freeRegion s

/-- A row of the pair: what it does, and what ends with it when the unit stands alone after it. -/
def State.pairRow (s : State) (f : State → State) : Res := s.core fun s => (f s).settleShared

def execSeamBeatReceive (link : Fin 2) (b : Beat) (s : State) : Res := s.pairRow fun s => s.doBeatReceive link.val b
def execTackBeatReceive (b : TackBeat) (s : State) : Res := s.pairRow fun s => s.doTackReceive b
def execSeamLinkUp (link : Fin 2) (s : State) : Res := s.pairRow fun s => s.doLinkUp link.val
def execSeamLinkDown (link : Fin 2) (s : State) : Res := s.pairRow fun s => s.doLinkDown link.val
def execYieldReceive (t : TackId) (s : State) : Res := s.pairRow fun s => s.doYield t
def execPairWaitExpire (s : State) : Res := s.pairRow fun s => s.doPairWait
def execWitnessGrant (s : State) : Res := s.pairRow fun s => s.doWitness
def execDepartReceive (n : Notice) (s : State) : Res := s.pairRow fun s => s.doDepart n
def execMackReceive (h : SeamHdr) (qp : Qpi) (psn status syn : Nat) (s : State) : Res := s.pairRow fun s => s.doMack h qp.val psn status syn

def execWitnessToken (h : Hdr) (t : WitToken) (s : State) : Res :=
  s.start h (.witnessToken t) fun s => (s.doWitnessToken h t).settleShared

/-! ### The rows of the shared-state commands -/

/-- A shared-state command's row: it starts in its turn. -/
def State.sharedRow (s : State) (h : Hdr) (c : Cmd) : Res := s.start h c fun s => s.runShared h c

def execCreateDomain (h : Hdr) (pd regionQuota qpQuota keySlot : Nat) (s : State) : Res :=
  s.sharedRow h (.createDomain pd regionQuota qpQuota keySlot)
def execDestroyDomain (h : Hdr) (pd : Nat) (s : State) : Res := s.sharedRow h (.destroyDomain pd)
def execCreateQp (h : Hdr) (qp : Qpi) (rc host : Bool) (cq : Option CqDef) (s : State) : Res := s.sharedRow h (.createQp qp rc host cq)
def execModifyQp (h : Hdr) (qp : Qpi) (dst : QpState) (a : QpAttrs) (s : State) : Res := s.sharedRow h (.modifyQp qp dst a)
def execDestroyQp (h : Hdr) (qp : Qpi) (s : State) : Res := s.sharedRow h (.destroyQp qp)
def execPostReceive (h : Hdr) (srq : Bool) (index : Nat) (wrId : BitVec 64) (key : BitVec 32) (offset len : Nat) (s : State) : Res :=
  s.sharedRow h (.postReceive srq index wrId key offset len)
def execCreateSrq (h : Hdr) (index pd : Nat) (cq : CqDef) (s : State) : Res := s.sharedRow h (.createSrq index pd cq)
def execRegister (h : Hdr) (a : RegArgs) (s : State) : Res := s.sharedRow h (.register a)
def execDeregister (h : Hdr) (key : BitVec 32) (s : State) : Res := s.sharedRow h (.deregister key)
def execRepair (h : Hdr) (key : BitVec 32) (s : State) : Res := s.sharedRow h (.repair key)
def execSync (h : Hdr) (key : BitVec 32) (s : State) : Res := s.sharedRow h (.sync key)
def execSetExtent (h : Hdr) (key : BitVec 32) (flag : Bool) (policy : Fin 4) (s : State) : Res := s.sharedRow h (.setExtent key flag policy)
def execDiscard (h : Hdr) (start count : Nat) (secure : Bool) (s : State) : Res := s.sharedRow h (.discard start count secure)
def execTableWrite (h : Hdr) (addr count : Nat) (shapeOk : Bool) (entries : List (BitVec 64)) (s : State) : Res :=
  s.sharedRow h (.tableWrite addr count shapeOk entries)
def execChannelCreate (h : Hdr) (a : ChanArgs) (s : State) : Res := s.sharedRow h (.channelCreate a)
def execChannelClose (h : Hdr) (chan : Nat) (s : State) : Res := s.sharedRow h (.channelClose chan)
def execAttachPublisher (h : Hdr) (chan : Nat) (qp : Qpi) (s : State) : Res := s.sharedRow h (.attachPublisher chan qp)
def execDetachPublisher (h : Hdr) (chan : Nat) (qp : Qpi) (s : State) : Res := s.sharedRow h (.detachPublisher chan qp)
def execAttachSubscriber (h : Hdr) (a : SubArgs) (s : State) : Res := s.sharedRow h (.attachSubscriber a)
def execResume (h : Hdr) (chan sub : Nat) (qp : Qpi) (s : State) : Res := s.sharedRow h (.resume chan sub qp)
def execRemove (h : Hdr) (chan sub : Nat) (s : State) : Res := s.sharedRow h (.remove chan sub)
/-- The unwrapping of a key pair is a dual computation: one that fails twice is a bad blob (R269). -/
def execKeySlot (h : Hdr) (slot : Nat) (b : Blob) (dual : Dual) (lane : Fin 64) (s : State) : Res := s.start h (.keySlot slot b) fun s =>
  if s.kept.domains.any (fun p => p.2.keySlot = slot) then s.runShared h (.keySlot slot b)
  else (s.dual dual lane.val).runShared h (.keySlot slot { b with tagOk := b.tagOk && dual != .retryDiffers })

end Sys2Proof.Machine
end

