-- ==== Sys2Proof/Machine/Dram.lean ====
section
/-! DEFINITION. DRAM controllers and the near cache (08): refresh and row protection (R200 to R204), drift (R209), reads and errors (R210 to
R213, R219, R220), training (R207, R208), the fills (R215, R217), scrub (R218), retirement (R221), maintenance (R224, R225). -/

namespace Sys2Proof.Machine

/-- The name of a bank of a channel: subchannel, logical rank, bank. -/
def bankKey (sub lrank bank : Nat) : Nat := sub * 512 + lrank * 32 + bank
def locKey (l : BurstLoc) : Nat := bankKey l.subch.val l.lrank.val l.bank.val

/-! ### Refresh (R199 to R201) -/

/-- All-bank refresh, outside the modes of same-bank refresh (R201). -/
def State.allBank (s : State) : Bool := match s.mode with | .solo | .paired | .resync | .restore => false | _ => true

/-- DRAM_REFRESH (R199, R201): a refresh falls due. While requests wait (`busy`) it is postponed, by at most 4 intervals: the fifth finds the first of them issued before all
else. With none waiting all that are due are issued. An all-bank refresh closes the open rows of the subchannel. Which bank a same-bank refresh takes the spec does not say: the
row of that choice is closed (free, log entry 127). -/
def State.doRefresh (s : State) (c sub : Nat) (busy : Bool) : State :=
  if s.dmcState c = dmcReady then
    let d := s.dram c
    let n := alGetD d.due sub 0
    if busy ∧ n < 4 then s.setDram c { d with due := alPut d.due sub (n + 1) }
    else
      let d := if busy then d else { d with due := alDel d.due sub }
      if s.allBank then s.setDram c { d with open_ := d.open_.filter (fun e => e.1 / 512 != sub) }
      else s.tickFree.setDram c { d with open_ := alDel d.open_ (sub * 512 + Config.choice s.free 512 % 512) }
  else s

def execDramRefresh (ch : Dmc) (subch : Fin 2) (busy : Bool) (s : State) : Res := s.core fun s => s.doRefresh ch.val subch.val busy

/-- DRAM_TEMP_READ (R201): the interval is halved at or above 85 °C. -/
def execDramTempRead (ch : Dmc) (temp : Int) (s : State) : Res :=
  s.core fun s => s.setDram ch.val { s.dram ch.val with hot := decide (85 ≤ temp) }

/-- BANK_IDLE_PRECHARGE (R200). -/
def execBankIdlePrecharge (ch : Dmc) (subch : Fin 2) (lrank : Fin 16) (bank : Fin 32) (s : State) : Res :=
  s.core fun s => s.setDram ch.val { s.dram ch.val with open_ := alDel (s.dram ch.val).open_ (bankKey subch.val lrank.val bank.val) }

/-! ### Row disturbance (R202 to R204) -/

/-- The modes in which a channel throttles, and a channel on which a helper runs (R204). -/
def State.throttles (s : State) (c : Nat) : Bool :=
  (s.dram c).run.isSome || (match s.mode with | .bringup | .restore | .resync => true | _ => false)

/-- The entry of lowest count of a bank's table. -/
def lowest (l : List (Nat × Nat)) : Option (Nat × Nat) := (least (l.map (fun p => (p.2, p.1)))).map (fun p => (p.2, p.1))

/-- An activate counts in the 16 row counters of its bank (R203). -/
def countRow (l : List (Nat × Nat)) (row : Nat) : List (Nat × Nat) :=
  match alGet l row with
  | some n => alPut l row (n + 1)
  | none =>
    if l.length < 16 then alPut l row 1
    else
      match lowest l with
      | some (r, n) => alPut (alDel l r) row (n + 1)
      | none => alPut l row 1

/-- A neighbour refresh of a row (R202): directed refresh management of the DIMM, or an activate and precharge of rows r - 2, r - 1, r + 1 and r + 2; either finds and leaves the
bank without an open row. Those activates neither draw nor count (DEDUCED, log entry 175). -/
def State.refreshNeighbours (s : State) (c k : Nat) : State :=
  (s.setDram c { s.dram c with open_ := alDel (s.dram c).open_ k }).wrap (F.DMC_RH_STAT_nrefs c)

/-- An activate of a row is held (R203): its counter stands at the threshold of its throttled bank. -/
def State.rowHeld (s : State) (c : Nat) (loc : BurstLoc) : Bool :=
  s.throttles c && decide (s.fld (F.DMC_RH_CFG_thr_acts c) ≤ alGetD (alGetD (s.dram c).counters (locKey loc) []) loc.row.toNat 0)

/-- DRAM_ACTIVATE (R200, R202, R203): a draw whose low k bits are 0 queues a neighbour refresh, in every mode in which the channel is out of
self-refresh. A request that would activate a row at the threshold is held, and counted. -/
def State.doActivate (s : State) (c : Nat) (loc : BurstLoc) (draw : Nat) : State :=
  if s.dmcState c = dmcSelfRefresh ∨ s.dmcState c = dmcOff then s
  else
    let d := s.dram c
    if s.rowHeld c loc then (s.setDram c { d with held := d.held ++ [(loc, draw)] }).sat (F.DMC_RH_STAT_holds c)
    else
      let k := locKey loc
      let row := loc.row.toNat
      let d := if s.fld (F.DMC_PAGE_CFG_idle_clk c) = 0 then { d with open_ := alDel d.open_ k } else { d with open_ := alPut d.open_ k row }
      let d := if s.throttles c then { d with counters := alPut d.counters k (countRow (alGetD d.counters k []) row) } else d
      let s := s.setDram c d
      if s.bit (F.DMC_RH_CFG_pnr_en c) ∧ draw % 2 ^ s.fld (F.DMC_RH_CFG_k c) = 0 then s.refreshNeighbours c k else s

/-- Held activates that `p` names are released, in the order they came. -/
def State.releaseHeld (s : State) (c : Nat) (p : BurstLoc → Bool) : State :=
  let d := s.dram c
  ((d.held.filter (fun e => p e.1)).foldl (fun s e => s.doActivate c e.1 e.2)) (s.setDram c { d with held := d.held.filter (fun e => !p e.1) })

def execDramActivate (ch : Dmc) (loc : BurstLoc) (draw : Nat) (s : State) : Res := s.core fun s => s.doActivate ch.val loc draw

/-- ROW_THROTTLE_HOLD (R203): the neighbours are refreshed, the counter drops to the lowest of the other 15, and the held requests of the row are released; on a channel that
throttles no more they are at once. -/
def State.doRowHold (s : State) (c : Nat) (loc : BurstLoc) : State :=
  let d := s.dram c
  let k := locKey loc
  let row := loc.row.toNat
  let l := alGetD d.counters k []
  let s := if s.rowHeld c loc then
      let rest := alDel l row
      let low := if rest.length < 15 then 0 else (lowest rest).elim 0 (·.2)
      (s.setDram c { d with counters := alPut d.counters k (alPut l row low) }).refreshNeighbours c k
    else s
  s.releaseHeld c (fun x => locKey x == k && x.row == loc.row)

def execRowThrottleHold (ch : Dmc) (loc : BurstLoc) (s : State) : Res := s.core fun s => s.doRowHold ch.val loc

/-- ROW_COUNTER_CLEAR (R203): no counter stands at the threshold any more. -/
def execRowCounterClear (ch : Dmc) (s : State) : Res :=
  s.core fun s => (s.setDram ch.val { s.dram ch.val with counters := [] }).releaseHeld ch.val (fun _ => true)

/-! ### Drift and calibration (R209) -/

/-- One device's drift since training, in 1/64 UI: beyond 1/8 UI DMC_DRIFT is raised, once. -/
def State.driftOf (s : State) (c : Nat) (x : Fin 2 × Fin 10 × Int) : State :=
  let k := x.1.val * 10 + x.2.1.val
  let d := s.dram c
  let was := decide (8 < (alGetD d.drift k 0).natAbs)
  let s := s.setDram c { d with drift := alPut d.drift k x.2.2 }
  if 8 < x.2.2.natAbs ∧ !was then s.raise (Ev.DMC_DRIFT (Fin.ofNat 16 c)) else s

/-- DQS_DRIFT_CHECK (R209). -/
def execDqsDriftCheck (ch : Dmc) (drifts : List (Fin 2 × Fin 10 × Int)) (s : State) : Res :=
  s.core fun s => drifts.foldl (fun s x => s.driftOf ch.val x) s

/-- ZQ_CALIBRATE (R209): it changes nothing that the block shows. -/
def execZqCalibrate (_ch : Dmc) (s : State) : Res := s.core id

/-! ### Errors (R211 to R213, R219, R220) -/

/-- The marked device of a subchannel (R212). -/
def State.markOf (s : State) (c sub : Nat) : Option Nat :=
  let v := s.fld (if sub = 0 then F.DMC_STATUS_mark0 c else F.DMC_STATUS_mark1 c)
  if v < 10 then some v else none

/-- The slot that a logical rank of a channel lies in: ranks count through slot 0 and then slot 1 (R198). -/
def State.slotOf (s : State) (c lrank : Nat) : Nat := (alGet s.pops c).elim 0 (fun p => lrank / Nat.max 1 p.lranks)

/-- A device reaches the threshold of errors in 24 h (R212): it is marked, where its subchannel holds no mark. The mark is kept with the
retirement records, under the serial number of the DIMM whose error reached it (DEDUCED, log entry 148). With a mark standing no device is located any more
(R211), so a second one reaches the threshold as it is lowered (log entry 176). -/
def State.reviewMark (s : State) (c slot sub device : Nat) : State :=
  let ev : Fin 16 := Fin.ofNat 16 c
  let n := ((s.dram c).errors.filter (fun e => e.1 = sub * 10 + device)).length
  if n < s.fld (F.DMC_ECC_CFG_mark_thr c) then s
  else
    match s.markOf c sub with
    | some m => if m = device then s else s.raise (Ev.DMC_MARK_SECOND ev) (sub * 10 + device)
    | none =>
      let s := s.setFld (if sub = 0 then F.DMC_STATUS_mark0 c else F.DMC_STATUS_mark1 c) device
      let s := { s with nor := { s.nor with appends := s.nor.appends ++ [NorAppend.mark (alGetD s.serials (c * 2 + slot) 0 * 2 + sub) device] } }
      s.raise (Ev.DMC_MARK ev) (sub * 10 + device)

/-- DMC_ECC_CFG.mark_thr is written: each device with errors in the last 24 h that stands at the threshold or above has reached it (DEDUCED, log entry 176). The mark goes to the lower
slot's DIMM. -/
def State.reviewMarks (s : State) (c : Nat) : State :=
  let d := { s.dram c with errors := (s.dram c).errors.filter (fun e => decide (s.mrt < e.2 + 86400000000000)) }
  ((d.errors.map (·.1)).foldl setAdd []).foldl (fun s k => s.reviewMark c 0 (k / 10) (k % 10)) (s.setDram c d)

/-- A correctable error (R212, R213). -/
def State.correctable (s : State) (c : Nat) (loc : BurstLoc) (device : Nat) : State :=
  let k := loc.subch.val * 10 + device
  let d := s.dram c
  let s := s.setDram c { d with errors := d.errors.filter (fun e => decide (s.mrt < e.2 + 86400000000000)) ++ [(k, s.mrt)] }
  let s := (s.sat (F.DMC_ECC_CNT_ce c)).logEcc c loc false device
  (s.raise (Ev.DMC_CE (Fin.ofNat 16 c)) k).reviewMark c (s.slotOf c loc.lrank.val) loc.subch.val device

/-- All lines of a tile are poisoned. -/
def State.poisonTile (s : State) (t : Nat) : State := (List.range 256).foldl (fun s l => s.poisonLine (t * 256 + l)) s

/-- A migration's copy is abandoned, and the move is queued again (R220). -/
def State.requeue (s : State) (t : Nat) : State :=
  match s.tlr.running.find? (fun (m : Mig) => m.tile == t) with
  | none => s
  | some m => { s with tlr := { s.tlr with running := s.tlr.running.erase m, queue := s.tlr.queue ++ [{ m with durable := false }] } }

/-- A DIRTY line is lost with its address (R220): its bytes are those that DRAM held before, which the model does not keep. -/
def State.loseLine (s : State) (line : Nat) : State :=
  let n := s.free
  let data := (List.range 256).map (fun i => Config.older n (line * 256 + i))
  let s := s.tickFree
  { s with kept := { s.kept with mem := memWrites s.kept.mem (line * 256) data } }

/-- The tiles whose home entries lie in a line of the home blocks (R113): 32 entries of 8 bytes of the group that holds the block. -/
def State.entriesIn (s : State) (line : Nat) : List Nat :=
  let a := line * 256
  if blocksBase ≤ a ∧ a < blocksEnd then
    match s.kept.homes.find? (fun e => e.2 == (a - blocksBase) / 8192) with
    | some (g, _) => ((List.range 32).map (fun i => g * 1024 + (a - blocksBase) % 8192 / 8 + i)).filter (fun t => (s.tile t).entered)
    | none => []
  else []

/-- What an uncorrectable error does where it is met (R220): `line` is the line of the burst, none where its frame holds nothing. -/
def State.ueAt (s : State) (line : Option Nat) : Reader → State
  | .coreFetch p => s.put (.coreTrap p.val)
  | .coreData p => s.put (.busError p.val)
  | .walker | .engineRead | .partialMerge | .saveEngine => line.elim s s.poisonLine
  | .qpContext n => s.enterError n.val 0x30 ((s.qpAt n.val).elim 0 (·.epsn))
  | .homeTable => (line.elim [] s.entriesIn).foldl State.poisonTile s
  | .migration t => (line.elim s s.poisonLine).requeue t
  | .scrubber => line.elim s (fun l => if s.cached l then (if s.lineDirty l then s else s.writeBack l) else s.poisonLine l)
  | .dirtyLine l => s.poisonLine l
  | .cleanLine l => s.dropLine l
  | .cacheTag l =>
    let lost := s.lineDirty l
    let s := ((s.dropLine l).setBit F.NCACHE_STATUS_tag_lost true).raise Ev.NCACHE_TAG_LOST
    if lost then s.loseLine l else s

/-- The error is met in an array of the near cache, and not in a burst. -/
def inArray : Reader → Bool
  | .dirtyLine _ | .cleanLine _ | .cacheTag _ => true
  | _ => false

/-- A burst that has been read (R210, R211, R213, R220). A poisoned line is reported as poisoned and is no new error (R219). -/
def State.readBurst (s : State) (c : Nat) (loc : BurstLoc) (beats : Beats) (who : Reader) : State :=
  match decodeBurst (s.markOf c loc.subch.val) (burstWords beats) with
  | .clean | .rebuilt => s
  | .corrected d => s.correctable c loc d
  | .bad => if (s.lineAt c loc).any (fun l => s.kept.poison.contains l) then s else (s.uncorrectable c loc).ueAt (s.lineAt c loc) who

/-- DRAM_READ_COMPLETE (R204, R211, R213, R220, R359): in SAVE a channel reads for the save engine alone. -/
def State.doReadComplete (s : State) (c : Nat) (loc : BurstLoc) (beats : Beats) (who : Reader) (ns : Nat) : State :=
  if inArray who then s.ueAt none who
  else if s.dmcState c ≠ dmcReady ∨ (s.mode = .save ∧ who ≠ .saveEngine) then s
  else (s.sample 6 (some c) ns).readBurst c loc beats who

def execDramReadComplete (ch : Dmc) (loc : BurstLoc) (beats : Beats) (who : Reader) (ns : Nat) (s : State) : Res :=
  s.core fun s => s.doReadComplete ch.val loc beats who ns

/-! ### Training (R207, R208) -/

/-- A DIMM meets R196. -/
def dimmOk (d : Dimm) : Bool :=
  d.rdimm && d.x4 && (d.rate == 4800 || d.rate == 5200 || d.rate == 5600 || d.rate == 6000 || d.rate == 6400) &&
  (d.height == 1 || d.height == 2 || d.height == 4) && (d.ranks == 1 || d.ranks == 2) && decide (d.ranks * d.height ≤ 8) &&
  decide (2 ^ 34 ≤ d.capacity) && decide (d.capacity ≤ 2 ^ 38)

/-- Two DIMMs of a channel are identical in what R197 names. -/
def sameDimm (a b : Dimm) : Bool := a.capacity == b.capacity && a.ranks == b.ranks && a.height == b.height && a.rate == b.rate

/-- The population of a channel meets R196 and R197. -/
def popOk (p : DimmPop) : Bool :=
  match p.slot0, p.slot1 with
  | some a, some b => dimmOk a && dimmOk b && sameDimm a b
  | some a, none => dimmOk a
  | none, _ => false

/-- The geometry of a channel of identical DIMMs (R196, R198): logical ranks, banks, and the frames of a bank, which the capacity gives. -/
def popOf (p : DimmPop) (d : Dimm) : Pop :=
  let lranks := d.ranks * d.height
  ⟨if p.slot1.isSome then 2 else 1, lranks, d.banks, d.capacity / 65536 / Nat.max 1 (lranks * d.banks)⟩

/-- A rated rate as DMC_STATUS.rate codes it. -/
def rateCode (mts : Nat) : Nat := if mts < 5200 then 0 else if mts < 5600 then 1 else if mts < 6000 then 2 else if mts < 6400 then 3 else 4

/-- The highest rate for a channel's loading (R399), coded as DMC_STATUS.rate: DIMMs, trace length and connector spacing in mm. -/
def loadingRate (dimms trace spacing : Nat) : Nat :=
  if dimms = 1 ∧ trace ≤ 150 then 4
  else if dimms = 2 ∧ trace ≤ 125 ∧ spacing ≤ 10 then 4
  else if dimms = 2 ∧ trace ≤ 175 then 2
  else 0

/-- The rate a channel runs at (R197, R399): the lowest of its DIMMs' rated rate, the rate the image sets, and the limit for its loading; with
no loading entry 4,800 MT/s. An image that sets no rate leaves the other two (DEDUCED, log entry 144). -/
def State.channelRate (s : State) (c : Nat) (p : DimmPop) (d : Dimm) : Nat :=
  let rated := rateCode d.rate
  match ((s.nor.copy (s.bit F.NORC_BOOT_copy)).map (·.ddr)).getD [] |>.find? (fun e => e.chan.val == c) with
  | some e =>
    Nat.min (Nat.min rated (e.rate.elim rated (·.val))) (loadingRate (if p.slot1.isSome then 2 else 1) e.trace e.spacing)
  | none => 0

/-- The marks kept for the DIMMs of a channel (R212): that of the lower slot where both have one for a subchannel. -/
def State.keptMark (s : State) (p : DimmPop) (sub : Nat) : Nat :=
  (((p.slot0.toList ++ p.slot1.toList).filterMap (fun d => alGet s.dmarks (d.serial * 2 + sub))).head?).getD 15

/-- A channel's DIMMs are in use: geometry, serial numbers, rate, marks; ECC and refresh are on. -/
def State.setReady (s : State) (c : Nat) (p : DimmPop) (d : Dimm) : State :=
  let s := { s with pops := alPut s.pops c (popOf p d) }
  let s := { s with serials := p.slot1.elim (alPut s.serials (c * 2) d.serial) (fun e => alPut (alPut s.serials (c * 2) d.serial) (c * 2 + 1) e.serial) }
  let s := (s.setFld (F.DMC_STATUS_state c) dmcReady).setFld (F.DMC_STATUS_rate c) (s.channelRate c p d)
  let s := (s.setBit (F.DMC_STATUS_dimm0 c) true).setBit (F.DMC_STATUS_dimm1 c) p.slot1.isSome
  let s := (s.setFld (F.DMC_STATUS_mark0 c) (s.keptMark p 0)).setFld (F.DMC_STATUS_mark1 c) (s.keptMark p 1)
  s.setDram c { directed := d.directedRm, spd := some p }

/-- A channel is OFF: its DIMMs are not used (R197). -/
def State.chanOff (s : State) (c : Nat) : State :=
  let s := { s with pops := alDel s.pops c, serials := alDel (alDel s.serials (c * 2)) (c * 2 + 1) }
  ((s.setFld (F.DMC_STATUS_state c) dmcOff).setBit (F.DMC_STATUS_dimm0 c) false).setBit (F.DMC_STATUS_dimm1 c) false

/-- Set READY (R196, R197, R207, R212): the channel goes READY with the population that the SPD reads found, the marks kept for its DIMMs applied; one that breaks a rule of R197 is
left OFF. -/
def State.setReadyOp (s : State) (c : Nat) : State :=
  let p := (s.dram c).spd.getD ⟨none, none⟩
  if s.mode ≠ .bringup ∨ s.boot.filled then s
  else if p.slot0.isNone ∧ p.slot1.isNone then s.chanOff c
  else if !popOk p then (s.chanOff c).raise (Ev.DMC_POP_BAD (Fin.ofNat 16 c))
  else p.slot0.elim s (s.setReady c p)

/-- A write of DMC_TRN_CTRL (R208): its fields take their values, and go starts a helper run of op 0 to 3 or, with op 4, sets the channel READY; an op of 5 to 7 is ignored. A
channel in training is no longer OFF. -/
def State.writeTrn (s : State) (c : Nat) (v : Word) : State :=
  let go := v.getLsbD 31
  let op := bitsOf v 29 27
  if c ≥ s.part.dmcs ∨ (go ∧ s.bit (F.DMC_TRN_CTRL_busy c)) then s
  else
    let s := ((s.setFld (F.DMC_TRN_CTRL_op c) op).setFld (F.DMC_TRN_CTRL_chain c) (bitsOf v 26 24)).setFld (F.DMC_TRN_CTRL_lrank c) (bitsOf v 23 20)
    let s := (s.setFld (F.DMC_TRN_CTRL_subch c) (bitsOf v 19 19)).setFld (F.DMC_TRN_CTRL_count c) (Nat.max 1 (bitsOf v 15 8))
    if go ∧ op < 4 then
      let s := if s.dmcState c = dmcOff then s.setFld (F.DMC_STATUS_state c) dmcTraining else s
      (s.setDram c { s.dram c with run := some op }).setBit (F.DMC_TRN_CTRL_busy c) true
    else if go ∧ op = 4 then s.setReadyOp c
    else s

/-- The register that the helpers of a channel are started with. -/
def trnOff (c : Nat) : Nat := (F.DMC_TRN_CTRL_go c).off

/-- TRN_WRITE_READ_COMPARE, TRN_READ_COMPARE, TRN_SWEEP, TRN_RCD_LOOPBACK (R208). -/
def execTrnWriteReadCompare (ch : Dmc) (value : Word) (s : State) : Res := s.post (trnOff ch.val) value fun s => s.writeTrn ch.val value
def execTrnReadCompare (ch : Dmc) (value : Word) (s : State) : Res := s.post (trnOff ch.val) value fun s => s.writeTrn ch.val value
def execTrnSweep (ch : Dmc) (value : Word) (s : State) : Res := s.post (trnOff ch.val) value fun s => s.writeTrn ch.val value
def execTrnRcdLoopback (ch : Dmc) (value : Word) (s : State) : Res := s.post (trnOff ch.val) value fun s => s.writeTrn ch.val value

/-- TRN_SET_READY (R207): firmware has read the SPDs of the channel's slots, and writes op 4. -/
def State.doSetReady (s : State) (c : Nat) (v : Word) (p : DimmPop) : State :=
  (if c < s.part.dmcs then s.setDram c { s.dram c with spd := some p } else s).writeTrn c v

def execTrnSetReady (ch : Dmc) (value : Word) (pop : DimmPop) (s : State) : Res :=
  s.post (trnOff ch.val) value fun s => s.doSetReady ch.val value pop

/-- The codes of a sweep (R208): from start to stop by step. -/
def State.sweepCodes (s : State) (c : Nat) : List Nat :=
  let step := Nat.max 1 (s.fld (F.DMC_TRN_SWEEP_step c))
  ((List.range 1024).map (fun i => s.fld (F.DMC_TRN_SWEEP_start c) + i * step)).filter (fun x => decide (x ≤ s.fld (F.DMC_TRN_SWEEP_stop c)))

/-- The results of one lane: failing bursts at each point, of count × 16 run; of a sweep the first and the last code that passed, and where none did the register's reset values
(DEDUCED, log entry 177). -/
def State.laneDone (s : State) (c op : Nat) (x : List Nat × Nat) : State :=
  let n := s.fld (F.DMC_TRN_CTRL_count c) * 16
  let codes := if op = 2 then s.sweepCodes c else [0]
  let points := codes.zipIdx.map (fun y => (y.1, Nat.min n (x.1.getD y.2 0)))
  let pass := (points.filter (fun y => y.2 == 0)).map (·.1)
  let s := s.setFld (F.DMC_TRN_RESn_fails c x.2) (Nat.min 4095 (points.foldl (fun n y => n + y.2) 0))
  if op = 2 then (s.setFld (F.DMC_TRN_RESn_first c x.2) (pass.headD 1023)).setFld (F.DMC_TRN_RESn_last c x.2) (pass.getLastD 0) else s

/-- TRN_RUN_DONE (R208): `lanes` says of each lane how many bursts failed at each point of the run. -/
def State.doRunDone (s : State) (c : Nat) (lanes : List (List Nat)) : State :=
  match (s.dram c).run with
  | none => s
  | some op =>
    let s := ((List.range 40).map (fun i => (lanes.getD i [], i))).foldl (fun s x => s.laneDone c op x) s
    (s.setDram c { s.dram c with run := none }).setBit (F.DMC_TRN_CTRL_busy c) false

def execTrnRunDone (ch : Dmc) (lanes : List (List Nat)) (s : State) : Res := s.core fun s => s.doRunDone ch.val lanes

/-! ### Fills (R215 to R217) -/

/-- A frame is retired, by itself or with its bank (R221). -/
def State.isRetired (s : State) (f : Nat) : Bool :=
  match frameAt s.pops f with
  | some (c, b, _) => s.retFrames.contains f || s.retBanks.contains (c, b)
  | none => false

/-- The next frames of a channel from `f` on that are not retired. -/
def State.nextFrames (s : State) : Nat → Nat → Nat → List Nat
  | 0, _, _ => []
  | fuel + 1, n, f =>
    if n = 0 then []
    else if s.isRetired f then s.nextFrames fuel n (f + 1)
    else f :: s.nextFrames fuel (n - 1) (f + 1)

/-- The frames that the carve-out takes in place of retired ones of a channel (R215), by the frame they stand for. -/
def State.skipRetired (s : State) (c : Nat) (p : Pop) : List (Nat × Nat) :=
  let base := frameBase s.pops c
  let l := ((List.range (s.carveOn c)).map (base + ·)).filter s.isRetired
  l.zip (s.nextFrames (p.frames - s.carveOn c) l.length (base + s.carveOn c))

/-- The first frame of a bank of a fitted DIMM that a retirement record names, with its channel and bank of the channel; none for a DIMM that is
no longer fitted. -/
def State.recPlace (s : State) (r : RetRec) : Option (Nat × Nat × Nat) :=
  match s.serials.find? (fun e => e.2 == r.serial) with
  | none => none
  | some (k, _) =>
    match alGet s.pops (k / 2) with
    | none => none
    | some p =>
      let b := (k % 2 * p.lranks + r.lrank) * p.banks + r.bank
      if r.lrank < p.lranks ∧ r.bank < p.banks then some (k / 2, b, frameBase s.pops (k / 2) + b * p.perBank) else none

/-- The retirement records take effect, matched by the serial numbers of the DIMMs that are fitted (R221). -/
def State.applyRecs (s : State) : State :=
  { s with
    retFrames := s.retRecs.filterMap (fun r => match r.row, s.recPlace r with
      | some i, some (_, _, f) => some (f + i)
      | _, _ => none)
    retBanks := s.retRecs.filterMap (fun r => match r.row, s.recPlace r with
      | none, some (c, b, _) => some (c, b)
      | _, _ => none) }

/-- Channels whose training has begun and that are not READY when the carve-out is placed: firmware could not train them, and they are left OFF
(R207; DEDUCED, log entry 128). -/
def State.failTraining (s : State) : State :=
  ((List.range s.part.dmcs).filter (fun c => s.dmcState c == dmcTraining)).foldl (fun s c =>
    (s.setFld (F.DMC_STATUS_state c) dmcOff).raise (Ev.DMC_TRAIN_FAIL (Fin.ofNat 16 c))) s

/-- CARVEOUT_FILL (R197, R207, R215, R221): retirement records take effect, and the carve-out reads as zeros from now on. With fewer than two channels, or less than 32 GiB, there is
nothing to place it on. -/
def State.doCarveFill (s : State) : State :=
  if s.mode = .bringup ∧ s.boot.ran ∧ !s.boot.filled then
    let s := s.applyRecs.failTraining
    if 2 ≤ s.pops.length ∧ 524288 ≤ s.framesFound then
      { s with
        boot := { s.boot with filled := true }, moved := s.pops.flatMap (fun p => s.skipRetired p.1 p.2)
        kept := { s.kept with mem := s.kept.mem.filter (fun c => !(decide (carveBase ≤ c.1) && decide (c.1 < carveEnd))) } }
    else s
  else s

/-- The first clear line of an entry that is not in the near cache. -/
def State.clearLineOf (s : State) (t : Nat) : Option Nat :=
  match alGet s.kept.freshTab t with
  | some bits => allLines.find? (fun l => !bits.contains l && !s.cached (t * 256 + l))
  | none => none

/-- The modes in which the fill engine writes to DRAM: those in which it is active (R204). -/
def State.fills (s : State) : Bool := match s.mode with | .restore | .solo | .paired | .resync => true | _ => false

/-- FILL_LINE (R217): the oldest entry first; an entry whose bits are all set is freed. -/
def State.doFillLine (s : State) : State :=
  if !s.fills then s
  else
    match s.kept.freshAge.find? (fun t => (s.clearLineOf t).isSome) with
    | none => s
    | some t => (s.clearLineOf t).elim s (fun l => s.setValid t l)

def execFillLine (s : State) : Res := s.core fun s => s.doFillLine.afterFree

/-! ### Scrub (R204, R218) -/

/-- The modes of patrol scrub (R204). -/
def State.scrubs (s : State) : Bool := match s.mode with | .restore | .solo | .paired | .resync => true | _ => false

/-- The lines of a DRAM-homed tile that scrub reads: in a fresh frame only those whose valid bit is set. -/
def State.scrubLines (s : State) (t : Nat) : List Nat := (alGet s.kept.freshTab t).getD allLines

/-- Scrub reads the line: of the carve-out, or of a DRAM-homed frame. -/
def State.scrubbed (s : State) (line : Nat) : Bool :=
  (decide (carveBase ≤ line * 256) && decide (line * 256 < carveEnd)) ||
  ((s.tile (line / 256)).inDram && (s.scrubLines (line / 256)).contains (line % 256))

/-- A frame of the channel that scrub reads: of the carve-out, or DRAM-homed with a line that it reads, and not retired (R218). -/
def State.scrubFrames (s : State) (c : Nat) : List Nat :=
  let carve := ((List.range (s.carveOn c)).map (frameBase s.pops c + ·)).filter (fun f => (alGet s.moved f).isNone)
  let homed := (s.kept.tiles.filter (fun p => p.2.inDram && !(s.scrubLines p.1).isEmpty)).map (fun p => p.2.frame)
  (carve ++ s.moved.map (·.2) ++ homed).filter (fun f => (frameAt s.pops f).any (fun x => x.1 == c) && !s.isRetired f)

/-- The last line of a channel's pass, in ascending order of frames. -/
def State.lastScrub (s : State) (c : Nat) : Option Nat :=
  let top := (s.scrubFrames c).foldl Nat.max 0
  (s.lineIn top 0).map (fun l => l + (if carveBase ≤ l * 256 then 255 else (s.scrubLines (l / 256)).foldl Nat.max 0))

/-- SCRUB_READ (R218): a line in the near cache is skipped, and so are free frames, retired frames and lines whose valid bit is clear. -/
def State.doScrub (s : State) (c : Nat) (loc : BurstLoc) (beats : Beats) : State :=
  match s.lineAt c loc with
  | none => s
  | some line =>
    if s.bit (F.DMC_SCRUB_CFG_en c) && s.scrubs && s.dmcState c == dmcReady && s.scrubbed line && !(s.burstFrame c loc).any s.isRetired then
      let s := if s.cached line then s else s.readBurst c loc beats .scrubber
      if s.lastScrub c = some line then s.wrap (F.DMC_SCRUB_STAT_passes c) else s
    else s

def execScrubRead (ch : Dmc) (loc : BurstLoc) (beats : Beats) (s : State) : Res := s.core fun s => s.doScrub ch.val loc beats

/-! ### Retirement (R221) -/

/-- A tenant tile leaves its frame as class-1 work (R131, R221); a move of class 5 that waits for it is raised. -/
def State.evacuate (s : State) (t : Nat) : State :=
  let up := fun (m : Mig) => if m.tile == t && m.within && m.cls != 1 then { m with cls := 1 } else m
  if (s.tlr.queue ++ s.tlr.running).any (fun (m : Mig) => m.tile == t && m.within) then
    { s with tlr := { s.tlr with queue := s.tlr.queue.map up, running := s.tlr.running.map up } }
  else { s with tlr := { s.tlr with queue := s.tlr.queue ++ [⟨t, none, 1, true, 0, 0, false, none, 0, true⟩] } }

/-- The carve-out's frames among `gone` move to other frames (R221). -/
def State.moveCarve (s : State) (gone : List Nat) : State :=
  (gone.filter (fun f => (s.carveIn f).isSome)).foldl (fun s f =>
    let from_ := ((s.moved.find? (fun e => e.2 == f)).map (·.1)).getD f
    match s.chooseFrame with
    | some g => { s with moved := alPut s.moved from_ g }
    | none => s) s

/-- A move that fills one of the frames is abandoned, and queued again for another (R130, R221). -/
def State.refill (s : State) (gone : List Nat) : State :=
  (s.tlr.running.filter (fun m => m.toDram && gone.contains m.frame)).foldl (fun s m => s.requeue m.tile) s

/-- Frames stop being chosen; what they hold moves away; the command ends when its record is programmed. A repeat of a retirement does the same once more (DESIGN CHOICE, log entry
161). -/
def State.retire (s : State) (c : Nat) (gone : List Nat) (fresh : List Nat) (a : NorAppend) : State :=
  let s := s.moveCarve (fresh)
  let ts := (s.kept.tiles.filter (fun p => p.2.inDram && gone.contains p.2.frame)).map (·.1)
  let s := (ts.foldl State.evacuate s).refill gone
  ({ s with nor := { s.nor with appends := s.nor.appends ++ [a] } }).raise (Ev.DMC_RETIRE (Fin.ofNat 16 c))

/-- Records of frames, or of banks, of DIMMs that are not fitted: they count toward the limits of R221. -/
def State.strayRecs (s : State) (frame : Bool) : Nat := (s.retRecs.filter (fun r => r.row.isSome == frame && (s.recPlace r).isNone)).length

/-- RETIRE_FRAME (R221). -/
def State.doRetireFrame (s : State) (h : Hdr) (f : Nat) : State :=
  match frameAt s.pops f with
  | none => s.complete h .invalid
  | some (c, _, _) =>
    if s.retFrames.contains f then s.retire c [f] [] (.frame h f)
    else if 4096 ≤ s.retFrames.length + s.strayRecs true then s.complete h .capacity
    else
      let was := s.isRetired f
      ({ s with retFrames := s.retFrames ++ [f] }).retire c [f] (if was then [] else [f]) (.frame h f)

def execRetireFrame (h : Hdr) (frame : Nat) (s : State) : Res := s.start h (.retireFrame frame) fun s => s.doRetireFrame h frame

/-- RETIRE_BANK (R221). -/
def State.doRetireBank (s : State) (h : Hdr) (c slot lrank bank : Nat) : State :=
  match alGet s.pops c with
  | none => s.complete h .invalid
  | some p =>
    let b := (slot * p.lranks + lrank) * p.banks + bank
    if p.slots ≤ slot ∨ p.lranks ≤ lrank ∨ p.banks ≤ bank then s.complete h .invalid
    else
      let fs := (List.range p.perBank).map (fun i => frameBase s.pops c + b * p.perBank + i)
      if s.retBanks.contains (c, b) then s.retire c fs [] (.bank h c b)
      else if 64 ≤ s.retBanks.length + s.strayRecs false then s.complete h .capacity
      else
        let fresh := fs.filter (fun f => !s.retFrames.contains f)
        ({ s with retBanks := s.retBanks ++ [(c, b)] }).retire c fs fresh (.bank h c b)

def execRetireBank (h : Hdr) (ch : Dmc) (slot lrank bank : Nat) (s : State) : Res :=
  s.start h (.retireBank ch slot lrank bank) fun s => s.doRetireBank h ch.val slot lrank bank

/-! ### Maintenance of the near cache (R224, R225) -/

/-- A line is cleaned and, unless it is held, invalidated. -/
def State.cleanDrop (s : State) (line : Nat) : State :=
  let s := s.cleanLine line
  let held := (((s.cset (setOf line)).wayOf line).any (fun w => w.2.held)) || s.nc.side.any (fun e => e.1 == line && e.2)
  if held then s else s.dropLine line

/-- The lines in scope of an operation that are valid: an address range, one set and way, or the whole cache. -/
def State.maintScope (s : State) (scope way set : Nat) : List Nat :=
  let all := s.nc.sets.flatMap (fun p => p.2.ways.map (fun w => (p.1, w.1, w.2.line)))
  let first := (s.fld F.NCACHE_MAINT_ADDR_LO_addr_lo * 256 + s.fld F.NCACHE_MAINT_ADDR_HI_addr_hi * 2 ^ 32) / 256
  let n := s.fld F.NCACHE_MAINT_LEN_lines
  let inRange := fun (l : Nat) => decide (first ≤ l) && decide (l < first + n)
  match scope with
  | 0 => ((all.map (·.2.2)) ++ s.nc.side.map (·.1)).filter inRange
  | 1 => (all.filter (fun x => x.1 == set && x.2.1 == way)).map (·.2.2)
  | _ => (all.map (·.2.2)) ++ s.nc.side.map (·.1)

/-- A write of NCACHE_MAINT_CTRL (R225): its fields take their values; a go while an operation runs, or with op 0 or 3, starts nothing. -/
def State.writeMaint (s : State) (v : Word) : State :=
  let op := bitsOf v 30 29
  let scope := Nat.min 2 (bitsOf v 28 27)
  let s := ((s.setFld F.NCACHE_MAINT_CTRL_op op).setFld F.NCACHE_MAINT_CTRL_scope scope).setFld F.NCACHE_MAINT_CTRL_way (bitsOf v 19 16)
  let s := s.setFld F.NCACHE_MAINT_CTRL_set (bitsOf v 15 0)
  if !v.getLsbD 31 ∨ s.bit F.NCACHE_STATUS_maint_busy ∨ op = 0 ∨ op = 3 then s
  else
    let l := s.maintScope scope (bitsOf v 19 16) (bitsOf v 15 0)
    let s := s.setBit F.NCACHE_STATUS_maint_busy true
    l.foldl (fun s x => if op = 1 then s.cleanLine x else s.cleanDrop x) s

/-- MAINT_CLEAN, MAINT_CLEAN_INVALIDATE (R225). -/
def execMaintClean (value : Word) (s : State) : Res := s.post F.NCACHE_MAINT_CTRL_go.off value fun s => s.writeMaint value
def execMaintCleanInvalidate (value : Word) (s : State) : Res := s.post F.NCACHE_MAINT_CTRL_go.off value fun s => s.writeMaint value

/-- NCACHE_MAINT_DONE (R225), with the lanes on which a write-back failed its check (R269). -/
def State.doMaintDone (s : State) (misses : List (Fin 64)) : State :=
  if s.bit F.NCACHE_STATUS_maint_busy then
    let s := s.retryLanes misses
    ({ ((s.setBit F.NCACHE_STATUS_maint_busy false).setBit F.NCACHE_STATUS_maint_done true).raise Ev.NCACHE_MAINT_DONE with nc := { s.nc with freed := false } }).retryAll
  else s

def execNcacheMaintDone (misses : List (Fin 64)) (s : State) : Res := s.core fun s => s.doMaintDone misses

/-- INV_WALK_DONE (R224). -/
def State.doWalkDone (s : State) : State :=
  if s.nc.walking then ({ s with nc := { s.nc with walking := false } }).setBit F.NCACHE_STATUS_inv_done true else s

end Sys2Proof.Machine
end

