-- ==== Sys2Proof/Machine/Nor.lean ====
section
/-! DEFINITION. The configuration NOR's window (R316 to R318, R326 to R336): command sequences, PROGRAM and ERASE with the erase journal,
suspends, the device's own appends, brown-out. -/

namespace Sys2Proof.Machine

/-! ### Layout (R316, R317) -/

/-- Density N in bytes, and the span S of an image copy. -/
def Nor.size (n : Nor) : Nat := n.mib * 1048576
def Nor.span (n : Nor) : Nat := (n.size - 0x400000) / 2

/-- The offset lies in image copy A (false) or B (true) of a NOR that the device supports. -/
def Nor.inCopy (n : Nor) (b : Bool) (off : Nat) : Bool :=
  let base := if b then 0x400000 + n.span else 0x400000
  (n.mib == 32 || n.mib == 64) && decide (base ≤ off) && decide (off < base + n.span)

/-- A journal record as bytes (R332). -/
def jBytes (r : JEntry) : List Byte :=
  let l := leBytes 1 (if r.done then 2 else 1) ++ leBytes 1 0 ++ leBytes 2 r.sector ++ leBytes 8 r.seq ++ leBytes 16 0
  l ++ leBytes 4 (crc32c l)

/-- The records of a journal sector. -/
def Nor.jof (n : Nor) (b : Bool) : List JEntry := if b then n.j1 else n.j0
def Nor.setJ (n : Nor) (b : Bool) (l : List JEntry) : Nor := if b then { n with j1 := l } else { n with j0 := l }

/-- A byte as the NOR holds it: journal records as R332 lays them out, bytes of the record areas free once they hold records, for their records have no
layout in the spec, and else the list, which holds complements, so that an erased byte is not listed (DESIGN CHOICE, log entry 133). -/
def Nor.stored (n : Nor) (off : Nat) : Byte :=
  if off < 0x20000 then
    match (n.jof (decide (0x10000 ≤ off)))[off % 65536 / 32]? with
    | some r => (jBytes r).getD (off % 32) 0xFF#8
    | none => 0xFF#8
  else if 0x100000 ≤ off ∧ off < 0x400000 ∧ n.recs ≠ 0 then Config.recorded n.recs off
  else ~~~ memRead n.bytes off

/-- A byte as the window reads it (R318). -/
def Nor.byte (n : Nor) (off : Nat) : Byte := if n.size ≤ off ∨ n.einc.contains (off / 65536) then 0xFF#8 else n.stored off

/-! ### The erase journal (R332, R333) -/

/-- A journal sector is full with 2,046 of its 2,048 records, for the INTENT and the DONE of the other's erase go into it (DESIGN CHOICE, log entry 134). -/
abbrev jFull : Nat := 2046

/-- A record joins a journal sector, with the next sequence. -/
def Nor.putRec (n : Nor) (b done : Bool) (k : Nat) : Nor := { n.setJ b (n.jof b ++ [⟨done, k, n.seq⟩]) with seq := n.seq + 1 }

/-- The active sector is full: the other is journalled, erased, and takes every INTENT that has no DONE (R333). -/
def Nor.turnJ (n : Nor) : Nor :=
  if (n.jof n.active).length < jFull then n
  else
    let o := !n.active
    let k := if o then 1 else 0
    let n := (((n.putRec n.active false k).setJ o []).putRec n.active true k)
    n.intents.foldl (fun (n : Nor) i => n.putRec o false i) { n with active := o }

/-- An INTENT or a DONE is journalled; one of a journal sector goes into the other (R333). -/
def Nor.journal (n : Nor) (done : Bool) (k : Nat) : Nor :=
  let n := if k = 0 then { n with active := true } else if k = 1 then { n with active := false } else n
  let n := n.turnJ
  let n := n.putRec n.active done k
  { n with intents := if done then setDel n.intents k else setAdd n.intents k }

/-- The sectors whose newest journal record is an INTENT (R335). -/
def openIntents (l : List JEntry) : List Nat :=
  (l.filter (fun r => !r.done && !l.any (fun x => x.sector == r.sector && decide (r.seq < x.seq)))).foldl (fun k r => setAdd k r.sector) []

/-- The aligned 32-bit word at an offset. -/
def Nor.word (n : Nor) (off : Nat) : Word :=
  BitVec.ofNat 32 (leNat ((List.range 4).map (fun i => n.byte (off / 4 * 4 + i))))

/-- A PROGRAM only clears bits. -/
def Nor.program (n : Nor) (data : List (Nat × Word)) : Nor :=
  { n with bytes := data.foldl (fun m p =>
      ((leBytes 4 p.2.toNat).zipIdx).foldl (fun m x => memWrite m (p.1 + x.2) (memRead m (p.1 + x.2) ||| ~~~ x.1)) m) n.bytes }

/-- A sector erased. -/
def Nor.erase (n : Nor) (off : Nat) : Nor :=
  let n := if off < 0x10000 then { n with j0 := [] } else if off < 0x20000 then { n with j1 := [] } else n
  { n with bytes := n.bytes.filter (fun c => c.1 / 65536 != off / 65536) }

/-- What a copy holds is no longer known once a PROGRAM or ERASE of it begins; NOR_OP_DONE brings what it holds then. -/
def Nor.touchCopy (n : Nor) (off : Nat) : Nor :=
  let n := if n.inCopy false off then { n with copyA := none } else n
  if n.inCopy true off then { n with copyB := none } else n

/-! ### Operations -/

/-- An operation runs: it is not suspended. -/
def NorOp.running (o : NorOp) : Bool := !o.suspended && !o.brown

/-- The offset lies in the sector an ERASE names, or in the page of a PROGRAM. -/
def NorOp.covers (o : NorOp) (off : Nat) : Bool :=
  if o.erase then off / 65536 == o.off / 65536 else off / 256 == o.off / 256

/-- An operation has run for 2 ms since its start or its last resume (R330). -/
def State.ranLong (s : State) (o : NorOp) : Bool := decide (o.since + 2000000 ≤ s.mrt)

/-- NORC_STAT follows the operations. -/
def State.setOps (s : State) (l : List NorOp) : State :=
  let s := { s with nor := { s.nor with ops := l } }
  (s.setBit F.NORC_STAT_busy (l.any NorOp.running)).setBit F.NORC_STAT_suspended (l.any (fun o => !o.running))

/-- Changes the operation that runs. -/
def State.modRunning (s : State) (f : NorOp → NorOp) : State :=
  s.setOps (s.nor.ops.map (fun o => if o.running then f o else o))

def State.norOutcome (s : State) (n : Nat) : State := s.setFld F.NORC_STAT_outcome n

/-! ### Command sequences (R326, R328) -/

/-- The open sequence closes. -/
def State.closeWin (s : State) : State := ({ s with nor := { s.nor with win := none } }).setFld F.NORC_STAT_owner 0

/-- A sequence is broken or times out. -/
def State.abandonWin (s : State) : State := s.closeWin.norOutcome 3

/-- The last write of a sequence has come: the command waits for its row. -/
def State.confirmWin (s : State) (q : NorSeq) : State :=
  ({ s with nor := { s.nor with ready := s.nor.ready ++ [q] } }).closeWin

def State.setWin (s : State) (q : NorSeq) : State := { s with nor := { s.nor with win := some q } }

/-- Data words of a PROGRAM rise within one page. -/
def nextWord (l : List (Nat × Word)) (off : Nat) : Bool :=
  match l.getLast? with
  | none => true
  | some p => decide (l.length < 64) && p.1 / 256 == off / 256 && decide (p.1 < off)

/-- The owner's next write. -/
def State.winWrite (s : State) (q : NorSeq) (off : Nat) (v : Word) : State :=
  match q.step with
  | 1 => if off = 0x500 ∧ v = 0x4E52#32 then s.setWin { q with step := 2 } else s.abandonWin
  | 2 =>
    if off ≠ 0xA00 then s.abandonWin
    else if v = 0x50#32 ∨ v = 0x60#32 then s.setWin { q with step := 3, code := v.toNat }
    else if v = 0x70#32 ∨ v = 0x71#32 ∨ v = 0xF0#32 then s.confirmWin { q with code := v.toNat }
    else s.abandonWin
  | _ =>
    if q.code = 0x50 then
      if !q.data.isEmpty ∧ v = 0xC3#32 ∧ off % 256 = 0 ∧ q.data.all (fun p => p.1 / 256 == off / 256) then s.confirmWin { q with base := off }
      else if nextWord q.data off then s.setWin { q with data := q.data ++ [(off, v)] }
      else s.abandonWin
    else if v = 0xC3#32 ∧ off % 65536 = 0 then s.confirmWin { q with base := off }
    else s.abandonWin

/-- The owner as NORC_STAT shows it. -/
def ownerCode : NorSrc → Nat
  | .pcie => 1 | .mqp => 2 | .core _ => 3

/-- A write to the window (R326, R328). -/
def State.doWindowWrite (s : State) (src : NorSrc) (off : Nat) (v : Word) (ok : Bool) : State :=
  match s.nor.win with
  | some q =>
    if q.src ≠ src then (s.setBit F.NORC_STAT_foreign true).raise Ev.NORC_SEQ_FOREIGN
    else if !ok then s.abandonWin
    else s.winWrite q off v
  | none =>
    if ok ∧ off = 0xA00 ∧ v = 0x4B42#32 then (s.setWin { src := src, step := 1 }).setFld F.NORC_STAT_owner (ownerCode src) else s

def execNorWindowWrite (src : NorSrc) (off : Nat) (v : Word) (aligned32 : Bool) (s : State) : Res :=
  .next (if s.mode = .reset ∨ s.mode = .save then s else s.doWindowWrite src off v aligned32)

/-- NOR_SEQ_TIMEOUT (R326): no write for 1 ms. -/
def execNorSeqTimeout (s : State) : Res := s.core fun s => if s.nor.win.isSome then s.abandonWin else s

/-- Takes the complete command of a code. -/
def State.takeReady (s : State) (code : Nat) : Option (NorSeq × State) :=
  (s.nor.ready.find? (fun q => q.code == code)).map (fun q => (q, { s with nor := { s.nor with ready := s.nor.ready.erase q } }))

/-- A window command may name only a sector of the copy that is not running (R327); where no copy runs, either copy's. -/
def State.norAllowed (s : State) (off : Nat) : Bool :=
  let none_ := s.bit F.NORC_BOOT_none
  let b := s.bit F.NORC_BOOT_copy
  (s.nor.inCopy false off && (none_ || b)) || (s.nor.inCopy true off && (none_ || !b))

/-- An operation that runs leaves no room for another, but for one PROGRAM outside the sector of a suspended ERASE (R329). -/
def State.norBusy (s : State) (erase : Bool) (off : Nat) : Bool :=
  match s.nor.ops with
  | [] => false
  | [o] => erase || !(o.erase && !o.running) || o.covers off
  | _ => true

/-- A confirmed PROGRAM or ERASE starts, or ends at once with its outcome (R327, R329, R334, R336). -/
def State.norStart (s : State) (erase : Bool) (off : Nat) (go : State → State) : State :=
  if !s.norAllowed off then s.norOutcome 1
  else if s.brownout then (s.norOutcome 4).raise Ev.NORC_BROWNOUT
  else if s.nor.einc.contains (off / 65536) ∨ s.norBusy erase off then s.norOutcome 2
  else go (s.setFld F.NORC_STAT_sector (off / 65536))

/-- NOR_PROGRAM (R326): the page takes its words. -/
def State.doNorProgram (s : State) : State :=
  match s.takeReady 0x50 with
  | none => s
  | some (q, s) =>
    s.norStart false q.base fun s =>
      let s := { s with nor := (s.nor.touchCopy q.base).program q.data }
      s.setOps ({ erase := false, off := q.base, data := q.data, since := s.mrt } :: s.nor.ops)

def execNorProgram (s : State) : Res := s.core State.doNorProgram

/-- An INTENT is journalled and the erase issued (R333). -/
def State.issueErase (s : State) (off : Nat) (own : Bool) : State :=
  let s := { s with nor := (s.nor.touchCopy off).journal false (off / 65536) }
  s.setOps ({ erase := true, off := off, data := [], since := s.mrt, own := own } :: s.nor.ops)

/-- NOR_ERASE (R333): an erase whose INTENT cannot be programmed is never issued. -/
def State.doNorErase (s : State) (intentOk : Bool) : State :=
  match s.takeReady 0x60 with
  | none => s
  | some (q, s) => s.norStart true q.base fun s => if intentOk then s.issueErase q.base false else s.norOutcome 5

def execNorErase (intentOk : Bool) (s : State) : Res := s.core fun s => s.doNorErase intentOk

/-- NOR_SUSPEND (R326, R330). -/
def State.doNorSuspend (s : State) : State :=
  match s.takeReady 0x70 with
  | none => s
  | some (_, s) => (s.modRunning (fun o => if s.ranLong o then { o with suspended := true } else { o with held := true })).norOutcome 0

def execNorSuspend (s : State) : Res := s.core State.doNorSuspend

/-- NOR_RESUME (R326): one operation runs at a time, and none starts a pulse during brown-out. -/
def State.doNorResume (s : State) : State :=
  match s.takeReady 0x71 with
  | none => s
  | some (_, s) =>
    if s.nor.ops.any NorOp.running then s.norOutcome 2
    else if s.brownout then (s.norOutcome 4).raise Ev.NORC_BROWNOUT
    else (s.setOps (s.nor.ops.map (fun o => if o.suspended then { o with suspended := false, since := s.mrt } else o))).norOutcome 0

def execNorResume (s : State) : Res := s.core State.doNorResume

/-- NOR_ABORT (R326): the sequence has closed without effect. -/
def State.doNorAbort (s : State) : State :=
  match s.takeReady 0xF0 with
  | none => s
  | some (_, s) => s.norOutcome 0

def execNorAbort (s : State) : Res := s.core State.doNorAbort

/-! ### Reads, suspends, the device's own appends (R329 to R331) -/

/-- A window read is served. -/
def State.serveRead (s : State) (off : Nat) : State := s.put (.window off (s.nor.word off))

/-- NOR_WINDOW_READ (R318, R329): a read outside what runs suspends it, once it has run 2 ms, and resumes it; one inside waits. -/
def State.doWindowRead (s : State) (off : Nat) : State :=
  if s.nor.size ≤ off ∨ s.nor.einc.contains (off / 65536) then s.serveRead off
  else if s.nor.ops.any (fun o => o.covers off) then
    s.setOps (s.nor.ops.map (fun o => if o.covers off then { o with reads := o.reads ++ [off] } else o))
  else
    match s.nor.ops.find? NorOp.running with
    | none => s.serveRead off
    | some o =>
      if s.ranLong o then (s.modRunning (fun o => { o with since := s.mrt })).serveRead off
      else s.modRunning (fun o => { o with reads := o.reads ++ [off] })

def execNorWindowRead (off : Nat) (s : State) : Res := s.core fun s => s.doWindowRead off

/-- The kind of a record in NOR_RECORD_APPEND: 1 counter, 2 retirement or mark; journal records (0) are part of their erase. -/
def NorAppend.kind : NorAppend → Nat
  | .counter _ => 1
  | _ => 2

/-- The retirement record of a frame of a bank, or of the whole bank, of a channel (R221). -/
def State.recordFor (s : State) (c b : Nat) (row : Option Nat) : Option RetRec :=
  (alGet s.pops c).map (fun p =>
    let n := Nat.max 1 p.banks
    ⟨alGetD s.serials (c * 2 + b / n / Nat.max 1 p.lranks) 0, b / n % Nat.max 1 p.lranks, b % n, row⟩)

/-- A retirement record joins those on the NOR, once. -/
def State.addRec (s : State) (r : Option RetRec) : List RetRec :=
  match r with
  | some r => if s.retRecs.contains r then s.retRecs else s.retRecs ++ [r]
  | none => s.retRecs

/-- A record is programmed (R212, R221, R292). -/
def State.appendRecord (s : State) (a : NorAppend) : State :=
  let s := { s with nor := { s.nor with appends := s.nor.appends.erase a, recs := s.nor.recs + 1 } }
  match a with
  | .counter r => { s with nor := { s.nor with counters := r :: s.nor.counters } }
  | .frame h f =>
    ({ s with retRecs := (match frameAt s.pops f with
        | some (c, b, i) => s.addRec (s.recordFor c b (some i))
        | none => s.retRecs) }).complete h .ok
  | .bank h c b => ({ s with retRecs := s.addRec (s.recordFor c b none) }).complete h .ok
  | .mark sub device => { s with dmarks := alPut s.dmarks sub device }

/-- An append touches no sector that is still to be erased again (R336): of a retirement or mark record the spec names the area alone. -/
def Nor.clear (n : Nor) : NorAppend → Bool
  | .counter r => !n.einc.contains r.sector
  | _ => n.einc.all (fun k => decide (k < 32) || decide (64 ≤ k))

/-- NOR_RECORD_APPEND (R331): an append waits for a PROGRAM and suspends an ERASE; none starts during brown-out, and none in a sector that is erased again
first (R336). -/
def State.doRecordAppend (s : State) (kind : Nat) : State :=
  if s.brownout then s
  else
    match s.nor.appends.find? (fun a => a.kind == kind && s.nor.clear a) with
    | none => s
    | some a =>
      match s.nor.ops.find? NorOp.running with
      | none => s.appendRecord a
      | some o =>
        if !o.erase then s
        else if s.ranLong o then (s.modRunning (fun o => { o with since := s.mrt })).appendRecord a
        else s.modRunning (fun o => { o with append := true })

def execNorRecordAppend (kind : Fin 3) (s : State) : Res := s.core fun s => s.doRecordAppend kind.val

/-- The append that has waited for an operation is made, but not during brown-out (R334). -/
def State.heldAppend (s : State) (o : NorOp) : State :=
  if !o.append || s.brownout then s
  else
    match s.nor.appends.find? s.nor.clear with
    | some a => s.appendRecord a
    | none => s

/-- NOR_SUSPEND_GRANT (R330): 2 ms after the start or the last resume. -/
def State.doSuspendGrant (s : State) : State :=
  match s.nor.ops.find? (fun o => o.running && (o.held || o.append || o.reads.any (fun r => !o.covers r))) with
  | none => s
  | some o =>
    let out := o.reads.filter (fun r => !o.covers r)
    let s := s.modRunning (fun o => { o with
      held := false, append := false, suspended := o.held, reads := o.reads.filter (fun r => o.covers r), since := s.mrt })
    (out.foldl State.serveRead s).heldAppend o

def execNorSuspendGrant (s : State) : Res := s.core State.doSuspendGrant

/-- The next erase-incomplete sector is erased again (R336). -/
def State.nextEinc (s : State) : State :=
  match s.nor.einc with
  | k :: _ => if s.nor.ops.isEmpty ∧ !s.brownout then s.issueErase (k * 65536) true else s
  | [] => s

/-- What an image copy holds from now on. -/
def Nor.learn (n : Nor) (info : Option (Bool × ImageInfo)) : Nor :=
  match info with
  | some (false, i) => { n with copyA := some i }
  | some (true, i) => { n with copyB := some i }
  | none => n

/-- NOR_OP_DONE (R326, R333, R336): `info` names the image that a copy holds from now on, if it holds one. -/
def State.doNorOpDone (s : State) (info : Option (Bool × ImageInfo)) : State :=
  match s.nor.ops.find? NorOp.running with
  | none => s
  | some o =>
    let k := o.off / 65536
    let n := if o.erase then { (s.nor.erase o.off).journal true k with einc := setDel s.nor.einc k } else s.nor
    let s := ({ s with nor := n.learn info }).setOps (s.nor.ops.filter (fun x => !x.running))
    let s := (o.reads.foldl State.serveRead s).heldAppend o
    if o.own then s.nextEinc else (s.norOutcome 0).raise Ev.NORC_OP_DONE

def execNorOpDone (info : Option (Bool × ImageInfo)) (s : State) : Res := s.core fun s => s.doNorOpDone info

/-! ### Brown-out (R334, R341) -/

/-- BROWNOUT_BEGIN (R334, R341): a running ERASE is suspended at once, a PROGRAM ends, a fuse burn ends. -/
def State.doBrownout (s : State) : State :=
  let s := { s with brownout := true }
  if s.mode = .reset then s else (s.modRunning (fun o => if o.erase then { o with brown := true } else o)).browned

def execBrownoutBegin (s : State) : Res := s.fenCmd State.doBrownout

/-- BROWNOUT_RESUME (R334): 2 ms after the indication has cleared. -/
def State.doBrownoutEnd (s : State) : State :=
  let s := { s with brownout := false }
  if s.mode = .reset then s
  else (s.setOps (s.nor.ops.map (fun o => if o.brown then { o with brown := false, since := s.mrt } else o))).nextEinc

def execBrownoutResume (s : State) : Res := s.fenCmd State.doBrownoutEnd

/-- NOR_REBOOT (R325): only while no copy has passed. -/
def State.doReboot (s : State) (v : Word) : State :=
  if v.getLsbD 0 ∧ s.bit F.NORC_BOOT_none then s.resequence else s

def execNorReboot (s : State) : Res := s.post F.NORC_CTRL_reboot.off 1#32 fun s => s.doReboot 1#32

end Sys2Proof.Machine
end

