-- ==== Sys2Proof/Machine/Manage.lean ====
section
/-! DEFINITION. Register writes (R14, R379 to R381), the management paths (R367, R368), ports and sideband buses (R373, R374). -/

namespace Sys2Proof.Machine

/-! ### Values written (R14) -/

/-- The value a field takes when `v` is written over `old`; `bus` is a sideband controller's number, for the range of its rate (R376). -/
def WRule.value (bus old v : Nat) : WRule → Nat
  | .plain | .whole => v
  | .khz => if (if bus < 4 then 10 ≤ v ∧ v ≤ 1000 else 1000 ≤ v ∧ v ≤ 12500) then v else old
  | .zeroTo n => if v = 0 then n else v
  | .aboveTo n => Nat.min v n
  | .belowTo n => Nat.max v n
  | .clamp lo hi => Nat.max lo (Nat.min hi v)
  | .within lo hi => if lo ≤ v ∧ v ≤ hi then v else old
  | .outsideTo lo hi n => if lo ≤ v ∧ v ≤ hi then v else n
  | .signed w m => if (toSigned w v).natAbs ≤ m then v else old

/-- A software write of a field in the present mode and lifecycle state (R14). -/
def State.newField (s : State) (bus : Nat) (f : FieldSpec) (old v : Nat) : Nat :=
  let set := f.rule.value bus old v
  match f.acc with
  | .ro | .wo => old
  | .rw => set
  | .w1c => if f.rule = .whole then (if v = 0 then old else 0) else old &&& (2 ^ (f.hi + 1 - f.lo) - 1 - v)
  | .w1s => old ||| v
  | .rwl => if s.bit F.THM_LOCK_lock then old else set
  | .rwsBringup => if s.mode = .bringup then set else old
  | .rwsBlank => if s.fuses.life = blank then set else old

/-- A write that a register's description ignores whole (R136, R258). -/
def WholeRule.ok (w : Word) : WholeRule → Bool
  | .any => true
  | .wm => decide (bitsOf w 7 0 < bitsOf w 15 8) && decide (bitsOf w 15 8 < bitsOf w 23 16) && decide (bitsOf w 23 16 ≤ 100)
  | .gc => decide (1 ≤ bitsOf w 7 0) && decide (bitsOf w 7 0 < bitsOf w 15 8)

/-- The word that a register holds after a write. -/
def State.newWord (s : State) (r : RegSpec) (bus : Nat) (old v : Word) : Word :=
  let w := r.fields.foldl (fun w f => putBits w f.hi f.lo (s.newField bus f (bitsOf old f.hi f.lo) (bitsOf v f.hi f.lo))) old
  if r.all.ok w then w else old

/-- An access error (R379, R383): the first since `valid` was cleared is recorded. -/
def State.accessError (s : State) (kind off : Nat) : State :=
  if s.bit F.GLB_ACC_ERR_valid then s
  else ((s.setBit F.GLB_ACC_ERR_valid true).setFld F.GLB_ACC_ERR_kind kind).setFld F.GLB_ACC_ERR_offset off

/-! ### The submission ring (R367) -/

/-- Steps forward around a ring of 64 slots. -/
def ringSteps (from_ n : Nat) : Nat := (n + 64 - from_) % 64

/-- A slot taken is delivered to the gate. -/
def State.takeSlot (s : State) (slot : Nat) (f : MgmtFrame) : State :=
  (({ s with pcie := s.pcie ++ [PcieSlot.mk (slot % 64) f.cmd.hdr.tag] }).setFld F.PCIE_STATUS_head (slot + 1)).deliverFrame .pcie f

/-- PCIE_DOORBELL (R367): accepted when the new tail is fewer steps ahead than head, where a head equal to the tail is 64 steps away. The slots that it
reads in host memory come with the command (DESIGN CHOICE, log entry 136). -/
def State.doDoorbell (s : State) (v : Word) (slots : List MgmtFrame) : State :=
  let tail := s.fld F.PCIE_CMD_DB_tail
  let head := s.fld F.PCIE_CPL_DB_head
  let new := v.toNat % 64
  let room := if head = tail then 64 else ringSteps tail head
  let n := ringSteps tail new
  if s.bit F.NORC_BOOT_none ∨ room ≤ n then s
  else ((slots.take n).zipIdx).foldl (fun s x => s.takeSlot (tail + x.2) x.1) (s.setFld F.PCIE_CMD_DB_tail new)

/-- PCIE_CPL_HEAD (R367). -/
def State.doCplHead (s : State) (v : Word) : State := s.setFld F.PCIE_CPL_DB_head v.toNat

def execPcieCplHead (value : Word) (s : State) : Res := s.post F.PCIE_CPL_DB_head.off value fun s => s.doCplHead value

/-! ### A register write takes effect (R380) -/

/-- Registers whose writes act otherwise than by setting fields. -/
def State.ownWrite (s : State) (off : Nat) (v : Word) : Option State :=
  if off = F.MON_CTRL_snap.off then some (doMonSnap v s)
  else if off = F.PEAT_SNAP_CTRL_take.off then some (doPeatSnapTake v s)
  else if off = F.CRC_SCAN_CTRL_go.off then some (s.doScanStart v)
  else if off = F.NCACHE_MAINT_CTRL_go.off then some (s.writeMaint v)
  else if off = F.NORC_CTRL_reboot.off then some (s.doReboot v)
  else if off = F.PCIE_CMD_DB_tail.off then some (s.doDoorbell v [])
  else if 0x30100 ≤ off ∧ off < 0x301A0 then some (doEvtPendClear ((off - 0x30100) / 4) v s)
  else if 0x30200 ≤ off ∧ off < 0x302A0 then some (doEvtMaskWrite ((off - 0x30200) / 4) v s)
  else if 0xC00000 ≤ off ∧ off < 0xD00000 ∧ off % 0x10000 = 0x100 then some (s.writeTrn ((off - 0xC00000) / 0x10000) v)
  else none

/-- A priority whose PFC is switched off pauses no longer (R85). -/
def State.endPauses (s : State) (port : Nat) : State :=
  { s with ports := { s.ports with paused := s.ports.paused.filter (fun p => p.1 / 8 != port || s.pfcOn port (p.1 % 8)) } }

/-- What follows a write: the watchdog's limit (R22), the witness and the pairing (R165, R183, R345), the cap (R123), lifetime records (R361), the source of
time (R307), a controller's disable (R374), PFC (R85). -/
def State.afterWrite (s : State) (off : Nat) : State :=
  if off = F.WEFT_STALL_CFG_limit_us.off then s.watch
  else if off = F.SEAM_PAIR_CFG_pair_en.off then
    (if s.fuses.life = Machine.returned then s.setBit F.SEAM_PAIR_CFG_pair_en false else s).reviewPair
  else if 0xA00000 ≤ off ∧ off < 0xA01000 then s.reviewPair
  else if off = F.TLR_WM_CFG_wm_lo.off ∨ off = F.TLR_CAP_CFG_derate.off then s.reviewCap
  else if off = F.TIME_CTRL_src_en.off then s.dropSrc
  else if 0x800000 ≤ off ∧ off < 0x880000 ∧ off % 0x10000 = 0x100 then s.endPauses ((off - 0x800000) / 0x10000)
  else if 0xC00000 ≤ off ∧ off < 0xD00000 ∧ off % 0x10000 = 0x200 then s.reviewMarks ((off - 0xC00000) / 0x10000)
  else if 0x41000 ≤ off ∧ off < 0x41800 ∧ off % 0x80 = 0 then s.lifeRec ((off - 0x41000) / 0x80)
  else if 0x80000 ≤ off ∧ off < 0x80180 ∧ off % 0x40 = 0 ∧ !s.bit (F.SBUS_CFGn_en ((off - 0x80000) / 0x40)) then
    let n := (off - 0x80000) / 0x40
    (({ s with sbus := alDel s.sbus n }).setFld (F.SBUS_STATn_state n) 0).setFld (F.SBUS_STATn_stuck n) 0
  else s

/-- The write names an absent logical port for PTP, which gives an attribute outside its range (R402). A register-write command with it
completes INVALID and changes nothing, and a posted write of it is ignored (DESIGN CHOICE, log entry 113). -/
def State.ptpAbsent (s : State) (off : Nat) (v : Word) : Bool :=
  off == F.TIME_CTRL_ptp_lport.off && !s.lportPresent (bitsOf v F.TIME_CTRL_ptp_lport.hi F.TIME_CTRL_ptp_lport.lo)

/-- One aligned 32-bit write that the gate has granted. `src` is the source as the NOR window knows it. -/
def State.writeReg (s : State) (src : Option NorSrc) (off : Nat) (v : Word) : State :=
  if s.mode = .reset then s
  else if 0x8000000 ≤ off ∧ off < 0xC000000 then
    match src with
    | some x => s.doWindowWrite x (off - 0x8000000) v true
    | none => s
  else if fusedOff s.part off ∨ s.ptpAbsent off v then s
  else
    match regAt off with
    | none => s.accessError 1 off
    | some (r, _, j) =>
      match s.ownWrite off v with
      | some t => t
      | none => (s.setReg off (s.newWord r j (s.reg off) v)).afterWrite off

/-- The blocks that the control processor reaches while no copy runs (R325): GLB, THM, NORC and the NOR window. -/
def reachedBare (off : Nat) : Bool :=
  decide (off < 0x10000) || (decide (0x20000 ≤ off) && decide (off < 0x30000)) || (decide (0x70000 ≤ off) && decide (off < 0x80000)) ||
  (decide (0x8000000 ≤ off) && decide (off < 0xC000000))

/-- The source of a command as the NOR window knows it (R328). -/
def norSrc : Source → Option NorSrc
  | .pcie => some .pcie
  | .mqp => some .mqp
  | .core p => some (.core p)
  | .debug | .twin => none

/-- The source of the register write whose turn it is. -/
def State.writer (s : State) : Option NorSrc := (s.gate.granted.head?).bind (fun c => norSrc c.hdr.src)

/-- CSR_WRITE (R379, R380): a write of the control processor or of a core pair. `width` is the access's width in bytes. A 64-bit access to an
8-byte-aligned offset comes as two of these commands, as R379 takes it: its lower half with width 8, its upper half with width 4 (DESIGN CHOICE,
log entry 138). -/
def State.doCsrWrite (s : State) (src : Option NorSrc) (pf1 : Bool) (width off : Nat) (v : Word) : State :=
  let whole := off % 4 == 0 && (width == 4 || (width == 8 && off % 8 == 0))
  if pf1 then s.accessError 3 off
  else if s.bit F.NORC_BOOT_none && !reachedBare off then s
  else if 0x8000000 ≤ off ∧ off < 0xC000000 then src.elim s (fun x => s.doWindowWrite x (off - 0x8000000) v whole)
  else if !whole then s.accessError 2 off
  else s.writeReg src off v

def execCsrWrite (pf1 : Bool) (width off : Nat) (v : Word) (s : State) : Res :=
  let src := s.writer
  s.post off v fun s => s.doCsrWrite src pf1 width off v

/-- Consecutive registers written in ascending order. -/
def State.writeRegs (s : State) (src : Option NorSrc) : Nat → List Word → State
  | _, [] => s
  | off, v :: l => (s.writeReg src off v).writeRegs src (off + 4) l

/-- REGISTER_WRITE (R380). -/
def State.doRegisterWrite (s : State) (h : Hdr) (off : Nat) (values : List Word) : State :=
  if off % 4 ≠ 0 ∨ 2 ^ 28 ≤ off ∨ values.isEmpty ∨ 1014 < values.length then s.complete h .invalid
  else if values.zipIdx.any (fun p => s.ptpAbsent (off + 4 * p.2) p.1) then s.complete h .invalid
  else
    let s := s.writeRegs (norSrc h.src) off values
    if s.mode = .reset then s else s.complete h .ok

def execRegisterWrite (h : Hdr) (off : Nat) (values : List Word) (s : State) : Res := s.start h (.registerWrite off values) fun s => s.doRegisterWrite h off values

/-- SUBSCRIBE (R368): one of 16 destinations of event frames and notices. -/
def State.doSubscribe (s : State) (h : Hdr) (dest addr qpn : Nat) : State :=
  if 16 ≤ dest then s.complete h .invalid
  else ({ s with ev := { s.ev with dests := alPut s.ev.dests dest (addr, qpn) } }).complete h .ok

def execSubscribe (h : Hdr) (dest addr qpn : Nat) (s : State) : Res := s.start h (.subscribe dest addr qpn) fun s => s.doSubscribe h dest addr qpn

/-! ### Links (R353, R358, R367) -/

/-- PCIE_LINK_DOWN (R367). -/
def State.doPcieDown (s : State) : State := if s.link then (s.setBit F.PCIE_STATUS_link_up false).raise Ev.PCIE_LINK_DOWN else s

def execPcieLinkDown (s : State) : Res := s.core State.doPcieDown

/-- Completions and MSI-X messages that have waited leave (R358, R367). -/
def State.flushPcie (s : State) : State :=
  if s.mode = .doze || s.quiet || !s.link then s
  else
    let c := s.pcieHeld
    let m := s.ev.msix
    let s := { s with pcieHeld := [], ev := { s.ev with msix := [] } }
    let s := c.foldl (fun s o => (s.put o).sendMsix 0 0) s
    m.foldl (fun s p => s.sendMsix p.1 p.2) s

/-- PCIE_LINK_UP (R358, R367). -/
def State.doPcieUp (s : State) (speed width : Nat) : State :=
  let was := s.link
  let s := ((s.setBit F.PCIE_STATUS_link_up true).setFld F.PCIE_STATUS_speed speed).setFld F.PCIE_STATUS_width width
  (if was then s else s.raise Ev.PCIE_LINK_UP).flushPcie

def execPcieLinkUp (speed : Fin 6) (width : Fin 9) (s : State) : Res := s.core fun s => s.doPcieUp speed.val width.val

/-- A logical port that the breakout of its port uses (R402). -/
def State.hasPort (s : State) (lport : Nat) : Bool := s.lportPresent lport

/-- PORT_LINK_DOWN (R353). -/
def State.doPortDown (s : State) (l : Nat) : State :=
  if s.hasPort l && s.ports.up.contains l then
    ({ s with ports := { s.ports with up := setDel s.ports.up l } }).raise (Ev.PORT_LINK_DOWN (Fin.ofNat 8 (portOf l))) l
  else s

def execPortLinkDown (lport : Lport) (s : State) : Res := s.core fun s => s.doPortDown lport.val

/-- PORT_LINK_UP (R353). -/
def State.doPortUp (s : State) (l : Nat) : State :=
  if s.hasPort l && !s.ports.up.contains l then
    ({ s with ports := { s.ports with up := setAdd s.ports.up l } }).raise (Ev.PORT_LINK_UP (Fin.ofNat 8 (portOf l))) l
  else s

def execPortLinkUp (lport : Lport) (s : State) : Res := s.core fun s => s.doPortUp lport.val

/-- The management queue pair can send (R358, R368): it is set up, its port has a link, its priority is not paused. -/
def State.mqpSends (s : State) : Bool :=
  match s.qpAt 0 with
  | some q => q.state == .rts && s.mayTransmit q.lport q.prio 0x0800 && decide (q.nextAt ≤ s.mrt)
  | none => false

/-- One frame of the device's own leaves the management queue pair's logical port for every subscribed destination (R86, R368, R369); the
claim number in its header is free (log entry 137). -/
def State.notify (s : State) (type stamp : Nat) (payload : List Byte) : State :=
  let bytes := mHeadBytes { type := type, claim := BitVec.ofNat 35 (Config.draw s.free), stamp := stamp } payload.length ++ payload
  s.ev.dests.foldl (fun s d =>
    let (s, sec) := s.protect (((s.qpAt 0).map (·.lport)).getD 0) (addrEther d.2.1)
    s.put (.notice d.1 bytes sec (((s.qpAt 0).map (·.ccClass)).getD 0 == 1))) s.tickFree

/-- EVENT_FRAME_SEND (R358): the frame at the head of the queue leaves to every destination. -/
def State.doEventSend (s : State) : State :=
  match s.ev.frames with
  | f :: l =>
    if s.mode = .doze || s.quiet || !s.mqpSends then s
    else
      let s := s.notify mEvent f.stamp (eventBytes f.entries)
      { s with ev := { s.ev with frames := l, fullSeen := false } }
  | [] => s

def execEventFrameSend (s : State) : Res := s.core State.doEventSend

/-! ### Sideband buses (R373, R374) -/

/-- SB0 and SB1 lie in Fen's domain (R281, R373). -/
def State.sbusCmd (s : State) (n : Nat) (f : State → State) : Res := if n < 2 then s.fenCmd f else s.core f

/-- One recovery has failed. -/
def State.countStuck (s : State) (n : Nat) : State := s.sat (F.SBUS_STATn_stuck n)

/-- SBUS_ENABLE (R374): SDA is sampled before the first transaction; `freed` says that recovery raised it. -/
def State.doSbusEnable (s : State) (n : Nat) (low freed : Bool) : State :=
  let s := (s.setBit (F.SBUS_CFGn_en n) true).setFld (F.SBUS_STATn_stuck n) 0
  if low && !freed then
    (((({ s with sbus := alPut s.sbus n (Sbus.mk 0) }).countStuck n).setFld (F.SBUS_STATn_state n) 2).raise Ev.SBUS_BUS_STUCK n)
  else ({ s with sbus := alDel s.sbus n }).setFld (F.SBUS_STATn_state n) 0

def execSbusEnable (n : Fin 6) (sdaLow freed : Bool) (s : State) : Res := s.sbusCmd n.val fun s => s.doSbusEnable n.val sdaLow freed

/-- SBUS_RECOVERY_RETRY (R374): the bus is failed after the third retry. -/
def State.doSbusRetry (s : State) (n : Nat) (freed : Bool) : State :=
  match alGet s.sbus n with
  | none => s
  | some x =>
    if freed then ({ s with sbus := alDel s.sbus n }).setFld (F.SBUS_STATn_state n) 0
    else
      let s := s.countStuck n
      if x.tries + 1 < 3 then { s with sbus := alPut s.sbus n (Sbus.mk (x.tries + 1)) }
      else (({ s with sbus := alDel s.sbus n }).setFld (F.SBUS_STATn_state n) sbusFailed).raise Ev.SBUS_BUS_FAILED n

def execSbusRecoveryRetry (n : Fin 6) (freed : Bool) (s : State) : Res := s.sbusCmd n.val fun s => s.doSbusRetry n.val freed

/-- A transaction ends: with an error it is counted. -/
def State.doSbusEnd (s : State) (n : Nat) (ok : Bool) : State :=
  if !s.bit (F.SBUS_CFGn_en n) ∨ 2 ≤ s.fld (F.SBUS_STATn_state n) then s
  else (if ok then s else s.wrap (F.SBUS_STATn_errors n)).setFld (F.SBUS_STATn_state n) 0

/-- SBUS_SCL_TIMEOUT (R373): the transaction ends with a timeout. -/
def execSbusSclTimeout (n : Fin 6) (s : State) : Res := s.sbusCmd n.val fun s => s.doSbusEnd n.val false

/-- SBUS_TRANSACTION_DONE (R373). -/
def execSbusTransactionDone (n : Fin 6) (ok : Bool) (s : State) : Res := s.sbusCmd n.val fun s => s.doSbusEnd n.val ok

end Sys2Proof.Machine
end

