-- ==== Sys2Proof/Machine/Boot.lean ====
section
/-! DEFINITION. From the last rail to a running image (R286 to R292, R322 to R325, R335, R336, R349), and Fen's supply (R281). -/

namespace Sys2Proof.Machine

/-! ### Checking the copies (R323) -/

/-- Erase-incomplete sectors at step 2 of R322 (R335). -/
def State.markEinc (s : State) : State :=
  let l := s.nor.intents
  let s := { s with nor := { s.nor with einc := l } }
  match l with
  | [] => s
  | k :: _ => ((s.setFld F.NORC_EINC_count l.length).setFld F.NORC_EINC_first k).raise Ev.NORC_ERASE_INCOMPLETE

/-- Fen's counts are taken from a counter record (R292, R335). -/
def State.loadCounts (s : State) (r : CounterRec) : State :=
  let s := { s with fen := { s.fen with loaded := some r.sector } }
  let s := (s.setFld F.FEN_HOURS_count r.hours).setFld F.FEN_CYCLES_count r.cycles
  (r.rails.take 24).zipIdx.foldl (fun s x => s.setReg (F.FEN_RAILn_CNT_drops x.2).off x.1) s

/-- A counter record loaded from an erase-incomplete sector is replaced by the newest outside (R335). -/
def State.reloadCounts (s : State) : State :=
  match s.fen.loaded with
  | some k =>
    if s.nor.einc.contains k then
      match s.nor.counters.find? (fun r => !s.nor.einc.contains r.sector) with
      | some r => (s.loadCounts r).setBit F.NORC_EINC_fen_reload true
      | none => s
    else s
  | none => s

/-- The part runs the image (R319). -/
def State.partOk (s : State) (i : ImageInfo) : Bool := match s.part with | .hx => i.onHx | .mx => i.onMx

/-- The record types of R321, and those that a copy must have. -/
abbrev recTypes : List Nat := [1, 2, 3, 4, 5, 6, 7, 8]
abbrev recNeeded : List Nat := [1, 2, 4, 5, 6, 7, 8]

/-- A record lies where R320 and R321 put it. -/
def recPlaced (e : RecEntry) (length : Nat) : Bool :=
  recTypes.contains e.type && e.flags == 0 && e.off % 4096 == 0 && decide (0x1000 ≤ e.off) && decide (e.off + e.len ≤ length) &&
  (e.type != 1 || e.off == 0x1000) && (e.type != 2 || decide (e.len ≤ 7 * 2 ^ 20)) && (e.type != 3 || e.len % 8 == 0)

/-- Two records do not overlap. -/
def recsApart (a b : RecEntry) : Bool := decide (a.off + a.len ≤ b.off) || decide (b.off + b.len ≤ a.off)

/-- Check 2 of R323: magic, version, count and length in range, and the record table as R320 and R321 have it. -/
def imageFormed (i : ImageInfo) (span : Nat) : Bool :=
  i.formOk && i.version == 1 && decide (1 ≤ i.count) && decide (i.count ≤ 60) && i.table.length == i.count &&
  i.length % 4096 == 0 && decide (0x3000 ≤ i.length) && decide (i.length ≤ span) && i.build != 0 && i.build != 2 ^ 64 - 1 &&
  i.table.all (fun e => recPlaced e i.length) && recNeeded.all (fun t => i.table.any (fun e => e.type == t)) &&
  i.table.zipIdx.all (fun x => i.table.zipIdx.all (fun y => x.2 == y.2 || (x.1.type != y.1.type && recsApart x.1 y.1)))

/-- Checks 1 to 3, 5 and 6 of R323: the cause of the first that fails, 0 where all pass. -/
def State.checkCopy (s : State) (b : Bool) : Nat :=
  if s.nor.einc.any (fun k => s.nor.inCopy b (k * 65536)) then 1
  else
    match s.nor.copy b with
    | none => 2
    | some i =>
      if !imageFormed i s.nor.span then 2
      else if !(s.fuses.enabled.getLsbD i.key.val && i.sigOk) then 3
      else if i.svn < s.fuses.rollback then 5
      else if !s.partOk i then 6
      else 0

/-- Check 4 of R323, made as the copy is read whole. -/
def State.digestOk (s : State) (b : Bool) : Bool := (s.nor.copy b).any (·.digestOk)

/-- The copy's build. -/
def State.buildOf (s : State) (b : Bool) : Nat := (s.nor.copy b).elim 0 (·.build)

/-- What BRINGUP finds of the copies: the cause of each, and the copy that runs. -/
def State.pickCopy (s : State) : Nat × Nat × Option Bool :=
  let a := s.checkCopy false
  let b := s.checkCopy true
  let first := if a ≠ 0 then true else if b ≠ 0 then false else decide (s.buildOf false < s.buildOf true)
  let cause := fun c : Bool => if c then b else a
  if cause first ≠ 0 then (a, b, none)
  else if s.digestOk first then (a, b, some first)
  else
    let other := !first
    let bad := fun c : Bool => if c = first then 4 else if cause c = 0 && !s.digestOk c then 4 else cause c
    (bad false, bad true, if cause other = 0 && s.digestOk other then some other else none)

/-- No copy runs (R325): FAULT_N is low, and the unit stays in BRINGUP. -/
def State.noImage (s : State) : State :=
  ({ s with fen := { s.fen with faultLow := true } }.setBit F.NORC_BOOT_none true).raise Ev.NORC_NO_IMAGE

/-! ### Running an image (R321, R322, R324) -/

/-- The blocks that a REGS record may name (R321). -/
def regsBlock (off : Nat) : Bool :=
  let r := fun a b => decide (a ≤ off) && decide (off < b)
  r 0 0x20000 || r 0x30000 0x50000 || r 0x60000 0x80000 || r 0x100000 0x400000 || r 0x800000 0x900000 || r 0xA00000 0xB80000 ||
  r 0xC00000 0xF80000 || r 0xFC0000 0xFE0000

/-- The entries of a REGS record are written in order. -/
def State.writeRegsRecord (s : State) (l : List (Nat × Word)) : State :=
  l.foldl (fun s p => if regsBlock p.1 then s.writeReg (some (.core 0)) p.1 p.2 else s.wrap F.NORC_BOOT_regs_skip) s

/-- The check has passed: the pairs are checked, the firmware starts, writes the image's records to the registers and sets the THM lock;
it scans and trains the NAND channels (R229, R258) until BRINGUP ends. -/
def State.runImage (s : State) (i : ImageInfo) : State :=
  let s := (s.checkPairs s.boot.lks).startPeat
  let s := forUp (fun c s => s.setFld (F.NCH_STATUS_state c) 1) s.part.channels 0 s
  let s := s.setFld F.FEN_BAT_ERATED_e_rated i.eRated
  let s := { s with fen := { s.fen with pack := { s.fen.pack with ocv := i.ocv } }, boot := { s.boot with ran := true } }
  let s := s.setPair F.SEAM_PAIR_ID_LO_id_lo F.SEAM_PAIR_ID_HI_id_hi i.pairId
  (doThmLockSet (s.writeRegsRecord i.regs)).nextEinc

/-- The rail table of the copy differs from Fen's (R324): Fen sequences again under the right one, once in a power-on. -/
def State.railMismatch (s : State) (b : Bool) : State :=
  let s := (s.setBit F.NORC_FEN_SEL_copy b).raise Ev.NORC_RAIL_MISMATCH
  if s.fen.mismatch ≠ 0 then s.noImage
  else { s with fen := { s.fen with mismatch := s.fen.mismatch + 1 } }.resequence

/-- Steps 3 to 6 of R322, with the wrap nonce of this BRINGUP drawn (R271). -/
def State.checkCopies (s : State) : State :=
  let s := { s.tickFree with cryp := { s.cryp with nonce := some (Config.draw s.free % 2 ^ 32) } }
  let (a, b, run) := s.pickCopy
  let s := (s.setFld F.NORC_BOOT_a_cause a).setFld F.NORC_BOOT_b_cause b
  let s := if a ≠ 0 then s.raise Ev.NORC_COPY_SKIPPED else s
  let s := if b ≠ 0 then s.raise Ev.NORC_COPY_SKIPPED else s
  match run.bind (fun c => (s.nor.copy c).map (fun i => (c, i))) with
  | none => s.noImage
  | some (c, i) =>
    let s := (s.setBit F.NORC_BOOT_copy c).setPair F.NORC_BUILD_LO_value F.NORC_BUILD_HI_value i.build
    let s := { s with svn := i.svn }
    if i.rails ≠ s.fen.table then s.railMismatch c else s.runImage i

/-- Steps 2 to 6 of R322: step 3 waits while draws that need fresh entropy are refused (R340). -/
def State.bootImage (s : State) : State :=
  let s := s.markEinc.reloadCounts
  if s.thm.fresh then s.checkCopies else s

/-- BRINGUP waits at step 3 of R322 for a reseed (R340). -/
def State.bootWaits (s : State) : Bool := s.mode == .bringup && s.cryp.nonce.isNone && s.thm.burn.isNone

/-- DRBG_RESEED (R340): BRINGUP goes on where it has waited for fresh entropy. -/
def State.doReseed (s : State) (pass : Bool) : State :=
  let t := doDrbgReseed pass s
  if pass && s.bootWaits then t.checkCopies else t

def execDrbgReseed (pass : Bool) (s : State) : Res := s.core fun s => s.doReseed pass

/-- The core leaves RESET (R7, R287): TWIN_ID is sampled (R162), the near cache's walk begins (R224), and a
fuse sequence that was interrupted is completed before any copy is checked (R349). -/
def State.coreRelease (s : State) (lks : BitVec 4) : State :=
  if s.mode ≠ .reset then s
  else
    let s := { s with
      mode := .bringup, prevMode := .reset, changes := 0, mrtQ := 0
      boot := { lks := lks }, cryp := {}, fen := { s.fen with faultLow := false } }
    let s := ((s.raise Ev.GLB_MODE_CHANGE).setBit F.SEAM_STATUS_unit s.fen.twinId).startWalk
    let s := if s.fuses.life = Machine.returned then s.setBit F.SEAM_PAIR_CFG_pair_en false else s
    let l := s.fuses.leftover
    if l.isEmpty then s.bootImage else { s with thm := { s.thm with burn := some ⟨l, none⟩ } }

/-- A lifecycle transition made by a command has Fen run the sequence again (R342). -/
def State.reseq (s : State) : State := s.resequence

/-- FUSE_BURN_DONE (R341, R342, R349). -/
def execFuseBurnDone (readBack : Bool) (s : State) : Res := s.core fun s => doFuseBurnDone State.reseq State.bootImage readBack s

/-! ### A step of the sequence completes (R287, R291, R292) -/

/-- A counter record waits to be appended (R292). -/
def State.queueCounter (s : State) : State :=
  let r : CounterRec := {
    hours := s.fld F.FEN_HOURS_count, cycles := s.fld F.FEN_CYCLES_count
    rails := (List.range 24).map (fun n => s.reg (F.FEN_RAILn_CNT_drops n).off), sector := 16 + Config.choice s.free 16 % 16 }
  { s.tickFree with nor := { s.nor with appends := s.nor.appends ++ [.counter r] } }

/-- COUNTER_RECORD_APPEND (R292). -/
def execCounterRecordAppend (s : State) : Res := s.core State.queueCounter

/-- Every step has completed: what no step released is released, a counter record waits, the pack is authenticated (R292, R296). -/
def State.sequenceDone (s : State) : State :=
  let s := { s with fen := { s.fen with phase := .on, due := s.fen.resets } }
  s.setRails 2

/-- A step has completed. The core is released when the core step and every step before it have completed. -/
def State.stepDone (s : State) (e : RailEntry) (lks : BitVec 4) : State :=
  let out := (List.range 8).filter (fun n => e.rst.getLsbD n && s.fen.resets.contains n && !s.fen.due.contains n)
  let last := decide (s.fen.table.length ≤ s.fen.step + 1)
  let s := { s with fen := { s.fen with step := s.fen.step + 1, phase := .delay, due := s.fen.due ++ out } }
  let s := if last then s.sequenceDone else s
  let s := if e.core then s.coreRelease lks else s
  if last ∧ s.fen.phase = .on then s.queueCounter.challengePack 1 else s

/-- RAIL_PG_RISE (R287). -/
def State.doPgRise (s : State) (rail : Nat) (lks : BitVec 4) : State :=
  match s.fen.phase, s.entry with
  | .pg, some e => if e.rail.val = rail then s.stepDone e lks else s
  | _, _ => s

def execRailPgRise (rail : Fin 24) (lks : BitVec 4) (s : State) : Res := s.fenCmd fun s => s.doPgRise rail.val lks

/-- RAIL_SETTLE_EXPIRE (R287). -/
def State.doSettle (s : State) (lks : BitVec 4) : State :=
  match s.fen.phase, s.entry with
  | .settle, some e => s.stepDone e lks
  | _, _ => s

def execRailSettleExpire (lks : BitVec 4) (s : State) : Res := s.fenCmd fun s => s.doSettle lks

/-! ### Fen's supply (R281, R292, R297) -/

/-- What FEN_VDD's absence leaves: the fuses, the NAND, the NOR. -/
def State.unpowered (s : State) : State :=
  let r := s.enterReset
  { State.reset with
    pending := s.pending, free := s.free, part := s.part, out := s.out, fuses := s.fuses, retFrames := r.retFrames, retBanks := r.retBanks, retRecs := r.retRecs
    nand := r.nand, area := s.area, dmarks := s.dmarks, nor := { r.nor with appends := [] }, fen := { vdd := false } }

/-- FEN_VDD_LOSS (R281). -/
def execFenVddLoss (s : State) : Res := s.fenCmd State.unpowered

/-- A NOR that the board carries from now on. -/
def State.fit (s : State) (p : NorParts) : State :=
  { s with
    nor := {
      mib := p.mib, bytes := p.bytes.foldl (fun m c => memWrite m c.1 (~~~ c.2)) [], copyA := p.copyA, copyB := p.copyB, counters := p.counters, j0 := p.j0, j1 := p.j1
      seq := (p.j0 ++ p.j1).foldl (fun n r => Nat.max n (r.seq + 1)) 0, intents := openIntents (p.j0 ++ p.j1)
      active := decide (p.j0.foldl (fun n r => Nat.max n (r.seq + 1)) 0 < p.j1.foldl (fun n r => Nat.max n (r.seq + 1)) 0)
      recs := p.counters.length + p.retRecs.length + p.marks.length }
    retFrames := [], retBanks := [], retRecs := p.retRecs, dmarks := p.marks }

/-- FEN_VDD_RISE (R281, R287, R292, R297): every register of Fen is reset, the newest counter record is loaded, SoC is set from the OCV
table, and the rise is a power-on trigger. -/
def State.doVddRise (s : State) (amon1 : Nat) (twinId : Bool) (fitted : Option NorParts) : State :=
  if s.fen.vdd then s
  else
    let s := match fitted with
      | some p => s.fit p
      | none => s
    let i := (s.nor.copy false).orElse (fun _ => s.nor.copy true)
    let s := { s with fen := { twinId := twinId, pack := { ocv := i.elim [] (·.ocv), mv := s.packMv amon1 } } }
    let s := match s.nor.counters with
      | r :: _ => (s.loadCounts r).setBit F.FEN_STATUS_cnt_restored true
      | [] => s
    (s.setFld (F.FEN_MONn_VAL_mv 1) amon1).socFrom s.fen.pack.mv

def execFenVddRise (amon1Mv : Nat) (twinId : Bool) (fitted : Option NorParts) (s : State) : Res :=
  .next (s.doVddRise amon1Mv twinId fitted)

end Sys2Proof.Machine
end

