-- ==== Sys2Proof/Machine/Doze.lean ====
section
/-! DEFINITION. DOZE (R205, R206, R299 to R304): the agreement over Tack, entry, wakes and exit; and the commands that may wake the unit. -/

namespace Sys2Proof.Machine

/-! ### Tack frames and notices (R177, R300) -/

abbrev tackPropose : Nat := 3
abbrev tackAccept : Nat := 4
abbrev tackCommit : Nat := 5
abbrev tackAbort : Nat := 6
abbrev tackWake : Nat := 7

/-- A DOZE notice to every subscribed destination (R300, R368). -/
def State.sendNotice (s : State) : State :=
  s.notify mDoze s.commit (noticeBytes (s.fld F.FEN_DOZE_CFG_notice_ms) s.mode.code)

/-- Fen's wake latches (R301). -/
def State.wakeLatches (s : State) : Nat :=
  s.fld F.FEN_DOZE_STAT_port + s.fld F.FEN_DOZE_STAT_energy + s.fld F.FEN_DOZE_STAT_monitor + s.fld F.FEN_DOZE_STAT_pcie +
  s.fld F.FEN_DOZE_STAT_twin

/-- The wake latches are cleared and armed. -/
def State.arm (s : State) : State :=
  let s := (((s.setFld F.FEN_DOZE_STAT_port 0).setFld F.FEN_DOZE_STAT_energy 0).setFld F.FEN_DOZE_STAT_monitor 0).setFld F.FEN_DOZE_STAT_pcie 0
  { s.setFld F.FEN_DOZE_STAT_twin 0 with doze := { s.doze with armed := true } }

def State.setPhase (s : State) (p : DozePhase) : State := { s with doze := { s.doze with phase := p } }

/-- An agreement that has not committed ends with an outcome. -/
def State.abortDoze (s : State) (outcome : Nat) (tell : Bool) : State :=
  let s := (s.setFld F.FEN_DOZE_STAT_outcome outcome).endDoze
  if tell then s.sendTack tackAbort else s

/-! ### Wakes (R301, R302) -/

/-- The source is enabled; energy wakes only after the commit. -/
def State.wakes (s : State) : Wake → Bool
  | .port p => (s.fld F.FEN_DOZE_CFG_wake_port).testBit p.val
  | .monitor ch => s.bit F.FEN_DOZE_CFG_wake_mon && s.bit (F.FEN_MONn_CFG_wake ch.val)
  | .energy => s.bit F.FEN_DOZE_CFG_e_wake && s.mode == .doze
  | .pcie => s.bit F.FEN_DOZE_CFG_wake_pcie
  | .twin => true

/-- The source's latch. -/
def State.latch_ (s : State) : Wake → State
  | .port p => s.setFld F.FEN_DOZE_STAT_port (s.fld F.FEN_DOZE_STAT_port ||| 2 ^ p.val)
  | .monitor _ => s.setBit F.FEN_DOZE_STAT_monitor true
  | .energy => s.setBit F.FEN_DOZE_STAT_energy true
  | .pcie => s.setBit F.FEN_DOZE_STAT_pcie true
  | .twin => s.setBit F.FEN_DOZE_STAT_twin true

/-- Exit begins: the near cache's walk runs from the wake on (R206), and WAKE leaves on Tack. -/
def State.beginExit (s : State) : State := ((s.setPhase .exiting).cleanAll.startWalk).sendTack tackWake

/-- An armed wake source is latched: before the commit it aborts the agreement, after it it starts an exit (R301, R302). -/
def State.wake (s : State) (w : Wake) : State :=
  if !s.doze.armed || !s.wakes w then s
  else
    let s := s.latch_ w
    match s.doze.phase with
    | .proposed _ | .accepted | .noticed => s.abortDoze 3 true
    | .committed | .entered => s.beginExit
    | _ => s

/-- DOZE_WAKE (R301, R302). -/
def execDozeWake (w : Wake) (s : State) : Res := s.core fun s => s.wake w

/-- A DOZE or WAKE frame on Tack (R162, R165, R176, R177, R262): it passes its check and comes of the twin, and the claim in it is seen before what it says. -/
def State.dozeIn (s : State) (t : TackId) (k : State → State) : State := s.tackIn t fun s => k (s.seeClaim t.epoch)

/-- WAKE_RECEIVE (R302): a WAKE from the twin is a twin wake of a unit that has committed. -/
def State.doWakeReceive (s : State) : State := if s.mode = .doze then s.wake .twin else s

def execWakeReceive (t : TackId) (s : State) : Res := s.core fun s => s.dozeIn t State.doWakeReceive

/-! ### The agreement (R299, R300) -/

/-- Both units are failover-ready (R193). -/
def State.bothReady (s : State) : Bool := s.ready && s.seam.peer.any (·.ready)

/-- DOZE (R299, R345). A unit in SOLO arms its latches and sends its notice at once (DEDUCED, log entry 25). -/
def State.doDoze (s : State) (h : Hdr) : State :=
  if s.fuses.life = Machine.returned then s.complete h .busy
  else if (s.mode = .paired ∨ s.mode = .resync) ∧ !s.lead then s.complete h .invalid
  else if s.doze.phase ≠ .idle then s.complete h .busy
  else
    match s.mode with
    | .paired =>
      if s.bothReady then
        ({ s with doze := { s.doze with phase := .proposed 1, cmd := some h } }).sendTack tackPropose
      else s.complete h .busy
    | .solo => ({ s.arm with doze := { s.arm.doze with phase := .noticed, cmd := some h } }).sendNotice
    | _ => s.complete h .busy

def execDoze (h : Hdr) (s : State) : Res := s.start h .doze fun s => s.doDoze h

/-- DOZE_PROPOSE_RECEIVE (R300): FOLLOW accepts, or aborts; a PROPOSE that comes again is accepted again. -/
def State.doPropose (s : State) : State :=
  if s.mode = .doze then s
  else if s.doze.phase = .accepted then s.sendTack tackAccept
  else if s.mode = .paired ∧ !s.lead ∧ s.ready ∧ s.wakeLatches = 0 ∧ s.doze.phase = .idle then
    ((s.arm.setPhase .accepted).sendTack tackAccept).sendNotice
  else (s.setFld F.FEN_DOZE_STAT_outcome 2).sendTack tackAbort

def execDozeProposeReceive (t : TackId) (s : State) : Res := s.core fun s => s.dozeIn t State.doPropose

/-- DOZE_ACCEPT_RECEIVE (R300). -/
def State.doAccept (s : State) : State :=
  match s.doze.phase with
  | .proposed _ => (s.arm.setPhase .noticed).sendNotice
  | _ => s

def execDozeAcceptReceive (t : TackId) (s : State) : Res := s.core fun s => s.dozeIn t State.doAccept

/-- DOZE_PROPOSE_RETRY (R300): DOZE_PROPOSE leaves up to three times. -/
def State.doProposeRetry (s : State) : State :=
  match s.doze.phase with
  | .proposed n => if n < 3 then (s.setPhase (.proposed (n + 1))).sendTack tackPropose else s.abortDoze 4 true
  | _ => s

def execDozeProposeRetry (s : State) : Res := s.core State.doProposeRetry

/-- A unit commits (R205, R265, R300): the command completes, a scan is aborted, the mode is DOZE, and no host is served (R7). -/
def State.commitDoze (s : State) : State :=
  let h := s.doze.cmd
  let s := { s with doze := { s.doze with phase := .committed, cmd := none, mode := s.mode, e := s.fld F.FEN_BAT_E_e_est } }
  let s := s.setFld F.FEN_DOZE_STAT_outcome 1
  let s := match h with
    | some h => s.complete h .ok
    | none => s
  let s := if s.scan.isSome then s.endScan 3 0 else s
  (s.setMode .doze).reviewPair

/-- DOZE_NOTICE_EXPIRE (R300): LEAD sends DOZE_COMMIT three times. -/
def State.doNoticeExpire (s : State) : State :=
  if s.doze.phase ≠ .noticed then s
  else
    let s := if s.mode = .paired then ((s.sendTack tackCommit).sendTack tackCommit).sendTack tackCommit else s
    s.commitDoze

def execDozeNoticeExpire (s : State) : Res := s.core State.doNoticeExpire

/-- DOZE_COMMIT_RECEIVE (R300, R302). -/
def State.doCommitReceive (s : State) : State := if s.doze.phase = .accepted then s.commitDoze else s

def execDozeCommitReceive (t : TackId) (s : State) : Res := s.core fun s => s.dozeIn t State.doCommitReceive

/-- DOZE_ABORT_RECEIVE (R300): FOLLOW's refusal of the proposal, or a twin wake. -/
def State.doAbortReceive (s : State) : State :=
  match s.doze.phase with
  | .proposed _ => s.abortDoze 2 false
  | _ => s.wake .twin

def execDozeAbortReceive (t : TackId) (s : State) : Res := s.core fun s => s.dozeIn t State.doAbortReceive

/-- DOZE_COMMIT_TIMEOUT (R300). -/
def State.doCommitTimeout (s : State) : State := if s.doze.phase = .accepted then s.abortDoze 4 true else s

def execDozeCommitTimeout (s : State) : Res := s.core State.doCommitTimeout

/-! ### Entry and exit (R205, R206, R303, R304) -/

/-- A Seam link is parked: what it has not delivered stays with it. -/
def State.parkLink (s : State) (l : Nat) : State :=
  let x := s.seamLink l
  if x.up then
    ((s.setLink l { x.taken with up := false, queue := x.pending }).setBit (linkBit l) false).raise Ev.SEAM_LINK_DOWN l
  else s

/-- FEN_DOZE_ENTER (R205, R291, R303). -/
def State.doDozeEnter (s : State) : State :=
  if s.mode ≠ .doze ∨ s.doze.phase ≠ .committed then s
  else
    let s := s.cleanAll
    let s := ({ s with nc := { s.nc with sets := [], side := [] } }).moveChannels dmcReady dmcSelfRefresh
    let dozing := (List.range 8).filter (fun n => s.bit (F.FEN_RSTn_CFG_doze n))
    let s := { s with fen := { s.fen with
      on := s.fen.on.filter (fun r => !s.fen.table.any (fun e => e.rail.val == r && e.serdes))
      resets := dozing.foldl setAdd s.fen.resets } }
    ((s.parkLink 0).parkLink 1).setPhase .entered |>.raise Ev.FEN_DOZE_ENTER

def execFenDozeEnter (s : State) : Res := s.core State.doDozeEnter

/-- FEN_DOZE_EXIT (R206, R291, R303, R304): once the near cache's walk has ended, the mode held at commit returns. -/
def State.doDozeExit (s : State) : State :=
  if s.mode ≠ .doze ∨ s.doze.phase ≠ .exiting ∨ s.nc.walking then s
  else
    let s := s.moveChannels dmcSelfRefresh dmcReady
    let s := { s with fen := { s.fen with on := s.fen.table.map (fun (e : RailEntry) => e.rail.val), due := s.fen.resets } }
    let s := { s with doze := { s.doze with phase := .idle, armed := false, grace := s.pairEn } }
    let s := (s.setMode s.doze.mode).raise Ev.FEN_DOZE_EXIT
    let s := s.notify mResume s.commit []
    ((s.flushPcie.reviewTwin).seize).retryAll

def execFenDozeExit (s : State) : Res := s.pairRow State.doDozeExit

/-- DOZE_TWIN_GRACE_END (R303): R178 applies in full. -/
def State.doGraceEnd (s : State) : State :=
  if s.doze.grace then ({ s with doze := { s.doze with grace := false } }).reviewTwin else s

def execDozeTwinGraceEnd (s : State) : Res := s.pairRow State.doGraceEnd

/-! ### Commands of other units that may wake (R301) -/

/-- A request of RoCE v2. -/
def isRequest : Opcode → Bool
  | .readResp | .ack | .atomicAck | .rcOther | .udOther | .other => false
  | _ => true

/-- A frame of PTP or LLDP, whose EtherTypes IEEE 802 gives (R301; PRESUMED, log entry 132). -/
def timeOrLldp (etype : BitVec 16) : Bool := etype == 0x88F7#16 || etype == 0x88CC#16

/-- PACKET_RECEIVE (R72, R301, R368). -/
def State.doReceive (s : State) (p : Packet) : State :=
  let s := s.receive p
  if (s.mode = .doze ∧ !timeOrLldp p.etype) ∨ (s.mode ≠ .doze ∧ isRequest p.op) then s.wake (.port (Fin.ofNat 8 (portOf p.lport.val))) else s

def execPacketReceive (p : Packet) (s : State) : Res := s.core fun s => (s.doReceive p).afterFree

/-- PCIE_DOORBELL (R301, R367): a command that arrives over PCI Express before the commit. -/
def State.doDoorbellWake (s : State) (v : Word) (slots : List MgmtFrame) : State :=
  let was := s.fld F.PCIE_STATUS_head
  let s := s.doDoorbell v slots
  if s.fld F.PCIE_STATUS_head ≠ was then s.wake .pcie else s

def execPcieDoorbell (value : Word) (slots : List MgmtFrame) (s : State) : Res :=
  s.post F.PCIE_CMD_DB_tail.off value fun s => s.doDoorbellWake value slots

/-- PATH_LOST (R178, R301): before the commit the loss of the twin, after it the loss of Tack, is a twin wake. -/
def State.doPathLostWake (s : State) (p : Path) : State :=
  let s := s.doPathLost p
  if s.twin = 2 then s.wake .twin else s

def execPathLost (path : Path) (s : State) : Res := s.pairRow fun s => s.doPathLostWake path

/-- ENERGY_ESTIMATE (R298, R301): E below e_wake percent of its value at commit wakes. -/
def State.doEnergy (s : State) : State :=
  let s := s.writeE s.estimate
  if s.fld F.FEN_BAT_E_e_est * 100 < s.fld F.FEN_DOZE_CFG_e_wake * s.doze.e then s.wake .energy else s

def execEnergyEstimate (s : State) : Res := s.fenCmd State.doEnergy

/-- MON_TRIP (R284, R301): 4 samples in a row beyond a threshold. -/
def State.doMonTrip (s : State) (ch : Fin 16) : State :=
  if s.bit (F.FEN_MONn_CFG_tripped ch.val) ∨ alGetD s.fen.beyond ch.val 0 < 4 then s
  else
    let s := { s with fen := { s.fen with inside := alDel s.fen.inside ch.val } }
    (((s.setBit (F.FEN_MONn_CFG_tripped ch.val) true).raise Ev.FEN_MON_TRIP ch.val)).wake (.monitor ch)

def execMonTrip (ch : Fin 16) (s : State) : Res := s.fenCmd fun s => s.doMonTrip ch

/-- BAT_PRESENCE_CHANGE (R296, R301): E is 0 until the pack has been authenticated again. -/
def State.doPresence (s : State) (present : Bool) : State :=
  let s := ((s.setBit F.FEN_BAT_STAT_present present).setBit F.FEN_BAT_STAT_auth false).writeE 0
  if s.mode = .doze then s.wake .energy else s.challengePack 1

def execBatPresenceChange (present : Bool) (s : State) : Res := s.fenCmd fun s => s.doPresence present

end Sys2Proof.Machine
end

