-- ==== Sys2Proof/Machine/View.lean ====
section
/-! DEFINITION. What a read of a register returns (R14, R379, R381 to R383), the commands that read (R371, R380), the test access port
(R348, R375) and level samples of the monitors (R359). -/

namespace Sys2Proof.Machine

/-! ### Fields that follow other state at the moment of the read -/

/-- An engine that is not ACTIVE among those present (R383). -/
def State.someFenced (s : State) : Bool := (List.range s.part.engines).any (fun e => s.fld (F.VE_STATUS_state e) != 0)

/-- GLB_MODE (R7, R383). -/
def State.modeWord (s : State) : Word :=
  let b := fun (p : Bool) (n : Nat) => if p then 2 ^ n else 0
  BitVec.ofNat 32 (s.changes % 256 * 2 ^ 24 + b (s.bit F.SEAM_WIT_STAT_held) 19 + b s.someFenced 18 +
    b (s.fld F.TIME_STATUS_state == holdover) 17 + b (s.bit F.TLR_STATUS_throttle) 16 + b (s.bit F.QLT_STATUS_frozen) 15 +
    b (s.bit F.SEAM_STATUS_lead) 10 + s.prevMode.code * 2 ^ 7 + s.mode.code)

/-- THM_LIFECYCLE (R342, R352): fuses, and the debug level. -/
def State.lifeWord (s : State) : Word :=
  let w := putBits (s.reg F.THM_LIFECYCLE_state.off) 31 29 s.fuses.life
  putBits (putBits w 26 26 (if s.fuses.destroyBegun then 1 else 0)) 25 25 (if s.fuses.scrapIntent then 1 else 0)

/-- The DRK as THM_KEYS shows it. -/
def Drk.code : Drk → Nat | .absent => 0 | .present => 1 | .destroyed => 2

/-- THM_KEYS (R344, R352). -/
def Fuses.keysWord (f : Fuses) : Word :=
  BitVec.ofNat 32 (f.enabled.toNat * 2 ^ 28 + f.programmed.toNat * 2 ^ 24 + f.revoked.toNat * 2 ^ 20 + f.drk.code)

/-- Tiles left to be copied, and their bytes in MiB rounded up (R190, R192). -/
def State.leftTiles (s : State) : Nat := s.seam.copySet.length + s.seam.inflight.length

def State.rsyWord (s : State) : Word :=
  let n := s.leftTiles
  let top := (if n = 0 then 0 else 4) + (if s.seam.full then 2 else 0) + (if s.seam.cut then 1 else 0)
  BitVec.ofNat 32 (top * 2 ^ 29 + ceilDiv n 16)

/-- DIRTY lines of the near cache. -/
def State.dirtyLines (s : State) : Nat := s.nc.sets.foldl (fun n p => n + (p.2.ways.filter (fun w => w.2.dirty)).length) 0

/-- A word of the Peat snapshot slot that PEAT_WIN_IDX names (R363). -/
def State.peatWord (s : State) (w : Nat) : Word :=
  match alGet s.peatSnap (s.fld F.PEAT_WIN_IDX_slot) with
  | some r => BitVec.ofNat 32 (leNat ((r.bytes.drop (4 * w)).take 4))
  | none => 0

/-- The value a register shows: stored, or computed at the read. -/
def State.shown (s : State) (off : Nat) : Word :=
  let put := fun (f : Fld) (v : Nat) => putBits (s.reg off) f.hi f.lo v
  if off = F.GLB_MODE_mode.off then s.modeWord
  else if off = F.SPOOL_FREE_free_cells.off then put F.SPOOL_FREE_free_cells s.freeCells
  else if off = F.RGN_PARK_STAT_parked.off then put F.RGN_PARK_STAT_parked s.parks.length
  else if off = F.RGN_BROKEN_CNT_broken.off then put F.RGN_BROKEN_CNT_broken (s.kept.rdt.filter (fun p => p.2.broken)).length
  else if 0x400000 ≤ off ∧ off < 0x800000 ∧ off % 0x10000 = 0 then
    putBits (s.reg off) 12 0 (s.boundTo ((off - 0x400000) / 0x10000))
  else if off = F.PUB_STAT_CHAN_open.off then put F.PUB_STAT_CHAN_open s.kept.chans.length
  else if off = F.PUB_STAT_SUB_stopped.off then put F.PUB_STAT_SUB_stopped (s.kept.subs.filter (fun p => p.2.state == .stopped)).length
  else if off = F.TLR_STATUS_mig_busy.off then put F.TLR_STATUS_mig_busy s.tlr.running.length
  else if off = F.TLR_HOMED_homed_tiles.off then put F.TLR_HOMED_homed_tiles s.homed
  else if off = F.TLR_CHURN_STAT_churning.off then put F.TLR_CHURN_STAT_churning (s.kept.tiles.filter (fun p => !p.2.units.isEmpty)).length
  else if off = F.NCACHE_STATUS_dirty.off then put F.NCACHE_STATUS_dirty s.dirtyLines
  else if off = F.NCACHE_FRESH_STAT_used.off then put F.NCACHE_FRESH_STAT_used s.kept.freshTab.length
  else if off = F.QLT_NAND_TILES_tiles.off then put F.QLT_NAND_TILES_tiles s.nandTiles
  else if off = F.SEAM_RSY_STAT_active.off then s.rsyWord
  else if off = F.SEAM_RSY_LEFT_left_tiles.off then put F.SEAM_RSY_LEFT_left_tiles s.leftTiles
  else if off = F.PEAT_STATUS_used.off then put F.PEAT_STATUS_used s.kept.peat.length
  else if 0x50100 ≤ off ∧ off < 0x50180 then s.peatWord ((off - 0x50100) / 4)
  else if off = F.THM_LIFECYCLE_state.off then s.lifeWord
  else if off = F.THM_KEYS_enabled.off then s.fuses.keysWord
  else if off = F.THM_ROLLBACK_value.off then put F.THM_ROLLBACK_value s.fuses.rollback
  else if off = F.THM_DEVID_LO_value.off then BitVec.ofNat 32 s.fuses.devid
  else if off = F.THM_DEVID_HI_value.off then BitVec.ofNat 32 (s.fuses.devid / 2 ^ 32)
  else s.reg off

/-- A read (R2, R379): zero where no register lies or the unit is fused off. -/
def State.readReg (s : State) (off : Nat) : Word :=
  if fusedOff s.part off ∨ (regAt off).isNone then 0 else s.shown off

/-! ### Pairs of halves (R382) -/

/-- The _LO registers of pairs of RO registers; time-of-day and the commit clock have their own snapshot (R315). -/
def loPairs : List Nat :=
  [F.RGN_FAULT_ADDR_LO_addr_lo.off, F.PUB_DETACH_SEQ_LO_first_lo.off, F.CRYP_LANE_FAIL_LO_failed.off, F.CRC_SCAN_RES_LO_value.off,
   F.TIME_OFFSET_LO_value.off, F.NORC_BUILD_LO_value.off, F.THM_DEVID_LO_value.off, F.PEAT_SNAP_SEQ_LO_value.off]

/-- Latches for one source at most one value of each _HI register. -/
def State.setLatch (s : State) (src : Source) (off : Nat) (w : Word) : State :=
  { s with latch := (src, off, w) :: s.latch.filter (fun l => !(l.1 == src && l.2.1 == off)) }

/-- A read of a _LO register latches its _HI register for the same source. -/
def State.doLoLatch (s : State) (src : Source) (off : Nat) : State :=
  if loPairs.contains off then s.setLatch src (off + 4) (s.readReg (off + 4)) else s

/-- One register read of a source: the latched half where there is one, else the register; an access that is an error reads zero and is
recorded (R379). -/
def State.readFor (s : State) (src : Source) (off : Nat) : State × Word :=
  if off % 4 ≠ 0 then (s.accessError 2 off, 0)
  else if 0x8000000 ≤ off ∧ off < 0xC000000 then (s, s.nor.word (off - 0x8000000))
  else
    let s := if off = F.TIME_TOD_NS_value.off then doTimeTodSnapshot s else s
    match s.latch.find? (fun l => l.1 = src ∧ l.2.1 = off) with
    | some l => ({ s with latch := s.latch.erase l }, l.2.2)
    | none =>
      if (regAt off).isNone && !fusedOff s.part off then (s.accessError 1 off, 0)
      else (s.doLoLatch src off, s.readReg off)

/-- CSR_READ_LO_LATCH (R379, R382): a read of the control processor or of a core pair, which in the state of R325 reaches the NOR, GLB, THM and NORC alone. -/
def State.doCsrRead (s : State) (src : Source) (off : Nat) : State :=
  if s.bit F.NORC_BOOT_none && !reachedBare off then s else (s.readFor src off).1

def execCsrReadLoLatch (src : Source) (off : Nat) (s : State) : Res := s.core fun s => s.doCsrRead src off

/-- Consecutive registers. -/
def State.readRegs (src : Source) : Nat → Nat → State → State × List Nat
  | 0, _, s => (s, [])
  | n + 1, off, s =>
    let (s, v) := s.readFor src off
    let (s, l) := State.readRegs src n (off + 4) s
    (s, v.toNat :: l)

/-- REGISTER_READ (R380). -/
def State.doRegisterRead (s : State) (h : Hdr) (off n : Nat) : State :=
  if off % 4 ≠ 0 ∨ 2 ^ 28 ≤ off ∨ n = 0 ∨ 1014 < n then s.complete h .invalid
  else
    let (s, l) := State.readRegs h.src n off s
    s.complete h .ok l

def execRegisterRead (h : Hdr) (off count : Nat) (s : State) : Res := s.start h (.registerRead off count) fun s => s.doRegisterRead h off count

/-! ### QUERY (R371) -/

def RState.code : RState → Nat | .free => 0 | .valid => 1 | .closing => 2
def SubState.code : SubState → Nat | .live => 1 | .stopped => 2 | .detached => 3
def qpCode : QpState → Nat | .reset => 0 | .init => 1 | .rtr => 2 | .rts => 3 | .error => 4

/-- The tiles that the job of an extent still has to move (R120). -/
def State.jobLeft (s : State) (i : Nat) : Nat :=
  match s.tlr.jobs.find? (fun j => j.region == i) with
  | some j => (j.left.filter (fun t => if j.toDram then (s.tile t).inNand else (s.tile t).inDram)).length
  | none => 0

/-- State, counters and binding of an object; FREE with zeros where it does not exist; none where the index lies outside its class or
the unit is fused. -/
def State.queryVals (s : State) (i : Nat) : QueryObj → Option (List Nat)
  | .unit => if i = 0 then some [s.mode.code, if s.bit F.SEAM_STATUS_lead then 1 else 0, s.fld F.SEAM_CLAIM_epoch] else none
  | .domain =>
    if 1024 ≤ i then none
    else some (match alGet s.kept.domains i with
      | some (d : Domain) => [1, (s.kept.rdt.filter (fun p => p.2.state != .free && p.2.pd == i)).length,
          (s.kept.qps.filter (fun p => p.2.state != .reset && p.2.pd == i)).length, d.keySlot]
      | none => [0, 0, 0, 0])
  | .region =>
    if s.fld F.RGN_RDT_CFG_count ≤ i then none
    else some (match alGet s.kept.rdt i with
      | some (r : Rgn) => [r.state.code, if r.broken then 1 else 0, s.admitted i, r.pd, s.jobLeft i]
      | none => [0, 0, 0, 0, 0])
  | .qp =>
    if 65536 ≤ i then none
    else some (match s.qpAt i with
      | some q => [qpCode q.state, q.engine.elim 0 (· + 1), q.msgs.length, q.pd, q.syndrome, q.synPsn]
      | none => [0, 0, 0, 0, 0, 0])
  | .srq =>
    if 4096 ≤ i then none
    else some (match alGet s.kept.srqs i with
      | some (x : Srq) => [1, x.entries.length, x.pd]
      | none => [0, 0, 0])
  | .channel =>
    if 4096 ≤ i then none
    else some (match alGet s.kept.chans i with
      | some (c : Chan) => [1, c.next - 1, c.pubs.length, c.log.length]
      | none => [0, 0, 0, 0])
  | .subscriber =>
    if 4194304 ≤ i then none
    else some (match alGet s.kept.subs i with
      | some (x : Sub) => [x.state.code, x.sent, x.released, x.qp]
      | none => [0, 0, 0, 0])
  | .engine =>
    if s.part.engines ≤ i then none
    else some [s.fld (F.VE_STATUS_state i), s.boundTo i, s.fld (F.VE_MSG_CNT_messages i)]
  | .bank =>
    if s.part.dmcs * 1024 ≤ i then none
    else some [if s.retBanks.contains (i / 1024, i % 1024) then 1 else 0, s.bankLoad (i / 1024) (i % 1024)]

/-- QUERY (R371). -/
def State.doQuery (s : State) (h : Hdr) (cls : QueryObj) (i : Nat) : State :=
  match s.queryVals i cls with
  | some l => s.complete h .ok l
  | none => s.complete h .invalid

def execQuery (h : Hdr) (cls : QueryObj) (index : Nat) (s : State) : Res := s.start h (.query cls index) fun s => s.doQuery h cls index

/-! ### The test access port (R348, R375) -/

/-- The debug level. -/
def State.debugLevel (s : State) : Nat := s.fld F.THM_LIFECYCLE_debug

/-- The accesses of the matrix of R348, outside RESET: intrusive instructions; reads of registers; halts and writes of registers; reads and
writes of memory. -/
def State.tapS (s : State) : Bool := s.mode == .bringup
def State.tapR (s : State) : Bool := decide (1 ≤ s.debugLevel) && s.mode != .save
def State.tapC (s : State) : Bool := s.debugLevel == 2 && s.mode != .save && s.mode != .doze
def State.tapW (s : State) : Bool := s.tapC && (s.mode == .bringup || s.mode == .solo)

/-- The debugger may read this byte: of the tenant range, or of the carve-out once its fill has ended (R215). -/
def State.tapRange (s : State) (a : Nat) : Bool := s.inTenant a 1 || (decide (carveBase ≤ a) && decide (a < carveEnd))

/-- A pair is halted, unless a serving unit would keep fewer than three pairs TRUSTED or SPARE. -/
def State.haltPair (s : State) (p : Nat) : State :=
  if 2 ≤ s.pairState p ∨ (s.serves ∧ s.countUsable < 4) then s
  else
    let s := s.setPair_ p 2
    ({ s with lks := { s.lks with halted := s.lks.halted ++ [p] } }).moveTasks p

/-- A byte of management SRAM: as a debugger has written it, else the zero of BRINGUP (R214), and once the firmware runs, which writes there what it will, free (DESIGN CHOICE, log
entry 24). -/
def State.sramByte (s : State) (a : Nat) : Nat :=
  (alGet s.kept.sram a).elim (if s.boot.ran then Config.draw s.free % 256 else 0) (fun (b : Byte) => b.toNat)

/-- The key slot that a debug write homes a tile with: that of the domain of the first region which covers the tile, else slot 0 (DESIGN CHOICE, log entry 147). -/
def State.coverKey (s : State) (t : Nat) : Nat :=
  match s.kept.rdt.find? (fun p => p.2.state = .valid ∧ !p.2.tiled ∧ p.2.target / 65536 ≤ t ∧ t * 65536 < p.2.target + p.2.length) with
  | some p => s.domainKey p.2.pd
  | none => 0

/-- A debug read of a byte of memory. -/
def State.tapRead (s : State) (a : Nat) : State := (s.load a 1).tickFree.put (.tap [(s.byte a).toNat])

/-- A read of the carve-out waits for its fill (R215), and every access to the near cache for its walk (R224). -/
def State.tapWaits (s : State) (a : Nat) : Bool := s.nc.walking || (decide (carveBase ≤ a) && !s.boot.filled)

/-- Debug reads that need wait no more are made, in the order they came. -/
def State.releaseReads (s : State) : State :=
  (s.boot.reads.filter (fun a => !s.tapWaits a)).foldl State.tapRead { s with boot := { s.boot with reads := s.boot.reads.filter s.tapWaits } }

def execCarveoutFill (s : State) : Res := s.core fun s => s.doCarveFill.releaseReads

def execInvWalkDone (s : State) : Res := s.core fun s => s.doWalkDone.releaseReads

/-- TAP_INSTRUCTION (R348, R375). An intrusive instruction in BRINGUP halts BRINGUP; elsewhere it executes as BYPASS. A write of the carve-out reaches the
tile-table area alone, as R40 says (DEDUCED, log entry 147). A step of a halted pair is its program's, which the model does not hold. -/
def State.doTap (s : State) : TapOp → State
  | .bypass | .sample => s.put (.tap [])
  | .idcode => s.put (.tap [Config.idcode])
  | .extest | .clamp | .highz | .extestPulse | .extestTrain =>
    if s.tapS then { s with boot := { s.boot with halted := true } } else s.put (.tap [])
  | .csrRead off =>
    if s.tapR then
      let (s, v) := s.readFor .debug off
      s.put (.tap [v.toNat])
    else s
  | .peatRead slot =>
    if s.tapR then s.put (.tap ((alGet s.kept.peat slot).elim [] (fun (r : PeatRec) => r.bytes.map (·.toNat)))) else s
  | .traceRead _ => if s.tapR then s.tickFree.put (.tap [Config.draw s.free]) else s
  | .haltPair p => if s.tapC then s.haltPair p.val else s
  | .stepPair _ => s
  | .releasePair p => if s.tapC then s.releasePair p.val else s
  | .csrWrite off v => if s.tapC then s.deliverWrite ⟨⟨.debug, 0, 0⟩, .registerWrite off [v], true⟩ else s
  | .sramRead a => if s.tapC && decide (a < 8388608) then s.tickFree.put (.tap [s.sramByte a]) else s
  | .sramWrite a v =>
    if s.tapC && decide (a < 8388608) then { s with kept := { s.kept with sram := alPut s.kept.sram a v } } else s
  | .memRead a => if s.tapC && s.tapRange a then (if s.tapWaits a then { s with boot := { s.boot with reads := s.boot.reads ++ [a] } } else s.tapRead a) else s
  | .memWrite a v =>
    if s.tapW && (s.inTenant a 1 || inTableArea a 1) then s.ownStore ⟨s.coverKey (a / 65536), [(a, 1)], [v]⟩ else s

def execTapInstruction (op : TapOp) (s : State) : Res := s.core fun s => s.doTap op

/-! ### Level samples (R359) -/

/-- homed_tiles in per mille of cap_tiles; free where the cap is 0, and in its rounding. -/
def State.homedPerMille (s : State) : Nat :=
  if s.cap = 0 then Config.draw s.free % 2 ^ 32
  else if Config.roundsUp s.free then ceilDiv (s.homed * 1000) s.cap else s.homed * 1000 / s.cap

/-- MON_LEVEL_SAMPLE (R359). -/
def State.doLevels (s : State) : State :=
  let homed := s.homedPerMille
  let s := (s.tickFree.sample 8 none s.freeCells).sample 9 none homed
  let s := forUp (fun ch s => s.sample 10 (some ch) (s.fld (F.FEN_MONn_VAL_mv ch))) 16 0 s
  let s := s.sample 11 none (toSigned 8 (s.fld F.FEN_VCORE_STAT_tj) + 64).toNat
  (s.sample 12 none (s.fld F.FEN_VCORE_STAT_meas_mv)).sample 13 none (s.fld F.FEN_BAT_E_e_est)

def execMonLevelSample (s : State) : Res := s.core State.doLevels

end Sys2Proof.Machine
end

