-- ==== Sys2Proof/Machine/Dispatch.lean ====
section
/-! DEFINITION. The dispatch: one arm per command, each a direct call of its meaning. -/

namespace Sys2Proof.Machine

/-- The effect of a command on everything but the queue. -/
def exec (i : Instr) (s : State) : Host.Outcome State Fault Refusal :=
  match i with
  | .gateCommandArrive c => Sys2Proof.Machine.execGateCommandArrive c s
  | .gateWindowClose => Sys2Proof.Machine.execGateWindowClose s
  | .weftStall channel waitUs => Sys2Proof.Machine.execWeftStall channel waitUs s
  | .weftStallCfgWrite value => Sys2Proof.Machine.execWeftStallCfgWrite value s
  | .spoolAllocate owner prio => Sys2Proof.Machine.execSpoolAllocate owner prio s
  | .spoolFree cell issuer gen => Sys2Proof.Machine.execSpoolFree cell issuer gen s
  | .spoolReclaimDone e => Sys2Proof.Machine.execSpoolReclaimDone e s
  | .packetReceive p => Sys2Proof.Machine.execPacketReceive p s
  | .cnpReceive qp => Sys2Proof.Machine.execCnpReceive qp s
  | .pfcPauseReceive port prio quanta => Sys2Proof.Machine.execPfcPauseReceive port prio quanta s
  | .ccRateUpdate qp => Sys2Proof.Machine.execCcRateUpdate qp s
  | .messageCommit qp psn rd => Sys2Proof.Machine.execMessageCommit qp psn rd s
  | .ackIdleExpire qp => Sys2Proof.Machine.execAckIdleExpire qp s
  | .ackMsgsReached qp => Sys2Proof.Machine.execAckMsgsReached qp s
  | .nakSend qp => Sys2Proof.Machine.execNakSend qp s
  | .rnrThresholdExpire qp psn => Sys2Proof.Machine.execRnrThresholdExpire qp psn s
  | .nandReadComplete tile cw res dual lane => Sys2Proof.Machine.execNandReadComplete tile cw res dual lane s
  | .fetchHoldExpire tile => Sys2Proof.Machine.execFetchHoldExpire tile s
  | .drainDeadline region => Sys2Proof.Machine.execDrainDeadline region s
  | .deregisterDrainDone region => Sys2Proof.Machine.execDeregisterDrainDone region s
  | .engineCheckError e => Sys2Proof.Machine.execEngineCheckError e s
  | .engineBistFail e => Sys2Proof.Machine.execEngineBistFail e s
  | .seqReplaceSend qp => Sys2Proof.Machine.execSeqReplaceSend qp s
  | .selfTestDone e pass => Sys2Proof.Machine.execSelfTestDone e pass s
  | .qpMove qp dest => Sys2Proof.Machine.execQpMove qp dest s
  | .qpRebalancePeriod => Sys2Proof.Machine.execQpRebalancePeriod s
  | .requesterRetryTimeout qp => Sys2Proof.Machine.execRequesterRetryTimeout qp s
  | .publishDeliver chan sub => Sys2Proof.Machine.execPublishDeliver chan sub s
  | .subscriberAckReceive chan sub seq => Sys2Proof.Machine.execSubscriberAckReceive chan sub seq s
  | .gapEntryWrite chan sub => Sys2Proof.Machine.execGapEntryWrite chan sub s
  | .publishHint chan => Sys2Proof.Machine.execPublishHint chan s
  | .migrationStart => Sys2Proof.Machine.execMigrationStart s
  | .migrationSwitch tile unit reads => Sys2Proof.Machine.execMigrationSwitch tile unit reads s
  | .ageTick => Sys2Proof.Machine.execAgeTick s
  | .churnMerge tile reads fails => Sys2Proof.Machine.execChurnMerge tile reads fails s
  | .dramRebalance ch => Sys2Proof.Machine.execDramRebalance ch s
  | .powerFailIndication path => Sys2Proof.Machine.execPowerFailIndication path s
  | .powerFailGlitch path => Sys2Proof.Machine.execPowerFailGlitch path s
  | .powerFailConfirm path => Sys2Proof.Machine.execPowerFailConfirm path s
  | .tierCloseDone => Sys2Proof.Machine.execTierCloseDone s
  | .saveStreamDone saveMs cipher fails => Sys2Proof.Machine.execSaveStreamDone saveMs cipher fails s
  | .bringupComplete scan => Sys2Proof.Machine.execBringupComplete scan s
  | .restoreServingBegin => Sys2Proof.Machine.execRestoreServingBegin s
  | .restoreTilePresent tile first second dual lane => Sys2Proof.Machine.execRestoreTilePresent tile first second dual lane s
  | .imageRelease => Sys2Proof.Machine.execImageRelease s
  | .slotEraseDone slot fails => Sys2Proof.Machine.execSlotEraseDone slot fails s
  | .seamBeatSend link => Sys2Proof.Machine.execSeamBeatSend link s
  | .seamBeatReceive link b => Sys2Proof.Machine.execSeamBeatReceive link b s
  | .seamLinkUp link => Sys2Proof.Machine.execSeamLinkUp link s
  | .seamLinkDown link => Sys2Proof.Machine.execSeamLinkDown link s
  | .seamReplayTimeout link => Sys2Proof.Machine.execSeamReplayTimeout link s
  | .mirrorReceive h m => Sys2Proof.Machine.execMirrorReceive h m s
  | .mackReceive h qp psn status syn => Sys2Proof.Machine.execMackReceive h qp psn status syn s
  | .fwdReceive h m rd => Sys2Proof.Machine.execFwdReceive h m rd s
  | .copyReceive h tile frameNo data key => Sys2Proof.Machine.execCopyReceive h tile frameNo data key s
  | .discardFrameReceive h tile => Sys2Proof.Machine.execDiscardFrameReceive h tile s
  | .cmdFrameReceive h f vals => Sys2Proof.Machine.execCmdFrameReceive h f vals s
  | .cmdDoneReceive h of_ code status vals => Sys2Proof.Machine.execCmdDoneReceive h of_ code status vals s
  | .ctxReceive h u => Sys2Proof.Machine.execCtxReceive h u s
  | .departReceive n => Sys2Proof.Machine.execDepartReceive n s
  | .tackBeatSend => Sys2Proof.Machine.execTackBeatSend s
  | .tackBeatReceive b => Sys2Proof.Machine.execTackBeatReceive b s
  | .yieldReceive t => Sys2Proof.Machine.execYieldReceive t s
  | .pathLost path => Sys2Proof.Machine.execPathLost path s
  | .pairWaitExpire => Sys2Proof.Machine.execPairWaitExpire s
  | .witnessGrant => Sys2Proof.Machine.execWitnessGrant s
  | .witnessGrantFall => Sys2Proof.Machine.execWitnessGrantFall s
  | .tokenExpire => Sys2Proof.Machine.execTokenExpire s
  | .addressAnnounce lport => Sys2Proof.Machine.execAddressAnnounce lport s
  | .resyncCopySend => Sys2Proof.Machine.execResyncCopySend s
  | .resyncCutover => Sys2Proof.Machine.execResyncCutover s
  | .resyncDone => Sys2Proof.Machine.execResyncDone s
  | .givebackForwardEnd qp => Sys2Proof.Machine.execGivebackForwardEnd qp s
  | .dramRefresh ch subch busy => Sys2Proof.Machine.execDramRefresh ch subch busy s
  | .dramTempRead ch temp => Sys2Proof.Machine.execDramTempRead ch temp s
  | .dramActivate ch loc draw => Sys2Proof.Machine.execDramActivate ch loc draw s
  | .rowThrottleHold ch loc => Sys2Proof.Machine.execRowThrottleHold ch loc s
  | .rowCounterClear ch => Sys2Proof.Machine.execRowCounterClear ch s
  | .dqsDriftCheck ch drifts => Sys2Proof.Machine.execDqsDriftCheck ch drifts s
  | .zqCalibrate ch => Sys2Proof.Machine.execZqCalibrate ch s
  | .dramReadComplete ch loc beats who ns => Sys2Proof.Machine.execDramReadComplete ch loc beats who ns s
  | .trnWriteReadCompare ch value => Sys2Proof.Machine.execTrnWriteReadCompare ch value s
  | .trnReadCompare ch value => Sys2Proof.Machine.execTrnReadCompare ch value s
  | .trnSweep ch value => Sys2Proof.Machine.execTrnSweep ch value s
  | .trnRcdLoopback ch value => Sys2Proof.Machine.execTrnRcdLoopback ch value s
  | .trnSetReady ch value pop => Sys2Proof.Machine.execTrnSetReady ch value pop s
  | .trnRunDone ch lanes => Sys2Proof.Machine.execTrnRunDone ch lanes s
  | .carveoutFill => Sys2Proof.Machine.execCarveoutFill s
  | .fillLine => Sys2Proof.Machine.execFillLine s
  | .scrubRead ch loc beats => Sys2Proof.Machine.execScrubRead ch loc beats s
  | .maintClean value => Sys2Proof.Machine.execMaintClean value s
  | .maintCleanInvalidate value => Sys2Proof.Machine.execMaintCleanInvalidate value s
  | .ncacheMaintDone misses => Sys2Proof.Machine.execNcacheMaintDone misses s
  | .invWalkDone => Sys2Proof.Machine.execInvWalkDone s
  | .nandProgramComplete t tile pass => Sys2Proof.Machine.execNandProgramComplete t tile pass s
  | .nandEraseComplete t block pass => Sys2Proof.Machine.execNandEraseComplete t block pass s
  | .readVerify t block pass failed => Sys2Proof.Machine.execReadVerify t block pass failed s
  | .checkpointTimer => Sys2Proof.Machine.execCheckpointTimer s
  | .checkpointGibCount => Sys2Proof.Machine.execCheckpointGibCount s
  | .checkpointComplete ms fails => Sys2Proof.Machine.execCheckpointComplete ms fails s
  | .gcStart t => Sys2Proof.Machine.execGcStart t s
  | .gcRelocateSwitch tile reads fails => Sys2Proof.Machine.execGcRelocateSwitch tile reads fails s
  | .wearLevel t => Sys2Proof.Machine.execWearLevel t s
  | .disturbScan t block pass => Sys2Proof.Machine.execDisturbScan t block pass s
  | .retentionPatrol t block pass => Sys2Proof.Machine.execRetentionPatrol t block pass s
  | .nchTargetFail t => Sys2Proof.Machine.execNchTargetFail t s
  | .secureDiscardDone tag => Sys2Proof.Machine.execSecureDiscardDone tag s
  | .scanStart value => Sys2Proof.Machine.execScanStart value s
  | .crcScanDone => Sys2Proof.Machine.execCrcScanDone s
  | .lksInject pair caught => Sys2Proof.Machine.execLksInject pair caught s
  | .lksCodeViolation pair => Sys2Proof.Machine.execLksCodeViolation pair s
  | .lksMismatch pair => Sys2Proof.Machine.execLksMismatch pair s
  | .lksTestDone pair reproduced => Sys2Proof.Machine.execLksTestDone pair reproduced s
  | .fenVddRise amon1Mv twinId fitted => Sys2Proof.Machine.execFenVddRise amon1Mv twinId fitted s
  | .mainInputGood => Sys2Proof.Machine.execMainInputGood s
  | .powerButton => Sys2Proof.Machine.execPowerButton s
  | .powerOnStart => Sys2Proof.Machine.execPowerOnStart s
  | .railDelayExpire => Sys2Proof.Machine.execRailDelayExpire s
  | .railPgRise rail lks => Sys2Proof.Machine.execRailPgRise rail lks s
  | .railSettleExpire lks => Sys2Proof.Machine.execRailSettleExpire lks s
  | .railStepTimeout => Sys2Proof.Machine.execRailStepTimeout s
  | .seqRetryWaitExpire => Sys2Proof.Machine.execSeqRetryWaitExpire s
  | .fenRailDrop rail => Sys2Proof.Machine.execFenRailDrop rail s
  | .vcoreWindowTrip => Sys2Proof.Machine.execVcoreWindowTrip s
  | .resetStretchExpire n => Sys2Proof.Machine.execResetStretchExpire n s
  | .counterRecordAppend => Sys2Proof.Machine.execCounterRecordAppend s
  | .vcoreStep tj => Sys2Proof.Machine.execVcoreStep tj s
  | .vcoreCheck senseMv answered => Sys2Proof.Machine.execVcoreCheck senseMv answered s
  | .monTrip ch => Sys2Proof.Machine.execMonTrip ch s
  | .batRateLow => Sys2Proof.Machine.execBatRateLow s
  | .batRateHigh => Sys2Proof.Machine.execBatRateHigh s
  | .batRead sb1 sb0 => Sys2Proof.Machine.execBatRead sb1 sb0 s
  | .batPresenceChange present => Sys2Proof.Machine.execBatPresenceChange present s
  | .batAuthStart => Sys2Proof.Machine.execBatAuthStart s
  | .batAuthRead sigOk recOk => Sys2Proof.Machine.execBatAuthRead sigOk recOk s
  | .socOcvReset => Sys2Proof.Machine.execSocOcvReset s
  | .fenBatFull => Sys2Proof.Machine.execFenBatFull s
  | .energyEstimate => Sys2Proof.Machine.execEnergyEstimate s
  | .dozeProposeReceive t => Sys2Proof.Machine.execDozeProposeReceive t s
  | .dozeAcceptReceive t => Sys2Proof.Machine.execDozeAcceptReceive t s
  | .dozeProposeRetry => Sys2Proof.Machine.execDozeProposeRetry s
  | .dozeNoticeExpire => Sys2Proof.Machine.execDozeNoticeExpire s
  | .dozeCommitReceive t => Sys2Proof.Machine.execDozeCommitReceive t s
  | .dozeAbortReceive t => Sys2Proof.Machine.execDozeAbortReceive t s
  | .dozeCommitTimeout => Sys2Proof.Machine.execDozeCommitTimeout s
  | .fenDozeEnter => Sys2Proof.Machine.execFenDozeEnter s
  | .dozeWake w => Sys2Proof.Machine.execDozeWake w s
  | .wakeReceive t => Sys2Proof.Machine.execWakeReceive t s
  | .fenDozeExit => Sys2Proof.Machine.execFenDozeExit s
  | .dozeTwinGraceEnd => Sys2Proof.Machine.execDozeTwinGraceEnd s
  | .ptpMessageReceive lport m protected_ => Sys2Proof.Machine.execPtpMessageReceive lport m protected_ s
  | .ptpSourceLost => Sys2Proof.Machine.execPtpSourceLost s
  | .ppsInEdge n errNs => Sys2Proof.Machine.execPpsInEdge n errNs s
  | .ppsInMissing n => Sys2Proof.Machine.execPpsInMissing n s
  | .timeLocked => Sys2Proof.Machine.execTimeLocked s
  | .holdoverUpdate => Sys2Proof.Machine.execHoldoverUpdate s
  | .ppsOutPulse => Sys2Proof.Machine.execPpsOutPulse s
  | .commitClockRelease => Sys2Proof.Machine.execCommitClockRelease s
  | .timeTodSnapshot => Sys2Proof.Machine.execTimeTodSnapshot s
  | .norWindowWrite src off v aligned32 => Sys2Proof.Machine.execNorWindowWrite src off v aligned32 s
  | .norProgram => Sys2Proof.Machine.execNorProgram s
  | .norErase intentOk => Sys2Proof.Machine.execNorErase intentOk s
  | .norSuspend => Sys2Proof.Machine.execNorSuspend s
  | .norResume => Sys2Proof.Machine.execNorResume s
  | .norAbort => Sys2Proof.Machine.execNorAbort s
  | .norSeqTimeout => Sys2Proof.Machine.execNorSeqTimeout s
  | .norWindowRead off => Sys2Proof.Machine.execNorWindowRead off s
  | .norSuspendGrant => Sys2Proof.Machine.execNorSuspendGrant s
  | .norOpDone info => Sys2Proof.Machine.execNorOpDone info s
  | .norRecordAppend kind => Sys2Proof.Machine.execNorRecordAppend kind s
  | .brownoutBegin => Sys2Proof.Machine.execBrownoutBegin s
  | .brownoutResume => Sys2Proof.Machine.execBrownoutResume s
  | .norReboot => Sys2Proof.Machine.execNorReboot s
  | .thmLockSet => Sys2Proof.Machine.execThmLockSet s
  | .entropyHealthFail => Sys2Proof.Machine.execEntropyHealthFail s
  | .drbgReseed pass => Sys2Proof.Machine.execDrbgReseed pass s
  | .fuseBurnDone readBack => Sys2Proof.Machine.execFuseBurnDone readBack s
  | .signatureVerifyDone => Sys2Proof.Machine.execSignatureVerifyDone s
  | .challengeExpire => Sys2Proof.Machine.execChallengeExpire s
  | .tapTokenWrite t => Sys2Proof.Machine.execTapTokenWrite t s
  | .tapChallengeRead => Sys2Proof.Machine.execTapChallengeRead s
  | .tapInstruction op => Sys2Proof.Machine.execTapInstruction op s
  | .evtFrameGapExpire source => Sys2Proof.Machine.execEvtFrameGapExpire source s
  | .eventFrameSend => Sys2Proof.Machine.execEventFrameSend s
  | .evtPendClear group value => Sys2Proof.Machine.execEvtPendClear group value s
  | .evtMaskWrite group value => Sys2Proof.Machine.execEvtMaskWrite group value s
  | .monSnap value => Sys2Proof.Machine.execMonSnap value s
  | .peatRecord => Sys2Proof.Machine.execPeatRecord s
  | .peatSnapTake value => Sys2Proof.Machine.execPeatSnapTake value s
  | .peatSnapDone => Sys2Proof.Machine.execPeatSnapDone s
  | .pcieDoorbell value slots => Sys2Proof.Machine.execPcieDoorbell value slots s
  | .pcieCplHead value => Sys2Proof.Machine.execPcieCplHead value s
  | .pcieLinkDown => Sys2Proof.Machine.execPcieLinkDown s
  | .pcieLinkUp speed width => Sys2Proof.Machine.execPcieLinkUp speed width s
  | .portLinkDown lport => Sys2Proof.Machine.execPortLinkDown lport s
  | .portLinkUp lport => Sys2Proof.Machine.execPortLinkUp lport s
  | .sbusEnable n sdaLow freed => Sys2Proof.Machine.execSbusEnable n sdaLow freed s
  | .sbusRecoveryRetry n freed => Sys2Proof.Machine.execSbusRecoveryRetry n freed s
  | .sbusSclTimeout n => Sys2Proof.Machine.execSbusSclTimeout n s
  | .sbusTransactionDone n ok => Sys2Proof.Machine.execSbusTransactionDone n ok s
  | .csrWrite pf1 width off v => Sys2Proof.Machine.execCsrWrite pf1 width off v s
  | .csrReadLoLatch src off => Sys2Proof.Machine.execCsrReadLoLatch src off s
  | .query h cls index => Sys2Proof.Machine.execQuery h cls index s
  | .registerRead h off count => Sys2Proof.Machine.execRegisterRead h off count s
  | .registerWrite h off values => Sys2Proof.Machine.execRegisterWrite h off values s
  | .createDomain h pd regionQuota qpQuota keySlot => Sys2Proof.Machine.execCreateDomain h pd regionQuota qpQuota keySlot s
  | .destroyDomain h pd => Sys2Proof.Machine.execDestroyDomain h pd s
  | .createQp h qp rc host cq => Sys2Proof.Machine.execCreateQp h qp rc host cq s
  | .modifyQp h qp dst a => Sys2Proof.Machine.execModifyQp h qp dst a s
  | .destroyQp h qp => Sys2Proof.Machine.execDestroyQp h qp s
  | .postReceive h srq index wrId key offset len => Sys2Proof.Machine.execPostReceive h srq index wrId key offset len s
  | .createSrq h index pd cq => Sys2Proof.Machine.execCreateSrq h index pd cq s
  | .register h a => Sys2Proof.Machine.execRegister h a s
  | .deregister h key => Sys2Proof.Machine.execDeregister h key s
  | .repair h key => Sys2Proof.Machine.execRepair h key s
  | .sync h key => Sys2Proof.Machine.execSync h key s
  | .setExtent h key flag policy => Sys2Proof.Machine.execSetExtent h key flag policy s
  | .discard h start count secure => Sys2Proof.Machine.execDiscard h start count secure s
  | .tableWrite h addr count shapeOk entries => Sys2Proof.Machine.execTableWrite h addr count shapeOk entries s
  | .channelCreate h a => Sys2Proof.Machine.execChannelCreate h a s
  | .channelClose h chan => Sys2Proof.Machine.execChannelClose h chan s
  | .attachPublisher h chan qp => Sys2Proof.Machine.execAttachPublisher h chan qp s
  | .detachPublisher h chan qp => Sys2Proof.Machine.execDetachPublisher h chan qp s
  | .attachSubscriber h a => Sys2Proof.Machine.execAttachSubscriber h a s
  | .resume h chan sub qp => Sys2Proof.Machine.execResume h chan sub qp s
  | .remove h chan sub => Sys2Proof.Machine.execRemove h chan sub s
  | .fence h e => Sys2Proof.Machine.execFence h e s
  | .test h e => Sys2Proof.Machine.execTest h e s
  | .rejoin h e => Sys2Proof.Machine.execRejoin h e s
  | .retireFrame h frame => Sys2Proof.Machine.execRetireFrame h frame s
  | .retireBank h ch slot lrank bank => Sys2Proof.Machine.execRetireBank h ch slot lrank bank s
  | .save h => Sys2Proof.Machine.execSave h s
  | .acceptOlderImage h => Sys2Proof.Machine.execAcceptOlderImage h s
  | .discardImage h => Sys2Proof.Machine.execDiscardImage h s
  | .doze h => Sys2Proof.Machine.execDoze h s
  | .giveBack h qps => Sys2Proof.Machine.execGiveBack h qps s
  | .setTime h n second => Sys2Proof.Machine.execSetTime h n second s
  | .witnessToken h t => Sys2Proof.Machine.execWitnessToken h t s
  | .keySlot h slot b dual lane => Sys2Proof.Machine.execKeySlot h slot b dual lane s
  | .contextSave h kind index wrapped dual lane => Sys2Proof.Machine.execContextSave h kind index wrapped dual lane s
  | .contextRestore h b dual lane => Sys2Proof.Machine.execContextRestore h b dual lane s
  | .provisionBegin h => Sys2Proof.Machine.execProvisionBegin h s
  | .provisionCommit h keys tagOk => Sys2Proof.Machine.execProvisionCommit h keys tagOk s
  | .secure h t => Sys2Proof.Machine.execSecure h t s
  | .returnUnit h t => Sys2Proof.Machine.execReturnUnit h t s
  | .scrap h t => Sys2Proof.Machine.execScrap h t s
  | .advanceRollback h => Sys2Proof.Machine.execAdvanceRollback h s
  | .debugChallenge h => Sys2Proof.Machine.execDebugChallenge h s
  | .debugOpen h level t => Sys2Proof.Machine.execDebugOpen h level t s
  | .debugClose h => Sys2Proof.Machine.execDebugClose h s
  | .peatClear h scope t => Sys2Proof.Machine.execPeatClear h scope t s
  | .subscribe h dest addr qpn => Sys2Proof.Machine.execSubscribe h dest addr qpn s
  | .fenVddLoss => Sys2Proof.Machine.execFenVddLoss s
  | .seamFrameDiscard link kind => Sys2Proof.Machine.execSeamFrameDiscard link kind s
  | .railRemoveDelayExpire => Sys2Proof.Machine.execRailRemoveDelayExpire s
  | .bankIdlePrecharge ch subch lrank bank => Sys2Proof.Machine.execBankIdlePrecharge ch subch lrank bank s
  | .fenSample amon shuntNvs shuntUv => Sys2Proof.Machine.execFenSample amon shuntNvs shuntUv s
  | .monLevelSample => Sys2Proof.Machine.execMonLevelSample s
  | .qpMovePassedOver qp => Sys2Proof.Machine.execQpMovePassedOver qp s
  | .batAuthRetry => Sys2Proof.Machine.execBatAuthRetry s
  | .pfcPauseExpire port prio => Sys2Proof.Machine.execPfcPauseExpire port prio s
  | .pacedTransmit lport dual lane => Sys2Proof.Machine.execPacedTransmit lport dual lane s

end Sys2Proof.Machine
end

