-- ==== Sys2Proof/Machine/Package.lean ====
section
/-! DEFINITION. Output pins that show state (R286, R356, R358), supplies (R386, R387), and the ball map (R391 to R397). -/

namespace Sys2Proof.Machine

/-! ### Output pins -/

/-- EVT_IRQ0_N (`n` 0) or EVT_IRQ1_N is held low: a pending source that is not masked routes to the pin, up to step 11 of a SAVE (R356, R358). -/
def State.irqLow (s : State) (n : Nat) : Bool :=
  s.mode != .reset &&
  (List.range 640).any (fun e => (s.fld (F.EVT_PENDg_pend (e / 16))).testBit (e % 16) && !s.masked e && s.fld (F.EVT_ROUTEn_pin e) / 2 ^ n % 2 == 1)

/-- Fen drives RAILn_EN high (R286). -/
def State.railEn (s : State) (n : Nat) : Bool := s.fen.on.contains n

/-- Fen drives RSTn_N low (R286). -/
def State.rstLow (s : State) (n : Nat) : Bool := s.fen.resets.contains n

/-! ### Supplies (R386, R387) -/

inductive Supply where
  | vdd | vddSd | vddhSd | vddqDdr | vccqNand | vddIo | fenVdd | vss
  deriving DecidableEq, Repr

/-- Nominal voltage in mV and the operating range around it in parts per thousand; VDD has the range of Fen's targets instead, and VCCQ_NAND
the nominal voltage of the NAND profile (R386). -/
def Supply.nominal (toggle : Bool) : Supply → Option (Nat × Nat)
  | .vdd | .vss => none
  | .vddSd => some (750, 30)
  | .vddhSd => some (1200, 30)
  | .vddqDdr => some (1100, 30)
  | .vccqNand => some (if toggle then 1200 else 600, 50)
  | .vddIo => some (1800, 50)
  | .fenVdd => some (1800, 50)

/-- The voltage, in µV, is in the supply's operating range (R386); `target` is Fen's target for VDD in mV. -/
def Supply.operates (toggle : Bool) (target uv : Nat) (x : Supply) : Bool :=
  match x with
  | .vdd => decide (target * 1000 ≤ uv) && decide (uv ≤ (target + 20) * 1000)
  | .vss => uv == 0
  | _ =>
    match x.nominal toggle with
    | some (mv, tol) => decide (mv * (1000 - tol) ≤ uv) && decide (uv ≤ mv * (1000 + tol))
    | none => false

/-- The order that the board's rail table must keep (R387): each entry with the device supply it feeds, if any. -/
def railOrderOk : List (RailEntry × Option Supply) → Bool
  | [] => true
  | (e, x) :: l =>
    (e.serdes == (x == some .vddSd || x == some .vddhSd)) && (e.core == (x == some .vdd)) &&
    (e.core || x == none || l.all (fun p => !p.1.core)) &&
    (x != some .vddhSd || l.all (fun p => p.2 != some .vddSd)) && railOrderOk l

/-! ### The ball map (R391 to R397) -/

/-- What a ball carries: a wire of SerDes lane slot s (R393), of a DDR5 channel (R394), of a NAND channel (R395), NAND_WP_N, a position of the
miscellaneous list (R396), or a supply. -/
inductive Ball where
  | lane (slot : Nat) (rx neg : Bool)
  | ddr (chan q : Nat)
  | nand (chan wire : Nat)
  | nandWp
  | misc (pos : Nat)
  | supply (x : Supply)
  deriving DecidableEq, Repr

/-- A position of the NAND field (R395): row and column. -/
def nandPos (p : Nat) : Nat × Nat :=
  if p < 440 then (60 + p / 44, 11 + p % 44)
  else if p < 620 then (51 + (p - 440) / 20, 11 + (p - 440) % 20)
  else if p < 800 then (11 + (p - 620) / 20, 40 + (p - 620) % 20)
  else (11 + (p - 800) / 9, 31 + (p - 800) % 9)

/-- Row and column of a signal's ball (R393 to R396); none of a supply, which has many. -/
def Ball.place : Ball → Option (Nat × Nat)
  | .lane s rx neg => some (1 + 3 * (s / 22) + rx.toNat, 16 + 2 * (s % 22) + neg.toNat)
  | .ddr n q =>
    let r := 11 + 10 * (n % 4) + q % 10
    let c := 1 + 15 * (n % 8 / 4) + q / 10
    some (if n < 8 then (r, c) else (70 - r, 70 - c))
  | .nand n w => some (nandPos (31 * n + w))
  | .nandWp => some (nandPos 992)
  | .misc p => some (if p < 60 then (7 + p / 20, 40 + p % 20) else (34 + (p - 60) / 4, 32 + 2 * ((p - 60) % 4)))
  | .supply _ => none

/-- A row or column lies in a range. -/
def within (x lo hi : Nat) : Bool := decide (lo ≤ x) && decide (x ≤ hi)

/-- The corners that hold no ball (R391). -/
def keepOut (r c : Nat) : Bool :=
  (within r 1 10 && within c 1 15) || (within r 1 15 && within c 60 69) || (within r 60 69 && within c 55 69) || (within r 55 69 && within c 1 10)

/-- A position of the NAND field by what it carries (R395). -/
def nandBall (p : Nat) : Ball :=
  if p < 992 then .nand (p / 31) (p % 31) else if p = 992 then .nandWp else if p ≤ 1000 then .supply .vccqNand else .supply .vss

/-- A ball of the DDR5 fields, left or right (R394). -/
def ddrBall (r c : Nat) : Ball := .ddr ((r - 11) / 10 + (c - 1) / 15 * 4) ((r - 11) % 10 + (c - 1) % 15 * 10)

/-- What the ball in a row and column carries (R392). -/
def ballAt (r c : Nat) : Option Ball :=
  if !within r 1 69 || !within c 1 69 || keepOut r c then none
  else if within c 16 59 && (within r 1 2 || within r 4 5 || (within r 7 8 && c ≤ 39)) then
    some (.lane ((r - 1) / 3 * 22 + (c - 16) / 2) ((r - 1) % 3 == 1) ((c - 16) % 2 == 1))
  else if within c 16 59 && (r == 3 || r == 6 || (r == 9 && c ≤ 39)) then some (.supply .vss)
  else if r == 10 then
    some (.supply (if c ≤ 43 then .vddSd else if c ≤ 51 then .vddhSd else if c ≤ 57 then .vddIo else .fenVdd))
  else if within r 7 9 then some (.misc ((r - 7) * 20 + (c - 40)))
  else if within r 11 50 && within c 1 30 then some (ddrBall r c)
  else if within r 20 59 && within c 40 69 then
    match ddrBall (70 - r) (70 - c) with
    | .ddr n q => some (.ddr (n + 8) q)
    | b => some b
  else if within r 51 54 && within c 1 10 then some (.supply (if r ≤ 52 then .vddqDdr else .vss))
  else if within r 16 19 && within c 60 69 then some (.supply (if r ≤ 17 then .vss else .vddqDdr))
  else if within r 60 69 then some (nandBall ((r - 60) * 44 + (c - 11)))
  else if within r 51 59 && within c 11 30 then some (nandBall (440 + (r - 51) * 20 + (c - 11)))
  else if within r 11 19 && within c 40 59 then some (nandBall (620 + (r - 11) * 20 + (c - 40)))
  else if within r 11 33 then some (nandBall (800 + (r - 11) * 9 + (c - 31)))
  else if c % 2 = 1 then some (.supply .vdd)
  else if r ≤ 49 then some (.misc (60 + (r - 34) * 4 + (c - 32) / 2))
  else some (.supply .vss)

/-- A signal of the device: every lane slot, DDR5 channel, NAND channel and miscellaneous position (R392). -/
def Ball.signal : Ball → Bool
  | .lane s _ _ => decide (s < 56)
  | .ddr n q => decide (n < 16) && decide (q < 150)
  | .nand n w => decide (n < 32) && decide (w < 31)
  | .nandWp => true
  | .misc p => decide (p < 124)
  | .supply _ => false

/-- The ball may be left unconnected on a part (R397). -/
def mayFloat (part : Part) (r c : Nat) : Bool :=
  part == .mx &&
  match ballAt r c with
  | some (.lane s _ _) => within s 16 31
  | some (.ddr n _) => decide (8 ≤ n)
  | some (.nand n _) => decide (16 ≤ n)
  | some (.supply .vddqDdr) => within r 18 19
  | _ => false

end Sys2Proof.Machine
end

