-- ==== Sys2Proof/Safety.lean ====
section
/-! DEFINITION. The terms that statements use: what a command leaves unchanged, when commands act, and the safe states of the fuses. -/

namespace Sys2Proof.Machine

/-! ### When commands act -/

/-- The core runs: commands of the core act (R7). -/
abbrev State.runs (s : State) : Prop := s.mode ≠ .reset

/-- Management commands and register writes act (R7, R29). -/
abbrev State.manages (s : State) : Prop := s.mode ≠ .reset ∧ s.mode ≠ .save

/-- It is a management command's turn to start: it has been granted, and every command granted before it has started (R26). -/
abbrev State.starts (s : State) (h : Hdr) (c : Cmd) : Prop := s.turn ⟨h, c, false⟩ = true

/-- It is a register write's turn: it has passed the gate (R380). -/
abbrev State.passes (s : State) (off : Nat) (v : Word) : Prop := s.turnWrite off v = true

/-- The state once the register write whose turn it is has left the gate. -/
abbrev State.taken (s : State) : State := { s with gate := { s.gate with granted := s.gate.granted.tail } }

/-! ### Frames -/

/-- Nothing changed but registers, the event unit, what has left the device and the queue of Peat: all that a raise can touch (R356). -/
def State.sameButEvents (s t : State) : Prop := t = { s with csr := t.csr, ev := t.ev, out := t.out, peatQ := t.peatQ }

/-- Nothing changed but what a raise can touch and what a completion can touch: the commands that run, the slots of the control
processor, the completions that wait at the management queue pair's port, and Seam, over which a twin's command is answered (R367 to R369). -/
def State.sameButAnswer (s t : State) : Prop :=
  t = { s with csr := t.csr, ev := t.ev, out := t.out, peatQ := t.peatQ, gate := t.gate, pcie := t.pcie, pcieHeld := t.pcieHeld, mqpOut := t.mqpOut
               seam := t.seam, free := t.free }

/-- The registers that a raise can write: EVT_PENDg, EVT_OVF and PEAT_STATUS (R356, R360). -/
def eventRegister (off : Nat) : Bool :=
  (decide (0x30100 ≤ off) && decide (off < 0x301A0)) || off == F.EVT_OVF_frames.off || off == F.PEAT_STATUS_lost.off

/-- Every register but those listed, and but those that a raise can write, holds what it held. -/
def State.regsKept (s t : State) (l : List Nat) : Prop := ∀ off, off ∉ l → eventRegister off = false → t.reg off = s.reg off

/-- What a raise does, at most: nothing beyond `sameButEvents`, and no register but the event unit's and Peat's own. -/
def State.onlyEvents (s t : State) : Prop := s.sameButEvents t ∧ s.regsKept t []

/-- What a raise and a completion do together, at most. -/
def State.onlyAnswer (s t : State) : Prop := s.sameButAnswer t ∧ s.regsKept t []

/-! ### Spool (R31) -/

/-- The cells that the owners together still lack to their reserves (R31). -/
def State.shortfall (s : State) : Nat := (List.range 82).foldl (fun n o => n + (reserveOf o - s.ownerCells o)) 0

/-! ### What has left -/

/-- A pulse of PPS_OUTn of a width (R312). -/
def Out.isPulse (n width : Nat) : Out → Bool
  | .pps k w _ => k == n && w == width
  | _ => false

/-! ### Frames of the twin (R172, R174, R175) -/

/-- A frame of the pair in its turn on its link, from the twin, at this unit's epoch. -/
abbrev State.takesFrame (s : State) (h : SeamHdr) : Prop :=
  s.pairEn = true ∧ s.mirrored = true ∧ s.mismatch h.pairId h.unit = false ∧ h.epoch = s.epoch ∧ (s.seamLink h.link.val).gap h.linkSeq = false

/-- The unit once the link has counted the message's frames, what they acknowledge has made room, and the commit clock has taken their stamp. -/
def State.counted (s : State) (h : SeamHdr) : State :=
  (s.gotFrames h.link.val h.linkSeq (Nat.max 1 h.frames) h.linkAck).raiseCommit h.stamp

/-! ### Fuses (R341, R342, R349, R350) -/

/-- Every bit set in `a` is set in `b`. -/
abbrev bitsWithin (a b : BitVec 4) : Prop := a &&& b = a

/-- A one-time-programmable fuse goes from unburned to burned only: what `f` holds is still there in `g`. -/
structure Fuses.advances (f g : Fuses) : Prop where
  life         : f.life ≤ g.life
  destroyBegun : f.destroyBegun = true → g.destroyBegun = true
  scrapIntent  : f.scrapIntent = true → g.scrapIntent = true
  programmed   : bitsWithin f.programmed g.programmed
  revoked      : bitsWithin f.revoked g.revoked
  drkBurned    : f.drk ≠ .absent → g.drk ≠ .absent
  drkGone      : f.drk = .destroyed → g.drk = .destroyed
  wrapBurned   : f.wrapKey ≠ .absent → g.wrapKey ≠ .absent
  wrapGone     : f.wrapKey = .destroyed → g.wrapKey = .destroyed
  rollback     : f.rollback ≤ g.rollback
  devid        : g.devid = f.devid

/-- The keys that decrypt what the owner wrote are destroyed (R349, step 3). -/
abbrev Fuses.keysGone (f : Fuses) : Prop := f.drk = .destroyed ∧ f.wrapKey = .destroyed

/-- A fuse sequence burns RETURNED or SCRAPPED only where the keys are gone by then (R349, R350). -/
def Fuses.orderly (f : Fuses) : List Burn → Prop
  | [] => True
  | b :: l => (∀ c, b = .life c → Machine.returned ≤ c → f.keysGone) ∧ (f.apply b).orderly l

/-- The lifecycle never says RETURNED or SCRAPPED before the keys are gone, and no sequence under way can make it so (R349). -/
def State.keysSafe (s : State) : Prop :=
  (Machine.returned ≤ s.fuses.life → s.fuses.keysGone) ∧ (∀ r, s.thm.burn = some r → s.fuses.orderly r.steps)

end Sys2Proof.Machine
end

