-- ==== Sys2Proof/Certificates/Slice0/Obligations.lean ====
section
/-! DEFINITION. The statements for the provers, in the order of the spec's chapters. A clause whose conclusion is `exec c s = .next t`, or
`∃ t, exec c s = .next t ∧ …`, says that the command completes with its own effect; `sameButEvents` and `sameButAnswer` close its frame. -/

open Sys2Proof Sys2Proof.Machine

/-- The block's step (the model's choice of form, log entry 2): with a command at the front of the queue a step is that command's effect on
the rest of the state, the queue without it; with no command waiting, the clock ticks once. -/
def Obligations.StepTakesFront : Prop :=
(∀ (c : Instr) (rest : List Instr) (s : State), s.pending = c :: rest → step s = exec c { s with pending := rest }) ∧
(∀ s : State, s.pending = [] → step s = .next s.tick)

/-- Every command of the table runs in every state: it answers a next state, never a fault and never a refusal, and it neither takes
commands from the queue nor adds any. -/
def Obligations.EveryCommandAnswers : Prop :=
∀ (c : Instr) (s : State), ∃ t, exec c s = .next t ∧ t.pending = s.pending

/-- R7 and R281: in RESET with FEN_VDD absent, every command but the rise of FEN_VDD leaves the state as it is. -/
def Obligations.NothingActsUnpowered : Prop :=
∀ (c : Instr) (s : State), s.mode = .reset → s.fen.vdd = false → (∀ mv twinId fitted, c ≠ .fenVddRise mv twinId fitted) → exec c s = .next s

/-- The one-time-programmable array (R341, R342, R349, R350), whatever the state and whatever the step: the lifecycle, the rollback version
and the burned and revoked keys never go back, a key that was burned stays burned or destroyed, a destroyed key stays destroyed, and the
device's identity and its ordering code never change. -/
def Obligations.FusesOneWay : Prop :=
∀ s t : State, step s = .next t → s.fuses.advances t.fuses ∧ t.part = s.part

/-- Return to maker (R349, R350), whatever the state: if the lifecycle says RETURNED or SCRAPPED only with both keys destroyed, and no fuse
sequence under way can make it say so earlier, then the same holds after every step. -/
def Obligations.KeysSafeKept : Prop :=
∀ s t : State, s.keysSafe → step s = .next t → t.keysSafe

/-- The state after reset (R7, R281): mode RESET, no command waiting, no rail up, every RSTn held, the fuses of a new unit (the model's
choice, log entry 8), memory with nothing listed, and the two invariants of this file that speak of one state: memory is in canonical form,
and the keys are safe. The registers listed, at least one of every block that R385 gives a value other than zero, hold the value of their
line of R385. -/
def Obligations.ResetState : Prop :=
(State.reset.mode = .reset ∧ State.reset.pending = [] ∧ State.reset.kept.mem = [] ∧ Memory.wf State.reset.kept.mem = true ∧ State.reset.fuses =
    Fuses.factory ∧ State.reset.keysSafe ∧ State.reset.fen.phase = .off ∧ State.reset.fen.resets = List.range 8) ∧
(([(0x100, 0x10#32), (0x210, 0x80000000#32), (0x10010, 0x30A#32), (0x10100, 0xC82F8000#32), (0x10200, 0xE0352014#32), (0x10300, 0xA00#32),
    (0x1031C, 0xA00#32), (0x10600, 0xA023232#32), (0x10700, 0xFFC00A5F#32), (0x10800, 0xFFF00000#32), (0x1083C, 0xFFF00000#32), (0x30000,
    0xA#32), (0x40000, 0x40000000#32), (0x60000, 0x3800000A#32), (0x60010, 0xA0A064#32), (0x60020, 0x86400000#32), (0x60024, 0x86400000#32),
    (0x70000, 0xC8#32), (0x90000, 0x2710#32), (0x100010, 0x461001AE#32), (0x100020, 0x625F5A#32), (0x100030, 0x14#32), (0x100034, 0x3E8030A#32),
    (0x100040, 0x19#32), (0x100050, 0x140340#32), (0x200004, 0x100000#32), (0x200010, 0x80414#32), (0x800100, 0x21410#32), (0x800110,
    0xA320A0A#32), (0x800114, 0x200320A#32), (0x800204, 0x88CC#32), (0x900000, 0x64#32), (0xA00010, 0x8000001E#32), (0xA00020, 0x140A3206#32),
    (0xA00030, 0xE000000A#32), (0xA00040, 0xFFFF0000#32), (0xA00044, 0xFFFF0000#32), (0xA00050, 0x30FF#32), (0xA00060, 0x4064#32), (0xB00030,
    0xC0000004#32), (0xB00044, 0x20#32), (0xB80000, 0x40000#32), (0xC00000, 0xFF#32), (0xC00010, 0xA0#32), (0xC00014, 0x89000200#32), (0xC00100,
    0x1000#32), (0xC00104, 0xFFC01#32), (0xC00108, 0x20000001#32), (0xC00140, 0xFFC00000#32), (0xC001DC, 0xFFC00000#32), (0xC00200,
    0x10000000#32), (0xC00300, 0x80000018#32), (0xE00018, 0x1905#32), (0xE00020, 0x1E01#32), (0xE00030, 0x1008#32), (0xE00034, 0x100#32),
    (0xE00038, 0x320007#32), (0xF00000, 0x40#32), (0xF00010, 0x80000000#32), (0xF00020, 0x14#32), (0xFC0010, 0x3#32), (0x14, 0x40201082#32),
    (0x80000, 0x80000190#32), (0x80040, 0xC0000064#32), (0x80080, 0x80000190#32), (0x800C0, 0x80000190#32), (0x80100, 0x800030D4#32), (0x80140,
    0x800030D4#32), (0x3154C, 0x153#32), (0x31040, 0x10000010#32), (0x41008, 0xFFFFFFFF#32), (0x42F88, 0xFFFFFFFF#32), (0x0, 0x0#32), (0x30,
    0x0#32), (0x90004, 0x0#32), (0x100000, 0x0#32), (0xA00000, 0x0#32), (0xE00000, 0x0#32), (0xFE0010, 0x0#32)] : List (Nat × Word)).all (fun p
    => State.reset.reg p.1 == p.2) = true)

/-- PTP (R307): an accepted Announce, a further exchange of messages, and the loss of the source; a message on another logical port than the
chosen one changes nothing, and one that its port's MACsec policy does not let in is counted as dropped (R86). Where PTP is the source to
follow, the offset of an exchange up to 1 ms is shown and slewed from then on, and lies in the lock band or not (R309, R311). PPS inputs
(R307): set-time names the TAI second of the next edge, below 2^48; an edge of a named input counts toward qualification and moves the name
on by one second; a missing edge withdraws both. The other input is left alone. Rows that complete here with their own effect, for every
state and operands that meet the hypotheses: PTP_MESSAGE_RECEIVE, PTP_SOURCE_LOST, SET_TIME, PPS_IN_EDGE, PPS_IN_MISSING. -/
def Obligations.TimeInputs : Prop :=
(∀ s lport prot, s.runs → s.ptpPasses lport.val prot = true → s.fld F.TIME_CTRL_ptp_lport = lport.val → s.lportPresent lport.val = true → exec
    (.ptpMessageReceive lport (.announce true) prot) s = .next { s with clk := { s.clk with announced := true } }) ∧
(∀ s lport off prot, s.runs → s.ptpPasses lport.val prot = true → s.fld F.TIME_CTRL_ptp_lport = lport.val → s.lportPresent lport.val = true → ∃
    t, exec (.ptpMessageReceive lport (.exchange off) prot) s = .next t ∧ t.clk.exchanges = Nat.min 16 (s.clk.exchanges + 1) ∧ t.clk.tod =
    s.clk.tod ∧ (({ s with clk := { s.clk with exchanges := Nat.min 16 (s.clk.exchanges + 1) } } : State).bestSrc = 1 → off.natAbs ≤ 1000000 →
    t.pair F.TIME_OFFSET_LO_value F.TIME_OFFSET_HI_value = ofSigned 64 off ∧ t.clk.slew = off ∧ t.clk.step = none ∧ t.bit
    F.TIME_STATUS_step_pending = false ∧ (t.clk.band.isSome = true ↔ off.natAbs ≤ 100)) ∧ State.sameButEvents { s with clk := t.clk } t) ∧
(∀ s lport m prot, s.runs → s.ptpPasses lport.val prot = true → s.fld F.TIME_CTRL_ptp_lport ≠ lport.val → exec (.ptpMessageReceive lport m prot)
    s = .next s) ∧
(∀ s lport m prot, s.runs → s.ptpPasses lport.val prot = false → exec (.ptpMessageReceive lport m prot) s = .next (s.sat (F.PORT_RX_DROP_macsec
    (portOf lport.val)))) ∧
(∀ s, s.runs → ∃ t, exec .ptpSourceLost s = .next t ∧ t.clk.announced = false ∧ t.clk.exchanges = 0 ∧ t.fld F.TIME_STATUS_source ≠ 1 ∧ t.clk.tod
    = s.clk.tod ∧ State.sameButEvents { s with clk := t.clk, free := t.free } t) ∧
(∀ s h n second, s.starts h (.setTime n second) → second < 2 ^ 48 → exec (.setTime h n second) s = .next ((s.begun.setPps n { s.begun.clk.pps n with named := some second }).complete
    h .ok)) ∧
(∀ s h n second, s.starts h (.setTime n second) → 2 ^ 48 ≤ second → exec (.setTime h n second) s = .next (s.begun.complete h .invalid)) ∧
(∀ s n err, s.runs → (s.clk.pps n.val).named = none → exec (.ppsInEdge n err) s = .next s) ∧
(∀ s n err sec, s.runs → (s.clk.pps n.val).named = some sec → ∃ t, exec (.ppsInEdge n err) s = .next t ∧ t.clk.pps n = (⟨some (sec + 1), if
    (s.clk.pps n).good = 4 then 4 else if err.natAbs ≤ 1000 then (s.clk.pps n).good + 1 else 0⟩ : Pps) ∧ t.clk.pps (1 - n.val) = s.clk.pps (1 -
    n.val) ∧ t.clk.tod = s.clk.tod ∧ State.sameButEvents { s with clk := t.clk } t) ∧
(∀ s n, s.runs → ∃ t, exec (.ppsInMissing n) s = .next t ∧ t.clk.pps n = ({} : Pps) ∧ t.clk.pps (1 - n.val) = s.clk.pps (1 - n.val) ∧ t.fld
    F.TIME_STATUS_source ≠ n.val + 2 ∧ t.clk.tod = s.clk.tod ∧ State.sameButEvents { s with clk := t.clk, free := t.free } t)

/-- Lock and holdover (R309, R310): sixteen seconds within the lock band end LOCKING in LOCKED; each second of HOLDOVER counts, in_spec says
whether the uncertainty of the formula is within the limit, and a change of in_spec from 1 to 0 raises TIME_OUT_OF_SPEC. The commit clock
and time-of-day (R312, R313, R315): a held commit clock runs again once time-of-day has passed it; a snapshot shows both at one moment; a
second boundary that has had no pulse sends one pulse on each enabled output, and a step that is allowed is applied there and never takes
the commit clock back. A cycle of the TIME clock, a step with no command waiting (the model's choice, log entry 2), adds 4 ns to the
reference timer (R23) and, with nothing to slew, to time-of-day. Rows that complete here with their own effect, for every state and operands
that meet the hypotheses: TIME_LOCKED, HOLDOVER_UPDATE, COMMIT_CLOCK_RELEASE, TIME_TOD_SNAPSHOT, PPS_OUT_PULSE. -/
def Obligations.LockAndClocks : Prop :=
(∀ s b, s.runs → s.fld F.TIME_STATUS_state = locking → s.clk.band = some b → b + 16000000000 ≤ s.mrt → ∃ t, exec .timeLocked s = .next t ∧ t.fld
    F.TIME_STATUS_state = locked ∧ t.fld F.TIME_STATUS_source = s.fld F.TIME_STATUS_source ∧ s.regsKept t [F.TIME_STATUS_state.off] ∧ t = { s with csr := t.csr, clk := { s.clk with wasLocked := true } }) ∧
(∀ s, s.runs → s.fld F.TIME_STATUS_state = holdover → ∃ t, exec .holdoverUpdate s = .next t ∧ t.fld F.TIME_HOLD_AGE_value = Nat.min 0xFFFFFFFF
    (s.fld F.TIME_HOLD_AGE_value + 1) ∧ (t.bit F.TIME_STATUS_in_spec = true ↔ (s.uncert (t.fld F.TIME_HOLD_AGE_value)).1 ≤ s.fld
    F.TIME_HOLD_CFG_limit * 10 * (s.uncert (t.fld F.TIME_HOLD_AGE_value)).2) ∧ (s.bit F.TIME_STATUS_in_spec = true → t.bit F.TIME_STATUS_in_spec
    = false → t.pended Ev.TIME_OUT_OF_SPEC = true) ∧ s.regsKept t [F.TIME_HOLD_AGE_value.off, F.TIME_UNCERT_value.off, F.TIME_STATUS_in_spec.off]
    ∧ State.sameButEvents { s with free := s.free + 1 } t) ∧
(∀ s v, s.runs → s.clk.held = some v → v < s.clk.tod → ∃ t, exec .commitClockRelease s = .next t ∧ t.commit = s.clk.tod % 2 ^ 64 ∧ t.bit
    F.TIME_STATUS_commit_held = false ∧ s.regsKept t [F.TIME_STATUS_commit_held.off] ∧ t = { s with csr := t.csr, clk := { s.clk with held := none } }) ∧
(∀ s, s.runs → ∃ t, exec .timeTodSnapshot s = .next t ∧ t.fld F.TIME_TOD_NS_value = s.clk.tod % 1000000000 ∧ t.fld F.TIME_TOD_SEC_LO_value =
    s.clk.tod / 1000000000 % 2 ^ 32 ∧ t.fld F.TIME_TOD_SEC_HI_value = s.clk.tod / 1000000000 / 2 ^ 32 % 2 ^ 16 ∧ t.pair F.TIME_COMMIT_LO_value
    F.TIME_COMMIT_HI_value = s.commit ∧ t = { s with csr := t.csr }) ∧
(∀ s, s.runs → s.mode ≠ .doze → s.clk.pulseSec < s.clk.tod / 1000000000 → (s.clk.pulseAt = none ∨ (∃ p, s.clk.pulseAt = some p ∧ p + 500000000 ≤
    s.mrt)) → s.clk.step = none → ∃ t, exec .ppsOutPulse s = .next t ∧ (∀ n : Fin 2, t.out.countP (Out.isPulse n (s.fld (F.TIME_PPS_CFGn_width_ms
    n))) = s.out.countP (Out.isPulse n (s.fld (F.TIME_PPS_CFGn_width_ms n))) + (if s.bit (F.TIME_PPS_CFGn_en n) then 1 else 0)) ∧ t = { s with clk := { s.clk with pulseAt := some s.mrt, pulseSec := s.clk.tod / 1000000000 }, out := t.out }) ∧
(∀ s (off : Int), s.runs → s.mode ≠ .doze → s.clk.pulseSec < s.clk.tod / 1000000000 → s.clk.tod < 2 ^ 64 → s.clk.step = some off → s.bit
    F.TIME_CTRL_step_allow = true → ∃ t, exec .ppsOutPulse s = .next t ∧ t.clk.tod = ((s.clk.tod : Int) + off).toNat ∧ t.clk.step = none ∧ t.bit
    F.TIME_CTRL_step_allow = false ∧ t.pended Ev.TIME_STEPPED = true ∧ (off < 0 → t.commit = s.commit) ∧ State.sameButEvents { s with clk := t.clk }
    t) ∧
(∀ s : State, s.pending = [] → s.mode ≠ .reset → s.mode ≠ .doze → s.clk.slew = 0 → ∃ t, step s = .next t ∧ t.mrtQ = s.mrtQ + 16 ∧ t.clk.tod =
    s.clk.tod + 4)

/-- The command gate (R24 to R26, R370, R380). A command that passes the checks of R370 opens a window on an idle gate, and joins the open
window where its source (R25) has no command in it. Otherwise it waits, and behind its own issuer's if that waits already (the model's form
of the local merge, log entry 92). A register write of a local source joins under rank 3 and the unit's epoch. A command that fails a check
is answered with its status and reaches no window. The close decides the window's commands in descending order of claim number: a lone
command is granted, and of two that conflict the one of the higher claim is granted and the other completes CONTENDED. A row of a command
acts only in that command's turn. Rows that complete here with their own effect, for every state and operands that meet the hypotheses:
GATE_COMMAND_ARRIVE, GATE_WINDOW_CLOSE. -/
def Obligations.GateOrders : Prop :=
(∀ s c, s.manages → c.posted = false → s.frontCheck ⟨c, true⟩ = none → s.gate.active = false → exec (.gateCommandArrive c) s = .next { s with gate := { s.gate with active := true, window := [(c, s.mrt)] } }) ∧
(∀ s c, s.manages → c.posted = false → s.frontCheck ⟨c, true⟩ = none → s.gate.active = true → s.gate.window.all (fun p => rankOf p.1.hdr.src !=
    rankOf c.hdr.src) = true → exec (.gateCommandArrive c) s = .next { s with gate := { s.gate with window := s.gate.window ++ [(c, s.mrt)] } }) ∧
(∀ s c, s.manages → c.posted = false → s.frontCheck ⟨c, true⟩ = none → s.gate.active = true → s.gate.window.any (fun p => rankOf p.1.hdr.src ==
    rankOf c.hdr.src) = true → exec (.gateCommandArrive c) s = .next { s with gate := if s.gate.waiting.any (fun p => p.1.hdr.src == c.hdr.src) then { s.gate with behind := s.gate.behind ++ [(c, s.mrt)] } else { s.gate with waiting := s.gate.waiting ++ [(c, s.mrt)] } }) ∧
(∀ s src off v claim tag, s.manages → rankOf src = 3 → s.gate.active = false → exec (.gateCommandArrive ⟨⟨src, tag, claim⟩, .registerWrite off
    [v], true⟩) s = .next { s with gate := { s.gate with active := true, window := [(⟨⟨src, 0, s.claimOf 3⟩, .registerWrite off [v], true⟩, s.mrt)] } }) ∧
(∀ s c st, s.manages → c.posted = false → s.frontCheck ⟨c, true⟩ = some st → exec (.gateCommandArrive c) s = .next (s.answer c.hdr (cmdCode
    c.cmd) st)) ∧
(∀ s c t0, s.manages → s.gate.active = true → s.gate.window = [(c, t0)] → s.gate.waiting = [] → s.gate.behind = [] → ∃ t, exec .gateWindowClose s
    = .next t ∧ t.gate = { s.gate with active := false, window := [], granted := s.gate.granted ++ [c] } ∧ t.fld F.GLB_GATE_STAT_granted = (s.fld
    F.GLB_GATE_STAT_granted + 1) % 2 ^ 16 ∧ t.kept = { s.kept with peat := t.kept.peat } ∧ t.mode = s.mode ∧ t.fuses = s.fuses ∧ t.out = s.out) ∧
(∀ s a b ta tb, s.manages → s.gate.active = true → (s.gate.window = [(a, ta), (b, tb)] ∨ s.gate.window = [(b, tb), (a, ta)]) → s.gate.waiting =
    [] → s.gate.behind = [] → b.hdr.claim.toNat < a.hdr.claim.toNat → objsConflict (s.objsOf b.cmd) (s.objsOf a.cmd) = true → b.posted = false →
    b.hdr.src = .mqp → ∃ t, exec .gateWindowClose s = .next t ∧ t.gate.granted = s.gate.granted ++ [a] ∧ t.gate.window = [] ∧ t.gate.running =
    s.gate.running ∧ t.fld F.GLB_GATE_STAT_contended = (s.fld F.GLB_GATE_STAT_contended + 1) % 2 ^ 16 ∧ t.fld F.GLB_GATE_LAST_winner_rank =
    rankOf a.hdr.src % 4 ∧ t.fld F.GLB_GATE_LAST_loser_rank = 2 ∧ t.fld F.GLB_GATE_LAST_loser_opcode = cmdCode b.cmd % 2 ^ 16 ∧ (s.quiet = false
    → (s.qpAt 0).any (fun (q : Qp) => qpLive q.state) = true → t.mqpOut = s.mqpOut ++ [Out.completion .mqp none ⟨mCompletion, b.hdr.tag, cmdCode
    b.cmd, .contended, b.hdr.claim, s.commit⟩ []])) ∧
(∀ s, s.manages → s.gate.active = true → exec .gateWindowClose s = .next (s.openNext.decideWindow (byClaim s.gate.window) [])) ∧
(∀ s, s.gate.active = false → exec .gateWindowClose s = .next s) ∧
(∀ s h cls index, s.turn ⟨h, .query cls index, false⟩ = false → exec (.query h cls index) s = .next s) ∧
(∀ s pf1 width off v, s.turnWrite off v = false → exec (.csrWrite pf1 width off v) s = .next s)

/-- A closed window (R26 to R28): it is decided in descending order of claim number; the commands granted are some of its commands in the
order of the decision, no two of them conflict, and every command that is not granted conflicts with one that is. -/
def Obligations.WindowGrants : Prop :=
(∀ w : List (GateCmd × Nat), (byClaim w).Perm w ∧ (byClaim w).Pairwise (fun a b => b.1.hdr.claim.toNat ≤ a.1.hdr.claim.toNat)) ∧
(∀ (s : State) (w : List (GateCmd × Nat)), ∃ won : List GateCmd, (s.decideWindow w []).gate.granted = s.gate.granted ++ won ∧ won.Sublist (w.map
    (·.1)) ∧ won.Pairwise (fun a b => s.conflict b a = false) ∧ (∀ c ∈ w.map (·.1), c ∉ won → ∃ x ∈ won, s.conflict c x = true))

/-- Weft's watchdog (R22): a handshake of no engine's channel that waits longer than the limit is recorded in WEFT_STALL_LOG, unless a stall
is recorded there, and raised; on an engine's channel it fences the engine with cause 2. A wait within the limit raises nothing. A write of
0 stops the timing; a write of the limit applies at once to handshakes that wait. Rows that complete here with their own effect, for every
state and operands that meet the hypotheses: WEFT_STALL, WEFT_STALL_CFG_WRITE. -/
def Obligations.WeftWatchdog : Prop :=
(∀ s c waitUs, s.runs → channelEngine c = none → s.fld F.WEFT_STALL_CFG_limit_us ≠ 0 → s.fld F.WEFT_STALL_CFG_limit_us < waitUs → s.weft.all (fun
    h => h.channel != c) = true → ∃ t, exec (.weftStall c waitUs) s = .next t ∧ t.bit F.WEFT_STALL_LOG_valid = true ∧ t.fld
    F.WEFT_STALL_LOG_channel = (if s.bit F.WEFT_STALL_LOG_valid then s.fld F.WEFT_STALL_LOG_channel else c.toNat) ∧ t.pended Ev.WEFT_STALL = true
    ∧ t.weft = s.weft ++ [(⟨c, s.mrt - waitUs * 1000, true⟩ : Handshake)] ∧ s.regsKept t [F.WEFT_STALL_LOG_valid.off] ∧ State.sameButEvents { s with weft := t.weft }
    t) ∧
(∀ s c waitUs e, s.runs → channelEngine c = some e → s.watched c = true → s.fld F.WEFT_STALL_CFG_limit_us ≠ 0 → s.fld F.WEFT_STALL_CFG_limit_us <
    waitUs → s.weft.all (fun h => h.channel != c) = true → ∃ t, exec (.weftStall c waitUs) s = .next t ∧ t.fld (F.VE_STATUS_state e) = 1 ∧ t.fld
    (F.VE_STATUS_fence_cause e) = 2 ∧ t.bit F.WEFT_STALL_LOG_valid = true ∧ t.fuses = s.fuses ∧ t.nor = s.nor ∧ t.kept.mem = s.kept.mem ∧
    t.kept.rdt = s.kept.rdt) ∧
(∀ s c waitUs, s.runs → channelEngine c = none → waitUs ≤ s.fld F.WEFT_STALL_CFG_limit_us → s.weft.any (fun h => h.channel == c && h.since ==
    s.mrt - waitUs * 1000) = true → exec (.weftStall c waitUs) s = .next s) ∧
(∀ s value, s.passes 0x90000 value → bitsOf value 15 0 = 0 → ∃ t, exec (.weftStallCfgWrite value) s = .next t ∧ t.fld F.WEFT_STALL_CFG_limit_us =
    0 ∧ s.regsKept t [F.WEFT_STALL_CFG_limit_us.off] ∧ t = { s.taken with csr := t.csr }) ∧
(∀ s value h, s.passes 0x90000 value → bitsOf value 15 0 ≠ 0 → s.weft = [h] → h.raised = false → channelEngine h.channel = none → bitsOf value 15
    0 * 1000 < s.mrt - h.since → ∃ t, exec (.weftStallCfgWrite value) s = .next t ∧ t.fld F.WEFT_STALL_CFG_limit_us = bitsOf value 15 0 ∧ t.weft
    = [{ h with raised := true }] ∧ t.bit F.WEFT_STALL_LOG_valid = true ∧ t.pended Ev.WEFT_STALL = true ∧ s.regsKept t
    [F.WEFT_STALL_CFG_limit_us.off, F.WEFT_STALL_LOG_valid.off])

/-- Spool (R30 to R34): a request granted by R31 takes a free cell, whose generation rises by one; another waits; a free by the cell's owner
with its generation frees it; a free of a free cell or of another generation is a double free and one by another owner a foreign free, and
both leave every cell alone; a reclaim leaves the engine no cell. Rows that complete here with their own effect, for every state and
operands that meet the hypotheses: SPOOL_ALLOCATE, SPOOL_FREE, SPOOL_RECLAIM_DONE. -/
def Obligations.SpoolCells : Prop :=
(∀ s o prio, s.runs → s.ownerHere o.val = true → s.mayAllocate o.val = true → alRises 0 s.spool.cells = true → s.spool.cells.all (fun c => decide
    (c.1 < 262144)) = true → ∃ t, exec (.spoolAllocate o prio) s = .next t ∧ t.spool.waiting = s.spool.waiting ∧ t.fuses = s.fuses ∧ t.kept =
    s.kept ∧ t.gate = s.gate ∧ (∃ i : Fin 262144, (s.cell i.val).owner = 255 ∧ t.spool.cells = alPut s.spool.cells i.val ⟨o.val, ((s.cell
    i.val).gen + 1) % 65536, prio.val⟩)) ∧
(∀ s o prio, s.runs → s.ownerHere o.val = true → s.mayAllocate o.val = false → exec (.spoolAllocate o prio) s = .next { s with spool := { s.spool with waiting := s.spool.waiting ++ [(o.val, prio.val)] } }) ∧
(∀ s i issuer gen, s.runs → s.spool.waiting = [] → (s.cell i.val).owner = issuer.toNat → issuer.toNat ≠ 255 → (s.cell i.val).gen = gen.toNat → ∃
    t, exec (.spoolFree i issuer gen) s = .next t ∧ (t.cell i.val).owner = 255 ∧ (t.cell i.val).gen = gen.toNat ∧ (∀ j : Fin 262144, j ≠ i →
    t.cell j.val = s.cell j.val) ∧ t = { s with spool := { s.spool with cells := t.spool.cells } }) ∧
(∀ s i issuer gen, s.runs → ((s.cell i.val).owner = 255 ∨ (s.cell i.val).gen ≠ gen.toNat) → 64 ≤ issuer.toNat → ∃ t, exec (.spoolFree i issuer
    gen) s = .next t ∧ t.pended Ev.SPOOL_DOUBLE_FREE = true ∧ t.bit F.SPOOL_BADFREE_CELL_valid = true ∧ (s.bit F.SPOOL_BADFREE_CELL_valid = false
    → t.fld F.SPOOL_BADFREE_CELL_cell = i.val ∧ t.fld F.SPOOL_BADFREE_CELL_kind = 1 ∧ t.fld F.SPOOL_BADFREE_OWNER_issuer = issuer.toNat) ∧
    s.regsKept t [F.SPOOL_BADFREE_CELL_cell.off, F.SPOOL_BADFREE_OWNER_issuer.off] ∧ s.sameButEvents t) ∧
(∀ s i issuer gen, s.runs → (s.cell i.val).owner ≠ 255 → (s.cell i.val).gen = gen.toNat → (s.cell i.val).owner ≠ issuer.toNat → 64 ≤ issuer.toNat
    → ∃ t, exec (.spoolFree i issuer gen) s = .next t ∧ t.pended Ev.SPOOL_FOREIGN_FREE = true ∧ t.bit F.SPOOL_BADFREE_CELL_valid = true ∧ (s.bit
    F.SPOOL_BADFREE_CELL_valid = false → t.fld F.SPOOL_BADFREE_CELL_kind = 0 ∧ t.fld F.SPOOL_BADFREE_OWNER_issuer = issuer.toNat) ∧ s.regsKept t
    [F.SPOOL_BADFREE_CELL_cell.off, F.SPOOL_BADFREE_OWNER_issuer.off] ∧ s.sameButEvents t) ∧
(∀ s e, s.runs → s.spool.reclaims.contains e.val = true → s.spool.waiting = [] → alRises 0 s.spool.cells = true → ∃ t, exec (.spoolReclaimDone e)
    s = .next t ∧ t.spool.reclaims = setDel s.spool.reclaims e.val ∧ t.ownerCells e.val = 0 ∧ (∀ i : Fin 262144, t.cell i.val = if (s.cell
    i.val).owner = e.val then (⟨255, ((s.cell i.val).gen + 1) % 65536, 0⟩ : Cell) else s.cell i.val) ∧ t = { s with spool := t.spool })

/-- The reserve rule (R31): if the free cells cover the cells every owner still lacks to its reserve, they cover them after a request has
been granted, waited or been refused. -/
def Obligations.ReservesReachable : Prop :=
∀ (s : State) (o : Fin 82) (prio : Fin 8), alRises 0 s.spool.cells = true → s.spool.cells.all (fun c => decide (c.1 < 262144)) = true →
    s.shortfall ≤ s.freeCells → (s.doAllocate o.val prio.val).shortfall ≤ (s.doAllocate o.val prio.val).freeCells

/-- Pending and mask registers (R356, R357): a W1C write clears the pending bits written 1 and no others; a write of a mask sets it, and
where no source that it unmasks is pending, nothing leaves. A raise (R356): it sets the source's pending bit and joins Peat's queue; masked,
it sends nothing and enters no frame; unmasked with the frame route on and no entry of that source in the last frame_gap_ms, it enters a
frame at once. Held raises (R356): when the gap of a source expires, its held raises enter a frame as one entry with their count and latest
instance, and none is held any more. Rows that complete here with their own effect, for every state and operands that meet the hypotheses:
EVT_PEND_CLEAR, EVT_MASK_WRITE, EVT_FRAME_GAP_EXPIRE. -/
def Obligations.EventRouting : Prop :=
(∀ s g value, s.passes (F.EVT_PENDg_pend g.val).off value → ∃ t, exec (.evtPendClear g value) s = .next t ∧ t = { s.taken with csr := t.csr } ∧
    (∀ ev : Fin 640, t.pended ev.val = (s.pended ev.val && !(ev.val / 16 == g.val && value.getLsbD (ev.val % 16))))) ∧
(∀ s g value, s.passes (F.EVT_MASKg_mask g.val).off value → ∃ t, exec (.evtMaskWrite g value) s = .next t ∧ t.fld (F.EVT_MASKg_mask g.val) =
    value.toNat % 65536 ∧ (((List.range 16).all fun i => !((s.fld (F.EVT_MASKg_mask g.val)).testBit i && !value.getLsbD i && s.pended (16 * g.val
    + i))) = true → t.out = s.out) ∧ s.taken.sameButEvents t) ∧
(∀ (s : State) (ev inst : Nat), ev < 640 → s.mode ≠ .reset → s.fusedEvent ev = false → (s.raise ev inst).pended ev = true) ∧
(∀ (s : State) (ev inst : Nat), ev < 640 → s.masked ev = true → s.ev.fullSeen = false → (s.raise ev inst).out = s.out ∧ (s.raise ev inst).ev =
    s.ev) ∧
(∀ (s : State) (ev inst : Nat), ev < 640 → s.mode ≠ .reset → s.fusedEvent ev = false → s.masked ev = false → s.bit (F.EVT_ROUTEn_frame_en ev) =
    true → s.quiet = false → s.ev.frames = [] → alGet s.ev.last ev = none → alGet s.ev.held ev = none → s.bit (F.EVT_ROUTEn_msix_en ev) = false →
    (s.raise ev inst).ev.frames = [⟨s.mrt, s.commit, [⟨ev, inst, 1⟩]⟩]) ∧
(∀ s source n inst, s.runs → s.quiet = false → alGet s.ev.held source.val = some (n, inst) → s.ev.frames = [] → s.ev.fullSeen = false → exec
    (.evtFrameGapExpire source) s = .next { s with ev := { s.ev with frames := [⟨s.mrt, s.commit, [⟨source.val, inst, n⟩]⟩], last := alPut s.ev.last source.val s.mrt, held := alDel s.ev.held source.val } })

/-- A write of MON_CTRL with snap = 1 (R359): the readout registers of every monitor take its live values, snap_seq rises by one,
clear_on_snap takes its written value, and the live monitors are cleared where it is set. Peat (R360 to R363): a raise of a source and
instance that has a record counts there; one without takes a free slot with count 1; the record's sequence number is the next of the store.
A snapshot copies the records with the sequence number and is busy until the copy is done. Rows that complete here with their own effect,
for every state and operands that meet the hypotheses: MON_SNAP, PEAT_RECORD, PEAT_SNAP_TAKE, PEAT_SNAP_DONE. -/
def Obligations.MonitorsAndPeat : Prop :=
(∀ s value, s.passes F.MON_CTRL_snap.off value → value.getLsbD 31 = true → alRises 0 s.mons = true → s.mons.all (fun p => decide (p.1 < 64 ∧
    p.2.count < 2 ^ 32 ∧ p.2.min < 2 ^ 32 ∧ p.2.max < 2 ^ 32)) = true → ∃ t, exec (.monSnap value) s = .next t ∧ t.fld F.MON_CTRL_snap_seq =
    (s.fld F.MON_CTRL_snap_seq + 1) % 2 ^ 16 ∧ t.bit F.MON_CTRL_clear_on_snap = value.getLsbD 30 ∧ t.mons = (if value.getLsbD 30 then [] else
    s.mons) ∧ (∀ p ∈ s.mons, t.fld (F.MON_COUNTm_value p.1) = p.2.count ∧ t.fld (F.MON_MINm_value p.1) = p.2.min ∧ t.fld (F.MON_MAXm_value p.1) =
    p.2.max) ∧ t = { s.taken with csr := t.csr, mons := t.mons }) ∧
(∀ s x l k r, s.runs → s.peatQ = x :: l → s.bit F.PEAT_SNAP_CTRL_busy = false → s.save.step < 5 → s.kept.peat.find? (fun (p : Nat × PeatRec) =>
    decide (p.2.kind = 1 ∧ p.2.source = x.source ∧ p.2.inst = x.inst)) = some (k, r) → ∃ t, exec .peatRecord s = .next t ∧ t = { s with peatQ := l, kept := { s.kept with peatSeq := s.kept.peatSeq + 1, peat := t.kept.peat } }
    ∧ (alGet t.kept.peat k).map (fun (p : PeatRec) => (p.data.count, p.seq)) = some (Nat.min 0xFFFFFFFF (r.data.count + 1), s.kept.peatSeq + 1)) ∧
(∀ s x l, s.runs → s.peatQ = x :: l → s.bit F.PEAT_SNAP_CTRL_busy = false → s.save.step < 5 → s.kept.peat.find? (fun (p : Nat × PeatRec) =>
    decide (p.2.kind = 1 ∧ p.2.source = x.source ∧ p.2.inst = x.inst)) = none → alRises 0 s.kept.peat = true → s.kept.peat.length < 4096 → ∃ t,
    exec .peatRecord s = .next t ∧ t = { s with peatQ := l, free := s.free + 1, kept := { s.kept with peatSeq := s.kept.peatSeq + 1, peat := t.kept.peat } }
    ∧ (t.kept.peat.find? (fun (p : Nat × PeatRec) => decide (p.2.kind = 1 ∧ p.2.source = x.source ∧ p.2.inst = x.inst))).map (fun (p : Nat ×
    PeatRec) => (p.2.data.count, p.2.seq)) = some (1, s.kept.peatSeq + 1)) ∧
(∀ s value, s.passes F.PEAT_SNAP_CTRL_take.off value → value.getLsbD 31 = true → s.bit F.PEAT_SNAP_CTRL_busy = false → ∃ t, exec (.peatSnapTake
    value) s = .next t ∧ t.peatSnap = s.kept.peat ∧ t.bit F.PEAT_SNAP_CTRL_busy = true ∧ t.pair F.PEAT_SNAP_SEQ_LO_value F.PEAT_SNAP_SEQ_HI_value
    = s.kept.peatSeq % 2 ^ 64 ∧ t = { s.taken with csr := t.csr, peatSnap := t.peatSnap }) ∧
(∀ s, s.runs → ∃ t, exec .peatSnapDone s = .next t ∧ t.bit F.PEAT_SNAP_CTRL_busy = false ∧ s.regsKept t [F.PEAT_SNAP_CTRL_busy.off] ∧ t = { s with csr := t.csr })

/-- Entropy and challenges (R340, R346): a health failure stops fresh entropy until a reseed passes, with which a BRINGUP that has waited
for it goes on; a challenge is drawn while entropy is fresh, and a later one voids it; it expires; a token presented at the test access port
spends it where it is built on it (log entry 135), and goes to verification. Debug levels (R346, R347): in BLANK debug-open opens the level;
in a later state one without a token is refused and counted (log entry 181), and a token is presented, and when its check ends it opens the
level it names if it is right and signed by a key of that state, and is refused and counted otherwise; debug-close closes the level.
Peat-clear presents a token in the same way, and in BLANK clears its scope at once. Rows that complete here with their own effect, for every
state and operands that meet the hypotheses: ENTROPY_HEALTH_FAIL, DRBG_RESEED, DEBUG_CHALLENGE, TAP_CHALLENGE_READ, CHALLENGE_EXPIRE,
TAP_TOKEN_WRITE, DEBUG_OPEN, SIGNATURE_VERIFY_DONE, DEBUG_CLOSE, PEAT_CLEAR. -/
def Obligations.ThimbleChecks : Prop :=
(∀ s, s.runs → ∃ t, exec .entropyHealthFail s = .next t ∧ t.bit F.THM_ENTROPY_fail = true ∧ t.bit F.THM_ENTROPY_health_ok = false ∧ t.pended
    Ev.THM_ENTROPY_FAIL = true ∧ s.regsKept t [F.THM_ENTROPY_fail.off] ∧ State.sameButEvents { s with thm := { s.thm with fresh := false } } t) ∧
(∀ s, s.runs → s.bootWaits = false → ∃ t, exec (.drbgReseed true) s = .next t ∧ t.fld F.THM_ENTROPY_reseeds = (s.fld F.THM_ENTROPY_reseeds + 1) %
    2 ^ 16 ∧ t.bit F.THM_ENTROPY_health_ok = true ∧ s.regsKept t [F.THM_ENTROPY_reseeds.off] ∧ t = { s with csr := t.csr, thm := { s.thm with fresh := true } }) ∧
(∀ s, s.runs → s.bootWaits = true → exec (.drbgReseed true) s = .next (State.checkCopies (doDrbgReseed true s))) ∧
(∀ s, s.runs → ∃ t, exec (.drbgReseed false) s = .next t ∧ t.fld F.THM_ENTROPY_reseeds = s.fld F.THM_ENTROPY_reseeds ∧ t.bit
    F.THM_ENTROPY_health_ok = false ∧ s.regsKept t [F.THM_ENTROPY_health_ok.off] ∧ t = { s with csr := t.csr }) ∧
(∀ s h, s.starts h .debugChallenge → s.thm.fresh = true → exec (.debugChallenge h) s = .next (State.complete { s.begun with free := s.begun.free + 1, thm := { s.begun.thm with challenge := some (Config.draw s.begun.free) } }
    h .ok [Config.draw s.begun.free])) ∧
(∀ s, s.runs → s.thm.fresh = true → exec .tapChallengeRead s = .next { s with free := s.free + 1, thm := { s.thm with challenge := some (Config.draw s.free) }, out := s.out ++ [Out.tap [Config.draw s.free]] }) ∧
(∀ s, s.runs → exec .challengeExpire s = .next { s with thm := { s.thm with challenge := none } }) ∧
(∀ s k, s.runs → exec (.tapTokenWrite k) s = .next { s with thm := { s.thm with challenge := if s.thm.challenge = some k.challenge then none else s.thm.challenge, verify := s.thm.verify ++ [Verify.mk k (.debug k.level) none (s.tokenFields k (.debug k.level))] } }) ∧
(∀ s h level k, s.starts h (.debugOpen level k) → s.fuses.life = blank → s.fuses.levelOk level.val = true → ∃ t, exec (.debugOpen h level k) s =
    .next t ∧ t.fld F.THM_LIFECYCLE_debug = level.val ∧ t.fld F.THM_DBG_STAT_level = level.val ∧ t.fld F.THM_DBG_STAT_opened_by = 1 ∧ t.pended
    Ev.THM_DBG_OPEN = true ∧ s.regsKept t [F.THM_LIFECYCLE_debug.off, F.THM_DBG_STAT_level.off] ∧ s.begun.sameButAnswer t) ∧
(∀ s h level k, s.starts h (.debugOpen level (some k)) → s.fuses.life ≠ blank → exec (.debugOpen h level (some k)) s = .next (s.begun.present k
    (.debug level.val) (some h))) ∧
(∀ s h level, s.starts h (.debugOpen level none) → s.fuses.life ≠ blank → exec (.debugOpen h level none) s = .next (s.begun.refuseToken (.debug
    level.val) (some h))) ∧
(∀ s v l level, s.runs → s.thm.verify = v :: l → v.use = .debug level → level < 4 → v.ok = true → v.token.sigOk = true → s.fuses.tokenKey
    v.token.key = true → ∃ t, exec .signatureVerifyDone s = .next t ∧ t.thm.verify = l ∧ t.fld F.THM_LIFECYCLE_debug = level ∧ t.fld
    F.THM_DBG_STAT_level = level ∧ t.fld F.THM_DBG_STAT_opened_by = (if v.token.key.val = 0 then 3 else 2) ∧ t.pended Ev.THM_DBG_OPEN = true ∧
    State.sameButAnswer { s with thm := { s.thm with verify := l } } t) ∧
(∀ s v l level, s.runs → s.thm.verify = v :: l → v.use = .debug level → (v.ok = false ∨ v.token.sigOk = false ∨ s.fuses.tokenKey v.token.key =
    false) → ∃ t, exec .signatureVerifyDone s = .next t ∧ t.thm.verify = l ∧ t.fld F.THM_DBG_STAT_fails = Nat.min 255 (s.fld F.THM_DBG_STAT_fails
    + 1) ∧ t.fld F.THM_LIFECYCLE_debug = s.fld F.THM_LIFECYCLE_debug ∧ t.pended Ev.THM_DBG_FAIL = true ∧ State.sameButAnswer { s with thm := { s.thm with verify := l } }
    t) ∧
(∀ s h, s.starts h .debugClose → ∃ t, exec (.debugClose h) s = .next t ∧ t.fld F.THM_LIFECYCLE_debug = 0 ∧ t.fld F.THM_DBG_STAT_level = 0 ∧ t.fld
    F.THM_DBG_STAT_opened_by = 0 ∧ (s.lks.halted = [] → s.regsKept t [F.THM_LIFECYCLE_debug.off, F.THM_DBG_STAT_level.off]) ∧ State.sameButAnswer
    { s.begun with lks := t.lks } t) ∧
(∀ s h scope k, s.starts h (.peatClear scope (some k)) → s.fuses.life ≠ blank → scope.val ≠ 0 → exec (.peatClear h scope (some k)) s = .next
    (s.begun.present k (.peat scope.val) (some h))) ∧
(∀ s h scope k, s.starts h (.peatClear scope k) → s.fuses.life = blank → scope.val ≠ 0 → ∃ t, exec (.peatClear h scope k) s = .next t ∧ t.pended
    Ev.PEAT_CLEARED = true ∧ (∀ p ∈ t.kept.peat, inScope scope.val p.2 = true → p.2.kind ≠ 3 → p.2.data = Live.zero) ∧ State.sameButAnswer { s.begun with kept := { s.kept with peat := t.kept.peat, peatSeq := t.kept.peatSeq }, free := t.free }
    t)

/-- Lifecycle and fuses (R341 to R343): in BRINGUP after the THM lock, with no sequence running, secure, return and scrap present their
token, and scrap in BLANK starts its burns; outside that they complete BUSY; provision-begin draws a DRK once and returns the same key on a
repeat; provision-commit burns the owner keys, the wrap key and PROVISIONED; advance-rollback burns up to the running svn. A burn that reads
back takes its effect on the fuses; one that does not changes nothing. Rows that complete here with their own effect, for every state and
operands that meet the hypotheses: SECURE, RETURN, SCRAP, PROVISION_BEGIN, PROVISION_COMMIT, ADVANCE_ROLLBACK, FUSE_BURN_DONE, THM_LOCK_SET.
-/
def Obligations.LifecycleCommands : Prop :=
(∀ s h k, s.starts h (.secure (some k)) → s.lifeOpen = true → s.fuses.canGo secured = true → exec (.secure h (some k)) s = .next (s.begun.present
    k (.life secured) (some h))) ∧
(∀ s h k, s.starts h (.returnUnit (some k)) → s.lifeOpen = true → s.fuses.canGo Machine.returned = true → exec (.returnUnit h (some k)) s = .next
    (s.begun.present k (.life Machine.returned) (some h))) ∧
(∀ s h k, s.starts h (.scrap k) → s.lifeOpen = true → s.fuses.life = blank → s.brownout = false → exec (.scrap h k) s = .next { s.begun with thm := { s.begun.thm with burn := some ⟨[.scrapIntent, .destroyBegun, .revokeOwner, .destroyKeys, .revokeMaker, .life scrapped], some h⟩ } }) ∧
(∀ s h k, s.starts h (.scrap (some k)) → s.lifeOpen = true → s.fuses.life ≠ blank → s.fuses.canGo scrapped = true → exec (.scrap h (some k)) s =
    .next (s.begun.present k (.life scrapped) (some h))) ∧
(∀ s h k, s.starts h (.secure k) → s.lifeOpen = false → exec (.secure h k) s = .next (s.begun.complete h .busy)) ∧
(∀ s h k, s.starts h (.returnUnit k) → s.lifeOpen = false → exec (.returnUnit h k) s = .next (s.begun.complete h .busy)) ∧
(∀ s h k, s.starts h (.scrap k) → s.lifeOpen = false → exec (.scrap h k) s = .next (s.begun.complete h .busy)) ∧
(∀ s h, s.starts h .provisionBegin → s.fuses.life = blank → s.fuses.drk = .absent → s.thm.fresh = true → s.thm.burn = none → s.brownout = false →
    exec (.provisionBegin h) s = .next { s.begun with thm := { s.begun.thm with burn := some ⟨[.drk], some h⟩ } }) ∧
(∀ s h, s.starts h .provisionBegin → s.fuses.life = blank → s.fuses.drk = .present → exec (.provisionBegin h) s = .next (s.begun.complete h .ok
    [Config.identityKey, s.begun.fuses.devid])) ∧
(∀ s h keys, s.starts h (.provisionCommit keys true) → s.lifeOpen = true → s.fuses.life = blank → s.fuses.drk = .present → s.bit
    F.GLB_SAVE_STAT_sealed = false → keys &&& 0b1110#4 ≠ 0 → s.brownout = false → exec (.provisionCommit h keys true) s = .next { s.begun with thm := { s.begun.thm with burn := some ⟨[.keys (keys &&& 0b1110#4), .wrapKey, .life provisioned], some h⟩ } }) ∧
(∀ s h, s.starts h .advanceRollback → s.fuses.life = secured → s.thm.burn = none → s.brownout = false → s.fuses.rollback < Nat.min 128 s.svn →
    exec (.advanceRollback h) s = .next { s.begun with thm := { s.begun.thm with burn := some ⟨List.replicate (Nat.min 128 s.begun.svn - s.begun.fuses.rollback) .rollback, some h⟩ } }) ∧
(∀ s b l o, s.runs → s.brownout = false → s.thm.burn = some ⟨b :: l, o⟩ → ∃ t, exec (.fuseBurnDone true) s = .next t ∧ t.fuses = s.fuses.apply b
    ∧ t.pending = s.pending ∧ (l ≠ [] → t.thm.burn = some (BurnRun.mk l o) ∧ State.sameButEvents { s with fuses := t.fuses, thm := t.thm } t)) ∧
(∀ s b l o, s.runs → s.thm.burn = some ⟨b :: l, o⟩ → exec (.fuseBurnDone false) s = .next s) ∧
(∀ s, s.passes F.THM_LOCK_lock.off 1#32 → ∃ t, exec .thmLockSet s = .next t ∧ t.bit F.THM_LOCK_lock = true ∧ s.regsKept t [F.THM_LOCK_lock.off] ∧
    t = { s.taken with csr := t.csr })

/-- Protection domains (R41, R43), on a unit that runs alone: creating a FREE domain with attributes in range makes it ACTIVE with them, and
destroying one that holds no region and no queue pair makes it FREE; a command that finds it otherwise completes BUSY or INVALID and changes
nothing. A command on shared state (R58, R169). On a unit that is neither in PAIRED nor in RESYNC, one whose checks pass takes effect and,
unless it lasts, completes; one that fails a check takes no effect and completes with the check's status. On LEAD its own create-domain
command takes effect, goes to the twin and waits for CMD_DONE with no completion yet. On FOLLOW its own command, whatever it is, is sent to
LEAD with rank 1 and waits: nothing of it takes effect and it does not complete. Rows that complete here with their own effect, for every
state and operands that meet the hypotheses: CREATE_DOMAIN, DESTROY_DOMAIN. -/
def Obligations.DomainCommands : Prop :=
(∀ s h pd rq qq k, s.starts h (.createDomain pd rq qq k) → s.restoring = false → s.mirrored = false → pd < 1024 → alGet s.kept.domains pd = none
    → rq ≤ 1048576 → qq ≤ 65536 → k < 1024 → exec (.createDomain h pd rq qq k) s = .next (State.complete { s.begun with kept := { s.begun.kept with domains := alPut s.begun.kept.domains pd ⟨rq, qq, k⟩ } }
    h .ok)) ∧
(∀ s h pd rq qq k, s.starts h (.createDomain pd rq qq k) → pd < 1024 → alGet s.kept.domains pd ≠ none → exec (.createDomain h pd rq qq k) s =
    .next (s.begun.complete h .busy)) ∧
(∀ s h pd rq qq k, s.starts h (.createDomain pd rq qq k) → alGet s.kept.domains pd = none → (1024 ≤ pd ∨ 1048576 < rq ∨ 65536 < qq ∨ 1024 ≤ k) →
    exec (.createDomain h pd rq qq k) s = .next (s.begun.complete h .invalid)) ∧
(∀ s h pd, s.starts h (.destroyDomain pd) → s.restoring = false → s.mirrored = false → alGet s.kept.domains pd ≠ none → s.rgnsIn pd = 0 → s.qpsIn
    pd = 0 → exec (.destroyDomain h pd) s = .next (State.complete { s.begun with kept := { s.begun.kept with domains := alDel s.begun.kept.domains pd } }
    h .ok)) ∧
(∀ s h pd, s.starts h (.destroyDomain pd) → alGet s.kept.domains pd ≠ none → (0 < s.rgnsIn pd ∨ 0 < s.qpsIn pd) → exec (.destroyDomain h pd) s =
    .next (s.begun.complete h .busy)) ∧
(∀ s h pd, s.starts h (.destroyDomain pd) → alGet s.kept.domains pd = none → exec (.destroyDomain h pd) s = .next (s.begun.complete h .invalid)) ∧
(∀ (s : State) (h : Hdr) (c : Cmd) (vals : List Nat), s.mirrored = false → s.checkShared c = .ok vals → s.runShared h c = (if cmdLasts c then
    s.applyShared h vals c else (s.applyShared h vals c).endShared h c vals)) ∧
(∀ (s : State) (h : Hdr) (c : Cmd) (st : Status), s.checkShared c = .error st → (∀ slot b, c ≠ .keySlot slot b) → s.runShared h c = s.complete h
    st) ∧
(∀ s h pd rq qq k, s.starts h (.createDomain pd rq qq k) → s.mirrored = true → s.lead = true → h.src ≠ .twin → pd < 1024 → alGet s.kept.domains
    pd = none → rq ≤ 1048576 → qq ≤ 65536 → k < 1024 → exec (.createDomain h pd rq qq k) s = .next (State.seamSend (State.awaitTwin { s.begun with kept := { s.begun.kept with domains := alPut s.begun.kept.domains pd ⟨rq, qq, k⟩ } }
    h (.createDomain pd rq qq k) [] false) (.command h (.createDomain pd rq qq k) []))) ∧
(∀ s h pd rq qq k, s.starts h (.createDomain pd rq qq k) → s.mirrored = true → s.lead = false → h.src ≠ .twin → pd < 1024 → alGet s.kept.domains
    pd = none → rq ≤ 1048576 → qq ≤ 65536 → k < 1024 → exec (.createDomain h pd rq qq k) s = .next (s.begun.sendToLead h (.createDomain pd rq qq
    k))) ∧
(∀ (s : State) (h : Hdr) (c : Cmd), (s.sendToLead h c).shared = s.shared ++ [⟨h, c, [], true⟩] ∧ (s.sendToLead h c).kept = s.kept ∧ (s.sendToLead
    h c).gate = s.gate ∧ (s.sendToLead h c).csr = s.csr ∧ claimRank (s.twinHdr h).claim = 1)

/-- R44 and R57: on a unit that runs alone, a register command that passes its checks, with the index it names or the lowest that is FREE
and readable, writes the descriptor with state VALID and the epoch that the index has, and returns the key of that index and epoch: bits 31
to 12 of the key are the index and bits 11 to 0 are bits 11 to 0 of the epoch. Rows that complete here with their own effect, for every
state and operands that meet the hypotheses: REGISTER. -/
def Obligations.RegisterAnswersKey : Prop :=
(∀ s h a i, s.starts h (.register a) → s.restoring = false → s.mirrored = false → a.index = some i → s.registerCheck i a = none → exec (.register
    h a) s = .next ((s.begun.setRgn i (regDescriptor (s.begun.rgn i).epoch a)).complete h .ok [keyOf i (s.begun.rgn i).epoch])) ∧
(∀ s h a i, s.starts h (.register a) → s.restoring = false → s.mirrored = false → a.index = none → i < s.fld F.RGN_RDT_CFG_count → (s.rgn
    i).state = .free → s.descPoisoned i = false → s.reserved i = false → (∀ j, j < i → (s.rgn j).state ≠ .free ∨ s.descPoisoned j = true ∨
    s.reserved j = true) → s.registerCheck i a = none → exec (.register h a) s = .next ((s.begun.setRgn i (regDescriptor (s.begun.rgn i).epoch
    a)).complete h .ok [keyOf i (s.begun.rgn i).epoch])) ∧
(∀ i epoch, i < 2 ^ 20 → (BitVec.ofNat 32 (keyOf i epoch)).extractLsb' 12 20 = BitVec.ofNat 20 i ∧ (BitVec.ofNat 32 (keyOf i epoch)).extractLsb'
    0 12 = BitVec.ofNat 12 epoch ∧ keyOf i epoch < 2 ^ 32)

/-- R50: a request is admitted only to a VALID region with broken clear; a key is current for a command only while its region is VALID at
the key's tag, or CLOSING at the tag before it; deregister, repair, sync and set-extent with another key complete INVALID; register finds a
VALID or CLOSING region BUSY, deregister a CLOSING one BUSY, repair and sync a CLOSING one INVALID. Such a command changes nothing but its
completion. A region whose descriptor line is poisoned has no current key (R53). Rows that complete here with their own effect, for every
state and operands that meet the hypotheses: DEREGISTER, REPAIR, SYNC, SET_EXTENT, REGISTER. -/
def Obligations.RegionCommandsByState : Prop :=
(∀ (s : State) key, s.current key = if s.descPoisoned (keyIndex key) = true then none else if ((s.rgn (keyIndex key)).state = .valid ∧ keyTag key
    = (s.rgn (keyIndex key)).epoch % 4096) ∨ ((s.rgn (keyIndex key)).state = .closing ∧ keyTag key = ((s.rgn (keyIndex key)).epoch + 2 ^ 32 - 1)
    % 4096) then some (keyIndex key) else none) ∧
(∀ (s : State) pd key right va len bounds x, (s.admits pd key right va len bounds).2 = .ok x → (s.rgn (keyIndex key)).state = .valid ∧ (s.rgn
    (keyIndex key)).broken = false) ∧
(∀ s h key, s.starts h (.deregister key) → s.current key = none → exec (.deregister h key) s = .next (s.begun.complete h .invalid)) ∧
(∀ s h key, s.starts h (.repair key) → s.current key = none → exec (.repair h key) s = .next (s.begun.complete h .invalid)) ∧
(∀ s h key, s.starts h (.sync key) → s.current key = none → exec (.sync h key) s = .next (s.begun.complete h .invalid)) ∧
(∀ s h key flag policy, s.starts h (.setExtent key flag policy) → s.current key = none → exec (.setExtent h key flag policy) s = .next
    (s.begun.complete h .invalid)) ∧
(∀ s h a i, s.starts h (.register a) → a.index = some i → i < s.fld F.RGN_RDT_CFG_count → s.descPoisoned i = false → (s.rgn i).state ≠ .free →
    exec (.register h a) s = .next (s.begun.complete h .busy)) ∧
(∀ s h key i, s.starts h (.deregister key) → s.current key = some i → (s.rgn i).state = .closing → exec (.deregister h key) s = .next
    (s.begun.complete h .busy)) ∧
(∀ s h key i, s.starts h (.repair key) → s.current key = some i → (s.rgn i).state = .closing → exec (.repair h key) s = .next (s.begun.complete h
    .invalid)) ∧
(∀ s h key i, s.starts h (.sync key) → s.current key = some i → (s.rgn i).state = .closing → exec (.sync h key) s = .next (s.begun.complete h
    .invalid))

/-- R42: an access that the checks of R51 let through is one whose queue pair's protection domain is the region's own; where the two differ,
no key, right, address or length is let through. -/
def Obligations.DomainsNeverCross : Prop :=
(∀ (s : State) pd key right va len bounds x, (s.admits pd key right va len bounds).2 = .ok x → (s.rgn (keyIndex key)).pd = pd) ∧
(∀ (s : State) pd key right va len bounds, (s.rgn (keyIndex key)).pd ≠ pd → ∃ syn, (s.admits pd key right va len bounds).2 = .error syn)

/-- Region commands (R54, R59 to R61): sync drops the region's cached tile entries; repair does too and clears broken; deregister closes the
region at the next epoch; its drain abandons what has not begun to apply at the deadline; and once nothing admitted is left on either unit
the descriptor is FREE at its epoch and the command completes. Rows that complete here with their own effect, for every state and operands
that meet the hypotheses: SYNC, REPAIR, DEREGISTER, DRAIN_DEADLINE, DEREGISTER_DRAIN_DONE. -/
def Obligations.RegionCommands : Prop :=
(∀ s h key i, s.starts h (.sync key) → s.restoring = false → s.mirrored = false → s.current key = some i → (s.rgn i).state = .valid → ∃ t, exec
    (.sync h key) s = .next t ∧ t = (s.begun.dropEntries (s.rgn i)).complete h .ok ∧ (s.dropEntries (s.rgn i)).kept = s.kept ∧ (∀ e ∈
    (s.dropEntries (s.rgn i)).entries, e.1 < (s.rgn i).target ∨ (s.rgn i).target + 8 * (s.rgn i).tileCount ≤ e.1)) ∧
(∀ s h key i, s.starts h (.repair key) → s.restoring = false → s.mirrored = false → s.current key = some i → (s.rgn i).state = .valid → exec
    (.repair h key) s = .next (((s.begun.dropEntries (s.begun.rgn i)).setRgn i { s.begun.rgn i with broken := false, lastFault := 0 }).complete h
    .ok)) ∧
(∀ s h key i, s.starts h (.deregister key) → s.restoring = false → s.mirrored = false → s.current key = some i → (s.rgn i).state = .valid → ∃ t,
    exec (.deregister h key) s = .next t ∧ (t.rgn i).state = .closing ∧ (t.rgn i).epoch = ((s.rgn i).epoch + 1) % 2 ^ 32 ∧ (t.rgn i).closer =
    some h ∧ (t.rgn i).selfDone = false ∧ (t.rgn i).twinDone = true ∧ (t.rgn i).broken = (s.rgn i).broken ∧ (∀ j, j ≠ i → t.rgn j = s.rgn j) ∧
    t.entries = (s.dropEntries (s.rgn i)).entries ∧ t.kept.mem = s.kept.mem ∧ t.kept.domains = s.kept.domains ∧ t.fuses = s.fuses ∧ t.nor = s.nor
    ∧ t.mode = s.mode) ∧
(∀ s i, s.runs → (s.rgn i).state = .closing → (∀ p ∈ s.kept.qps, p.2.admitted i = []) → (∀ w ∈ s.seam.fwdWait, w.2.region ≠ i) → exec
    (.drainDeadline i) s = .next s) ∧
(∀ s i n q m, s.runs → (s.rgn i).state = .closing → s.kept.qps = [(n, q)] → q.msgs = [m] → q.cur = none → m.region = some i → m.phase = .accepted
    → m.entry = none → q.rc = true → q.nak = none → q.state = .rtr → s.fetches = [] → q.engine = none → s.gates = false → ∃ t, exec
    (.drainDeadline i) s = .next t ∧ (t.qpAt n).map (fun (x : Qp) => (x.msgs, x.nak)) = some ([], some (q.epsn, 0x27, s.aeth 0x27 true)) ∧ t.fld
    F.RGN_DRAIN_ABANDON_count = (s.fld F.RGN_DRAIN_ABANDON_count + 1) % 2 ^ 32 ∧ t.pended Ev.RGN_DRAIN_ABANDON = true ∧ t.kept.mem = s.kept.mem ∧
    t.kept.rdt = s.kept.rdt) ∧
(∀ s i h, s.runs → (s.rgn i).state = .closing → s.admitted i = 0 → (s.rgn i).selfDone = false → (s.rgn i).twinDone = true → (s.rgn i).closer =
    some h → h.src ≠ .twin → s.mirrored = false → ∃ t, exec (.deregisterDrainDone i) s = .next t ∧ (t.rgn i) = ({ epoch := (s.rgn i).epoch } :
    Rgn) ∧ (∀ j, j ≠ i → t.rgn j = s.rgn j) ∧ (s.quiet = false → h.src = Source.mqp → (s.qpAt 0).any (fun (q : Qp) => qpLive q.state) = true →
    t.mqpOut = s.mqpOut ++ [Out.completion .mqp none ⟨mCompletion, h.tag, s.runningCode h, .ok, h.claim, s.commit⟩ []]) ∧ State.sameButAnswer { s with kept := { s.kept with rdt := t.kept.rdt } }
    t) ∧
(∀ s i, s.runs → ((s.rgn i).state ≠ .closing ∨ 0 < s.admitted i) → exec (.deregisterDrainDone i) s = .next s)

/-- Table-writes (R47, R55): a table-write that passes its checks stores each entry as eight bytes, least significant first, from the
address it names; every byte outside the entries reads as before; one that fails a check changes nothing but its completion. Rows that
complete here with their own effect, for every state and operands that meet the hypotheses: TABLE_WRITE. -/
def Obligations.TableWriteStores : Prop :=
(∀ s h addr entries, s.starts h (.tableWrite addr entries.length true entries) → s.mirrored = false → s.tableCheck addr entries.length true
    entries = none → Memory.wf s.kept.mem = true → ∃ t, exec (.tableWrite h addr entries.length true entries) s = .next t ∧ (∀ k, k <
    entries.length → t.bytes (addr + 8 * k) 8 = leBytes 8 (entries.getD k 0).toNat) ∧ (∀ b, b < addr ∨ addr + 8 * entries.length ≤ b → t.byte b =
    s.byte b) ∧ Memory.wf t.kept.mem = true ∧ t.kept.rdt = s.kept.rdt ∧ t.kept.qps = s.kept.qps ∧ t.entries = s.entries ∧ t.fuses = s.fuses ∧
    t.nor = s.nor) ∧
(∀ s h addr count shapeOk entries st, s.starts h (.tableWrite addr count shapeOk entries) → s.tableCheck addr count shapeOk entries = some st →
    exec (.tableWrite h addr count shapeOk entries) s = .next (s.begun.complete h st))

/-- Extents (R119, R120): a set-extent that passes its checks on a unit that runs alone writes flag and policy into the descriptor and
queues the extent's move; one whose flag is clear or whose policy is 0 moves nothing; one that fails a check changes nothing. Ageing, churn
and rebalancing (R117, R125, R131): an age tick adds 1 to every tile's age up to 15 and changes nothing else; a split tile whose units are
all in DRAM becomes one DRAM tile, and no longer churns; one whose units differ, or that moves, stays as it is; a channel above the band
queues its hottest tile for another frame (the tile of the lowest age, the model's measure, log entry 119), and with the band off it gives
up nothing. Moves (R90, R134): every 100 ms the loads are measured anew and nothing of a queue pair changes but the engine chosen for it; a
chosen queue pair moves at a quiescent point to an eligible engine, whose old engine may then take an unbound one, and is left alone where
it is not quiescent; one passed over is no longer chosen, and another of its engine is chosen in its place. Rows that complete here with
their own effect, for every state and operands that meet the hypotheses: SET_EXTENT, AGE_TICK, CHURN_MERGE, DRAM_REBALANCE,
QP_REBALANCE_PERIOD, QP_MOVE, QP_MOVE_PASSED_OVER. -/
def Obligations.TailorMoves : Prop :=
(∀ s h key flag policy i, s.starts h (.setExtent key flag policy) → s.restoring = false → s.mirrored = false → s.current key = some i →
    s.extentCheck i flag policy.val = none → exec (.setExtent h key flag policy) s = .next ((s.begun.applyExtent i flag policy.val).complete h
    .ok)) ∧
(∀ (s : State) i flag policy, ((s.applyExtent i flag policy).rgn i).ext = flag ∧ ((s.applyExtent i flag policy).rgn i).policy = policy ∧
    ((s.applyExtent i flag policy).rgn i).state = (s.rgn i).state ∧ (∀ j, j ≠ i → (s.applyExtent i flag policy).rgn j = s.rgn j) ∧ (s.applyExtent
    i flag policy).kept.tiles = s.kept.tiles ∧ (flag = false ∨ policy = 0 → s.applyExtent i flag policy = (s.endExtent i).setRgn i { s.rgn i with ext := flag, policy := policy })) ∧
(∀ s h key flag policy i st, s.starts h (.setExtent key flag policy) → s.current key = some i → s.extentCheck i flag policy.val = some st → exec
    (.setExtent h key flag policy) s = .next (s.begun.complete h st)) ∧
(∀ s, s.runs → exec .ageTick s = .next { s with tlr := { s.tlr with back := [] }, kept := { s.kept with tiles := s.kept.tiles.map (fun (p : Nat × Tile) => (p.1, { p.2 with age := Nat.min 15 (p.2.age + 1) })) } }) ∧
(∀ s tile reads fails, s.runs → s.isMoving tile none = false → (s.tile tile).units ≠ [] → (s.tile tile).units.all (· == .dram) = true → exec
    (.churnMerge tile reads fails) s = .next (s.setTile tile { s.tile tile with home := .dram, units := [], churn := false })) ∧
(∀ s tile reads fails, s.runs → (((s.tile tile).churn = false ∧ (s.tile tile).units = []) ∨ s.isMoving tile none = true ∨ ((s.tile tile).units ≠
    [] ∧ (s.tile tile).units.all (· == .dram) = false ∧ (s.tile tile).units.all (· == .nand) = false)) → exec (.churnMerge tile reads fails) s =
    .next s) ∧
(∀ s ch x, s.runs → s.fld F.TLR_DRAM_CFG_imbal_pct ≠ 0 → (s.pops.map (fun p => s.chanLoad p.1)).foldl (· + ·) 0 * (100 + s.fld
    F.TLR_DRAM_CFG_imbal_pct) < s.chanLoad ch.val * 100 * s.pops.length → s.tlr.queue = [] → s.tlr.running = [] → s.kept.tiles = [x] → x.2.inDram
    = true → (frameAt s.pops x.2.frame).map (fun y => y.1) = some ch.val → exec (.dramRebalance ch) s = .next { s with tlr := { s.tlr with queue := [⟨x.1, none, 5, true, 0, 0, false, none, 0, true⟩] } }) ∧
(∀ s ch, s.runs → s.fld F.TLR_DRAM_CFG_imbal_pct = 0 → exec (.dramRebalance ch) s = .next s) ∧
(∀ s, s.runs → ∃ t, exec .qpRebalancePeriod s = .next t ∧ t.tlr.qpLoad = [] ∧ t.tlr.engBase = (List.range s.part.engines).map (fun e => (e, s.fld
    (F.VE_MSG_CNT_messages e))) ∧ (∀ n, (t.qpAt n).map (fun q => { q with moveTo := none }) = (s.qpAt n).map (fun q => { q with moveTo := none }))
    ∧ t = { s with kept := { s.kept with qps := t.kept.qps }, tlr := { s.tlr with qpLoad := [], qpLast := s.tlr.qpLoad, engBase := t.tlr.engBase, overFor := t.tlr.overFor } }) ∧
(∀ s qp dest q e, s.runs → s.qpAt qp.val = some q → q.engine = some e → q.moveTo = some dest.val → s.quiescent qp.val q = true → s.eligible
    dest.val = true → exec (.qpMove qp dest) s = .next ((s.setQp qp.val { q with engine := some dest.val, moveTo := none }).bindAll)) ∧
(∀ s qp dest q, s.runs → s.qpAt qp.val = some q → (q.engine = none ∨ q.moveTo ≠ some dest.val ∨ s.quiescent qp.val q = false ∨ s.eligible
    dest.val = false) → exec (.qpMove qp dest) s = .next s) ∧
(∀ s qp q d e w m x, s.runs → s.qpAt qp.val = some q → q.moveTo = some d → q.engine = some e → (s.setQp qp.val { q with moveTo := none }).heaviest
    s.tlr.qpLast e [qp.val] = some (w, m) → m ≠ qp.val → s.qpAt m = some x → ∃ t, exec (.qpMovePassedOver qp) s = .next t ∧ t.qpAt qp.val = some
    { q with moveTo := none } ∧ t.qpAt m = some { x with moveTo := some d } ∧ (∀ k, k ≠ qp.val → k ≠ m → t.qpAt k = s.qpAt k) ∧ t = { s with kept := { s.kept with qps := t.kept.qps } })

/-- Arrival (R72): a one-packet WRITE at the expected PSN, from the peer that the context names, with a key, right and range that its region
grants, onto a DRAM-homed tile whose lines are not poisoned, is accepted as one message that holds the packet's Spool cells, and epsn moves
on by one; memory is not written yet. A packet that fails the secure tag or the header, that comes while hosts are not served, or that names
no queue pair is dropped and counted for that reason. One that Spool has no cells for is lost, and counted nowhere (the model's choice, log
entry 109). Rows that complete here with their own effect, for every state and operands that meet the hypotheses: PACKET_RECEIVE. -/
def Obligations.WriteAccepted : Prop :=
(∀ s p n q r, s.mode = .solo → s.doze.armed = false → s.gates = true → s.lportPresent p.lport.val = true → s.msecPolicy p.lport.val = 0 →
    p.tagged = false → p.hdrOk = true → p.dual = none → p.qpn = 0x10000 + n → n < 0x10000 → s.qpAt n = some q → q.rc = true → qpLive q.state =
    true → q.engine ≠ none → q.fwdUntil = none → q.t5 p = true → q.nak = none → q.naked = false → q.replace = none → q.cur = none → q.past = [] →
    p.ce = false → p.ect = false → q.epsn = p.psn → q.rnrAt = none → (s.takeChain (64 + portOf p.lport.val) p.prio.val (cellsFor
    p.data.length)).isSome = true → s.pfcOn (portOf p.lport.val) p.prio.val = false → s.spool.waiting = [] → s.spool.inHand = [] → p.psn < 2 ^ 24
    → (∀ m ∈ q.msgs, m.psn ≠ p.psn) → p.op = .writeOnly → p.reth = some r → p.data.length = r.len → 0 < r.len → r.len ≤ q.pmtu → r.len ≤ 2 ^ 31 →
    p.walkUe = none → s.descPoisoned (keyIndex r.key) = false → s.keyCheck q.pd r.key .write r.va r.len true = none → (s.rgn (keyIndex
    r.key)).tiled = false → ((s.rgn (keyIndex r.key)).target + (r.va - (s.rgn (keyIndex r.key)).vaBase)) % 65536 + r.len ≤ 65536 → (s.rgn
    (keyIndex r.key)).target + (r.va - (s.rgn (keyIndex r.key)).vaBase) < carveBase → (s.tile (tileOf ((s.rgn (keyIndex r.key)).target + (r.va -
    (s.rgn (keyIndex r.key)).vaBase)))).home = .dram → (s.tile (tileOf ((s.rgn (keyIndex r.key)).target + (r.va - (s.rgn (keyIndex
    r.key)).vaBase)))).units = [] → (s.tile (tileOf ((s.rgn (keyIndex r.key)).target + (r.va - (s.rgn (keyIndex r.key)).vaBase)))).churn = false
    → (s.tile (tileOf ((s.rgn (keyIndex r.key)).target + (r.va - (s.rgn (keyIndex r.key)).vaBase)))).present = true → s.seam.blind = false →
    s.kept.poison = [] → ((s.nc.freed = false ∧ s.kept.freshTab = []) ∨ (s.parks = [] ∧ s.kept.own = [] ∧ s.seam.fwdWait = [] ∧ s.seam.early =
    [])) → ∃ t, exec (.packetReceive p) s = .next t ∧ (∃ m, t.qpAt n = some { q with epsn := psnAdd p.psn 1, msgs := q.msgs ++ [m] } ∧ m.psn =
    p.psn ∧ m.verb = .write ∧ m.region = some (keyIndex r.key) ∧ m.pieces = [((s.rgn (keyIndex r.key)).target + (r.va - (s.rgn (keyIndex
    r.key)).vaBase), r.len)] ∧ m.data = p.data ∧ m.phase = .accepted ∧ m.ackReq = p.ackReq ∧ m.cells.length = cellsFor p.data.length) ∧
    t.spool.inHand = [] ∧ t.kept.mem = s.kept.mem ∧ t.kept.rdt = s.kept.rdt ∧ t.kept.domains = s.kept.domains ∧ (∀ k, k ≠ n → t.qpAt k = s.qpAt
    k) ∧ t.csr = s.csr ∧ t.out = s.out ∧ t.fuses = s.fuses ∧ t.nor = s.nor ∧ t.gate = s.gate) ∧
(∀ s p, s.runs → s.doze.armed = false → s.lportPresent p.lport.val = true → p.dual = none → s.t1 p = false → exec (.packetReceive p) s = .next
    (State.afterFree (s.sat (F.PORT_RX_DROP_macsec (portOf p.lport.val))))) ∧
(∀ s p, s.runs → s.doze.armed = false → s.lportPresent p.lport.val = true → p.dual = none → s.t1 p = true → p.hdrOk = false → exec
    (.packetReceive p) s = .next (State.afterFree ((s.slide p).sat (F.PORT_RX_DROP_header (portOf p.lport.val))))) ∧
(∀ s p, s.runs → s.doze.armed = false → s.lportPresent p.lport.val = true → p.dual = none → s.t1 p = true → p.hdrOk = true → s.hostsServed =
    false → exec (.packetReceive p) s = .next (State.afterFree ((s.slide p).sat (F.PORT_RX_DROP_qp (portOf p.lport.val))))) ∧
(∀ s p, s.runs → s.doze.armed = false → s.lportPresent p.lport.val = true → p.dual = none → s.t1 p = true → p.hdrOk = true → s.hostsServed = true
    → ((s.slide p).takeChain (64 + portOf p.lport.val) p.prio.val (cellsFor p.data.length)).isSome = true → (p.qpn < 0x10000 ∨ 0x20000 ≤ p.qpn ∨
    s.qpAt (p.qpn - 0x10000) = none) → (s.nc.freed = false ∨ (s.parks = [] ∧ s.kept.own = [] ∧ s.seam.fwdWait = [] ∧ s.seam.early = [])) → ∃ t,
    exec (.packetReceive p) s = .next t ∧ t.fld (F.PORT_RX_DROP_qp (portOf p.lport.val)) = Nat.min (F.PORT_RX_DROP_qp (portOf p.lport.val)).max
    (s.fld (F.PORT_RX_DROP_qp (portOf p.lport.val)) + 1) ∧ t.kept = (s.slide p).kept ∧ s.regsKept t [(F.PORT_RX_DROP_qp (portOf
    p.lport.val)).off] ∧ t.spool.inHand = []) ∧
(∀ s p, s.runs → s.doze.armed = false → s.lportPresent p.lport.val = true → p.dual = none → s.t1 p = true → p.hdrOk = true → s.hostsServed = true
    → ((s.slide p).takeChain (64 + portOf p.lport.val) p.prio.val (cellsFor p.data.length)).isSome = false → exec (.packetReceive p) s = .next
    (State.afterFree (s.slide p))) ∧
(∀ s p, s.runs → s.doze.armed = false → s.lportPresent p.lport.val = false → exec (.packetReceive p) s = .next (State.afterFree s))

/-- Commit (R77, R78, R74): on a unit that runs alone, an accepted WRITE that is the only message of its queue pair commits: the bytes it
covers read as its data, every other byte of memory reads as before, memory keeps its canonical form, and the message leaves the context
with doneTo at the PSN after it, its Spool cells released. A message that is not accepted yet, or that another before it holds back, does
not commit. Rows that complete here with their own effect, for every state and operands that meet the hypotheses: MESSAGE_COMMIT. -/
def Obligations.WriteCommits : Prop :=
(∀ s qp q m a, s.mode = .solo → s.gates = true → s.qpAt qp.val = some q → q.msgs = [m] → q.nak = none → qpLive q.state = true → q.engine ≠ none →
    q.giving = false → m.verb = .write → m.phase = .accepted → m.entry = none → m.pub = none → m.pieces = [(a, m.len)] → m.data.length = m.len →
    0 < m.len → a % 65536 + m.len ≤ 65536 → a < carveBase → (s.tile (tileOf a)).home = .dram → (s.tile (tileOf a)).units = [] → (s.tile (tileOf
    a)).churn = false → (s.tile (tileOf a)).present = true → s.seam.blind = false → s.kept.chans = [] → Memory.wf s.kept.mem = true →
    ((s.nc.freed = false ∧ s.kept.freshTab = []) ∨ (s.parks = [] ∧ s.kept.own = [] ∧ s.seam.fwdWait = [] ∧ s.seam.early = [])) → (m.cells.map
    (·.1)).Nodup → (∀ c ∈ m.cells, (s.cell c.1).owner = q.owner ∧ (s.cell c.1).owner ≠ 255 ∧ (s.cell c.1).gen = c.2) → ∃ t, exec (.messageCommit
    qp m.psn .clean) s = .next t ∧ t.bytes a m.len = m.data ∧ (∀ b, b < a ∨ a + m.len ≤ b → t.byte b = s.byte b) ∧ Memory.wf t.kept.mem = true ∧
    (t.qpAt qp.val).map (fun x => (x.msgs, x.state)) = some ([], q.state) ∧ (m.dup = false → (t.qpAt qp.val).map (fun x => x.doneTo) = some
    (psnAdd m.last 1)) ∧ t.kept.rdt = s.kept.rdt ∧ t.kept.domains = s.kept.domains ∧ (∀ k, k ≠ qp.val → t.qpAt k = s.qpAt k) ∧ t.fuses = s.fuses
    ∧ t.nor = s.nor ∧ t.gate = s.gate ∧ (s.spool.waiting = [] → t.spool = { s.spool with cells := releaseIn s.spool.cells m.cells })) ∧
(∀ s qp q m, s.runs → s.qpAt qp.val = some q → q.msgs.find? (fun x => decide (x.psn = m.psn ∧ !x.committed)) = some m → (m.phase ≠ .accepted ∨
    mayCommit m (earlierOf q.msgs m.psn) = false) → exec (.messageCommit qp m.psn .clean) s = .next s.afterFree)

/-- ACKs (R74): the expiry of the idle time and the arrival at ack_msgs each send one ACK for the PSN before doneTo, and no completed write
up to that PSN then waits for one; where the packet may not leave yet, it joins the port's transmit queue; below ack_msgs, with nothing
unacknowledged or with the gates closed, nothing is sent. The device as a requester (R69): a retry timeout sends every outstanding request
again in order and counts one try; with the retries exhausted the queue pair enters ERROR with its requests flushed (the PSN recorded is the
model's choice, log entry 102); with nothing outstanding it does nothing. Rows that complete here with their own effect, for every state and
operands that meet the hypotheses: ACK_IDLE_EXPIRE, ACK_MSGS_REACHED, REQUESTER_RETRY_TIMEOUT. -/
def Obligations.AnswersAndRetries : Prop :=
(∀ s qp q, s.runs → s.qpAt qp.val = some q → q.rc = true → qpLive q.state = true → q.unacked ≠ [] → s.gates = true → s.clearWay qp.val q (.ack
    (psnAdd q.doneTo (2 ^ 24 - 1))) = true → s.inClear q.lport (q.ether (.ack 0)) = true → ∃ t, exec (.ackIdleExpire qp) s = .next t ∧ t.out =
    s.out ++ [.packet q.lport qp.val (q.ccClass == 1) none (.ack (psnAdd q.doneTo (2 ^ 24 - 1)))] ∧ t.qpAt qp.val = some { q with unacked := q.unacked.filter (fun (u : Nat × Nat) => !ackedBy (psnAdd q.doneTo (2 ^ 24 - 1)) u), syndrome := 0, synPsn := psnAdd q.doneTo (2 ^ 24 - 1) }
    ∧ (∀ k, k ≠ qp.val → t.qpAt k = s.qpAt k) ∧ t = { s with kept := { s.kept with qps := t.kept.qps, peat := t.kept.peat, peatSeq := t.kept.peatSeq }, mons := t.mons, out := t.out }) ∧
(∀ s qp q, s.runs → s.qpAt qp.val = some q → q.rc = true → qpLive q.state = true → q.unacked ≠ [] → s.gates = true → s.clearWay qp.val q (.ack
    (psnAdd q.doneTo (2 ^ 24 - 1))) = false → s.fld (F.PORT_TP_CFG_ack_msgs (portOf q.lport)) ≤ q.unacked.length → ∃ t, exec (.ackMsgsReached qp)
    s = .next t ∧ t.ports.tx = s.ports.tx ++ [⟨q.lport, q.prio, qp.val, s.mrt, .ack (psnAdd q.doneTo (2 ^ 24 - 1)), false⟩] ∧ t.qpAt qp.val =
    some { q with unacked := q.unacked.filter (fun (u : Nat × Nat) => !ackedBy (psnAdd q.doneTo (2 ^ 24 - 1)) u), syndrome := 0, synPsn := psnAdd q.doneTo (2 ^ 24 - 1) }
    ∧ (∀ k, k ≠ qp.val → t.qpAt k = s.qpAt k) ∧ t = { s with kept := { s.kept with qps := t.kept.qps, peat := t.kept.peat, peatSeq := t.kept.peatSeq }, mons := t.mons, ports := t.ports }) ∧
(∀ s qp q, s.runs → s.qpAt qp.val = some q → (s.gates = false ∨ q.unacked = [] ∨ q.unacked.length < s.fld (F.PORT_TP_CFG_ack_msgs (portOf
    q.lport))) → exec (.ackMsgsReached qp) s = .next s) ∧
(∀ s qp q, s.runs → s.qpAt qp.val = some q → (s.gates = false ∨ q.unacked = []) → exec (.ackIdleExpire qp) s = .next s) ∧
(∀ s qp q, s.runs → s.qpAt qp.val = some q → q.reqs ≠ [] → q.state = .rts → q.tries < q.retry → exec (.requesterRetryTimeout qp) s = .next { s with kept := { s.kept with qps := alPut s.kept.qps qp.val { q with tries := q.tries + 1 } }, ports := { s.ports with tx := s.ports.tx.filter (fun (x : Tx) => !(x.qp == qp.val && q.reqs.any (fun (r : Req) => r.wire == x.wire))) ++ q.reqs.map (fun (r : Req) => (⟨q.lport, q.prio, qp.val, s.mrt, r.wire, true⟩ : Tx)) } }) ∧
(∀ s qp q r l, s.runs → s.qpAt qp.val = some q → q.reqs = r :: l → q.state = .rts → q.retry ≤ q.tries → ∃ t, exec (.requesterRetryTimeout qp) s =
    .next t ∧ (t.qpAt qp.val).map (fun x => (x.state, x.reqs, x.recvs, x.synPsn, x.flushed)) = some (.error, [], [], r.psn, q.reqs.map (fun r =>
    r.psn)) ∧ t.pended Ev.VE_QP_ERROR = true) ∧
(∀ s qp q, s.runs → s.qpAt qp.val = some q → q.reqs = [] → exec (.requesterRetryTimeout qp) s = .next s)

/-- NAKs (R73, R74, R80, R87, R63): with the gates open and every earlier message complete, a sequence NAK leaves and is counted, and the
queue pair goes on; one of the access class leaves and the queue pair enters ERROR; with the gates closed none leaves. A message parked past
its threshold gets an RNR NAK, is discarded, and epsn is back at it with later packets dropped until it comes again. After a fence the
replacement NAK leaves at the replacement point. Rows that complete here with their own effect, for every state and operands that meet the
hypotheses: NAK_SEND, RNR_THRESHOLD_EXPIRE, SEQ_REPLACE_SEND. -/
def Obligations.NaksLeave : Prop :=
(∀ s qp q psn syn aeth e, s.runs → s.qpAt qp.val = some q → q.nak = some (psn, syn, aeth) → q.engine = some e → s.gates = true → qpLive q.state =
    true → q.msgs = [] → q.unacked = [] → s.clearWay qp.val q (.nak psn syn aeth) = true → s.inClear q.lport (q.ether (.ack 0)) = true → syn <
    0x10 → e < 64 → ∃ t, exec (.nakSend qp) s = .next t ∧ t.out = s.out ++ [.packet q.lport qp.val (q.ccClass == 1) none (.nak psn syn aeth)] ∧
    t.qpAt qp.val = some { q with nak := none, syndrome := syn, synPsn := psn } ∧ t.fld (F.VE_NAK_CNT0_seq e) = (s.fld (F.VE_NAK_CNT0_seq e) + 1)
    % 2 ^ 16 ∧ s.regsKept t [(F.VE_NAK_CNT0_seq e).off] ∧ t = { s with kept := { s.kept with qps := t.kept.qps }, csr := t.csr, out := t.out }) ∧
(∀ s qp q psn syn aeth e, s.runs → s.qpAt qp.val = some q → q.nak = some (psn, syn, aeth) → q.engine = some e → s.gates = true → qpLive q.state =
    true → q.msgs = [] → q.cur = none → q.past = [] → q.recvs = [] → (∀ p ∈ s.kept.subs, p.2.qp ≠ qp.val) → s.clearWay qp.val q (.nak psn syn
    aeth) = true → s.inClear q.lport (q.ether (.ack 0)) = true → 0x10 ≤ syn → syn < 0x40 → ∃ t, exec (.nakSend qp) s = .next t ∧ (t.qpAt
    qp.val).map (fun x => (x.state, x.nak, x.syndrome, x.synPsn)) = some (.error, none, syn, psn) ∧ t.pended Ev.VE_QP_ERROR = true ∧ t.kept.mem =
    s.kept.mem ∧ (∀ k, k ≠ qp.val → t.qpAt k = s.qpAt k)) ∧
(∀ s qp, s.runs → s.gates = false → exec (.nakSend qp) s = .next s) ∧
(∀ s qp q m t0 e, s.runs → s.qpAt qp.val = some q → q.msgs = [m] → q.cur = none → m.phase = .parked t0 → m.dup = false → m.entry = none → q.nak =
    none → q.rc = true → q.engine = some e → s.gates = true → qpLive q.state = true → s.parkedPast m = true → q.unacked = [] → s.clearWay qp.val
    q (.nak 0 0x40 0) = true → s.inClear q.lport (q.ether (.ack 0)) = true → ∃ t, exec (.rnrThresholdExpire qp m.psn) s = .next t ∧ (∃ l, t.out =
    s.out ++ l ++ [.packet q.lport qp.val (q.ccClass == 1) none (.nak m.psn 0x40 (s.aeth 0x40 (verbWrites m.verb)))]) ∧ (t.qpAt qp.val).map (fun
    x => (x.msgs, x.epsn, x.naked, x.nak, x.state)) = some ([], m.psn, true, none, q.state) ∧ (qp.val, m.psn) ∉ t.parks ∧ t.kept.mem = s.kept.mem
    ∧ t.kept.rdt = s.kept.rdt ∧ t.tlr = s.tlr) ∧
(∀ s qp q p e, s.runs → s.qpAt qp.val = some q → q.replace = some p → q.engine = some e → q.msgs = [] → q.unacked = [] → s.hostsServed = true →
    qpLive q.state = true → s.clearWay qp.val q (.nak p 2 0x60) = true → s.inClear q.lport (q.ether (.ack 0)) = true → ∃ t, exec (.seqReplaceSend
    qp) s = .next t ∧ (∃ l, t.out = s.out ++ [.packet q.lport qp.val (q.ccClass == 1) none (.nak p 2 0x60)] ++ l) ∧ t.qpAt qp.val = some { q with epsn := p, syndrome := 2, synPsn := p, replace := none, lostBy := none }
    ∧ (∀ k, k ≠ qp.val → t.qpAt k = s.qpAt k) ∧ State.sameButEvents { s with kept := { s.kept with qps := t.kept.qps } } t)

/-- Pacing (R83, R85): a CNP halves the rate of an ECN queue pair, not below min_rate and at most once per cnp_gap, and one of the delay
rule only notes it; an update adds ai_step up to the line rate, on the ECN rule once recover_us has passed without a CNP, and a delay above
the target lowers the rate of the delay rule in proportion. The delay is how long the oldest queued packet has waited, where that is no
request of the device's own (log entry 110). A pause of some quanta holds a priority whose PFC bit is set, and one of none, or its expiry,
ends it. The next packet of a logical port that may be sent leaves its queue. Rows that complete here with their own effect, for every state
and operands that meet the hypotheses: CNP_RECEIVE, CC_RATE_UPDATE, PFC_PAUSE_RECEIVE, PFC_PAUSE_EXPIRE, PACED_TRANSMIT. -/
def Obligations.CongestionAndPause : Prop :=
(∀ s qp q, s.runs → s.qpAt qp.val = some q → q.engine ≠ none → q.ccClass = 1 → (s.fld (F.PORT_CC_ECN_cnp_gap (portOf q.lport)) * 1000 +
    (q.cnpAt.getD 0) ≤ s.mrt ∨ q.cnpAt = none) → exec (.cnpReceive qp) s = .next (s.setQp qp.val { q with rate := max (s.fld (F.PORT_CC_CFG_min_rate (portOf q.lport)) : Rat) (q.rate / 2), cnpAt := some s.mrt, cnpSeen := some s.mrt })) ∧
(∀ s qp q, s.runs → s.qpAt qp.val = some q → q.ccClass = 0 → exec (.cnpReceive qp) s = .next (s.setQp qp.val { q with cnpSeen := some s.mrt })) ∧
(∀ s qp q, s.runs → s.qpAt qp.val = some q → q.engine ≠ none → s.ports.tx.any (fun x => decide (x.qp = qp.val)) = true → q.ccClass = 0 →
    s.delayUs qp.val q ≤ (s.fld (F.PORT_CC_CFG_target_us (portOf q.lport)) : Rat) → exec (.ccRateUpdate qp) s = .next (s.setQp qp.val { q with rate := min (s.lineRate q.lport) (q.rate + (s.fld (F.PORT_CC_CFG_ai_step (portOf q.lport)) : Rat)) })) ∧
(∀ s qp q, s.runs → s.qpAt qp.val = some q → q.engine ≠ none → s.ports.tx.any (fun x => decide (x.qp = qp.val)) = true → q.ccClass = 0 → (s.fld
    (F.PORT_CC_CFG_target_us (portOf q.lport)) : Rat) < s.delayUs qp.val q → exec (.ccRateUpdate qp) s = .next (s.setQp qp.val { q with rate := max (s.fld (F.PORT_CC_CFG_min_rate (portOf q.lport)) : Rat) (q.rate * (1 - (s.fld (F.PORT_CC_CFG_md_pct (portOf q.lport)) : Rat) / 100 * ((s.delayUs qp.val q - (s.fld (F.PORT_CC_CFG_target_us (portOf q.lport)) : Rat)) / s.delayUs qp.val q))) })) ∧
(∀ s qp q, s.runs → s.qpAt qp.val = some q → q.engine ≠ none → s.ports.tx.any (fun x => decide (x.qp = qp.val)) = true → q.ccClass = 1 → (s.fld
    (F.PORT_CC_ECN_recover_us (portOf q.lport)) * 10000 + (q.cnpSeen.getD 0) ≤ s.mrt ∨ q.cnpSeen = none) → exec (.ccRateUpdate qp) s = .next
    (s.setQp qp.val { q with rate := min (s.lineRate q.lport) (q.rate + (s.fld (F.PORT_CC_CFG_ai_step (portOf q.lport)) : Rat)) })) ∧
(∀ (s : State) n q x, s.ports.tx.find? (fun y => decide (y.qp = n)) = some x → (∀ key psn parts imm, x.wire ≠ .write key psn parts imm) →
    s.delayUs n q = ((s.mrt - x.since : Nat) : Rat) / 1000) ∧
(∀ s port prio quanta, s.runs → port.val < s.part.ports → s.pfcOn port.val prio.val = true → s.prioCells port.val prio.val ≤ 1024 → exec
    (.pfcPauseReceive port prio quanta) s = .next { s with ports := { s.ports with paused := s.ports.paused.filter (fun (p : Nat × Nat) => p.1 != port.val * 8 + prio.val) ++ (if quanta = 0 then [] else [(port.val * 8 + prio.val, quanta)]) } }) ∧
(∀ s port prio quanta, s.runs → s.pfcOn port.val prio.val = false → exec (.pfcPauseReceive port prio quanta) s = .next s) ∧
(∀ s port prio, s.runs → s.prioCells port.val prio.val ≤ 1024 → exec (.pfcPauseExpire port prio) s = .next { s with ports := { s.ports with paused := s.ports.paused.filter (fun (p : Nat × Nat) => p.1 != port.val * 8 + prio.val) } }) ∧
(∀ s lport dual lane x q, s.runs → s.hostsServed = true → s.mqpOut = [] → s.nextTx lport.val [] s.ports.tx = some x → s.qpAt x.qp = some q →
    s.inClear q.lport (q.ether x.wire) = true → (∀ psn d, x.wire = .readResp psn d → x.last = false) → q.nak = none → q.giving = false → ∃ t,
    exec (.pacedTransmit lport dual lane) s = .next t ∧ t.out = s.out ++ [Out.packet q.lport x.qp (q.ccClass == 1) none x.wire] ∧ t.ports = { s.ports with tx := s.ports.tx.erase x }
    ∧ t.kept.mem = s.kept.mem ∧ t.csr = s.csr ∧ (∀ k, k ≠ x.qp → t.qpAt k = s.qpAt k) ∧ (∀ a b, x.wire = Wire.cnp a b → t.kept = s.kept) ∧ t = { s with kept := t.kept, ports := t.ports, out := t.out })

/-- Queue-pair commands (R68, R69, R404): create makes a queue pair in RESET; modify makes each transition that R69 lists, with the
attributes that R404 requires in range, and no other; entry into ERROR flushes the outstanding requests, and reset ends the binding; destroy
removes a queue pair in RESET or ERROR and no other; one that does not fit completes INVALID or BUSY and changes nothing. On a unit that
runs alone. Receive queues (R372): an entry posted to a queue pair's own queue, or to a shared one, joins its end; a queue that holds 4,096,
or a pool that holds 4,194,304, completes CAPACITY; a shared receive queue is created empty with its ring. On a unit that runs alone. Rows
that complete here with their own effect, for every state and operands that meet the hypotheses: CREATE_QP, MODIFY_QP, DESTROY_QP,
POST_RECEIVE, CREATE_SRQ. -/
def Obligations.QueuePairCommands : Prop :=
(∀ s h qp rc host cq, s.starts h (.createQp qp rc host cq) → s.restoring = false → s.mirrored = false → s.qpAt qp.val = none → cq.all cqOk = true
    → exec (.createQp h qp rc host cq) s = .next ((s.begun.setQp qp.val { rc := rc, host := s.begun.bit F.SEAM_STATUS_unit, ring := cq.map (fun c => { def_ := c }) }).complete
    h .ok)) ∧
(∀ s h qp rc host cq, s.starts h (.createQp qp rc host cq) → s.qpAt qp.val ≠ none → exec (.createQp h qp rc host cq) s = .next (s.begun.complete
    h .busy)) ∧
(∀ s h qp q a, s.starts h (.modifyQp qp .init a) → s.restoring = false → s.mirrored = false → s.qpAt qp.val = some q → q.state = .reset →
    s.modifyOk q .init a = true → exec (.modifyQp h qp .init a) s = .next ((s.begun.setQp qp.val ({ q with state := .init, rc := a.ty.getD q.rc, pd := a.pd.getD q.pd, lport := a.lport.getD q.lport, srq := a.rq.getD q.srq, qKey := a.qKey.getD q.qKey }.withOptional
    a)).complete h .ok)) ∧
(∀ s h qp q a e, s.starts h (.modifyQp qp .rtr a) → s.restoring = false → s.mirrored = false → s.qpAt qp.val = some q → q.state = .init → q.rc =
    true → a.epsn = some e → s.modifyOk q .rtr a = true → s.hosts q = true → exec (.modifyQp h qp .rtr a) s = .next (((s.begun.setQp qp.val ({ q with state := .rtr, pmtu := a.pmtu.getD q.pmtu, remote := a.remote, epsn := e, doneTo := e, rate := s.begun.lineRate q.lport }.withOptional
    a)).bindQp qp.val).complete h .ok)) ∧
(∀ s h qp q a, s.starts h (.modifyQp qp .rts a) → s.restoring = false → s.mirrored = false → s.qpAt qp.val = some q → q.state = .rtr → s.modifyOk
    q .rts a = true → exec (.modifyQp h qp .rts a) s = .next ((s.begun.setQp qp.val ({ q with state := .rts, spsn := a.spsn.getD q.spsn, retry := a.retry.getD q.retry, rnrRetry := a.rnrRetry.getD q.rnrRetry }.withOptional
    a)).complete h .ok)) ∧
(∀ s h qp q a, s.starts h (.modifyQp qp .error a) → s.restoring = false → s.mirrored = false → s.qpAt qp.val = some q → (q.state = .rtr ∨ q.state
    = .rts) → exec (.modifyQp h qp .error a) s = .next ((s.begun.enterError qp.val 0 q.epsn).complete h .ok)) ∧
(∀ s h qp q a, s.starts h (.modifyQp qp .reset a) → s.restoring = false → s.mirrored = false → s.qpAt qp.val = some q → exec (.modifyQp h qp
    .reset a) s = .next (((s.begun.resetQp qp.val).bindAll).complete h .ok)) ∧
(∀ s h qp q dst a, s.starts h (.modifyQp qp dst a) → s.qpAt qp.val = some q → s.modifyOk q dst a = false → exec (.modifyQp h qp dst a) s = .next
    (s.begun.complete h .invalid)) ∧
(∀ (s : State) n q, s.qpAt n = some q → q.msgs = [] → q.cur = none → q.past = [] → q.recvs = [] → (∀ p ∈ s.kept.subs, p.2.qp ≠ n) →
    ((s.enterError n 0 q.epsn).qpAt n).map (fun x => (x.state, x.nak, x.reqs, x.flushed)) = some (.error, none, [], q.reqs.map (fun r => r.psn))
    ∧ ((s.resetQp n).qpAt n).map (fun x => (x.state, x.engine, x.nak, x.reqs)) = some (.reset, none, none, []) ∧ (s.resetQp n).kept.mem =
    s.kept.mem) ∧
(∀ s h qp q, s.starts h (.destroyQp qp) → s.restoring = false → s.mirrored = false → s.qpAt qp.val = some q → (q.state = .reset ∨ q.state =
    .error) → exec (.destroyQp h qp) s = .next ((s.begun.dropQp qp.val).complete h .ok)) ∧
(∀ (s : State) n k, alRises 0 s.kept.qps = true → k ≠ n → (s.dropQp n).qpAt n = none ∧ ((s.dropQp n).qpAt k).map (fun q => { q with engine := none, fencedBy := none, rate := 0 })
    = (s.qpAt k).map (fun q => { q with engine := none, fencedBy := none, rate := 0 }) ∧ (s.dropQp n).kept.mem = s.kept.mem ∧ (s.dropQp
    n).kept.rdt = s.kept.rdt) ∧
(∀ s h qp q, s.starts h (.destroyQp qp) → s.qpAt qp.val = some q → q.state ≠ .reset → q.state ≠ .error → exec (.destroyQp h qp) s = .next
    (s.begun.complete h .busy)) ∧
(∀ s h qp wr key off len q, s.starts h (.postReceive false qp wr key off len) → s.restoring = false → s.mirrored = false → s.qpAt qp = some q →
    q.srq = none → q.recvs.length + q.reserved.length < 4096 → s.poolUsed < 4194304 → exec (.postReceive h false qp wr key off len) s = .next
    ((s.begun.setQp qp { q with recvs := q.recvs ++ [(⟨wr, key, off, len⟩ : RecvEntry)] }).complete h .ok)) ∧
(∀ s h i wr key off len x, s.starts h (.postReceive true i wr key off len) → s.restoring = false → s.mirrored = false → alGet s.kept.srqs i =
    some x → x.entries.length < 4096 → s.poolUsed < 4194304 → exec (.postReceive h true i wr key off len) s = .next (State.complete { s.begun with kept := { s.begun.kept with srqs := alPut s.begun.kept.srqs i { x with entries := x.entries ++ [(⟨wr, key, off, len⟩ : RecvEntry)] } } }
    h .ok)) ∧
(∀ s h i wr key off len x, s.starts h (.postReceive true i wr key off len) → alGet s.kept.srqs i = some x → (4096 ≤ x.entries.length ∨ 4194304 ≤
    s.poolUsed) → exec (.postReceive h true i wr key off len) s = .next (s.begun.complete h .capacity)) ∧
(∀ s h i pd cq, s.starts h (.createSrq i pd cq) → s.restoring = false → s.mirrored = false → i < 4096 → alGet s.kept.srqs i = none → alGet
    s.kept.domains pd ≠ none → 6 ≤ cq.log2 → cq.log2 ≤ 16 → exec (.createSrq h i pd cq) s = .next (State.complete { s.begun with kept := { s.begun.kept with srqs := alPut s.begun.kept.srqs i { pd := pd, ring := { def_ := cq } } } }
    h .ok))

/-- Engines (R87 to R89): a fence by command, check error or failed self-test on its own clock sets the engine FENCED with its cause and
leaves no queue pair bound to it; test starts the self-test of a FENCED engine, whose end leaves it READY or FENCED with cause 5 and
completes the command; rejoin makes a READY engine ACTIVE and binds what has no engine; a fence of a FENCED engine has no further effect.
Rows that complete here with their own effect, for every state and operands that meet the hypotheses: FENCE, ENGINE_CHECK_ERROR,
ENGINE_BIST_FAIL, TEST, SELF_TEST_DONE, REJOIN. -/
def Obligations.FenceAndReturn : Prop :=
(∀ s h e, s.starts h (.fence e) → e.val < s.part.engines → exec (.fence h e) s = .next ((s.begun.fence e.val 1).complete h .ok)) ∧
(∀ s e, s.runs → exec (.engineCheckError e) s = .next (s.fence e.val 4)) ∧
(∀ s e, s.runs → exec (.engineBistFail e) s = .next (s.fence e.val 5)) ∧
(∀ (s : State) e cause, e < s.part.engines → s.fld (F.VE_STATUS_state e) = 0 → cause < 8 → alRises 0 s.kept.qps = true → (s.fence e cause).fld
    (F.VE_STATUS_state e) = 1 ∧ (s.fence e cause).fld (F.VE_STATUS_fence_cause e) = cause ∧ (∀ n q, (s.fence e cause).qpAt n = some q → q.engine
    ≠ some e) ∧ (s.fence e cause).kept.mem = s.kept.mem ∧ (s.fence e cause).kept.rdt = s.kept.rdt) ∧
(∀ (s : State) e cause, s.fld (F.VE_STATUS_state e) = 1 → s.fence e cause = s) ∧
(∀ s h e, s.starts h (.test e) → e.val < s.part.engines → s.fld (F.VE_STATUS_state e.val) = 1 → exec (.test h e) s = .next { s.begun.setFld (F.VE_STATUS_state e.val) 2 with tests := alPut s.begun.tests e.val h }) ∧
(∀ s h e, s.starts h (.test e) → e.val < s.part.engines → (s.fld (F.VE_STATUS_state e.val) = 0 ∨ s.fld (F.VE_STATUS_state e.val) = 3) → exec
    (.test h e) s = .next (s.begun.complete h .invalid)) ∧
(∀ s h e, s.starts h (.test e) → e.val < s.part.engines → s.fld (F.VE_STATUS_state e.val) = 2 → exec (.test h e) s = .next (s.begun.complete h
    .busy)) ∧
(∀ s e h, s.runs → s.fld (F.VE_STATUS_state e.val) = 2 → alGet s.tests e.val = some h → exec (.selfTestDone e true) s = .next (State.complete { s.setFld (F.VE_STATUS_state e.val) 3 with tests := alDel s.tests e.val }
    h .ok)) ∧
(∀ s e h, s.runs → s.fld (F.VE_STATUS_state e.val) = 2 → alGet s.tests e.val = some h → exec (.selfTestDone e false) s = .next (State.complete { (s.setFld (F.VE_STATUS_state e.val) 1).setFld (F.VE_STATUS_fence_cause e.val) 5 with tests := alDel s.tests e.val }
    h .ok)) ∧
(∀ s h e, s.starts h (.rejoin e) → e.val < s.part.engines → s.fld (F.VE_STATUS_state e.val) = 3 → exec (.rejoin h e) s = .next ((((s.begun.setFld
    (F.VE_STATUS_state e.val) 0).setFld (F.VE_STATUS_fence_cause e.val) 0).bindAll).complete h .ok)) ∧
(∀ s h e, s.starts h (.rejoin e) → s.fld (F.VE_STATUS_state e.val) ≠ 3 → exec (.rejoin h e) s = .next (s.begun.complete h .invalid))

/-- Channel commands (R92 to R94, R101, R103): create opens a channel whose attributes are in range with its log homed in DRAM, or completes
CAPACITY; close ends an open channel without publishers, with its subscribers; attach-publisher gives the lowest free index and
detach-publisher takes it back; attach-subscriber makes a FREE subscriber LIVE at its start, in the mode named or IMM; resume makes a
STOPPED one LIVE again and lets a detached one take its GAP; remove frees one. On a unit that runs alone. The log's place is the operand
logTile, and close leaves its tiles UNHOMED (log entry 95). Rows that complete here with their own effect, for every state and operands that
meet the hypotheses: CHANNEL_CREATE, CHANNEL_CLOSE, ATTACH_PUBLISHER, DETACH_PUBLISHER, ATTACH_SUBSCRIBER, RESUME, REMOVE. -/
def Obligations.ChannelCommands : Prop :=
(∀ s h a, s.starts h (.channelCreate a) → s.restoring = false → s.mirrored = false → chanInRange a = true → alGet s.kept.domains a.pd ≠ none →
    s.keyOfDomain a.pd a.relKey = true → a.snapshot.all (s.keyOfDomain a.pd) = true → s.chan a.number = none → s.logClash a = false → s.blocksFor
    a = true → a.logTile + chanTiles a ≤ s.fld F.RGN_RANGE_TOP_top_tiles → (s.homed + ((List.range (chanTiles a)).filter (fun i => !(s.tile
    (a.logTile + i)).inDram)).length) * 100 ≤ s.fld F.TLR_WM_CFG_wm_hi * s.cap → ∃ t, exec (.channelCreate h a) s = .next t ∧ t =
    (s.begun.putChannel a).complete h .ok ∧ t.chan a.number = some ({ args := a } : Chan) ∧ (∀ c, c ≠ a.number → t.chan c = s.chan c) ∧
    t.kept.subs = s.kept.subs ∧ t.kept.qps = s.kept.qps ∧ t.kept.rdt = s.kept.rdt ∧ t.fuses = s.fuses ∧ t.nor = s.nor) ∧
(∀ s h a, s.starts h (.channelCreate a) → s.restoring = false → s.mirrored = false → chanInRange a = true → alGet s.kept.domains a.pd ≠ none →
    s.keyOfDomain a.pd a.relKey = true → a.snapshot.all (s.keyOfDomain a.pd) = true → s.chan a.number = none → s.logClash a = false → s.fld
    F.RGN_RANGE_TOP_top_tiles < a.logTile + chanTiles a → exec (.channelCreate h a) s = .next (s.begun.complete h .capacity)) ∧
(∀ s h c ch, s.starts h (.channelClose c) → s.restoring = false → s.mirrored = false → s.chan c = some ch → ch.pubs = [] → exec (.channelClose h
    c) s = .next ((s.begun.dropChannel c).complete h .ok)) ∧
(∀ (s : State) c ch, s.chan c = some ch → (s.dropChannel c).chan c = none ∧ (s.dropChannel c).kept.subs = s.kept.subs.filter (fun p => p.1 / 1024
    != c) ∧ (∀ d, d ≠ c → (s.dropChannel c).chan d = s.chan d) ∧ (s.dropChannel c).kept.qps = s.kept.qps ∧ (s.dropChannel c).kept.rdt =
    s.kept.rdt) ∧
(∀ s h c ch, s.starts h (.channelClose c) → s.chan c = some ch → ch.pubs ≠ [] → exec (.channelClose h c) s = .next (s.begun.complete h .busy)) ∧
(∀ s h c qp ch q i, s.starts h (.attachPublisher c qp) → s.restoring = false → s.mirrored = false → s.chan c = some ch → s.qpAt qp.val = some q →
    q.rc = true → q.pd = ch.args.pd → q.state ≠ .reset → s.publisher qp.val = none → i < 64 → alGet ch.pubs i = none → (∀ j, j < i → alGet
    ch.pubs j ≠ none) → ∃ t, exec (.attachPublisher h c qp) s = .next t ∧ t = (s.begun.putPublisher c qp.val i).complete h .ok [i] ∧ t.chan c =
    some { ch with pubs := alPut ch.pubs i qp.val }) ∧
(∀ s h c qp ch, s.starts h (.detachPublisher c qp) → s.restoring = false → s.mirrored = false → s.chan c = some ch → ch.pubs.any (fun e => decide
    (e.2 = qp.val)) = true → ∃ t, exec (.detachPublisher h c qp) s = .next t ∧ t = (s.begun.dropPublisher c qp.val).complete h .ok ∧ t.chan c =
    some { ch with pubs := ch.pubs.filter (fun (e : Nat × Nat) => e.2 != qp.val) }) ∧
(∀ s h a ch, s.starts h (.attachSubscriber a) → s.restoring = false → s.mirrored = false → s.chan a.chan = some ch → a.sub < 1024 → s.subQp ch
    a.qp.val = true → ringOk a.ringAddr a.ringSize = true → s.sub a.chan a.sub = none → ch.oldest ≤ a.start → a.start ≤ ch.next → exec
    (.attachSubscriber h a) s = .next (((s.begun.setSub a.chan a.sub { state := .live, qp := a.qp.val, addr := a.ringAddr, key := a.ringKey, size := a.ringSize, seal_ := a.sealMode.getD false, sent := a.start, released := a.start - 1 }).sweepChan
    a.chan).complete h .ok)) ∧
(∀ s h c b qp ch x, s.starts h (.resume c b qp) → s.restoring = false → s.mirrored = false → s.chan c = some ch → s.sub c b = some x → x.state =
    .stopped → s.subQp ch qp.val = true → exec (.resume h c b qp) s = .next (((s.begun.setSub c b { x.restart with qp := qp.val, state := .live }).sweepChan
    c).complete h .ok)) ∧
(∀ s h c b qp ch x, s.starts h (.resume c b qp) → s.restoring = false → s.mirrored = false → s.chan c = some ch → s.sub c b = some x → x.state =
    .detached → x.gapDue = true → s.subQp ch qp.val = true → exec (.resume h c b qp) s = .next (((s.begun.setSub c b { x with qp := qp.val, waits := false }).doGap
    c b).complete h .ok)) ∧
(∀ s h c b ch, s.starts h (.remove c b) → s.restoring = false → s.mirrored = false → s.chan c = some ch → b < 1024 → exec (.remove h c b) s =
    .next ((s.begun.dropSub c b).complete h .ok)) ∧
(∀ (s : State) c b ch, s.chan c = some ch → (∀ p ∈ ch.pubs, s.qpAt p.2 = none) → (s.dropSub c b).sub c b = none ∧ (s.dropSub c b).chan c = some { ch with log := ch.log.map (fun e => { e with held := setDel e.held b }) }
    ∧ (∀ d, d ≠ c → (s.dropSub c b).chan d = s.chan d) ∧ s.dropSub c b = { s with kept := { s.kept with subs := (s.dropSub c b).kept.subs, chans := (s.dropSub c b).kept.chans } })

/-- Delivery (R96, R98, R99, R103, R105): a LIVE subscriber's next entry, once it is at its acknowledgement point and the ring has room, is
written into the ring as one RDMA WRITE in IMM mode and the cursor moves on by one; in SEAL mode one WRITE carries up to 16 entries and
PADs; nothing is sent where no entry may be delivered; an acknowledgement of the entry makes the subscriber hold it, or in SEAL mode sends
its seal; a detached subscriber gets one GAP entry with the first missing and the oldest retained number; a hint of 16 bytes to the
channel's group tells the newest number at its point, no oftener than the gap allows. On a unit that runs alone. Rows that complete here
with their own effect, for every state and operands that meet the hypotheses: PUBLISH_DELIVER, SUBSCRIBER_ACK_RECEIVE, GAP_ENTRY_WRITE,
PUBLISH_HINT. -/
def Obligations.PublishDelivery : Prop :=
(∀ s c b ch x q e, s.runs → s.delivers = true → s.mirrored = false → s.chan c = some ch → s.sub c b = some x → s.qpAt x.qp = some q → q.state =
    .rts → q.engine ≠ none → q.rc = true → x.state = .live → x.seal_ = false → x.nextEntry ch = some e → x.padFor (entryUnits e.payload.length *
    64) = 0 → ∃ t, exec (.publishDeliver c b) s = .next t ∧ t.sub c b = some { x with sent := x.sent + 1, nextOff := x.nextOff + entryUnits e.payload.length * 64, ends := x.ends ++ [(e.seq, x.nextOff, x.nextOff + entryUnits e.payload.length * 64)] }
    ∧ (∃ r : Req, t.qpAt x.qp = some { q with spsn := psnAdd q.spsn (Nat.max 1 (ceilDiv (entryBytes e.seq tData (entryUnits e.payload.length) e.stamp e.pub e.payload).length (Nat.max 1 q.pmtu))), reqs := q.reqs ++ [r] }
    ∧ r.seqs = [e.seq] ∧ r.wire = .write x.key q.spsn [(x.addr + x.nextOff % x.size, entryBytes e.seq tData (entryUnits e.payload.length) e.stamp
    e.pub e.payload)] (some (e.seq % 2 ^ 32)) ∧ t.ports.tx = s.ports.tx ++ [⟨q.lport, q.prio, x.qp, s.mrt, r.wire, true⟩]) ∧ t = { s with ports := { s.ports with tx := t.ports.tx }, kept := { s.kept with qps := t.kept.qps, subs := t.kept.subs } }) ∧
(∀ s c b ch x, s.runs → s.chan c = some ch → s.sub c b = some x → s.mirrored = false → (x.state ≠ .live ∨ x.nextEntry ch = none ∨ s.canSend x.qp
    = false ∨ s.delivers = false) → exec (.publishDeliver c b) s = .next s) ∧
(∀ s c b ch x y ps ss qs, s.runs → s.delivers = true → s.mirrored = false → s.chan c = some ch → s.sub c b = some x → x.state = .live → s.canSend
    x.qp = true → x.seal_ = true → Sub.gather ch s.commit 16 16 x = (y, ps, ss, qs) → qs ≠ [] → exec (.publishDeliver c b) s = .next
    ((s.sendWrite x.qp x.key ps none c b qs ss).setSub c b y)) ∧
(∀ ch stamp n k x, (Sub.gather ch stamp n k x).2.1.length ≤ k ∧ (Sub.gather ch stamp n k x).2.2.2.length ≤ n) ∧
(∀ s c b ch x q r, s.runs → s.mirrored = false → s.chan c = some ch → ch.pubs = [] → s.sub c b = some x → s.qpAt x.qp = some q → q.reqs = [r] →
    r.chan = c → r.sub = b → r.seqs ≠ [] → r.seals = [] → ∃ t, exec (.subscriberAckReceive c b (r.seqs.getD 0 0)) s = .next t ∧ t.qpAt x.qp =
    some { q with reqs := [], tries := 0, rnrTries := 0, rtts := q.rtts.filter (fun (e : Nat × Nat) => decide (s.mrt ≤ e.1 + 10000000)) ++ (r.at_.map (fun (t : Nat) => (s.mrt, s.mrt - t))).toList }
    ∧ t.chan c = some { ch with log := ch.log.map (fun e => if r.seqs.contains e.seq then { e with held := setAdd e.held b } else e) } ∧ t = { s with kept := { s.kept with qps := t.kept.qps, chans := t.kept.chans } }) ∧
(∀ s c b ch x q r off, s.runs → s.mirrored = false → s.chan c = some ch → ch.pubs = [] → s.sub c b = some x → s.qpAt x.qp = some q → q.reqs = [r]
    → r.chan = c → r.sub = b → r.seqs ≠ [] → r.seals = [(r.seqs.getD 0 0, off)] → ∃ t, exec (.subscriberAckReceive c b (r.seqs.getD 0 0)) s =
    .next t ∧ t.ports.tx = s.ports.tx ++ [⟨q.lport, q.prio, x.qp, s.mrt, .write x.key q.spsn [(x.addr + off, leBytes 8 (r.seqs.getD 0 0))] none,
    true⟩] ∧ t.chan c = some ch ∧ t = { s with ports := { s.ports with tx := t.ports.tx }, kept := { s.kept with qps := t.kept.qps } }) ∧
(∀ s c b ch x q, s.runs → s.delivers = true → s.mirrored = false → s.chan c = some ch → s.sub c b = some x → s.qpAt x.qp = some q → q.state =
    .rts → q.engine ≠ none → q.rc = true → x.state = .detached → x.gapDue = true → x.waits = false → x.seal_ = false → x.room 64 = true →
    x.padFor 64 = 0 → ∃ t, exec (.gapEntryWrite c b) s = .next t ∧ (t.sub c b).map (fun y => (y.gapDue, y.state, y.nextOff)) = some (false,
    .detached, x.nextOff + 64) ∧ t.ports.tx = s.ports.tx ++ [⟨q.lport, q.prio, x.qp, s.mrt, .write x.key q.spsn [(x.addr + x.nextOff % x.size,
    entryBytes x.missing tGap 1 s.commit 0xFFFF (leBytes 8 x.missing ++ leBytes 8 ch.oldest))] (some (x.missing % 2 ^ 32)), true⟩] ∧ t = { s with ports := { s.ports with tx := t.ports.tx }, kept := { s.kept with qps := t.kept.qps, subs := t.kept.subs } }) ∧
(∀ s c ch q e, s.runs → s.delivers = true → s.mirrored = false → s.chan c = some ch → ch.args.hintOn = true → s.fld F.PUB_HINT_CFG_gap_us ≠ 0 →
    ch.log = [e] → e.atPoint = true → ch.hinted < e.seq → ch.hintAt = none → s.qpAt ch.args.hintQp = some q → q.state = .rts → q.engine ≠ none →
    q.rc = false → s.clearWay ch.args.hintQp q (.hint ch.args.hintGroup ch.args.hintQKey 0xFFFFFF (hintBytes c e.seq)) = true → s.inClear q.lport
    (addrEther ch.args.hintGroup) = true → exec (.publishHint c) s = .next { s with kept := { s.kept with chans := alPut s.kept.chans c { ch with hinted := e.seq, hintAt := some s.mrt }, qps := alMod s.kept.qps ch.args.hintQp (fun (y : Qp) => { y with nextAt := s.mrt + paceNs y.rate 16 }) }, out := s.out ++ [Out.packet q.lport ch.args.hintQp (q.ccClass == 1) none (.hint ch.args.hintGroup ch.args.hintQKey 0xFFFFFF (hintBytes c e.seq))] }) ∧
(∀ s c ch t0, s.runs → s.chan c = some ch → ch.hintAt = some t0 → s.mrt < t0 + s.fld F.PUB_HINT_CFG_gap_us * 1000 → exec (.publishHint c) s =
    .next s)

/-- Migrations (R112, R114, R129): a move that waits starts on a free channel; a demotion whose copy Quilt has not reported durable does not
switch; a durable one of a tile that no write has touched makes the tile NAND-homed at the place of its copy; one that a write has touched
leaves it DRAM-homed; a promotion makes it DRAM-homed in the move's frame. No other tile changes its home, and no byte changes. Rows that
complete here with their own effect, for every state and operands that meet the hypotheses: MIGRATION_SWITCH, MIGRATION_START. -/
def Obligations.MigrationsSwitch : Prop :=
(∀ s tile m reads, s.runs → s.tlr.running.find? (fun (x : Mig) => x.tile == tile && x.unit == none) = some m → m.toDram = false → m.durable =
    false → exec (.migrationSwitch tile none reads) s = .next s) ∧
(∀ s tile m reads, s.runs → s.parks = [] → s.kept.own = [] → s.seam.fwdWait = [] → s.seam.early = [] → s.tlr.running.find? (fun (x : Mig) =>
    x.tile == tile && x.unit == none) = some m → m.unit = none → m.tile = tile → m.toDram = false → m.durable = true → (s.tile tile).dirty =
    false → ∃ t, exec (.migrationSwitch tile none reads) s = .next t ∧ (t.tile tile).home = .nand ∧ (t.tile tile).units = [] ∧ alGet t.kept.map
    (mapKey tile none) = some m.slot ∧ (∀ u, u ≠ tile → (t.tile u).home = (s.tile u).home ∧ (t.tile u).units = (s.tile u).units ∧ (t.tile
    u).frame = (s.tile u).frame) ∧ t.kept.mem = s.kept.mem ∧ t.kept.rdt = s.kept.rdt ∧ t.kept.qps = s.kept.qps ∧ t.fuses = s.fuses) ∧
(∀ s tile m reads, s.runs → s.parks = [] → s.kept.own = [] → s.seam.fwdWait = [] → s.seam.early = [] → s.tlr.running.find? (fun (x : Mig) =>
    x.tile == tile && x.unit == none) = some m → m.unit = none → m.tile = tile → m.toDram = false → m.durable = true → (s.tile tile).dirty = true
    → ∃ t, exec (.migrationSwitch tile none reads) s = .next t ∧ (t.tile tile).home = (s.tile tile).home ∧ (t.tile tile).units = (s.tile
    tile).units ∧ (t.tile tile).frame = (s.tile tile).frame ∧ t.kept.map = s.kept.map ∧ t.kept.mem = s.kept.mem) ∧
(∀ s tile m reads, s.runs → s.parks = [] → s.kept.own = [] → s.seam.fwdWait = [] → s.seam.early = [] → s.tlr.running.find? (fun (x : Mig) =>
    x.tile == tile && x.unit == none) = some m → m.unit = none → m.tile = tile → m.toDram = true → m.within = false → (s.tile tile).home = .nand
    → (s.tile tile).units = [] → ∃ t, exec (.migrationSwitch tile none reads) s = .next t ∧ (t.tile tile).home = .dram ∧ (t.tile tile).units = []
    ∧ (t.tile tile).frame = m.frame ∧ alGet t.kept.map (mapKey tile none) = none ∧ t.kept.mem = s.kept.mem ∧ t.kept.rdt = s.kept.rdt ∧ t.kept.qps
    = s.kept.qps) ∧
(∀ s m f, s.mode = .solo → s.tlr.running = [] → s.tlr.jobs = [] → s.tlr.queue = [m] → m.cls = 2 → m.toDram = true → m.within = false → m.unit =
    none → (s.tile m.tile).home = .nand → (s.tile m.tile).units = [] → (s.tile m.tile).churn = false → (s.tile m.tile).present = true → s.homed ≤
    s.cap → s.homeBlock m.tile = true → s.grantHome s.save.room = .granted → State.chooseFrame { s with tlr := { s.tlr with jobs := [] } } = some
    f → ∃ t, exec .migrationStart s = .next t ∧ t.tlr.running = [{ m with frame := f }] ∧ t.tlr.queue = [] ∧ t.kept.tiles = s.kept.tiles ∧
    t.kept.mem = s.kept.mem ∧ t.kept.map = s.kept.map) ∧
(∀ s, s.runs → 16 ≤ s.tlr.running.length → exec .migrationStart s = .next s)

/-- Tier blocks (R239, R241, R245 to R248): a completed program gives the demotion its place and makes it durable where its parity is held;
an erase returns a wholly stale block to use with one more erase, or retires it, and a spare of its target joins the tier while one is left;
a closed block that passes read-verify is marked so, and of one that fails a live codeword that does not decode is rebuilt while its parity
is held; every read of a block is counted; a clean scan restarts its read count; a block whose scan fails for the second time, or whose
read-verify fails, is drained for retirement. Verifies, scans and patrols act only on a target that is idle (R242), and a program or erase
ends only as the operation its target carries out. Collection, wear and checkpoints (R237, R245, R246): with free blocks at or above the low
mark nothing is collected; below it the closed block of least live data is drained; the data of the least-worn block moves when the wear
differs by more than the limit; a tile whose block drains is programmed anew on the same target and mapped there; a checkpoint starts on its
timer or after its gigabytes of programs, and ends with a root record of the next number; a map-area block that fails meanwhile is replaced
from the spare pool (R248). Rows that complete here with their own effect, for every state and operands that meet the hypotheses:
NAND_PROGRAM_COMPLETE, NAND_ERASE_COMPLETE, READ_VERIFY, DISTURB_SCAN, RETENTION_PATROL, GC_START, WEAR_LEVEL, GC_RELOCATE_SWITCH,
CHECKPOINT_TIMER, CHECKPOINT_GIB_COUNT, CHECKPOINT_COMPLETE. -/
def Obligations.FlashWork : Prop :=
(∀ s tgt m cw, s.runs → s.tlr.running = [m] → m.toDram = false → m.durable = false → m.target = tgt.val → m.unit = none → (s.opAt tgt.val).map
    (fun o => o.1) = some (.program m.tile m.unit) → (s.programTile tgt.val m.tile none false).2 = some cw → exec (.nandProgramComplete tgt
    m.tile true) s = .next
    (let r : State := (s.programTile tgt.val m.tile none false).1; State.vacate { r with tlr := { s.tlr with running := [{ m with durable := r.parityHeld (r.blockOf cw), slot := cw }] } } tgt.val)) ∧
(∀ s tgt b, s.runs → (s.opAt tgt.val).map (fun o => o.1) = some (.erase (blockKey tgt.val b)) → exec (.nandEraseComplete tgt b true) s = .next
    ((((State.setBlk { s with nand := { s.nand with cws := s.nand.cws.filter (fun p => s.blockOf p.1 != (blockKey tgt.val b)) } } (blockKey
    tgt.val b) { s.blk (blockKey tgt.val b) with st := if (s.blk (blockKey tgt.val b)).st = BState.retired then BState.retired else BState.free, fill := 0, reads := 0, erases := (s.blk (blockKey tgt.val b)).erases + 1, verified := false, stale := [], wipe := false }).reviewGroup
    (s.blk (blockKey tgt.val b)).group).vacate tgt.val).continueGc tgt.val)) ∧
(∀ s tgt b, s.runs → (s.opAt tgt.val).map (fun o => o.1) = some (.erase (blockKey tgt.val b)) → (s.blk (blockKey tgt.val b)).st ≠ .retired → (∀
    x, alGet s.nand.groups (s.blk (blockKey tgt.val b)).group = some x → x.block ≠ some (blockKey tgt.val b)) → b < 2 ^ 20 → s.nand.gcOn = [] →
    alRises 0 s.nand.blocks = true → ∃ t, exec (.nandEraseComplete tgt b false) s = .next t ∧ t = (((s.countFail tgt.val).retireBlock (blockKey
    tgt.val b)).vacate tgt.val).continueGc tgt.val ∧ (t.blk (blockKey tgt.val b)).st = .retired ∧ t.nand.left = s.nand.left - 1 ∧ (0 <
    s.nand.left → alGetD t.nand.joined tgt.val 0 = alGetD s.nand.joined tgt.val 0 + 1) ∧ t.pended Ev.QLT_BLOCK_RETIRE = true ∧ t.kept = { s.kept with peat := t.kept.peat, peatSeq := t.kept.peatSeq }
    ∧ t.fuses = s.fuses) ∧
(∀ s tgt b ok, s.runs → (s.opAt tgt.val).map (fun o => o.1) ≠ some (.erase (blockKey tgt.val b)) → exec (.nandEraseComplete tgt b ok) s = .next
    s) ∧
(∀ s tgt b failed, s.runs → (s.blk (blockKey tgt.val b)).st = .closed → (s.blk (blockKey tgt.val b)).verified = false → s.idle tgt.val = true →
    exec (.readVerify tgt b true failed) s = .next (((s.setBlk (blockKey tgt.val b) { s.blk (blockKey tgt.val b) with reads := (s.blk (blockKey tgt.val b)).reads + (s.blk (blockKey tgt.val b)).fill, verified := true }).reviewGroup
    (s.blk (blockKey tgt.val b)).group).occupy tgt.val)) ∧
(∀ s tgt b failed, s.runs → (s.blk (blockKey tgt.val b)).st = .closed → (s.blk (blockKey tgt.val b)).verified = false → s.idle tgt.val = true →
    s.nand.frozen = false → s.liveIn (blockKey tgt.val b) ≠ [] → ∃ t, exec (.readVerify tgt b false failed) s = .next t ∧ t.blk (blockKey tgt.val
    b) = { s.blk (blockKey tgt.val b) with reads := (s.blk (blockKey tgt.val b)).reads + (s.blk (blockKey tgt.val b)).fill, st := .draining true }
    ∧ (∀ k, k ≠ (blockKey tgt.val b) → t.blk k = s.blk k) ∧ t.kept.map = s.kept.map ∧ t.kept.mem = s.kept.mem ∧ (∀ p x, failed = [p] → s.liveAt
    (blockKey tgt.val b) p = some x → s.parityHeld (blockKey tgt.val b) = true → t.fld F.QLT_UE_CNT_rebuilt = (s.fld F.QLT_UE_CNT_rebuilt + 1) %
    2 ^ 16 ∧ t.kept.poison = s.kept.poison)) ∧
(∀ s tgt b, s.runs → s.mode ≠ .save → (s.blk (blockKey tgt.val b)).st = .closed → s.idle tgt.val = true → s.fld F.QLT_RD_CFG_scan_kreads * 1000 ≤
    (s.blk (blockKey tgt.val b)).reads → exec (.disturbScan tgt b true) s = .next (s.setBlk (blockKey tgt.val b) { s.blk (blockKey tgt.val b) with reads := 0 })) ∧
(∀ s tgt b ok failed, s.runs → s.idle tgt.val = false → exec (.readVerify tgt b ok failed) s = .next s) ∧
(∀ s tgt b ok, s.runs → ((s.blk (blockKey tgt.val b)).reads < s.fld F.QLT_RD_CFG_scan_kreads * 1000 ∨ s.mode = .save) → exec (.disturbScan tgt b
    ok) s = .next s) ∧
(∀ s tgt b, s.runs → s.mode ≠ .save → (s.blk (blockKey tgt.val b)).st = .closed → s.idle tgt.val = true → exec (.retentionPatrol tgt b true) s =
    .next (s.countReads (blockKey tgt.val b) (s.blk (blockKey tgt.val b)).fill)) ∧
(∀ s tgt b, s.runs → s.mode ≠ .save → (s.blk (blockKey tgt.val b)).st = .closed → s.idle tgt.val = true → (s.blk (blockKey tgt.val b)).suspect =
    false → s.nand.frozen = false → s.liveIn (blockKey tgt.val b) ≠ [] → exec (.retentionPatrol tgt b false) s = .next (s.setBlk (blockKey
    tgt.val b) { s.blk (blockKey tgt.val b) with reads := (s.blk (blockKey tgt.val b)).reads + (s.blk (blockKey tgt.val b)).fill, st := .draining false, suspect := true })) ∧
(∀ s tgt b, s.runs → s.mode ≠ .save → (s.blk (blockKey tgt.val b)).st = .closed → s.idle tgt.val = true → (s.blk (blockKey tgt.val b)).suspect =
    true → s.nand.frozen = false → s.liveIn (blockKey tgt.val b) ≠ [] → exec (.retentionPatrol tgt b false) s = .next (s.setBlk (blockKey tgt.val
    b) { s.blk (blockKey tgt.val b) with reads := (s.blk (blockKey tgt.val b)).reads + (s.blk (blockKey tgt.val b)).fill, st := .draining true })) ∧
(∀ s tgt c k, s.runs → s.freeBlocks tgt.val < s.fld F.QLT_GC_CFG_lo → s.collecting tgt.val = false → least (s.victims tgt.val) = some (c, k) →
    s.nand.frozen = false → s.mode ≠ .save → exec (.gcStart tgt) s = .next (State.drainBlock { s with nand := { s.nand with gcOn := setAdd s.nand.gcOn tgt.val } }
    k false)) ∧
(∀ s tgt, s.runs → s.fld F.QLT_GC_CFG_lo ≤ s.freeBlocks tgt.val → exec (.gcStart tgt) s = .next s) ∧
(∀ s tgt lo k, s.runs → least (((s.blocksOf tgt.val).filter (fun p => p.2.st == .closed)).map (fun p => (p.2.erases, p.1))) = some (lo, k) → lo +
    s.fld F.QLT_WEAR_CFG_delta < ((s.blocksOf tgt.val).map (·.2.erases)).foldl Nat.max 0 → s.nand.frozen = false → s.mode ≠ .save → exec
    (.wearLevel tgt) s = .next (s.drainBlock k false)) ∧
(∀ s tile cw reads fails, s.runs → s.mode ≠ .save → s.kept.map = [(mapKey tile none, cw)] → (s.blk (s.blockOf cw)).st = .draining true → s.opAt
    (cw / 16 / 2 ^ 22) = none → exec (.gcRelocateSwitch tile reads fails) s = .next (((forUp (fun _ (u : State) => u.failProgram (cw / 16 / 2 ^
    22) true) fails 0 (s.readCopy tile none reads)).relocate (mapKey tile none) cw).occupy (cw / 16 / 2 ^ 22))) ∧
(∀ (s u : State) tile cw n, s.programTile (s.blockOf cw / 2 ^ 20) tile none true = (u, some n) → s.relocate (mapKey tile none) cw = (u.setMap
    tile (alPut u.kept.map (mapKey tile none) n)).reviewDrain (s.blockOf cw)) ∧
(∀ s, s.runs → s.mode ≠ .save → s.nand.ckpt = false → s.nand.formatted = true → exec .checkpointTimer s = .next { s with nand := { s.nand with ckpt := true, programmed := 0, ckptWseq := s.nand.wseq, ckptMap := s.kept.map }, kept := { s.kept with segs := s.kept.segs.map (fun (g : Seg) => { g with dirty := false, writing := g.dirty }) } }) ∧
(∀ s, s.runs → s.mode ≠ .save → s.nand.ckpt = false → s.nand.formatted = true → s.fld F.QLT_CKPT_CFG_gib * 2 ^ 30 ≤ s.nand.programmed → exec
    .checkpointGibCount s = .next { s with nand := { s.nand with ckpt := true, programmed := 0, ckptWseq := s.nand.wseq, ckptMap := s.kept.map }, kept := { s.kept with segs := s.kept.segs.map (fun (g : Seg) => { g with dirty := false, writing := g.dirty }) } }) ∧
(∀ s, s.runs → s.nand.programmed < s.fld F.QLT_CKPT_CFG_gib * 2 ^ 30 → exec .checkpointGibCount s = .next s) ∧
(∀ s ms, s.runs → s.nand.ckpt = true → ∃ t, exec (.checkpointComplete ms []) s = .next t ∧ (∃ p w, t.nand = { s.nand with ckpt := false, dir := t.kept.mapDir, wseq := w, root := some ⟨s.nand.root.elim 1 (fun (r : Root) => r.number + 1), s.nand.ckptWseq, p, s.openBlocks, s.nand.frozen, s.nand.left, s.nand.init, s.rootChans, s.nand.ckptMap⟩ }
    ∧ s.nand.wseq ≤ w) ∧ t.kept = { s.kept with mapDir := t.kept.mapDir, segs := s.kept.segs.map (fun (g : Seg) => { g with writing := false }) }
    ∧ (∀ g ∈ s.kept.segs, g.writing = true → alGet t.kept.mapDir g.no ≠ none) ∧ t.fld F.QLT_CKPT_STAT_last_ms = ms % 2 ^ 16 ∧ t.fld
    F.QLT_CKPT_STAT_count = (s.fld F.QLT_CKPT_STAT_count + 1) % 2 ^ 16 ∧ s.regsKept t [F.QLT_CKPT_STAT_count.off] ∧ t = { s with csr := t.csr, nand := t.nand, kept := t.kept, free := t.free }) ∧
(∀ s ms fails, s.runs → s.nand.ckpt = true → ∃ t, exec (.checkpointComplete ms fails) s = .next t ∧ t.nand.ckpt = false ∧ t.nand.root.map
    (·.number) = some (s.nand.root.elim 1 (fun (r : Root) => r.number + 1)) ∧ t.nand.left = s.nand.left - fails.length ∧ t.nand.root.map (·.left)
    = some t.nand.left ∧ t.kept.segs = s.kept.segs.map (fun (g : Seg) => { g with writing := false }) ∧ t.kept.map = s.kept.map ∧ t.kept.mem =
    s.kept.mem ∧ t.fld F.QLT_CKPT_STAT_last_ms = ms % 2 ^ 16)

/-- Fetches, discards and a failed target (R36, R62, R243, R251 to R254): the first codeword of a fetch that decodes is entered and starts
the hold on its lines, which ends when it expires, with codewords still to come left to follow unheld; a codeword whose parity is gone is
poisoned, counted and raised; a discard on a unit that runs alone leaves every tile of its range UNHOMED with no byte left, and no other
tile changed; a secure one completes only when every block that held a copy has been erased; a target that fails is no longer used, its
blocks are retired, and the save area's blocks on it are replaced from its own spares first (R255; log entry 139). Rows that complete here
with their own effect, for every state and operands that meet the hypotheses: NAND_READ_COMPLETE, FETCH_HOLD_EXPIRE, DISCARD,
SECURE_DISCARD_DONE, NCH_TARGET_FAIL. -/
def Obligations.ReadsDiscardsLosses : Prop :=
(∀ s tile cw lane f, s.runs → s.parks = [] → s.fetches = [f] → f.tile = tile → f.unit = none → f.entered = [] → f.since = none → f.spent = false
    → f.seg = false → f.sharers ≠ [] → s.kept.own = [] → s.opAt 0 = none → s.kept.map = [] → s.fld F.TLR_HEAT_CFG_promote_reads = 0 → ∃ t, exec
    (.nandReadComplete tile cw .hard .agree lane) s = .next t ∧ t.fetches = [{ f with entered := [cw.val], since := some s.mrt }] ∧ t.parks = []
    ∧ t.kept.mem = s.kept.mem ∧ t.kept.poison = s.kept.poison ∧ t.kept.map = s.kept.map ∧ t.kept.qps = s.kept.qps) ∧
(∀ s tile cw lane f c, s.runs → s.parks = [] → s.fetches = [f] → f.tile = tile → f.unit = none → f.entered = [] → f.since = none → f.spent =
    false → f.seg = false → f.sharers ≠ [] → s.kept.own = [] → s.kept.map = [(mapKey tile none, c)] → s.parityHeld (s.blockOf c) = false → s.opAt
    (s.blockOf c / 2 ^ 20) = none → s.fld F.TLR_HEAT_CFG_promote_reads = 0 → ∃ t, exec (.nandReadComplete tile cw .lost .agree lane) s = .next t
    ∧ (∀ i, i < 16 → tile * 256 + (cw.val * 16 + i) ∈ t.kept.poison) ∧ t.fld F.QLT_UE_CNT_poisoned = Nat.min (2 ^ 16 - 1) (s.fld
    F.QLT_UE_CNT_poisoned + 1) ∧ t.pended Ev.QLT_UE = true ∧ t.kept.mem = s.kept.mem) ∧
(∀ s tile f a, s.runs → s.fetches = [f] → f.tile = tile → f.since = some a → a + 100000000 ≤ s.mrt → f.spent = false → exec (.fetchHoldExpire
    tile) s = .next (s.endHold f)) ∧
(∀ (s : State) f, s.fetches = [f] → (s.endHold f).fetches = (if f.size ≤ f.entered.length then [] else [{ f with spent := true, sharers := [] }])
    ∧ (s.endHold f).kept = s.kept ∧ (s.endHold f).csr = s.csr) ∧
(∀ s tile, s.runs → s.fetches.all (fun f => f.tile != tile || f.since.all (fun a => decide (s.mrt < a + 100000000))) = true → exec
    (.fetchHoldExpire tile) s = .next s) ∧
(∀ s h start count, s.starts h (.discard start count false) → s.mirrored = false → s.parks = [] → s.kept.own = [] → s.seam.fwdWait = [] →
    s.seam.early = [] → s.discardCheck start count = none → ∃ t, exec (.discard h start count false) s = .next t ∧ (∀ u, start ≤ u → u < start +
    count → t.tile u = ({} : Tile)) ∧ (∀ a, start * 65536 ≤ a → a < (start + count) * 65536 → a / 65536 ∈ s.kept.tiles.map (·.1) → memRead
    t.kept.mem a = 0) ∧ (∀ u, u < start ∨ start + count ≤ u → (t.tile u).home = (s.tile u).home) ∧ (∀ a, a < start * 65536 ∨ (start + count) *
    65536 ≤ a → memRead t.kept.mem a = memRead s.kept.mem a) ∧ t.kept.rdt = s.kept.rdt ∧ t.kept.domains = s.kept.domains ∧ t.fuses = s.fuses ∧
    t.nor = s.nor) ∧
(∀ s h start count secure st, s.starts h (.discard start count secure) → s.discardCheck start count = some st → exec (.discard h start count
    secure) s = .next (s.begun.complete h st)) ∧
(∀ s h start count, s.starts h (.discard start count true) → s.mirrored = false → s.discardCheck start count = none → ∃ t, exec (.discard h start
    count true) s = .next t ∧ t = s.begun.putDiscard h start count true ∧ (h, start, count) ∈ t.nand.secure ∧ t.gate.running = s.gate.running ++
    [(⟨h, .discard start count true, false⟩ : GateCmd)]) ∧
(∀ s h start count, s.runs → s.nand.secure = [(h, start, count)] → s.copiesOf start count = [] → h.src ≠ .twin → s.shared = [] → exec
    (.secureDiscardDone h.tag) s = .next ((State.complete { s with nand := { s.nand with secure := [] } } h .ok).raise Ev.QLT_DISCARD_DONE)) ∧
(∀ s h start count, s.runs → s.nand.secure = [(h, start, count)] → s.copiesOf start count ≠ [] → ∃ t, exec (.secureDiscardDone h.tag) s = .next t
    ∧ t.nand.secure = s.nand.secure ∧ t.gate = s.gate ∧ t.kept = { s.kept with peat := t.kept.peat, peatSeq := t.kept.peatSeq }) ∧
(∀ s tgt, s.runs → s.nand.targets.contains tgt.val = true → s.kept.map = [] → ∃ t, exec (.nchTargetFail tgt) s = .next t ∧ t.nand.targets =
    s.nand.targets.erase tgt.val ∧ (∀ p ∈ t.nand.blocks, p.1 / 2 ^ 20 = tgt.val → p.2.st = .retired) ∧ t.pended Ev.NCH_TARGET_FAIL = true ∧
    t.nand.left ≤ s.nand.left - s.nand.perTarget ∧ t.area = { s.area with spares := s.area.spares - s.nand.saveBlocks } ∧ t.kept.mem =
    s.kept.mem)

/-- Power failure (R140 to R144, R147): an indication of an enabled path is held until it confirms or passes as a glitch, which is counted;
a confirmed failure of a unit that serves, and the save command, start a SAVE: the path is recorded, the gate is cleared, no queue pair
keeps an engine, a request or a message that has not committed, moves are abandoned, the ports' links end, a START record joins the journal,
and memory, tiles, regions and domains stay as they are. A disabled path does nothing. The end of a SAVE (R144, R149, R152): of the close of
the tier and the end of the stream the first is noted, and the second seals: the slot then holds an image of everything that the persistence
domain held (lines whose encryption failed twice as poisoned, R269; the save-area blocks that fail meanwhile are replaced, R255), under the
root of its save key, and the newest journal record is SEALED with the generation of this SAVE. Rows that complete here with their own
effect, for every state and operands that meet the hypotheses: POWER_FAIL_INDICATION, POWER_FAIL_GLITCH, POWER_FAIL_CONFIRM, SAVE,
TIER_CLOSE_DONE, SAVE_STREAM_DONE. -/
def Obligations.SaveRuns : Prop :=
(∀ s p, s.fen.vdd = true → s.pfEnabled p = true → exec (.powerFailIndication p) s = .next { s with pf := s.pf.set true p }) ∧
(∀ s p, s.pfEnabled p = false → exec (.powerFailIndication p) s = .next s) ∧
(∀ s p, s.fen.vdd = true → s.pf.get p = true → ∃ t, exec (.powerFailGlitch p) s = .next t ∧ t.pf = s.pf.set false p ∧ t.fld
    F.FEN_PF_STAT_glitches = (s.fld F.FEN_PF_STAT_glitches + 1) % 2 ^ 16 ∧ s.regsKept t [F.FEN_PF_STAT_glitches.off] ∧ t = { s with csr := t.csr, pf := t.pf }) ∧
(∀ s p, s.fen.vdd = true → s.bit F.FEN_PF_STAT_valid = false → (s.mode = .solo ∨ s.mode = .paired ∨ s.mode = .resync ∨ s.mode = .doze) →
    s.pfEnabled p = true → (p = .sampled ∨ s.pf.get p = true) → ∃ t, exec (.powerFailConfirm p) s = .next t ∧ t.mode = .save ∧ t.save.step = 5 ∧
    t.save.planned = false ∧ t.bit F.FEN_PF_STAT_valid = true ∧ t.fld F.FEN_PF_STAT_path = pathNo p ∧ t.gate = ({} : Gate) ∧ t.parks = [] ∧
    t.tlr.running = [] ∧ (∀ n q, t.qpAt n = some q → q.engine = none ∧ q.cur = none ∧ q.reqs = [] ∧ ∀ m ∈ q.msgs, m.committed = true) ∧
    t.ports.up = [] ∧ t.kept.mem = s.kept.mem ∧ t.kept.rdt = s.kept.rdt ∧ t.kept.domains = s.kept.domains ∧ t.kept.tiles = s.kept.tiles ∧ t.fuses
    = s.fuses ∧ t.area.journal.length = s.area.journal.length + 1) ∧
(∀ s p, (s.pfEnabled p = false ∨ (p ≠ .sampled ∧ s.pf.get p = false)) → exec (.powerFailConfirm p) s = .next s) ∧
(∀ s h, s.starts h .save → (s.mode = .solo ∨ s.mode = .paired ∨ s.mode = .resync ∨ s.mode = .doze) → s.bit F.FEN_PF_STAT_valid = false → ∃ t,
    exec (.save h) s = .next t ∧ t.mode = .save ∧ t.save.step = 5 ∧ t.save.planned = true ∧ t.bit F.FEN_PF_STAT_valid = true ∧ t.fld
    F.FEN_PF_STAT_path = 4 ∧ t.gate = ({} : Gate) ∧ t.parks = [] ∧ t.tlr.running = [] ∧ (∀ n q, t.qpAt n = some q → q.engine = none ∧ q.cur =
    none ∧ q.reqs = [] ∧ ∀ m ∈ q.msgs, m.committed = true) ∧ t.ports.up = [] ∧ t.kept.mem = s.kept.mem ∧ t.kept.rdt = s.kept.rdt ∧ t.kept.domains
    = s.kept.domains ∧ t.kept.tiles = s.kept.tiles ∧ t.fuses = s.fuses ∧ t.area.journal.length = s.area.journal.length + 1) ∧
(∀ s, s.mode = .save → s.save.streamed = none → exec .tierCloseDone s = .next { s with save := { s.save with tierClosed := true } }) ∧
(∀ s ms cipher fails, s.mode = .save → s.save.tierClosed = false → exec (.saveStreamDone ms cipher fails) s = .next
    (let r : State := fails.foldl State.saveFail (cipher.foldl State.saveLine s); { r with nand := { r.nand with wseq := r.nand.wseq + 16 * r.unitsOf (r.header ms).framesSaved }, save := { s.save with streamed := some ms } })) ∧
(∀ s ms cipher fails, s.mode = .save → s.save.tierClosed = true → s.save.delta = false → ∃ t, exec (.saveStreamDone ms cipher fails) s = .next t
    ∧ (t.slotAt s.save.slot).base.map (fun i => (i.kept, i.pinned, i.jobs, i.root)) = some ((fails.foldl State.saveFail (cipher.foldl
    State.saveLine s)).kept, s.tlr.pinned, s.tlr.jobs, s.fuses.saveRoot) ∧ t.area.journal.getLast?.map (fun r => (r.type, r.generation, r.off)) =
    some (.sealed_, s.save.gen, 0) ∧ t.fuses = s.fuses) ∧
(∀ s ms, s.mode = .save → s.save.streamed = some ms → s.save.delta = true → ∃ t, exec .tierCloseDone s = .next t ∧ (t.slotAt
    s.save.slot).delta.map (fun i => i.kept) = some s.kept ∧ (t.slotAt s.save.slot).base = (s.slotAt s.save.slot).base ∧
    t.area.journal.getLast?.map (fun r => (r.type, r.generation)) = some (.sealed_, s.save.gen) ∧ t.fuses = s.fuses)

/-- The end of BRINGUP (R38, R152, R153, R159, R164): a unit without a pair and without an image enters SOLO as LEAD with the tenant range
that its tier and frames give; one whose newest journal record is SEALED enters RESTORE with that image's tables and memory, no tile with a
frame present; a unit whose newest image is lost takes the older one on command, or discards everything and serves. Rows that complete here
with their own effect, for every state and operands that meet the hypotheses: BRINGUP_COMPLETE, ACCEPT_OLDER_IMAGE, DISCARD_IMAGE. -/
def Obligations.BringupEnds : Prop :=
(∀ s sc, s.canEnd = true → s.fuses.life ≠ Machine.returned → s.pairEn = false → s.area.journal = [] → s.nand.root = none → s.kept.qps = [] →
    s.parks = [] → s.kept.own = [] → s.seam.fwdWait = [] → s.seam.early = [] → ∃ t, exec (.bringupComplete sc) s = .next t ∧ t.mode = .solo ∧
    t.boot.ready = true ∧ t.lead = true ∧ t.fld F.RGN_RANGE_TOP_top_tiles = Nat.min 0x68000000 (t.nand.usable + t.framesFound) ∧ t.kept.mem =
    s.kept.mem ∧ t.kept.domains = s.kept.domains ∧ t.fuses = s.fuses ∧ t.nor = s.nor) ∧
(∀ s sc r img, s.canEnd = true → s.fuses.life ≠ Machine.returned → s.nand.formatted = true → sc.root = true → (s.readJournal sc).newestRec = some
    r → r.type = .sealed_ → r.off = 0 → (s.slotAt r.slot.val).base = some img → s.imagePasses sc r.slot.val img = true → img.kept.own = [] → (∀ p
    ∈ img.kept.qps, p.2.msgs = []) → s.nand.root.any (fun x => decide (s.area.wseq < x.wseq)) = false → s.bit F.GLB_RESTORE_CFG_qp_err = false →
    s.bit F.GLB_RESTORE_STAT_serving = false → s.parks = [] → s.kept.own = [] → s.seam.fwdWait = [] → s.seam.early = [] → ∃ t, exec
    (.bringupComplete sc) s = .next t ∧ t.mode = .restore ∧ t.kept.mem = img.kept.mem ∧ t.kept.domains = img.kept.domains ∧ t.kept.wrapCount =
    img.kept.wrapCount ∧ t.kept.tiles = img.kept.tiles.map (fun p => (p.1, p.2.restored s.mrt)) ∧ t.fld F.SEAM_CLAIM_epoch = img.head.epoch % 2 ^
    32 ∧ t.bit F.GLB_SAVE_STAT_sealed = true ∧ t.fuses = s.fuses ∧ t.nor = s.nor ∧ t.boot.ready = true) ∧
(∀ s sc, s.runs → s.canEnd = false → exec (.bringupComplete sc) s = .next s) ∧
(∀ s h n img, s.starts h .acceptOlderImage → s.isLost = true → s.olderImage = some (n, img) → img.kept.own = [] → (∀ p ∈ img.kept.qps, p.2.msgs =
    []) → s.bit F.GLB_RESTORE_CFG_qp_err = false → s.bit F.GLB_RESTORE_STAT_serving = false → s.parks = [] → s.kept.own = [] → s.seam.fwdWait =
    [] → s.seam.early = [] → ∃ t, exec (.acceptOlderImage h) s = .next t ∧ t.mode = .restore ∧ t.kept.mem = img.kept.mem ∧ t.kept.domains =
    img.kept.domains ∧ t.kept.wrapCount = img.kept.wrapCount ∧ t.kept.tiles = img.kept.tiles.map (fun p => (p.1, p.2.restored s.mrt)) ∧ t.fld
    F.SEAM_CLAIM_epoch = img.head.epoch % 2 ^ 32 ∧ t.bit F.GLB_SAVE_STAT_sealed = true ∧ t.fuses = s.fuses ∧ t.nor = s.nor ∧ t.pended
    Ev.GLB_IMAGE_OLDER = true) ∧
(∀ s h, s.starts h .acceptOlderImage → s.isLost = false → exec (.acceptOlderImage h) s = .next (s.begun.complete h .invalid)) ∧
(∀ s h, s.starts h .discardImage → s.isLost = true → s.pairEn = false → s.kept.qps = [] → s.parks = [] → s.kept.own = [] → s.seam.fwdWait = [] →
    s.seam.early = [] → ∃ t, exec (.discardImage h) s = .next t ∧ t.mode = .solo ∧ t.kept.mem = [] ∧ t.kept.tiles = [] ∧ t.kept.map = [] ∧
    t.area.slot0 = ({} : Slot) ∧ t.area.slot1 = ({} : Slot) ∧ t.bit F.GLB_SAVE_STAT_lost = false ∧ t.fuses = s.fuses) ∧
(∀ s h, s.starts h .discardImage → s.isLost = false → exec (.discardImage h) s = .next (s.begun.complete h .invalid))

/-- RESTORE (R148, R153 to R158): restore-serving begins where R154 allows it, as LEAD at a higher epoch; a tile of the image becomes
present in its frame and no other tile changes, and one whose unit fails its check twice is restored poisoned and counted; once every tile
is present the image is released: a RELEASED record, and the unit serves in SOLO; a slot that no image needs is erased, once its failed
blocks are replaced (R255). Rows that complete here with their own effect, for every state and operands that meet the hypotheses:
RESTORE_SERVING_BEGIN, RESTORE_TILE_PRESENT, IMAGE_RELEASE, SLOT_ERASE_DONE. -/
def Obligations.RestoreRuns : Prop :=
(∀ s, s.mayServe = true → (∀ p ∈ s.kept.qps, p.2.msgs = []) → ∃ t, exec .restoreServingBegin s = .next t ∧ t.mode = .restore ∧ t.bit
    F.GLB_RESTORE_STAT_serving = true ∧ t.lead = true ∧ t.pended Ev.GLB_RESTORE_SERVING = true ∧ t.kept.mem = s.kept.mem ∧ t.kept.rdt =
    s.kept.rdt ∧ t.kept.tiles = s.kept.tiles ∧ t.fuses = s.fuses) ∧
(∀ s, s.runs → s.mayServe = false → exec .restoreServingBegin s = .next s) ∧
(∀ s tile first second dual lane, s.mode = .restore → s.restoreTurn tile = true → s.frameOk (s.tile tile).frame = true → s.frameFails tile first
    second < 2 → dual ≠ .retryDiffers → s.parks = [] → s.kept.own = [] → s.seam.fwdWait = [] → s.seam.early = [] → ∃ t, exec (.restoreTilePresent
    tile first second dual lane) s = .next t ∧ t.tile tile = { s.tile tile with present := true } ∧ (∀ u, u ≠ tile → t.tile u = s.tile u) ∧
    t.kept.mem = s.kept.mem ∧ t.kept.poison = s.kept.poison ∧ t.fld F.GLB_RESTORE_STAT_left_tiles = s.fld F.GLB_RESTORE_STAT_left_tiles - 1 ∧
    t.kept.rdt = s.kept.rdt ∧ t.fuses = s.fuses) ∧
(∀ s tile first second dual lane, s.mode = .restore → s.restoreTurn tile = true → s.frameOk (s.tile tile).frame = true → 2 ≤ s.frameFails tile
    first second → dual ≠ .retryDiffers → s.parks = [] → s.kept.own = [] → s.seam.fwdWait = [] → s.seam.early = [] → ∃ t, exec
    (.restoreTilePresent tile first second dual lane) s = .next t ∧ (t.tile tile).present = true ∧ (∀ i, i < 256 → tile * 256 + i ∈
    t.kept.poison) ∧ t.fld F.GLB_RESTORE_POISON_tiles = (s.fld F.GLB_RESTORE_POISON_tiles + 1) % 2 ^ 32 ∧ t.pended Ev.GLB_RESTORE_POISON = true ∧
    t.kept.mem = s.kept.mem) ∧
(∀ s tile first second lane, s.mode = .restore → s.restoreTurn tile = true → s.parks = [] → exec (.restoreTilePresent tile first second
    .retryDiffers lane) s = .next (s.dual .retryDiffers lane.val)) ∧
(∀ s tile first second dual lane, s.runs → (s.mode ≠ .restore ∨ s.restoreTurn tile = false) → exec (.restoreTilePresent tile first second dual
    lane) s = .next s) ∧
(∀ s, s.canRelease = true → s.pairEn = false → (∀ p ∈ s.kept.qps, p.2.msgs = []) → ∃ t, exec .imageRelease s = .next t ∧ t.mode = .solo ∧ t.bit
    F.GLB_RESTORE_STAT_released = true ∧ t.bit F.GLB_SAVE_STAT_sealed = false ∧ t.pended Ev.GLB_RESTORE_DONE = true ∧ t.area.journal.getLast?.map
    (fun r => (r.type, r.generation)) = some (.released, s.save.gen) ∧ t.kept.mem = s.kept.mem ∧ t.kept.rdt = s.kept.rdt ∧ t.fuses = s.fuses) ∧
(∀ s slot fails, s.runs → s.mode ≠ .save → s.mode ≠ .restore → s.isLost = false → s.boot.ready = true → (s.slotAt slot.val).erased = false → exec
    (.slotEraseDone slot fails) s = .next (((forUp (fun _ (x : State) => x.saveReplace) fails 0 s).setSlot slot.val {}).journal .erased slot.val
    0 ((s.area.journal.filter (fun (r : JRec) => decide (r.slot.val = slot.val))).foldl (fun g (r : JRec) => Nat.max g r.generation) 0))) ∧
(∀ s slot fails, (s.mode = .save ∨ s.isLost = true ∨ (s.slotAt slot.val).erased = true) → exec (.slotEraseDone slot fails) s = .next s)

/-- Beats (R162, R172, R174, R176, R177): a Seam beat leaves as a frame of type 0x01 under the link's next sequence number, with the last
number received as link_ack, the unit's claim (epoch and identity), and a payload of send time, echo, delay and sync stamp, checked by
hdr_crc and a trailer; on a link that is down it is not held. A Tack beat carries flags, claim, mode, sync stamp and check under the next
frame number. A beat of another pair or of the unit's own identity is reported and ignored, one behind a gap is dropped, a Tack frame that
fails its check is counted. A beat of the twin acknowledges frames, which makes room for those that wait, counts towards a link that is
down, gives the round trip, advances the commit clock, and is what the unit knows of its twin from then on; the twin's highest epoch is
kept. Links (R172 to R174, R178): a link that has had eight beats in a row comes up and is reported, and what waits leaves on it; one that
falls silent goes down and is reported, and what it has not delivered, its beats apart, goes to the other link in pair_seq order where that
is up and waits where it is not; a replay sends every unacknowledged frame that may leave again, in order under its own link_seq, and
counts; a discarded frame counts by its kind. The loss of a path and a departure, as a Seam or a Tack frame of the twin, set the twin's
state; a departure shows the sender's claim too. Rows that complete here with their own effect, for every state and operands that meet the
hypotheses: SEAM_BEAT_SEND, TACK_BEAT_SEND, SEAM_BEAT_RECEIVE, TACK_BEAT_RECEIVE, SEAM_LINK_UP, SEAM_LINK_DOWN, SEAM_REPLAY_TIMEOUT,
SEAM_FRAME_DISCARD, DEPART_RECEIVE, PATH_LOST. -/
def Obligations.BeatsAndLinks : Prop :=
(∀ s link, s.runs → s.pairEn = true → s.mode ≠ .doze → s.quiet = false → (s.seamLink link.val).up = true → exec (.seamBeatSend link) s = .next
    (s.sendFrame link.val 0 (.beat s.mrt (s.seamLink link.val).peer (if (s.seamLink link.val).last.isSome then s.mrt - (s.seamLink
    link.val).peerAt else 0) s.sync))) ∧
(∀ s link, s.runs → s.pairEn = true → s.mode ≠ .doze → s.quiet = false → (s.seamLink link.val).up = false → exec (.seamBeatSend link) s = .next
    ((s.setLink link.val { s.seamLink link.val with tx := ((s.seamLink link.val).tx + 1) % 2 ^ 32 }).putFrame link.val (((s.seamLink link.val).tx
    + 1) % 2 ^ 32) 0 (.beat s.mrt (s.seamLink link.val).peer (if (s.seamLink link.val).last.isSome then s.mrt - (s.seamLink link.val).peerAt else
    0) s.sync))) ∧
(∀ (s : State) l n a b c d, (s.putFrame l n 0 (.beat a b c d)).out = s.out ++ [.seam l ⟨0x01, 1, 32, n, (s.seamLink l).rx, s.claimWord, 0,
    s.commit, 0, 0, 0, 0, 0⟩ (crc32c (SHead.bytes ⟨0x01, 1, 32, n, (s.seamLink l).rx, s.claimWord, 0, s.commit, 0, 0, 0, 0, 0⟩)) (leBytes 8 a ++
    leBytes 8 b ++ leBytes 4 c ++ leBytes 8 d ++ leBytes 4 0) (some (crc64 (foldPrefix 0 0 ++ (leBytes 8 a ++ leBytes 8 b ++ leBytes 4 c ++
    leBytes 8 d ++ leBytes 4 0)))) (.beat a b c d)]) ∧
(∀ s link, s.runs → (s.pairEn = false ∨ s.mode = .doze ∨ s.quiet = true) → exec (.seamBeatSend link) s = .next s) ∧
(∀ s, s.runs → s.pairEn = true → s.quiet = false → ∃ t, exec .tackBeatSend s = .next t ∧ t.out = s.out ++ [Out.tack 1 s.tackFlags (s.seam.tackSeq
    % 65536) s.claimWord s.mode.code (s.sync % 2 ^ 48) (tackCrc 1 s.tackFlags (s.seam.tackSeq % 65536) s.claimWord s.mode.code (s.sync % 2 ^
    48))] ∧ t.seam.tackSeq = (s.seam.tackSeq + 1) % 65536 ∧ t = { s with seam := { s.seam with tackSeq := t.seam.tackSeq }, out := t.out }) ∧
(∀ s : State, s.claimWord = s.epoch * 8 + (if s.unitBit = true then 1 else 0)) ∧
(∀ s, s.runs → (s.pairEn = false ∨ s.quiet = true) → exec .tackBeatSend s = .next s) ∧
(∀ s link b, s.runs → s.pairEn = true → s.mode ≠ .doze → s.mismatch b.pairId b.unit = true → exec (.seamBeatReceive link b) s = .next ((s.raise
    Ev.SEAM_PAIR_MISMATCH).settleShared)) ∧
(∀ s link b, s.runs → s.pairEn = true → s.mode ≠ .doze → s.mismatch b.pairId b.unit = false → (s.seamLink link.val).gap b.linkSeq = true → exec
    (.seamBeatReceive link b) s = .next s.settleShared) ∧
(∀ s link b, s.runs → s.pairEn = true → s.mode ≠ .doze → s.mismatch b.pairId b.unit = false → (s.seamLink link.val).gap b.linkSeq = false →
    (s.seamLink link.val).up = true → exec (.seamBeatReceive link b) s = .next (((((State.setLink (s.gotFrames link.val b.linkSeq 1 b.linkAck)
    link.val { State.seamLink (s.gotFrames link.val b.linkSeq 1 b.linkAck) link.val with last := some s.mrt, peer := b.sent, peerAt := s.mrt }).measureRtt
    link.val b).raiseCommit b.stamp).heard { s.seam.peer.getD {} with epoch := b.epoch, unit := b.unit, mode := b.mode, ready := b.ready, joining := b.joining, sync := b.sync }).settleShared)) ∧
(∀ s link b, s.runs → s.pairEn = true → s.mode ≠ .doze → s.mismatch b.pairId b.unit = false → (s.seamLink link.val).gap b.linkSeq = false →
    (s.seamLink link.val).up = false → exec (.seamBeatReceive link b) s = .next (((((State.setLink (s.gotFrames link.val b.linkSeq 1 b.linkAck)
    link.val { State.seamLink (s.gotFrames link.val b.linkSeq 1 b.linkAck) link.val with last := some s.mrt, peer := b.sent, peerAt := s.mrt, beats := if (s.seamLink link.val).last.any (fun (u : Nat) => decide (s.mrt < u + 2000 * s.fld F.SEAM_BEAT_CFG_seam_us)) then (s.seamLink link.val).beats + 1 else 1 }).measureRtt
    link.val b).raiseCommit b.stamp).heard { s.seam.peer.getD {} with epoch := b.epoch, unit := b.unit, mode := b.mode, ready := b.ready, joining := b.joining, sync := b.sync }).settleShared)) ∧
(∀ (s : State) l q n a, s.gotFrames l q n a = State.pump (s.setLink l { s.seamLink l with synced := true, rx := (q + n - 1) % 2 ^ 32, unacked := ackTo (s.seamLink l).unacked a })
    l) ∧
(∀ s b, s.runs → s.pairEn = true → b.crcOk = false → exec (.tackBeatReceive b) s = .next ((s.sat F.CRC_FAIL_CNT_seam).settleShared)) ∧
(∀ s b, s.runs → s.pairEn = true → b.crcOk = true → s.mismatch b.pairId b.unit = true → exec (.tackBeatReceive b) s = .next ((s.raise
    Ev.SEAM_PAIR_MISMATCH).settleShared)) ∧
(∀ s b, s.runs → s.pairEn = true → b.crcOk = true → s.mismatch b.pairId b.unit = false → exec (.tackBeatReceive b) s = .next ((State.heard { s with seam := { s.seam with tackLast := some s.mrt } }
    { s.seam.peer.getD {} with epoch := b.epoch, unit := b.unit, mode := b.mode, lead := b.lead, held := b.held, ready := b.ready }).settleShared)) ∧
(∀ s : State, s.mode ≠ .solo → s.settleShared = s) ∧
(∀ (s : State) p, p.epoch < 2 ^ 32 → s.heard p = (({ s with seam := { s.seam with peer := some p, departed := s.seam.departed && p.mode == 7 } }).seeClaim
    p.epoch).reviewTwin ∧ (s.seeClaim p.epoch).fld F.SEAM_TWIN_CLAIM_epoch = Nat.max (s.fld F.SEAM_TWIN_CLAIM_epoch) p.epoch) ∧
(∀ s link, s.runs → s.pairEn = true → (s.seamLink link.val).up = false → 8 ≤ (s.seamLink link.val).beats → exec (.seamLinkUp link) s = .next
    ((let r : State := ((((s.setLink link.val { s.seamLink link.val with up := true }).setBit (linkBit link.val) true).raise Ev.SEAM_LINK_UP link.val).reviewTwin); let o := r.seamLink (1 - link.val); State.pump (if o.up then r else o.queue.foldl (fun (u : State) (f : Nat × SFrame) => u.sendFrame link.val f.1 f.2) (r.setLink (1 - link.val) { o with queue := [] })) link.val).settleShared)) ∧
(∀ s link, s.runs → ((s.seamLink link.val).up = true ∨ (s.seamLink link.val).beats < 8 ∨ s.pairEn = false) → exec (.seamLinkUp link) s = .next
    s.settleShared) ∧
(∀ s link, s.runs → (s.seamLink link.val).up = true → (s.seamLink (1 - link.val)).up = false → exec (.seamLinkDown link) s = .next (((((s.setLink
    link.val { (s.seamLink link.val).taken with up := false, queue := (s.seamLink link.val).pending }).setBit (linkBit link.val) false).raise
    Ev.SEAM_LINK_DOWN link.val).reviewTwin).settleShared)) ∧
(∀ s link, s.runs → (s.seamLink link.val).up = true → (s.seamLink (1 - link.val)).up = true → exec (.seamLinkDown link) s = .next ((((s.seamLink
    link.val).pending.foldl (fun (u : State) (f : Nat × SFrame) => u.sendFrame (1 - link.val) f.1 f.2) (((s.setLink link.val { (s.seamLink link.val).taken with up := false, queue := [] }).setBit
    (linkBit link.val) false).raise Ev.SEAM_LINK_DOWN link.val)).reviewTwin).settleShared)) ∧
(∀ (x : Link) f, f ∈ x.pending ↔ (f.2.isBeat = false ∧ ((∃ n, (n, f.1, f.2) ∈ x.unacked) ∨ f ∈ x.queue))) ∧
(∀ x : Link, x.taken = { x with synced := false, beats := 0, last := none, unacked := [], queue := [] }) ∧
(∀ s link, s.runs → (s.seamLink link.val).up = false → exec (.seamLinkDown link) s = .next s.settleShared) ∧
(∀ s link, s.runs → (s.seamLink link.val).up = true → (s.seamLink link.val).unacked ≠ [] → ∃ t, exec (.seamReplayTimeout link) s = .next t ∧ t =
    ((s.seamLink link.val).unacked.filter (fun u => s.mayLeave u.2.2)).foldl (fun (r : State) u => r.putFrame link.val u.1 u.2.1 u.2.2) (s.wrap
    F.SEAM_STALE_CNT_replays) ∧ t.seam = s.seam ∧ t.fld F.SEAM_STALE_CNT_replays = (s.fld F.SEAM_STALE_CNT_replays + 1) % 2 ^ 16) ∧
(∀ s link, s.runs → ((s.seamLink link.val).up = false ∨ (s.seamLink link.val).unacked = []) → exec (.seamReplayTimeout link) s = .next s) ∧
(∀ s link kind, s.runs → s.pairEn = true → kind.val ≤ 1 → exec (.seamFrameDiscard link kind) s = .next (s.sat F.CRC_FAIL_CNT_seam)) ∧
(∀ s link, s.runs → s.pairEn = true → exec (.seamFrameDiscard link 3) s = .next { s with seam := { s.seam with badTypes := s.seam.badTypes + 1 } }) ∧
(∀ s link, s.runs → s.pairEn = true → exec (.seamFrameDiscard link 2) s = .next s) ∧
(∀ s : State, s.doPathLost .tack = ({ s with seam := { s.seam with tackLast := none } }).reviewTwin ∧ (s.mode ≠ .doze → s.seam.link0.up = true →
    s.doPathLost .seam0 = s.doLinkDown 0) ∧ (s.mode ≠ .doze → s.seam.link1.up = true → s.doPathLost .seam1 = s.doLinkDown 1) ∧ (s.mode = .doze →
    s.doPathLost .seam0 = s ∧ s.doPathLost .seam1 = s)) ∧
(∀ s h, s.runs → s.mode ≠ .doze → s.mode ≠ .save → s.pairEn = true → s.mismatch h.pairId h.unit = false → (s.seamLink h.link.val).gap h.linkSeq =
    false → exec (.departReceive (.seam h)) s = .next
    ((let r : State := (s.counted h).seeClaim h.epoch; State.reviewTwin { r with seam := { r.seam with departed := true } }).settleShared)) ∧
(∀ s d, s.runs → s.pairEn = true → d.crcOk = true → s.mismatch d.pairId d.unit = false → exec (.departReceive (.tack d)) s = .next
    ((let r : State := s.seeClaim d.epoch; State.reviewTwin { r with seam := { r.seam with departed := true } }).settleShared)) ∧
(∀ s d, s.runs → s.pairEn = true → d.crcOk = true → s.mismatch d.pairId d.unit = true → exec (.departReceive (.tack d)) s = .next ((s.raise
    Ev.SEAM_PAIR_MISMATCH).settleShared)) ∧
(∀ s d, s.runs → s.pairEn = true → d.crcOk = false → exec (.departReceive (.tack d)) s = .next ((s.sat F.CRC_FAIL_CNT_seam).settleShared)) ∧
(∀ s path, s.runs → s.mode ≠ .doze → State.twin (s.doPathLost path) ≠ 2 → exec (.pathLost path) s = .next ((s.doPathLost path).settleShared)) ∧
(∀ s : State, s.seam.departed = true → s.twinSeen = 2) ∧
(∀ s : State, s.seam.departed = false → s.mode ≠ .doze → s.doze.grace = false → s.twinSeen = if s.seam.link0.up = true ∨ s.seam.link1.up = true
    then 0 else if s.seam.tackLast.isSome = true then 1 else 2)

/-- The witness (R164, R179, R183, R184, R186 to R188, R314): the grant pin is noted as it rises and falls; a token that passes the checks
is held until it ends, one that fails a check is answered INVALID and reported, a broken record also as NORC_REC_BAD; a YIELD shows its
sender's claim and a unit in PAIRED or RESYNC notes it, one of another pair is only reported; a unit at the end of BRINGUP notes that its
wait has passed. Whatever happened, the unit reviews what it holds and may do. A unit without the witness, or in SAVE, takes nothing over;
one that must take over does; its claim rises above its own and its twin's. The announcements of a port's two addresses, one for IPv4 and
one for IPv6, leave as often as they are due: those of the lost unit's addresses after a takeover, the unit's own once queue pairs have come
back (R194). Rows that complete here with their own effect, for every state and operands that meet the hypotheses: WITNESS_GRANT,
WITNESS_GRANT_FALL, TOKEN_EXPIRE, WITNESS_TOKEN, YIELD_RECEIVE, PAIR_WAIT_EXPIRE, ADDRESS_ANNOUNCE. -/
def Obligations.WitnessAndClaims : Prop :=
(∀ s, s.runs → exec .witnessGrant s = .next ((((s.setBit F.SEAM_WIT_STAT_pin true).reviewPair).seize).settleShared)) ∧
(∀ s, s.runs → exec .witnessGrantFall s = .next ((s.setBit F.SEAM_WIT_STAT_pin false).reviewPair)) ∧
(∀ s, s.runs → exec .tokenExpire s = .next ({ s with seam := { s.seam with token := none } }.reviewPair)) ∧
(∀ s h w, s.starts h (.witnessToken w) → s.tokenOk w = true → exec (.witnessToken h w) s = .next (((({ s.begun with seam := { s.begun.seam with token := some (w.epoch, s.begun.mrt + (w.notAfter - s.begun.commit), false) } }.complete
    h .ok).reviewPair).seize).settleShared)) ∧
(∀ s h w, s.starts h (.witnessToken w) → s.tokenOk w = false → w.recOk = true → exec (.witnessToken h w) s = .next (((s.begun.complete h
    .invalid).raise Ev.SEAM_TOKEN_BAD).settleShared)) ∧
(∀ s h w, s.starts h (.witnessToken w) → w.recOk = false → exec (.witnessToken h w) s = .next ((((s.begun.complete h .invalid).raise
    Ev.SEAM_TOKEN_BAD).raise Ev.NORC_REC_BAD).settleShared)) ∧
(∀ (s : State) w, s.tokenOk w = true → s.bit F.SEAM_WIT_CFG_token_en = true ∧ w.magicOk = true ∧ w.sigOk = true ∧ w.recOk = true ∧ w.pairId =
    s.pairId ∧ w.unit = s.unitBit ∧ s.epoch < w.epoch ∧ s.fld F.SEAM_TWIN_CLAIM_epoch < w.epoch ∧ s.commit < w.notAfter) ∧
(∀ s d, s.runs → s.pairEn = true → d.crcOk = true → s.mismatch d.pairId d.unit = false → s.mirrored = true → s.lead = true → exec (.yieldReceive
    d) s = .next
    ((let r : State := s.seeClaim d.epoch; ((State.reviewPair { r with seam := { r.seam with yielded := true } }).seize).consider).settleShared)) ∧
(∀ s d, s.runs → s.pairEn = true → d.crcOk = true → s.mismatch d.pairId d.unit = false → s.mirrored = true → s.lead = false → exec (.yieldReceive
    d) s = .next
    ((let r : State := s.seeClaim d.epoch; ((State.reviewPair { r with seam := { r.seam with yielded := true } })).consider).settleShared)) ∧
(∀ s d, s.runs → s.pairEn = true → d.crcOk = true → s.mismatch d.pairId d.unit = false → s.mirrored = false → exec (.yieldReceive d) s = .next
    ((((s.seeClaim d.epoch).reviewPair).consider).settleShared)) ∧
(∀ s d, s.runs → s.pairEn = true → d.crcOk = true → s.mismatch d.pairId d.unit = true → exec (.yieldReceive d) s = .next ((s.raise
    Ev.SEAM_PAIR_MISMATCH).settleShared)) ∧
(∀ s d, s.runs → s.pairEn = false → exec (.yieldReceive d) s = .next s.settleShared) ∧
(∀ s, s.runs → s.seam.joining = true → exec .pairWaitExpire s = .next ((State.seize (State.reviewPair { s with seam := { s.seam with waited := true } })).settleShared)) ∧
(∀ s, s.runs → s.seam.joining = false → exec .pairWaitExpire s = .next s.settleShared) ∧
(∀ s lport k, s.runs → alGet s.ports.announce lport.val = some (k + 1) → exec (.addressAnnounce lport) s = .next ((s.countAnnounce lport.val
    k).announceAll lport.val (!s.unitBit))) ∧
(∀ s lport k, s.runs → (alGet s.ports.announce lport.val = none ∨ alGet s.ports.announce lport.val = some 0) → alGet s.ports.announce (lport.val
    + 32) = some (k + 1) → exec (.addressAnnounce lport) s = .next ((s.countAnnounce (lport.val + 32) k).announceAll lport.val s.unitBit)) ∧
(∀ s lport, s.runs → alGet s.ports.announce lport.val = none → alGet s.ports.announce (lport.val + 32) = none → exec (.addressAnnounce lport) s =
    .next s) ∧
(∀ (s : State) l u, (∃ a b, (s.announceAll l u).out = s.out ++ [.announce l false (Config.address u l false) a, .announce l true (Config.address
    u l true) b]) ∧ (∀ k n, alRises 0 s.ports.announce = true → alGet (s.countAnnounce k n).ports.announce k = (if n = 0 then none else some n))) ∧
(∀ s : State, (s.held = false ∨ s.mode = .save) → s.seize = s) ∧
(∀ s : State, s.held = true → s.mode ≠ .save → s.mustTake = true → s.seize = s.takeSolo.raise Ev.SEAM_WIT_GRANT) ∧
(∀ s : State, s.seam.token = none → s.epoch < 2 ^ 32 - 1 → s.fld F.SEAM_TWIN_CLAIM_epoch < 2 ^ 32 - 1 → s.epoch < s.raiseEpoch.epoch ∧ s.fld
    F.SEAM_TWIN_CLAIM_epoch < s.raiseEpoch.epoch ∧ s.regsKept s.raiseEpoch [F.SEAM_CLAIM_epoch.off])

/-- Frames of the twin (R58, R167 to R170, R172, R175): a frame that is not of the twin is reported; one out of its link's turn is dropped;
one of a lower epoch is dropped and counted, and a stale forward answered STALE; FOLLOW drops a frame of the pair's order that it has
applied and holds any other for its turn; LEAD commits a forward, settles what a MACK completes and holds what FOLLOW refused; FOLLOW
answers a forward that LEAD refused with the syndrome its MACK names. A command frame arrives at LEAD's gate and takes effect on FOLLOW; a
done report completes the command it names by tag, code and claim (log entry 158), and ends a drain only with OK; a forward to a closing
region that LEAD has given up is abandoned (R60); shared context is updated. Rows that complete here with their own effect, for every state
and operands that meet the hypotheses: MIRROR_RECEIVE, COPY_RECEIVE, DISCARD_FRAME_RECEIVE, FWD_RECEIVE, MACK_RECEIVE, CMD_FRAME_RECEIVE,
CMD_DONE_RECEIVE, CTX_RECEIVE. -/
def Obligations.PairOrder : Prop :=
(∀ s h m, s.runs → s.takesFrame h → s.lead = false → h.pairSeq ≤ s.seam.applied → exec (.mirrorReceive h m) s = .next (State.afterFree
    ((s.counted h)))) ∧
(∀ s h m, s.runs → s.takesFrame h → h.local_ = false → exec (.mirrorReceive h m) s = .next (State.afterFree (((s.counted h).orderIn h.pairSeq
    (.mirror h m))))) ∧
(∀ s h tile frame data key, s.runs → s.takesFrame h → exec (.copyReceive h tile frame data key) s = .next (State.afterFree ((s.counted h).orderIn
    h.pairSeq (.copy tile frame.val data key)))) ∧
(∀ s h tile, s.runs → s.takesFrame h → exec (.discardFrameReceive h tile) s = .next ((s.counted h).orderIn h.pairSeq (.discard tile))) ∧
(∀ (s : State) q e, s.lead = true ∨ s.mirrored = false ∨ q ≤ s.seam.applied → s.orderIn q e = s) ∧
(∀ (s : State) q e, s.lead = false → s.mirrored = true → s.seam.applied < q → s.orderIn q e = State.drain { s with seam := { s.seam with early := alPut s.seam.early q e } }) ∧
(∀ s h m, s.runs → s.takesFrame h → s.lead = false → s.seam.applied < h.pairSeq → h.local_ = true → exec (.mirrorReceive h m) s = .next
    (State.afterFree
    ((let r : State := (s.counted h).orderIn h.pairSeq (.mirror h m); if r.seam.applied < h.pairSeq then r.returned m false m.result none [] else r)))) ∧
(∀ s h m, s.runs → s.pairEn = true → s.mirrored = true → s.mismatch h.pairId h.unit = true → exec (.mirrorReceive h m) s = .next (State.afterFree
    ((s.raise Ev.SEAM_PAIR_MISMATCH)))) ∧
(∀ s h m, s.runs → s.pairEn = true → s.mirrored = true → s.mismatch h.pairId h.unit = false → (s.seamLink h.link.val).gap h.linkSeq = true → exec
    (.mirrorReceive h m) s = .next (State.afterFree (s))) ∧
(∀ s h m, s.runs → State.takesFrame s { h with epoch := s.epoch } → s.epoch < h.epoch → exec (.mirrorReceive h m) s = .next (State.afterFree
    (((((s.counted h).seeClaim h.epoch).reviewPair).consider)))) ∧
(∀ s h m, s.runs → State.takesFrame s { h with epoch := s.epoch } → h.epoch < s.epoch → exec (.mirrorReceive h m) s = .next (State.afterFree
    (((s.counted h).wrap F.SEAM_STALE_CNT_stale)))) ∧
(∀ s h m rd, s.runs → State.takesFrame s { h with epoch := s.epoch } → h.epoch < s.epoch → exec (.fwdReceive h m rd) s = .next (State.afterFree
    (((s.counted h).wrap F.SEAM_STALE_CNT_stale).seamSend (.mack 0 2 m.qp.val m.psn)))) ∧
(∀ s h m rd, s.runs → s.takesFrame h → s.lead = true → exec (.fwdReceive h m rd) s = .next (State.afterFree ((s.counted h).commitFwd h m rd))) ∧
(∀ s h m rd, s.runs → s.takesFrame h → s.lead = false → exec (.fwdReceive h m rd) s = .next (State.afterFree ((s.counted h).seamSend (.mack 0 2
    m.qp.val m.psn)))) ∧
(∀ s h n psn syn, s.runs → s.takesFrame h → s.lead = true → exec (.mackReceive h n psn 0 syn) s = .next (((s.counted h).mackOk
    h.pairSeq).settleShared)) ∧
(∀ s h n psn syn, s.runs → s.takesFrame h → s.lead = true → exec (.mackReceive h n psn 1 syn) s = .next (((s.counted h).mackRefused
    h.pairSeq).settleShared)) ∧
(∀ s h n psn syn, s.runs → s.takesFrame h → s.lead = false → exec (.mackReceive h n psn 2 syn) s = .next (((s.counted
    h).mackStale).settleShared)) ∧
(∀ s h qp psn syn m, s.runs → s.takesFrame h → s.lead = false → (s.qpAt qp.val).bind (fun (q : Qp) => q.msgs.find? (fun (x : Msg) => x.psn = psn
    ∧ x.fwd ∧ !x.committed)) = some m → m.region.any (fun i => (s.rgn i).state == .closing) = false → exec (.mackReceive h qp psn 1 syn) s =
    .next (((s.counted h).refuse qp.val psn (if syn = 0 then 0x29 else syn) m.verb).settleShared)) ∧
(∀ s h qp psn syn m, s.runs → s.takesFrame h → s.lead = false → (s.qpAt qp.val).bind (fun (q : Qp) => q.msgs.find? (fun (x : Msg) => x.psn = psn
    ∧ x.fwd ∧ !x.committed)) = some m → m.region.any (fun i => (s.rgn i).state == .closing) = true → exec (.mackReceive h qp psn 1 syn) s = .next
    (((s.counted h).abandonFwd qp.val m).settleShared)) ∧
(∀ s h f vals, s.runs → s.takesFrame h → s.lead = true → exec (.cmdFrameReceive h f vals) s = .next ((s.counted h).deliverFrame .twin f)) ∧
(∀ s h f vals, s.runs → s.takesFrame h → s.lead = false → exec (.cmdFrameReceive h f vals) s = .next ((s.counted h).followCmd f.cmd vals)) ∧
(∀ (s : State) f vals x, s.shared.find? (fun (x : Shared) => x.sent && x.hdr.tag == f.hdr.tag && x.cmd == f.cmd) = some x → s.followCmd f vals =
    State.applyShared { s with shared := s.shared.erase x } x.hdr vals x.cmd) ∧
(∀ (s : State) f vals e, s.shared = [] → cmdLocal f.cmd = true → s.checkShared (cmdChosen vals f.cmd) = .error e → s.followCmd f vals =
    s.seamSend (.cmdDone { f.hdr with src := .twin } (cmdCode f.cmd) e vals)) ∧
(∀ (s : State) f vals, s.shared = [] → cmdLocal f.cmd = false → cmdLasts f.cmd = false → s.followCmd f vals = (s.applyShared { f.hdr with src := .twin }
    vals f.cmd).seamSend (.cmdDone { f.hdr with src := .twin } (cmdCode f.cmd) .ok [])) ∧
(∀ (s : State) f vals l, s.shared = [] → s.checkShared (cmdChosen vals f.cmd) = .ok l → cmdLasts f.cmd = false → s.followCmd f vals =
    (s.applyShared { f.hdr with src := .twin } vals f.cmd).seamSend (.cmdDone { f.hdr with src := .twin } (cmdCode f.cmd) .ok [])) ∧
(∀ s h of_ code st vals x, s.runs → s.takesFrame h → st ≠ .ok → (code ≠ cmdCode (.deregister 0) ∨ s.awaitsDrain of_ vals = false) →
    s.shared.find? (fun (y : Shared) => y.named of_ code) = some x → exec (.cmdDoneReceive h of_ code st vals) s = .next (State.complete { s.counted h with shared := s.shared.erase x }
    x.hdr st)) ∧
(∀ s h of_ code vals x, s.runs → s.takesFrame h → (code ≠ cmdCode (.deregister 0) ∨ s.awaitsDrain of_ vals = false) → s.shared.find? (fun (y :
    Shared) => y.named of_ code) = some x → exec (.cmdDoneReceive h of_ code .ok vals) s = .next (State.twinDid { s.counted h with shared := s.shared.erase x }
    x vals)) ∧
(∀ s h of_ i l, s.runs → s.takesFrame h → s.awaitsDrain of_ (i :: l) = true → exec (.cmdDoneReceive h of_ (cmdCode (.deregister 0)) .ok (i :: l))
    s = .next ((s.counted h).twinDrained i)) ∧
(∀ s h of_ i l st, s.runs → s.takesFrame h → st ≠ .ok → s.awaitsDrain of_ (i :: l) = true → exec (.cmdDoneReceive h of_ (cmdCode (.deregister 0))
    st (i :: l)) s = .next ((s.counted h).reopen i st)) ∧
(∀ s h of_ code st vals, s.runs → s.takesFrame h → (code ≠ cmdCode (.deregister 0) ∨ s.awaitsDrain of_ vals = false) → s.shared.find? (fun (y :
    Shared) => y.named of_ code) = none → exec (.cmdDoneReceive h of_ code st vals) s = .next (s.counted h)) ∧
(∀ (s : State) x vals, (x.sent = true → s.twinDid x vals = s.finishShared x.hdr x.cmd vals) ∧ (x.sent = false → s.nand.secure = [] → cmdAtOnce
    x.cmd = true → s.twinDid x vals = s.endShared x.hdr x.cmd x.vals)) ∧
(∀ s h u, s.runs → s.takesFrame h → exec (.ctxReceive h u) s = .next ((s.counted h).applyCtx u))

/-- RESYNC and give-back (R190 to R194): the next tile of the copy set leaves as DISCARD or COPY frames, is out of the set and is in flight
until its last frame is acknowledged; cutover pairs the units once fewer bytes are left than SEAM_RSY_CFG allows; with nothing left the copy
is over, and LEAD drops its divergence record; a give-back marks its queue pairs and moves those at rest; a queue pair that was given back
stops forwarding. Rows that complete here with their own effect, for every state and operands that meet the hypotheses: RESYNC_COPY_SEND,
RESYNC_CUTOVER, RESYNC_DONE, GIVE_BACK, GIVEBACK_FORWARD_END. -/
def Obligations.ResyncRuns : Prop :=
(∀ s tile l, s.runs → s.seam.copySet = tile :: l → s.lead = true → s.mirrored = true → s.gates = true → s.twinUp = true → s.seam.blind = false →
    tile ∉ l → ∃ t, exec .resyncCopySend s = .next t ∧ t.seam.copySet = l ∧ t.seam.inflight = s.seam.inflight.filter (fun p => p.1 != tile) ++
    [(tile, t.seam.pairSeq)] ∧ t.seam.pairSeq = s.seam.pairSeq + (if (s.tile tile).empty then 1 else 16) ∧ t.kept = s.kept ∧ t.csr = s.csr ∧
    t.mode = s.mode) ∧
(∀ s, s.runs → (s.seam.copySet = [] ∨ s.lead = false ∨ s.gates = false) → exec .resyncCopySend s = .next s) ∧
(∀ s, s.mode = .resync → s.seam.blind = false → s.twinUp = true → s.copyBytes < s.fld F.SEAM_RSY_CFG_cut_mib * 2 ^ 20 → exec .resyncCutover s =
    .next s.cutOver) ∧
(∀ s, s.runs → (s.mode ≠ .resync ∨ s.seam.blind = true ∨ s.fld F.SEAM_RSY_CFG_cut_mib * 2 ^ 20 ≤ s.copyBytes) → exec .resyncCutover s = .next s) ∧
(∀ s, s.mode = .paired → s.seam.copying = true → s.seam.copySet = [] → s.seam.inflight = [] → s.lead = true → exec .resyncDone s = .next
    (State.reviewPair (State.raise { s with seam := { s.seam with copying := false, full := false, cut := false }, kept := { s.kept with record := none } }
    Ev.SEAM_RSY_DONE))) ∧
(∀ s, s.mode = .paired → s.seam.copying = true → s.seam.copySet = [] → s.seam.inflight = [] → s.lead = false → exec .resyncDone s = .next
    (State.reviewPair { s with seam := { s.seam with copying := false, full := false, cut := false } })) ∧
(∀ s, s.runs → (s.mode ≠ .paired ∨ s.seam.copying = false ∨ s.seam.copySet ≠ [] ∨ s.seam.inflight ≠ []) → exec .resyncDone s = .next s) ∧
(∀ s h ns, s.starts h (.giveBack ns) → s.mode = .paired → ns ≠ [] → (∀ n ∈ ns, ∃ q, s.qpAt n.val = some q ∧ s.hosts q = true) → exec (.giveBack h
    ns) s = .next (((ns.map (fun (n : Qpi) => n.val)).foldl State.tryGive ((ns.map (fun (n : Qpi) => n.val)).foldl (fun (r : State) n => r.modQp
    n (fun (q : Qp) => { q with giving := true })) s.begun)).complete h .ok)) ∧
(∀ s h ns, s.starts h (.giveBack ns) → s.mode ≠ .paired → ns ≠ [] → (∀ n ∈ ns, ∃ q, s.qpAt n.val = some q ∧ s.hosts q = true) → exec (.giveBack h
    ns) s = .next (s.begun.complete h .busy)) ∧
(∀ s h n, s.starts h (.giveBack ([n])) → s.qpAt n.val = none → exec (.giveBack h [n]) s = .next (s.begun.complete h .invalid)) ∧
(∀ s qp, s.runs → exec (.givebackForwardEnd qp) s = .next (s.modQp qp.val (fun (q : Qp) => { q with fwdUntil := none })))

/-- The rail sequence (R286, R287, R291, R292): the main input and the power button are power-on triggers with the rails off or being
removed, and start nothing later where they come while the rails are on; with the rails off, a trigger and a good input, Fen counts a power
cycle and runs the table of the selected copy from its first entry; an entry's delay enables its rail, and its power-good or settling
completes it: the resets it names begin to be released and the next entry follows. Where neither copy holds a valid table, fault 2 is
latched. Each of these commands acts only in its phase, and Fen's commands do nothing without FEN_VDD. A counter record of hours, cycles and
rail drops waits to be appended, in a sector that is a free value. Rows that complete here with their own effect, for every state and
operands that meet the hypotheses: MAIN_INPUT_GOOD, POWER_BUTTON, POWER_ON_START, RAIL_DELAY_EXPIRE, RAIL_PG_RISE, RAIL_SETTLE_EXPIRE,
RESET_STRETCH_EXPIRE, COUNTER_RECORD_APPEND. -/
def Obligations.RailSequence : Prop :=
(∀ (s : State) f, s.fen.vdd = false → s.fenCmd f = .next s) ∧
(∀ s, s.fen.vdd = true → s.fen.inputGood = false → (s.fen.phase = .off ∨ s.fen.phase = .removing) → exec .mainInputGood s = .next { s with fen := { s.fen with trigger := true, inputGood := true } }) ∧
(∀ s, s.fen.vdd = true → s.fen.inputGood = false → s.fen.phase ≠ .off → s.fen.phase ≠ .removing → exec .mainInputGood s = .next { s with fen := { s.fen with inputGood := true } }) ∧
(∀ s, s.fen.vdd = true → s.fen.inputGood = true → exec .mainInputGood s = .next s) ∧
(∀ s, s.fen.vdd = true → (s.fen.phase = .off ∨ s.fen.phase = .removing) → exec .powerButton s = .next { s with fen := { s.fen with trigger := true } }) ∧
(∀ s, s.fen.vdd = true → s.fen.phase ≠ .off → s.fen.phase ≠ .removing → exec .powerButton s = .next s) ∧
(∀ s tb, s.fen.vdd = true → s.fen.phase = .off → s.fen.trigger = true → s.fen.inputGood = true → railsOf (s.nor.copy (s.bit F.NORC_FEN_SEL_copy))
    = some tb → ∃ t, exec .powerOnStart s = .next t ∧ t.fld F.FEN_CYCLES_count = (s.fld F.FEN_CYCLES_count + 1) % 2 ^ 32 ∧ t.fld
    F.FEN_SEQ_STAT_attempts = 1 ∧ t.fld F.FEN_STATUS_rails = 1 ∧ s.regsKept t [F.FEN_CYCLES_count.off, F.FEN_SEQ_STAT_attempts.off,
    F.FEN_STATUS_rails.off] ∧ t = { s with csr := t.csr, fen := { s.fen with trigger := false, failed := 0, mismatch := 0, table := tb, fromB := s.bit F.NORC_FEN_SEL_copy, step := 0, phase := .delay, on := [], after := .stay, off := 0, vFault := false } }) ∧
(∀ s, s.fen.vdd = true → s.fen.phase = .off → s.fen.trigger = true → s.fen.inputGood = true → railsOf (s.nor.copy false) = none → railsOf
    (s.nor.copy true) = none → ∃ t, exec .powerOnStart s = .next t ∧ t.fen.phase = .fault ∧ t.fen.faultLow = true ∧ t.bit F.FEN_SEQ_STAT_fault =
    true ∧ t.fld F.FEN_SEQ_STAT_cause = 2 ∧ t.fld F.FEN_STATUS_rails = 3 ∧ t.fen.on = s.fen.on ∧ t.mode = s.mode ∧ t.kept = s.kept ∧ t.nor =
    s.nor ∧ t.fuses = s.fuses) ∧
(∀ s, s.fen.vdd = true → (s.fen.phase ≠ .off ∨ s.fen.trigger = false ∨ s.fen.inputGood = false) → exec .powerOnStart s = .next s) ∧
(∀ s e, s.fen.vdd = true → s.fen.phase = .delay → s.fen.table[s.fen.step]? = some e → e.core = false → exec .railDelayExpire s = .next { s with fen := { s.fen with on := s.fen.on ++ [e.rail.val], phase := if e.pg then .pg else .settle } }) ∧
(∀ s e, s.fen.vdd = true → s.fen.phase = .delay → s.fen.table[s.fen.step]? = some e → e.core = true → exec .railDelayExpire s = .next { s.setFld F.FEN_VCORE_STAT_set_mv (s.vTarget s.fen.tj) with fen := { s.fen with on := s.fen.on ++ [e.rail.val], phase := if e.pg then .pg else .settle } }) ∧
(∀ s, s.fen.vdd = true → s.fen.phase ≠ .delay → exec .railDelayExpire s = .next s) ∧
(∀ s rail lks e, s.fen.vdd = true → s.fen.phase = .pg → s.fen.table[s.fen.step]? = some e → e.rail = rail → exec (.railPgRise rail lks) s = .next
    (s.stepDone e lks)) ∧
(∀ s rail lks e, s.fen.vdd = true → s.fen.table[s.fen.step]? = some e → (s.fen.phase ≠ .pg ∨ e.rail ≠ rail) → exec (.railPgRise rail lks) s =
    .next s) ∧
(∀ s lks e, s.fen.vdd = true → s.fen.phase = .settle → s.fen.table[s.fen.step]? = some e → exec (.railSettleExpire lks) s = .next (s.stepDone e
    lks)) ∧
(∀ s lks, s.fen.vdd = true → s.fen.phase ≠ .settle → exec (.railSettleExpire lks) s = .next s) ∧
(∀ (s : State) e lks, e.core = false → s.fen.step + 1 < s.fen.table.length → s.stepDone e lks = { s with fen := { s.fen with step := s.fen.step + 1, phase := .delay, due := s.fen.due ++ (List.range 8).filter (fun n => e.rst.getLsbD n && s.fen.resets.contains n && !s.fen.due.contains n) } }) ∧
(∀ s n, s.fen.vdd = true → n.val ∈ s.fen.due → exec (.resetStretchExpire n) s = .next { s with fen := { s.fen with resets := setDel s.fen.resets n.val, due := setDel s.fen.due n.val } }) ∧
(∀ s n, s.fen.vdd = true → n.val ∉ s.fen.due → exec (.resetStretchExpire n) s = .next s) ∧
(∀ s, s.runs → ∃ t, exec .counterRecordAppend s = .next t ∧ (∃ k, t.nor.appends = s.nor.appends ++ [.counter { hours := s.fld F.FEN_HOURS_count, cycles := s.fld F.FEN_CYCLES_count, rails := (List.range 24).map (fun n => s.reg (F.FEN_RAILn_CNT_drops n).off), sector := k }])
    ∧ t = { s with nor := { s.nor with appends := t.nor.appends }, free := t.free })

/-- Rail faults (R288 to R290, R294): a held rail that drops is counted and reported, and one that is critical puts the core in RESET, with
nothing kept but fuses and what the memories off the die hold, while Fen removes the rails one by one in reverse order; a step that times
out, in the sequence or in DOZE exit (log entry 180), or a core voltage out of its window, fails the attempt in the same way; Fen sequences
again after a wait, or latches fault 1 once its retries are used. Rows that complete here with their own effect, for every state and
operands that meet the hypotheses: FEN_RAIL_DROP, VCORE_WINDOW_TRIP, RAIL_STEP_TIMEOUT, RAIL_REMOVE_DELAY_EXPIRE, SEQ_RETRY_WAIT_EXPIRE,
FEN_VDD_LOSS, FEN_VDD_RISE. -/
def Obligations.RailsRemoved : Prop :=
(∀ s rail e, s.fen.vdd = true → s.mode ≠ .reset → rail.val ∈ s.fen.on → s.fen.phase = .on → e ∈ s.fen.table → e.rail = rail → e.critical = true →
    ∃ t, exec (.fenRailDrop rail) s = .next t ∧ t.mode = .reset ∧ t.kept = {} ∧ t.gate = ({} : Gate) ∧ t.fuses = s.fuses ∧ t.area = s.area ∧
    t.nor.bytes = s.nor.bytes ∧ t.pending = s.pending ∧ t.part = s.part ∧ t.fen.resets = List.range 8) ∧
(∀ s rail, s.fen.vdd = true → rail.val ∈ s.fen.on → (∀ e ∈ s.fen.table, e.rail = rail → e.critical = false) → exec (.fenRailDrop rail) s = .next
    ((s.sat (F.FEN_RAILn_CNT_drops rail.val)).raise Ev.FEN_RAIL_DROP rail.val)) ∧
(∀ s rail, s.fen.vdd = true → rail.val ∉ s.fen.on → exec (.fenRailDrop rail) s = .next s) ∧
(∀ s e, s.fen.vdd = true → s.fen.table.find? (·.core) = some e → exec .vcoreWindowTrip s = .next (s.doRailDrop e.rail.val)) ∧
(∀ s, s.fen.vdd = true → s.fen.table.find? (·.core) = none → exec .vcoreWindowTrip s = .next s) ∧
(∀ s e, s.fen.vdd = true → s.fen.phase = .pg → s.fen.table[s.fen.step]? = some e → exec .railStepTimeout s = .next ((((s.sat
    (F.FEN_RAILn_CNT_seq_fail e.rail.val)).setFld F.FEN_SEQ_STAT_rail e.rail.val).setFld F.FEN_SEQ_STAT_step s.fen.step).failAttempt
    (s.fen.failed + 1))) ∧
(∀ s, s.fen.vdd = true → s.fen.phase ≠ .pg → s.doze.phase ≠ .exiting → exec .railStepTimeout s = .next s) ∧
(∀ s, s.fen.vdd = true → s.fen.phase = .on → s.doze.phase = .exiting → s.exitSteps ≠ [] → exec .railStepTimeout s = .next
    (let n := s.exitSteps.getD (Config.choice s.free s.exitSteps.length % s.exitSteps.length) 0; match s.fen.table[n]? with | some e => s.tickFree.failStep e n 1 | none => s)) ∧
(∀ (s : State) n, s.fen.phase ≠ .fault → 2 ≤ s.fen.on.length → (s.failAttempt n).fen.phase = .removing ∧ (s.failAttempt n).fen.on =
    s.fen.on.dropLast ∧ (s.failAttempt n).fen.failed = n ∧ (s.failAttempt n).fen.after = (if s.fld F.FEN_PWR_SEQ_retries < n then .fault else
    .retry) ∧ (s.failAttempt n).mode = .reset) ∧
(∀ s, s.fen.vdd = true → s.fen.phase = .removing → 2 ≤ s.fen.on.length → exec .railRemoveDelayExpire s = .next { s with fen := { s.fen with on := s.fen.on.dropLast } }) ∧
(∀ s, s.fen.vdd = true → s.fen.phase = .removing → s.fen.on.length = 1 → s.fen.after = .retry → exec .railRemoveDelayExpire s = .next { s with fen := { s.fen with on := [], phase := .retryWait } }) ∧
(∀ s, s.fen.vdd = true → s.fen.phase = .removing → s.fen.on.length = 1 → s.fen.after = .stay → exec .railRemoveDelayExpire s = .next ({ s with fen := { s.fen with on := [], phase := .off } }.setFld
    F.FEN_STATUS_rails 0)) ∧
(∀ s, s.fen.vdd = true → s.fen.phase = .removing → s.fen.on.length = 1 → s.fen.after = .fault → exec .railRemoveDelayExpire s = .next ({ s with fen := { s.fen with on := [] } }.latchFault
    1)) ∧
(∀ s, s.fen.vdd = true → s.fen.phase ≠ .removing → exec .railRemoveDelayExpire s = .next s) ∧
(∀ s, s.fen.vdd = true → s.fen.phase = .retryWait → exec .seqRetryWaitExpire s = .next s.startSequence) ∧
(∀ s, s.fen.vdd = true → s.fen.phase ≠ .retryWait → exec .seqRetryWaitExpire s = .next s) ∧
(∀ s, s.fen.vdd = true → s.mode ≠ .reset → ∃ t, exec .fenVddLoss s = .next t ∧ t.mode = .reset ∧ t.kept = {} ∧ t.gate = ({} : Gate) ∧ t.fuses =
    s.fuses ∧ t.area = s.area ∧ t.nor.bytes = s.nor.bytes ∧ t.pending = s.pending ∧ t.part = s.part ∧ t.csr = [] ∧ t.fen = { vdd := false }) ∧
(∀ s mv twinId r l, s.fen.vdd = false → s.nor.counters = r :: l → mv < 2 ^ 16 → ∃ t, exec (.fenVddRise mv twinId none) s = .next t ∧ t.fen.vdd =
    true ∧ t.fen.trigger = true ∧ t.fen.inputGood = false ∧ t.fen.on = [] ∧ t.fen.phase = .off ∧ t.fen.twinId = twinId ∧ t.bit
    F.FEN_STATUS_cnt_restored = true ∧ t.fld F.FEN_HOURS_count = r.hours % 2 ^ 32 ∧ t.fld F.FEN_CYCLES_count = r.cycles % 2 ^ 32 ∧ t.fld
    (F.FEN_MONn_VAL_mv 1) = mv ∧ t.mode = s.mode ∧ t.kept = s.kept ∧ t.fuses = s.fuses ∧ t.nor = s.nor) ∧
(∀ s mv twinId fitted, s.fen.vdd = true → exec (.fenVddRise mv twinId fitted) s = .next s)

/-- Core voltage and the battery (R282 to R284, R293 to R298): the target is v_cold below -20 °C and v_hot above 85 °C, and the voltage
moves by at most 5 mV to it; ten checks off the target hold it; a sample sets the channels and counts those in a row beyond a threshold,
sets the pack's current from the shunt and whether it charges, and moves the charge by what the shunt integrated, held at most at 99 %; an
OCV reset at rest takes the charge from the pack voltage behind its divider, and a taper of the charging current sets it to 100 %; a low
charge rate is noted only at rest; SB0 takes over at the third missed answer, and a pack that answers on neither bus is lost; three
challenges without a valid answer, a wrong signature, or a pack-key record that fails its digest, fail the authentication, and without it
the energy is 0. Rows that complete here with their own effect, for every state and operands that meet the hypotheses: VCORE_STEP,
VCORE_CHECK, FEN_SAMPLE, SOC_OCV_RESET, FEN_BAT_FULL, BAT_RATE_LOW, BAT_RATE_HIGH, BAT_READ, BAT_AUTH_START, BAT_AUTH_READ, BAT_AUTH_RETRY.
-/
def Obligations.CoreVoltageAndBattery : Prop :=
(∀ (s : State) (tj : Int), (tj ≤ -20 → s.vTarget tj = s.fld F.FEN_VCORE_CFG_v_cold) ∧ (85 ≤ tj → s.vTarget tj = s.fld F.FEN_VCORE_CFG_v_hot) ∧
    (-20 < tj → tj < 85 → 5 ∣ s.vTarget tj)) ∧
(∀ s tj, s.fen.vdd = true → s.coreOn = true → s.fen.vFault = false → (tj - s.fen.tj).natAbs < 2 → exec (.vcoreStep tj) s = .next ((s.setFld
    F.FEN_VCORE_STAT_tj (ofSigned 8 tj)).setFld F.FEN_VCORE_STAT_set_mv (if s.fld F.FEN_VCORE_STAT_set_mv < s.vTarget s.fen.tj then Nat.min
    (s.vTarget s.fen.tj) (s.fld F.FEN_VCORE_STAT_set_mv + 5) else Nat.max (s.vTarget s.fen.tj) (s.fld F.FEN_VCORE_STAT_set_mv - 5)))) ∧
(∀ s tj, s.fen.vdd = true → s.coreOn = true → s.fen.vFault = false → 2 ≤ (tj - s.fen.tj).natAbs → exec (.vcoreStep tj) s = .next ({ s.setFld F.FEN_VCORE_STAT_tj (ofSigned 8 tj) with fen := { s.fen with tj := tj } }.setFld
    F.FEN_VCORE_STAT_set_mv (if s.fld F.FEN_VCORE_STAT_set_mv < s.vTarget tj then Nat.min (s.vTarget tj) (s.fld F.FEN_VCORE_STAT_set_mv + 5) else
    Nat.max (s.vTarget tj) (s.fld F.FEN_VCORE_STAT_set_mv - 5)))) ∧
(∀ s tj, s.fen.vdd = true → (s.coreOn = false ∨ s.fen.vFault = true) → (tj - s.fen.tj).natAbs < 2 → exec (.vcoreStep tj) s = .next (s.setFld
    F.FEN_VCORE_STAT_tj (ofSigned 8 tj))) ∧
(∀ s mv, s.fen.vdd = true → s.coreOn = true → mv ≤ s.fld F.FEN_VCORE_STAT_set_mv + 15 → s.fld F.FEN_VCORE_STAT_set_mv ≤ mv + 15 → exec
    (.vcoreCheck mv true) s = .next { s.setFld F.FEN_VCORE_STAT_meas_mv mv with fen := { s.fen with off := 0 } }) ∧
(∀ s mv answered, s.fen.vdd = true → s.coreOn = true → s.fen.vFault = false → s.fen.off = 9 → s.fld F.FEN_VCORE_STAT_set_mv + 15 < mv → exec
    (.vcoreCheck mv answered) s = .next ({ s.setFld F.FEN_VCORE_STAT_meas_mv mv with fen := { s.fen with off := 10, vFault := true } }.raise
    Ev.FEN_VCORE_FAULT)) ∧
(∀ s mv answered, s.fen.vdd = true → s.coreOn = false → exec (.vcoreCheck mv answered) s = .next s) ∧
(∀ s amon nvs uv, s.fen.vdd = true → ∃ t, exec (.fenSample amon nvs uv) s = .next t ∧ t.fen.pack.current = (uv * 10).tdiv (s.fld
    F.FEN_BAT_CFG_shunt) ∧ t.fld F.FEN_BAT_E_i_10ma = ofSigned 16 (t.fen.pack.current.tdiv 10) % 2 ^ 16 ∧ t.bit F.FEN_BAT_STAT_charging = decide
    ((s.fld F.FEN_BAT_CFG_rest_ma : Int) < t.fen.pack.current) ∧ t = { s with csr := t.csr, fen := t.fen } ∧ t.fen.on = s.fen.on ∧ t.fen.phase =
    s.fen.phase ∧ (s.fen.pack.fcc = 0 → t.fen.pack.soc = s.fen.pack.soc) ∧ t.fen.pack.soc ≤ Nat.max 9900 s.fen.pack.soc ∧ t.fen.inputGood =
    (s.fen.inputGood && !(amon.any (fun (p : Fin 16 × Nat) => decide (p.1.val = 0 ∧ p.2 ≤ s.fld F.FEN_PF_CFG_thr_mv + 20))))) ∧
(∀ (s : State) q, 0 < s.fen.pack.fcc → (s.coulombs q).fen.pack.soc ≤ 9900 ∧ ((s.coulombs q).fen.pack.soc : Int) = max 0 (min 9900
    ((s.fen.pack.soc : Int) + (s.fen.pack.rest + q * 100000).fdiv (s.fen.pack.fcc * 3600000 * s.fld F.FEN_BAT_CFG_shunt))) ∧ (s.coulombs q).fld
    F.FEN_BAT_STAT_soc = (s.coulombs q).fen.pack.soc / 100) ∧
(∀ (s : State) ch mv, ch < 16 → (s.sampleMon ch mv).fld (F.FEN_MONn_VAL_mv ch) = Nat.min 1200 mv ∧ alGetD (s.sampleMon ch mv).fen.beyond ch 0 =
    (if Nat.min 1200 mv ≤ s.fld (F.FEN_MONn_CFG_hi_mv ch) ∧ s.fld (F.FEN_MONn_CFG_lo_mv ch) ≤ Nat.min 1200 mv then 0 else alGetD s.fen.beyond ch
    0 + 1) ∧ (s.bit (F.FEN_MONn_CFG_tripped ch) = false → s.sampleMon ch mv = { s.setFld (F.FEN_MONn_VAL_mv ch) (Nat.min 1200 mv) with fen := { s.fen with beyond := (s.sampleMon ch mv).fen.beyond } })) ∧
(∀ s, s.fen.vdd = true → s.atRest = true → exec .socOcvReset s = .next (s.socFrom (s.fld (F.FEN_MONn_VAL_mv 1) * s.fld F.FEN_BAT_CFG_vdiv))) ∧
(∀ s, s.fen.vdd = true → s.atRest = false → exec .socOcvReset s = .next s) ∧
(∀ s, s.fen.vdd = true → s.tapers = false → exec .fenBatFull s = .next s) ∧
(∀ (s : State) mv c, ocv (Config.roundsUp s.free) s.fen.pack.ocv mv = some c → c ≤ 10000 → (s.socFrom mv).fen.pack.soc = c ∧ (s.socFrom mv).fld
    F.FEN_BAT_STAT_soc = c / 100) ∧
(∀ s, s.fen.vdd = true → s.tapers = true → exec .fenBatFull s = .next ((s.setSoc 10000).raise Ev.FEN_BAT_FULL)) ∧
(∀ s, s.fen.vdd = true → s.fen.pack.current.natAbs < s.fld F.FEN_BAT_CFG_rest_ma → exec .batRateLow s = .next (s.setBit F.FEN_STATUS_rate_low
    true)) ∧
(∀ s, s.fen.vdd = true → s.fld F.FEN_BAT_CFG_rest_ma ≤ s.fen.pack.current.natAbs → exec .batRateLow s = .next s) ∧
(∀ s, s.fen.vdd = true → exec .batRateHigh s = .next (s.setBit F.FEN_STATUS_rate_low false)) ∧
(∀ s r sb0, s.fen.vdd = true → s.bit F.FEN_BAT_STAT_alt_bus = false → s.fld (F.SBUS_STATn_state 1) ≠ 3 → exec (.batRead (some r) sb0) s = .next
    (s.packIs r)) ∧
(∀ s sb0, s.fen.vdd = true → s.bit F.FEN_BAT_STAT_alt_bus = false → s.fld (F.SBUS_STATn_state 1) ≠ 3 → s.fen.pack.missed < 2 → exec (.batRead
    none sb0) s = .next { s with fen := { s.fen with pack := { s.fen.pack with missed := s.fen.pack.missed + 1 } } }) ∧
(∀ s r, s.fen.vdd = true → s.bit F.FEN_BAT_STAT_alt_bus = false → 2 ≤ s.fen.pack.missed → exec (.batRead none (some r)) s = .next (({ s with fen := { s.fen with pack := { s.fen.pack with missed := s.fen.pack.missed + 1 } } }.setBit
    F.FEN_BAT_STAT_alt_bus true).packIs r)) ∧
(∀ s, s.fen.vdd = true → s.bit F.FEN_BAT_STAT_alt_bus = true → exec (.batRead none none) s = .next s.packLost) ∧
(∀ (s : State) r, (s.packIs r).bit F.FEN_BAT_STAT_lost = false ∧ (s.packIs r).fen = { s.fen with pack := { s.fen.pack with missed := 0, temp := r.temp, fcc := r.fcc, dc := r.dc, serial := r.serial } }
    ∧ (0 < r.dc → (s.packIs r).fld F.FEN_BAT_STAT_soh = Nat.min 100 (r.fcc * 100 / r.dc)) ∧ s.packLost.bit F.FEN_BAT_STAT_lost = true) ∧
(∀ s, s.fen.vdd = true → s.mode ≠ .reset → s.thm.fresh = true → ∃ t, exec .batAuthStart s = .next t ∧ t.fen.pack.challenge.isSome = true ∧
    t.fen.pack.tries = 1 ∧ t = { s with free := t.free, fen := { s.fen with pack := { s.fen.pack with challenge := t.fen.pack.challenge, tries := 1 } } }) ∧
(∀ s, s.fen.vdd = true → s.mode = .reset → exec .batAuthStart s = .next s) ∧
(∀ s, s.fen.vdd = true → s.fen.pack.challenge.isSome = true → exec (.batAuthRead (some true) true) s = .next ({ s with fen := { s.fen with pack := { s.fen.pack with challenge := none, tries := 0 } } }.setBit
    F.FEN_BAT_STAT_auth true)) ∧
(∀ s, s.fen.vdd = true → s.fen.pack.challenge.isSome = true → exec (.batAuthRead (some false) true) s = .next s.authFail) ∧
(∀ s k, s.fen.vdd = true → s.fen.pack.challenge.isSome = true → exec (.batAuthRead (some k) false) s = .next (s.authFail.raise Ev.NORC_REC_BAD)) ∧
(∀ s b, s.fen.vdd = true → s.fen.pack.challenge.isSome = true → exec (.batAuthRead none b) s = .next { s with fen := { s.fen with pack := { s.fen.pack with challenge := none } } }) ∧
(∀ s sigOk b, s.fen.vdd = true → s.fen.pack.challenge = none → exec (.batAuthRead sigOk b) s = .next s) ∧
(∀ s, s.fen.vdd = true → s.fen.pack.challenge = none → 3 ≤ s.fen.pack.tries → ∃ t, exec .batAuthRetry s = .next t ∧ t.bit F.FEN_BAT_STAT_auth =
    false ∧ t.fen.pack.tries = 0 ∧ (s.mode ≠ .reset → t.pended Ev.FEN_BAT_AUTH_FAIL = true) ∧ State.sameButEvents { s with fen := t.fen } t) ∧
(∀ s, s.fen.vdd = true → s.fen.pack.challenge = none → 0 < s.fen.pack.tries → s.fen.pack.tries < 3 → exec .batAuthRetry s = .next
    (s.challengePack (s.fen.pack.tries + 1))) ∧
(∀ s : State, s.bit F.FEN_BAT_STAT_auth = false → s.estimate = 0) ∧
(∀ t u : Int, t ≤ u → kTemp t ≤ kTemp u ∧ kTemp u ≤ 300)

/-- The DOZE agreement (R299, R300): doze on LEAD of a ready pair proposes, on a unit alone gives notice, and is BUSY or INVALID elsewhere;
FOLLOW accepts a proposal only while PAIRED, ready, with no latched wake, and aborts it otherwise; an acceptance starts the notice; a
proposal leaves three times; the end of the notice, or a COMMIT, commits a unit: its mode is DOZE, the outcome is 1 and its gates close
(R7); an abort, a third silence or a late COMMIT ends the agreement with its outcome. A DOZE or WAKE frame on Tack counts only where pairing
is on, its check passes and it comes of the twin: another pair's, or the unit's own, raises SEAM_PAIR_MISMATCH and a damaged one is counted
(R162, R165, R262); the claim in it is seen before what it says (R176). Rows that complete here with their own effect, for every state and
operands that meet the hypotheses: DOZE, DOZE_PROPOSE_RECEIVE, DOZE_ACCEPT_RECEIVE, DOZE_PROPOSE_RETRY, DOZE_ABORT_RECEIVE,
DOZE_COMMIT_RECEIVE, DOZE_NOTICE_EXPIRE, DOZE_COMMIT_TIMEOUT. -/
def Obligations.DozeAgreement : Prop :=
(∀ s h, s.starts h .doze → s.mode = .paired → s.fuses.life ≠ Machine.returned → s.doze.phase = .idle → s.lead = true → s.bothReady = true → exec
    (.doze h) s = .next ({ s.begun with doze := { s.begun.doze with phase := .proposed 1, cmd := some h } }.sendTack tackPropose)) ∧
(∀ s h, s.starts h .doze → s.mode = .paired → s.fuses.life ≠ Machine.returned → s.doze.phase = .idle → s.lead = true → s.bothReady = false → exec
    (.doze h) s = .next (s.begun.complete h .busy)) ∧
(∀ s h, s.starts h .doze → (s.mode = .paired ∨ s.mode = .resync) → s.fuses.life ≠ Machine.returned → s.doze.phase = .idle → s.lead = false → exec
    (.doze h) s = .next (s.begun.complete h .invalid)) ∧
(∀ s h, s.starts h .doze → s.mode = .solo → s.fuses.life ≠ Machine.returned → s.doze.phase = .idle → exec (.doze h) s = .next ({ s.begun.arm with doze := { s.begun.arm.doze with phase := .noticed, cmd := some h } }.sendNotice)) ∧
(∀ s h, s.starts h .doze → (s.fuses.life = Machine.returned ∨ s.doze.phase ≠ .idle ∨ s.mode = .restore ∨ s.mode = .bringup ∨ s.mode = .doze) →
    exec (.doze h) s = .next (s.begun.complete h .busy)) ∧
(∀ s d, s.mode = .paired → s.lead = false → s.ready = true → s.wakeLatches = 0 → s.doze.phase = .idle → s.pairEn = true → d.crcOk = true →
    s.mismatch d.pairId d.unit = false → exec (.dozeProposeReceive d) s = .next
    (let r : State := s.seeClaim d.epoch; (((r.arm.setPhase .accepted).sendTack tackAccept).sendNotice))) ∧
(∀ s d, s.runs → s.mode ≠ .doze → s.doze.phase ≠ .accepted → (s.mode ≠ .paired ∨ s.lead = true ∨ s.wakeLatches ≠ 0) → s.pairEn = true → d.crcOk =
    true → s.mismatch d.pairId d.unit = false → exec (.dozeProposeReceive d) s = .next
    (let r : State := s.seeClaim d.epoch; ((r.setFld F.FEN_DOZE_STAT_outcome 2).sendTack tackAbort))) ∧
(∀ s d, s.runs → s.mode ≠ .doze → s.doze.phase = .accepted → s.pairEn = true → d.crcOk = true → s.mismatch d.pairId d.unit = false → exec
    (.dozeProposeReceive d) s = .next (let r : State := s.seeClaim d.epoch; (r.sendTack tackAccept))) ∧
(∀ s n d, s.runs → s.doze.phase = .proposed n → s.pairEn = true → d.crcOk = true → s.mismatch d.pairId d.unit = false → exec (.dozeAcceptReceive
    d) s = .next (let r : State := s.seeClaim d.epoch; ((r.arm.setPhase .noticed).sendNotice))) ∧
(∀ s n, s.runs → s.doze.phase = .proposed n → n < 3 → exec .dozeProposeRetry s = .next ((s.setPhase (.proposed (n + 1))).sendTack tackPropose)) ∧
(∀ s n, s.runs → s.doze.phase = .proposed n → 3 ≤ n → exec .dozeProposeRetry s = .next (s.abortDoze 4 true)) ∧
(∀ s n d, s.runs → s.doze.phase = .proposed n → s.pairEn = true → d.crcOk = true → s.mismatch d.pairId d.unit = false → exec (.dozeAbortReceive
    d) s = .next (let r : State := s.seeClaim d.epoch; (r.abortDoze 2 false))) ∧
(∀ s d, s.runs → (s.doze.phase = .accepted ∨ s.doze.phase = .noticed ∨ s.doze.phase = .idle) → s.pairEn = true → d.crcOk = true → s.mismatch
    d.pairId d.unit = false → exec (.dozeAbortReceive d) s = .next (let r : State := s.seeClaim d.epoch; (r.wake .twin))) ∧
(∀ s d, s.mode ≠ .reset → s.mode ≠ .doze → s.doze.phase = .accepted → s.doze.cmd = none → s.scan = none → s.pairEn = true → d.crcOk = true →
    s.mismatch d.pairId d.unit = false → ∃ t, exec (.dozeCommitReceive d) s = .next t ∧ t.mode = .doze ∧ t.prevMode = s.mode ∧ t.doze = { s.doze with phase := .committed, mode := s.mode, e := s.fld F.FEN_BAT_E_e_est }
    ∧ t.fld F.FEN_DOZE_STAT_outcome = 1 ∧ t.pended Ev.GLB_MODE_CHANGE = true ∧ t.gates = false ∧ t.kept = s.kept ∧ t.seam = (s.seeClaim
    d.epoch).seam ∧ t.fen = s.fen ∧ t.fuses = s.fuses) ∧
(∀ (s : State) d, s.runs → s.pairEn = true → d.crcOk = true → s.mismatch d.pairId d.unit = true → exec (.dozeProposeReceive d) s = .next (s.raise
    Ev.SEAM_PAIR_MISMATCH) ∧ exec (.dozeAcceptReceive d) s = .next (s.raise Ev.SEAM_PAIR_MISMATCH) ∧ exec (.dozeCommitReceive d) s = .next
    (s.raise Ev.SEAM_PAIR_MISMATCH) ∧ exec (.dozeAbortReceive d) s = .next (s.raise Ev.SEAM_PAIR_MISMATCH) ∧ exec (.wakeReceive d) s = .next
    (s.raise Ev.SEAM_PAIR_MISMATCH)) ∧
(∀ (s : State) d, s.runs → s.pairEn = true → d.crcOk = false → exec (.dozeProposeReceive d) s = .next (s.sat F.CRC_FAIL_CNT_seam) ∧ exec
    (.dozeAcceptReceive d) s = .next (s.sat F.CRC_FAIL_CNT_seam) ∧ exec (.dozeCommitReceive d) s = .next (s.sat F.CRC_FAIL_CNT_seam) ∧ exec
    (.dozeAbortReceive d) s = .next (s.sat F.CRC_FAIL_CNT_seam) ∧ exec (.wakeReceive d) s = .next (s.sat F.CRC_FAIL_CNT_seam)) ∧
(∀ (s : State) d, s.runs → s.pairEn = false → exec (.dozeProposeReceive d) s = .next s ∧ exec (.dozeAcceptReceive d) s = .next s ∧ exec
    (.dozeCommitReceive d) s = .next s ∧ exec (.dozeAbortReceive d) s = .next s ∧ exec (.wakeReceive d) s = .next s) ∧
(∀ s, s.mode = .solo → s.doze.phase = .noticed → exec .dozeNoticeExpire s = .next s.commitDoze) ∧
(∀ s, s.mode = .paired → s.doze.phase = .noticed → exec .dozeNoticeExpire s = .next (((s.sendTack tackCommit).sendTack tackCommit).sendTack
    tackCommit).commitDoze) ∧
(∀ s, s.runs → s.doze.phase = .accepted → exec .dozeCommitTimeout s = .next (s.abortDoze 4 true)) ∧
(∀ s, s.runs → s.doze.phase ≠ .accepted → exec .dozeCommitTimeout s = .next s) ∧
(∀ s d, s.runs → s.doze.phase ≠ .accepted → s.pairEn = true → d.crcOk = true → s.mismatch d.pairId d.unit = false → exec (.dozeCommitReceive d) s
    = .next (s.seeClaim d.epoch)) ∧
(∀ s, s.runs → s.doze.phase ≠ .noticed → exec .dozeNoticeExpire s = .next s)

/-- Wakes (R284, R296, R298, R301 to R304): a source that is not armed or not enabled wakes nothing; one that is latches, and ends an
agreement with outcome 3 or starts an exit. Entry puts the ready channels in self-refresh, writes the near cache back and parks Seam; exit
returns the mode that the commit held, once the near cache's walk has ended. A packet, a doorbell that moves the head, a lost path, an
energy estimate, a monitor tripped by 4 samples in a row beyond a threshold, and a change of the pack do what their chapters say and then
wake the unit where the chapter says so; in DOZE a frame of PTP or LLDP, whose EtherTypes log entry 132 presumes, wakes nothing. Rows that
complete here with their own effect, for every state and operands that meet the hypotheses: DOZE_WAKE, WAKE_RECEIVE, FEN_DOZE_ENTER,
FEN_DOZE_EXIT, DOZE_TWIN_GRACE_END, PACKET_RECEIVE, PCIE_DOORBELL, PATH_LOST, ENERGY_ESTIMATE, MON_TRIP, BAT_PRESENCE_CHANGE. -/
def Obligations.WakesAndExit : Prop :=
(∀ s w, s.runs → (s.doze.armed = false ∨ s.wakes w = false) → exec (.dozeWake w) s = .next s) ∧
(∀ s w, s.runs → s.doze.armed = true → s.wakes w = true → (s.doze.phase = .accepted ∨ s.doze.phase = .noticed) → exec (.dozeWake w) s = .next
    ((s.latch_ w).abortDoze 3 true)) ∧
(∀ s w, s.runs → s.doze.armed = true → s.wakes w = true → (s.doze.phase = .committed ∨ s.doze.phase = .entered) → exec (.dozeWake w) s = .next
    ((s.latch_ w).beginExit)) ∧
(∀ s d, s.mode = .doze → s.pairEn = true → d.crcOk = true → s.mismatch d.pairId d.unit = false → exec (.wakeReceive d) s = .next
    (let r : State := s.seeClaim d.epoch; (r.wake .twin))) ∧
(∀ s d, s.runs → s.mode ≠ .doze → s.pairEn = true → d.crcOk = true → s.mismatch d.pairId d.unit = false → exec (.wakeReceive d) s = .next
    (s.seeClaim d.epoch)) ∧
(∀ s, s.mode = .doze → s.doze.phase = .committed → s.nc.sets = [] → s.seam.link0.up = false → s.seam.link1.up = false → ∃ t, exec .fenDozeEnter s
    = .next t ∧ t.doze = { s.doze with phase := .entered } ∧ t.nc = { s.nc with side := [] } ∧ (∀ c, c < s.part.dmcs → t.dmcState c = if
    s.dmcState c = dmcReady then dmcSelfRefresh else s.dmcState c) ∧ t.kept = s.kept ∧ t.mode = s.mode ∧ t.seam = s.seam ∧ t.fen.phase =
    s.fen.phase ∧ (∀ r ∈ t.fen.on, r ∈ s.fen.on ∧ ∀ e ∈ s.fen.table, e.rail.val = r → e.serdes = false) ∧ t.fuses = s.fuses) ∧
(∀ s, s.runs → (s.mode ≠ .doze ∨ s.doze.phase ≠ .committed) → exec .fenDozeEnter s = .next s) ∧
(∀ s, s.mode = .doze → s.doze.phase = .exiting → s.nc.walking = false → s.pairEn = false → s.doze.mode = .solo → (s.gates = true ∨ s.permitted =
    false) → s.seam.departed = true → s.twin = 2 → s.parks = [] → s.seam.fwdWait = [] → s.seam.early = [] → s.pcieHeld = [] → s.held = false →
    s.shared = [] → (∀ p ∈ s.kept.qps, p.2.msgs = []) → ∃ t, exec .fenDozeExit s = .next t ∧ t.mode = .solo ∧ t.doze.phase = .idle ∧ t.doze.armed
    = false ∧ (∀ c, c < s.part.dmcs → t.dmcState c = if s.dmcState c = dmcSelfRefresh then dmcReady else s.dmcState c) ∧ t.kept.mem = s.kept.mem
    ∧ t.fuses = s.fuses ∧ t.pended Ev.FEN_DOZE_EXIT = true) ∧
(∀ s, s.runs → (s.mode ≠ .doze ∨ s.doze.phase ≠ .exiting ∨ s.nc.walking = true) → exec .fenDozeExit s = .next s.settleShared) ∧
(∀ s, s.runs → s.doze.grace = true → exec .dozeTwinGraceEnd s = .next (State.settleShared (State.reviewTwin { s with doze := { s.doze with grace := false } }))) ∧
(∀ s, s.runs → s.doze.grace = false → exec .dozeTwinGraceEnd s = .next s.settleShared) ∧
(∀ s p, s.runs → s.mode ≠ .doze → isRequest p.op = false → exec (.packetReceive p) s = .next ((s.receive p).afterFree)) ∧
(∀ s p, s.runs → s.mode ≠ .doze → isRequest p.op = true → exec (.packetReceive p) s = .next ((s.receive p).wake (.port (Fin.ofNat 8 (portOf
    p.lport.val)))).afterFree) ∧
(∀ s p, s.mode = .doze → timeOrLldp p.etype = true → exec (.packetReceive p) s = .next ((s.receive p).afterFree)) ∧
(∀ s p, s.mode = .doze → timeOrLldp p.etype = false → exec (.packetReceive p) s = .next ((s.receive p).wake (.port (Fin.ofNat 8 (portOf
    p.lport.val)))).afterFree) ∧
(∀ s v slots, s.passes F.PCIE_CMD_DB_tail.off v → exec (.pcieDoorbell v slots) s = .next
    (let r : State := s.taken.doDoorbell v slots; if r.fld F.PCIE_STATUS_head ≠ s.taken.fld F.PCIE_STATUS_head then r.wake .pcie else r)) ∧
(∀ s path, s.runs → exec (.pathLost path) s = .next (State.settleShared (if (s.doPathLost path).twin = 2 then (s.doPathLost path).wake .twin else
    s.doPathLost path))) ∧
(∀ s, s.fen.vdd = true → s.mode = .reset → exec .energyEstimate s = .next (s.setFld F.FEN_BAT_E_e_est s.estimate)) ∧
(∀ s, s.fen.vdd = true → s.doze.armed = false → exec .energyEstimate s = .next (s.writeE s.estimate)) ∧
(∀ s c, s.fen.vdd = true → (s.bit (F.FEN_MONn_CFG_tripped c.val) = true ∨ alGetD s.fen.beyond c.val 0 < 4) → exec (.monTrip c) s = .next s) ∧
(∀ s c, s.fen.vdd = true → s.bit (F.FEN_MONn_CFG_tripped c.val) = false → 4 ≤ alGetD s.fen.beyond c.val 0 → exec (.monTrip c) s = .next ((({ s with fen := { s.fen with inside := alDel s.fen.inside c.val } }.setBit
    (F.FEN_MONn_CFG_tripped c.val) true).raise Ev.FEN_MON_TRIP c.val).wake (.monitor c))) ∧
(∀ s present, s.fen.vdd = true → s.mode ≠ .doze → exec (.batPresenceChange present) s = .next ((((s.setBit F.FEN_BAT_STAT_present present).setBit
    F.FEN_BAT_STAT_auth false).writeE 0).challengePack 1)) ∧
(∀ s present, s.fen.vdd = true → s.mode = .doze → exec (.batPresenceChange present) s = .next ((((s.setBit F.FEN_BAT_STAT_present present).setBit
    F.FEN_BAT_STAT_auth false).writeE 0).wake .energy))

/-- Channel service (R199 to R204, R209): while requests wait, a ready channel owes one more refresh of the subchannel, at most four; the
fifth finds the first made, and with no request waiting all that are due are made: it closes the open rows of the subchannel or, same-bank,
the row of a bank that the spec leaves open (log entry 127); a channel at or above 85 °C halves its interval; a bank left idle is closed; an
activate opens its row, counts where the channel throttles, and a draw whose low k bits are 0 refreshes the neighbours and leaves the bank
without an open row; an activate of a row whose counter stands at the threshold waits until the neighbours are refreshed, with the counter
at the lowest of the other fifteen, or the counters are cleared; a drift beyond 1/8 UI is reported once. A channel in self-refresh or off is
activated nowhere. A calibration changes nothing that the block shows. Training and fills (R196, R197, R207, R208, R215, R217): a go starts
a helper run; its end writes the results and frees the helper; op 4 in BRINGUP makes a fit channel READY with its geometry, serial numbers,
the rate that its DIMMs, the image and its loading allow (R399) and the marks kept, and reports one that breaks R197; at its fill the
carve-out comes to read zeros, the retirement records take effect, and a channel still in training is left OFF and raises DMC_TRAIN_FAIL
(with too few channels too, log entry 128), and waiting debug reads are made; a sweep's passing codes are of the sweep; a fill, where R204
has the fill engine active, sets one valid bit of the oldest entry that has a clear line outside the near cache. Rows that complete here
with their own effect, for every state and operands that meet the hypotheses: DRAM_REFRESH, DRAM_TEMP_READ, BANK_IDLE_PRECHARGE,
DRAM_ACTIVATE, ROW_THROTTLE_HOLD, ROW_COUNTER_CLEAR, DQS_DRIFT_CHECK, ZQ_CALIBRATE, TRN_WRITE_READ_COMPARE, TRN_READ_COMPARE, TRN_SWEEP,
TRN_RCD_LOOPBACK, TRN_SET_READY, TRN_RUN_DONE, CARVEOUT_FILL, FILL_LINE. -/
def Obligations.DramChannels : Prop :=
(∀ s c sub, s.runs → s.dmcState c.val = dmcReady → alGetD (s.dram c.val).due sub.val 0 < 4 → exec (.dramRefresh c sub true) s = .next (s.setDram
    c.val { s.dram c.val with due := alPut (s.dram c.val).due sub.val (alGetD (s.dram c.val).due sub.val 0 + 1) })) ∧
(∀ s c sub, s.runs → s.dmcState c.val = dmcReady → 4 ≤ alGetD (s.dram c.val).due sub.val 0 → s.allBank = true → exec (.dramRefresh c sub true) s
    = .next (s.setDram c.val { s.dram c.val with open_ := (s.dram c.val).open_.filter (fun (e : Nat × Nat) => e.1 / 512 != sub.val) })) ∧
(∀ s c sub, s.runs → s.dmcState c.val = dmcReady → 4 ≤ alGetD (s.dram c.val).due sub.val 0 → s.allBank = false → ∃ t, exec (.dramRefresh c sub
    true) s = .next t ∧ ∃ b, b < 512 ∧ t = State.setDram { s with free := s.free + 1 } c.val { s.dram c.val with open_ := alDel (s.dram c.val).open_ (sub.val * 512 + b) }) ∧
(∀ s c sub, s.runs → s.dmcState c.val = dmcReady → s.allBank = true → exec (.dramRefresh c sub false) s = .next (s.setDram c.val { s.dram c.val with due := alDel (s.dram c.val).due sub.val, open_ := (s.dram c.val).open_.filter (fun (e : Nat × Nat) => e.1 / 512 != sub.val) })) ∧
(∀ s c sub, s.runs → s.dmcState c.val = dmcReady → s.allBank = false → ∃ t, exec (.dramRefresh c sub false) s = .next t ∧ ∃ b, b < 512 ∧ t =
    State.setDram { s with free := s.free + 1 } c.val { s.dram c.val with due := alDel (s.dram c.val).due sub.val, open_ := alDel (s.dram c.val).open_ (sub.val * 512 + b) }) ∧
(∀ s c sub busy, s.runs → s.dmcState c.val ≠ dmcReady → exec (.dramRefresh c sub busy) s = .next s) ∧
(∀ s c temp, s.runs → exec (.dramTempRead c temp) s = .next (s.setDram c.val { s.dram c.val with hot := decide (85 ≤ temp) })) ∧
(∀ s c sub lrank bank, s.runs → exec (.bankIdlePrecharge c sub lrank bank) s = .next (s.setDram c.val { s.dram c.val with open_ := alDel (s.dram c.val).open_ (bankKey sub.val lrank.val bank.val) })) ∧
(∀ s c loc draw, s.runs → s.dmcState c.val ≠ dmcSelfRefresh → s.dmcState c.val ≠ dmcOff → s.throttles c.val = false → s.fld
    (F.DMC_PAGE_CFG_idle_clk c.val) ≠ 0 → (s.bit (F.DMC_RH_CFG_pnr_en c.val) = false ∨ draw % 2 ^ s.fld (F.DMC_RH_CFG_k c.val) ≠ 0) → exec
    (.dramActivate c loc draw) s = .next (s.setDram c.val { s.dram c.val with open_ := alPut (s.dram c.val).open_ (locKey loc) loc.row.toNat })) ∧
(∀ s c loc draw, s.runs → s.dmcState c.val ≠ dmcSelfRefresh → s.dmcState c.val ≠ dmcOff → s.throttles c.val = true → alGetD (alGetD (s.dram
    c.val).counters (locKey loc) []) loc.row.toNat 0 < s.fld (F.DMC_RH_CFG_thr_acts c.val) → s.fld (F.DMC_PAGE_CFG_idle_clk c.val) ≠ 0 → s.bit
    (F.DMC_RH_CFG_pnr_en c.val) = true → draw % 2 ^ s.fld (F.DMC_RH_CFG_k c.val) = 0 → exec (.dramActivate c loc draw) s = .next ((s.setDram
    c.val { s.dram c.val with open_ := alPut (s.dram c.val).open_ (locKey loc) loc.row.toNat, counters := alPut (s.dram c.val).counters (locKey loc) (countRow (alGetD (s.dram c.val).counters (locKey loc) []) loc.row.toNat) }).refreshNeighbours
    c.val (locKey loc))) ∧
(∀ s c loc draw, s.runs → s.dmcState c.val ≠ dmcSelfRefresh → s.dmcState c.val ≠ dmcOff → s.throttles c.val = true → s.fld (F.DMC_RH_CFG_thr_acts
    c.val) ≤ alGetD (alGetD (s.dram c.val).counters (locKey loc) []) loc.row.toNat 0 → exec (.dramActivate c loc draw) s = .next ((s.setDram
    c.val { s.dram c.val with held := (s.dram c.val).held ++ [(loc, draw)] }).sat (F.DMC_RH_STAT_holds c.val))) ∧
(∀ s c loc draw, s.runs → (s.dmcState c.val = dmcSelfRefresh ∨ s.dmcState c.val = dmcOff) → exec (.dramActivate c loc draw) s = .next s) ∧
(∀ (s : State) c k, alGet ((s.refreshNeighbours c k).dram c).open_ k = none ∧ (s.refreshNeighbours c k).fld (F.DMC_RH_STAT_nrefs c) = (s.fld
    (F.DMC_RH_STAT_nrefs c) + 1) % 2 ^ 16) ∧
(∀ l row n, alGet l row = some n → countRow l row = alPut l row (n + 1)) ∧
(∀ s c loc low, s.runs → s.throttles c.val = true → s.fld (F.DMC_RH_CFG_thr_acts c.val) ≤ alGetD (alGetD (s.dram c.val).counters (locKey loc) [])
    loc.row.toNat 0 → (alDel (alGetD (s.dram c.val).counters (locKey loc) []) loc.row.toNat).length = 15 → (lowest (alDel (alGetD (s.dram
    c.val).counters (locKey loc) []) loc.row.toNat)).map (·.2) = some low → exec (.rowThrottleHold c loc) s = .next (((s.setDram c.val { s.dram c.val with counters := alPut (s.dram c.val).counters (locKey loc) (alPut (alGetD (s.dram c.val).counters (locKey loc) []) loc.row.toNat low) }).refreshNeighbours
    c.val (locKey loc)).releaseHeld c.val (fun (x : BurstLoc) => locKey x == locKey loc && x.row == loc.row))) ∧
(∀ s c loc, s.runs → (s.throttles c.val = false ∨ alGetD (alGetD (s.dram c.val).counters (locKey loc) []) loc.row.toNat 0 < s.fld
    (F.DMC_RH_CFG_thr_acts c.val)) → exec (.rowThrottleHold c loc) s = .next (s.releaseHeld c.val (fun (x : BurstLoc) => locKey x == locKey loc
    && x.row == loc.row))) ∧
(∀ s c, s.runs → exec (.rowCounterClear c) s = .next (State.releaseHeld (s.setDram c.val { s.dram c.val with counters := [] }) c.val (fun _ =>
    true))) ∧
(∀ (s : State) c p loc draw, (s.dram c).held = [(loc, draw)] → s.releaseHeld c p = if p loc then (s.setDram c { s.dram c with held := [] }).doActivate
    c loc draw else s.setDram c { s.dram c with held := [(loc, draw)] }) ∧
(∀ s c sub device d, s.runs → 8 < d.natAbs → (alGetD (s.dram c.val).drift (sub.val * 10 + device.val) 0).natAbs ≤ 8 → exec (.dqsDriftCheck c
    [(sub, device, d)]) s = .next ((s.setDram c.val { s.dram c.val with drift := alPut (s.dram c.val).drift (sub.val * 10 + device.val) d }).raise
    (Ev.DMC_DRIFT (Fin.ofNat 16 c.val)))) ∧
(∀ s c sub device d, s.runs → (d.natAbs ≤ 8 ∨ 8 < (alGetD (s.dram c.val).drift (sub.val * 10 + device.val) 0).natAbs) → exec (.dqsDriftCheck c
    [(sub, device, d)]) s = .next (s.setDram c.val { s.dram c.val with drift := alPut (s.dram c.val).drift (sub.val * 10 + device.val) d })) ∧
(∀ s c, s.runs → exec (.zqCalibrate c) s = .next s) ∧
(∀ s c v, s.passes (trnOff c.val) v → v.getLsbD 31 = true → bitsOf v 29 27 = 0 → c.val < s.part.dmcs → s.bit (F.DMC_TRN_CTRL_busy c.val) = false
    → ∃ t, exec (.trnWriteReadCompare c v) s = .next t ∧ (t.dram c.val).run = some 0 ∧ t.bit (F.DMC_TRN_CTRL_busy c.val) = true ∧ t.dmcState
    c.val = (if s.dmcState c.val = dmcOff then dmcTraining else s.dmcState c.val) ∧ t.fld (F.DMC_TRN_CTRL_count c.val) = Nat.max 1 (bitsOf v 15
    8) ∧ t.kept = s.kept ∧ t.mode = s.mode ∧ s.regsKept t [(F.DMC_TRN_CTRL_op c.val).off, (F.DMC_STATUS_state c.val).off] ∧ t = { s.taken with csr := t.csr, gate := t.gate, drams := t.drams }) ∧
(∀ s c v, s.passes (trnOff c.val) v → v.getLsbD 31 = true → bitsOf v 29 27 = 1 → c.val < s.part.dmcs → s.bit (F.DMC_TRN_CTRL_busy c.val) = false
    → ∃ t, exec (.trnReadCompare c v) s = .next t ∧ (t.dram c.val).run = some 1 ∧ t.bit (F.DMC_TRN_CTRL_busy c.val) = true ∧ t.dmcState c.val =
    (if s.dmcState c.val = dmcOff then dmcTraining else s.dmcState c.val) ∧ t.fld (F.DMC_TRN_CTRL_count c.val) = Nat.max 1 (bitsOf v 15 8) ∧
    t.kept = s.kept ∧ t.mode = s.mode ∧ s.regsKept t [(F.DMC_TRN_CTRL_op c.val).off, (F.DMC_STATUS_state c.val).off] ∧ t = { s.taken with csr := t.csr, gate := t.gate, drams := t.drams }) ∧
(∀ s c v, s.passes (trnOff c.val) v → v.getLsbD 31 = true → bitsOf v 29 27 = 2 → c.val < s.part.dmcs → s.bit (F.DMC_TRN_CTRL_busy c.val) = false
    → ∃ t, exec (.trnSweep c v) s = .next t ∧ (t.dram c.val).run = some 2 ∧ t.bit (F.DMC_TRN_CTRL_busy c.val) = true ∧ t.dmcState c.val = (if
    s.dmcState c.val = dmcOff then dmcTraining else s.dmcState c.val) ∧ t.fld (F.DMC_TRN_CTRL_count c.val) = Nat.max 1 (bitsOf v 15 8) ∧ t.kept =
    s.kept ∧ t.mode = s.mode ∧ s.regsKept t [(F.DMC_TRN_CTRL_op c.val).off, (F.DMC_STATUS_state c.val).off] ∧ t = { s.taken with csr := t.csr, gate := t.gate, drams := t.drams }) ∧
(∀ s c v, s.passes (trnOff c.val) v → v.getLsbD 31 = true → bitsOf v 29 27 = 3 → c.val < s.part.dmcs → s.bit (F.DMC_TRN_CTRL_busy c.val) = false
    → ∃ t, exec (.trnRcdLoopback c v) s = .next t ∧ (t.dram c.val).run = some 3 ∧ t.bit (F.DMC_TRN_CTRL_busy c.val) = true ∧ t.dmcState c.val =
    (if s.dmcState c.val = dmcOff then dmcTraining else s.dmcState c.val) ∧ t.fld (F.DMC_TRN_CTRL_count c.val) = Nat.max 1 (bitsOf v 15 8) ∧
    t.kept = s.kept ∧ t.mode = s.mode ∧ s.regsKept t [(F.DMC_TRN_CTRL_op c.val).off, (F.DMC_STATUS_state c.val).off] ∧ t = { s.taken with csr := t.csr, gate := t.gate, drams := t.drams }) ∧
(∀ s c v pop d, s.passes (trnOff c.val) v → s.mode = .bringup → s.boot.filled = false → c.val < s.part.dmcs → s.bit (F.DMC_TRN_CTRL_busy c.val) =
    false → v.getLsbD 31 = true → bitsOf v 29 27 = 4 → pop.slot0 = some d → popOk pop = true → ∃ t, exec (.trnSetReady c v pop) s = .next t ∧
    t.dmcState c.val = dmcReady ∧ alGet t.pops c.val = some (popOf pop d) ∧ alGet t.serials (c.val * 2) = some d.serial ∧ (∀ e, pop.slot1 = some
    e → alGet t.serials (c.val * 2 + 1) = some e.serial) ∧ t.fld (F.DMC_STATUS_rate c.val) = s.channelRate c.val pop d ∧ t.fld
    (F.DMC_STATUS_mark0 c.val) = s.keptMark pop 0 % 16 ∧ t.fld (F.DMC_STATUS_mark1 c.val) = s.keptMark pop 1 % 16 ∧ t.dram c.val = { directed := d.directedRm, spd := some pop }
    ∧ t.kept = s.kept ∧ t.mode = s.mode ∧ t.fuses = s.fuses) ∧
(∀ s c v pop, s.passes (trnOff c.val) v → s.mode = .bringup → s.boot.filled = false → c.val < s.part.dmcs → s.bit (F.DMC_TRN_CTRL_busy c.val) =
    false → v.getLsbD 31 = true → bitsOf v 29 27 = 4 → (pop.slot0 ≠ none ∨ pop.slot1 ≠ none) → popOk pop = false → ∃ t, exec (.trnSetReady c v
    pop) s = .next t ∧ t.dmcState c.val = dmcOff ∧ t.bit (F.DMC_STATUS_dimm0 c.val) = false ∧ t.bit (F.DMC_STATUS_dimm1 c.val) = false ∧ t.pended
    (Ev.DMC_POP_BAD (Fin.ofNat 16 c.val)) = true ∧ t.pops = alDel s.pops c.val ∧ t.serials = alDel (alDel s.serials (c.val * 2)) (c.val * 2 + 1)
    ∧ t.kept = s.kept ∧ t.mode = s.mode) ∧
(∀ (s : State) c p d, (∀ i, s.nor.copy (s.bit F.NORC_BOOT_copy) = some i → ∀ e ∈ i.ddr, e.chan.val ≠ c) → s.channelRate c p d = 0) ∧
(∀ (s : State) c p d i e, s.nor.copy (s.bit F.NORC_BOOT_copy) = some i → i.ddr = [e] → e.chan.val = c → s.channelRate c p d ≤ rateCode d.rate ∧
    s.channelRate c p d ≤ loadingRate (if p.slot1.isSome then 2 else 1) e.trace e.spacing ∧ (∀ r, e.rate = some r → s.channelRate c p d ≤ r.val)) ∧
(loadingRate 1 150 0 = 4 ∧ loadingRate 2 125 10 = 4 ∧ loadingRate 2 125 11 = 2 ∧ loadingRate 2 175 99 = 2 ∧ loadingRate 2 176 0 = 0) ∧
(∀ s c lanes, s.runs → (s.dram c.val).run = none → exec (.trnRunDone c lanes) s = .next s) ∧
(∀ s c lanes op, s.runs → (s.dram c.val).run = some op → op ≠ 2 → ∃ t, exec (.trnRunDone c lanes) s = .next t ∧ (t.dram c.val).run = none ∧ t.bit
    (F.DMC_TRN_CTRL_busy c.val) = false ∧ (∀ i, i < 40 → t.fld (F.DMC_TRN_RESn_fails c.val i) = Nat.min 4095 (Nat.min (s.fld
    (F.DMC_TRN_CTRL_count c.val) * 16) ((lanes.getD i []).getD 0 0))) ∧ (∀ i, i < 40 → t.fld (F.DMC_TRN_RESn_first c.val i) = s.fld
    (F.DMC_TRN_RESn_first c.val i) ∧ t.fld (F.DMC_TRN_RESn_last c.val i) = s.fld (F.DMC_TRN_RESn_last c.val i)) ∧ t = { s with csr := t.csr, drams := t.drams }) ∧
(∀ s c lanes, s.runs → (s.dram c.val).run = some 2 → ∃ t, exec (.trnRunDone c lanes) s = .next t ∧ (t.dram c.val).run = none ∧ t.bit
    (F.DMC_TRN_CTRL_busy c.val) = false ∧ (∀ i k x, i < 40 → (s.sweepCodes c.val)[k]? = some x → (lanes.getD i []).getD k 0 = 0 → t.fld
    (F.DMC_TRN_RESn_first c.val i) ≤ x ∧ x ≤ t.fld (F.DMC_TRN_RESn_last c.val i)) ∧ (∀ i x, i < 40 → x = t.fld (F.DMC_TRN_RESn_first c.val i) ∨ x
    = t.fld (F.DMC_TRN_RESn_last c.val i) → t.fld (F.DMC_TRN_RESn_first c.val i) ≤ t.fld (F.DMC_TRN_RESn_last c.val i) → x ∈ s.sweepCodes c.val)
    ∧ t = { s with csr := t.csr, drams := t.drams }) ∧
(∀ s, s.mode = .bringup → s.boot.ran = true → s.boot.filled = false → s.boot.reads = [] → 2 ≤ s.pops.length → 524288 ≤ s.framesFound → Memory.wf
    s.kept.mem = true → ∃ t, exec .carveoutFill s = .next t ∧ t.boot = { s.boot with filled := true } ∧ (∀ a, memRead t.kept.mem a = if carveBase
    ≤ a ∧ a < carveEnd then 0 else memRead s.kept.mem a) ∧ Memory.wf t.kept.mem = true ∧ t.kept.tiles = s.kept.tiles ∧ t.mode = s.mode ∧ (∀ c, c
    < s.part.dmcs → t.dmcState c = if s.dmcState c = dmcTraining then dmcOff else s.dmcState c) ∧ t.retFrames = s.applyRecs.retFrames ∧
    t.retBanks = s.applyRecs.retBanks) ∧
(∀ s, s.mode = .bringup → s.boot.ran = true → s.boot.filled = false → s.boot.reads = [] → (s.pops.length < 2 ∨ s.framesFound < 524288) → ∃ t,
    exec .carveoutFill s = .next t ∧ t.boot = s.boot ∧ t.kept = s.kept ∧ t.moved = s.moved ∧ t.mode = s.mode ∧ (∀ c, c < s.part.dmcs → t.dmcState
    c = if s.dmcState c = dmcTraining then dmcOff else s.dmcState c) ∧ (∀ c, c < s.part.dmcs → s.dmcState c = dmcTraining → t.pended
    (Ev.DMC_TRAIN_FAIL (Fin.ofNat 16 c)) = true)) ∧
(∀ s, s.runs → (s.mode ≠ .bringup ∨ s.boot.ran = false ∨ s.boot.filled = true) → exec .carveoutFill s = .next s.releaseReads) ∧
(∀ (s : State) a, s.boot.reads = [a] → s.releaseReads = if s.tapWaits a then s else State.tapRead { s with boot := { s.boot with reads := [] } }
    a) ∧
(∀ s tile l bits, s.runs → s.fills = true → s.kept.freshAge.find? (fun u => (s.clearLineOf u).isSome) = some tile → s.clearLineOf tile = some l →
    alGet s.kept.freshTab tile = some bits → (setAdd bits l).length ≠ 256 → exec .fillLine s = .next { s with kept := { s.kept with freshTab := alPut s.kept.freshTab tile (setAdd bits l) } }.afterFree) ∧
(∀ s tile l bits, s.runs → s.fills = true → s.kept.freshAge.find? (fun u => (s.clearLineOf u).isSome) = some tile → s.clearLineOf tile = some l →
    alGet s.kept.freshTab tile = some bits → (setAdd bits l).length = 256 → exec .fillLine s = .next (s.freeFresh tile).afterFree) ∧
(∀ s, s.runs → (s.fills = false ∨ s.kept.freshAge.find? (fun u => (s.clearLineOf u).isSome) = none) → exec .fillLine s = .next s.afterFree)

/-- The code of a burst (R210, R211): the two check symbols of eight data symbols make both syndromes 0; symbol d of codeword j is what
device d drives on beats 2j and 2j + 1 (the order of its bits is the model's, log entry 172); a codeword with both syndromes 0 reads as
clean; one wrong symbol of a codeword is located at its device, whatever the symbol and the error; a burst whose codewords all locate one
device, with no device marked, is corrected there, and errors on two devices are uncorrectable. With device m marked, errors on m are
rebuilt and an error elsewhere is uncorrectable. -/
def Obligations.BurstCode : Prop :=
(∀ d : List Byte, d.length = 8 → rsSyndrome 0 0 (d ++ rsChecks d) = 0 ∧ rsSyndrome 1 0 (d ++ rsChecks d) = 0) ∧
(∀ (b : Beats) j d, j < 8 → d < 10 → (burstWords b).length = 8 ∧ (((burstWords b).getD j []).getD d 0).toNat = (b.getD (2 * j) 0).toNat / 16 ^ d
    % 16 + 16 * ((b.getD (2 * j + 1) 0).toNat / 16 ^ d % 16)) ∧
(∀ (w : List Byte) i (b : Byte), w.length = 10 → rsSyndrome 0 0 w = 0 → rsSyndrome 1 0 w = 0 → i < 10 → b ≠ w.getD i 0 → rsLocate w = .clean ∧
    rsLocate (w.set i b) = .at_ i) ∧
(∀ (ws : List (List Byte)) d, ws ≠ [] → (∀ w ∈ ws, rsLocate w = .at_ d) → decodeBurst none ws = .corrected d ∧ (∀ m, decodeBurst (some m) ws = if
    m = d then .rebuilt else .bad)) ∧
(∀ (ws : List (List Byte)) mark, (∀ w ∈ ws, rsLocate w = .clean) → decodeBurst mark ws = .clean) ∧
(∀ (ws : List (List Byte)) v w d e mark, v ∈ ws → w ∈ ws → rsLocate v = .at_ d → rsLocate w = .at_ e → d ≠ e → decodeBurst mark ws = .bad)

/-- Errors (R198, R204, R211 to R213, R218 to R220): a burst of a line lies at the offset that its row, column and subchannel give; a clean
burst changes nothing but its sample; a correctable one counts and raises DMC_CE, and no memory changes; an uncorrectable one of a line not
yet poisoned counts, raises DMC_UE, and an engine's or the walker's read poisons the line, a core's fetch traps and its data read is a bus
error; of a poisoned line nothing is counted. A channel reads for the save engine alone in SAVE. Patrol scrub reads only in its modes and no
retired frame, and a scrubbed line's error is met in the same way; the last line of its pass counts the pass. Rows that complete here with
their own effect, for every state and operands that meet the hypotheses: DRAM_READ_COMPLETE, SCRUB_READ. -/
def Obligations.ErrorsAreMet : Prop :=
(∀ (s : State) line k c loc, s.burstOf line k = some (c, loc) → burstOff loc / 256 = line % 256 ∧ loc.subch.val = k % 2 ∧ loc.column.toNat / 2 =
    line % 64 ∧ loc.column.toNat % 2 = k / 2 % 2 ∧ loc.row.toNat % 4 = line % 256 / 64) ∧
(∀ s c loc beats who ns, s.runs → s.dmcState c.val = dmcReady → (s.mode ≠ .save ∨ who = .saveEngine) → inArray who = false → decodeBurst
    (s.markOf c.val loc.subch.val) (burstWords beats) = .clean → exec (.dramReadComplete c loc beats who ns) s = .next (s.sample 6 (some c.val)
    ns)) ∧
(∀ s c loc beats who ns d, s.runs → s.dmcState c.val = dmcReady → (s.mode ≠ .save ∨ who = .saveEngine) → inArray who = false → decodeBurst
    (s.markOf c.val loc.subch.val) (burstWords beats) = .corrected d → ∃ t, exec (.dramReadComplete c loc beats who ns) s = .next t ∧ t =
    (s.sample 6 (some c.val) ns).correctable c.val loc d ∧ t.kept.mem = s.kept.mem ∧ t.kept.poison = s.kept.poison ∧ t.kept.tiles = s.kept.tiles
    ∧ t.mode = s.mode ∧ t.fuses = s.fuses) ∧
(∀ s c loc beats who ns l, s.runs → s.dmcState c.val = dmcReady → s.mode ≠ .save → (who = .walker ∨ who = .engineRead ∨ who = .partialMerge ∨ who
    = .saveEngine) → decodeBurst (s.markOf c.val loc.subch.val) (burstWords beats) = .bad → s.lineAt c.val loc = some l → l ∉ s.kept.poison → ∃
    t, exec (.dramReadComplete c loc beats who ns) s = .next t ∧ l ∈ t.kept.poison ∧ t.kept.poison = setAdd s.kept.poison l ∧ t.kept.mem =
    s.kept.mem ∧ t.kept.tiles = s.kept.tiles ∧ t.kept.rdt = s.kept.rdt ∧ t.pended (Ev.DMC_UE (Fin.ofNat 16 c.val)) = true ∧ t.mode = s.mode ∧
    t.fuses = s.fuses ∧ t.nor = s.nor ∧ t.drams = s.drams) ∧
(∀ s c loc beats p ns l, s.runs → s.dmcState c.val = dmcReady → s.mode ≠ .save → decodeBurst (s.markOf c.val loc.subch.val) (burstWords beats) =
    .bad → s.lineAt c.val loc = some l → l ∉ s.kept.poison → exec (.dramReadComplete c loc beats (.coreFetch p) ns) s = .next (((s.sample 6 (some
    c.val) ns).uncorrectable c.val loc).put (.coreTrap p.val))) ∧
(∀ s c loc beats p ns l, s.runs → s.dmcState c.val = dmcReady → s.mode ≠ .save → decodeBurst (s.markOf c.val loc.subch.val) (burstWords beats) =
    .bad → s.lineAt c.val loc = some l → l ∉ s.kept.poison → exec (.dramReadComplete c loc beats (.coreData p) ns) s = .next (((s.sample 6 (some
    c.val) ns).uncorrectable c.val loc).put (.busError p.val))) ∧
(∀ s c loc beats who ns l, s.runs → s.dmcState c.val = dmcReady → s.mode ≠ .save → inArray who = false → decodeBurst (s.markOf c.val
    loc.subch.val) (burstWords beats) = .bad → s.lineAt c.val loc = some l → s.kept.poison.contains l = true → exec (.dramReadComplete c loc
    beats who ns) s = .next (s.sample 6 (some c.val) ns)) ∧
(∀ s c loc beats l ns, s.runs → exec (.dramReadComplete c loc beats (.dirtyLine l) ns) s = .next (s.poisonLine l)) ∧
(∀ s c loc beats l ns, s.runs → exec (.dramReadComplete c loc beats (.cleanLine l) ns) s = .next (s.dropLine l)) ∧
(∀ s c loc beats l ns, s.runs → s.lineDirty l = false → exec (.dramReadComplete c loc beats (.cacheTag l) ns) s = .next (((s.dropLine l).setBit
    F.NCACHE_STATUS_tag_lost true).raise Ev.NCACHE_TAG_LOST)) ∧
(∀ s c loc beats who ns, s.runs → (s.dmcState c.val ≠ dmcReady ∨ s.mode = .save) → inArray who = false → who ≠ .saveEngine → exec
    (.dramReadComplete c loc beats who ns) s = .next s) ∧
(∀ s c loc beats l, s.runs → s.lineAt c.val loc = some l → (s.bit (F.DMC_SCRUB_CFG_en c.val) = false ∨ s.scrubs = false ∨ s.dmcState c.val ≠
    dmcReady ∨ s.scrubbed l = false ∨ (s.burstFrame c.val loc).any s.isRetired = true) → exec (.scrubRead c loc beats) s = .next s) ∧
(∀ s c loc beats, s.runs → s.lineAt c.val loc = none → exec (.scrubRead c loc beats) s = .next s) ∧
(∀ s c loc beats l, s.runs → s.lineAt c.val loc = some l → s.bit (F.DMC_SCRUB_CFG_en c.val) = true → s.scrubs = true → s.dmcState c.val =
    dmcReady → s.scrubbed l = true → (s.burstFrame c.val loc).any s.isRetired = false → s.cached l = false → exec (.scrubRead c loc beats) s =
    .next
    (let r : State := s.readBurst c.val loc beats .scrubber; if r.lastScrub c.val = some l then r.wrap (F.DMC_SCRUB_STAT_passes c.val) else r))

/-- Retirement and maintenance (R221, R224, R225): retire-frame and retire-bank of something that is not fitted is INVALID, past the limits,
in which the records of DIMMs that are no longer fitted count, CAPACITY; otherwise the frame or bank is retired, DMC_RETIRE is raised and
the record waits to be programmed; every tile keeps its bytes and what a retired frame holds is queued to move. A maintenance operation
writes its register, starts unless one runs or its op is 0 or 3, and changes no byte; its end clears maint_busy and retries the lanes that
failed a check; the invalidation walk sets inv_done at its end. Rows that complete here with their own effect, for every state and operands
that meet the hypotheses: RETIRE_FRAME, RETIRE_BANK, MAINT_CLEAN, MAINT_CLEAN_INVALIDATE, NCACHE_MAINT_DONE, INV_WALK_DONE. -/
def Obligations.RetirementAndMaintenance : Prop :=
(∀ s h f, s.starts h (.retireFrame f) → frameAt s.pops f = none → exec (.retireFrame h f) s = .next (s.begun.complete h .invalid)) ∧
(∀ s h f c, s.starts h (.retireFrame f) → frameAt s.pops f = some c → f ∉ s.retFrames → 4096 ≤ s.retFrames.length + s.strayRecs true → exec
    (.retireFrame h f) s = .next (s.begun.complete h .capacity)) ∧
(∀ s h f c, s.starts h (.retireFrame f) → frameAt s.pops f = some c → f ∉ s.retFrames → s.retFrames.length + s.strayRecs true < 4096 → ∃ t, exec
    (.retireFrame h f) s = .next t ∧ t.retFrames = s.retFrames ++ [f] ∧ t.nor.appends = s.nor.appends ++ [.frame h f] ∧ t.pended (Ev.DMC_RETIRE
    (Fin.ofNat 16 c.1)) = true ∧ t.kept = s.kept ∧ t.mode = s.mode ∧ t.fuses = s.fuses ∧ (∀ u, (s.tile u).inDram = true → (s.tile u).frame = f →
    (alGet s.kept.tiles u).isSome = true → ∃ m ∈ t.tlr.queue ++ t.tlr.running, m.tile = u ∧ m.within = true)) ∧
(∀ s h c slot lrank bank p, s.starts h (.retireBank c slot lrank bank) → alGet s.pops c.val = some p → (p.slots ≤ slot ∨ p.lranks ≤ lrank ∨
    p.banks ≤ bank) → exec (.retireBank h c slot lrank bank) s = .next (s.begun.complete h .invalid)) ∧
(∀ s h c slot lrank bank p, s.starts h (.retireBank c slot lrank bank) → alGet s.pops c.val = some p → slot < p.slots → lrank < p.lranks → bank <
    p.banks → (c.val, (slot * p.lranks + lrank) * p.banks + bank) ∉ s.retBanks → s.retBanks.length + s.strayRecs false < 64 → ∃ t, exec
    (.retireBank h c slot lrank bank) s = .next t ∧ t.retBanks = s.retBanks ++ [(c.val, (slot * p.lranks + lrank) * p.banks + bank)] ∧
    t.nor.appends = s.nor.appends ++ [.bank h c.val ((slot * p.lranks + lrank) * p.banks + bank)] ∧ t.pended (Ev.DMC_RETIRE (Fin.ofNat 16 c.val))
    = true ∧ t.kept = s.kept ∧ t.mode = s.mode ∧ t.fuses = s.fuses) ∧
(∀ s v, s.passes F.NCACHE_MAINT_CTRL_go.off v → v.getLsbD 31 = true → bitsOf v 30 29 = 1 → s.bit F.NCACHE_STATUS_maint_busy = false → ∃ t, exec
    (.maintClean v) s = .next t ∧ t = (s.taken.maintScope (Nat.min 2 (bitsOf v 28 27)) (bitsOf v 19 16) (bitsOf v 15 0)).foldl State.cleanLine
    (((((s.taken.setFld F.NCACHE_MAINT_CTRL_op 1).setFld F.NCACHE_MAINT_CTRL_scope (Nat.min 2 (bitsOf v 28 27))).setFld F.NCACHE_MAINT_CTRL_way
    (bitsOf v 19 16)).setFld F.NCACHE_MAINT_CTRL_set (bitsOf v 15 0)).setBit F.NCACHE_STATUS_maint_busy true) ∧ t.bit F.NCACHE_STATUS_maint_busy
    = true ∧ t.kept.mem = s.kept.mem ∧ t.kept.poison = s.kept.poison ∧ t.mode = s.mode ∧ t.fuses = s.fuses) ∧
(∀ (s : State) l, (s.cleanLine l).lineDirty l = false ∧ (s.cleanLine l).cached l = s.cached l) ∧
(∀ s v, s.passes F.NCACHE_MAINT_CTRL_go.off v → v.getLsbD 31 = true → bitsOf v 30 29 = 2 → s.bit F.NCACHE_STATUS_maint_busy = false → ∃ t, exec
    (.maintCleanInvalidate v) s = .next t ∧ t = (s.taken.maintScope (Nat.min 2 (bitsOf v 28 27)) (bitsOf v 19 16) (bitsOf v 15 0)).foldl
    State.cleanDrop (((((s.taken.setFld F.NCACHE_MAINT_CTRL_op 2).setFld F.NCACHE_MAINT_CTRL_scope (Nat.min 2 (bitsOf v 28 27))).setFld
    F.NCACHE_MAINT_CTRL_way (bitsOf v 19 16)).setFld F.NCACHE_MAINT_CTRL_set (bitsOf v 15 0)).setBit F.NCACHE_STATUS_maint_busy true) ∧ t.bit
    F.NCACHE_STATUS_maint_busy = true ∧ t.kept.mem = s.kept.mem ∧ t.kept.poison = s.kept.poison ∧ t.mode = s.mode ∧ t.fuses = s.fuses) ∧
(∀ s v, s.passes F.NCACHE_MAINT_CTRL_go.off v → v.getLsbD 31 = true → (s.bit F.NCACHE_STATUS_maint_busy = true ∨ bitsOf v 30 29 = 0 ∨ bitsOf v 30
    29 = 3) → exec (.maintClean v) s = .next ((((s.taken.setFld F.NCACHE_MAINT_CTRL_op (bitsOf v 30 29)).setFld F.NCACHE_MAINT_CTRL_scope
    (Nat.min 2 (bitsOf v 28 27))).setFld F.NCACHE_MAINT_CTRL_way (bitsOf v 19 16)).setFld F.NCACHE_MAINT_CTRL_set (bitsOf v 15 0))) ∧
(∀ s l, s.runs → s.bit F.NCACHE_STATUS_maint_busy = true → s.parks = [] → s.seam.fwdWait = [] → s.seam.early = [] → exec (.ncacheMaintDone l) s =
    .next
    (let r : State := s.retryLanes l; { ((r.setBit F.NCACHE_STATUS_maint_busy false).setBit F.NCACHE_STATUS_maint_done true).raise Ev.NCACHE_MAINT_DONE with nc := { r.nc with freed := false } })) ∧
(∀ s l, s.runs → s.bit F.NCACHE_STATUS_maint_busy = false → exec (.ncacheMaintDone l) s = .next s) ∧
(∀ s, s.runs → s.nc.walking = true → exec .invWalkDone s = .next ({ s with nc := { s.nc with walking := false } }.setBit F.NCACHE_STATUS_inv_done
    true).releaseReads) ∧
(∀ s, s.runs → s.nc.walking = false → exec .invWalkDone s = .next s.releaseReads)

/-- Scans and contexts (R259, R260, R263 to R265, R268, R269, R272 to R274): a scan of a range that is not memory ends with outcome 4; one
that starts is busy; it ends at a poisoned line with outcome 2, else with the check value of the bytes it read, and outcome 1 where a
compared value differs. A key-slot that a domain uses is BUSY; one that takes a key pair leaves memory as it is, and what tiles of the slot
hold is recorded as encrypted with the pair it held before (the slot's value before its first key is the model's, log entry 167; that lines
come back with their pair is log entry 36); and a blob that fails a check, or whose unwrapping fails twice, is INVALID and reported; a save
in the clear is INVALID unless allowed, and one that is wrapped takes the next wrap count and returns a blob of 104 bytes that begins with
its magic; a restore, for which a wrapped blob needs the wrap key, sets the association with a packet number no lower than it was. Rows that
complete here with their own effect, for every state and operands that meet the hypotheses: SCAN_START, CRC_SCAN_DONE, KEY_SLOT,
CONTEXT_SAVE, CONTEXT_RESTORE. -/
def Obligations.ScansAndContexts : Prop :=
(∀ s v, s.passes F.CRC_SCAN_CTRL_go.off v → v.getLsbD 31 = true → (s.bit F.CRC_SCAN_CTRL_busy = true ∨ (s.fld F.CRC_SCAN_LEN_LO_len_lo + s.fld
    F.CRC_SCAN_LEN_HI_len_hi * 2 ^ 32) = 0) → exec (.scanStart v) s = .next s.taken) ∧
(∀ s v, s.passes F.CRC_SCAN_CTRL_go.off v → v.getLsbD 31 = true → s.bit F.CRC_SCAN_CTRL_busy = false → (s.fld F.CRC_SCAN_LEN_LO_len_lo + s.fld
    F.CRC_SCAN_LEN_HI_len_hi * 2 ^ 32) ≠ 0 → (2 ^ 44 < (s.fld F.CRC_SCAN_LEN_LO_len_lo + s.fld F.CRC_SCAN_LEN_HI_len_hi * 2 ^ 32) ∨ s.scanRange
    (s.fld F.CRC_SCAN_ADDR_LO_addr_lo + s.fld F.CRC_SCAN_ADDR_HI_addr_hi * 2 ^ 32) (s.fld F.CRC_SCAN_LEN_LO_len_lo + s.fld
    F.CRC_SCAN_LEN_HI_len_hi * 2 ^ 32) = false) → ∃ t, exec (.scanStart v) s = .next t ∧ t.scan = none ∧ t.fld F.CRC_SCAN_STAT_outcome = 4 ∧
    t.bit F.CRC_SCAN_STAT_done = true ∧ t.bit F.CRC_SCAN_CTRL_busy = false ∧ t.pended Ev.CRC_SCAN_DONE = true ∧ t.kept = s.kept ∧ t.mode =
    s.mode) ∧
(∀ s v, s.passes F.CRC_SCAN_CTRL_go.off v → v.getLsbD 31 = true → s.bit F.CRC_SCAN_CTRL_busy = false → (s.fld F.CRC_SCAN_LEN_LO_len_lo + s.fld
    F.CRC_SCAN_LEN_HI_len_hi * 2 ^ 32) ≠ 0 → (s.fld F.CRC_SCAN_LEN_LO_len_lo + s.fld F.CRC_SCAN_LEN_HI_len_hi * 2 ^ 32) ≤ 2 ^ 44 → s.scanRange
    (s.fld F.CRC_SCAN_ADDR_LO_addr_lo + s.fld F.CRC_SCAN_ADDR_HI_addr_hi * 2 ^ 32) (s.fld F.CRC_SCAN_LEN_LO_len_lo + s.fld
    F.CRC_SCAN_LEN_HI_len_hi * 2 ^ 32) = true → ∃ t, exec (.scanStart v) s = .next t ∧ t.scan = some (⟨(s.fld F.CRC_SCAN_ADDR_LO_addr_lo + s.fld
    F.CRC_SCAN_ADDR_HI_addr_hi * 2 ^ 32), (s.fld F.CRC_SCAN_LEN_LO_len_lo + s.fld F.CRC_SCAN_LEN_HI_len_hi * 2 ^ 32), v.getLsbD 2, v.getLsbD 1,
    v.getLsbD 0, s.pair F.CRC_SCAN_SEQ_LO_value F.CRC_SCAN_SEQ_HI_value, s.pair F.CRC_SCAN_EXP_LO_value F.CRC_SCAN_EXP_HI_value⟩ : Scan) ∧ t.bit
    F.CRC_SCAN_CTRL_busy = true ∧ t.fld F.CRC_SCAN_STAT_progress = 0 ∧ t = { s.taken with csr := t.csr, gate := t.gate, scan := t.scan }) ∧
(∀ s, s.runs → s.scan = none → exec .crcScanDone s = .next s) ∧
(∀ s x l, s.runs → s.scan = some x → (linesOf x.addr x.len).find? (fun l => s.kept.poison.contains l) = some l → exec .crcScanDone s = .next
    (let r : State := s.scanLoad x.addr (l * 256 - x.addr); (((r.setFld F.CRC_SCAN_STAT_progress ((l * 256 - x.addr) / 65536)).countScan (l * 256 - x.addr)).endScan 2 (l * 256)))) ∧
(∀ s x, s.runs → s.scan = some x → (linesOf x.addr x.len).find? (fun l => s.kept.poison.contains l) = none → ∃ t, exec .crcScanDone s = .next t ∧
    (∃ r : State, r.kept.mem = s.kept.mem ∧ t.pair F.CRC_SCAN_RES_LO_value F.CRC_SCAN_RES_HI_value = r.scanValue x % 2 ^ 64 ∧ t.fld
    F.CRC_SCAN_STAT_outcome = (if x.compare = true ∧ r.scanValue x ≠ (if x.crc64 = true then x.expect else x.expect % 2 ^ 32) then 1 else 0)) ∧
    t.scan = none ∧ t.kept.mem = s.kept.mem ∧ t.kept.poison = s.kept.poison ∧ t.mode = s.mode) ∧
(∀ s h slot b d lane, s.starts h (.keySlot slot b) → s.kept.domains.any (fun p => decide (p.2.keySlot = slot)) = true → exec (.keySlot h slot b d
    lane) s = .next (s.begun.complete h .busy)) ∧
(∀ s h slot b lane, s.starts h (.keySlot slot b) → s.kept.domains.any (fun p => decide (p.2.keySlot = slot)) = false → (b.magicOk = false ∨
    b.kind ≠ 3 ∨ b.wrapped = false ∨ b.tagOk = false ∨ b.index ≠ slot ∨ 1024 ≤ slot) → exec (.keySlot h slot b .agree lane) s = .next
    ((s.begun.complete h .invalid).raise Ev.CRYP_CTX_BAD)) ∧
(∀ s h slot b lane, s.starts h (.keySlot slot b) → s.kept.domains.any (fun p => decide (p.2.keySlot = slot)) = false → exec (.keySlot h slot b
    .retryDiffers lane) s = .next (((s.begun.dual .retryDiffers lane.val).complete h .invalid).raise Ev.CRYP_CTX_BAD)) ∧
(∀ s h slot b lane, s.starts h (.keySlot slot b) → s.mirrored = false → s.restoring = false → s.kept.domains.any (fun p => decide (p.2.keySlot =
    slot)) = false → b.magicOk = true → b.kind = 3 → b.wrapped = true → b.tagOk = true → b.index = slot → slot < 1024 → exec (.keySlot h slot b
    .agree lane) s = .next ((s.begun.installKey slot b.key).complete h .ok)) ∧
(∀ (s : State) slot k, (s.installKey slot k).kept.keySlots = alPut s.kept.keySlots slot k ∧ (s.installKey slot k).kept.mem = s.kept.mem ∧ (∀ t x,
    (t, x) ∈ s.kept.tiles → x.key ≠ slot ∨ s.slotKey slot = k → (t, x) ∈ (s.installKey slot k).kept.tiles) ∧ (∀ t x, (t, x) ∈ s.kept.tiles →
    x.key = slot → s.slotKey slot ≠ k → (t, s.rekey t (s.slotKey slot) k x) ∈ (s.installKey slot k).kept.tiles)) ∧
(∀ (s : State) t old k x l v, alGet (s.rekey t old k x).keyed l = some v → v ≠ k ∧ (alGet x.keyed l = some v ∨ (alGet x.keyed l = none ∧ v = old
    ∧ l ∈ s.storedLines t x))) ∧
(∀ s h kind i d lane, s.starts h (.contextSave kind i false) → (kind = 3 ∨ s.bit F.CRYP_CTX_CFG_clear_en = false) → exec (.contextSave h kind i
    false d lane) s = .next (s.begun.complete h .invalid)) ∧
(∀ s h kind i d lane, s.starts h (.contextSave kind i true) → (s.fuses.wrapKey ≠ .present ∨ s.context kind i = none) → exec (.contextSave h kind
    i true d lane) s = .next (s.begun.complete h .invalid)) ∧
(∀ s h kind i lane k salt ssci pn, s.starts h (.contextSave kind i true) → s.fuses.wrapKey = .present → s.context kind i = some (k, salt, ssci,
    pn) → exec (.contextSave h kind i true .agree lane) s = .next (s.begun.countWrap.complete h .ok (s.begun.countWrap.blobOf kind i true k salt
    ssci pn))) ∧
(∀ root kind i w p c k salt ssci pn, (blobBytes root kind i w p c k salt ssci pn).length = 104 ∧ (blobBytes root kind i w p c k salt ssci
    pn).take 4 = [0x4B#8, 0x42#8, 0x43#8, 0x58#8]) ∧
(∀ s h b d lane, s.starts h (.contextRestore b) → b.wrapped = false → (b.kind = 3 ∨ s.bit F.CRYP_CTX_CFG_clear_en = false) → exec
    (.contextRestore h b d lane) s = .next (s.begun.complete h .invalid)) ∧
(∀ s h b lane, s.starts h (.contextRestore b) → b.wrapped = true → (b.magicOk = false ∨ s.assocValid b.kind b.index = false ∨ b.tagOk = false ∨
    s.fuses.wrapKey ≠ .present) → exec (.contextRestore h b .agree lane) s = .next ((s.begun.complete h .invalid).raise Ev.CRYP_CTX_BAD)) ∧
(∀ s h b lane, s.starts h (.contextRestore b) → b.wrapped = true → b.magicOk = true → s.fuses.wrapKey = .present → s.assocValid b.kind b.index =
    true → b.tagOk = true → ∃ t, exec (.contextRestore h b .agree lane) s = .next t ∧ (∃ a, alGet t.kept.assocs b.index = some a ∧ a.key = b.key
    ∧ a.salt = b.salt ∧ a.ssci = b.ssci ∧ b.pn ≤ a.pn ∧ (∀ x, alGet s.kept.assocs b.index = some x → x.pn ≤ a.pn) ∧ (b.kind = 1 → b.pn + 2 ^
    s.fld F.CRYP_CTX_CFG_pn_skip_log2 ≤ a.pn)) ∧ (∀ j, j ≠ b.index → alGet t.kept.assocs j = alGet s.kept.assocs j) ∧ t.kept.mem = s.kept.mem ∧
    t.kept.keySlots = s.kept.keySlots ∧ t.mode = s.mode ∧ t.fuses = s.fuses)

/-- Lockstep (R276 to R280): an injected error that is caught changes nothing; one that is missed, or a code violation, makes the pair
UNTRUSTED and is logged first come first kept; a mismatch halts the pair and its tasks move; the test vector decides: a reproduced one is a
fault, one that is not makes the pair a spare; while at least three pairs are left nothing else happens, with two the device reports
degraded service, with fewer it saves by itself. Rows that complete here with their own effect, for every state and operands that meet the
hypotheses: LKS_INJECT, LKS_CODE_VIOLATION, LKS_MISMATCH, LKS_TEST_DONE. -/
def Obligations.LockstepPairs : Prop :=
(∀ s p, s.runs → exec (.lksInject p true) s = .next s) ∧
(∀ s p, s.runs → s.mode ≠ .bringup → s.pairState p.val ≠ 3 → 2 < (s.setPair_ p.val 3).countUsable → ∃ t, exec (.lksInject p false) s = .next t ∧
    t.pairState p.val = 3 ∧ t.pended Ev.LKS_UNTRUSTED = true ∧ t.bit F.LKS_FAULT_LOG_valid = true ∧ (s.bit F.LKS_FAULT_LOG_valid = false → t.fld
    F.LKS_FAULT_LOG_pair = p.val ∧ t.fld F.LKS_FAULT_LOG_cause = 2) ∧ s.regsKept t [F.LKS_STATUS_pairs.off, F.LKS_FAULT_LOG_valid.off] ∧
    s.sameButEvents t) ∧
(∀ s p, s.runs → s.pairState p.val = 3 → exec (.lksInject p false) s = .next s) ∧
(∀ s p, s.runs → s.mode ≠ .bringup → s.pairState p.val ≠ 3 → (s.setPair_ p.val 3).countUsable = 2 → ∃ t, exec (.lksCodeViolation p) s = .next t ∧
    t.pairState p.val = 3 ∧ t.pended Ev.LKS_UNTRUSTED = true ∧ t.pended Ev.LKS_DEGRADED = true ∧ t.bit F.LKS_FAULT_LOG_valid = true ∧ s.regsKept
    t [F.LKS_STATUS_pairs.off, F.LKS_FAULT_LOG_valid.off] ∧ s.sameButEvents t) ∧
(∀ s p, s.runs → s.pairState p.val = 3 → exec (.lksCodeViolation p) s = .next s) ∧
(∀ s p, (s.mode = .solo ∨ s.mode = .paired ∨ s.mode = .resync) → s.pairState p.val ≠ 3 → (s.setPair_ p.val 3).countUsable < 2 → ∃ t, exec
    (.lksCodeViolation p) s = .next t ∧ t.mode = .save ∧ t.save.planned = true ∧ t.pairState p.val = 3 ∧ t.kept.mem = s.kept.mem ∧ t.kept.rdt =
    s.kept.rdt ∧ t.fuses = s.fuses) ∧
(∀ s p r, s.runs → s.pairState p.val < 2 → s.heir p.val = some r → ∃ t, exec (.lksMismatch p) s = .next t ∧ t.pairState p.val = 2 ∧ t.pairState r
    = 0 ∧ t.fld F.LKS_CNT_mismatches = (s.fld F.LKS_CNT_mismatches + 1) % 2 ^ 16 ∧ t.pended Ev.LKS_MISMATCH = true ∧ s.regsKept t
    [F.LKS_STATUS_pairs.off, F.LKS_CNT_mismatches.off] ∧ State.sameButEvents { s with lks := t.lks } t) ∧
(∀ s p, s.runs → 2 ≤ s.pairState p.val → exec (.lksMismatch p) s = .next s) ∧
(∀ s p r, s.runs → s.pairState p.val ≠ 2 → exec (.lksTestDone p r) s = .next s) ∧
(∀ s p, s.runs → s.pairState p.val = 2 → s.lks.halted = [] → s.lks.transients = [] → ∃ t, exec (.lksTestDone p false) s = .next t ∧ t.pairState
    p.val = 1 ∧ t.lks = { s.lks with transients := [(p.val, s.mrt)] } ∧ t.fld F.LKS_CNT_transients = (s.fld F.LKS_CNT_transients + 1) % 2 ^ 16 ∧
    t.pended Ev.LKS_TRANSIENT = true ∧ State.sameButEvents { s with lks := t.lks } t) ∧
(∀ s p, s.runs → s.mode ≠ .bringup → s.pairState p.val = 2 → s.lks.halted = [] → 2 < (s.setPair_ p.val 3).countUsable → ∃ t, exec (.lksTestDone p
    true) s = .next t ∧ t.pairState p.val = 3 ∧ t.pended Ev.LKS_UNTRUSTED = true ∧ (s.bit F.LKS_FAULT_LOG_valid = false → t.fld
    F.LKS_FAULT_LOG_cause = 1) ∧ s.sameButEvents t)

/-- The window (R318, R326, R328): a sequence opens with the first key at 0xA00 from any source; the owner's writes carry it on, confirm a
command, or abandon it with outcome 3; another source's write is reported and changes nothing else; one that is not a word is ignored, or
abandons the owner's sequence; a millisecond without a write abandons it. A read of a sector that is erase-incomplete, or with nothing
running, answers what the window shows. Rows that complete here with their own effect, for every state and operands that meet the
hypotheses: NOR_WINDOW_WRITE, NOR_SEQ_TIMEOUT, NOR_ABORT, NOR_WINDOW_READ. -/
def Obligations.WindowSequences : Prop :=
(∀ s src, s.manages → s.nor.win = none → exec (.norWindowWrite src 0xA00 0x4B42#32 true) s = .next ({ s with nor := { s.nor with win := some { src := src, step := 1 } } }.setFld
    F.NORC_STAT_owner (ownerCode src))) ∧
(∀ s src off v ok, s.manages → s.nor.win = none → (ok = false ∨ off ≠ 0xA00 ∨ v ≠ 0x4B42#32) → exec (.norWindowWrite src off v ok) s = .next s) ∧
(∀ s src off v ok q, s.manages → s.nor.win = some q → q.src ≠ src → exec (.norWindowWrite src off v ok) s = .next ((s.setBit F.NORC_STAT_foreign
    true).raise Ev.NORC_SEQ_FOREIGN)) ∧
(∀ s off v q, s.manages → s.nor.win = some q → exec (.norWindowWrite q.src off v false) s = .next s.abandonWin) ∧
(∀ s off v q, s.manages → s.nor.win = some q → exec (.norWindowWrite q.src off v true) s = .next (s.winWrite q off v)) ∧
(∀ (s : State) q off v, q.step = 1 → s.winWrite q off v = if off = 0x500 ∧ v = 0x4E52#32 then s.setWin { q with step := 2 } else s.abandonWin) ∧
(∀ (s : State) q v, q.step = 2 → v = 0x50#32 ∨ v = 0x60#32 → s.winWrite q 0xA00 v = s.setWin { q with step := 3, code := v.toNat }) ∧
(∀ (s : State) q v, q.step = 2 → v = 0x70#32 ∨ v = 0x71#32 ∨ v = 0xF0#32 → s.winWrite q 0xA00 v = s.confirmWin { q with code := v.toNat }) ∧
(∀ (s : State) q off v, q.step = 3 → q.code = 0x60 → s.winWrite q off v = if v = 0xC3#32 ∧ off % 65536 = 0 then s.confirmWin { q with base := off }
    else s.abandonWin) ∧
(∀ (s : State) q off v, q.step = 3 → q.code = 0x50 → q.data = [] → s.winWrite q off v = s.setWin { q with data := [(off, v)] }) ∧
(∀ s q, s.runs → s.nor.win = some q → exec .norSeqTimeout s = .next s.abandonWin) ∧
(∀ s, s.runs → s.nor.win = none → exec .norSeqTimeout s = .next s) ∧
(∀ s : State, s.abandonWin = (({ s with nor := { s.nor with win := none } }).setFld F.NORC_STAT_owner 0).setFld F.NORC_STAT_outcome 3) ∧
(∀ s, s.runs → s.nor.ready.find? (fun q => q.code == 0xF0) = none → exec .norAbort s = .next s) ∧
(∀ s q, s.runs → s.nor.ready = [q] → q.code = 0xF0 → exec .norAbort s = .next ({ s with nor := { s.nor with ready := [] } }.setFld
    F.NORC_STAT_outcome 0)) ∧
(∀ s off, s.runs → (s.nor.size ≤ off ∨ off / 65536 ∈ s.nor.einc ∨ s.nor.ops = []) → exec (.norWindowRead off) s = .next (s.put (.window off
    (s.nor.word off)))) ∧
(∀ s off o, s.runs → off < s.nor.size → s.nor.einc = [] → s.nor.ops = [o] → o.covers off = true → ∃ t, exec (.norWindowRead off) s = .next t ∧
    t.nor.ops = [{ o with reads := o.reads ++ [off] }] ∧ t.out = s.out ∧ s.regsKept t [F.NORC_STAT_busy.off] ∧ t = { s with csr := t.csr, nor := { s.nor with ops := t.nor.ops } }) ∧
(∀ (n : Nor) off, off / 65536 ∈ n.einc ∨ n.size ≤ off → n.byte off = 0xFF#8)

/-- Programs and erases (R325 to R327, R329 to R336): a confirmed command of a sector that the window may not name ends with outcome 1, in
brown-out with 4, on a busy NOR with 2; a PROGRAM clears bits of its page and no other byte changes; an ERASE whose INTENT fails ends with
outcome 5 and one that starts is journalled as an INTENT; its end is journalled as a DONE and leaves its sector erased and every other byte
outside the journal sectors alone. A suspend stops what runs, a resume carries on, brown-out stops an ERASE until it has cleared; a record
is appended when nothing holds it up: a counter record is the newest from then on, a retirement record names the DIMM by its serial number
and ends its command, a mark is kept for its DIMM; a reboot acts only where no copy runs. Rows that complete here with their own effect, for
every state and operands that meet the hypotheses: NOR_PROGRAM, NOR_ERASE, NOR_SUSPEND, NOR_RESUME, NOR_SUSPEND_GRANT, NOR_OP_DONE,
NOR_RECORD_APPEND, BROWNOUT_BEGIN, BROWNOUT_RESUME, NOR_REBOOT. -/
def Obligations.ProgramsAndErases : Prop :=
(∀ s q, s.runs → s.nor.ready = [q] → q.code = 0x50 → s.norAllowed q.base = false → exec .norProgram s = .next ({ s with nor := { s.nor with ready := [] } }.setFld
    F.NORC_STAT_outcome 1)) ∧
(∀ s q, s.runs → s.nor.ready = [q] → q.code = 0x50 → s.norAllowed q.base = true → s.brownout = true → exec .norProgram s = .next (({ s with nor := { s.nor with ready := [] } }.setFld
    F.NORC_STAT_outcome 4).raise Ev.NORC_BROWNOUT)) ∧
(∀ s q, s.runs → s.nor.ready = [q] → q.code = 0x50 → s.norAllowed q.base = true → s.brownout = false → (s.norBusy false q.base = true ∨ q.base /
    65536 ∈ s.nor.einc) → exec .norProgram s = .next ({ s with nor := { s.nor with ready := [] } }.setFld F.NORC_STAT_outcome 2)) ∧
(∀ s q, s.runs → s.nor.ready = [q] → q.code = 0x50 → s.norAllowed q.base = true → s.brownout = false → s.norBusy false q.base = false → q.base /
    65536 ∉ s.nor.einc → q.base % 256 = 0 → (∀ p ∈ q.data, p.1 / 256 = q.base / 256 ∧ p.1 % 4 = 0) → Memory.wf s.nor.bytes = true → ∃ t, exec
    .norProgram s = .next t ∧ (∀ a, a / 256 ≠ q.base / 256 → t.nor.byte a = s.nor.byte a) ∧ (∀ a, t.nor.byte a &&& s.nor.byte a = t.nor.byte a) ∧
    t.nor.counters = s.nor.counters ∧ t.nor.intents = s.nor.intents ∧ t.nor.ready = [] ∧ t.bit F.NORC_STAT_busy = true ∧ t.kept = s.kept ∧ t.mode
    = s.mode ∧ t.fuses = s.fuses ∧ s.regsKept t [F.NORC_STAT_busy.off]) ∧
(∀ s, s.runs → s.nor.ready = [] → exec .norProgram s = .next s) ∧
(∀ s q, s.runs → s.nor.ready = [q] → q.code = 0x60 → s.norAllowed q.base = true → s.brownout = false → s.nor.ops = [] → q.base / 65536 ∉
    s.nor.einc → ∃ t, exec (.norErase true) s = .next t ∧ t.nor.intents = setAdd s.nor.intents (q.base / 65536) ∧ (t.nor.jof
    t.nor.active).getLast? = some (⟨false, q.base / 65536, t.nor.seq - 1⟩ : JEntry) ∧ t.nor.ops = [({ erase := true, off := q.base, data := [], since := s.mrt }
    : NorOp)] ∧ t.nor.bytes = s.nor.bytes ∧ t.nor.ready = [] ∧ t.nor.copyA = (if s.nor.inCopy false q.base = true then none else s.nor.copyA) ∧
    t.bit F.NORC_STAT_busy = true ∧ t.kept = s.kept ∧ t.mode = s.mode) ∧
(∀ s q, s.runs → s.nor.ready = [q] → q.code = 0x60 → s.norAllowed q.base = true → s.brownout = false → s.nor.ops = [] → q.base / 65536 ∉
    s.nor.einc → ∃ t, exec (.norErase false) s = .next t ∧ t.nor = { s.nor with ready := [] } ∧ t.fld F.NORC_STAT_outcome = 5 ∧ s.regsKept t
    [F.NORC_STAT_outcome.off] ∧ t = { s with csr := t.csr, nor := t.nor }) ∧
(∀ s q o, s.runs → s.nor.ready = [q] → q.code = 0x70 → s.nor.ops = [o] → o.running = true → ∃ t, exec .norSuspend s = .next t ∧ t.nor.ops = [if
    s.ranLong o = true then { o with suspended := true } else { o with held := true }] ∧ t.bit F.NORC_STAT_suspended = s.ranLong o ∧ t.fld
    F.NORC_STAT_outcome = 0 ∧ t.nor.bytes = s.nor.bytes ∧ t = { s with csr := t.csr, nor := { s.nor with ready := [], ops := t.nor.ops } }) ∧
(∀ s, s.runs → s.nor.ready = [] → exec .norSuspend s = .next s) ∧
(∀ s q o, s.runs → s.nor.ready = [q] → q.code = 0x71 → s.nor.ops = [o] → o.suspended = true → s.brownout = false → ∃ t, exec .norResume s = .next
    t ∧ t.nor.ops = [{ o with suspended := false, since := s.mrt }] ∧ t.bit F.NORC_STAT_suspended = o.brown ∧ t.fld F.NORC_STAT_outcome = 0 ∧ t =
    { s with csr := t.csr, nor := { s.nor with ready := [], ops := t.nor.ops } }) ∧
(∀ s q o, s.runs → s.nor.ready = [q] → q.code = 0x71 → s.nor.ops = [o] → o.running = true → exec .norResume s = .next ({ s with nor := { s.nor with ready := [] } }.setFld
    F.NORC_STAT_outcome 2)) ∧
(∀ s o, s.runs → s.nor.ops = [o] → o.running = true → o.held = true → o.reads = [] → o.append = false → exec .norSuspendGrant s = .next (s.setOps
    [{ o with held := false, suspended := true, since := s.mrt }])) ∧
(∀ s, s.runs → s.nor.ops = [] → exec .norSuspendGrant s = .next s) ∧
(∀ s o info, s.runs → s.nor.ops = [o] → o.running = true → o.erase = true → o.own = false → o.reads = [] → o.append = false → 0x400000 ≤ o.off →
    ∃ t, exec (.norOpDone info) s = .next t ∧ (∀ a, 0x20000 ≤ a → t.nor.byte a = if a / 65536 = o.off / 65536 then 0xFF#8 else s.nor.byte a) ∧
    t.nor.intents = setDel s.nor.intents (o.off / 65536) ∧ (t.nor.jof t.nor.active).getLast? = some (⟨true, o.off / 65536, t.nor.seq - 1⟩ :
    JEntry) ∧ t.nor.ops = [] ∧ t.fld F.NORC_STAT_outcome = 0 ∧ t.pended Ev.NORC_OP_DONE = true ∧ t.bit F.NORC_STAT_busy = false ∧ t.kept = s.kept
    ∧ t.mode = s.mode ∧ t.fuses = s.fuses) ∧
(∀ s info, s.runs → s.nor.ops = [] → exec (.norOpDone info) s = .next s) ∧
(∀ s k r, s.runs → s.brownout = false → s.nor.ops = [] → s.nor.appends = [.counter r] → k.val = 1 → exec (.norRecordAppend k) s = .next { s with nor := { s.nor with appends := [], recs := s.nor.recs + 1, counters := r :: s.nor.counters } }) ∧
(∀ s k h f c b i, s.runs → s.brownout = false → s.nor.ops = [] → s.nor.appends = [.frame h f] → k.val = 2 → frameAt s.pops f = some (c, b, i) →
    exec (.norRecordAppend k) s = .next (State.complete { s with nor := { s.nor with appends := [], recs := s.nor.recs + 1 }, retRecs := s.addRec (s.recordFor c b (some i)) }
    h .ok)) ∧
(∀ s k h c b, s.runs → s.brownout = false → s.nor.ops = [] → s.nor.appends = [.bank h c b] → k.val = 2 → exec (.norRecordAppend k) s = .next
    (State.complete { s with nor := { s.nor with appends := [], recs := s.nor.recs + 1 }, retRecs := s.addRec (s.recordFor c b none) } h .ok)) ∧
(∀ s k x d, s.runs → s.brownout = false → s.nor.ops = [] → s.nor.appends = [.mark x d] → k.val = 2 → exec (.norRecordAppend k) s = .next { s with nor := { s.nor with appends := [], recs := s.nor.recs + 1 }, dmarks := alPut s.dmarks x d }) ∧
(∀ (s : State) c b row p, alGet s.pops c = some p → s.recordFor c b row = some ⟨alGetD s.serials (c * 2 + b / Nat.max 1 p.banks / Nat.max 1
    p.lranks) 0, b / Nat.max 1 p.banks % Nat.max 1 p.lranks, b % Nat.max 1 p.banks, row⟩) ∧
(∀ s k, s.runs → (s.brownout = true ∨ s.nor.appends = []) → exec (.norRecordAppend k) s = .next s) ∧
(∀ s o, s.runs → s.fen.vdd = true → s.thm.burn = none → s.nor.ops = [o] → o.running = true → o.erase = true → ∃ t, exec .brownoutBegin s = .next
    t ∧ t.brownout = true ∧ t.nor.ops = [{ o with brown := true }] ∧ t.bit F.NORC_STAT_suspended = true ∧ t.bit F.NORC_STAT_busy = false ∧
    t.nor.bytes = s.nor.bytes ∧ t = { s with csr := t.csr, brownout := true, nor := { s.nor with ops := t.nor.ops } }) ∧
(∀ s o, s.runs → s.fen.vdd = true → s.nor.einc = [] → s.nor.ops = [o] → o.brown = true → ∃ t, exec .brownoutResume s = .next t ∧ t.brownout =
    false ∧ t.nor.ops = [{ o with brown := false, since := s.mrt }] ∧ t.nor.bytes = s.nor.bytes ∧ t = { s with csr := t.csr, brownout := false, nor := { s.nor with ops := t.nor.ops } }) ∧
(∀ s, s.mode = .reset → s.fen.vdd = true → exec .brownoutBegin s = .next { s with brownout := true }) ∧
(∀ s, s.mode = .reset → s.fen.vdd = true → exec .brownoutResume s = .next { s with brownout := false }) ∧
(∀ s, s.passes F.NORC_CTRL_reboot.off 1#32 → s.bit F.NORC_BOOT_none = false → exec .norReboot s = .next s.taken) ∧
(∀ s, s.passes F.NORC_CTRL_reboot.off 1#32 → s.bit F.NORC_BOOT_none = true → exec .norReboot s = .next (s.taken.cleanAll.removeRails .again))

/-- What is read at start (R323): the copy chosen to run is well formed, is signed by an enabled key, is not below the rollback version, is
for the part, lies in no sector of an unfinished erase, and its digests match; of two such copies the one of the higher build runs, A where
they are equal; where the checks fail on both, none runs. -/
def Obligations.OnlyCheckedImagesRun : Prop :=
(∀ (s : State) c, s.pickCopy.2.2 = some c → ∃ i, s.nor.copy c = some i ∧ i.formOk = true ∧ s.fuses.enabled.getLsbD i.key.val = true ∧ i.sigOk =
    true ∧ i.digestOk = true ∧ s.fuses.rollback ≤ i.svn ∧ s.partOk i = true) ∧
(∀ s : State, s.checkCopy false = 0 → s.checkCopy true = 0 → s.digestOk false = true → s.digestOk true = true → s.pickCopy = (0, 0, some (decide
    (s.buildOf false < s.buildOf true)))) ∧
(∀ s : State, s.checkCopy false ≠ 0 → s.checkCopy true ≠ 0 → s.pickCopy = (s.checkCopy false, s.checkCopy true, none))

/-- Register accesses (R14, R325, R379 to R383): a write of a function other than 0, of a wrong width or of no register is an access error,
of which the first is recorded; where no copy runs only GLB, THM, NORC and the window are reached; a write leaves every field that is
read-only, locked, or out of its mode or lifecycle as it was; a register-write or -read with a bad offset or count is INVALID; a read of a
low half latches the high half for the same source, and a read where no register lies, or out of alignment, returns 0 and is recorded. Rows
that complete here with their own effect, for every state and operands that meet the hypotheses: CSR_WRITE, REGISTER_WRITE, REGISTER_READ,
CSR_READ_LO_LATCH. -/
def Obligations.RegisterAccess : Prop :=
(∀ s width off v, s.passes off v → exec (.csrWrite true width off v) s = .next (s.taken.accessError 3 off)) ∧
(∀ s width off v, s.passes off v → s.bit F.NORC_BOOT_none = true → reachedBare off = false → exec (.csrWrite false width off v) s = .next
    s.taken) ∧
(∀ s width off v, s.passes off v → s.bit F.NORC_BOOT_none = false → (off % 4 ≠ 0 ∨ (width ≠ 4 ∧ width ≠ 8)) → (off < 0x8000000 ∨ 0xC000000 ≤ off)
    → exec (.csrWrite false width off v) s = .next (s.taken.accessError 2 off)) ∧
(∀ s off v src, s.passes off v → s.writer = src → (s.bit F.NORC_BOOT_none = false ∨ reachedBare off = true) → off % 4 = 0 → (off < 0x8000000 ∨
    0xC000000 ≤ off) → exec (.csrWrite false 4 off v) s = .next (s.taken.writeReg src off v)) ∧
(∀ s off v width x, s.passes off v → s.writer = some x → 0x8000000 ≤ off → off < 0xC000000 → exec (.csrWrite false width off v) s = .next
    (s.taken.doWindowWrite x (off - 0x8000000) v (off % 4 == 0 && (width == 4 || (width == 8 && off % 8 == 0))))) ∧
(∀ (s : State) kind off, s.accessError kind off = if s.bit F.GLB_ACC_ERR_valid = true then s else ((s.setBit F.GLB_ACC_ERR_valid true).setFld
    F.GLB_ACC_ERR_kind kind).setFld F.GLB_ACC_ERR_offset off) ∧
(∀ (s : State) src off v r n j, regAt off = some (r, n, j) → s.runs → off < 0x8000000 → fusedOff s.part off = false → s.ptpAbsent off v = false →
    s.ownWrite off v = none → s.writeReg src off v = (s.setReg off (s.newWord r j (s.reg off) v)).afterWrite off) ∧
(∀ (s : State) (r : RegSpec) bus old v, (∀ f ∈ r.fields, f.lo ≤ f.hi ∧ f.hi < 32 ∧ (f.acc = .ro ∨ f.acc = .wo ∨ (f.acc = .rwl ∧ s.bit
    F.THM_LOCK_lock = true) ∨ (f.acc = .rwsBringup ∧ s.mode ≠ .bringup) ∨ (f.acc = .rwsBlank ∧ s.fuses.life ≠ blank))) → s.newWord r bus old v =
    old) ∧
(∀ s h off values, s.starts h (.registerWrite off values) → (off % 4 ≠ 0 ∨ 2 ^ 28 ≤ off ∨ values = [] ∨ 1014 < values.length) → exec
    (.registerWrite h off values) s = .next (s.begun.complete h .invalid)) ∧
(∀ s h off v, s.starts h (.registerWrite off ([v])) → off % 4 = 0 → off < 2 ^ 28 → s.ptpAbsent off v = false → (State.writeReg s.begun (norSrc
    h.src) off v).mode ≠ .reset → exec (.registerWrite h off [v]) s = .next ((s.begun.writeReg (norSrc h.src) off v).complete h .ok)) ∧
(∀ s h off v, s.starts h (.registerWrite off ([v])) → off % 4 = 0 → off < 2 ^ 28 → s.ptpAbsent off v = true → exec (.registerWrite h off [v]) s =
    .next (s.begun.complete h .invalid)) ∧
(∀ s h off n, s.starts h (.registerRead off n) → (off % 4 ≠ 0 ∨ 2 ^ 28 ≤ off ∨ n = 0 ∨ 1014 < n) → exec (.registerRead h off n) s = .next
    (s.begun.complete h .invalid)) ∧
(∀ s h off, s.starts h (.registerRead off 1) → off % 4 = 0 → off < 2 ^ 28 → exec (.registerRead h off 1) s = .next ((s.begun.readFor h.src
    off).1.complete h .ok [(s.begun.readFor h.src off).2.toNat])) ∧
(∀ s src off, s.runs → (s.bit F.NORC_BOOT_none = false ∨ reachedBare off = true) → exec (.csrReadLoLatch src off) s = .next (s.readFor src
    off).1) ∧
(∀ s src off, s.runs → s.bit F.NORC_BOOT_none = true → reachedBare off = false → exec (.csrReadLoLatch src off) s = .next s) ∧
(∀ (s : State) src off, off ∈ loPairs → s.latch = [] → (s.readFor src off).1 = s.setLatch src (off + 4) (s.readReg (off + 4))) ∧
(∀ (s : State) src off, off % 4 ≠ 0 → s.readFor src off = (s.accessError 2 off, 0)) ∧
(∀ (s : State) src off, off ∈ loPairs → ((s.doLoLatch src off).readFor src (off + 4)).2 = s.readReg (off + 4) ∧ (s.doLoLatch src off).kept =
    s.kept ∧ (s.doLoLatch src off).csr = s.csr) ∧
(∀ (s : State) src off, off < 0x8000000 → off % 4 = 0 → regAt off = none → fusedOff s.part off = false → off ≠ F.TIME_TOD_NS_value.off → s.latch
    = [] → s.readFor src off = (s.accessError 1 off, 0))

/-- Paths and buses (R348, R353, R358, R359, R367, R368, R371, R373, R374): head moves as written; a destination from 0 to 15 is subscribed;
a link or port that goes down or comes up is reported once; the event frame at the head of the queue leaves to every destination when the
management queue pair can send, with a header of 32 bytes and 8 bytes an entry; a controller samples SDA, recovers up to three times and
then is failed; a transaction's error counts; a query of an index outside its class is INVALID. A test access that the matrix does not allow
does nothing; one that it allows reads or writes what it names, and a write of the carve-out reaches the tile tables only, a read of it
waits for its fill (R215) and any read for the end of the near cache's walk (R224), and a byte of SRAM that nothing has written reads 0
before the firmware runs (R214); a pair is halted unless a serving unit would keep fewer than three. A level sample samples its six monitors
and changes no tenant data and no register. Rows that complete here with their own effect, for every state and operands that meet the
hypotheses: PCIE_CPL_HEAD, SUBSCRIBE, PCIE_LINK_DOWN, PCIE_LINK_UP, PORT_LINK_DOWN, PORT_LINK_UP, EVENT_FRAME_SEND, SBUS_ENABLE,
SBUS_RECOVERY_RETRY, SBUS_SCL_TIMEOUT, SBUS_TRANSACTION_DONE, QUERY, TAP_INSTRUCTION, MON_LEVEL_SAMPLE. -/
def Obligations.PathsAndBuses : Prop :=
(∀ s v, s.passes F.PCIE_CPL_DB_head.off v → exec (.pcieCplHead v) s = .next (s.taken.setFld F.PCIE_CPL_DB_head v.toNat)) ∧
(∀ s h dest addr qpn, s.starts h (.subscribe dest addr qpn) → 16 ≤ dest → exec (.subscribe h dest addr qpn) s = .next (s.begun.complete h
    .invalid)) ∧
(∀ s h dest addr qpn, s.starts h (.subscribe dest addr qpn) → dest < 16 → exec (.subscribe h dest addr qpn) s = .next (State.complete { s.begun with ev := { s.begun.ev with dests := alPut s.begun.ev.dests dest (addr, qpn) } }
    h .ok)) ∧
(∀ s, s.runs → s.link = true → exec .pcieLinkDown s = .next ((s.setBit F.PCIE_STATUS_link_up false).raise Ev.PCIE_LINK_DOWN)) ∧
(∀ s, s.runs → s.link = false → exec .pcieLinkDown s = .next s) ∧
(∀ s speed width, s.runs → s.link = false → (s.mode = .doze ∨ s.quiet = true) → exec (.pcieLinkUp speed width) s = .next ((((s.setBit
    F.PCIE_STATUS_link_up true).setFld F.PCIE_STATUS_speed speed.val).setFld F.PCIE_STATUS_width width.val).raise Ev.PCIE_LINK_UP)) ∧
(∀ s speed width, s.runs → s.mode ≠ .doze → s.quiet = false → ∃ t, exec (.pcieLinkUp speed width) s = .next t ∧ t.link = true ∧ t.fld
    F.PCIE_STATUS_speed = speed.val ∧ t.fld F.PCIE_STATUS_width = width.val ∧ t.pcieHeld = [] ∧ (∀ o ∈ s.pcieHeld, o ∈ t.out) ∧ t.kept = s.kept ∧
    t.mode = s.mode ∧ t.gate = s.gate) ∧
(∀ s l, s.runs → s.hasPort l.val = true → s.ports.up.contains l.val = true → exec (.portLinkDown l) s = .next (State.raise { s with ports := { s.ports with up := setDel s.ports.up l.val } }
    (Ev.PORT_LINK_DOWN (Fin.ofNat 8 (portOf l.val))) l.val)) ∧
(∀ s l, s.runs → s.hasPort l.val = true → s.ports.up.contains l.val = false → exec (.portLinkUp l) s = .next (State.raise { s with ports := { s.ports with up := setAdd s.ports.up l.val } }
    (Ev.PORT_LINK_UP (Fin.ofNat 8 (portOf l.val))) l.val)) ∧
(∀ s l, s.runs → (s.hasPort l.val = false ∨ s.ports.up.contains l.val = false) → exec (.portLinkDown l) s = .next s) ∧
(∀ s l, s.runs → (s.hasPort l.val = false ∨ s.ports.up.contains l.val = true) → exec (.portLinkUp l) s = .next s) ∧
(∀ s f l, s.runs → s.mode ≠ .doze → s.quiet = false → s.mqpSends = true → s.ev.frames = f :: l → ∃ t, exec .eventFrameSend s = .next t ∧ t =
    (let r : State := s.notify mEvent f.stamp (eventBytes f.entries); { r with ev := { r.ev with frames := l, fullSeen := false } })) ∧
(∀ (s : State) ty st pl d, s.ev.dests = [d] → ∃ c sec, (s.notify ty st pl).out = s.out ++ [.notice d.1 (mHeadBytes { type := ty, claim := c, stamp := st }
    pl.length ++ pl) sec (decide (((s.qpAt 0).map (·.ccClass)).getD 0 = 1))]) ∧
(∀ (h : MHead) n, (mHeadBytes h n).length = 32 ∧ ∀ e, (eventBytes [e]).length = 8) ∧
(∀ s, s.runs → (s.ev.frames = [] ∨ s.mode = .doze ∨ s.mqpSends = false) → exec .eventFrameSend s = .next s) ∧
(∀ s n low freed, ((n.val < 2 ∧ s.fen.vdd = true) ∨ (2 ≤ n.val ∧ s.runs)) → (low = false ∨ freed = true) → ∃ t, exec (.sbusEnable n low freed) s
    = .next t ∧ t.bit (F.SBUS_CFGn_en n.val) = true ∧ t.fld (F.SBUS_STATn_stuck n.val) = 0 ∧ t.fld (F.SBUS_STATn_state n.val) = 0 ∧ t.sbus =
    alDel s.sbus n.val ∧ s.regsKept t [(F.SBUS_CFGn_en n.val).off, (F.SBUS_STATn_state n.val).off] ∧ t = { s with csr := t.csr, sbus := t.sbus }) ∧
(∀ s n, ((n.val < 2 ∧ s.fen.vdd = true) ∨ (2 ≤ n.val ∧ s.runs)) → ∃ t, exec (.sbusEnable n true false) s = .next t ∧ t.bit (F.SBUS_CFGn_en n.val)
    = true ∧ t.fld (F.SBUS_STATn_stuck n.val) = 1 ∧ t.fld (F.SBUS_STATn_state n.val) = 2 ∧ t.sbus = alPut s.sbus n.val ⟨0⟩ ∧ s.regsKept t
    [(F.SBUS_CFGn_en n.val).off, (F.SBUS_STATn_state n.val).off] ∧ State.sameButEvents { s with sbus := t.sbus } t) ∧
(∀ s n x, ((n.val < 2 ∧ s.fen.vdd = true) ∨ (2 ≤ n.val ∧ s.runs)) → alGet s.sbus n.val = some x → exec (.sbusRecoveryRetry n true) s = .next ({ s with sbus := alDel s.sbus n.val }.setFld
    (F.SBUS_STATn_state n.val) 0)) ∧
(∀ s n x, ((n.val < 2 ∧ s.fen.vdd = true) ∨ (2 ≤ n.val ∧ s.runs)) → alGet s.sbus n.val = some x → x.tries < 2 → exec (.sbusRecoveryRetry n false)
    s = .next { s.sat (F.SBUS_STATn_stuck n.val) with sbus := alPut s.sbus n.val ⟨x.tries + 1⟩ }) ∧
(∀ s n x, ((n.val < 2 ∧ s.fen.vdd = true) ∨ (2 ≤ n.val ∧ s.runs)) → alGet s.sbus n.val = some x → 2 ≤ x.tries → exec (.sbusRecoveryRetry n false)
    s = .next (({ s.sat (F.SBUS_STATn_stuck n.val) with sbus := alDel s.sbus n.val }.setFld (F.SBUS_STATn_state n.val) 3).raise
    Ev.SBUS_BUS_FAILED n.val)) ∧
(∀ s n freed, ((n.val < 2 ∧ s.fen.vdd = true) ∨ (2 ≤ n.val ∧ s.runs)) → alGet s.sbus n.val = none → exec (.sbusRecoveryRetry n freed) s = .next
    s) ∧
(∀ s n, ((n.val < 2 ∧ s.fen.vdd = true) ∨ (2 ≤ n.val ∧ s.runs)) → s.bit (F.SBUS_CFGn_en n.val) = true → s.fld (F.SBUS_STATn_state n.val) < 2 →
    exec (.sbusSclTimeout n) s = .next ((s.wrap (F.SBUS_STATn_errors n.val)).setFld (F.SBUS_STATn_state n.val) 0)) ∧
(∀ s n, ((n.val < 2 ∧ s.fen.vdd = true) ∨ (2 ≤ n.val ∧ s.runs)) → s.bit (F.SBUS_CFGn_en n.val) = true → s.fld (F.SBUS_STATn_state n.val) < 2 →
    exec (.sbusTransactionDone n true) s = .next (s.setFld (F.SBUS_STATn_state n.val) 0)) ∧
(∀ s n ok, ((n.val < 2 ∧ s.fen.vdd = true) ∨ (2 ≤ n.val ∧ s.runs)) → (s.bit (F.SBUS_CFGn_en n.val) = false ∨ 2 ≤ s.fld (F.SBUS_STATn_state
    n.val)) → exec (.sbusTransactionDone n ok) s = .next s) ∧
(∀ s h cls i l, s.starts h (.query cls i) → s.queryVals i cls = some l → exec (.query h cls i) s = .next (s.begun.complete h .ok l)) ∧
(∀ s h cls i, s.starts h (.query cls i) → s.queryVals i cls = none → exec (.query h cls i) s = .next (s.begun.complete h .invalid)) ∧
(∀ s, s.runs → exec (.tapInstruction .bypass) s = .next (s.put (.tap []))) ∧
(∀ s off, s.runs → s.tapR = false → exec (.tapInstruction (.csrRead off)) s = .next s) ∧
(∀ s off v, s.runs → s.tapC = false → exec (.tapInstruction (.csrWrite off v)) s = .next s) ∧
(∀ s a v, s.runs → (s.tapW = false ∨ s.tapRange a = false) → exec (.tapInstruction (.memWrite a v)) s = .next s) ∧
(∀ s off, s.runs → s.tapR = true → exec (.tapInstruction (.csrRead off)) s = .next ((s.readFor .debug off).1.put (.tap [(s.readFor .debug
    off).2.toNat]))) ∧
(∀ s p, s.runs → s.tapC = true → s.pairState p.val < 2 → s.serves = false → exec (.tapInstruction (.haltPair p)) s = .next (State.moveTasks { s.setPair_ p.val 2 with lks := { s.lks with halted := s.lks.halted ++ [p.val] } }
    p.val)) ∧
(∀ s p, s.runs → s.tapC = true → s.pairState p.val < 2 → s.serves = true → s.countUsable < 4 → exec (.tapInstruction (.haltPair p)) s = .next s) ∧
(∀ s, s.mode = .bringup → exec (.tapInstruction .extest) s = .next { s with boot := { s.boot with halted := true } }) ∧
(∀ s, s.runs → s.mode ≠ .bringup → exec (.tapInstruction .extest) s = .next (s.put (.tap []))) ∧
(∀ s, s.runs → exec (.tapInstruction .idcode) s = .next (s.put (.tap [Config.idcode]))) ∧
(∀ s off v, s.runs → s.tapC = true → exec (.tapInstruction (.csrWrite off v)) s = .next (s.deliverWrite ⟨⟨.debug, 0, 0⟩, .registerWrite off [v],
    true⟩)) ∧
(∀ s a v, s.runs → s.tapC = true → a < 8388608 → exec (.tapInstruction (.sramWrite a v)) s = .next { s with kept := { s.kept with sram := alPut s.kept.sram a v } }) ∧
(∀ s a v, s.runs → s.tapC = true → a < 8388608 → alGet s.kept.sram a = some v → exec (.tapInstruction (.sramRead a)) s = .next (s.tickFree.put
    (.tap [v.toNat]))) ∧
(∀ s a, s.runs → s.tapC = true → s.tapRange a = true → s.nc.walking = false → (a < carveBase ∨ s.boot.filled = true) → exec (.tapInstruction
    (.memRead a)) s = .next ((s.load a 1).tickFree.put (.tap [(s.byte a).toNat]))) ∧
(∀ s a, s.runs → s.tapC = true → s.tapRange a = true → (s.nc.walking = true ∨ (carveBase ≤ a ∧ s.boot.filled = false)) → exec (.tapInstruction
    (.memRead a)) s = .next { s with boot := { s.boot with reads := s.boot.reads ++ [a] } }) ∧
(∀ s a, s.runs → s.tapC = true → a < 8388608 → alGet s.kept.sram a = none → s.boot.ran = false → exec (.tapInstruction (.sramRead a)) s = .next
    (s.tickFree.put (.tap [0]))) ∧
(∀ s a v, s.runs → s.tapW = true → (s.inTenant a 1 = true ∨ inTableArea a 1 = true) → exec (.tapInstruction (.memWrite a v)) s = .next
    (s.ownStore ⟨s.coverKey (a / 65536), [(a, 1)], [v]⟩)) ∧
(∀ s, s.runs → exec .monLevelSample s = .next
    (let r : State := forUp (fun (k : Nat) (u : State) => u.sample 10 (some k) (u.fld (F.FEN_MONn_VAL_mv k))) 16 0 ((s.tickFree.sample 8 none s.freeCells).sample 9 none s.homedPerMille); (((r.sample 11 none (toSigned 8 (r.fld F.FEN_VCORE_STAT_tj) + 64).toNat).sample 12 none (r.fld F.FEN_VCORE_STAT_meas_mv)).sample 13 none (r.fld F.FEN_BAT_E_e_est)))) ∧
(∀ s, s.runs → ∃ t, exec .monLevelSample s = .next t ∧ t.kept.mem = s.kept.mem ∧ t.kept.rdt = s.kept.rdt ∧ t.kept.qps = s.kept.qps ∧ t.kept.tiles
    = s.kept.tiles ∧ t.csr = s.csr ∧ t.mode = s.mode ∧ t.gate = s.gate ∧ t.fuses = s.fuses ∧ t.out = s.out)

/-- Pins and balls (R286, R356, R386, R391 to R397): every signal of the device, each wire of a lane slot, a DDR5 channel or a NAND channel,
NAND_WP_N and each miscellaneous position, lies at one ball, and that ball carries it and nothing else; the ball field is symmetric under a
half turn, and its corners hold no ball; only an MX part may leave balls unconnected, no signal of the units it has among them, and no
supply but VDDQ_DDR. EVT_IRQn_N is held low exactly while a source that routes to it is pending and not masked, outside RESET. Fen's enables
and resets show the rails that are on and the resets that are asserted. VDD operates from Fen's target to 20 mV above it. -/
def Obligations.PinsAndBalls : Prop :=
(∀ b : Ball, b.signal = true → ∃ r c, b.place = some (r, c) ∧ ballAt r c = some b) ∧
(∀ r c b, ballAt r c = some b → b.signal = true → b.place = some (r, c)) ∧
(∀ r c, 1 ≤ r → r ≤ 69 → 1 ≤ c → c ≤ 69 → (ballAt r c).isSome = (ballAt (70 - r) (70 - c)).isSome ∧ ((ballAt r c).isSome = !keepOut r c)) ∧
(∀ part r c, mayFloat part r c = true → part = .mx ∧ (∀ n w, ballAt r c = some (.nand n w) → 16 ≤ n) ∧ (∀ n w, ballAt r c = some (.ddr n w) → 8 ≤
    n) ∧ (∀ n rx neg, ballAt r c = some (.lane n rx neg) → 16 ≤ n ∧ n ≤ 31) ∧ (∀ p, ballAt r c ≠ some (.misc p)) ∧ (∀ x, ballAt r c = some
    (.supply x) → x = .vddqDdr)) ∧
(∀ (s : State) n, s.mode ≠ .reset → (s.irqLow n = true ↔ ∃ e, e < 640 ∧ s.pended e = true ∧ s.masked e = false ∧ s.fld (F.EVT_ROUTEn_pin e) / 2 ^
    n % 2 = 1)) ∧
(∀ (s : State) n, (s.railEn n = true ↔ n ∈ s.fen.on) ∧ (s.rstLow n = true ↔ n ∈ s.fen.resets) ∧ (s.mode = .reset → s.irqLow n = false)) ∧
(∀ toggle target uv, Supply.operates toggle target uv .vdd = true ↔ target * 1000 ≤ uv ∧ uv ≤ (target + 20) * 1000)
end

