-- ==== Sys2Proof/Laws/Lists.lean ====
section
/-! SUPPORT. Laws of the keyed lists and of memory: what a read gives after a write, and that every operation keeps the canonical form. -/

namespace Sys2Proof.Machine

variable {α : Type}

@[simp] theorem alGet_nil (n : Nat) : alGet ([] : List (Nat × α)) n = none := rfl

theorem alGet_cons (k : Nat) (v : α) (l : List (Nat × α)) (n : Nat) : alGet ((k, v) :: l) n = if k = n then some v else alGet l n := rfl

/-- What was put under a key is found there. -/
@[simp] theorem alGet_alPut_same (l : List (Nat × α)) (n : Nat) (v : α) : alGet (alPut l n v) n = some v := by
  induction l with
  | nil => simp [alPut, alGet]
  | cons p l ih =>
    obtain ⟨k, w⟩ := p
    unfold alPut
    split
    · simp [alGet]
    · split
      · simp [alGet]
      · rename_i h
        simp [alGet, ih, Ne.symm h]

/-- A put leaves every other key alone. -/
theorem alGet_alPut_other (l : List (Nat × α)) (n m : Nat) (v : α) (h : m ≠ n) : alGet (alPut l n v) m = alGet l m := by
  induction l with
  | nil => simp [alPut, alGet, Ne.symm h]
  | cons p l ih =>
    obtain ⟨k, w⟩ := p
    unfold alPut
    split
    · simp [alGet, Ne.symm h]
    · split
      · rename_i hk; subst hk
        simp [alGet, Ne.symm h]
      · simp only [alGet, ih]

/-- Nothing is found under a key removed. -/
@[simp] theorem alGet_alDel_same (l : List (Nat × α)) (n : Nat) : alGet (alDel l n) n = none := by
  induction l with
  | nil => rfl
  | cons p l ih =>
    obtain ⟨k, w⟩ := p
    simp only [alDel, List.filter_cons, bne_iff_ne, ne_eq] at ih ⊢
    split
    · rename_i hk; simp [alGet, hk, ih]
    · exact ih

/-- A removal leaves every other key alone. -/
theorem alGet_alDel_other (l : List (Nat × α)) (n m : Nat) (h : m ≠ n) : alGet (alDel l n) m = alGet l m := by
  induction l with
  | nil => rfl
  | cons p l ih =>
    obtain ⟨k, w⟩ := p
    simp only [alDel, List.filter_cons, bne_iff_ne, ne_eq] at ih ⊢
    split
    · simp only [alGet, ih]
    · rename_i hk
      have hk' : k = n := by simpa using hk
      rw [ih, alGet_cons, if_neg (by omega)]

theorem alRises_mono {b c : Nat} (h : c ≤ b) : ∀ {l : List (Nat × α)}, alRises b l = true → alRises c l = true := by
  intro l
  cases l with
  | nil => simp [alRises]
  | cons p l =>
    obtain ⟨k, w⟩ := p
    simp only [alRises, Bool.and_eq_true, decide_eq_true_eq]
    exact fun ⟨h1, h2⟩ => ⟨by omega, h2⟩

/-- A put keeps the keys strictly rising. -/
theorem alRises_alPut (l : List (Nat × α)) (n b : Nat) (v : α) (hb : b ≤ n) (h : alRises b l = true) : alRises b (alPut l n v) = true := by
  induction l generalizing b with
  | nil => simp [alPut, alRises, hb]
  | cons p l ih =>
    obtain ⟨k, w⟩ := p
    simp only [alRises, Bool.and_eq_true, decide_eq_true_eq] at h
    unfold alPut
    split
    · simp only [alRises, Bool.and_eq_true, decide_eq_true_eq]
      exact ⟨hb, by omega, h.2⟩
    · split
      · rename_i hk; subst hk
        simp only [alRises, Bool.and_eq_true, decide_eq_true_eq]
        exact ⟨hb, h.2⟩
      · simp only [alRises, Bool.and_eq_true, decide_eq_true_eq]
        exact ⟨h.1, ih _ (by omega) h.2⟩

/-- A selection of the entries keeps the keys strictly rising. -/
theorem alRises_filter (f : Nat × α → Bool) (l : List (Nat × α)) (b : Nat) (h : alRises b l = true) : alRises b (l.filter f) = true := by
  induction l generalizing b with
  | nil => rfl
  | cons p l ih =>
    obtain ⟨k, w⟩ := p
    simp only [alRises, Bool.and_eq_true, decide_eq_true_eq] at h
    rw [List.filter_cons]
    split
    · simp only [alRises, Bool.and_eq_true, decide_eq_true_eq]
      exact ⟨h.1, ih _ h.2⟩
    · exact alRises_mono (by omega) (ih _ h.2)

theorem mem_alPut {l : List (Nat × α)} {n : Nat} {v : α} {p : Nat × α} (h : p ∈ alPut l n v) : p = (n, v) ∨ p ∈ l := by
  induction l with
  | nil => simpa [alPut] using h
  | cons q l ih =>
    obtain ⟨k, w⟩ := q
    unfold alPut at h
    split at h
    · simpa using h
    · split at h
      · simp only [List.mem_cons] at h ⊢
        tauto
      · simp only [List.mem_cons] at h ⊢
        rcases h with h | h
        · exact .inr (.inl h)
        · rcases ih h with h | h
          · exact .inl h
          · exact .inr (.inr h)

/-! ### Memory (R37) -/

@[simp] theorem memRead_nil (a : Nat) : memRead [] a = 0 := rfl

/-- A read after a write to the same address gives the byte written. -/
@[simp] theorem memRead_memWrite_same (m : List Host.Cell) (a : Nat) (b : Byte) : memRead (memWrite m a b) a = b := by
  unfold memRead memWrite
  split
  · rename_i h; simp [h]
  · simp

/-- A write leaves every other address alone. -/
theorem memRead_memWrite_other (m : List Host.Cell) (a c : Nat) (b : Byte) (h : c ≠ a) : memRead (memWrite m a b) c = memRead m c := by
  unfold memRead memWrite
  split
  · rw [alGet_alDel_other _ _ _ h]
  · rw [alGet_alPut_other _ _ _ _ h]

/-- A write keeps the canonical form. -/
theorem memWrite_wf (m : List Host.Cell) (a : Nat) (b : Byte) (h : Memory.wf m = true) : Memory.wf (memWrite m a b) = true := by
  simp only [Memory.wf, Bool.and_eq_true, List.all_eq_true, bne_iff_ne, ne_eq] at h ⊢
  unfold memWrite
  split
  · exact ⟨alRises_filter _ _ _ h.1, fun p hp => h.2 p (List.mem_of_mem_filter hp)⟩
  · rename_i hb
    refine ⟨alRises_alPut _ _ _ _ (Nat.zero_le _) h.1, fun p hp => ?_⟩
    rcases mem_alPut hp with rfl | hp
    · exact hb
    · exact h.2 p hp

/-- Writes at consecutive addresses keep the canonical form. -/
theorem memWrites_wf (l : List Byte) (m : List Host.Cell) (a : Nat) (h : Memory.wf m = true) : Memory.wf (memWrites m a l) = true := by
  induction l generalizing m a with
  | nil => exact h
  | cons b l ih => exact ih _ _ (memWrite_wf _ _ _ h)

/-- A selection of the entries (a region of memory cleared) keeps the canonical form. -/
theorem memFilter_wf (f : Host.Cell → Bool) (m : List Host.Cell) (h : Memory.wf m = true) : Memory.wf (m.filter f) = true := by
  simp only [Memory.wf, Bool.and_eq_true, List.all_eq_true] at h ⊢
  exact ⟨alRises_filter _ _ _ h.1, fun p hp => h.2 p (List.mem_of_mem_filter hp)⟩

/-- A write of several bytes leaves every address outside them alone. -/
theorem memRead_memWrites_other (l : List Byte) (m : List Host.Cell) (a c : Nat) (h : c < a ∨ a + l.length ≤ c) :
    memRead (memWrites m a l) c = memRead m c := by
  induction l generalizing m a with
  | nil => rfl
  | cons b l ih =>
    rw [memWrites, ih _ _ (by simp only [List.length_cons] at h; omega), memRead_memWrite_other _ _ _ _ (by simp only [List.length_cons] at h; omega)]

/-- The bytes written are read back. -/
theorem memReads_memWrites_same (l : List Byte) (m : List Host.Cell) (a : Nat) : memReads (memWrites m a l) a l.length = l := by
  induction l generalizing m a with
  | nil => rfl
  | cons b l ih =>
    rw [List.length_cons, memReads, memWrites, ih, memRead_memWrites_other _ _ _ _ (.inl (by omega)), memRead_memWrite_same]

/-- The canonical form is canonical: two memories in it that read alike are equal. -/
theorem Memory.wf_ext {m k : List Host.Cell} (hm : Memory.wf m = true) (hk : Memory.wf k = true) (h : ∀ a, memRead m a = memRead k a) : m = k := by
  have below : ∀ (b : Nat) (l : List Host.Cell) (a : Nat), alRises b l = true → a < b → alGet l a = none := by
    intro b l a
    induction l generalizing b with
    | nil => simp
    | cons p l ih =>
      obtain ⟨c, v⟩ := p
      simp only [alRises, Bool.and_eq_true, decide_eq_true_eq]
      intro h1 h2
      rw [alGet_cons, if_neg (by omega)]
      exact ih _ h1.2 (by omega)
  simp only [Memory.wf, Bool.and_eq_true, List.all_eq_true, bne_iff_ne, ne_eq] at hm hk
  obtain ⟨hm1, hm2⟩ := hm
  obtain ⟨hk1, hk2⟩ := hk
  generalize 0 = b at hm1 hk1
  unfold memRead at h
  induction m generalizing k b with
  | nil =>
    cases k with
    | nil => rfl
    | cons q k =>
      obtain ⟨d, w⟩ := q
      have := h d
      simp [alGet] at this
      exact absurd this.symm (hk2 _ (List.mem_cons_self ..))
  | cons p m ih =>
    obtain ⟨c, v⟩ := p
    have hv := hm2 _ (List.mem_cons_self ..)
    simp only [alRises, Bool.and_eq_true, decide_eq_true_eq] at hm1
    cases k with
    | nil =>
      have := h c
      simp [alGet] at this
      exact absurd this hv
    | cons q k =>
      obtain ⟨d, w⟩ := q
      have hw := hk2 _ (List.mem_cons_self ..)
      simp only [alRises, Bool.and_eq_true, decide_eq_true_eq] at hk1
      have hcd : c = d := by
        rcases Nat.lt_trichotomy c d with hlt | heq | hgt
        · have := h c
          rw [alGet_cons, if_pos rfl, alGet_cons, if_neg (by omega), below _ _ _ hk1.2 (by omega)] at this
          exact absurd this hv
        · exact heq
        · have := h d
          rw [alGet_cons, if_neg (by omega), below _ _ _ hm1.2 (by omega), alGet_cons, if_pos rfl] at this
          exact absurd this.symm hw
      subst hcd
      have hvw : v = w := by
        have := h c
        simpa [alGet] using this
      subst hvw
      congr 1
      refine ih (k := k) ?_ (fun p hp => hm2 p (List.mem_cons_of_mem _ hp)) (fun p hp => hk2 p (List.mem_cons_of_mem _ hp)) (c + 1) hm1.2 hk1.2
      intro a
      by_cases hac : c = a
      · subst hac; rw [below _ _ _ hm1.2 (by omega), below _ _ _ hk1.2 (by omega)]
      · have := h a
        rwa [alGet_cons, if_neg hac, alGet_cons, if_neg hac] at this

end Sys2Proof.Machine
end

