-- ==== Sys2Proof/Laws/Registers.lean ====
section
/-! SUPPORT. Laws of the register file: what a field reads after a write, and what a write leaves alone. -/

namespace Sys2Proof.Machine

/-- The field has a place in a 32-bit register. -/
abbrev Fld.ok (f : Fld) : Prop := f.lo ≤ f.hi ∧ f.hi < 32

/-- Two fields share no bit. -/
abbrev Fld.apart (f g : Fld) : Prop := f.off ≠ g.off ∨ f.hi < g.lo ∨ g.hi < f.lo

theorem putBits_toNat_lt (a b c v hi lo : Nat) (h : lo ≤ hi) (h32 : hi < 32) (ha : a < 2 ^ 32) (hb : b = a / 2 ^ (hi + 1)) (hc : c = a % 2 ^ lo) :
    b * 2 ^ (hi + 1) + v % 2 ^ (hi + 1 - lo) * 2 ^ lo + c < 2 ^ 32 := by
  have e1 : 2 ^ (hi + 1) = 2 ^ (hi + 1 - lo) * 2 ^ lo := by rw [← Nat.pow_add]; congr 1; omega
  have e2 : (2 : Nat) ^ 32 = 2 ^ (32 - (hi + 1)) * 2 ^ (hi + 1) := by rw [← Nat.pow_add]; congr 1; omega
  have hv : v % 2 ^ (hi + 1 - lo) < 2 ^ (hi + 1 - lo) := Nat.mod_lt _ (Nat.two_pow_pos _)
  have hcl : c < 2 ^ lo := hc ▸ Nat.mod_lt _ (Nat.two_pow_pos _)
  have hbl : b < 2 ^ (32 - (hi + 1)) := by
    rw [hb]; exact Nat.div_lt_of_lt_mul (by rw [Nat.mul_comm, ← e2]; exact ha)
  have h1 : v % 2 ^ (hi + 1 - lo) * 2 ^ lo + c < 2 ^ (hi + 1) := by
    rw [e1]
    calc v % 2 ^ (hi + 1 - lo) * 2 ^ lo + c < v % 2 ^ (hi + 1 - lo) * 2 ^ lo + 2 ^ lo := by omega
      _ = (v % 2 ^ (hi + 1 - lo) + 1) * 2 ^ lo := by ring
      _ ≤ _ := Nat.mul_le_mul_right _ hv
  rw [e2]
  calc b * 2 ^ (hi + 1) + v % 2 ^ (hi + 1 - lo) * 2 ^ lo + c < b * 2 ^ (hi + 1) + 2 ^ (hi + 1) := by omega
    _ = (b + 1) * 2 ^ (hi + 1) := by ring
    _ ≤ _ := Nat.mul_le_mul_right _ hbl

theorem putBits_toNat (w : Word) (hi lo v : Nat) (h : lo ≤ hi) (h32 : hi < 32) :
    (putBits w hi lo v).toNat = w.toNat / 2 ^ (hi + 1) * 2 ^ (hi + 1) + v % 2 ^ (hi + 1 - lo) * 2 ^ lo + w.toNat % 2 ^ lo := by
  unfold putBits
  rw [BitVec.toNat_ofNat]
  exact Nat.mod_eq_of_lt (putBits_toNat_lt _ _ _ _ _ _ h h32 w.isLt rfl rfl)

/-- The bits put into a field are read there. -/
theorem bitsOf_putBits_same (w : Word) (hi lo v : Nat) (h : lo ≤ hi) (h32 : hi < 32) : bitsOf (putBits w hi lo v) hi lo = v % 2 ^ (hi + 1 - lo) := by
  unfold bitsOf
  rw [putBits_toNat _ _ _ _ h h32]
  have e1 : 2 ^ (hi + 1) = 2 ^ (hi + 1 - lo) * 2 ^ lo := by rw [← Nat.pow_add]; congr 1; omega
  have hc : w.toNat % 2 ^ lo < 2 ^ lo := Nat.mod_lt _ (Nat.two_pow_pos _)
  have hd : (w.toNat / 2 ^ (hi + 1) * 2 ^ (hi + 1) + v % 2 ^ (hi + 1 - lo) * 2 ^ lo + w.toNat % 2 ^ lo) / 2 ^ lo =
      w.toNat / 2 ^ (hi + 1) * 2 ^ (hi + 1 - lo) + v % 2 ^ (hi + 1 - lo) := by
    rw [show w.toNat / 2 ^ (hi + 1) * 2 ^ (hi + 1) + v % 2 ^ (hi + 1 - lo) * 2 ^ lo + w.toNat % 2 ^ lo =
      w.toNat % 2 ^ lo + (w.toNat / 2 ^ (hi + 1) * 2 ^ (hi + 1 - lo) + v % 2 ^ (hi + 1 - lo)) * 2 ^ lo by rw [e1]; ring]
    rw [Nat.add_mul_div_right _ _ (Nat.two_pow_pos _), Nat.div_eq_of_lt hc, Nat.zero_add]
  rw [hd, Nat.add_comm, Nat.add_mul_mod_self_right, Nat.mod_mod]

theorem putBits_testBit (w : Word) (hi lo v i : Nat) (h : lo ≤ hi) (h32 : hi < 32) (hi' : i < lo ∨ hi < i) :
    (putBits w hi lo v).toNat.testBit i = w.toNat.testBit i := by
  rw [putBits_toNat _ _ _ _ h h32]
  have e1 : 2 ^ (hi + 1) = 2 ^ (hi + 1 - lo) * 2 ^ lo := by rw [← Nat.pow_add]; congr 1; omega
  have hc : w.toNat % 2 ^ lo < 2 ^ lo := Nat.mod_lt _ (Nat.two_pow_pos _)
  have hv : v % 2 ^ (hi + 1 - lo) < 2 ^ (hi + 1 - lo) := Nat.mod_lt _ (Nat.two_pow_pos _)
  rcases hi' with hi' | hi'
  · rw [show w.toNat / 2 ^ (hi + 1) * 2 ^ (hi + 1) + v % 2 ^ (hi + 1 - lo) * 2 ^ lo + w.toNat % 2 ^ lo =
      2 ^ lo * (w.toNat / 2 ^ (hi + 1) * 2 ^ (hi + 1 - lo) + v % 2 ^ (hi + 1 - lo)) + w.toNat % 2 ^ lo by rw [e1]; ring]
    rw [Nat.testBit_two_pow_mul_add _ hc, if_pos hi', Nat.testBit_mod_two_pow]
    simp [hi']
  · have hlt : v % 2 ^ (hi + 1 - lo) * 2 ^ lo + w.toNat % 2 ^ lo < 2 ^ (hi + 1) := by
      rw [e1]
      calc v % 2 ^ (hi + 1 - lo) * 2 ^ lo + w.toNat % 2 ^ lo < v % 2 ^ (hi + 1 - lo) * 2 ^ lo + 2 ^ lo := by omega
        _ = (v % 2 ^ (hi + 1 - lo) + 1) * 2 ^ lo := by ring
        _ ≤ _ := Nat.mul_le_mul_right _ hv
    rw [Nat.add_assoc, Nat.mul_comm (w.toNat / 2 ^ (hi + 1)), Nat.testBit_two_pow_mul_add _ hlt, if_neg (by omega), Nat.testBit_div_two_pow]
    congr 1; omega

theorem bitsOf_testBit (w : Word) (hi lo i : Nat) : (bitsOf w hi lo).testBit i = (decide (i < hi + 1 - lo) && w.toNat.testBit (i + lo)) := by
  unfold bitsOf
  rw [Nat.testBit_mod_two_pow, Nat.testBit_div_two_pow]

/-- A field put leaves the bits of every other field alone. -/
theorem bitsOf_putBits_other (w : Word) (hi lo hi' lo' v : Nat) (h : lo ≤ hi) (h32 : hi < 32) (hd : hi < lo' ∨ hi' < lo) :
    bitsOf (putBits w hi lo v) hi' lo' = bitsOf w hi' lo' := by
  apply Nat.eq_of_testBit_eq
  intro i
  rw [bitsOf_testBit, bitsOf_testBit]
  by_cases hi2 : i < hi' + 1 - lo'
  · rw [putBits_testBit _ _ _ _ _ h h32 (by omega)]
  · simp [hi2]

/-! ### Registers -/

/-- A register holds what was written to it. -/
@[simp] theorem State.reg_setReg_same (s : State) (off : Nat) (w : Word) : (s.setReg off w).reg off = w := by
  unfold State.setReg State.reg
  dsimp only
  split
  · rename_i h; simp [h]
  · simp

/-- A write leaves every other register alone. -/
theorem State.reg_setReg_other (s : State) (off k : Nat) (w : Word) (h : k ≠ off) : (s.setReg off w).reg k = s.reg k := by
  unfold State.setReg State.reg
  dsimp only
  split
  · rw [alGet_alDel_other _ _ _ h]
  · rw [alGet_alPut_other _ _ _ _ h]

/-- A field reads what was written to it, modulo its width. -/
theorem State.fld_setFld_same (s : State) (f : Fld) (v : Nat) (h : f.ok := by decide) : (s.setFld f v).fld f = v % 2 ^ f.width := by
  unfold State.fld State.setFld Fld.width
  rw [State.reg_setReg_same, bitsOf_putBits_same _ _ _ _ h.1 h.2]

/-- A field reads a value that fits it. -/
theorem State.fld_setFld_fits (s : State) (f : Fld) (v : Nat) (hv : v < 2 ^ f.width) (h : f.ok := by decide) : (s.setFld f v).fld f = v := by
  rw [State.fld_setFld_same _ _ _ h, Nat.mod_eq_of_lt hv]

/-- A field keeps its value when another is written. -/
theorem State.fld_setFld_other (s : State) (f g : Fld) (v : Nat) (h : f.ok := by decide) (hd : f.apart g := by decide) :
    (s.setFld f v).fld g = s.fld g := by
  unfold State.fld State.setFld
  by_cases ho : g.off = f.off
  · rw [ho, State.reg_setReg_same, bitsOf_putBits_other _ _ _ _ _ _ h.1 h.2 (by rcases hd with hd | hd | hd <;> omega)]
  · rw [State.reg_setReg_other _ _ _ _ ho]

/-- A field's write leaves every other register alone. -/
theorem State.reg_setFld_other (s : State) (f : Fld) (v k : Nat) (h : k ≠ f.off) : (s.setFld f v).reg k = s.reg k :=
  State.reg_setReg_other _ _ _ _ h

/-- A field is less than its range. -/
theorem State.fld_lt (s : State) (f : Fld) : s.fld f < 2 ^ f.width := by
  unfold State.fld bitsOf Fld.width
  exact Nat.mod_lt _ (Nat.two_pow_pos _)

/-- A one-bit field reads the Bool written to it. -/
theorem State.bit_setBit_same (s : State) (f : Fld) (b : Bool) (h : f.ok := by decide) : (s.setBit f b).bit f = b := by
  unfold State.bit State.setBit
  have hw : 1 < 2 ^ f.width := Nat.one_lt_two_pow (by unfold Fld.width; omega)
  cases b
  · rw [State.fld_setFld_fits _ _ _ (by simp) h]; rfl
  · rw [State.fld_setFld_fits _ _ _ (by simpa using hw) h]; rfl

/-- A one-bit field keeps its value when another field is written. -/
theorem State.bit_setFld_other (s : State) (f g : Fld) (v : Nat) (h : f.ok := by decide) (hd : f.apart g := by decide) :
    (s.setFld f v).bit g = s.bit g := by
  unfold State.bit; rw [State.fld_setFld_other _ _ _ _ h hd]

end Sys2Proof.Machine
end

