-- ==== Sys2Proof/Laws/State.lean ====
section
/-! SUPPORT. What each update of the state leaves alone: one lemma per field per update. -/

namespace Sys2Proof.Machine

/-! ### `State.setReg` -/

@[simp] theorem State.setReg_pending (s : State) (off : Nat) (w : Word) : (s.setReg off w).pending = s.pending := rfl
@[simp] theorem State.setReg_free (s : State) (off : Nat) (w : Word) : (s.setReg off w).free = s.free := rfl
@[simp] theorem State.setReg_part (s : State) (off : Nat) (w : Word) : (s.setReg off w).part = s.part := rfl
@[simp] theorem State.setReg_mode (s : State) (off : Nat) (w : Word) : (s.setReg off w).mode = s.mode := rfl
@[simp] theorem State.setReg_prevMode (s : State) (off : Nat) (w : Word) : (s.setReg off w).prevMode = s.prevMode := rfl
@[simp] theorem State.setReg_changes (s : State) (off : Nat) (w : Word) : (s.setReg off w).changes = s.changes := rfl
@[simp] theorem State.setReg_mrtQ (s : State) (off : Nat) (w : Word) : (s.setReg off w).mrtQ = s.mrtQ := rfl
@[simp] theorem State.setReg_latch (s : State) (off : Nat) (w : Word) : (s.setReg off w).latch = s.latch := rfl
@[simp] theorem State.setReg_out (s : State) (off : Nat) (w : Word) : (s.setReg off w).out = s.out := rfl
@[simp] theorem State.setReg_kept (s : State) (off : Nat) (w : Word) : (s.setReg off w).kept = s.kept := rfl
@[simp] theorem State.setReg_gate (s : State) (off : Nat) (w : Word) : (s.setReg off w).gate = s.gate := rfl
@[simp] theorem State.setReg_weft (s : State) (off : Nat) (w : Word) : (s.setReg off w).weft = s.weft := rfl
@[simp] theorem State.setReg_spool (s : State) (off : Nat) (w : Word) : (s.setReg off w).spool = s.spool := rfl
@[simp] theorem State.setReg_ev (s : State) (off : Nat) (w : Word) : (s.setReg off w).ev = s.ev := rfl
@[simp] theorem State.setReg_mons (s : State) (off : Nat) (w : Word) : (s.setReg off w).mons = s.mons := rfl
@[simp] theorem State.setReg_peatQ (s : State) (off : Nat) (w : Word) : (s.setReg off w).peatQ = s.peatQ := rfl
@[simp] theorem State.setReg_peatSnap (s : State) (off : Nat) (w : Word) : (s.setReg off w).peatSnap = s.peatSnap := rfl
@[simp] theorem State.setReg_pcie (s : State) (off : Nat) (w : Word) : (s.setReg off w).pcie = s.pcie := rfl
@[simp] theorem State.setReg_pcieHeld (s : State) (off : Nat) (w : Word) : (s.setReg off w).pcieHeld = s.pcieHeld := rfl
@[simp] theorem State.setReg_mqpOut (s : State) (off : Nat) (w : Word) : (s.setReg off w).mqpOut = s.mqpOut := rfl
@[simp] theorem State.setReg_sbus (s : State) (off : Nat) (w : Word) : (s.setReg off w).sbus = s.sbus := rfl
@[simp] theorem State.setReg_cryp (s : State) (off : Nat) (w : Word) : (s.setReg off w).cryp = s.cryp := rfl
@[simp] theorem State.setReg_scan (s : State) (off : Nat) (w : Word) : (s.setReg off w).scan = s.scan := rfl
@[simp] theorem State.setReg_lks (s : State) (off : Nat) (w : Word) : (s.setReg off w).lks = s.lks := rfl
@[simp] theorem State.setReg_fuses (s : State) (off : Nat) (w : Word) : (s.setReg off w).fuses = s.fuses := rfl
@[simp] theorem State.setReg_thm (s : State) (off : Nat) (w : Word) : (s.setReg off w).thm = s.thm := rfl
@[simp] theorem State.setReg_clk (s : State) (off : Nat) (w : Word) : (s.setReg off w).clk = s.clk := rfl
@[simp] theorem State.setReg_save (s : State) (off : Nat) (w : Word) : (s.setReg off w).save = s.save := rfl
@[simp] theorem State.setReg_pf (s : State) (off : Nat) (w : Word) : (s.setReg off w).pf = s.pf := rfl
@[simp] theorem State.setReg_brownout (s : State) (off : Nat) (w : Word) : (s.setReg off w).brownout = s.brownout := rfl
@[simp] theorem State.setReg_entries (s : State) (off : Nat) (w : Word) : (s.setReg off w).entries = s.entries := rfl
@[simp] theorem State.setReg_descs (s : State) (off : Nat) (w : Word) : (s.setReg off w).descs = s.descs := rfl
@[simp] theorem State.setReg_shared (s : State) (off : Nat) (w : Word) : (s.setReg off w).shared = s.shared := rfl
@[simp] theorem State.setReg_tlr (s : State) (off : Nat) (w : Word) : (s.setReg off w).tlr = s.tlr := rfl
@[simp] theorem State.setReg_fetches (s : State) (off : Nat) (w : Word) : (s.setReg off w).fetches = s.fetches := rfl
@[simp] theorem State.setReg_parks (s : State) (off : Nat) (w : Word) : (s.setReg off w).parks = s.parks := rfl
@[simp] theorem State.setReg_pops (s : State) (off : Nat) (w : Word) : (s.setReg off w).pops = s.pops := rfl
@[simp] theorem State.setReg_retFrames (s : State) (off : Nat) (w : Word) : (s.setReg off w).retFrames = s.retFrames := rfl
@[simp] theorem State.setReg_retBanks (s : State) (off : Nat) (w : Word) : (s.setReg off w).retBanks = s.retBanks := rfl
@[simp] theorem State.setReg_retRecs (s : State) (off : Nat) (w : Word) : (s.setReg off w).retRecs = s.retRecs := rfl
@[simp] theorem State.setReg_serials (s : State) (off : Nat) (w : Word) : (s.setReg off w).serials = s.serials := rfl
@[simp] theorem State.setReg_moved (s : State) (off : Nat) (w : Word) : (s.setReg off w).moved = s.moved := rfl
@[simp] theorem State.setReg_nc (s : State) (off : Nat) (w : Word) : (s.setReg off w).nc = s.nc := rfl
@[simp] theorem State.setReg_ports (s : State) (off : Nat) (w : Word) : (s.setReg off w).ports = s.ports := rfl
@[simp] theorem State.setReg_fencedAt (s : State) (off : Nat) (w : Word) : (s.setReg off w).fencedAt = s.fencedAt := rfl
@[simp] theorem State.setReg_seam (s : State) (off : Nat) (w : Word) : (s.setReg off w).seam = s.seam := rfl
@[simp] theorem State.setReg_tests (s : State) (off : Nat) (w : Word) : (s.setReg off w).tests = s.tests := rfl
@[simp] theorem State.setReg_nand (s : State) (off : Nat) (w : Word) : (s.setReg off w).nand = s.nand := rfl
@[simp] theorem State.setReg_svn (s : State) (off : Nat) (w : Word) : (s.setReg off w).svn = s.svn := rfl
@[simp] theorem State.setReg_area (s : State) (off : Nat) (w : Word) : (s.setReg off w).area = s.area := rfl
@[simp] theorem State.setReg_drams (s : State) (off : Nat) (w : Word) : (s.setReg off w).drams = s.drams := rfl
@[simp] theorem State.setReg_dmarks (s : State) (off : Nat) (w : Word) : (s.setReg off w).dmarks = s.dmarks := rfl
@[simp] theorem State.setReg_fen (s : State) (off : Nat) (w : Word) : (s.setReg off w).fen = s.fen := rfl
@[simp] theorem State.setReg_doze (s : State) (off : Nat) (w : Word) : (s.setReg off w).doze = s.doze := rfl
@[simp] theorem State.setReg_nor (s : State) (off : Nat) (w : Word) : (s.setReg off w).nor = s.nor := rfl
@[simp] theorem State.setReg_boot (s : State) (off : Nat) (w : Word) : (s.setReg off w).boot = s.boot := rfl

/-! ### `State.setFld` -/

@[simp] theorem State.setFld_pending (s : State) (f : Fld) (v : Nat) : (s.setFld f v).pending = s.pending := rfl
@[simp] theorem State.setFld_free (s : State) (f : Fld) (v : Nat) : (s.setFld f v).free = s.free := rfl
@[simp] theorem State.setFld_part (s : State) (f : Fld) (v : Nat) : (s.setFld f v).part = s.part := rfl
@[simp] theorem State.setFld_mode (s : State) (f : Fld) (v : Nat) : (s.setFld f v).mode = s.mode := rfl
@[simp] theorem State.setFld_prevMode (s : State) (f : Fld) (v : Nat) : (s.setFld f v).prevMode = s.prevMode := rfl
@[simp] theorem State.setFld_changes (s : State) (f : Fld) (v : Nat) : (s.setFld f v).changes = s.changes := rfl
@[simp] theorem State.setFld_mrtQ (s : State) (f : Fld) (v : Nat) : (s.setFld f v).mrtQ = s.mrtQ := rfl
@[simp] theorem State.setFld_latch (s : State) (f : Fld) (v : Nat) : (s.setFld f v).latch = s.latch := rfl
@[simp] theorem State.setFld_out (s : State) (f : Fld) (v : Nat) : (s.setFld f v).out = s.out := rfl
@[simp] theorem State.setFld_kept (s : State) (f : Fld) (v : Nat) : (s.setFld f v).kept = s.kept := rfl
@[simp] theorem State.setFld_gate (s : State) (f : Fld) (v : Nat) : (s.setFld f v).gate = s.gate := rfl
@[simp] theorem State.setFld_weft (s : State) (f : Fld) (v : Nat) : (s.setFld f v).weft = s.weft := rfl
@[simp] theorem State.setFld_spool (s : State) (f : Fld) (v : Nat) : (s.setFld f v).spool = s.spool := rfl
@[simp] theorem State.setFld_ev (s : State) (f : Fld) (v : Nat) : (s.setFld f v).ev = s.ev := rfl
@[simp] theorem State.setFld_mons (s : State) (f : Fld) (v : Nat) : (s.setFld f v).mons = s.mons := rfl
@[simp] theorem State.setFld_peatQ (s : State) (f : Fld) (v : Nat) : (s.setFld f v).peatQ = s.peatQ := rfl
@[simp] theorem State.setFld_peatSnap (s : State) (f : Fld) (v : Nat) : (s.setFld f v).peatSnap = s.peatSnap := rfl
@[simp] theorem State.setFld_pcie (s : State) (f : Fld) (v : Nat) : (s.setFld f v).pcie = s.pcie := rfl
@[simp] theorem State.setFld_pcieHeld (s : State) (f : Fld) (v : Nat) : (s.setFld f v).pcieHeld = s.pcieHeld := rfl
@[simp] theorem State.setFld_mqpOut (s : State) (f : Fld) (v : Nat) : (s.setFld f v).mqpOut = s.mqpOut := rfl
@[simp] theorem State.setFld_sbus (s : State) (f : Fld) (v : Nat) : (s.setFld f v).sbus = s.sbus := rfl
@[simp] theorem State.setFld_cryp (s : State) (f : Fld) (v : Nat) : (s.setFld f v).cryp = s.cryp := rfl
@[simp] theorem State.setFld_scan (s : State) (f : Fld) (v : Nat) : (s.setFld f v).scan = s.scan := rfl
@[simp] theorem State.setFld_lks (s : State) (f : Fld) (v : Nat) : (s.setFld f v).lks = s.lks := rfl
@[simp] theorem State.setFld_fuses (s : State) (f : Fld) (v : Nat) : (s.setFld f v).fuses = s.fuses := rfl
@[simp] theorem State.setFld_thm (s : State) (f : Fld) (v : Nat) : (s.setFld f v).thm = s.thm := rfl
@[simp] theorem State.setFld_clk (s : State) (f : Fld) (v : Nat) : (s.setFld f v).clk = s.clk := rfl
@[simp] theorem State.setFld_save (s : State) (f : Fld) (v : Nat) : (s.setFld f v).save = s.save := rfl
@[simp] theorem State.setFld_pf (s : State) (f : Fld) (v : Nat) : (s.setFld f v).pf = s.pf := rfl
@[simp] theorem State.setFld_brownout (s : State) (f : Fld) (v : Nat) : (s.setFld f v).brownout = s.brownout := rfl
@[simp] theorem State.setFld_entries (s : State) (f : Fld) (v : Nat) : (s.setFld f v).entries = s.entries := rfl
@[simp] theorem State.setFld_descs (s : State) (f : Fld) (v : Nat) : (s.setFld f v).descs = s.descs := rfl
@[simp] theorem State.setFld_shared (s : State) (f : Fld) (v : Nat) : (s.setFld f v).shared = s.shared := rfl
@[simp] theorem State.setFld_tlr (s : State) (f : Fld) (v : Nat) : (s.setFld f v).tlr = s.tlr := rfl
@[simp] theorem State.setFld_fetches (s : State) (f : Fld) (v : Nat) : (s.setFld f v).fetches = s.fetches := rfl
@[simp] theorem State.setFld_parks (s : State) (f : Fld) (v : Nat) : (s.setFld f v).parks = s.parks := rfl
@[simp] theorem State.setFld_pops (s : State) (f : Fld) (v : Nat) : (s.setFld f v).pops = s.pops := rfl
@[simp] theorem State.setFld_retFrames (s : State) (f : Fld) (v : Nat) : (s.setFld f v).retFrames = s.retFrames := rfl
@[simp] theorem State.setFld_retBanks (s : State) (f : Fld) (v : Nat) : (s.setFld f v).retBanks = s.retBanks := rfl
@[simp] theorem State.setFld_retRecs (s : State) (f : Fld) (v : Nat) : (s.setFld f v).retRecs = s.retRecs := rfl
@[simp] theorem State.setFld_serials (s : State) (f : Fld) (v : Nat) : (s.setFld f v).serials = s.serials := rfl
@[simp] theorem State.setFld_moved (s : State) (f : Fld) (v : Nat) : (s.setFld f v).moved = s.moved := rfl
@[simp] theorem State.setFld_nc (s : State) (f : Fld) (v : Nat) : (s.setFld f v).nc = s.nc := rfl
@[simp] theorem State.setFld_ports (s : State) (f : Fld) (v : Nat) : (s.setFld f v).ports = s.ports := rfl
@[simp] theorem State.setFld_fencedAt (s : State) (f : Fld) (v : Nat) : (s.setFld f v).fencedAt = s.fencedAt := rfl
@[simp] theorem State.setFld_seam (s : State) (f : Fld) (v : Nat) : (s.setFld f v).seam = s.seam := rfl
@[simp] theorem State.setFld_tests (s : State) (f : Fld) (v : Nat) : (s.setFld f v).tests = s.tests := rfl
@[simp] theorem State.setFld_nand (s : State) (f : Fld) (v : Nat) : (s.setFld f v).nand = s.nand := rfl
@[simp] theorem State.setFld_svn (s : State) (f : Fld) (v : Nat) : (s.setFld f v).svn = s.svn := rfl
@[simp] theorem State.setFld_area (s : State) (f : Fld) (v : Nat) : (s.setFld f v).area = s.area := rfl
@[simp] theorem State.setFld_drams (s : State) (f : Fld) (v : Nat) : (s.setFld f v).drams = s.drams := rfl
@[simp] theorem State.setFld_dmarks (s : State) (f : Fld) (v : Nat) : (s.setFld f v).dmarks = s.dmarks := rfl
@[simp] theorem State.setFld_fen (s : State) (f : Fld) (v : Nat) : (s.setFld f v).fen = s.fen := rfl
@[simp] theorem State.setFld_doze (s : State) (f : Fld) (v : Nat) : (s.setFld f v).doze = s.doze := rfl
@[simp] theorem State.setFld_nor (s : State) (f : Fld) (v : Nat) : (s.setFld f v).nor = s.nor := rfl
@[simp] theorem State.setFld_boot (s : State) (f : Fld) (v : Nat) : (s.setFld f v).boot = s.boot := rfl

/-! ### `State.setBit` -/

@[simp] theorem State.setBit_pending (s : State) (f : Fld) (b : Bool) : (s.setBit f b).pending = s.pending := rfl
@[simp] theorem State.setBit_free (s : State) (f : Fld) (b : Bool) : (s.setBit f b).free = s.free := rfl
@[simp] theorem State.setBit_part (s : State) (f : Fld) (b : Bool) : (s.setBit f b).part = s.part := rfl
@[simp] theorem State.setBit_mode (s : State) (f : Fld) (b : Bool) : (s.setBit f b).mode = s.mode := rfl
@[simp] theorem State.setBit_prevMode (s : State) (f : Fld) (b : Bool) : (s.setBit f b).prevMode = s.prevMode := rfl
@[simp] theorem State.setBit_changes (s : State) (f : Fld) (b : Bool) : (s.setBit f b).changes = s.changes := rfl
@[simp] theorem State.setBit_mrtQ (s : State) (f : Fld) (b : Bool) : (s.setBit f b).mrtQ = s.mrtQ := rfl
@[simp] theorem State.setBit_latch (s : State) (f : Fld) (b : Bool) : (s.setBit f b).latch = s.latch := rfl
@[simp] theorem State.setBit_out (s : State) (f : Fld) (b : Bool) : (s.setBit f b).out = s.out := rfl
@[simp] theorem State.setBit_kept (s : State) (f : Fld) (b : Bool) : (s.setBit f b).kept = s.kept := rfl
@[simp] theorem State.setBit_gate (s : State) (f : Fld) (b : Bool) : (s.setBit f b).gate = s.gate := rfl
@[simp] theorem State.setBit_weft (s : State) (f : Fld) (b : Bool) : (s.setBit f b).weft = s.weft := rfl
@[simp] theorem State.setBit_spool (s : State) (f : Fld) (b : Bool) : (s.setBit f b).spool = s.spool := rfl
@[simp] theorem State.setBit_ev (s : State) (f : Fld) (b : Bool) : (s.setBit f b).ev = s.ev := rfl
@[simp] theorem State.setBit_mons (s : State) (f : Fld) (b : Bool) : (s.setBit f b).mons = s.mons := rfl
@[simp] theorem State.setBit_peatQ (s : State) (f : Fld) (b : Bool) : (s.setBit f b).peatQ = s.peatQ := rfl
@[simp] theorem State.setBit_peatSnap (s : State) (f : Fld) (b : Bool) : (s.setBit f b).peatSnap = s.peatSnap := rfl
@[simp] theorem State.setBit_pcie (s : State) (f : Fld) (b : Bool) : (s.setBit f b).pcie = s.pcie := rfl
@[simp] theorem State.setBit_pcieHeld (s : State) (f : Fld) (b : Bool) : (s.setBit f b).pcieHeld = s.pcieHeld := rfl
@[simp] theorem State.setBit_mqpOut (s : State) (f : Fld) (b : Bool) : (s.setBit f b).mqpOut = s.mqpOut := rfl
@[simp] theorem State.setBit_sbus (s : State) (f : Fld) (b : Bool) : (s.setBit f b).sbus = s.sbus := rfl
@[simp] theorem State.setBit_cryp (s : State) (f : Fld) (b : Bool) : (s.setBit f b).cryp = s.cryp := rfl
@[simp] theorem State.setBit_scan (s : State) (f : Fld) (b : Bool) : (s.setBit f b).scan = s.scan := rfl
@[simp] theorem State.setBit_lks (s : State) (f : Fld) (b : Bool) : (s.setBit f b).lks = s.lks := rfl
@[simp] theorem State.setBit_fuses (s : State) (f : Fld) (b : Bool) : (s.setBit f b).fuses = s.fuses := rfl
@[simp] theorem State.setBit_thm (s : State) (f : Fld) (b : Bool) : (s.setBit f b).thm = s.thm := rfl
@[simp] theorem State.setBit_clk (s : State) (f : Fld) (b : Bool) : (s.setBit f b).clk = s.clk := rfl
@[simp] theorem State.setBit_save (s : State) (f : Fld) (b : Bool) : (s.setBit f b).save = s.save := rfl
@[simp] theorem State.setBit_pf (s : State) (f : Fld) (b : Bool) : (s.setBit f b).pf = s.pf := rfl
@[simp] theorem State.setBit_brownout (s : State) (f : Fld) (b : Bool) : (s.setBit f b).brownout = s.brownout := rfl
@[simp] theorem State.setBit_entries (s : State) (f : Fld) (b : Bool) : (s.setBit f b).entries = s.entries := rfl
@[simp] theorem State.setBit_descs (s : State) (f : Fld) (b : Bool) : (s.setBit f b).descs = s.descs := rfl
@[simp] theorem State.setBit_shared (s : State) (f : Fld) (b : Bool) : (s.setBit f b).shared = s.shared := rfl
@[simp] theorem State.setBit_tlr (s : State) (f : Fld) (b : Bool) : (s.setBit f b).tlr = s.tlr := rfl
@[simp] theorem State.setBit_fetches (s : State) (f : Fld) (b : Bool) : (s.setBit f b).fetches = s.fetches := rfl
@[simp] theorem State.setBit_parks (s : State) (f : Fld) (b : Bool) : (s.setBit f b).parks = s.parks := rfl
@[simp] theorem State.setBit_pops (s : State) (f : Fld) (b : Bool) : (s.setBit f b).pops = s.pops := rfl
@[simp] theorem State.setBit_retFrames (s : State) (f : Fld) (b : Bool) : (s.setBit f b).retFrames = s.retFrames := rfl
@[simp] theorem State.setBit_retBanks (s : State) (f : Fld) (b : Bool) : (s.setBit f b).retBanks = s.retBanks := rfl
@[simp] theorem State.setBit_retRecs (s : State) (f : Fld) (b : Bool) : (s.setBit f b).retRecs = s.retRecs := rfl
@[simp] theorem State.setBit_serials (s : State) (f : Fld) (b : Bool) : (s.setBit f b).serials = s.serials := rfl
@[simp] theorem State.setBit_moved (s : State) (f : Fld) (b : Bool) : (s.setBit f b).moved = s.moved := rfl
@[simp] theorem State.setBit_nc (s : State) (f : Fld) (b : Bool) : (s.setBit f b).nc = s.nc := rfl
@[simp] theorem State.setBit_ports (s : State) (f : Fld) (b : Bool) : (s.setBit f b).ports = s.ports := rfl
@[simp] theorem State.setBit_fencedAt (s : State) (f : Fld) (b : Bool) : (s.setBit f b).fencedAt = s.fencedAt := rfl
@[simp] theorem State.setBit_seam (s : State) (f : Fld) (b : Bool) : (s.setBit f b).seam = s.seam := rfl
@[simp] theorem State.setBit_tests (s : State) (f : Fld) (b : Bool) : (s.setBit f b).tests = s.tests := rfl
@[simp] theorem State.setBit_nand (s : State) (f : Fld) (b : Bool) : (s.setBit f b).nand = s.nand := rfl
@[simp] theorem State.setBit_svn (s : State) (f : Fld) (b : Bool) : (s.setBit f b).svn = s.svn := rfl
@[simp] theorem State.setBit_area (s : State) (f : Fld) (b : Bool) : (s.setBit f b).area = s.area := rfl
@[simp] theorem State.setBit_drams (s : State) (f : Fld) (b : Bool) : (s.setBit f b).drams = s.drams := rfl
@[simp] theorem State.setBit_dmarks (s : State) (f : Fld) (b : Bool) : (s.setBit f b).dmarks = s.dmarks := rfl
@[simp] theorem State.setBit_fen (s : State) (f : Fld) (b : Bool) : (s.setBit f b).fen = s.fen := rfl
@[simp] theorem State.setBit_doze (s : State) (f : Fld) (b : Bool) : (s.setBit f b).doze = s.doze := rfl
@[simp] theorem State.setBit_nor (s : State) (f : Fld) (b : Bool) : (s.setBit f b).nor = s.nor := rfl
@[simp] theorem State.setBit_boot (s : State) (f : Fld) (b : Bool) : (s.setBit f b).boot = s.boot := rfl

/-! ### `State.wrap` -/

@[simp] theorem State.wrap_pending (s : State) (f : Fld) (n : Nat) : (s.wrap f n).pending = s.pending := rfl
@[simp] theorem State.wrap_free (s : State) (f : Fld) (n : Nat) : (s.wrap f n).free = s.free := rfl
@[simp] theorem State.wrap_part (s : State) (f : Fld) (n : Nat) : (s.wrap f n).part = s.part := rfl
@[simp] theorem State.wrap_mode (s : State) (f : Fld) (n : Nat) : (s.wrap f n).mode = s.mode := rfl
@[simp] theorem State.wrap_prevMode (s : State) (f : Fld) (n : Nat) : (s.wrap f n).prevMode = s.prevMode := rfl
@[simp] theorem State.wrap_changes (s : State) (f : Fld) (n : Nat) : (s.wrap f n).changes = s.changes := rfl
@[simp] theorem State.wrap_mrtQ (s : State) (f : Fld) (n : Nat) : (s.wrap f n).mrtQ = s.mrtQ := rfl
@[simp] theorem State.wrap_latch (s : State) (f : Fld) (n : Nat) : (s.wrap f n).latch = s.latch := rfl
@[simp] theorem State.wrap_out (s : State) (f : Fld) (n : Nat) : (s.wrap f n).out = s.out := rfl
@[simp] theorem State.wrap_kept (s : State) (f : Fld) (n : Nat) : (s.wrap f n).kept = s.kept := rfl
@[simp] theorem State.wrap_gate (s : State) (f : Fld) (n : Nat) : (s.wrap f n).gate = s.gate := rfl
@[simp] theorem State.wrap_weft (s : State) (f : Fld) (n : Nat) : (s.wrap f n).weft = s.weft := rfl
@[simp] theorem State.wrap_spool (s : State) (f : Fld) (n : Nat) : (s.wrap f n).spool = s.spool := rfl
@[simp] theorem State.wrap_ev (s : State) (f : Fld) (n : Nat) : (s.wrap f n).ev = s.ev := rfl
@[simp] theorem State.wrap_mons (s : State) (f : Fld) (n : Nat) : (s.wrap f n).mons = s.mons := rfl
@[simp] theorem State.wrap_peatQ (s : State) (f : Fld) (n : Nat) : (s.wrap f n).peatQ = s.peatQ := rfl
@[simp] theorem State.wrap_peatSnap (s : State) (f : Fld) (n : Nat) : (s.wrap f n).peatSnap = s.peatSnap := rfl
@[simp] theorem State.wrap_pcie (s : State) (f : Fld) (n : Nat) : (s.wrap f n).pcie = s.pcie := rfl
@[simp] theorem State.wrap_pcieHeld (s : State) (f : Fld) (n : Nat) : (s.wrap f n).pcieHeld = s.pcieHeld := rfl
@[simp] theorem State.wrap_mqpOut (s : State) (f : Fld) (n : Nat) : (s.wrap f n).mqpOut = s.mqpOut := rfl
@[simp] theorem State.wrap_sbus (s : State) (f : Fld) (n : Nat) : (s.wrap f n).sbus = s.sbus := rfl
@[simp] theorem State.wrap_cryp (s : State) (f : Fld) (n : Nat) : (s.wrap f n).cryp = s.cryp := rfl
@[simp] theorem State.wrap_scan (s : State) (f : Fld) (n : Nat) : (s.wrap f n).scan = s.scan := rfl
@[simp] theorem State.wrap_lks (s : State) (f : Fld) (n : Nat) : (s.wrap f n).lks = s.lks := rfl
@[simp] theorem State.wrap_fuses (s : State) (f : Fld) (n : Nat) : (s.wrap f n).fuses = s.fuses := rfl
@[simp] theorem State.wrap_thm (s : State) (f : Fld) (n : Nat) : (s.wrap f n).thm = s.thm := rfl
@[simp] theorem State.wrap_clk (s : State) (f : Fld) (n : Nat) : (s.wrap f n).clk = s.clk := rfl
@[simp] theorem State.wrap_save (s : State) (f : Fld) (n : Nat) : (s.wrap f n).save = s.save := rfl
@[simp] theorem State.wrap_pf (s : State) (f : Fld) (n : Nat) : (s.wrap f n).pf = s.pf := rfl
@[simp] theorem State.wrap_brownout (s : State) (f : Fld) (n : Nat) : (s.wrap f n).brownout = s.brownout := rfl
@[simp] theorem State.wrap_entries (s : State) (f : Fld) (n : Nat) : (s.wrap f n).entries = s.entries := rfl
@[simp] theorem State.wrap_descs (s : State) (f : Fld) (n : Nat) : (s.wrap f n).descs = s.descs := rfl
@[simp] theorem State.wrap_shared (s : State) (f : Fld) (n : Nat) : (s.wrap f n).shared = s.shared := rfl
@[simp] theorem State.wrap_tlr (s : State) (f : Fld) (n : Nat) : (s.wrap f n).tlr = s.tlr := rfl
@[simp] theorem State.wrap_fetches (s : State) (f : Fld) (n : Nat) : (s.wrap f n).fetches = s.fetches := rfl
@[simp] theorem State.wrap_parks (s : State) (f : Fld) (n : Nat) : (s.wrap f n).parks = s.parks := rfl
@[simp] theorem State.wrap_pops (s : State) (f : Fld) (n : Nat) : (s.wrap f n).pops = s.pops := rfl
@[simp] theorem State.wrap_retFrames (s : State) (f : Fld) (n : Nat) : (s.wrap f n).retFrames = s.retFrames := rfl
@[simp] theorem State.wrap_retBanks (s : State) (f : Fld) (n : Nat) : (s.wrap f n).retBanks = s.retBanks := rfl
@[simp] theorem State.wrap_retRecs (s : State) (f : Fld) (n : Nat) : (s.wrap f n).retRecs = s.retRecs := rfl
@[simp] theorem State.wrap_serials (s : State) (f : Fld) (n : Nat) : (s.wrap f n).serials = s.serials := rfl
@[simp] theorem State.wrap_moved (s : State) (f : Fld) (n : Nat) : (s.wrap f n).moved = s.moved := rfl
@[simp] theorem State.wrap_nc (s : State) (f : Fld) (n : Nat) : (s.wrap f n).nc = s.nc := rfl
@[simp] theorem State.wrap_ports (s : State) (f : Fld) (n : Nat) : (s.wrap f n).ports = s.ports := rfl
@[simp] theorem State.wrap_fencedAt (s : State) (f : Fld) (n : Nat) : (s.wrap f n).fencedAt = s.fencedAt := rfl
@[simp] theorem State.wrap_seam (s : State) (f : Fld) (n : Nat) : (s.wrap f n).seam = s.seam := rfl
@[simp] theorem State.wrap_tests (s : State) (f : Fld) (n : Nat) : (s.wrap f n).tests = s.tests := rfl
@[simp] theorem State.wrap_nand (s : State) (f : Fld) (n : Nat) : (s.wrap f n).nand = s.nand := rfl
@[simp] theorem State.wrap_svn (s : State) (f : Fld) (n : Nat) : (s.wrap f n).svn = s.svn := rfl
@[simp] theorem State.wrap_area (s : State) (f : Fld) (n : Nat) : (s.wrap f n).area = s.area := rfl
@[simp] theorem State.wrap_drams (s : State) (f : Fld) (n : Nat) : (s.wrap f n).drams = s.drams := rfl
@[simp] theorem State.wrap_dmarks (s : State) (f : Fld) (n : Nat) : (s.wrap f n).dmarks = s.dmarks := rfl
@[simp] theorem State.wrap_fen (s : State) (f : Fld) (n : Nat) : (s.wrap f n).fen = s.fen := rfl
@[simp] theorem State.wrap_doze (s : State) (f : Fld) (n : Nat) : (s.wrap f n).doze = s.doze := rfl
@[simp] theorem State.wrap_nor (s : State) (f : Fld) (n : Nat) : (s.wrap f n).nor = s.nor := rfl
@[simp] theorem State.wrap_boot (s : State) (f : Fld) (n : Nat) : (s.wrap f n).boot = s.boot := rfl

/-! ### `State.sat` -/

@[simp] theorem State.sat_pending (s : State) (f : Fld) (n : Nat) : (s.sat f n).pending = s.pending := rfl
@[simp] theorem State.sat_free (s : State) (f : Fld) (n : Nat) : (s.sat f n).free = s.free := rfl
@[simp] theorem State.sat_part (s : State) (f : Fld) (n : Nat) : (s.sat f n).part = s.part := rfl
@[simp] theorem State.sat_mode (s : State) (f : Fld) (n : Nat) : (s.sat f n).mode = s.mode := rfl
@[simp] theorem State.sat_prevMode (s : State) (f : Fld) (n : Nat) : (s.sat f n).prevMode = s.prevMode := rfl
@[simp] theorem State.sat_changes (s : State) (f : Fld) (n : Nat) : (s.sat f n).changes = s.changes := rfl
@[simp] theorem State.sat_mrtQ (s : State) (f : Fld) (n : Nat) : (s.sat f n).mrtQ = s.mrtQ := rfl
@[simp] theorem State.sat_latch (s : State) (f : Fld) (n : Nat) : (s.sat f n).latch = s.latch := rfl
@[simp] theorem State.sat_out (s : State) (f : Fld) (n : Nat) : (s.sat f n).out = s.out := rfl
@[simp] theorem State.sat_kept (s : State) (f : Fld) (n : Nat) : (s.sat f n).kept = s.kept := rfl
@[simp] theorem State.sat_gate (s : State) (f : Fld) (n : Nat) : (s.sat f n).gate = s.gate := rfl
@[simp] theorem State.sat_weft (s : State) (f : Fld) (n : Nat) : (s.sat f n).weft = s.weft := rfl
@[simp] theorem State.sat_spool (s : State) (f : Fld) (n : Nat) : (s.sat f n).spool = s.spool := rfl
@[simp] theorem State.sat_ev (s : State) (f : Fld) (n : Nat) : (s.sat f n).ev = s.ev := rfl
@[simp] theorem State.sat_mons (s : State) (f : Fld) (n : Nat) : (s.sat f n).mons = s.mons := rfl
@[simp] theorem State.sat_peatQ (s : State) (f : Fld) (n : Nat) : (s.sat f n).peatQ = s.peatQ := rfl
@[simp] theorem State.sat_peatSnap (s : State) (f : Fld) (n : Nat) : (s.sat f n).peatSnap = s.peatSnap := rfl
@[simp] theorem State.sat_pcie (s : State) (f : Fld) (n : Nat) : (s.sat f n).pcie = s.pcie := rfl
@[simp] theorem State.sat_pcieHeld (s : State) (f : Fld) (n : Nat) : (s.sat f n).pcieHeld = s.pcieHeld := rfl
@[simp] theorem State.sat_mqpOut (s : State) (f : Fld) (n : Nat) : (s.sat f n).mqpOut = s.mqpOut := rfl
@[simp] theorem State.sat_sbus (s : State) (f : Fld) (n : Nat) : (s.sat f n).sbus = s.sbus := rfl
@[simp] theorem State.sat_cryp (s : State) (f : Fld) (n : Nat) : (s.sat f n).cryp = s.cryp := rfl
@[simp] theorem State.sat_scan (s : State) (f : Fld) (n : Nat) : (s.sat f n).scan = s.scan := rfl
@[simp] theorem State.sat_lks (s : State) (f : Fld) (n : Nat) : (s.sat f n).lks = s.lks := rfl
@[simp] theorem State.sat_fuses (s : State) (f : Fld) (n : Nat) : (s.sat f n).fuses = s.fuses := rfl
@[simp] theorem State.sat_thm (s : State) (f : Fld) (n : Nat) : (s.sat f n).thm = s.thm := rfl
@[simp] theorem State.sat_clk (s : State) (f : Fld) (n : Nat) : (s.sat f n).clk = s.clk := rfl
@[simp] theorem State.sat_save (s : State) (f : Fld) (n : Nat) : (s.sat f n).save = s.save := rfl
@[simp] theorem State.sat_pf (s : State) (f : Fld) (n : Nat) : (s.sat f n).pf = s.pf := rfl
@[simp] theorem State.sat_brownout (s : State) (f : Fld) (n : Nat) : (s.sat f n).brownout = s.brownout := rfl
@[simp] theorem State.sat_entries (s : State) (f : Fld) (n : Nat) : (s.sat f n).entries = s.entries := rfl
@[simp] theorem State.sat_descs (s : State) (f : Fld) (n : Nat) : (s.sat f n).descs = s.descs := rfl
@[simp] theorem State.sat_shared (s : State) (f : Fld) (n : Nat) : (s.sat f n).shared = s.shared := rfl
@[simp] theorem State.sat_tlr (s : State) (f : Fld) (n : Nat) : (s.sat f n).tlr = s.tlr := rfl
@[simp] theorem State.sat_fetches (s : State) (f : Fld) (n : Nat) : (s.sat f n).fetches = s.fetches := rfl
@[simp] theorem State.sat_parks (s : State) (f : Fld) (n : Nat) : (s.sat f n).parks = s.parks := rfl
@[simp] theorem State.sat_pops (s : State) (f : Fld) (n : Nat) : (s.sat f n).pops = s.pops := rfl
@[simp] theorem State.sat_retFrames (s : State) (f : Fld) (n : Nat) : (s.sat f n).retFrames = s.retFrames := rfl
@[simp] theorem State.sat_retBanks (s : State) (f : Fld) (n : Nat) : (s.sat f n).retBanks = s.retBanks := rfl
@[simp] theorem State.sat_retRecs (s : State) (f : Fld) (n : Nat) : (s.sat f n).retRecs = s.retRecs := rfl
@[simp] theorem State.sat_serials (s : State) (f : Fld) (n : Nat) : (s.sat f n).serials = s.serials := rfl
@[simp] theorem State.sat_moved (s : State) (f : Fld) (n : Nat) : (s.sat f n).moved = s.moved := rfl
@[simp] theorem State.sat_nc (s : State) (f : Fld) (n : Nat) : (s.sat f n).nc = s.nc := rfl
@[simp] theorem State.sat_ports (s : State) (f : Fld) (n : Nat) : (s.sat f n).ports = s.ports := rfl
@[simp] theorem State.sat_fencedAt (s : State) (f : Fld) (n : Nat) : (s.sat f n).fencedAt = s.fencedAt := rfl
@[simp] theorem State.sat_seam (s : State) (f : Fld) (n : Nat) : (s.sat f n).seam = s.seam := rfl
@[simp] theorem State.sat_tests (s : State) (f : Fld) (n : Nat) : (s.sat f n).tests = s.tests := rfl
@[simp] theorem State.sat_nand (s : State) (f : Fld) (n : Nat) : (s.sat f n).nand = s.nand := rfl
@[simp] theorem State.sat_svn (s : State) (f : Fld) (n : Nat) : (s.sat f n).svn = s.svn := rfl
@[simp] theorem State.sat_area (s : State) (f : Fld) (n : Nat) : (s.sat f n).area = s.area := rfl
@[simp] theorem State.sat_drams (s : State) (f : Fld) (n : Nat) : (s.sat f n).drams = s.drams := rfl
@[simp] theorem State.sat_dmarks (s : State) (f : Fld) (n : Nat) : (s.sat f n).dmarks = s.dmarks := rfl
@[simp] theorem State.sat_fen (s : State) (f : Fld) (n : Nat) : (s.sat f n).fen = s.fen := rfl
@[simp] theorem State.sat_doze (s : State) (f : Fld) (n : Nat) : (s.sat f n).doze = s.doze := rfl
@[simp] theorem State.sat_nor (s : State) (f : Fld) (n : Nat) : (s.sat f n).nor = s.nor := rfl
@[simp] theorem State.sat_boot (s : State) (f : Fld) (n : Nat) : (s.sat f n).boot = s.boot := rfl

/-! ### `State.setPair` -/

@[simp] theorem State.setPair_pending (s : State) (lo hi : Fld) (v : Nat) : (s.setPair lo hi v).pending = s.pending := rfl
@[simp] theorem State.setPair_free (s : State) (lo hi : Fld) (v : Nat) : (s.setPair lo hi v).free = s.free := rfl
@[simp] theorem State.setPair_part (s : State) (lo hi : Fld) (v : Nat) : (s.setPair lo hi v).part = s.part := rfl
@[simp] theorem State.setPair_mode (s : State) (lo hi : Fld) (v : Nat) : (s.setPair lo hi v).mode = s.mode := rfl
@[simp] theorem State.setPair_prevMode (s : State) (lo hi : Fld) (v : Nat) : (s.setPair lo hi v).prevMode = s.prevMode := rfl
@[simp] theorem State.setPair_changes (s : State) (lo hi : Fld) (v : Nat) : (s.setPair lo hi v).changes = s.changes := rfl
@[simp] theorem State.setPair_mrtQ (s : State) (lo hi : Fld) (v : Nat) : (s.setPair lo hi v).mrtQ = s.mrtQ := rfl
@[simp] theorem State.setPair_latch (s : State) (lo hi : Fld) (v : Nat) : (s.setPair lo hi v).latch = s.latch := rfl
@[simp] theorem State.setPair_out (s : State) (lo hi : Fld) (v : Nat) : (s.setPair lo hi v).out = s.out := rfl
@[simp] theorem State.setPair_kept (s : State) (lo hi : Fld) (v : Nat) : (s.setPair lo hi v).kept = s.kept := rfl
@[simp] theorem State.setPair_gate (s : State) (lo hi : Fld) (v : Nat) : (s.setPair lo hi v).gate = s.gate := rfl
@[simp] theorem State.setPair_weft (s : State) (lo hi : Fld) (v : Nat) : (s.setPair lo hi v).weft = s.weft := rfl
@[simp] theorem State.setPair_spool (s : State) (lo hi : Fld) (v : Nat) : (s.setPair lo hi v).spool = s.spool := rfl
@[simp] theorem State.setPair_ev (s : State) (lo hi : Fld) (v : Nat) : (s.setPair lo hi v).ev = s.ev := rfl
@[simp] theorem State.setPair_mons (s : State) (lo hi : Fld) (v : Nat) : (s.setPair lo hi v).mons = s.mons := rfl
@[simp] theorem State.setPair_peatQ (s : State) (lo hi : Fld) (v : Nat) : (s.setPair lo hi v).peatQ = s.peatQ := rfl
@[simp] theorem State.setPair_peatSnap (s : State) (lo hi : Fld) (v : Nat) : (s.setPair lo hi v).peatSnap = s.peatSnap := rfl
@[simp] theorem State.setPair_pcie (s : State) (lo hi : Fld) (v : Nat) : (s.setPair lo hi v).pcie = s.pcie := rfl
@[simp] theorem State.setPair_pcieHeld (s : State) (lo hi : Fld) (v : Nat) : (s.setPair lo hi v).pcieHeld = s.pcieHeld := rfl
@[simp] theorem State.setPair_mqpOut (s : State) (lo hi : Fld) (v : Nat) : (s.setPair lo hi v).mqpOut = s.mqpOut := rfl
@[simp] theorem State.setPair_sbus (s : State) (lo hi : Fld) (v : Nat) : (s.setPair lo hi v).sbus = s.sbus := rfl
@[simp] theorem State.setPair_cryp (s : State) (lo hi : Fld) (v : Nat) : (s.setPair lo hi v).cryp = s.cryp := rfl
@[simp] theorem State.setPair_scan (s : State) (lo hi : Fld) (v : Nat) : (s.setPair lo hi v).scan = s.scan := rfl
@[simp] theorem State.setPair_lks (s : State) (lo hi : Fld) (v : Nat) : (s.setPair lo hi v).lks = s.lks := rfl
@[simp] theorem State.setPair_fuses (s : State) (lo hi : Fld) (v : Nat) : (s.setPair lo hi v).fuses = s.fuses := rfl
@[simp] theorem State.setPair_thm (s : State) (lo hi : Fld) (v : Nat) : (s.setPair lo hi v).thm = s.thm := rfl
@[simp] theorem State.setPair_clk (s : State) (lo hi : Fld) (v : Nat) : (s.setPair lo hi v).clk = s.clk := rfl
@[simp] theorem State.setPair_save (s : State) (lo hi : Fld) (v : Nat) : (s.setPair lo hi v).save = s.save := rfl
@[simp] theorem State.setPair_pf (s : State) (lo hi : Fld) (v : Nat) : (s.setPair lo hi v).pf = s.pf := rfl
@[simp] theorem State.setPair_brownout (s : State) (lo hi : Fld) (v : Nat) : (s.setPair lo hi v).brownout = s.brownout := rfl
@[simp] theorem State.setPair_entries (s : State) (lo hi : Fld) (v : Nat) : (s.setPair lo hi v).entries = s.entries := rfl
@[simp] theorem State.setPair_descs (s : State) (lo hi : Fld) (v : Nat) : (s.setPair lo hi v).descs = s.descs := rfl
@[simp] theorem State.setPair_shared (s : State) (lo hi : Fld) (v : Nat) : (s.setPair lo hi v).shared = s.shared := rfl
@[simp] theorem State.setPair_tlr (s : State) (lo hi : Fld) (v : Nat) : (s.setPair lo hi v).tlr = s.tlr := rfl
@[simp] theorem State.setPair_fetches (s : State) (lo hi : Fld) (v : Nat) : (s.setPair lo hi v).fetches = s.fetches := rfl
@[simp] theorem State.setPair_parks (s : State) (lo hi : Fld) (v : Nat) : (s.setPair lo hi v).parks = s.parks := rfl
@[simp] theorem State.setPair_pops (s : State) (lo hi : Fld) (v : Nat) : (s.setPair lo hi v).pops = s.pops := rfl
@[simp] theorem State.setPair_retFrames (s : State) (lo hi : Fld) (v : Nat) : (s.setPair lo hi v).retFrames = s.retFrames := rfl
@[simp] theorem State.setPair_retBanks (s : State) (lo hi : Fld) (v : Nat) : (s.setPair lo hi v).retBanks = s.retBanks := rfl
@[simp] theorem State.setPair_retRecs (s : State) (lo hi : Fld) (v : Nat) : (s.setPair lo hi v).retRecs = s.retRecs := rfl
@[simp] theorem State.setPair_serials (s : State) (lo hi : Fld) (v : Nat) : (s.setPair lo hi v).serials = s.serials := rfl
@[simp] theorem State.setPair_moved (s : State) (lo hi : Fld) (v : Nat) : (s.setPair lo hi v).moved = s.moved := rfl
@[simp] theorem State.setPair_nc (s : State) (lo hi : Fld) (v : Nat) : (s.setPair lo hi v).nc = s.nc := rfl
@[simp] theorem State.setPair_ports (s : State) (lo hi : Fld) (v : Nat) : (s.setPair lo hi v).ports = s.ports := rfl
@[simp] theorem State.setPair_fencedAt (s : State) (lo hi : Fld) (v : Nat) : (s.setPair lo hi v).fencedAt = s.fencedAt := rfl
@[simp] theorem State.setPair_seam (s : State) (lo hi : Fld) (v : Nat) : (s.setPair lo hi v).seam = s.seam := rfl
@[simp] theorem State.setPair_tests (s : State) (lo hi : Fld) (v : Nat) : (s.setPair lo hi v).tests = s.tests := rfl
@[simp] theorem State.setPair_nand (s : State) (lo hi : Fld) (v : Nat) : (s.setPair lo hi v).nand = s.nand := rfl
@[simp] theorem State.setPair_svn (s : State) (lo hi : Fld) (v : Nat) : (s.setPair lo hi v).svn = s.svn := rfl
@[simp] theorem State.setPair_area (s : State) (lo hi : Fld) (v : Nat) : (s.setPair lo hi v).area = s.area := rfl
@[simp] theorem State.setPair_drams (s : State) (lo hi : Fld) (v : Nat) : (s.setPair lo hi v).drams = s.drams := rfl
@[simp] theorem State.setPair_dmarks (s : State) (lo hi : Fld) (v : Nat) : (s.setPair lo hi v).dmarks = s.dmarks := rfl
@[simp] theorem State.setPair_fen (s : State) (lo hi : Fld) (v : Nat) : (s.setPair lo hi v).fen = s.fen := rfl
@[simp] theorem State.setPair_doze (s : State) (lo hi : Fld) (v : Nat) : (s.setPair lo hi v).doze = s.doze := rfl
@[simp] theorem State.setPair_nor (s : State) (lo hi : Fld) (v : Nat) : (s.setPair lo hi v).nor = s.nor := rfl
@[simp] theorem State.setPair_boot (s : State) (lo hi : Fld) (v : Nat) : (s.setPair lo hi v).boot = s.boot := rfl

/-! ### `State.put` -/

@[simp] theorem State.put_pending (s : State) (o : Out) : (s.put o).pending = s.pending := rfl
@[simp] theorem State.put_free (s : State) (o : Out) : (s.put o).free = s.free := rfl
@[simp] theorem State.put_part (s : State) (o : Out) : (s.put o).part = s.part := rfl
@[simp] theorem State.put_mode (s : State) (o : Out) : (s.put o).mode = s.mode := rfl
@[simp] theorem State.put_prevMode (s : State) (o : Out) : (s.put o).prevMode = s.prevMode := rfl
@[simp] theorem State.put_changes (s : State) (o : Out) : (s.put o).changes = s.changes := rfl
@[simp] theorem State.put_mrtQ (s : State) (o : Out) : (s.put o).mrtQ = s.mrtQ := rfl
@[simp] theorem State.put_csr (s : State) (o : Out) : (s.put o).csr = s.csr := rfl
@[simp] theorem State.put_latch (s : State) (o : Out) : (s.put o).latch = s.latch := rfl
@[simp] theorem State.put_kept (s : State) (o : Out) : (s.put o).kept = s.kept := rfl
@[simp] theorem State.put_gate (s : State) (o : Out) : (s.put o).gate = s.gate := rfl
@[simp] theorem State.put_weft (s : State) (o : Out) : (s.put o).weft = s.weft := rfl
@[simp] theorem State.put_spool (s : State) (o : Out) : (s.put o).spool = s.spool := rfl
@[simp] theorem State.put_ev (s : State) (o : Out) : (s.put o).ev = s.ev := rfl
@[simp] theorem State.put_mons (s : State) (o : Out) : (s.put o).mons = s.mons := rfl
@[simp] theorem State.put_peatQ (s : State) (o : Out) : (s.put o).peatQ = s.peatQ := rfl
@[simp] theorem State.put_peatSnap (s : State) (o : Out) : (s.put o).peatSnap = s.peatSnap := rfl
@[simp] theorem State.put_pcie (s : State) (o : Out) : (s.put o).pcie = s.pcie := rfl
@[simp] theorem State.put_pcieHeld (s : State) (o : Out) : (s.put o).pcieHeld = s.pcieHeld := rfl
@[simp] theorem State.put_mqpOut (s : State) (o : Out) : (s.put o).mqpOut = s.mqpOut := rfl
@[simp] theorem State.put_sbus (s : State) (o : Out) : (s.put o).sbus = s.sbus := rfl
@[simp] theorem State.put_cryp (s : State) (o : Out) : (s.put o).cryp = s.cryp := rfl
@[simp] theorem State.put_scan (s : State) (o : Out) : (s.put o).scan = s.scan := rfl
@[simp] theorem State.put_lks (s : State) (o : Out) : (s.put o).lks = s.lks := rfl
@[simp] theorem State.put_fuses (s : State) (o : Out) : (s.put o).fuses = s.fuses := rfl
@[simp] theorem State.put_thm (s : State) (o : Out) : (s.put o).thm = s.thm := rfl
@[simp] theorem State.put_clk (s : State) (o : Out) : (s.put o).clk = s.clk := rfl
@[simp] theorem State.put_save (s : State) (o : Out) : (s.put o).save = s.save := rfl
@[simp] theorem State.put_pf (s : State) (o : Out) : (s.put o).pf = s.pf := rfl
@[simp] theorem State.put_brownout (s : State) (o : Out) : (s.put o).brownout = s.brownout := rfl
@[simp] theorem State.put_entries (s : State) (o : Out) : (s.put o).entries = s.entries := rfl
@[simp] theorem State.put_descs (s : State) (o : Out) : (s.put o).descs = s.descs := rfl
@[simp] theorem State.put_shared (s : State) (o : Out) : (s.put o).shared = s.shared := rfl
@[simp] theorem State.put_tlr (s : State) (o : Out) : (s.put o).tlr = s.tlr := rfl
@[simp] theorem State.put_fetches (s : State) (o : Out) : (s.put o).fetches = s.fetches := rfl
@[simp] theorem State.put_parks (s : State) (o : Out) : (s.put o).parks = s.parks := rfl
@[simp] theorem State.put_pops (s : State) (o : Out) : (s.put o).pops = s.pops := rfl
@[simp] theorem State.put_retFrames (s : State) (o : Out) : (s.put o).retFrames = s.retFrames := rfl
@[simp] theorem State.put_retBanks (s : State) (o : Out) : (s.put o).retBanks = s.retBanks := rfl
@[simp] theorem State.put_retRecs (s : State) (o : Out) : (s.put o).retRecs = s.retRecs := rfl
@[simp] theorem State.put_serials (s : State) (o : Out) : (s.put o).serials = s.serials := rfl
@[simp] theorem State.put_moved (s : State) (o : Out) : (s.put o).moved = s.moved := rfl
@[simp] theorem State.put_nc (s : State) (o : Out) : (s.put o).nc = s.nc := rfl
@[simp] theorem State.put_ports (s : State) (o : Out) : (s.put o).ports = s.ports := rfl
@[simp] theorem State.put_fencedAt (s : State) (o : Out) : (s.put o).fencedAt = s.fencedAt := rfl
@[simp] theorem State.put_seam (s : State) (o : Out) : (s.put o).seam = s.seam := rfl
@[simp] theorem State.put_tests (s : State) (o : Out) : (s.put o).tests = s.tests := rfl
@[simp] theorem State.put_nand (s : State) (o : Out) : (s.put o).nand = s.nand := rfl
@[simp] theorem State.put_svn (s : State) (o : Out) : (s.put o).svn = s.svn := rfl
@[simp] theorem State.put_area (s : State) (o : Out) : (s.put o).area = s.area := rfl
@[simp] theorem State.put_drams (s : State) (o : Out) : (s.put o).drams = s.drams := rfl
@[simp] theorem State.put_dmarks (s : State) (o : Out) : (s.put o).dmarks = s.dmarks := rfl
@[simp] theorem State.put_fen (s : State) (o : Out) : (s.put o).fen = s.fen := rfl
@[simp] theorem State.put_doze (s : State) (o : Out) : (s.put o).doze = s.doze := rfl
@[simp] theorem State.put_nor (s : State) (o : Out) : (s.put o).nor = s.nor := rfl
@[simp] theorem State.put_boot (s : State) (o : Out) : (s.put o).boot = s.boot := rfl

/-! ### `State.tickFree` -/

@[simp] theorem State.tickFree_pending (s : State) : (s.tickFree).pending = s.pending := rfl
@[simp] theorem State.tickFree_part (s : State) : (s.tickFree).part = s.part := rfl
@[simp] theorem State.tickFree_mode (s : State) : (s.tickFree).mode = s.mode := rfl
@[simp] theorem State.tickFree_prevMode (s : State) : (s.tickFree).prevMode = s.prevMode := rfl
@[simp] theorem State.tickFree_changes (s : State) : (s.tickFree).changes = s.changes := rfl
@[simp] theorem State.tickFree_mrtQ (s : State) : (s.tickFree).mrtQ = s.mrtQ := rfl
@[simp] theorem State.tickFree_csr (s : State) : (s.tickFree).csr = s.csr := rfl
@[simp] theorem State.tickFree_latch (s : State) : (s.tickFree).latch = s.latch := rfl
@[simp] theorem State.tickFree_out (s : State) : (s.tickFree).out = s.out := rfl
@[simp] theorem State.tickFree_kept (s : State) : (s.tickFree).kept = s.kept := rfl
@[simp] theorem State.tickFree_gate (s : State) : (s.tickFree).gate = s.gate := rfl
@[simp] theorem State.tickFree_weft (s : State) : (s.tickFree).weft = s.weft := rfl
@[simp] theorem State.tickFree_spool (s : State) : (s.tickFree).spool = s.spool := rfl
@[simp] theorem State.tickFree_ev (s : State) : (s.tickFree).ev = s.ev := rfl
@[simp] theorem State.tickFree_mons (s : State) : (s.tickFree).mons = s.mons := rfl
@[simp] theorem State.tickFree_peatQ (s : State) : (s.tickFree).peatQ = s.peatQ := rfl
@[simp] theorem State.tickFree_peatSnap (s : State) : (s.tickFree).peatSnap = s.peatSnap := rfl
@[simp] theorem State.tickFree_pcie (s : State) : (s.tickFree).pcie = s.pcie := rfl
@[simp] theorem State.tickFree_pcieHeld (s : State) : (s.tickFree).pcieHeld = s.pcieHeld := rfl
@[simp] theorem State.tickFree_mqpOut (s : State) : (s.tickFree).mqpOut = s.mqpOut := rfl
@[simp] theorem State.tickFree_sbus (s : State) : (s.tickFree).sbus = s.sbus := rfl
@[simp] theorem State.tickFree_cryp (s : State) : (s.tickFree).cryp = s.cryp := rfl
@[simp] theorem State.tickFree_scan (s : State) : (s.tickFree).scan = s.scan := rfl
@[simp] theorem State.tickFree_lks (s : State) : (s.tickFree).lks = s.lks := rfl
@[simp] theorem State.tickFree_fuses (s : State) : (s.tickFree).fuses = s.fuses := rfl
@[simp] theorem State.tickFree_thm (s : State) : (s.tickFree).thm = s.thm := rfl
@[simp] theorem State.tickFree_clk (s : State) : (s.tickFree).clk = s.clk := rfl
@[simp] theorem State.tickFree_save (s : State) : (s.tickFree).save = s.save := rfl
@[simp] theorem State.tickFree_pf (s : State) : (s.tickFree).pf = s.pf := rfl
@[simp] theorem State.tickFree_brownout (s : State) : (s.tickFree).brownout = s.brownout := rfl
@[simp] theorem State.tickFree_entries (s : State) : (s.tickFree).entries = s.entries := rfl
@[simp] theorem State.tickFree_descs (s : State) : (s.tickFree).descs = s.descs := rfl
@[simp] theorem State.tickFree_shared (s : State) : (s.tickFree).shared = s.shared := rfl
@[simp] theorem State.tickFree_tlr (s : State) : (s.tickFree).tlr = s.tlr := rfl
@[simp] theorem State.tickFree_fetches (s : State) : (s.tickFree).fetches = s.fetches := rfl
@[simp] theorem State.tickFree_parks (s : State) : (s.tickFree).parks = s.parks := rfl
@[simp] theorem State.tickFree_pops (s : State) : (s.tickFree).pops = s.pops := rfl
@[simp] theorem State.tickFree_retFrames (s : State) : (s.tickFree).retFrames = s.retFrames := rfl
@[simp] theorem State.tickFree_retBanks (s : State) : (s.tickFree).retBanks = s.retBanks := rfl
@[simp] theorem State.tickFree_retRecs (s : State) : (s.tickFree).retRecs = s.retRecs := rfl
@[simp] theorem State.tickFree_serials (s : State) : (s.tickFree).serials = s.serials := rfl
@[simp] theorem State.tickFree_moved (s : State) : (s.tickFree).moved = s.moved := rfl
@[simp] theorem State.tickFree_nc (s : State) : (s.tickFree).nc = s.nc := rfl
@[simp] theorem State.tickFree_ports (s : State) : (s.tickFree).ports = s.ports := rfl
@[simp] theorem State.tickFree_fencedAt (s : State) : (s.tickFree).fencedAt = s.fencedAt := rfl
@[simp] theorem State.tickFree_seam (s : State) : (s.tickFree).seam = s.seam := rfl
@[simp] theorem State.tickFree_tests (s : State) : (s.tickFree).tests = s.tests := rfl
@[simp] theorem State.tickFree_nand (s : State) : (s.tickFree).nand = s.nand := rfl
@[simp] theorem State.tickFree_svn (s : State) : (s.tickFree).svn = s.svn := rfl
@[simp] theorem State.tickFree_area (s : State) : (s.tickFree).area = s.area := rfl
@[simp] theorem State.tickFree_drams (s : State) : (s.tickFree).drams = s.drams := rfl
@[simp] theorem State.tickFree_dmarks (s : State) : (s.tickFree).dmarks = s.dmarks := rfl
@[simp] theorem State.tickFree_fen (s : State) : (s.tickFree).fen = s.fen := rfl
@[simp] theorem State.tickFree_doze (s : State) : (s.tickFree).doze = s.doze := rfl
@[simp] theorem State.tickFree_nor (s : State) : (s.tickFree).nor = s.nor := rfl
@[simp] theorem State.tickFree_boot (s : State) : (s.tickFree).boot = s.boot := rfl

@[simp] theorem State.put_out (s : State) (o : Out) : (s.put o).out = s.out ++ [o] := rfl
@[simp] theorem State.tickFree_free (s : State) : s.tickFree.free = s.free + 1 := rfl

/-! ### `State.begun` -/

@[simp] theorem State.begun_pending (s : State) : s.begun.pending = s.pending := rfl
@[simp] theorem State.begun_free (s : State) : s.begun.free = s.free := rfl
@[simp] theorem State.begun_part (s : State) : s.begun.part = s.part := rfl
@[simp] theorem State.begun_mode (s : State) : s.begun.mode = s.mode := rfl
@[simp] theorem State.begun_prevMode (s : State) : s.begun.prevMode = s.prevMode := rfl
@[simp] theorem State.begun_changes (s : State) : s.begun.changes = s.changes := rfl
@[simp] theorem State.begun_mrtQ (s : State) : s.begun.mrtQ = s.mrtQ := rfl
@[simp] theorem State.begun_csr (s : State) : s.begun.csr = s.csr := rfl
@[simp] theorem State.begun_latch (s : State) : s.begun.latch = s.latch := rfl
@[simp] theorem State.begun_out (s : State) : s.begun.out = s.out := rfl
@[simp] theorem State.begun_kept (s : State) : s.begun.kept = s.kept := rfl
@[simp] theorem State.begun_weft (s : State) : s.begun.weft = s.weft := rfl
@[simp] theorem State.begun_spool (s : State) : s.begun.spool = s.spool := rfl
@[simp] theorem State.begun_ev (s : State) : s.begun.ev = s.ev := rfl
@[simp] theorem State.begun_mons (s : State) : s.begun.mons = s.mons := rfl
@[simp] theorem State.begun_peatQ (s : State) : s.begun.peatQ = s.peatQ := rfl
@[simp] theorem State.begun_peatSnap (s : State) : s.begun.peatSnap = s.peatSnap := rfl
@[simp] theorem State.begun_pcie (s : State) : s.begun.pcie = s.pcie := rfl
@[simp] theorem State.begun_pcieHeld (s : State) : s.begun.pcieHeld = s.pcieHeld := rfl
@[simp] theorem State.begun_mqpOut (s : State) : s.begun.mqpOut = s.mqpOut := rfl
@[simp] theorem State.begun_sbus (s : State) : s.begun.sbus = s.sbus := rfl
@[simp] theorem State.begun_cryp (s : State) : s.begun.cryp = s.cryp := rfl
@[simp] theorem State.begun_scan (s : State) : s.begun.scan = s.scan := rfl
@[simp] theorem State.begun_lks (s : State) : s.begun.lks = s.lks := rfl
@[simp] theorem State.begun_fuses (s : State) : s.begun.fuses = s.fuses := rfl
@[simp] theorem State.begun_thm (s : State) : s.begun.thm = s.thm := rfl
@[simp] theorem State.begun_clk (s : State) : s.begun.clk = s.clk := rfl
@[simp] theorem State.begun_save (s : State) : s.begun.save = s.save := rfl
@[simp] theorem State.begun_pf (s : State) : s.begun.pf = s.pf := rfl
@[simp] theorem State.begun_brownout (s : State) : s.begun.brownout = s.brownout := rfl
@[simp] theorem State.begun_entries (s : State) : s.begun.entries = s.entries := rfl
@[simp] theorem State.begun_descs (s : State) : s.begun.descs = s.descs := rfl
@[simp] theorem State.begun_shared (s : State) : s.begun.shared = s.shared := rfl
@[simp] theorem State.begun_tlr (s : State) : s.begun.tlr = s.tlr := rfl
@[simp] theorem State.begun_fetches (s : State) : s.begun.fetches = s.fetches := rfl
@[simp] theorem State.begun_parks (s : State) : s.begun.parks = s.parks := rfl
@[simp] theorem State.begun_pops (s : State) : s.begun.pops = s.pops := rfl
@[simp] theorem State.begun_retFrames (s : State) : s.begun.retFrames = s.retFrames := rfl
@[simp] theorem State.begun_retBanks (s : State) : s.begun.retBanks = s.retBanks := rfl
@[simp] theorem State.begun_retRecs (s : State) : s.begun.retRecs = s.retRecs := rfl
@[simp] theorem State.begun_serials (s : State) : s.begun.serials = s.serials := rfl
@[simp] theorem State.begun_moved (s : State) : s.begun.moved = s.moved := rfl
@[simp] theorem State.begun_nc (s : State) : s.begun.nc = s.nc := rfl
@[simp] theorem State.begun_ports (s : State) : s.begun.ports = s.ports := rfl
@[simp] theorem State.begun_fencedAt (s : State) : s.begun.fencedAt = s.fencedAt := rfl
@[simp] theorem State.begun_seam (s : State) : s.begun.seam = s.seam := rfl
@[simp] theorem State.begun_tests (s : State) : s.begun.tests = s.tests := rfl
@[simp] theorem State.begun_nand (s : State) : s.begun.nand = s.nand := rfl
@[simp] theorem State.begun_svn (s : State) : s.begun.svn = s.svn := rfl
@[simp] theorem State.begun_area (s : State) : s.begun.area = s.area := rfl
@[simp] theorem State.begun_drams (s : State) : s.begun.drams = s.drams := rfl
@[simp] theorem State.begun_dmarks (s : State) : s.begun.dmarks = s.dmarks := rfl
@[simp] theorem State.begun_fen (s : State) : s.begun.fen = s.fen := rfl
@[simp] theorem State.begun_doze (s : State) : s.begun.doze = s.doze := rfl
@[simp] theorem State.begun_nor (s : State) : s.begun.nor = s.nor := rfl
@[simp] theorem State.begun_boot (s : State) : s.begun.boot = s.boot := rfl

/-- The command that starts is taken from the granted ones, and runs. -/
theorem State.begun_granted (s : State) : s.begun.gate.granted = s.gate.granted.tail := rfl

end Sys2Proof.Machine
end

