-- ==== Sys2Proof/Laws/Events.lean ====
section
/-! SUPPORT. What a raise can do and what a completion can do, once for all who cite it. -/

namespace Sys2Proof.Machine

/-! ### Frames compose -/

theorem State.sameButEvents.rfl {s : State} : s.sameButEvents s := by unfold State.sameButEvents; cases s; simp

theorem State.sameButEvents.trans {s t u : State} (h : s.sameButEvents t) (k : t.sameButEvents u) : s.sameButEvents u := by
  unfold State.sameButEvents at *; rw [k, h]

theorem State.sameButAnswer.rfl {s : State} : s.sameButAnswer s := by unfold State.sameButAnswer; cases s; simp

theorem State.sameButAnswer.trans {s t u : State} (h : s.sameButAnswer t) (k : t.sameButAnswer u) : s.sameButAnswer u := by
  unfold State.sameButAnswer at *; rw [k, h]

theorem State.sameButEvents.answer {s t : State} (h : s.sameButEvents t) : s.sameButAnswer t := by
  unfold State.sameButEvents at h; unfold State.sameButAnswer; rw [h]

theorem State.regsKept.rfl {s : State} {l : List Nat} : s.regsKept s l := fun _ _ _ => .refl _

theorem State.regsKept.trans {s t u : State} {l k : List Nat} (h : s.regsKept t l) (g : t.regsKept u k) : s.regsKept u (l ++ k) := by
  intro off hl he
  rw [List.mem_append, not_or] at hl
  rw [g off hl.2 he, h off hl.1 he]

/-- A change of one register. -/
theorem State.setFld_regsKept (s : State) (f : Fld) (v : Nat) : s.regsKept (s.setFld f v) [f.off] :=
  fun _ hl _ => State.reg_setFld_other _ _ _ _ (by simpa using hl)

theorem State.setFld_sameButEvents (s : State) (f : Fld) (v : Nat) : s.sameButEvents (s.setFld f v) := by
  unfold State.sameButEvents State.setFld State.setReg; rfl

theorem State.put_sameButEvents (s : State) (o : Out) : s.sameButEvents (s.put o) := by
  unfold State.sameButEvents State.put; rfl

/-! ### `onlyEvents` and `onlyAnswer` -/

theorem State.onlyEvents.rfl {s : State} : s.onlyEvents s := ⟨.rfl, .rfl⟩

theorem State.onlyEvents.trans {s t u : State} (h : s.onlyEvents t) (k : t.onlyEvents u) : s.onlyEvents u :=
  ⟨h.1.trans k.1, by simpa using h.2.trans k.2⟩

theorem State.onlyAnswer.rfl {s : State} : s.onlyAnswer s := ⟨.rfl, .rfl⟩

theorem State.onlyAnswer.trans {s t u : State} (h : s.onlyAnswer t) (k : t.onlyAnswer u) : s.onlyAnswer u :=
  ⟨h.1.trans k.1, by simpa using h.2.trans k.2⟩

theorem State.onlyEvents.answer {s t : State} (h : s.onlyEvents t) : s.onlyAnswer t := ⟨h.1.answer, h.2⟩

theorem State.onlyEvents.ite {s a b : State} {c : Prop} [Decidable c] (ha : s.onlyEvents a) (hb : s.onlyEvents b) :
    s.onlyEvents (if c then a else b) := by split <;> assumption

/-- A field of an event register written. -/
theorem State.onlyEvents_setFld (s : State) (f : Fld) (v : Nat) (h : eventRegister f.off = true) : s.onlyEvents (s.setFld f v) := by
  refine ⟨State.setFld_sameButEvents _ _ _, fun off _ he => State.reg_setFld_other _ _ _ _ ?_⟩
  rintro rfl; simp [h] at he

theorem State.onlyEvents_put (s : State) (o : Out) : s.onlyEvents (s.put o) := ⟨State.put_sameButEvents _ _, fun _ _ _ => .refl _⟩

/-- A change of the event unit alone. -/
theorem State.onlyEvents_ev (s : State) (e : Events) : s.onlyEvents { s with ev := e } := ⟨by unfold State.sameButEvents; rfl, fun _ _ _ => .refl _⟩

theorem State.sendMsix_only (s : State) (pf vector : Nat) : s.onlyEvents (s.sendMsix pf vector) := by
  unfold State.sendMsix
  exact .ite .rfl (.ite (State.onlyEvents_ev _ _) (State.onlyEvents_put _ _))

theorem State.pushEntry_only (s : State) (e : Entry) : s.onlyEvents (s.pushEntry e) := by
  unfold State.pushEntry
  split
  · exact .ite (State.onlyEvents_ev _ _) (.ite (State.onlyEvents_ev _ _) ((State.onlyEvents_ev _ _).trans (State.onlyEvents_setFld _ _ _ (by decide))))
  · exact State.onlyEvents_ev _ _

theorem State.frameRoute_only (s : State) (ev inst : Nat) : s.onlyEvents (s.frameRoute ev inst) := by
  unfold State.frameRoute
  split
  dsimp only
  split
  · exact .ite (State.onlyEvents_ev _ _) (State.pushEntry_only _ _)
  · exact State.pushEntry_only _ _

theorem State.peatPush_only (s : State) (ev inst : Nat) : s.onlyEvents (s.peatPush ev inst) := by
  unfold State.peatPush
  exact .ite .rfl (.ite ⟨by unfold State.sameButEvents; rfl, fun _ _ _ => .refl _⟩ (State.onlyEvents_setFld _ _ _ (by decide)))

theorem State.msixRoute_only (s : State) (ev : Nat) : s.onlyEvents (s.msixRoute ev) := .ite (State.sendMsix_only _ _ _) .rfl

theorem eventRegister_pend (g : Nat) (h : g < 40) : eventRegister (F.EVT_PENDg_pend g).off = true := by
  simp only [eventRegister, Bool.or_eq_true, Bool.and_eq_true, decide_eq_true_eq]
  omega

theorem State.raiseOne_only (s : State) (ev inst : Nat) (h : ev < 640) : s.onlyEvents (s.raiseOne ev inst) := by
  have h1 := State.onlyEvents_setFld s (F.EVT_PENDg_pend (ev / 16)) (s.fld (F.EVT_PENDg_pend (ev / 16)) ||| 2 ^ (ev % 16))
    (eventRegister_pend (ev / 16) (by omega))
  have h2 := h1.trans (State.peatPush_only _ ev inst)
  have h3 : s.onlyEvents _ := h2.trans (.ite (c := s.pended ev = true) .rfl (State.msixRoute_only _ ev))
  exact .ite h2 (.ite (h3.trans (State.frameRoute_only _ ev inst)) h3)

/-- All that a raise of an event of R354 can do. -/
theorem State.raise_only (s : State) (ev inst : Nat) (h : ev < 640 := by decide) : s.onlyEvents (s.raise ev inst) := by
  unfold State.raise
  refine .ite .rfl ((State.raiseOne_only s ev inst h).trans ?_)
  unfold State.overflowOnce
  exact .ite (State.raiseOne_only _ _ _ (by decide)) .rfl

/-- A field outside the event unit's registers keeps its value. -/
theorem State.onlyEvents.fld {s t : State} (h : s.onlyEvents t) (f : Fld) (he : eventRegister f.off = false := by decide) : t.fld f = s.fld f := by
  unfold State.fld; rw [h.2 f.off (by simp) he]

theorem State.onlyEvents.bit {s t : State} (h : s.onlyEvents t) (f : Fld) (he : eventRegister f.off = false := by decide) : t.bit f = s.bit f := by
  unfold State.bit; rw [h.fld f he]

theorem State.onlyAnswer.fld {s t : State} (h : s.onlyAnswer t) (f : Fld) (he : eventRegister f.off = false := by decide) : t.fld f = s.fld f := by
  unfold State.fld; rw [h.2 f.off (by simp) he]

theorem State.onlyAnswer.bit {s t : State} (h : s.onlyAnswer t) (f : Fld) (he : eventRegister f.off = false := by decide) : t.bit f = s.bit f := by
  unfold State.bit; rw [h.fld f he]

/-! ### Completions -/

theorem State.onlyAnswer.ite {s a b : State} {c : Prop} [Decidable c] (ha : s.onlyAnswer a) (hb : s.onlyAnswer b) :
    s.onlyAnswer (if c then a else b) := by split <;> assumption

/-- A change of the parts a completion may touch. -/
theorem State.onlyAnswer_set (s : State) (g : Gate) (p : List PcieSlot) (o ph mo : List Out) (x : Seam) (n : Nat) :
    s.onlyAnswer { s with gate := g, pcie := p, out := o, pcieHeld := ph, mqpOut := mo, seam := x, free := n } :=
  ⟨by unfold State.sameButAnswer; rfl, fun _ _ _ => .refl _⟩

theorem State.setLink_only (s : State) (l : Nat) (x : Link) : s.onlyAnswer (s.setLink l x) := by
  unfold State.setLink; exact State.onlyAnswer_set s s.gate s.pcie s.out s.pcieHeld s.mqpOut _ s.free

theorem State.putFrame_only (s : State) (l n i : Nat) (f : SFrame) : s.onlyAnswer (s.putFrame l n i f) := by
  unfold State.putFrame
  exact State.onlyAnswer_set s s.gate s.pcie _ s.pcieHeld s.mqpOut s.seam _

theorem State.launch_only (s : State) (l i : Nat) (f : SFrame) : s.onlyAnswer (s.launch l i f) := by
  unfold State.launch
  exact (State.setLink_only _ _ _).trans (State.putFrame_only _ _ _ _ _)

theorem State.sendFrame_only (s : State) (l i : Nat) (f : SFrame) : s.onlyAnswer (s.sendFrame l i f) := by
  unfold State.sendFrame
  exact .ite (State.launch_only _ _ _ _) (State.setLink_only _ _ _)

theorem State.onlyAnswer.forUp {f : Nat → State → State} (hf : ∀ i (s : State), s.onlyAnswer (f i s)) :
    ∀ (k i : Nat) (s : State), s.onlyAnswer (Machine.forUp f k i s)
  | 0, _, _ => .rfl
  | k + 1, i, s => (hf i s).trans (State.onlyAnswer.forUp hf k (i + 1) (f i s))

theorem State.sendOn_only (s : State) (l : Nat) (f : SFrame) : s.onlyAnswer (s.sendOn l f) :=
  State.onlyAnswer.forUp (fun i s => s.sendFrame_only l i f) _ _ _

/-- All that a frame sent to the twin can do. -/
theorem State.seamSend_only (s : State) (f : SFrame) : s.onlyAnswer (s.seamSend f) := by
  unfold State.seamSend
  exact .ite (.ite ((State.onlyAnswer_set s s.gate s.pcie s.out s.pcieHeld s.mqpOut s.seam (s.free + 1)).trans (State.sendOn_only _ _ _))
    (.ite (State.sendOn_only _ _ _) (State.sendOn_only _ _ _))) (.ite (State.sendOn_only _ _ _) .rfl)

/-- All that a completion on its path can do. -/
theorem State.answer_only (s : State) (h : Hdr) (code : Nat) (st : Status) (vals : List Nat) : s.onlyAnswer (s.answer h code st vals) := by
  unfold State.answer
  dsimp only
  refine .ite .rfl ?_
  split
  · split
    · exact (State.onlyAnswer_set s s.gate _ s.out s.pcieHeld s.mqpOut s.seam s.free).trans
        (.ite ((State.onlyEvents_put _ _).trans (State.sendMsix_only _ _ _)).answer
          (State.onlyAnswer_set _ s.gate _ s.out _ s.mqpOut s.seam s.free))
    · exact .ite (State.onlyEvents_put _ _).answer (State.onlyAnswer_set s s.gate s.pcie s.out _ s.mqpOut s.seam s.free)
  · exact State.seamSend_only _ _
  · exact .ite (State.onlyAnswer_set s s.gate s.pcie s.out s.pcieHeld _ s.seam s.free) .rfl
  · exact (State.onlyEvents_put _ _).answer

/-- All that the completion of a running command can do. -/
theorem State.complete_only (s : State) (h : Hdr) (st : Status) (vals : List Nat) : s.onlyAnswer (s.complete h st vals) :=
  (State.onlyAnswer_set s _ s.pcie s.out s.pcieHeld s.mqpOut s.seam s.free).trans (State.answer_only _ _ _ _ _)

end Sys2Proof.Machine
end

