-- ==== Sys2Proof/Laws/Fields.lean ====
section
/-! SUPPORT. The fields that a raise and a completion leave alone. -/

namespace Sys2Proof.Machine

theorem State.raiseOne_same (s : State) (ev inst : Nat) : s.sameButEvents (s.raiseOne ev inst) := by
  have h2 := (State.setFld_sameButEvents s (F.EVT_PENDg_pend (ev / 16)) (s.fld (F.EVT_PENDg_pend (ev / 16)) ||| 2 ^ (ev % 16))).trans
    (State.peatPush_only _ ev inst).1
  have h3 : s.sameButEvents _ := h2.trans (State.onlyEvents.ite (c := s.pended ev = true) .rfl (State.msixRoute_only _ ev)).1
  unfold State.raiseOne
  dsimp only
  split
  · exact h2
  · refine h3.trans (State.onlyEvents.ite (State.frameRoute_only _ _ _) .rfl).1

theorem State.raise_same (s : State) (ev inst : Nat) : s.sameButEvents (s.raise ev inst) := by
  unfold State.raise
  split
  · exact .rfl
  · refine (State.raiseOne_same s ev inst).trans ?_
    unfold State.overflowOnce
    split
    · exact State.raiseOne_same _ _ _
    · exact .rfl

theorem State.sameButEvents.pending {s t : State} (h : s.sameButEvents t) : t.pending = s.pending := by rw [h]
theorem State.sameButEvents.free {s t : State} (h : s.sameButEvents t) : t.free = s.free := by rw [h]
theorem State.sameButEvents.part {s t : State} (h : s.sameButEvents t) : t.part = s.part := by rw [h]
theorem State.sameButEvents.mode {s t : State} (h : s.sameButEvents t) : t.mode = s.mode := by rw [h]
theorem State.sameButEvents.prevMode {s t : State} (h : s.sameButEvents t) : t.prevMode = s.prevMode := by rw [h]
theorem State.sameButEvents.changes {s t : State} (h : s.sameButEvents t) : t.changes = s.changes := by rw [h]
theorem State.sameButEvents.mrtQ {s t : State} (h : s.sameButEvents t) : t.mrtQ = s.mrtQ := by rw [h]
theorem State.sameButEvents.latch {s t : State} (h : s.sameButEvents t) : t.latch = s.latch := by rw [h]
theorem State.sameButEvents.kept {s t : State} (h : s.sameButEvents t) : t.kept = s.kept := by rw [h]
theorem State.sameButEvents.gate {s t : State} (h : s.sameButEvents t) : t.gate = s.gate := by rw [h]
theorem State.sameButEvents.weft {s t : State} (h : s.sameButEvents t) : t.weft = s.weft := by rw [h]
theorem State.sameButEvents.spool {s t : State} (h : s.sameButEvents t) : t.spool = s.spool := by rw [h]
theorem State.sameButEvents.mons {s t : State} (h : s.sameButEvents t) : t.mons = s.mons := by rw [h]
theorem State.sameButEvents.peatSnap {s t : State} (h : s.sameButEvents t) : t.peatSnap = s.peatSnap := by rw [h]
theorem State.sameButEvents.pcie {s t : State} (h : s.sameButEvents t) : t.pcie = s.pcie := by rw [h]
theorem State.sameButEvents.pcieHeld {s t : State} (h : s.sameButEvents t) : t.pcieHeld = s.pcieHeld := by rw [h]
theorem State.sameButEvents.mqpOut {s t : State} (h : s.sameButEvents t) : t.mqpOut = s.mqpOut := by rw [h]
theorem State.sameButEvents.sbus {s t : State} (h : s.sameButEvents t) : t.sbus = s.sbus := by rw [h]
theorem State.sameButEvents.cryp {s t : State} (h : s.sameButEvents t) : t.cryp = s.cryp := by rw [h]
theorem State.sameButEvents.scan {s t : State} (h : s.sameButEvents t) : t.scan = s.scan := by rw [h]
theorem State.sameButEvents.lks {s t : State} (h : s.sameButEvents t) : t.lks = s.lks := by rw [h]
theorem State.sameButEvents.fuses {s t : State} (h : s.sameButEvents t) : t.fuses = s.fuses := by rw [h]
theorem State.sameButEvents.thm {s t : State} (h : s.sameButEvents t) : t.thm = s.thm := by rw [h]
theorem State.sameButEvents.clk {s t : State} (h : s.sameButEvents t) : t.clk = s.clk := by rw [h]
theorem State.sameButEvents.save {s t : State} (h : s.sameButEvents t) : t.save = s.save := by rw [h]
theorem State.sameButEvents.pf {s t : State} (h : s.sameButEvents t) : t.pf = s.pf := by rw [h]
theorem State.sameButEvents.brownout {s t : State} (h : s.sameButEvents t) : t.brownout = s.brownout := by rw [h]
theorem State.sameButEvents.entries {s t : State} (h : s.sameButEvents t) : t.entries = s.entries := by rw [h]
theorem State.sameButEvents.descs {s t : State} (h : s.sameButEvents t) : t.descs = s.descs := by rw [h]
theorem State.sameButEvents.shared {s t : State} (h : s.sameButEvents t) : t.shared = s.shared := by rw [h]
theorem State.sameButEvents.tlr {s t : State} (h : s.sameButEvents t) : t.tlr = s.tlr := by rw [h]
theorem State.sameButEvents.fetches {s t : State} (h : s.sameButEvents t) : t.fetches = s.fetches := by rw [h]
theorem State.sameButEvents.parks {s t : State} (h : s.sameButEvents t) : t.parks = s.parks := by rw [h]
theorem State.sameButEvents.pops {s t : State} (h : s.sameButEvents t) : t.pops = s.pops := by rw [h]
theorem State.sameButEvents.retFrames {s t : State} (h : s.sameButEvents t) : t.retFrames = s.retFrames := by rw [h]
theorem State.sameButEvents.retBanks {s t : State} (h : s.sameButEvents t) : t.retBanks = s.retBanks := by rw [h]
theorem State.sameButEvents.retRecs {s t : State} (h : s.sameButEvents t) : t.retRecs = s.retRecs := by rw [h]
theorem State.sameButEvents.serials {s t : State} (h : s.sameButEvents t) : t.serials = s.serials := by rw [h]
theorem State.sameButEvents.moved {s t : State} (h : s.sameButEvents t) : t.moved = s.moved := by rw [h]
theorem State.sameButEvents.nc {s t : State} (h : s.sameButEvents t) : t.nc = s.nc := by rw [h]
theorem State.sameButEvents.ports {s t : State} (h : s.sameButEvents t) : t.ports = s.ports := by rw [h]
theorem State.sameButEvents.fencedAt {s t : State} (h : s.sameButEvents t) : t.fencedAt = s.fencedAt := by rw [h]
theorem State.sameButEvents.seam {s t : State} (h : s.sameButEvents t) : t.seam = s.seam := by rw [h]
theorem State.sameButEvents.tests {s t : State} (h : s.sameButEvents t) : t.tests = s.tests := by rw [h]
theorem State.sameButEvents.nand {s t : State} (h : s.sameButEvents t) : t.nand = s.nand := by rw [h]
theorem State.sameButEvents.svn {s t : State} (h : s.sameButEvents t) : t.svn = s.svn := by rw [h]
theorem State.sameButEvents.area {s t : State} (h : s.sameButEvents t) : t.area = s.area := by rw [h]
theorem State.sameButEvents.drams {s t : State} (h : s.sameButEvents t) : t.drams = s.drams := by rw [h]
theorem State.sameButEvents.dmarks {s t : State} (h : s.sameButEvents t) : t.dmarks = s.dmarks := by rw [h]
theorem State.sameButEvents.fen {s t : State} (h : s.sameButEvents t) : t.fen = s.fen := by rw [h]
theorem State.sameButEvents.doze {s t : State} (h : s.sameButEvents t) : t.doze = s.doze := by rw [h]
theorem State.sameButEvents.nor {s t : State} (h : s.sameButEvents t) : t.nor = s.nor := by rw [h]
theorem State.sameButEvents.boot {s t : State} (h : s.sameButEvents t) : t.boot = s.boot := by rw [h]
theorem State.sameButAnswer.pending {s t : State} (h : s.sameButAnswer t) : t.pending = s.pending := by rw [h]
theorem State.sameButAnswer.part {s t : State} (h : s.sameButAnswer t) : t.part = s.part := by rw [h]
theorem State.sameButAnswer.mode {s t : State} (h : s.sameButAnswer t) : t.mode = s.mode := by rw [h]
theorem State.sameButAnswer.prevMode {s t : State} (h : s.sameButAnswer t) : t.prevMode = s.prevMode := by rw [h]
theorem State.sameButAnswer.changes {s t : State} (h : s.sameButAnswer t) : t.changes = s.changes := by rw [h]
theorem State.sameButAnswer.mrtQ {s t : State} (h : s.sameButAnswer t) : t.mrtQ = s.mrtQ := by rw [h]
theorem State.sameButAnswer.latch {s t : State} (h : s.sameButAnswer t) : t.latch = s.latch := by rw [h]
theorem State.sameButAnswer.kept {s t : State} (h : s.sameButAnswer t) : t.kept = s.kept := by rw [h]
theorem State.sameButAnswer.weft {s t : State} (h : s.sameButAnswer t) : t.weft = s.weft := by rw [h]
theorem State.sameButAnswer.spool {s t : State} (h : s.sameButAnswer t) : t.spool = s.spool := by rw [h]
theorem State.sameButAnswer.mons {s t : State} (h : s.sameButAnswer t) : t.mons = s.mons := by rw [h]
theorem State.sameButAnswer.peatSnap {s t : State} (h : s.sameButAnswer t) : t.peatSnap = s.peatSnap := by rw [h]
theorem State.sameButAnswer.sbus {s t : State} (h : s.sameButAnswer t) : t.sbus = s.sbus := by rw [h]
theorem State.sameButAnswer.cryp {s t : State} (h : s.sameButAnswer t) : t.cryp = s.cryp := by rw [h]
theorem State.sameButAnswer.scan {s t : State} (h : s.sameButAnswer t) : t.scan = s.scan := by rw [h]
theorem State.sameButAnswer.lks {s t : State} (h : s.sameButAnswer t) : t.lks = s.lks := by rw [h]
theorem State.sameButAnswer.fuses {s t : State} (h : s.sameButAnswer t) : t.fuses = s.fuses := by rw [h]
theorem State.sameButAnswer.thm {s t : State} (h : s.sameButAnswer t) : t.thm = s.thm := by rw [h]
theorem State.sameButAnswer.clk {s t : State} (h : s.sameButAnswer t) : t.clk = s.clk := by rw [h]
theorem State.sameButAnswer.save {s t : State} (h : s.sameButAnswer t) : t.save = s.save := by rw [h]
theorem State.sameButAnswer.pf {s t : State} (h : s.sameButAnswer t) : t.pf = s.pf := by rw [h]
theorem State.sameButAnswer.brownout {s t : State} (h : s.sameButAnswer t) : t.brownout = s.brownout := by rw [h]
theorem State.sameButAnswer.entries {s t : State} (h : s.sameButAnswer t) : t.entries = s.entries := by rw [h]
theorem State.sameButAnswer.descs {s t : State} (h : s.sameButAnswer t) : t.descs = s.descs := by rw [h]
theorem State.sameButAnswer.shared {s t : State} (h : s.sameButAnswer t) : t.shared = s.shared := by rw [h]
theorem State.sameButAnswer.tlr {s t : State} (h : s.sameButAnswer t) : t.tlr = s.tlr := by rw [h]
theorem State.sameButAnswer.fetches {s t : State} (h : s.sameButAnswer t) : t.fetches = s.fetches := by rw [h]
theorem State.sameButAnswer.parks {s t : State} (h : s.sameButAnswer t) : t.parks = s.parks := by rw [h]
theorem State.sameButAnswer.pops {s t : State} (h : s.sameButAnswer t) : t.pops = s.pops := by rw [h]
theorem State.sameButAnswer.retFrames {s t : State} (h : s.sameButAnswer t) : t.retFrames = s.retFrames := by rw [h]
theorem State.sameButAnswer.retBanks {s t : State} (h : s.sameButAnswer t) : t.retBanks = s.retBanks := by rw [h]
theorem State.sameButAnswer.retRecs {s t : State} (h : s.sameButAnswer t) : t.retRecs = s.retRecs := by rw [h]
theorem State.sameButAnswer.serials {s t : State} (h : s.sameButAnswer t) : t.serials = s.serials := by rw [h]
theorem State.sameButAnswer.moved {s t : State} (h : s.sameButAnswer t) : t.moved = s.moved := by rw [h]
theorem State.sameButAnswer.nc {s t : State} (h : s.sameButAnswer t) : t.nc = s.nc := by rw [h]
theorem State.sameButAnswer.ports {s t : State} (h : s.sameButAnswer t) : t.ports = s.ports := by rw [h]
theorem State.sameButAnswer.fencedAt {s t : State} (h : s.sameButAnswer t) : t.fencedAt = s.fencedAt := by rw [h]
theorem State.sameButAnswer.tests {s t : State} (h : s.sameButAnswer t) : t.tests = s.tests := by rw [h]
theorem State.sameButAnswer.nand {s t : State} (h : s.sameButAnswer t) : t.nand = s.nand := by rw [h]
theorem State.sameButAnswer.svn {s t : State} (h : s.sameButAnswer t) : t.svn = s.svn := by rw [h]
theorem State.sameButAnswer.area {s t : State} (h : s.sameButAnswer t) : t.area = s.area := by rw [h]
theorem State.sameButAnswer.drams {s t : State} (h : s.sameButAnswer t) : t.drams = s.drams := by rw [h]
theorem State.sameButAnswer.dmarks {s t : State} (h : s.sameButAnswer t) : t.dmarks = s.dmarks := by rw [h]
theorem State.sameButAnswer.fen {s t : State} (h : s.sameButAnswer t) : t.fen = s.fen := by rw [h]
theorem State.sameButAnswer.doze {s t : State} (h : s.sameButAnswer t) : t.doze = s.doze := by rw [h]
theorem State.sameButAnswer.nor {s t : State} (h : s.sameButAnswer t) : t.nor = s.nor := by rw [h]
theorem State.sameButAnswer.boot {s t : State} (h : s.sameButAnswer t) : t.boot = s.boot := by rw [h]

@[simp] theorem State.raise_pending (s : State) (ev inst : Nat) : (s.raise ev inst).pending = s.pending := (State.raise_same s ev inst).pending
@[simp] theorem State.raise_free (s : State) (ev inst : Nat) : (s.raise ev inst).free = s.free := (State.raise_same s ev inst).free
@[simp] theorem State.raise_part (s : State) (ev inst : Nat) : (s.raise ev inst).part = s.part := (State.raise_same s ev inst).part
@[simp] theorem State.raise_mode (s : State) (ev inst : Nat) : (s.raise ev inst).mode = s.mode := (State.raise_same s ev inst).mode
@[simp] theorem State.raise_prevMode (s : State) (ev inst : Nat) : (s.raise ev inst).prevMode = s.prevMode := (State.raise_same s ev inst).prevMode
@[simp] theorem State.raise_changes (s : State) (ev inst : Nat) : (s.raise ev inst).changes = s.changes := (State.raise_same s ev inst).changes
@[simp] theorem State.raise_mrtQ (s : State) (ev inst : Nat) : (s.raise ev inst).mrtQ = s.mrtQ := (State.raise_same s ev inst).mrtQ
@[simp] theorem State.raise_latch (s : State) (ev inst : Nat) : (s.raise ev inst).latch = s.latch := (State.raise_same s ev inst).latch
@[simp] theorem State.raise_kept (s : State) (ev inst : Nat) : (s.raise ev inst).kept = s.kept := (State.raise_same s ev inst).kept
@[simp] theorem State.raise_gate (s : State) (ev inst : Nat) : (s.raise ev inst).gate = s.gate := (State.raise_same s ev inst).gate
@[simp] theorem State.raise_weft (s : State) (ev inst : Nat) : (s.raise ev inst).weft = s.weft := (State.raise_same s ev inst).weft
@[simp] theorem State.raise_spool (s : State) (ev inst : Nat) : (s.raise ev inst).spool = s.spool := (State.raise_same s ev inst).spool
@[simp] theorem State.raise_mons (s : State) (ev inst : Nat) : (s.raise ev inst).mons = s.mons := (State.raise_same s ev inst).mons
@[simp] theorem State.raise_peatSnap (s : State) (ev inst : Nat) : (s.raise ev inst).peatSnap = s.peatSnap := (State.raise_same s ev inst).peatSnap
@[simp] theorem State.raise_pcie (s : State) (ev inst : Nat) : (s.raise ev inst).pcie = s.pcie := (State.raise_same s ev inst).pcie
@[simp] theorem State.raise_pcieHeld (s : State) (ev inst : Nat) : (s.raise ev inst).pcieHeld = s.pcieHeld := (State.raise_same s ev inst).pcieHeld
@[simp] theorem State.raise_mqpOut (s : State) (ev inst : Nat) : (s.raise ev inst).mqpOut = s.mqpOut := (State.raise_same s ev inst).mqpOut
@[simp] theorem State.raise_sbus (s : State) (ev inst : Nat) : (s.raise ev inst).sbus = s.sbus := (State.raise_same s ev inst).sbus
@[simp] theorem State.raise_cryp (s : State) (ev inst : Nat) : (s.raise ev inst).cryp = s.cryp := (State.raise_same s ev inst).cryp
@[simp] theorem State.raise_scan (s : State) (ev inst : Nat) : (s.raise ev inst).scan = s.scan := (State.raise_same s ev inst).scan
@[simp] theorem State.raise_lks (s : State) (ev inst : Nat) : (s.raise ev inst).lks = s.lks := (State.raise_same s ev inst).lks
@[simp] theorem State.raise_fuses (s : State) (ev inst : Nat) : (s.raise ev inst).fuses = s.fuses := (State.raise_same s ev inst).fuses
@[simp] theorem State.raise_thm (s : State) (ev inst : Nat) : (s.raise ev inst).thm = s.thm := (State.raise_same s ev inst).thm
@[simp] theorem State.raise_clk (s : State) (ev inst : Nat) : (s.raise ev inst).clk = s.clk := (State.raise_same s ev inst).clk
@[simp] theorem State.raise_save (s : State) (ev inst : Nat) : (s.raise ev inst).save = s.save := (State.raise_same s ev inst).save
@[simp] theorem State.raise_pf (s : State) (ev inst : Nat) : (s.raise ev inst).pf = s.pf := (State.raise_same s ev inst).pf
@[simp] theorem State.raise_brownout (s : State) (ev inst : Nat) : (s.raise ev inst).brownout = s.brownout := (State.raise_same s ev inst).brownout
@[simp] theorem State.raise_entries (s : State) (ev inst : Nat) : (s.raise ev inst).entries = s.entries := (State.raise_same s ev inst).entries
@[simp] theorem State.raise_descs (s : State) (ev inst : Nat) : (s.raise ev inst).descs = s.descs := (State.raise_same s ev inst).descs
@[simp] theorem State.raise_shared (s : State) (ev inst : Nat) : (s.raise ev inst).shared = s.shared := (State.raise_same s ev inst).shared
@[simp] theorem State.raise_tlr (s : State) (ev inst : Nat) : (s.raise ev inst).tlr = s.tlr := (State.raise_same s ev inst).tlr
@[simp] theorem State.raise_fetches (s : State) (ev inst : Nat) : (s.raise ev inst).fetches = s.fetches := (State.raise_same s ev inst).fetches
@[simp] theorem State.raise_parks (s : State) (ev inst : Nat) : (s.raise ev inst).parks = s.parks := (State.raise_same s ev inst).parks
@[simp] theorem State.raise_pops (s : State) (ev inst : Nat) : (s.raise ev inst).pops = s.pops := (State.raise_same s ev inst).pops
@[simp] theorem State.raise_retFrames (s : State) (ev inst : Nat) : (s.raise ev inst).retFrames = s.retFrames := (State.raise_same s ev inst).retFrames
@[simp] theorem State.raise_retBanks (s : State) (ev inst : Nat) : (s.raise ev inst).retBanks = s.retBanks := (State.raise_same s ev inst).retBanks
@[simp] theorem State.raise_retRecs (s : State) (ev inst : Nat) : (s.raise ev inst).retRecs = s.retRecs := (State.raise_same s ev inst).retRecs
@[simp] theorem State.raise_serials (s : State) (ev inst : Nat) : (s.raise ev inst).serials = s.serials := (State.raise_same s ev inst).serials
@[simp] theorem State.raise_moved (s : State) (ev inst : Nat) : (s.raise ev inst).moved = s.moved := (State.raise_same s ev inst).moved
@[simp] theorem State.raise_nc (s : State) (ev inst : Nat) : (s.raise ev inst).nc = s.nc := (State.raise_same s ev inst).nc
@[simp] theorem State.raise_ports (s : State) (ev inst : Nat) : (s.raise ev inst).ports = s.ports := (State.raise_same s ev inst).ports
@[simp] theorem State.raise_fencedAt (s : State) (ev inst : Nat) : (s.raise ev inst).fencedAt = s.fencedAt := (State.raise_same s ev inst).fencedAt
@[simp] theorem State.raise_seam (s : State) (ev inst : Nat) : (s.raise ev inst).seam = s.seam := (State.raise_same s ev inst).seam
@[simp] theorem State.raise_tests (s : State) (ev inst : Nat) : (s.raise ev inst).tests = s.tests := (State.raise_same s ev inst).tests
@[simp] theorem State.raise_nand (s : State) (ev inst : Nat) : (s.raise ev inst).nand = s.nand := (State.raise_same s ev inst).nand
@[simp] theorem State.raise_svn (s : State) (ev inst : Nat) : (s.raise ev inst).svn = s.svn := (State.raise_same s ev inst).svn
@[simp] theorem State.raise_area (s : State) (ev inst : Nat) : (s.raise ev inst).area = s.area := (State.raise_same s ev inst).area
@[simp] theorem State.raise_drams (s : State) (ev inst : Nat) : (s.raise ev inst).drams = s.drams := (State.raise_same s ev inst).drams
@[simp] theorem State.raise_dmarks (s : State) (ev inst : Nat) : (s.raise ev inst).dmarks = s.dmarks := (State.raise_same s ev inst).dmarks
@[simp] theorem State.raise_fen (s : State) (ev inst : Nat) : (s.raise ev inst).fen = s.fen := (State.raise_same s ev inst).fen
@[simp] theorem State.raise_doze (s : State) (ev inst : Nat) : (s.raise ev inst).doze = s.doze := (State.raise_same s ev inst).doze
@[simp] theorem State.raise_nor (s : State) (ev inst : Nat) : (s.raise ev inst).nor = s.nor := (State.raise_same s ev inst).nor
@[simp] theorem State.raise_boot (s : State) (ev inst : Nat) : (s.raise ev inst).boot = s.boot := (State.raise_same s ev inst).boot

@[simp] theorem State.seamSend_pending (s : State) (f : SFrame) : (s.seamSend f).pending = s.pending := (State.seamSend_only s f).1.pending
@[simp] theorem State.seamSend_part (s : State) (f : SFrame) : (s.seamSend f).part = s.part := (State.seamSend_only s f).1.part
@[simp] theorem State.seamSend_mode (s : State) (f : SFrame) : (s.seamSend f).mode = s.mode := (State.seamSend_only s f).1.mode
@[simp] theorem State.seamSend_prevMode (s : State) (f : SFrame) : (s.seamSend f).prevMode = s.prevMode := (State.seamSend_only s f).1.prevMode
@[simp] theorem State.seamSend_changes (s : State) (f : SFrame) : (s.seamSend f).changes = s.changes := (State.seamSend_only s f).1.changes
@[simp] theorem State.seamSend_mrtQ (s : State) (f : SFrame) : (s.seamSend f).mrtQ = s.mrtQ := (State.seamSend_only s f).1.mrtQ
@[simp] theorem State.seamSend_latch (s : State) (f : SFrame) : (s.seamSend f).latch = s.latch := (State.seamSend_only s f).1.latch
@[simp] theorem State.seamSend_kept (s : State) (f : SFrame) : (s.seamSend f).kept = s.kept := (State.seamSend_only s f).1.kept
@[simp] theorem State.seamSend_weft (s : State) (f : SFrame) : (s.seamSend f).weft = s.weft := (State.seamSend_only s f).1.weft
@[simp] theorem State.seamSend_spool (s : State) (f : SFrame) : (s.seamSend f).spool = s.spool := (State.seamSend_only s f).1.spool
@[simp] theorem State.seamSend_mons (s : State) (f : SFrame) : (s.seamSend f).mons = s.mons := (State.seamSend_only s f).1.mons
@[simp] theorem State.seamSend_peatSnap (s : State) (f : SFrame) : (s.seamSend f).peatSnap = s.peatSnap := (State.seamSend_only s f).1.peatSnap
@[simp] theorem State.seamSend_sbus (s : State) (f : SFrame) : (s.seamSend f).sbus = s.sbus := (State.seamSend_only s f).1.sbus
@[simp] theorem State.seamSend_cryp (s : State) (f : SFrame) : (s.seamSend f).cryp = s.cryp := (State.seamSend_only s f).1.cryp
@[simp] theorem State.seamSend_scan (s : State) (f : SFrame) : (s.seamSend f).scan = s.scan := (State.seamSend_only s f).1.scan
@[simp] theorem State.seamSend_lks (s : State) (f : SFrame) : (s.seamSend f).lks = s.lks := (State.seamSend_only s f).1.lks
@[simp] theorem State.seamSend_fuses (s : State) (f : SFrame) : (s.seamSend f).fuses = s.fuses := (State.seamSend_only s f).1.fuses
@[simp] theorem State.seamSend_thm (s : State) (f : SFrame) : (s.seamSend f).thm = s.thm := (State.seamSend_only s f).1.thm
@[simp] theorem State.seamSend_clk (s : State) (f : SFrame) : (s.seamSend f).clk = s.clk := (State.seamSend_only s f).1.clk
@[simp] theorem State.seamSend_save (s : State) (f : SFrame) : (s.seamSend f).save = s.save := (State.seamSend_only s f).1.save
@[simp] theorem State.seamSend_pf (s : State) (f : SFrame) : (s.seamSend f).pf = s.pf := (State.seamSend_only s f).1.pf
@[simp] theorem State.seamSend_brownout (s : State) (f : SFrame) : (s.seamSend f).brownout = s.brownout := (State.seamSend_only s f).1.brownout
@[simp] theorem State.seamSend_entries (s : State) (f : SFrame) : (s.seamSend f).entries = s.entries := (State.seamSend_only s f).1.entries
@[simp] theorem State.seamSend_descs (s : State) (f : SFrame) : (s.seamSend f).descs = s.descs := (State.seamSend_only s f).1.descs
@[simp] theorem State.seamSend_shared (s : State) (f : SFrame) : (s.seamSend f).shared = s.shared := (State.seamSend_only s f).1.shared
@[simp] theorem State.seamSend_tlr (s : State) (f : SFrame) : (s.seamSend f).tlr = s.tlr := (State.seamSend_only s f).1.tlr
@[simp] theorem State.seamSend_fetches (s : State) (f : SFrame) : (s.seamSend f).fetches = s.fetches := (State.seamSend_only s f).1.fetches
@[simp] theorem State.seamSend_parks (s : State) (f : SFrame) : (s.seamSend f).parks = s.parks := (State.seamSend_only s f).1.parks
@[simp] theorem State.seamSend_pops (s : State) (f : SFrame) : (s.seamSend f).pops = s.pops := (State.seamSend_only s f).1.pops
@[simp] theorem State.seamSend_retFrames (s : State) (f : SFrame) : (s.seamSend f).retFrames = s.retFrames := (State.seamSend_only s f).1.retFrames
@[simp] theorem State.seamSend_retBanks (s : State) (f : SFrame) : (s.seamSend f).retBanks = s.retBanks := (State.seamSend_only s f).1.retBanks
@[simp] theorem State.seamSend_retRecs (s : State) (f : SFrame) : (s.seamSend f).retRecs = s.retRecs := (State.seamSend_only s f).1.retRecs
@[simp] theorem State.seamSend_serials (s : State) (f : SFrame) : (s.seamSend f).serials = s.serials := (State.seamSend_only s f).1.serials
@[simp] theorem State.seamSend_moved (s : State) (f : SFrame) : (s.seamSend f).moved = s.moved := (State.seamSend_only s f).1.moved
@[simp] theorem State.seamSend_nc (s : State) (f : SFrame) : (s.seamSend f).nc = s.nc := (State.seamSend_only s f).1.nc
@[simp] theorem State.seamSend_ports (s : State) (f : SFrame) : (s.seamSend f).ports = s.ports := (State.seamSend_only s f).1.ports
@[simp] theorem State.seamSend_fencedAt (s : State) (f : SFrame) : (s.seamSend f).fencedAt = s.fencedAt := (State.seamSend_only s f).1.fencedAt
@[simp] theorem State.seamSend_tests (s : State) (f : SFrame) : (s.seamSend f).tests = s.tests := (State.seamSend_only s f).1.tests
@[simp] theorem State.seamSend_nand (s : State) (f : SFrame) : (s.seamSend f).nand = s.nand := (State.seamSend_only s f).1.nand
@[simp] theorem State.seamSend_svn (s : State) (f : SFrame) : (s.seamSend f).svn = s.svn := (State.seamSend_only s f).1.svn
@[simp] theorem State.seamSend_area (s : State) (f : SFrame) : (s.seamSend f).area = s.area := (State.seamSend_only s f).1.area
@[simp] theorem State.seamSend_drams (s : State) (f : SFrame) : (s.seamSend f).drams = s.drams := (State.seamSend_only s f).1.drams
@[simp] theorem State.seamSend_dmarks (s : State) (f : SFrame) : (s.seamSend f).dmarks = s.dmarks := (State.seamSend_only s f).1.dmarks
@[simp] theorem State.seamSend_fen (s : State) (f : SFrame) : (s.seamSend f).fen = s.fen := (State.seamSend_only s f).1.fen
@[simp] theorem State.seamSend_doze (s : State) (f : SFrame) : (s.seamSend f).doze = s.doze := (State.seamSend_only s f).1.doze
@[simp] theorem State.seamSend_nor (s : State) (f : SFrame) : (s.seamSend f).nor = s.nor := (State.seamSend_only s f).1.nor
@[simp] theorem State.seamSend_boot (s : State) (f : SFrame) : (s.seamSend f).boot = s.boot := (State.seamSend_only s f).1.boot

@[simp] theorem State.answer_pending (s : State) (h : Hdr) (code : Nat) (st : Status) (vals : List Nat) : (s.answer h code st vals).pending = s.pending := (State.answer_only s h code st vals).1.pending
@[simp] theorem State.answer_part (s : State) (h : Hdr) (code : Nat) (st : Status) (vals : List Nat) : (s.answer h code st vals).part = s.part := (State.answer_only s h code st vals).1.part
@[simp] theorem State.answer_mode (s : State) (h : Hdr) (code : Nat) (st : Status) (vals : List Nat) : (s.answer h code st vals).mode = s.mode := (State.answer_only s h code st vals).1.mode
@[simp] theorem State.answer_prevMode (s : State) (h : Hdr) (code : Nat) (st : Status) (vals : List Nat) : (s.answer h code st vals).prevMode = s.prevMode := (State.answer_only s h code st vals).1.prevMode
@[simp] theorem State.answer_changes (s : State) (h : Hdr) (code : Nat) (st : Status) (vals : List Nat) : (s.answer h code st vals).changes = s.changes := (State.answer_only s h code st vals).1.changes
@[simp] theorem State.answer_mrtQ (s : State) (h : Hdr) (code : Nat) (st : Status) (vals : List Nat) : (s.answer h code st vals).mrtQ = s.mrtQ := (State.answer_only s h code st vals).1.mrtQ
@[simp] theorem State.answer_latch (s : State) (h : Hdr) (code : Nat) (st : Status) (vals : List Nat) : (s.answer h code st vals).latch = s.latch := (State.answer_only s h code st vals).1.latch
@[simp] theorem State.answer_kept (s : State) (h : Hdr) (code : Nat) (st : Status) (vals : List Nat) : (s.answer h code st vals).kept = s.kept := (State.answer_only s h code st vals).1.kept
@[simp] theorem State.answer_weft (s : State) (h : Hdr) (code : Nat) (st : Status) (vals : List Nat) : (s.answer h code st vals).weft = s.weft := (State.answer_only s h code st vals).1.weft
@[simp] theorem State.answer_spool (s : State) (h : Hdr) (code : Nat) (st : Status) (vals : List Nat) : (s.answer h code st vals).spool = s.spool := (State.answer_only s h code st vals).1.spool
@[simp] theorem State.answer_mons (s : State) (h : Hdr) (code : Nat) (st : Status) (vals : List Nat) : (s.answer h code st vals).mons = s.mons := (State.answer_only s h code st vals).1.mons
@[simp] theorem State.answer_peatSnap (s : State) (h : Hdr) (code : Nat) (st : Status) (vals : List Nat) : (s.answer h code st vals).peatSnap = s.peatSnap := (State.answer_only s h code st vals).1.peatSnap
@[simp] theorem State.answer_sbus (s : State) (h : Hdr) (code : Nat) (st : Status) (vals : List Nat) : (s.answer h code st vals).sbus = s.sbus := (State.answer_only s h code st vals).1.sbus
@[simp] theorem State.answer_cryp (s : State) (h : Hdr) (code : Nat) (st : Status) (vals : List Nat) : (s.answer h code st vals).cryp = s.cryp := (State.answer_only s h code st vals).1.cryp
@[simp] theorem State.answer_scan (s : State) (h : Hdr) (code : Nat) (st : Status) (vals : List Nat) : (s.answer h code st vals).scan = s.scan := (State.answer_only s h code st vals).1.scan
@[simp] theorem State.answer_lks (s : State) (h : Hdr) (code : Nat) (st : Status) (vals : List Nat) : (s.answer h code st vals).lks = s.lks := (State.answer_only s h code st vals).1.lks
@[simp] theorem State.answer_fuses (s : State) (h : Hdr) (code : Nat) (st : Status) (vals : List Nat) : (s.answer h code st vals).fuses = s.fuses := (State.answer_only s h code st vals).1.fuses
@[simp] theorem State.answer_thm (s : State) (h : Hdr) (code : Nat) (st : Status) (vals : List Nat) : (s.answer h code st vals).thm = s.thm := (State.answer_only s h code st vals).1.thm
@[simp] theorem State.answer_clk (s : State) (h : Hdr) (code : Nat) (st : Status) (vals : List Nat) : (s.answer h code st vals).clk = s.clk := (State.answer_only s h code st vals).1.clk
@[simp] theorem State.answer_save (s : State) (h : Hdr) (code : Nat) (st : Status) (vals : List Nat) : (s.answer h code st vals).save = s.save := (State.answer_only s h code st vals).1.save
@[simp] theorem State.answer_pf (s : State) (h : Hdr) (code : Nat) (st : Status) (vals : List Nat) : (s.answer h code st vals).pf = s.pf := (State.answer_only s h code st vals).1.pf
@[simp] theorem State.answer_brownout (s : State) (h : Hdr) (code : Nat) (st : Status) (vals : List Nat) : (s.answer h code st vals).brownout = s.brownout := (State.answer_only s h code st vals).1.brownout
@[simp] theorem State.answer_entries (s : State) (h : Hdr) (code : Nat) (st : Status) (vals : List Nat) : (s.answer h code st vals).entries = s.entries := (State.answer_only s h code st vals).1.entries
@[simp] theorem State.answer_descs (s : State) (h : Hdr) (code : Nat) (st : Status) (vals : List Nat) : (s.answer h code st vals).descs = s.descs := (State.answer_only s h code st vals).1.descs
@[simp] theorem State.answer_shared (s : State) (h : Hdr) (code : Nat) (st : Status) (vals : List Nat) : (s.answer h code st vals).shared = s.shared := (State.answer_only s h code st vals).1.shared
@[simp] theorem State.answer_tlr (s : State) (h : Hdr) (code : Nat) (st : Status) (vals : List Nat) : (s.answer h code st vals).tlr = s.tlr := (State.answer_only s h code st vals).1.tlr
@[simp] theorem State.answer_fetches (s : State) (h : Hdr) (code : Nat) (st : Status) (vals : List Nat) : (s.answer h code st vals).fetches = s.fetches := (State.answer_only s h code st vals).1.fetches
@[simp] theorem State.answer_parks (s : State) (h : Hdr) (code : Nat) (st : Status) (vals : List Nat) : (s.answer h code st vals).parks = s.parks := (State.answer_only s h code st vals).1.parks
@[simp] theorem State.answer_pops (s : State) (h : Hdr) (code : Nat) (st : Status) (vals : List Nat) : (s.answer h code st vals).pops = s.pops := (State.answer_only s h code st vals).1.pops
@[simp] theorem State.answer_retFrames (s : State) (h : Hdr) (code : Nat) (st : Status) (vals : List Nat) : (s.answer h code st vals).retFrames = s.retFrames := (State.answer_only s h code st vals).1.retFrames
@[simp] theorem State.answer_retBanks (s : State) (h : Hdr) (code : Nat) (st : Status) (vals : List Nat) : (s.answer h code st vals).retBanks = s.retBanks := (State.answer_only s h code st vals).1.retBanks
@[simp] theorem State.answer_retRecs (s : State) (h : Hdr) (code : Nat) (st : Status) (vals : List Nat) : (s.answer h code st vals).retRecs = s.retRecs := (State.answer_only s h code st vals).1.retRecs
@[simp] theorem State.answer_serials (s : State) (h : Hdr) (code : Nat) (st : Status) (vals : List Nat) : (s.answer h code st vals).serials = s.serials := (State.answer_only s h code st vals).1.serials
@[simp] theorem State.answer_moved (s : State) (h : Hdr) (code : Nat) (st : Status) (vals : List Nat) : (s.answer h code st vals).moved = s.moved := (State.answer_only s h code st vals).1.moved
@[simp] theorem State.answer_nc (s : State) (h : Hdr) (code : Nat) (st : Status) (vals : List Nat) : (s.answer h code st vals).nc = s.nc := (State.answer_only s h code st vals).1.nc
@[simp] theorem State.answer_ports (s : State) (h : Hdr) (code : Nat) (st : Status) (vals : List Nat) : (s.answer h code st vals).ports = s.ports := (State.answer_only s h code st vals).1.ports
@[simp] theorem State.answer_fencedAt (s : State) (h : Hdr) (code : Nat) (st : Status) (vals : List Nat) : (s.answer h code st vals).fencedAt = s.fencedAt := (State.answer_only s h code st vals).1.fencedAt
@[simp] theorem State.answer_tests (s : State) (h : Hdr) (code : Nat) (st : Status) (vals : List Nat) : (s.answer h code st vals).tests = s.tests := (State.answer_only s h code st vals).1.tests
@[simp] theorem State.answer_nand (s : State) (h : Hdr) (code : Nat) (st : Status) (vals : List Nat) : (s.answer h code st vals).nand = s.nand := (State.answer_only s h code st vals).1.nand
@[simp] theorem State.answer_svn (s : State) (h : Hdr) (code : Nat) (st : Status) (vals : List Nat) : (s.answer h code st vals).svn = s.svn := (State.answer_only s h code st vals).1.svn
@[simp] theorem State.answer_area (s : State) (h : Hdr) (code : Nat) (st : Status) (vals : List Nat) : (s.answer h code st vals).area = s.area := (State.answer_only s h code st vals).1.area
@[simp] theorem State.answer_drams (s : State) (h : Hdr) (code : Nat) (st : Status) (vals : List Nat) : (s.answer h code st vals).drams = s.drams := (State.answer_only s h code st vals).1.drams
@[simp] theorem State.answer_dmarks (s : State) (h : Hdr) (code : Nat) (st : Status) (vals : List Nat) : (s.answer h code st vals).dmarks = s.dmarks := (State.answer_only s h code st vals).1.dmarks
@[simp] theorem State.answer_fen (s : State) (h : Hdr) (code : Nat) (st : Status) (vals : List Nat) : (s.answer h code st vals).fen = s.fen := (State.answer_only s h code st vals).1.fen
@[simp] theorem State.answer_doze (s : State) (h : Hdr) (code : Nat) (st : Status) (vals : List Nat) : (s.answer h code st vals).doze = s.doze := (State.answer_only s h code st vals).1.doze
@[simp] theorem State.answer_nor (s : State) (h : Hdr) (code : Nat) (st : Status) (vals : List Nat) : (s.answer h code st vals).nor = s.nor := (State.answer_only s h code st vals).1.nor
@[simp] theorem State.answer_boot (s : State) (h : Hdr) (code : Nat) (st : Status) (vals : List Nat) : (s.answer h code st vals).boot = s.boot := (State.answer_only s h code st vals).1.boot

@[simp] theorem State.complete_pending (s : State) (h : Hdr) (st : Status) (vals : List Nat) : (s.complete h st vals).pending = s.pending := (State.complete_only s h st vals).1.pending
@[simp] theorem State.complete_part (s : State) (h : Hdr) (st : Status) (vals : List Nat) : (s.complete h st vals).part = s.part := (State.complete_only s h st vals).1.part
@[simp] theorem State.complete_mode (s : State) (h : Hdr) (st : Status) (vals : List Nat) : (s.complete h st vals).mode = s.mode := (State.complete_only s h st vals).1.mode
@[simp] theorem State.complete_prevMode (s : State) (h : Hdr) (st : Status) (vals : List Nat) : (s.complete h st vals).prevMode = s.prevMode := (State.complete_only s h st vals).1.prevMode
@[simp] theorem State.complete_changes (s : State) (h : Hdr) (st : Status) (vals : List Nat) : (s.complete h st vals).changes = s.changes := (State.complete_only s h st vals).1.changes
@[simp] theorem State.complete_mrtQ (s : State) (h : Hdr) (st : Status) (vals : List Nat) : (s.complete h st vals).mrtQ = s.mrtQ := (State.complete_only s h st vals).1.mrtQ
@[simp] theorem State.complete_latch (s : State) (h : Hdr) (st : Status) (vals : List Nat) : (s.complete h st vals).latch = s.latch := (State.complete_only s h st vals).1.latch
@[simp] theorem State.complete_kept (s : State) (h : Hdr) (st : Status) (vals : List Nat) : (s.complete h st vals).kept = s.kept := (State.complete_only s h st vals).1.kept
@[simp] theorem State.complete_weft (s : State) (h : Hdr) (st : Status) (vals : List Nat) : (s.complete h st vals).weft = s.weft := (State.complete_only s h st vals).1.weft
@[simp] theorem State.complete_spool (s : State) (h : Hdr) (st : Status) (vals : List Nat) : (s.complete h st vals).spool = s.spool := (State.complete_only s h st vals).1.spool
@[simp] theorem State.complete_mons (s : State) (h : Hdr) (st : Status) (vals : List Nat) : (s.complete h st vals).mons = s.mons := (State.complete_only s h st vals).1.mons
@[simp] theorem State.complete_peatSnap (s : State) (h : Hdr) (st : Status) (vals : List Nat) : (s.complete h st vals).peatSnap = s.peatSnap := (State.complete_only s h st vals).1.peatSnap
@[simp] theorem State.complete_sbus (s : State) (h : Hdr) (st : Status) (vals : List Nat) : (s.complete h st vals).sbus = s.sbus := (State.complete_only s h st vals).1.sbus
@[simp] theorem State.complete_cryp (s : State) (h : Hdr) (st : Status) (vals : List Nat) : (s.complete h st vals).cryp = s.cryp := (State.complete_only s h st vals).1.cryp
@[simp] theorem State.complete_scan (s : State) (h : Hdr) (st : Status) (vals : List Nat) : (s.complete h st vals).scan = s.scan := (State.complete_only s h st vals).1.scan
@[simp] theorem State.complete_lks (s : State) (h : Hdr) (st : Status) (vals : List Nat) : (s.complete h st vals).lks = s.lks := (State.complete_only s h st vals).1.lks
@[simp] theorem State.complete_fuses (s : State) (h : Hdr) (st : Status) (vals : List Nat) : (s.complete h st vals).fuses = s.fuses := (State.complete_only s h st vals).1.fuses
@[simp] theorem State.complete_thm (s : State) (h : Hdr) (st : Status) (vals : List Nat) : (s.complete h st vals).thm = s.thm := (State.complete_only s h st vals).1.thm
@[simp] theorem State.complete_clk (s : State) (h : Hdr) (st : Status) (vals : List Nat) : (s.complete h st vals).clk = s.clk := (State.complete_only s h st vals).1.clk
@[simp] theorem State.complete_save (s : State) (h : Hdr) (st : Status) (vals : List Nat) : (s.complete h st vals).save = s.save := (State.complete_only s h st vals).1.save
@[simp] theorem State.complete_pf (s : State) (h : Hdr) (st : Status) (vals : List Nat) : (s.complete h st vals).pf = s.pf := (State.complete_only s h st vals).1.pf
@[simp] theorem State.complete_brownout (s : State) (h : Hdr) (st : Status) (vals : List Nat) : (s.complete h st vals).brownout = s.brownout := (State.complete_only s h st vals).1.brownout
@[simp] theorem State.complete_entries (s : State) (h : Hdr) (st : Status) (vals : List Nat) : (s.complete h st vals).entries = s.entries := (State.complete_only s h st vals).1.entries
@[simp] theorem State.complete_descs (s : State) (h : Hdr) (st : Status) (vals : List Nat) : (s.complete h st vals).descs = s.descs := (State.complete_only s h st vals).1.descs
@[simp] theorem State.complete_shared (s : State) (h : Hdr) (st : Status) (vals : List Nat) : (s.complete h st vals).shared = s.shared := (State.complete_only s h st vals).1.shared
@[simp] theorem State.complete_tlr (s : State) (h : Hdr) (st : Status) (vals : List Nat) : (s.complete h st vals).tlr = s.tlr := (State.complete_only s h st vals).1.tlr
@[simp] theorem State.complete_fetches (s : State) (h : Hdr) (st : Status) (vals : List Nat) : (s.complete h st vals).fetches = s.fetches := (State.complete_only s h st vals).1.fetches
@[simp] theorem State.complete_parks (s : State) (h : Hdr) (st : Status) (vals : List Nat) : (s.complete h st vals).parks = s.parks := (State.complete_only s h st vals).1.parks
@[simp] theorem State.complete_pops (s : State) (h : Hdr) (st : Status) (vals : List Nat) : (s.complete h st vals).pops = s.pops := (State.complete_only s h st vals).1.pops
@[simp] theorem State.complete_retFrames (s : State) (h : Hdr) (st : Status) (vals : List Nat) : (s.complete h st vals).retFrames = s.retFrames := (State.complete_only s h st vals).1.retFrames
@[simp] theorem State.complete_retBanks (s : State) (h : Hdr) (st : Status) (vals : List Nat) : (s.complete h st vals).retBanks = s.retBanks := (State.complete_only s h st vals).1.retBanks
@[simp] theorem State.complete_retRecs (s : State) (h : Hdr) (st : Status) (vals : List Nat) : (s.complete h st vals).retRecs = s.retRecs := (State.complete_only s h st vals).1.retRecs
@[simp] theorem State.complete_serials (s : State) (h : Hdr) (st : Status) (vals : List Nat) : (s.complete h st vals).serials = s.serials := (State.complete_only s h st vals).1.serials
@[simp] theorem State.complete_moved (s : State) (h : Hdr) (st : Status) (vals : List Nat) : (s.complete h st vals).moved = s.moved := (State.complete_only s h st vals).1.moved
@[simp] theorem State.complete_nc (s : State) (h : Hdr) (st : Status) (vals : List Nat) : (s.complete h st vals).nc = s.nc := (State.complete_only s h st vals).1.nc
@[simp] theorem State.complete_ports (s : State) (h : Hdr) (st : Status) (vals : List Nat) : (s.complete h st vals).ports = s.ports := (State.complete_only s h st vals).1.ports
@[simp] theorem State.complete_fencedAt (s : State) (h : Hdr) (st : Status) (vals : List Nat) : (s.complete h st vals).fencedAt = s.fencedAt := (State.complete_only s h st vals).1.fencedAt
@[simp] theorem State.complete_tests (s : State) (h : Hdr) (st : Status) (vals : List Nat) : (s.complete h st vals).tests = s.tests := (State.complete_only s h st vals).1.tests
@[simp] theorem State.complete_nand (s : State) (h : Hdr) (st : Status) (vals : List Nat) : (s.complete h st vals).nand = s.nand := (State.complete_only s h st vals).1.nand
@[simp] theorem State.complete_svn (s : State) (h : Hdr) (st : Status) (vals : List Nat) : (s.complete h st vals).svn = s.svn := (State.complete_only s h st vals).1.svn
@[simp] theorem State.complete_area (s : State) (h : Hdr) (st : Status) (vals : List Nat) : (s.complete h st vals).area = s.area := (State.complete_only s h st vals).1.area
@[simp] theorem State.complete_drams (s : State) (h : Hdr) (st : Status) (vals : List Nat) : (s.complete h st vals).drams = s.drams := (State.complete_only s h st vals).1.drams
@[simp] theorem State.complete_dmarks (s : State) (h : Hdr) (st : Status) (vals : List Nat) : (s.complete h st vals).dmarks = s.dmarks := (State.complete_only s h st vals).1.dmarks
@[simp] theorem State.complete_fen (s : State) (h : Hdr) (st : Status) (vals : List Nat) : (s.complete h st vals).fen = s.fen := (State.complete_only s h st vals).1.fen
@[simp] theorem State.complete_doze (s : State) (h : Hdr) (st : Status) (vals : List Nat) : (s.complete h st vals).doze = s.doze := (State.complete_only s h st vals).1.doze
@[simp] theorem State.complete_nor (s : State) (h : Hdr) (st : Status) (vals : List Nat) : (s.complete h st vals).nor = s.nor := (State.complete_only s h st vals).1.nor
@[simp] theorem State.complete_boot (s : State) (h : Hdr) (st : Status) (vals : List Nat) : (s.complete h st vals).boot = s.boot := (State.complete_only s h st vals).1.boot

end Sys2Proof.Machine
end

