-- ==== Sys2Proof/WellFormed.lean ====
section
/-! DEFINITION. Well-formed commands: operands within the ranges that the spec gives the things they name. Types hold most ranges; the
checks here are for numbers. A management command may carry any argument (the device answers INVALID). -/

namespace Sys2Proof

/-- A tile of the largest tenant range (R38). -/
def tileOk (t : Nat) : Bool := decide (t < 0x68000000)

/-- A packet sequence number of 24 bits (R67). -/
def psnOk (p : Nat) : Bool := decide (p < 16777216)

/-- A region index (R46). -/
def regionOk (i : Nat) : Bool := decide (i < 1048576)

/-- A channel and a subscriber (R92, R98). -/
def chanOk (c : Nat) : Bool := decide (c < 4096)
def subOk (k : Nat) : Bool := decide (k < 1024)

/-- A burst's sixteen beats (R210). -/
def beatsOk (l : Beats) : Bool := l.length == 16

/-- A block number of a target (R230). -/
def blockOk (b : Nat) : Bool := decide (b < 1048576)

/-- An aperture offset (R377), an access width in bytes (R379), an offset in the NOR window (R318). -/
def apertureOk (off : Nat) : Bool := decide (off < 268435456)
def widthOk (w : Nat) : Bool := w == 1 || w == 2 || w == 4 || w == 8
def windowOk (off : Nat) : Bool := decide (off < 67108864)

/-- A packet's numbers and payload (R67, R68, R73, R86). -/
def packetOk (p : Packet) : Bool := psnOk p.psn && decide (p.qpn < 16777216) && decide (p.data.length ≤ 4096) && decide (p.pn < 4294967296) && decide (p.aeth < 256)

/-- The command is well-formed. -/
def Instr.wellFormed : Instr → Bool
  | .packetReceive p => packetOk p
  | .pfcPauseReceive _ _ quanta => decide (quanta < 65536)
  | .messageCommit _ psn _ => psnOk psn
  | .rnrThresholdExpire _ psn => psnOk psn
  | .nandReadComplete tile _ _ _ _ => tileOk tile
  | .fetchHoldExpire tile => tileOk tile
  | .drainDeadline region => regionOk region
  | .deregisterDrainDone region => regionOk region
  | .publishDeliver chan sub => chanOk chan && subOk sub
  | .subscriberAckReceive chan sub _ => chanOk chan && subOk sub
  | .gapEntryWrite chan sub => chanOk chan && subOk sub
  | .publishHint chan => chanOk chan
  | .migrationSwitch tile .. => tileOk tile
  | .churnMerge tile .. => tileOk tile
  | .restoreTilePresent tile .. => tileOk tile
  | .mirrorReceive _ m => psnOk m.psn
  | .mackReceive _ _ psn _ syn => psnOk psn && decide (syn < 256)
  | .fwdReceive _ m _ => psnOk m.psn
  | .copyReceive _ tile _ data key => tileOk tile && data.length == 4096 && decide (key < 1024)
  | .discardFrameReceive _ tile => tileOk tile
  | .dramReadComplete _ _ beats _ _ => beatsOk beats
  | .scrubRead _ _ beats => beatsOk beats
  | .nandProgramComplete _ tile _ => tileOk tile
  | .nandEraseComplete _ block _ => blockOk block
  | .readVerify _ block .. => blockOk block
  | .gcRelocateSwitch tile .. => tileOk tile
  | .disturbScan _ block _ => blockOk block
  | .retentionPatrol _ block _ => blockOk block
  | .norWindowWrite _ off _ _ => windowOk off
  | .norWindowRead off => windowOk off
  | .csrWrite _ width off _ => apertureOk off && widthOk width
  | .csrReadLoLatch _ off => apertureOk off
  | .query _ _ index => decide (index < 4294967296)
  | .registerRead _ off _ => apertureOk off
  | .registerWrite _ off _ => apertureOk off
  | .setTime _ _ second => decide (second < 281474976710656)
  | .gateCommandArrive .. | .gateWindowClose .. | .weftStall .. | .weftStallCfgWrite .. | .spoolAllocate .. | .spoolFree .. | .spoolReclaimDone ..
  | .cnpReceive .. | .ccRateUpdate .. | .ackIdleExpire .. | .ackMsgsReached .. | .nakSend .. | .engineCheckError .. | .engineBistFail ..
  | .seqReplaceSend .. | .selfTestDone .. | .qpMove .. | .qpRebalancePeriod .. | .requesterRetryTimeout .. | .migrationStart .. | .ageTick ..
  | .dramRebalance .. | .powerFailIndication .. | .powerFailGlitch .. | .powerFailConfirm .. | .tierCloseDone .. | .saveStreamDone ..
  | .bringupComplete .. | .restoreServingBegin .. | .imageRelease .. | .slotEraseDone .. | .seamBeatSend .. | .seamBeatReceive .. | .seamLinkUp ..
  | .seamLinkDown .. | .seamReplayTimeout .. | .cmdFrameReceive .. | .cmdDoneReceive .. | .ctxReceive .. | .departReceive .. | .tackBeatSend ..
  | .tackBeatReceive .. | .yieldReceive .. | .pathLost .. | .pairWaitExpire .. | .witnessGrant .. | .witnessGrantFall .. | .tokenExpire ..
  | .addressAnnounce .. | .resyncCopySend .. | .resyncCutover .. | .resyncDone .. | .givebackForwardEnd .. | .dramRefresh .. | .dramTempRead ..
  | .dramActivate .. | .rowThrottleHold .. | .rowCounterClear .. | .dqsDriftCheck .. | .zqCalibrate .. | .trnWriteReadCompare .. | .trnReadCompare ..
  | .trnSweep .. | .trnRcdLoopback .. | .trnSetReady .. | .trnRunDone .. | .carveoutFill .. | .fillLine .. | .maintClean .. | .maintCleanInvalidate ..
  | .ncacheMaintDone .. | .invWalkDone .. | .checkpointTimer .. | .checkpointGibCount .. | .checkpointComplete .. | .gcStart .. | .wearLevel ..
  | .nchTargetFail .. | .secureDiscardDone .. | .scanStart .. | .crcScanDone .. | .lksInject .. | .lksCodeViolation .. | .lksMismatch ..
  | .lksTestDone .. | .fenVddRise .. | .mainInputGood .. | .powerButton .. | .powerOnStart .. | .railDelayExpire .. | .railPgRise ..
  | .railSettleExpire .. | .railStepTimeout .. | .seqRetryWaitExpire .. | .fenRailDrop .. | .vcoreWindowTrip .. | .resetStretchExpire ..
  | .counterRecordAppend .. | .vcoreStep .. | .vcoreCheck .. | .monTrip .. | .batRateLow .. | .batRateHigh .. | .batRead .. | .batPresenceChange ..
  | .batAuthStart .. | .batAuthRead .. | .socOcvReset .. | .fenBatFull .. | .energyEstimate .. | .dozeProposeReceive .. | .dozeAcceptReceive ..
  | .dozeProposeRetry .. | .dozeNoticeExpire .. | .dozeCommitReceive .. | .dozeAbortReceive .. | .dozeCommitTimeout .. | .fenDozeEnter ..
  | .dozeWake .. | .wakeReceive .. | .fenDozeExit .. | .dozeTwinGraceEnd .. | .ptpMessageReceive .. | .ptpSourceLost .. | .ppsInEdge ..
  | .ppsInMissing .. | .timeLocked .. | .holdoverUpdate .. | .ppsOutPulse .. | .commitClockRelease .. | .timeTodSnapshot .. | .norProgram ..
  | .norErase .. | .norSuspend .. | .norResume .. | .norAbort .. | .norSeqTimeout .. | .norSuspendGrant .. | .norOpDone .. | .norRecordAppend ..
  | .brownoutBegin .. | .brownoutResume .. | .norReboot .. | .thmLockSet .. | .entropyHealthFail .. | .drbgReseed .. | .fuseBurnDone ..
  | .signatureVerifyDone .. | .challengeExpire .. | .tapTokenWrite .. | .tapChallengeRead .. | .tapInstruction .. | .evtFrameGapExpire ..
  | .eventFrameSend .. | .evtPendClear .. | .evtMaskWrite .. | .monSnap .. | .peatRecord .. | .peatSnapTake .. | .peatSnapDone .. | .pcieDoorbell ..
  | .pcieCplHead .. | .pcieLinkDown .. | .pcieLinkUp .. | .portLinkDown .. | .portLinkUp .. | .sbusEnable .. | .sbusRecoveryRetry ..
  | .sbusSclTimeout .. | .sbusTransactionDone .. | .createDomain .. | .destroyDomain .. | .createQp .. | .modifyQp .. | .destroyQp ..
  | .postReceive .. | .createSrq .. | .register .. | .deregister .. | .repair .. | .sync .. | .setExtent .. | .discard .. | .tableWrite ..
  | .channelCreate .. | .channelClose .. | .attachPublisher .. | .detachPublisher .. | .attachSubscriber .. | .resume .. | .remove .. | .fence ..
  | .test .. | .rejoin .. | .retireFrame .. | .retireBank .. | .save .. | .acceptOlderImage .. | .discardImage .. | .doze .. | .giveBack ..
  | .witnessToken .. | .keySlot .. | .contextSave .. | .contextRestore .. | .provisionBegin .. | .provisionCommit .. | .secure .. | .returnUnit ..
  | .scrap .. | .advanceRollback .. | .debugChallenge .. | .debugOpen .. | .debugClose .. | .peatClear .. | .subscribe .. | .fenVddLoss ..
  | .seamFrameDiscard .. | .railRemoveDelayExpire .. | .bankIdlePrecharge .. | .fenSample .. | .monLevelSample .. | .qpMovePassedOver ..
  | .batAuthRetry .. | .pfcPauseExpire .. | .pacedTransmit .. => true

end Sys2Proof
end

