-- ==== Sys2Proof/Tests/Slice0.lean ====
section
/-! SUPPORT. The tests of the model: the checks of WellFormed refuse what they check, single steps, and for every statement that has
hypotheses a state and operands that meet them all. -/

namespace Sys2Proof.Tests

set_option Elab.async false

open Sys2Proof Sys2Proof.Machine

/-- A small state: the state after reset in a mode. -/
def base (m : Mode) : State := { State.reset with mode := m }
def hdr : Hdr := ⟨.mqp, 7, 4⟩

/-- The state with a management command, or a register write, whose turn it is to start. -/
def go (h : Hdr) (c : Cmd) (s : State) : State := { s with gate := { s.gate with granted := ⟨h, c, false⟩ :: s.gate.granted } }
def gow (off : Nat) (v : Word) (s : State) : State :=
  { s with gate := { s.gate with granted := [⟨⟨.pcie, 0, 6⟩, .registerWrite off [v], true⟩] } }
def token : Token := { magic := 0, devid := 0, challenge := 4, level := 1, key := 1, sigOk := true }
def MSG : Msg :=
  { psn := 8, last := 8, verb := .write, region := some 7, pieces := [(0x10000, 8)], len := 8, data := [], imm := 0, cmp := 0, swapAdd := 0
    relaxed := false, ackReq := true, local_ := false, entry := none, got := 8, phase := .accepted, atPoint := false, fwd := false, dup := false
    resent := false, pub := none, result := none, solicit := false, arrived := 0 }
def REGARGS : RegArgs :=
  { index := none, pd := 5, tiled := false, read := true, write := true, atomic := false, flush := false, local_ := false, vaBase := 0x1000
    length := 65536, target := 0x10000, tileCount := 0, rnrThr := 0, ext := false, policy := 0, reservedZero := true }

/-- The cells of one owner. -/
def cellsOf (o n : Nat) : Spool := { cells := (List.range n).map (fun i => (i, ⟨o, 1, 0⟩)) }

/-- With so few cells free, an owner at its reserve must wait. -/
theorem spool_low (s : State) (o n : Nat) (h1 : 245760 < n) (h2 : o ≠ 255) (h3 : reserveOf o ≤ n)
    (he : s.spool = cellsOf o n) : s.mayAllocate o = false := by
  have hs : s.spool.cells = (List.range n).map (fun i => (i, ⟨o, 1, 0⟩)) := by rw [he]; rfl
  have h : ∀ p : Nat × Cell → Bool, (∀ i, p (i, ⟨o, 1, 0⟩) = true) →
      (((List.range n).map (fun i => (i, (⟨o, 1, 0⟩ : Cell)))).filter p).length = n := by
    intro p hp
    rw [List.filter_eq_self.2 (by simp only [List.mem_map]; rintro a ⟨i, -, rfl⟩; exact hp i), List.length_map, List.length_range]
  have hu : s.usedCells = n := by unfold State.usedCells; rw [hs]; exact h _ (fun _ => decide_eq_true h2)
  have ho : s.ownerCells o = n := by unfold State.ownerCells; rw [hs]; exact h _ (fun _ => decide_eq_true rfl)
  simp only [State.mayAllocate, State.freeCells, hu, ho, Bool.and_eq_false_iff, Bool.or_eq_false_iff, decide_eq_false_iff_not]
  omega

/-- Moving the replay window takes no cell. -/
theorem slide_spool (s : State) (p : Packet) : (s.slide p).spool = s.spool := by
  unfold State.slide
  split
  · dsimp only; split <;> rfl
  · rfl

/-- An owner that may take no cell takes no chain. -/
theorem chain_none (s : State) (o prio k : Nat) (h : s.mayAllocate o = false) : s.takeChain o prio (k + 1) = none := by
  rw [State.takeChain, if_neg (by simp [h])]

/-- The search for a frame goes past what is not free. -/
theorem lowFrame_at (s : State) (used : List Nat) (c b k : Nat) : ∀ fuel f, k < fuel →
    (∀ g, f ≤ g → g < f + k → s.frameFree used c b g = false) → s.frameFree used c b (f + k) = true →
    s.lowFrame used c b fuel f = some (f + k) := by
  induction k with
  | zero =>
    intro fuel f h1 _ h3
    obtain ⟨n, rfl⟩ : ∃ n, fuel = n + 1 := ⟨fuel - 1, by omega⟩
    rw [State.lowFrame, if_pos (by simpa using h3), Nat.add_zero]
  | succ k ih =>
    intro fuel f h1 h2 h3
    obtain ⟨n, rfl⟩ : ∃ n, fuel = n + 1 := ⟨fuel - 1, by omega⟩
    rw [State.lowFrame, if_neg (by rw [h2 f (by omega) (by omega)]; decide), ih n (f + 1) (by omega) (fun g a b => h2 g (by omega) (by omega))
      (by rw [show f + 1 + k = f + (k + 1) by omega]; exact h3), show f + 1 + k = f + (k + 1) by omega]

/-- On one channel of one bank with nothing in use, the first frame chosen is the first after the carve-out. -/
theorem choose_first (s : State) (h1 : s.pops = [(0, ⟨1, 1, 1, 70000⟩)]) (h2 : s.usedFrames = []) (h3 : s.retFrames = [])
    (h4 : s.retBanks = []) : s.chooseFrame = some 65536 := by
  have hb : frameBase s.pops 0 = 0 := by rw [h1]; rfl
  have hc : s.carveOn 0 = 65536 := by unfold State.carveOn; rw [h1]; rfl
  have hf : s.bankFrame [] 0 ⟨1, 1, 1, 70000⟩ 0 = some (0 + 65536) := by
    unfold State.bankFrame
    rw [hb, hc, h3]
    refine lowFrame_at s [] 0 0 65536 _ 0 (by decide) (fun g _ hg => ?_) ?_
    · unfold State.frameFree
      rw [hb, hc, decide_eq_false (by omega), Bool.false_and, Bool.false_and, Bool.false_and]
    · unfold State.frameFree
      rw [hb, hc, h3, h4]; rfl
  have hl : s.banksFree [] 0 ⟨1, 1, 1, 70000⟩ = [(s.bankLoad 0 0, 0)] := by
    unfold State.banksFree
    rw [show List.range (1 * 1 * 1) = [0] from rfl, List.filter_cons, if_pos (by rw [hf]; rfl)]; rfl
  have hcf : s.channelsFree [] = [(s.chanLoad 0, 0)] := by
    unfold State.channelsFree
    rw [h1]; simp [hl]
  have hfo : s.frameOn [] 0 = some 65536 := by
    unfold State.frameOn
    rw [h1]; simp [hl, alGet, least, hf]
  unfold State.chooseFrame
  simp only [h2, hcf, least, Option.bind_some, hfo]

theorem leBytes_length : ∀ n v, (leBytes n v).length = n
  | 0, _ => rfl
  | n + 1, v => by rw [leBytes, List.length_cons, leBytes_length]

/-- A frame of an image is 64 KiB. -/
theorem frameBytes_length (i : Image) (f : Nat) : (i.frameBytes f).length = 65536 := by
  unfold Image.frameBytes
  split
  · rw [List.length_flatMap, List.map_congr_left (g := fun _ => 256) (fun l _ => by simp only [State.stored, encipher]; exact leBytes_length _ _)]
    rw [List.map_const', List.length_range, List.sum_replicate]; rfl
  · exact leBytes_length _ _

/-- A unit whose first check byte is read otherwise than it was written does not pass (R151). -/
theorem unit_refuses (i : Image) (off : Nat) (h : (i.unitData off).length = 65536) : ∃ a : Altered, a.isEmpty = false ∧ i.unitReads off a = false := by
  obtain ⟨v, hv⟩ : ∃ v : Byte, v.toNat ≠ unitCheck off i.head.generation (i.unitData off) % 256 := by
    by_cases h0 : unitCheck off i.head.generation (i.unitData off) % 256 = 0
    · exact ⟨1, by rw [h0]; decide⟩
    · exact ⟨0, fun e => h0 e.symm⟩
  refine ⟨[(65536, v)], rfl, ?_⟩
  have hs : alter (i.unitData off ++ leBytes 8 (unitCheck off i.head.generation (i.unitData off))) [(65536, v)]
      = i.unitData off ++ v :: leBytes 7 (unitCheck off i.head.generation (i.unitData off) / 256) := by
    show List.set _ 65536 v = _
    rw [List.set_append_right _ _ (by omega), h]; rfl
  unfold Image.unitReads unitPasses
  rw [Bool.or_eq_false_iff]
  refine ⟨rfl, ?_⟩
  dsimp only
  rw [hs, List.take_left' h, List.drop_left' h, leNat]
  refine beq_eq_false_iff_ne.2 (fun e => hv ?_)
  rw [e, Nat.add_mul_mod_self_left, Nat.mod_eq_of_lt v.isLt]

/-- An image of one frame, and a unit that restores its tile. -/
def IMG : Image :=
  { head := { delta := false, planned := false, paired := false, lead := true, entryMode := .solo, generation := 7, baseGen := 0, lastCommit := 5
              mirrorStamp := 0, epoch := 9, unit := false, framesFound := 1, framesSaved := 1, hours := 0, cycles := 0, saveMs := 100, eEst := 0
              deltaOff := 0, wseq := 0 }
    root := .absent
    kept := { mem := [(65536, 7)], tiles := [(1, { home := .dram, frame := 66000 })], domains := [(5, ⟨4, 4, 9⟩)], wrapCount := 3 } }
def RESTORING : State :=
  { base .restore with
    area := { slot0 := { erased := false, base := some IMG }, journal := [⟨.sealed_, 0, 0, 7, 0⟩] }, save := { slot := 0, gen := 7 }
    pops := [(0, ⟨1, 1, 1, 70000⟩)], kept := { tiles := [(1, { home := .dram, frame := 66000, present := false })] } }

/-- Its tile's unit can be read so that it fails twice. -/
theorem restoring_fails : ∃ a : Altered, 2 ≤ RESTORING.frameFails 1 a a := by
  obtain ⟨a, ha, hr⟩ := unit_refuses IMG frameDataOff (by
    unfold Image.unitData
    dsimp only
    rw [if_neg (by decide +kernel), if_neg (by decide +kernel), if_neg (by decide +kernel), if_neg (by decide +kernel),
      show IMG.frames[(frameDataOff - IMG.head.deltaOff - frameDataOff) / 65536]? = some 66000 by decide +kernel]
    exact frameBytes_length IMG 66000)
  refine ⟨a, ?_⟩
  have e : RESTORING.frameFails 1 a a = IMG.unitFails frameDataOff a a := by
    have ht : (RESTORING.savedTile 1).frame = 66000 := by decide +kernel
    have hf : IMG.frameOff 66000 = some frameDataOff := by decide +kernel
    unfold State.frameFails
    rw [ha, ht]
    show (match (((IMG.frameOff 66000).map (fun o => (IMG, o)))) with | some (i, o) => i.unitFails o a a | none => 0) = _
    rw [hf]; rfl
  rw [e, Image.unitFails, hr]; decide

/-! ### WellFormed -/

/-- A packet of a request, for the smoke test and the steps below. -/
def PKT : Packet :=
  { lport := 0, tagged := false, icvOk := true, sc := 0, an := 0, pn := 0, prio := 0, etype := 0x0800, dual := none, lane := 0, hdrOk := true
    qpn := 3, srcAddr := 1, srcQpn := 2, pkey := 0xFFFF, qkey := 0, op := .writeOnly, psn := 8, aeth := 0, ackReq := true, solicit := false
    ect := false, ce := false, reth := some ⟨0x1000, 0x7000, 8⟩, cmp := 0, swapAdd := 0, imm := 0, region := true, data := [], walkUe := none
    dataUe := none, mgmt := none }
def SHDR : SeamHdr := ⟨0, 1, 1, 0, 0, 0, true, 1, 0, false, false⟩
def SMSG : SeamMsg := ⟨3, 16777216, 0, .write [], none⟩
def LOC : BurstLoc := ⟨0, 0, 0, 0, 0⟩

/-- Each check refuses a command that is just outside the range that the spec gives. -/
theorem test_well_formed_transport :
    Instr.wellFormed (.packetReceive { PKT with psn := 16777216 }) = false ∧ Instr.wellFormed (.packetReceive { PKT with qpn := 16777216 }) = false ∧
    Instr.wellFormed (.packetReceive { PKT with pn := 4294967296 }) = false ∧ Instr.wellFormed (.packetReceive { PKT with aeth := 256 }) = false ∧
    Instr.wellFormed (.packetReceive PKT) = true ∧ Instr.wellFormed (.pfcPauseReceive 0 0 65536) = false ∧
    Instr.wellFormed (.messageCommit 0 16777216 .clean) = false ∧ Instr.wellFormed (.rnrThresholdExpire 0 16777216) = false ∧
    Instr.wellFormed (.publishDeliver 4096 0) = false ∧ Instr.wellFormed (.publishDeliver 0 1024) = false ∧
    Instr.wellFormed (.subscriberAckReceive 4096 0 0) = false ∧ Instr.wellFormed (.gapEntryWrite 0 1024) = false ∧
    Instr.wellFormed (.publishHint 4096) = false ∧ Instr.wellFormed (.mirrorReceive SHDR SMSG) = false ∧
    Instr.wellFormed (.mackReceive SHDR 0 16777216 0 0) = false ∧ Instr.wellFormed (.mackReceive SHDR 0 0 0 256) = false ∧
    Instr.wellFormed (.fwdReceive SHDR SMSG .clean) = false := by
  refine ⟨?_, ?_, ?_, ?_, ?_, ?_, ?_, ?_, ?_, ?_, ?_, ?_, ?_, ?_, ?_, ?_, ?_⟩ <;> decide

theorem test_well_formed_memory :
    Instr.wellFormed (.nandReadComplete 0x68000000 0 .retried .agree 0) = false ∧ Instr.wellFormed (.fetchHoldExpire 0x68000000) = false ∧
    Instr.wellFormed (.drainDeadline 1048576) = false ∧ Instr.wellFormed (.deregisterDrainDone 1048576) = false ∧
    Instr.wellFormed (.migrationSwitch 0x68000000 none []) = false ∧ Instr.wellFormed (.churnMerge 0x68000000 [] 0) = false ∧
    Instr.wellFormed (.restoreTilePresent 0x68000000 [] [] .agree 0) = false ∧ Instr.wellFormed (.copyReceive SHDR 0 0 [] 0) = false ∧
    Instr.wellFormed (.discardFrameReceive SHDR 0x68000000) = false ∧ Instr.wellFormed (.dramReadComplete 0 LOC [] .scrubber 0) = false ∧
    Instr.wellFormed (.scrubRead 0 LOC []) = false ∧ Instr.wellFormed (.nandProgramComplete 0 0x68000000 true) = false ∧
    Instr.wellFormed (.nandEraseComplete 0 1048576 true) = false ∧ Instr.wellFormed (.readVerify 0 1048576 true []) = false ∧
    Instr.wellFormed (.gcRelocateSwitch 0x68000000 [] 0) = false ∧ Instr.wellFormed (.disturbScan 0 1048576 true) = false ∧
    Instr.wellFormed (.retentionPatrol 0 1048576 true) = false ∧
    Instr.wellFormed (.copyReceive SHDR 0 0 (List.replicate 4096 0) 1024) = false ∧ Instr.wellFormed (.scrubRead 0 LOC (List.replicate 16 0)) = true := by
  refine ⟨?_, ?_, ?_, ?_, ?_, ?_, ?_, ?_, ?_, ?_, ?_, ?_, ?_, ?_, ?_, ?_, ?_, ?_, ?_⟩ <;> decide +kernel

theorem test_well_formed_management :
    Instr.wellFormed (.norWindowWrite .pcie 67108864 0 true) = false ∧ Instr.wellFormed (.norWindowRead 67108864) = false ∧
    Instr.wellFormed (.csrWrite false 3 0 0) = false ∧ Instr.wellFormed (.csrWrite false 4 268435456 0) = false ∧
    Instr.wellFormed (.csrWrite false 4 0 0) = true ∧ Instr.wellFormed (.csrReadLoLatch .pcie 268435456) = false ∧
    Instr.wellFormed (.query hdr .unit 4294967296) = false ∧ Instr.wellFormed (.registerRead hdr 268435456 1) = false ∧
    Instr.wellFormed (.registerWrite hdr 268435456 []) = false ∧ Instr.wellFormed (.setTime hdr 0 281474976710656) = false := by
  refine ⟨?_, ?_, ?_, ?_, ?_, ?_, ?_, ?_, ?_, ?_⟩ <;> decide

/-! ### Single steps and reset -/

/-- Reset's memory is in the canonical form. -/
theorem test_reset_memory : Memory.wf State.reset.kept.mem = true := by decide

/-- R385: some reset values of the summary table. -/
theorem test_reset_values :
    State.reset.fld F.WEFT_STALL_CFG_limit_us = 0x2710 ∧ State.reset.fld F.TLR_WM_CFG_wm_hi = 0x5F ∧
    State.reset.fld F.SEAM_RTT0_min_ns = 0xFFFF ∧ State.reset.fld F.CRYP_STATUS_lanes_ok = 0x40 := by
  refine ⟨?_, ?_, ?_, ?_⟩ <;> decide +kernel

/-- R21: a step takes the front command; here a stall limit of 0 microseconds is written. -/
theorem test_step_front :
    (match step { gow 0x90000 0 (base .solo) with pending := [.weftStallCfgWrite 0, .ageTick] } with
      | .next t => t.pending == [.ageTick] && t.fld F.WEFT_STALL_CFG_limit_us == 0
      | _ => false) = true := by decide +kernel

/-- R23: an empty queue is one tick of 4 ns. -/
theorem test_step_idle : (match step (base .solo) with | .next t => t.mrt == 4 && t.pending == [] | _ => false) = true := by decide +kernel

/-- R23: the timer does not run in RESET. -/
theorem test_step_idle_reset : (match step State.reset with | .next t => t.mrt == 0 | _ => false) = true := by decide +kernel

/-- R30: a grant raises the cell's generation, which wraps from 65,535 to 0; here the last free cell is the only one. -/
theorem test_reserve : reserveOf 72 = 2048 ∧ reserveOf 0 = 32 ∧ reserveOf 71 = 1024 := by decide

/-- R259: the check value of nine digits is the polynomial's published one. -/
theorem test_crc32c : crc32c [0x31, 0x32, 0x33, 0x34, 0x35, 0x36, 0x37, 0x38, 0x39] = 0xE3069283 := by decide +kernel
theorem test_crc64 : crc64 [0x31, 0x32, 0x33, 0x34, 0x35, 0x36, 0x37, 0x38, 0x39] = 0x995DC9BBDF1939FA := by decide +kernel

/-- R210: the check symbols of a data symbol at device 0 alone, worked out by hand: c8 + c9 = 1 and c8 α^8 + c9 α^9 = 1. -/
theorem test_rs_checks : rsSyndrome 0 0 ([1, 0, 0, 0, 0, 0, 0, 0] ++ rsChecks [1, 0, 0, 0, 0, 0, 0, 0]) = 0 ∧ rsSyndrome 1 0 ([1, 0, 0, 0, 0, 0, 0, 0] ++ rsChecks [1, 0, 0, 0, 0, 0, 0, 0]) = 0 := by
  decide +kernel

/-- R67: packet numbers are compared modulo 2^24. -/
theorem test_psn_wrap : psnAdd 16777215 1 = 0 ∧ psnBefore 16777215 0 = true ∧ psnBefore 0 16777215 = false := by decide

/-- R37: a byte written is read back, and writing the value of an unlisted byte removes its entry. -/
theorem test_memory : memRead (memWrite [] 5 7) 5 = 7 ∧ memWrite (memWrite [] 5 7) 5 0 = [] := by decide

/-- A state that meets the hypotheses of ReservesReachable. -/
theorem test_reserves_reachable_met :
    alRises 0 (base .solo).spool.cells = true ∧ (base .solo).spool.cells.all (fun c => decide (c.1 < 262144)) = true ∧
    (base .solo).shortfall ≤ (base .solo).freeCells := by
  refine ⟨?_, ?_, ?_⟩ <;> decide +kernel

/-- A state with a sequence under way that destroys the keys before it burns RETURNED meets the hypotheses of KeysSafeKept. -/
theorem test_keys_safe_kept_met :
    let s : State := { base .solo with thm := { burn := some { steps := [Burn.destroyKeys, Burn.life 4], for_ := none } }, pending := [.fuseBurnDone true] }
    s.keysSafe ∧ ∃ t, step s = .next t := by
  intro s
  refine ⟨⟨fun h => absurd h (by decide +kernel), ?_⟩, _, rfl⟩
  rintro r ⟨⟩
  show s.fuses.orderly [Burn.destroyKeys, Burn.life 4]
  unfold Fuses.orderly Fuses.orderly Fuses.orderly
  exact ⟨fun c h => (nomatch h), fun c _ _ => ⟨rfl, rfl⟩, trivial⟩

/-! ### The hypotheses of the statements are met -/

theorem test_step_takes_front_met :
(let s : State := ({ State.reset with pending := [.brownoutBegin] }); let c := (.brownoutBegin : Instr); let rest := ([] : List Instr); (s.pending = c :: rest)) ∧
(let s : State := (base .solo); (s.pending = [])) := by
  refine ⟨?_, ?_⟩ <;> (intros; decide +kernel +zetaReduce)

theorem test_nothing_acts_unpowered_met :
(let s : State := ({ State.reset with fen := { vdd := false } }); (s.mode = .reset) ∧ (s.fen.vdd = false)) := by
  intros; decide +kernel +zetaReduce

theorem test_fuses_one_way_met :
(let s : State := ({ base .solo with pending := [.fuseBurnDone true], thm := { burn := some ⟨[.drk], none⟩ } }); (s.pending = [.fuseBurnDone true])) := by
  intros; decide +kernel +zetaReduce

theorem test_time_inputs_met :
(let s : State := (base .solo); let lport := (0 : Lport); let prot := false; (s.runs) ∧ (s.ptpPasses lport.val prot = true) ∧ (s.fld F.TIME_CTRL_ptp_lport = lport.val) ∧ (s.lportPresent lport.val = true)) ∧
(let s : State := ({ base .solo with clk := { announced := true, exchanges := 15 } }.setFld F.TIME_CTRL_src_en 1); let lport := (0 : Lport); let prot := false; (s.runs) ∧ (s.ptpPasses lport.val prot = true) ∧ (s.fld F.TIME_CTRL_ptp_lport = lport.val) ∧ (s.lportPresent lport.val = true)) ∧
(let s : State := (base .solo); let lport := (31 : Lport); let prot := false; (s.runs) ∧ (s.ptpPasses lport.val prot = true) ∧ (s.fld F.TIME_CTRL_ptp_lport ≠ lport.val)) ∧
(let s : State := (base .solo); let lport := (31 : Lport); let prot := true; (s.runs) ∧ (s.ptpPasses lport.val prot = false)) ∧
(let s : State := ({ base .solo with clk := { announced := true, exchanges := 16, wasLocked := true } }.setFld F.TIME_STATUS_source 1); (s.runs)) ∧
(let h := hdr; let n := (1 : Fin 2); let second := (2 ^ 48 - 1); let s : State := (go h (.setTime n second) ((base .solo))); (s.starts h (.setTime n second)) ∧ (second < 2 ^ 48)) ∧
(let h := hdr; let n := (0 : Fin 2); let second := (2 ^ 48); let s : State := (go h (.setTime n second) ((base .solo))); (s.starts h (.setTime n second)) ∧ (2 ^ 48 ≤ second)) ∧
(let s : State := (base .solo); let n := (1 : Fin 2); (s.runs) ∧ ((s.clk.pps n.val).named = none)) ∧
(let s : State := ({ base .solo with clk := { pps1 := ⟨some 5, 3⟩, tod := 5000000100 } }.setFld F.TIME_CTRL_src_en 4); let n := (1 : Fin 2); let sec := 5; (s.runs) ∧ ((s.clk.pps n.val).named = some sec)) ∧
(let s : State := ({ base .solo with clk := { pps1 := ⟨some 5, 4⟩, pps0 := ⟨some 5, 4⟩ } }.setFld F.TIME_STATUS_source 3); (s.runs)) := by
  refine ⟨?_, ?_, ?_, ?_, ?_, ?_, ?_, ?_, ?_, ?_⟩ <;> (intros; decide +kernel +zetaReduce)

theorem test_lock_and_clocks_met :
(let s : State := ({ base .solo with mrtQ := 64000000028, clk := { band := some 7 } }.setFld F.TIME_STATUS_state 1); let b := 7; (s.runs) ∧ (s.fld F.TIME_STATUS_state = locking) ∧ (s.clk.band = some b) ∧ (b + 16000000000 ≤ s.mrt)) ∧
(let s : State := (((base .solo).setFld F.TIME_STATUS_state 3).setBit F.TIME_STATUS_in_spec true).setFld F.TIME_HOLD_CFG_limit 0; (s.runs) ∧ (s.fld F.TIME_STATUS_state = holdover)) ∧
(let s : State := ({ base .solo with clk := { held := some 8, tod := 9 } }.setBit F.TIME_STATUS_commit_held true); let v := 8; (s.runs) ∧ (s.clk.held = some v) ∧ (v < s.clk.tod)) ∧
(let s : State := { base .doze with clk := { tod := 5000000001000000007, held := some (2 ^ 63 + 5) } }; (s.runs)) ∧
(let s : State := ({ base .solo with clk := { tod := 1999999993 } }.setBit (F.TIME_PPS_CFGn_en 1) true); (s.runs) ∧ (s.mode ≠ .doze) ∧ (s.clk.pulseSec < s.clk.tod / 1000000000) ∧ (s.clk.pulseAt = none ∨ (∃ p, s.clk.pulseAt = some p ∧ p + 500000000 ≤ s.mrt)) ∧ (s.clk.step = none)) ∧
(let s : State := ({ base .solo with clk := { tod := 1999999993, step := some (-5000000) } }.setBit F.TIME_CTRL_step_allow true); let off := (-5000000 : Int); (s.runs) ∧ (s.mode ≠ .doze) ∧ (s.clk.pulseSec < s.clk.tod / 1000000000) ∧ (s.clk.tod < 2 ^ 64) ∧ (s.clk.step = some off) ∧ (s.bit F.TIME_CTRL_step_allow = true)) ∧
(let s : State := (base .solo); (s.pending = []) ∧ (s.mode ≠ .reset) ∧ (s.mode ≠ .doze) ∧ (s.clk.slew = 0)) := by
  refine ⟨?_, ?_, ?_, ?_, ?_, ?_, ?_⟩ <;> (intros; decide +kernel +zetaReduce)

theorem test_gate_orders_met :
(let s : State := (base .solo); let c := (⟨hdr, .destroyDomain 5, false⟩ : GateCmd); (s.manages) ∧ (c.posted = false) ∧ (s.frontCheck ⟨c, true⟩ = none) ∧ (s.gate.active = false)) ∧
(let c := (⟨hdr, .destroyDomain 5, false⟩ : GateCmd); let s : State := ({ base .solo with gate := { active := true, window := [((⟨⟨.pcie, 1, 6⟩, .destroyDomain 5, false⟩ : GateCmd), 0)] } }); (s.manages) ∧ (c.posted = false) ∧ (s.frontCheck ⟨c, true⟩ = none) ∧ (s.gate.active = true) ∧ (s.gate.window.all (fun p => rankOf p.1.hdr.src != rankOf c.hdr.src) = true)) ∧
(let c := (⟨hdr, .destroyDomain 5, false⟩ : GateCmd); let s : State := ({ base .solo with gate := { active := true, window := [((⟨hdr, .destroyDomain 5, false⟩ : GateCmd), 0)], waiting := [((⟨hdr, .destroyDomain 5, false⟩ : GateCmd), 0)] } }); (s.manages) ∧ (c.posted = false) ∧ (s.frontCheck ⟨c, true⟩ = none) ∧ (s.gate.active = true) ∧ (s.gate.window.any (fun p => rankOf p.1.hdr.src == rankOf c.hdr.src) = true)) ∧
(let s : State := (base .solo); let src := (Source.core 2); (s.manages) ∧ (rankOf src = 3) ∧ (s.gate.active = false)) ∧
(let s : State := (base .solo); let c := (⟨⟨.mqp, 7, 6⟩, .destroyDomain 5, false⟩ : GateCmd); let st := Status.malformed; (s.manages) ∧ (c.posted = false) ∧ (s.frontCheck ⟨c, true⟩ = some st)) ∧
(let c := (⟨hdr, .destroyDomain 5, false⟩ : GateCmd); let t0 := 0; let s : State := ({ base .solo with gate := { active := true, window := [((⟨hdr, .destroyDomain 5, false⟩ : GateCmd), 0)] } }); (s.manages) ∧ (s.gate.active = true) ∧ (s.gate.window = [(c, t0)]) ∧ (s.gate.waiting = []) ∧ (s.gate.behind = [])) ∧
(let a := (⟨⟨.pcie, 1, 6⟩, .destroyDomain 5, false⟩ : GateCmd); let b := (⟨hdr, .destroyDomain 5, false⟩ : GateCmd); let ta := 0; let tb := 0; let s : State := ({ base .solo with gate := { active := true, window := [((⟨hdr, .destroyDomain 5, false⟩ : GateCmd), 0), ((⟨⟨.pcie, 1, 6⟩, .destroyDomain 5, false⟩ : GateCmd), 0)] }, kept := { qps := [(0, { state := .rts })] } }); (s.manages) ∧ (s.gate.active = true) ∧ (s.gate.window = [(a, ta), (b, tb)] ∨ s.gate.window = [(b, tb), (a, ta)]) ∧ (s.gate.waiting = []) ∧ (s.gate.behind = []) ∧ (b.hdr.claim.toNat < a.hdr.claim.toNat) ∧ (objsConflict (s.objsOf b.cmd) (s.objsOf a.cmd) = true) ∧ (b.posted = false) ∧ (b.hdr.src = .mqp)) ∧
(let s : State := ({ base .solo with gate := { active := true, window := [((⟨hdr, .destroyDomain 5, false⟩ : GateCmd), 0)], waiting := [((⟨hdr, .destroyDomain 5, false⟩ : GateCmd), 0)] } }); (s.manages) ∧ (s.gate.active = true)) ∧
(let s : State := (base .solo); (s.gate.active = false)) ∧
(let h := hdr; let cls := QueryObj.unit; let index := 0; let s : State := (go hdr .debugClose (base .solo)); (s.turn ⟨h, .query cls index, false⟩ = false)) ∧
(let off := 0x30; let v := (7 : Word); let s : State := (gow 0x30 8 (base .solo)); (s.turnWrite off v = false)) := by
  refine ⟨?_, ?_, ?_, ?_, ?_, ?_, ?_, ?_, ?_, ?_, ?_⟩ <;> (intros; decide +kernel +zetaReduce)

theorem test_weft_watchdog_met :
(let s : State := (base .solo); let c := (0x0010 : BitVec 16); let waitUs := 10001; (s.runs) ∧ (channelEngine c = none) ∧ (s.fld F.WEFT_STALL_CFG_limit_us ≠ 0) ∧ (s.fld F.WEFT_STALL_CFG_limit_us < waitUs) ∧ (s.weft.all (fun h => h.channel != c) = true)) ∧
(let s : State := (base .solo); let c := (BitVec.ofNat 16 (0x430000 / 4096 * 16) : BitVec 16); let waitUs := 10001; let e := 3; (s.runs) ∧ (channelEngine c = some e) ∧ (s.watched c = true) ∧ (s.fld F.WEFT_STALL_CFG_limit_us ≠ 0) ∧ (s.fld F.WEFT_STALL_CFG_limit_us < waitUs) ∧ (s.weft.all (fun h => h.channel != c) = true)) ∧
(let s : State := ({ base .solo with weft := [⟨0x10, 0, false⟩] }); let c := (0x0010 : BitVec 16); let waitUs := 10000; (s.runs) ∧ (channelEngine c = none) ∧ (waitUs ≤ s.fld F.WEFT_STALL_CFG_limit_us) ∧ (s.weft.any (fun h => h.channel == c && h.since == s.mrt - waitUs * 1000) = true)) ∧
(let value := (0xFFFF0000 : Word); let s : State := (gow 0x90000 value ((base .solo))); (s.passes 0x90000 value) ∧ (bitsOf value 15 0 = 0)) ∧
(let value := (2 : Word); let h := (⟨0x10, 0, false⟩ : Handshake); let s : State := (gow 0x90000 value (({ base .solo with mrtQ := 8004, weft := [⟨0x10, 0, false⟩] }))); (s.passes 0x90000 value) ∧ (bitsOf value 15 0 ≠ 0) ∧ (s.weft = [h]) ∧ (h.raised = false) ∧ (channelEngine h.channel = none) ∧ (bitsOf value 15 0 * 1000 < s.mrt - h.since)) := by
  refine ⟨?_, ?_, ?_, ?_, ?_⟩ <;> (intros; decide +kernel +zetaReduce)

theorem test_spool_cells_met :
(let s : State := ({ base .solo with spool := { cells := [(3, ⟨81, 65535, 0⟩), (4, ⟨255, 65535, 0⟩)] } }); let o := (64 : Fin 82); (s.runs) ∧ (s.ownerHere o.val = true) ∧ (s.mayAllocate o.val = true) ∧ (alRises 0 s.spool.cells = true) ∧ (s.spool.cells.all (fun c => decide (c.1 < 262144)) = true)) ∧
(let s : State := ({ base .solo with spool := cellsOf 0 245761 }); let o := (0 : Fin 82); (s.runs) ∧ (s.ownerHere o.val = true) ∧ (s.mayAllocate o.val = false)) ∧
(let s : State := ({ base .solo with spool := { cells := [(262143, ⟨73, 0, 0⟩)] } }); let i := (262143 : Fin 262144); let issuer := (73 : BitVec 8); let gen := (0 : BitVec 16); (s.runs) ∧ (s.spool.waiting = []) ∧ ((s.cell i.val).owner = issuer.toNat) ∧ (issuer.toNat ≠ 255) ∧ ((s.cell i.val).gen = gen.toNat)) ∧
(let s : State := ({ base .solo with spool := { cells := [(0, ⟨73, 5, 0⟩)] } }); let i := (0 : Fin 262144); let issuer := (64 : BitVec 8); let gen := (4 : BitVec 16); (s.runs) ∧ ((s.cell i.val).owner = 255 ∨ (s.cell i.val).gen ≠ gen.toNat) ∧ (64 ≤ issuer.toNat)) ∧
(let s : State := ({ base .solo with spool := { cells := [(0, ⟨73, 5, 0⟩)] } }); let i := (0 : Fin 262144); let issuer := (72 : BitVec 8); let gen := (5 : BitVec 16); (s.runs) ∧ ((s.cell i.val).owner ≠ 255) ∧ ((s.cell i.val).gen = gen.toNat) ∧ ((s.cell i.val).owner ≠ issuer.toNat) ∧ (64 ≤ issuer.toNat)) ∧
(let s : State := ({ base .solo with spool := { cells := [(2, ⟨63, 5, 0⟩), (3, ⟨9, 5, 0⟩), (4, ⟨63, 65535, 0⟩)], reclaims := [63] } }); let e := (63 : Engine); (s.runs) ∧ (s.spool.reclaims.contains e.val = true) ∧ (s.spool.waiting = []) ∧ (alRises 0 s.spool.cells = true)) := by
  refine ⟨?_, ?_, ?_, ?_, ?_, ?_⟩
  · intros; decide +kernel +zetaReduce
  · exact ⟨by decide +kernel, by decide +kernel, spool_low _ 0 245761 (by decide) (by decide) (by decide) rfl⟩
  · intros; decide +kernel +zetaReduce
  · intros; decide +kernel +zetaReduce
  · intros; decide +kernel +zetaReduce
  · intros; decide +kernel +zetaReduce

theorem test_event_routing_met :
(let g := (39 : Fin 40); let value := (0xFFFF8000 : Word); let s : State := (gow (F.EVT_PENDg_pend g.val).off value (((base .solo).setFld (F.EVT_PENDg_pend 39) 0x8001))); (s.passes (F.EVT_PENDg_pend g.val).off value)) ∧
(let g := (39 : Fin 40); let value := (0xFFFF8000 : Word); let s : State := (gow (F.EVT_MASKg_mask g.val).off value (((base .solo).setFld (F.EVT_MASKg_mask 39) 0xFFFF))); (s.passes (F.EVT_MASKg_mask g.val).off value)) ∧
(let s : State := (base .solo); let ev := 639; (ev < 640) ∧ (s.mode ≠ .reset) ∧ (s.fusedEvent ev = false)) ∧
(let s : State := ((base .solo).setFld (F.EVT_MASKg_mask 0) 1); let ev := 0; (ev < 640) ∧ (s.masked ev = true) ∧ (s.ev.fullSeen = false)) ∧
(let s : State := ((base .solo).setBit (F.EVT_ROUTEn_frame_en 5) true); let ev := 5; (ev < 640) ∧ (s.mode ≠ .reset) ∧ (s.fusedEvent ev = false) ∧ (s.masked ev = false) ∧ (s.bit (F.EVT_ROUTEn_frame_en ev) = true) ∧ (s.quiet = false) ∧ (s.ev.frames = []) ∧ (alGet s.ev.last ev = none) ∧ (alGet s.ev.held ev = none) ∧ (s.bit (F.EVT_ROUTEn_msix_en ev) = false)) ∧
(let s : State := ({ base .solo with ev := { held := [(639, 4, 2)] } }); let source := (639 : Fin 640); let n := 4; let inst := 2; (s.runs) ∧ (s.quiet = false) ∧ (alGet s.ev.held source.val = some (n, inst)) ∧ (s.ev.frames = []) ∧ (s.ev.fullSeen = false)) := by
  refine ⟨?_, ?_, ?_, ?_, ?_, ?_⟩ <;> (intros; decide +kernel +zetaReduce)

theorem test_monitors_and_peat_met :
(let value := (0xC0000000 : Word); let s : State := (gow F.MON_CTRL_snap.off value (({ base .solo with mons := [(0, ⟨3, 1, 2, []⟩), (63, ⟨7, 4, 0xFFFFFFFF, []⟩)] }))); (s.passes F.MON_CTRL_snap.off value) ∧ (value.getLsbD 31 = true) ∧ (alRises 0 s.mons = true) ∧ (s.mons.all (fun p => decide (p.1 < 64 ∧ p.2.count < 2 ^ 32 ∧ p.2.min < 2 ^ 32 ∧ p.2.max < 2 ^ 32)) = true)) ∧
(let s : State := ({ base .solo with peatQ := [⟨5, 1, 9⟩], kept := { peat := [(4, { kind := 1, sev := 2, source := 5, inst := 1, config := 0, seq := 7, firstH := 0, firstC := 0, lastH := 0, lastC := 0, data := Live.zero, lastAt := none })], peatSeq := 7 } }); let x := (⟨5, 1, 9⟩ : Raise); let l := ([] : List Raise); let k := 4; let r := ({ kind := 1, sev := 2, source := 5, inst := 1, config := 0, seq := 7, firstH := 0, firstC := 0, lastH := 0, lastC := 0, data := Live.zero, lastAt := none } : PeatRec); (s.runs) ∧ (s.peatQ = x :: l) ∧ (s.bit F.PEAT_SNAP_CTRL_busy = false) ∧ (s.save.step < 5) ∧ (s.kept.peat.find? (fun (p : Nat × PeatRec) => decide (p.2.kind = 1 ∧ p.2.source = x.source ∧ p.2.inst = x.inst)) = some (k, r))) ∧
(let s : State := ({ base .solo with peatQ := [⟨5, 1, 9⟩] }); let x := (⟨5, 1, 9⟩ : Raise); let l := ([] : List Raise); (s.runs) ∧ (s.peatQ = x :: l) ∧ (s.bit F.PEAT_SNAP_CTRL_busy = false) ∧ (s.save.step < 5) ∧ (s.kept.peat.find? (fun (p : Nat × PeatRec) => decide (p.2.kind = 1 ∧ p.2.source = x.source ∧ p.2.inst = x.inst)) = none) ∧ (alRises 0 s.kept.peat = true) ∧ (s.kept.peat.length < 4096)) ∧
(let value := (0x80000000 : Word); let s : State := (gow F.PEAT_SNAP_CTRL_take.off value (({ base .solo with kept := { peatSeq := 2 ^ 40 } }))); (s.passes F.PEAT_SNAP_CTRL_take.off value) ∧ (value.getLsbD 31 = true) ∧ (s.bit F.PEAT_SNAP_CTRL_busy = false)) ∧
(let s : State := ((base .solo).setBit F.PEAT_SNAP_CTRL_busy true); (s.runs)) := by
  refine ⟨?_, ?_, ?_, ?_, ?_⟩ <;> (intros; decide +kernel +zetaReduce)

theorem test_thimble_checks_met :
(let s : State := ((base .solo).setBit F.THM_ENTROPY_health_ok true); (s.runs)) ∧
(let s : State := ((base .solo).setFld F.THM_ENTROPY_reseeds 65535); (s.runs) ∧ (s.bootWaits = false)) ∧
(let s : State := ({ base .bringup with thm := { fresh := false } }); (s.runs) ∧ (s.bootWaits = true)) ∧
(let s : State := ((base .solo).setBit F.THM_ENTROPY_health_ok true); (s.runs)) ∧
(let h := hdr; let s : State := (go h .debugChallenge ((base .solo))); (s.starts h .debugChallenge) ∧ (s.thm.fresh = true)) ∧
(let s : State := (base .solo); (s.runs) ∧ (s.thm.fresh = true)) ∧
(let s : State := ({ base .solo with thm := { challenge := some 4 } }); (s.runs)) ∧
(let s : State := ({ base .solo with thm := { challenge := some 4 } }); (s.runs)) ∧
(let h := hdr; let level := (2 : Fin 3); let k := (none : Option Token); let s : State := (go h (.debugOpen level k) ((base .solo))); (s.starts h (.debugOpen level k)) ∧ (s.fuses.life = blank) ∧ (s.fuses.levelOk level.val = true)) ∧
(let h := hdr; let level := (1 : Fin 3); let k := token; let s : State := (go h (.debugOpen level (some k)) (({ base .solo with fuses := { Fuses.factory with life := 2 } }))); (s.starts h (.debugOpen level (some k))) ∧ (s.fuses.life ≠ blank)) ∧
(let h := hdr; let level := (1 : Fin 3); let s : State := (go h (.debugOpen level none) (({ base .solo with fuses := { Fuses.factory with life := 2 } }))); (s.starts h (.debugOpen level none)) ∧ (s.fuses.life ≠ blank)) ∧
(let s : State := ({ base .solo with fuses := { Fuses.factory with life := 2, programmed := 0b0011#4 }, thm := { verify := [⟨token, .debug 1, none, true⟩] } }); let v := (⟨token, .debug 1, none, true⟩ : Verify); let l := ([] : List Verify); let level := 1; (s.runs) ∧ (s.thm.verify = v :: l) ∧ (v.use = .debug level) ∧ (level < 4) ∧ (v.ok = true) ∧ (v.token.sigOk = true) ∧ (s.fuses.tokenKey v.token.key = true)) ∧
(let s : State := ({ base .solo with fuses := { Fuses.factory with life := 2, programmed := 0b0011#4 }, thm := { verify := [⟨token, .debug 1, some hdr, false⟩] } }.setFld F.THM_DBG_STAT_fails 255); let v := (⟨token, .debug 1, some hdr, false⟩ : Verify); let l := ([] : List Verify); let level := 1; (s.runs) ∧ (s.thm.verify = v :: l) ∧ (v.use = .debug level) ∧ (v.ok = false ∨ v.token.sigOk = false ∨ s.fuses.tokenKey v.token.key = false)) ∧
(let h := hdr; let s : State := (go h .debugClose (((base .solo).setFld F.THM_LIFECYCLE_debug 2))); (s.starts h .debugClose)) ∧
(let h := hdr; let scope := (3 : Fin 4); let k := token; let s : State := (go h (.peatClear scope (some k)) (({ base .solo with fuses := { Fuses.factory with life := 2 } }))); (s.starts h (.peatClear scope (some k))) ∧ (s.fuses.life ≠ blank) ∧ (scope.val ≠ 0)) ∧
(let h := hdr; let scope := (1 : Fin 4); let k := (none : Option Token); let s : State := (go h (.peatClear scope k) (({ base .solo with kept := { peat := [(4, { kind := 1, sev := 0, source := 5, inst := 1, config := 0, seq := 7, firstH := 0, firstC := 0, lastH := 0, lastC := 0, data := Live.zero, lastAt := none })], peatSeq := 7 } }))); (s.starts h (.peatClear scope k)) ∧ (s.fuses.life = blank) ∧ (scope.val ≠ 0)) := by
  refine ⟨?_, ?_, ?_, ?_, ?_, ?_, ?_, ?_, ?_, ?_, ?_, ?_, ?_, ?_, ?_, ?_⟩ <;> (intros; decide +kernel +zetaReduce)

theorem test_lifecycle_commands_met :
(let h := hdr; let k := token; let s : State := (go h (.secure (some k)) (({ base .bringup with fuses := { Fuses.factory with life := 1 } }.setBit F.THM_LOCK_lock true))); (s.starts h (.secure (some k))) ∧ (s.lifeOpen = true) ∧ (s.fuses.canGo secured = true)) ∧
(let h := hdr; let k := token; let s : State := (go h (.returnUnit (some k)) (({ base .bringup with fuses := { Fuses.factory with life := 2 } }.setBit F.THM_LOCK_lock true))); (s.starts h (.returnUnit (some k))) ∧ (s.lifeOpen = true) ∧ (s.fuses.canGo Machine.returned = true)) ∧
(let h := hdr; let k := (none : Option Token); let s : State := (go h (.scrap k) (((base .bringup).setBit F.THM_LOCK_lock true))); (s.starts h (.scrap k)) ∧ (s.lifeOpen = true) ∧ (s.fuses.life = blank) ∧ (s.brownout = false)) ∧
(let h := hdr; let k := token; let s : State := (go h (.scrap (some k)) (({ base .bringup with fuses := { Fuses.factory with life := 3 } }.setBit F.THM_LOCK_lock true))); (s.starts h (.scrap (some k))) ∧ (s.lifeOpen = true) ∧ (s.fuses.life ≠ blank) ∧ (s.fuses.canGo scrapped = true)) ∧
(let h := hdr; let k := (none : Option Token); let s : State := (go h (.secure k) ((base .solo))); (s.starts h (.secure k)) ∧ (s.lifeOpen = false)) ∧
(let h := hdr; let k := (none : Option Token); let s : State := (go h (.returnUnit k) ((base .solo))); (s.starts h (.returnUnit k)) ∧ (s.lifeOpen = false)) ∧
(let h := hdr; let k := (none : Option Token); let s : State := (go h (.scrap k) ((base .solo))); (s.starts h (.scrap k)) ∧ (s.lifeOpen = false)) ∧
(let h := hdr; let s : State := (go h .provisionBegin ((base .solo))); (s.starts h .provisionBegin) ∧ (s.fuses.life = blank) ∧ (s.fuses.drk = .absent) ∧ (s.thm.fresh = true) ∧ (s.thm.burn = none) ∧ (s.brownout = false)) ∧
(let h := hdr; let s : State := (go h .provisionBegin (({ base .solo with fuses := { Fuses.factory with drk := .present } }))); (s.starts h .provisionBegin) ∧ (s.fuses.life = blank) ∧ (s.fuses.drk = .present)) ∧
(let h := hdr; let keys := (0b0011#4); let s : State := (go h (.provisionCommit keys true) (({ base .bringup with fuses := { Fuses.factory with drk := .present } }.setBit F.THM_LOCK_lock true))); (s.starts h (.provisionCommit keys true)) ∧ (s.lifeOpen = true) ∧ (s.fuses.life = blank) ∧ (s.fuses.drk = .present) ∧ (s.bit F.GLB_SAVE_STAT_sealed = false) ∧ (keys &&& 0b1110#4 ≠ 0) ∧ (s.brownout = false)) ∧
(let h := hdr; let s : State := (go h .advanceRollback (({ base .solo with svn := 129, fuses := { Fuses.factory with life := 2, rollback := 126 } }))); (s.starts h .advanceRollback) ∧ (s.fuses.life = secured) ∧ (s.thm.burn = none) ∧ (s.brownout = false) ∧ (s.fuses.rollback < Nat.min 128 s.svn)) ∧
(let s : State := ({ base .bringup with thm := { burn := some ⟨[.destroyKeys, .life 3], some hdr⟩ } }); let b := Burn.destroyKeys; let l := [Burn.life 3]; let o := (some hdr : Option Hdr); (s.runs) ∧ (s.brownout = false) ∧ (s.thm.burn = some ⟨b :: l, o⟩)) ∧
(let s : State := ({ base .bringup with thm := { burn := some ⟨[.destroyKeys, .life 3], some hdr⟩ } }); let b := Burn.destroyKeys; let l := [Burn.life 3]; let o := (some hdr : Option Hdr); (s.runs) ∧ (s.thm.burn = some ⟨b :: l, o⟩)) ∧
(let s : State := (gow F.THM_LOCK_lock.off 1#32 ((base .bringup))); (s.passes F.THM_LOCK_lock.off 1#32)) := by
  refine ⟨?_, ?_, ?_, ?_, ?_, ?_, ?_, ?_, ?_, ?_, ?_, ?_, ?_, ?_⟩ <;> (intros; decide +kernel +zetaReduce)

theorem test_domain_commands_met :
(let h := hdr; let pd := 1023; let rq := 1048576; let qq := 65536; let k := 1023; let s : State := (go h (.createDomain pd rq qq k) ((base .solo))); (s.starts h (.createDomain pd rq qq k)) ∧ (s.restoring = false) ∧ (s.mirrored = false) ∧ (pd < 1024) ∧ (alGet s.kept.domains pd = none) ∧ (rq ≤ 1048576) ∧ (qq ≤ 65536) ∧ (k < 1024)) ∧
(let h := hdr; let pd := 5; let rq := 0; let qq := 0; let k := 0; let s : State := (go h (.createDomain pd rq qq k) (({ base .solo with kept := { domains := [(5, ⟨4, 4, 9⟩)] } }))); (s.starts h (.createDomain pd rq qq k)) ∧ (pd < 1024) ∧ (alGet s.kept.domains pd ≠ none)) ∧
(let h := hdr; let pd := 5; let rq := 0; let qq := 65537; let k := 0; let s : State := (go h (.createDomain pd rq qq k) ((base .solo))); (s.starts h (.createDomain pd rq qq k)) ∧ (alGet s.kept.domains pd = none) ∧ (1024 ≤ pd ∨ 1048576 < rq ∨ 65536 < qq ∨ 1024 ≤ k)) ∧
(let h := hdr; let pd := 5; let s : State := (go h (.destroyDomain pd) (({ base .solo with kept := { domains := [(5, ⟨4, 4, 9⟩)] } }))); (s.starts h (.destroyDomain pd)) ∧ (s.restoring = false) ∧ (s.mirrored = false) ∧ (alGet s.kept.domains pd ≠ none) ∧ (s.rgnsIn pd = 0) ∧ (s.qpsIn pd = 0)) ∧
(let h := hdr; let pd := 5; let s : State := (go h (.destroyDomain pd) (({ base .solo with kept := { domains := [(5, ⟨4, 4, 9⟩)], qps := [(3, { state := .error, pd := 5 })] } }))); (s.starts h (.destroyDomain pd)) ∧ (alGet s.kept.domains pd ≠ none) ∧ (0 < s.rgnsIn pd ∨ 0 < s.qpsIn pd)) ∧
(let h := hdr; let pd := 5; let s : State := (go h (.destroyDomain pd) ((base .solo))); (s.starts h (.destroyDomain pd)) ∧ (alGet s.kept.domains pd = none)) ∧
(let s : State := (base .solo); let c := (.createDomain 5 1 1 1 : Cmd); let vals := ([] : List Nat); (s.mirrored = false) ∧ ((match s.checkShared c with | .ok v => v == vals | _ => false) = true)) ∧
(let s : State := (base .paired); let c := (.destroyDomain 5 : Cmd); let st := Status.invalid; ((match s.checkShared c with | .error v => v == st | _ => false) = true)) ∧
(let h := hdr; let pd := 1023; let rq := 1048576; let qq := 65536; let k := 1023; let s : State := (go h (.createDomain pd rq qq k) ((({ base .paired with seam := { link0 := { up := true } } }.setBit F.SEAM_STATUS_gates_open true).setBit F.SEAM_STATUS_lead true))); (s.starts h (.createDomain pd rq qq k)) ∧ (s.mirrored = true) ∧ (s.lead = true) ∧ (h.src ≠ .twin) ∧ (pd < 1024) ∧ (alGet s.kept.domains pd = none) ∧ (rq ≤ 1048576) ∧ (qq ≤ 65536) ∧ (k < 1024)) ∧
(let h := hdr; let pd := 1023; let rq := 1048576; let qq := 65536; let k := 1023; let s : State := (go h (.createDomain pd rq qq k) (({ base .paired with seam := { link0 := { up := true } } }.setBit F.SEAM_STATUS_gates_open true))); (s.starts h (.createDomain pd rq qq k)) ∧ (s.mirrored = true) ∧ (s.lead = false) ∧ (h.src ≠ .twin) ∧ (pd < 1024) ∧ (alGet s.kept.domains pd = none) ∧ (rq ≤ 1048576) ∧ (qq ≤ 65536) ∧ (k < 1024)) := by
  refine ⟨?_, ?_, ?_, ?_, ?_, ?_, ?_, ?_, ?_, ?_⟩ <;> (intros; decide +kernel +zetaReduce)

theorem test_register_answers_key_met :
(let h := hdr; let a := ({ index := some 7, pd := 5, tiled := false, read := true, write := true, atomic := false, flush := false, local_ := false, vaBase := 0x1000, length := 65536, target := 0x10000, tileCount := 0, rnrThr := 0, ext := false, policy := 0, reservedZero := true } : RegArgs); let i := 7; let s : State := (go h (.register a) ((({ base .solo with kept := { domains := [(5, ⟨4, 4, 9⟩)], rdt := [(7, { epoch := 65535 })] } }).setFld F.RGN_RDT_CFG_count 16 |>.setFld F.RGN_RANGE_TOP_top_tiles 16))); (s.starts h (.register a)) ∧ (s.restoring = false) ∧ (s.mirrored = false) ∧ (a.index = some i) ∧ (s.registerCheck i a = none)) ∧
(let h := hdr; let a := (REGARGS); let i := 1; let s : State := (go h (.register a) ((({ base .solo with kept := { domains := [(5, ⟨4, 4, 9⟩)], rdt := [(0, { state := .valid, pd := 5, epoch := 4095, length := 65536, target := 0x10000, write := true })] } }).setFld F.RGN_RDT_CFG_count 16 |>.setFld F.RGN_RANGE_TOP_top_tiles 16))); (s.starts h (.register a)) ∧ (s.restoring = false) ∧ (s.mirrored = false) ∧ (a.index = none) ∧ (i < s.fld F.RGN_RDT_CFG_count) ∧ ((s.rgn i).state = .free) ∧ (s.descPoisoned i = false) ∧ (s.reserved i = false) ∧ (∀ j, j < i → (s.rgn j).state ≠ .free ∨ s.descPoisoned j = true ∨ s.reserved j = true) ∧ (s.registerCheck i a = none)) ∧
(let i := 1048575; (i < 2 ^ 20)) := by
  refine ⟨?_, ?_, ?_⟩ <;> (intros; decide +kernel +zetaReduce)

theorem test_region_commands_by_state_met :
(let s : State := (({ base .solo with kept := { rdt := [(7, { state := .valid, pd := 5, epoch := 4095, length := 65536, target := 0x10000, write := true })] } }).setFld F.RGN_RDT_CFG_count 16 |>.setFld F.RGN_RANGE_TOP_top_tiles 16); let pd := 5; let key := (BitVec.ofNat 32 (keyOf 7 4095)); let right := Right.write; let va := 0; let len := 8; let bounds := true; let x := ((7, [(0x10000, 8)]) : Nat × List (Nat × Nat)); ((match (s.admits pd key right va len bounds).2 with | .ok y => y == x | _ => false) = true)) ∧
(let h := hdr; let key := (BitVec.ofNat 32 (keyOf 7 4095)); let s : State := (go h (.deregister key) ((base .solo))); (s.starts h (.deregister key)) ∧ (s.current key = none)) ∧
(let h := hdr; let key := (BitVec.ofNat 32 (keyOf 7 4095)); let s : State := (go h (.repair key) ((base .solo))); (s.starts h (.repair key)) ∧ (s.current key = none)) ∧
(let h := hdr; let key := (BitVec.ofNat 32 (keyOf 7 4095)); let s : State := (go h (.sync key) ((base .solo))); (s.starts h (.sync key)) ∧ (s.current key = none)) ∧
(let h := hdr; let key := (BitVec.ofNat 32 (keyOf 7 4095)); let flag := true; let policy := (3 : Fin 4); let s : State := (go h (.setExtent key flag policy) ((base .solo))); (s.starts h (.setExtent key flag policy)) ∧ (s.current key = none)) ∧
(let h := hdr; let a := ({ index := some 7, pd := 5, tiled := false, read := true, write := true, atomic := false, flush := false, local_ := false, vaBase := 0x1000, length := 65536, target := 0x10000, tileCount := 0, rnrThr := 0, ext := false, policy := 0, reservedZero := true } : RegArgs); let i := 7; let s : State := (go h (.register a) ((({ base .solo with kept := { rdt := [(7, { state := .valid, pd := 5, epoch := 4095, length := 65536, target := 0x10000, write := true })] } }).setFld F.RGN_RDT_CFG_count 16 |>.setFld F.RGN_RANGE_TOP_top_tiles 16))); (s.starts h (.register a)) ∧ (a.index = some i) ∧ (i < s.fld F.RGN_RDT_CFG_count) ∧ (s.descPoisoned i = false) ∧ ((s.rgn i).state ≠ .free)) ∧
(let h := hdr; let key := (BitVec.ofNat 32 (keyOf 7 4095)); let i := 7; let s : State := (go h (.deregister key) (({ base .solo with kept := { rdt := [(7, { state := .closing, epoch := 4096 })] } }))); (s.starts h (.deregister key)) ∧ (s.current key = some i) ∧ ((s.rgn i).state = .closing)) ∧
(let h := hdr; let key := (BitVec.ofNat 32 (keyOf 7 4095)); let i := 7; let s : State := (go h (.repair key) (({ base .solo with kept := { rdt := [(7, { state := .closing, epoch := 4096 })] } }))); (s.starts h (.repair key)) ∧ (s.current key = some i) ∧ ((s.rgn i).state = .closing)) ∧
(let h := hdr; let key := (BitVec.ofNat 32 (keyOf 7 4095)); let i := 7; let s : State := (go h (.sync key) (({ base .solo with kept := { rdt := [(7, { state := .closing, epoch := 4096 })] } }))); (s.starts h (.sync key)) ∧ (s.current key = some i) ∧ ((s.rgn i).state = .closing)) := by
  refine ⟨?_, ?_, ?_, ?_, ?_, ?_, ?_, ?_, ?_⟩ <;> (intros; decide +kernel +zetaReduce)

theorem test_domains_never_cross_met :
(let s : State := (({ base .solo with kept := { rdt := [(7, { state := .valid, pd := 5, epoch := 4095, length := 65536, target := 0x10000, write := true })] } }).setFld F.RGN_RDT_CFG_count 16 |>.setFld F.RGN_RANGE_TOP_top_tiles 16); let pd := 5; let key := (BitVec.ofNat 32 (keyOf 7 4095)); let right := Right.write; let va := 0; let len := 65536; let bounds := true; let x := ((7, [(0x10000, 65536)]) : Nat × List (Nat × Nat)); ((match (s.admits pd key right va len bounds).2 with | .ok y => y == x | _ => false) = true)) ∧
(let s : State := (({ base .solo with kept := { rdt := [(7, { state := .valid, pd := 5, epoch := 4095, length := 65536, target := 0x10000, write := true })] } }).setFld F.RGN_RDT_CFG_count 16 |>.setFld F.RGN_RANGE_TOP_top_tiles 16); let pd := 4; let key := (BitVec.ofNat 32 (keyOf 7 4095)); ((s.rgn (keyIndex key)).pd ≠ pd)) := by
  refine ⟨?_, ?_⟩ <;> (intros; decide +kernel +zetaReduce)

theorem test_region_commands_met :
(let h := hdr; let key := (BitVec.ofNat 32 (keyOf 7 4095)); let i := 7; let s : State := (go h (.sync key) (({ base .solo with kept := { rdt := [(7, { state := .valid, pd := 5, epoch := 4095, length := 65536, tiled := true, target := 0xFFFE04000000, tileCount := 1, broken := true, lastFault := 3 })] }, entries := [(0xFFFE04000000, 0), (0xFFFE04000008, 0)] }))); (s.starts h (.sync key)) ∧ (s.restoring = false) ∧ (s.mirrored = false) ∧ (s.current key = some i) ∧ ((s.rgn i).state = .valid)) ∧
(let h := hdr; let key := (BitVec.ofNat 32 (keyOf 7 4095)); let i := 7; let s : State := (go h (.repair key) (({ base .solo with kept := { rdt := [(7, { state := .valid, pd := 5, epoch := 4095, length := 65536, tiled := true, target := 0xFFFE04000000, tileCount := 1, broken := true, lastFault := 3 })] }, entries := [(0xFFFE04000000, 0), (0xFFFE04000008, 0)] }))); (s.starts h (.repair key)) ∧ (s.restoring = false) ∧ (s.mirrored = false) ∧ (s.current key = some i) ∧ ((s.rgn i).state = .valid)) ∧
(let h := hdr; let key := (BitVec.ofNat 32 (keyOf 7 4095)); let i := 7; let s : State := (go h (.deregister key) (({ base .solo with kept := { rdt := [(6, { state := .valid, pd := 5, epoch := 4095, length := 65536, target := 0x10000, write := true }), (7, { state := .valid, pd := 5, epoch := 4095, length := 65536, tiled := true, target := 0xFFFE04000000, tileCount := 1, broken := true, lastFault := 3 })] }, entries := [(0xFFFE04000000, 0), (0xFFFE04000008, 0)] }))); (s.starts h (.deregister key)) ∧ (s.restoring = false) ∧ (s.mirrored = false) ∧ (s.current key = some i) ∧ ((s.rgn i).state = .valid)) ∧
(let s : State := ({ base .solo with kept := { rdt := [(7, { state := .closing })] } }); let i := 7; (s.runs) ∧ ((s.rgn i).state = .closing) ∧ (∀ p ∈ s.kept.qps, p.2.admitted i = []) ∧ (∀ w ∈ s.seam.fwdWait, w.2.region ≠ i)) ∧
(let s : State := ({ base .solo with kept := { rdt := [(7, { state := .closing })], qps := [(3, { state := .rtr, epsn := 9, msgs := [MSG] })] } }); let i := 7; let n := 3; let q := ({ state := .rtr, epsn := 9, msgs := [MSG] } : Qp); let m := MSG; (s.runs) ∧ ((s.rgn i).state = .closing) ∧ (s.kept.qps = [(n, q)]) ∧ (q.msgs = [m]) ∧ (q.cur = none) ∧ (m.region = some i) ∧ (m.phase = .accepted) ∧ (m.entry = none) ∧ (q.rc = true) ∧ (q.nak = none) ∧ (q.state = .rtr) ∧ (s.fetches = []) ∧ (q.engine = none) ∧ (s.gates = false)) ∧
(let s : State := ({ base .solo with kept := { rdt := [(7, { state := .closing, epoch := 6, closer := some hdr })], qps := [(0, { state := .rts })] } }); let i := 7; let h := hdr; (s.runs) ∧ ((s.rgn i).state = .closing) ∧ (s.admitted i = 0) ∧ ((s.rgn i).selfDone = false) ∧ ((s.rgn i).twinDone = true) ∧ ((s.rgn i).closer = some h) ∧ (h.src ≠ .twin) ∧ (s.mirrored = false)) ∧
(let s : State := ({ base .solo with kept := { rdt := [(7, { state := .valid, twinDone := false, closer := some hdr })] } }); let i := 7; (s.runs) ∧ ((s.rgn i).state ≠ .closing ∨ 0 < s.admitted i)) := by
  refine ⟨?_, ?_, ?_, ?_, ?_, ?_, ?_⟩ <;> (intros; decide +kernel +zetaReduce)

theorem test_table_write_stores_met :
(let h := hdr; let addr := 0xFFFE04000000; let entries := ([0x0123456780000#64 * 0 + 0x012345670000#64, 0x20000#64] : List (BitVec 64)); let s : State := (go h (.tableWrite addr entries.length true entries) ((base .solo))); (s.starts h (.tableWrite addr entries.length true entries)) ∧ (s.mirrored = false) ∧ (s.tableCheck addr entries.length true entries = none) ∧ (Memory.wf s.kept.mem = true)) ∧
(let h := hdr; let addr := 0xFFFE04000000; let count := 507; let shapeOk := true; let entries := ([] : List (BitVec 64)); let st := Status.malformed; let s : State := (go h (.tableWrite addr count shapeOk entries) ((base .solo))); (s.starts h (.tableWrite addr count shapeOk entries)) ∧ (s.tableCheck addr count shapeOk entries = some st)) := by
  refine ⟨?_, ?_⟩ <;> (intros; decide +kernel +zetaReduce)

theorem test_tailor_moves_met :
(let h := hdr; let key := (BitVec.ofNat 32 (keyOf 7 4095)); let flag := true; let policy := (3 : Fin 4); let i := 7; let s : State := (go h (.setExtent key flag policy) ((({ base .solo with kept := { rdt := [(7, { state := .valid, pd := 5, epoch := 4095, length := 65536, target := 0x10000, write := true })] } }).setFld F.TLR_HOMECAP_cap_tiles 100).setFld F.TLR_WM_CFG_wm_hi 90)); (s.starts h (.setExtent key flag policy)) ∧ (s.restoring = false) ∧ (s.mirrored = false) ∧ (s.current key = some i) ∧ (s.extentCheck i flag policy.val = none)) ∧
(let h := hdr; let key := (BitVec.ofNat 32 (keyOf 7 4095)); let flag := true; let policy := (0 : Fin 4); let i := 7; let st := Status.invalid; let s : State := (go h (.setExtent key flag policy) (({ base .solo with kept := { rdt := [(7, { state := .valid, pd := 5, epoch := 4095, length := 65536, tiled := true, target := 0xFFFE04000000, tileCount := 1, broken := true, lastFault := 3 })] } }))); (s.starts h (.setExtent key flag policy)) ∧ (s.current key = some i) ∧ (s.extentCheck i flag policy.val = some st)) ∧
(let s : State := ({ base .solo with pops := [(0, ⟨1, 1, 1, 70000⟩)], kept := { tiles := [(1, { home := .dram, age := 15 }), (2, { home := .nand, age := 3 })] }, nand := { blockTiles := 4, perTarget := 8, targets := [0, 5], init := 10, left := 10, formatted := true } }.setFld F.TLR_HOMECAP_cap_tiles 100); (s.runs)) ∧
(let s : State := ({ base .solo with pops := [(0, ⟨1, 1, 1, 70000⟩)], kept := { tiles := [(1, { home := .nand, churn := true, units := List.replicate 16 .dram })] }, nand := { blockTiles := 4, perTarget := 8, targets := [0, 5], init := 10, left := 10, formatted := true } }.setFld F.TLR_HOMECAP_cap_tiles 100); let tile := 1; (s.runs) ∧ (s.isMoving tile none = false) ∧ ((s.tile tile).units ≠ []) ∧ ((s.tile tile).units.all (· == .dram) = true)) ∧
(let s : State := ({ base .solo with pops := [(0, ⟨1, 1, 1, 70000⟩)], kept := { tiles := [(1, { home := .nand, churn := true, units := [.nand, .dram] })] }, nand := { blockTiles := 4, perTarget := 8, targets := [0, 5], init := 10, left := 10, formatted := true } }.setFld F.TLR_HOMECAP_cap_tiles 100); let tile := 1; (s.runs) ∧ (((s.tile tile).churn = false ∧ (s.tile tile).units = []) ∨ s.isMoving tile none = true ∨ ((s.tile tile).units ≠ [] ∧ (s.tile tile).units.all (· == .dram) = false ∧ (s.tile tile).units.all (· == .nand) = false))) ∧
(let s : State := ({ base .solo with pops := [(0, ⟨1, 1, 1, 70000⟩), (1, ⟨1, 1, 1, 70000⟩)], kept := { tiles := [(1, { home := .dram, frame := 66000 })] }, tlr := { loads := [(0, 0, 0), (0, 0, 0)] } }.setFld F.TLR_DRAM_CFG_imbal_pct 50); let ch := (0 : Dmc); let x := ((1, { home := .dram, frame := 66000 }) : Nat × Tile); (s.runs) ∧ (s.fld F.TLR_DRAM_CFG_imbal_pct ≠ 0) ∧ ((s.pops.map (fun p => s.chanLoad p.1)).foldl (· + ·) 0 * (100 + s.fld F.TLR_DRAM_CFG_imbal_pct) < s.chanLoad ch.val * 100 * s.pops.length) ∧ (s.tlr.queue = []) ∧ (s.tlr.running = []) ∧ (s.kept.tiles = [x]) ∧ (x.2.inDram = true) ∧ ((frameAt s.pops x.2.frame).map (fun y => y.1) = some ch.val)) ∧
(let s : State := ((base .solo).setFld F.TLR_DRAM_CFG_imbal_pct 0); (s.runs) ∧ (s.fld F.TLR_DRAM_CFG_imbal_pct = 0)) ∧
(let s : State := (((({ base .solo with ports := { up := [0] }, tlr := { qpLoad := [(3, 9)], overFor := 100 }, kept := { qps := [(3, ({ state := .rts, engine := some 0, pd := 5, pmtu := 1024, remote := some (1, 2) } : Qp))] } }).setBit F.SEAM_STATUS_gates_open true).setFld F.RGN_RDT_CFG_count 16).setFld (F.VE_MSG_CNT_messages 0) 9); (s.runs)) ∧
(let s : State := ((({ base .solo with ports := { up := [0] }, kept := { qps := [(3, ({ state := .rts, engine := some 0, pd := 5, pmtu := 1024, remote := some (1, 2), moveTo := some 63 } : Qp))] } }).setBit F.SEAM_STATUS_gates_open true).setFld F.RGN_RDT_CFG_count 16); let qp := (3 : Qpi); let dest := (63 : Engine); let q := ({ state := .rts, engine := some 0, pd := 5, pmtu := 1024, remote := some (1, 2), moveTo := some 63 } : Qp); let e := 0; (s.runs) ∧ (s.qpAt qp.val = some q) ∧ (q.engine = some e) ∧ (q.moveTo = some dest.val) ∧ (s.quiescent qp.val q = true) ∧ (s.eligible dest.val = true)) ∧
(let s : State := ((({ base .solo with ports := { up := [0] }, kept := { qps := [(3, ({ state := .rts, engine := some 0, pd := 5, pmtu := 1024, remote := some (1, 2), moveTo := some 63, msgs := [({ psn := 9, last := 9, verb := .write, region := some 7, pieces := [(0x1FFFE, 2)], len := 2, data := [7, 8], imm := 0, cmp := 0, swapAdd := 0, relaxed := false, ackReq := true, local_ := false, entry := none, got := 2, phase := .accepted, atPoint := false, fwd := false, dup := false, resent := false, pub := none, result := none, solicit := false, arrived := 0 } : Msg)] } : Qp))] } }).setBit F.SEAM_STATUS_gates_open true).setFld F.RGN_RDT_CFG_count 16); let qp := (3 : Qpi); let dest := (63 : Engine); let q := ({ state := .rts, engine := some 0, pd := 5, pmtu := 1024, remote := some (1, 2), moveTo := some 63, msgs := [({ psn := 9, last := 9, verb := .write, region := some 7, pieces := [(0x1FFFE, 2)], len := 2, data := [7, 8], imm := 0, cmp := 0, swapAdd := 0, relaxed := false, ackReq := true, local_ := false, entry := none, got := 2, phase := .accepted, atPoint := false, fwd := false, dup := false, resent := false, pub := none, result := none, solicit := false, arrived := 0 } : Msg)] } : Qp); (s.runs) ∧ (s.qpAt qp.val = some q) ∧ (q.engine = none ∨ q.moveTo ≠ some dest.val ∨ s.quiescent qp.val q = false ∨ s.eligible dest.val = false)) ∧
(let s : State := ({ base .solo with kept := { qps := [(3, ({ state := .rts, engine := some 0, pd := 5, pmtu := 1024, remote := some (1, 2), moveTo := some 63 } : Qp)), (4, ({ state := .rts, engine := some 0, pd := 5, pmtu := 1024, remote := some (1, 2) } : Qp))] } }); let qp := (3 : Qpi); let q := ({ state := .rts, engine := some 0, pd := 5, pmtu := 1024, remote := some (1, 2), moveTo := some 63 } : Qp); let d := 63; let e := 0; let w := 0; let m := 4; let x := ({ state := .rts, engine := some 0, pd := 5, pmtu := 1024, remote := some (1, 2) } : Qp); (s.runs) ∧ (s.qpAt qp.val = some q) ∧ (q.moveTo = some d) ∧ (q.engine = some e) ∧ ((s.setQp qp.val { q with moveTo := none }).heaviest s.tlr.qpLast e [qp.val] = some (w, m)) ∧ (m ≠ qp.val) ∧ (s.qpAt m = some x)) := by
  refine ⟨?_, ?_, ?_, ?_, ?_, ?_, ?_, ?_, ?_, ?_, ?_⟩ <;> (intros; decide +kernel +zetaReduce)

theorem test_write_accepted_met :
(let s : State := (((({ base .solo with ports := { up := [0] }, kept := { qps := [(3, ({ state := .rts, engine := some 0, pd := 5, pmtu := 1024, remote := some (1, 2), epsn := 0xFFFFFF } : Qp))], rdt := [(7, { state := .valid, pd := 5, epoch := 4095, vaBase := 0x1000, length := 65536, target := 0x10000, write := true })], tiles := [(1, { home := .dram })] } }).setBit F.SEAM_STATUS_gates_open true).setFld F.RGN_RDT_CFG_count 16).setFld F.RGN_RANGE_TOP_top_tiles 16); let p := ({ lport := 0, tagged := false, icvOk := false, sc := 0, an := 0, pn := 0, prio := 0, etype := 0, dual := none, lane := 0, hdrOk := true, qpn := 0x10003, srcAddr := 1, srcQpn := 2, pkey := 0xFFFF, qkey := 0, op := .writeOnly, psn := 0xFFFFFF, aeth := 0, ackReq := true, solicit := false, ect := false, ce := false, reth := some ⟨0x1008, BitVec.ofNat 32 (keyOf 7 4095), 3⟩, cmp := 0, swapAdd := 0, imm := 0, region := false, data := [1, 2, 3], walkUe := none, dataUe := none, mgmt := none } : Packet); let n := 3; let q := ({ state := .rts, engine := some 0, pd := 5, pmtu := 1024, remote := some (1, 2), epsn := 0xFFFFFF } : Qp); let r := (⟨0x1008, BitVec.ofNat 32 (keyOf 7 4095), 3⟩ : Reth); (s.mode = .solo) ∧ (s.doze.armed = false) ∧ (s.gates = true) ∧ (s.lportPresent p.lport.val = true) ∧ (s.msecPolicy p.lport.val = 0) ∧ (p.tagged = false) ∧ (p.hdrOk = true) ∧ (p.dual = none) ∧ (p.qpn = 0x10000 + n) ∧ (n < 0x10000) ∧ (s.qpAt n = some q) ∧ (q.rc = true) ∧ (qpLive q.state = true) ∧ (q.engine ≠ none) ∧ (q.fwdUntil = none) ∧ (q.t5 p = true) ∧ (q.nak = none) ∧ (q.naked = false) ∧ (q.replace = none) ∧ (q.cur = none) ∧ (q.past = []) ∧ (p.ce = false) ∧ (p.ect = false) ∧ (q.epsn = p.psn) ∧ (q.rnrAt = none) ∧ ((s.takeChain (64 + portOf p.lport.val) p.prio.val (cellsFor p.data.length)).isSome = true) ∧ (s.pfcOn (portOf p.lport.val) p.prio.val = false) ∧ (s.spool.waiting = []) ∧ (s.spool.inHand = []) ∧ (p.psn < 2 ^ 24) ∧ (∀ m ∈ q.msgs, m.psn ≠ p.psn) ∧ (p.op = .writeOnly) ∧ (p.reth = some r) ∧ (p.data.length = r.len) ∧ (0 < r.len) ∧ (r.len ≤ q.pmtu) ∧ (r.len ≤ 2 ^ 31) ∧ (p.walkUe = none) ∧ (s.descPoisoned (keyIndex r.key) = false) ∧ (s.keyCheck q.pd r.key .write r.va r.len true = none) ∧ ((s.rgn (keyIndex r.key)).tiled = false) ∧ (((s.rgn (keyIndex r.key)).target + (r.va - (s.rgn (keyIndex r.key)).vaBase)) % 65536 + r.len ≤ 65536) ∧ ((s.rgn (keyIndex r.key)).target + (r.va - (s.rgn (keyIndex r.key)).vaBase) < carveBase) ∧ ((s.tile (tileOf ((s.rgn (keyIndex r.key)).target + (r.va - (s.rgn (keyIndex r.key)).vaBase)))).home = .dram) ∧ ((s.tile (tileOf ((s.rgn (keyIndex r.key)).target + (r.va - (s.rgn (keyIndex r.key)).vaBase)))).units = []) ∧ ((s.tile (tileOf ((s.rgn (keyIndex r.key)).target + (r.va - (s.rgn (keyIndex r.key)).vaBase)))).churn = false) ∧ ((s.tile (tileOf ((s.rgn (keyIndex r.key)).target + (r.va - (s.rgn (keyIndex r.key)).vaBase)))).present = true) ∧ (s.seam.blind = false) ∧ (s.kept.poison = []) ∧ ((s.nc.freed = false ∧ s.kept.freshTab = []) ∨ (s.parks = [] ∧ s.kept.own = [] ∧ s.seam.fwdWait = [] ∧ s.seam.early = []))) ∧
(let s : State := (base .solo); let p := { ({ lport := 0, tagged := false, icvOk := false, sc := 0, an := 0, pn := 0, prio := 0, etype := 0, dual := none, lane := 0, hdrOk := true, qpn := 0x10003, srcAddr := 1, srcQpn := 2, pkey := 0xFFFF, qkey := 0, op := .writeOnly, psn := 0xFFFFFF, aeth := 0, ackReq := true, solicit := false, ect := false, ce := false, reth := some ⟨0x1008, BitVec.ofNat 32 (keyOf 7 4095), 3⟩, cmp := 0, swapAdd := 0, imm := 0, region := false, data := [1, 2, 3], walkUe := none, dataUe := none, mgmt := none } : Packet) with tagged := true }; (s.runs) ∧ (s.doze.armed = false) ∧ (s.lportPresent p.lport.val = true) ∧ (p.dual = none) ∧ (s.t1 p = false)) ∧
(let s : State := (base .solo); let p := { ({ lport := 0, tagged := false, icvOk := false, sc := 0, an := 0, pn := 0, prio := 0, etype := 0, dual := none, lane := 0, hdrOk := true, qpn := 0x10003, srcAddr := 1, srcQpn := 2, pkey := 0xFFFF, qkey := 0, op := .writeOnly, psn := 0xFFFFFF, aeth := 0, ackReq := true, solicit := false, ect := false, ce := false, reth := some ⟨0x1008, BitVec.ofNat 32 (keyOf 7 4095), 3⟩, cmp := 0, swapAdd := 0, imm := 0, region := false, data := [1, 2, 3], walkUe := none, dataUe := none, mgmt := none } : Packet) with hdrOk := false }; (s.runs) ∧ (s.doze.armed = false) ∧ (s.lportPresent p.lport.val = true) ∧ (p.dual = none) ∧ (s.t1 p = true) ∧ (p.hdrOk = false)) ∧
(let s : State := ((base .doze).setBit F.SEAM_STATUS_gates_open true); let p := ({ lport := 0, tagged := false, icvOk := false, sc := 0, an := 0, pn := 0, prio := 0, etype := 0, dual := none, lane := 0, hdrOk := true, qpn := 0x10003, srcAddr := 1, srcQpn := 2, pkey := 0xFFFF, qkey := 0, op := .writeOnly, psn := 0xFFFFFF, aeth := 0, ackReq := true, solicit := false, ect := false, ce := false, reth := some ⟨0x1008, BitVec.ofNat 32 (keyOf 7 4095), 3⟩, cmp := 0, swapAdd := 0, imm := 0, region := false, data := [1, 2, 3], walkUe := none, dataUe := none, mgmt := none } : Packet); (s.runs) ∧ (s.doze.armed = false) ∧ (s.lportPresent p.lport.val = true) ∧ (p.dual = none) ∧ (s.t1 p = true) ∧ (p.hdrOk = true) ∧ (s.hostsServed = false)) ∧
(let s : State := ((base .solo).setBit F.SEAM_STATUS_gates_open true); let p := { ({ lport := 0, tagged := false, icvOk := false, sc := 0, an := 0, pn := 0, prio := 0, etype := 0, dual := none, lane := 0, hdrOk := true, qpn := 0x10003, srcAddr := 1, srcQpn := 2, pkey := 0xFFFF, qkey := 0, op := .writeOnly, psn := 0xFFFFFF, aeth := 0, ackReq := true, solicit := false, ect := false, ce := false, reth := some ⟨0x1008, BitVec.ofNat 32 (keyOf 7 4095), 3⟩, cmp := 0, swapAdd := 0, imm := 0, region := false, data := [1, 2, 3], walkUe := none, dataUe := none, mgmt := none } : Packet) with qpn := 0x1FFFF }; (s.runs) ∧ (s.doze.armed = false) ∧ (s.lportPresent p.lport.val = true) ∧ (p.dual = none) ∧ (s.t1 p = true) ∧ (p.hdrOk = true) ∧ (s.hostsServed = true) ∧ (((s.slide p).takeChain (64 + portOf p.lport.val) p.prio.val (cellsFor p.data.length)).isSome = true) ∧ (p.qpn < 0x10000 ∨ 0x20000 ≤ p.qpn ∨ s.qpAt (p.qpn - 0x10000) = none) ∧ (s.nc.freed = false ∨ (s.parks = [] ∧ s.kept.own = [] ∧ s.seam.fwdWait = [] ∧ s.seam.early = []))) ∧
(let s : State := (({ base .solo with spool := cellsOf 64 245761 }).setBit F.SEAM_STATUS_gates_open true); let p := ({ lport := 0, tagged := false, icvOk := false, sc := 0, an := 0, pn := 0, prio := 0, etype := 0, dual := none, lane := 0, hdrOk := true, qpn := 0x10003, srcAddr := 1, srcQpn := 2, pkey := 0xFFFF, qkey := 0, op := .writeOnly, psn := 0xFFFFFF, aeth := 0, ackReq := true, solicit := false, ect := false, ce := false, reth := some ⟨0x1008, BitVec.ofNat 32 (keyOf 7 4095), 3⟩, cmp := 0, swapAdd := 0, imm := 0, region := false, data := [1, 2, 3], walkUe := none, dataUe := none, mgmt := none } : Packet); (s.runs) ∧ (s.doze.armed = false) ∧ (s.lportPresent p.lport.val = true) ∧ (p.dual = none) ∧ (s.t1 p = true) ∧ (p.hdrOk = true) ∧ (s.hostsServed = true) ∧ (((s.slide p).takeChain (64 + portOf p.lport.val) p.prio.val (cellsFor p.data.length)).isSome = false)) ∧
(let s : State := (base .solo); let p := { ({ lport := 0, tagged := false, icvOk := false, sc := 0, an := 0, pn := 0, prio := 0, etype := 0, dual := none, lane := 0, hdrOk := true, qpn := 0x10003, srcAddr := 1, srcQpn := 2, pkey := 0xFFFF, qkey := 0, op := .writeOnly, psn := 0xFFFFFF, aeth := 0, ackReq := true, solicit := false, ect := false, ce := false, reth := some ⟨0x1008, BitVec.ofNat 32 (keyOf 7 4095), 3⟩, cmp := 0, swapAdd := 0, imm := 0, region := false, data := [1, 2, 3], walkUe := none, dataUe := none, mgmt := none } : Packet) with lport := 1 }; (s.runs) ∧ (s.doze.armed = false) ∧ (s.lportPresent p.lport.val = false)) := by
  refine ⟨?_, ?_, ?_, ?_, ?_, ?_, ?_⟩
  · intros; decide +kernel +zetaReduce
  · intros; decide +kernel +zetaReduce
  · intros; decide +kernel +zetaReduce
  · intros; decide +kernel +zetaReduce
  · intros; decide +kernel +zetaReduce
  · exact ⟨by decide +kernel, by decide +kernel, by decide +kernel, by decide +kernel, by decide +kernel, by decide +kernel, by decide +kernel, congrArg Option.isSome (chain_none _ 64 0 0 (spool_low _ 64 245761 (by decide) (by decide) (by decide) (by rw [slide_spool, State.setBit_spool])))⟩
  · intros; decide +kernel +zetaReduce

theorem test_write_commits_met :
(let s : State := ((({ base .solo with ports := { up := [0] }, kept := { qps := [(3, ({ state := .rts, engine := some 0, pd := 5, pmtu := 1024, remote := some (1, 2), msgs := [({ psn := 9, last := 9, verb := .write, region := some 7, pieces := [(0x1FFFE, 2)], len := 2, data := [7, 8], imm := 0, cmp := 0, swapAdd := 0, relaxed := false, ackReq := true, local_ := false, entry := none, got := 2, phase := .accepted, atPoint := false, fwd := false, dup := false, resent := false, pub := none, result := none, solicit := false, arrived := 0 } : Msg)] } : Qp))], tiles := [(1, { home := .dram })], mem := [(0x1FFFD, 5), (0x20000, 6)] } }).setBit F.SEAM_STATUS_gates_open true).setFld F.RGN_RDT_CFG_count 16); let qp := (3 : Qpi); let q := ({ state := .rts, engine := some 0, pd := 5, pmtu := 1024, remote := some (1, 2), msgs := [({ psn := 9, last := 9, verb := .write, region := some 7, pieces := [(0x1FFFE, 2)], len := 2, data := [7, 8], imm := 0, cmp := 0, swapAdd := 0, relaxed := false, ackReq := true, local_ := false, entry := none, got := 2, phase := .accepted, atPoint := false, fwd := false, dup := false, resent := false, pub := none, result := none, solicit := false, arrived := 0 } : Msg)] } : Qp); let m := ({ psn := 9, last := 9, verb := .write, region := some 7, pieces := [(0x1FFFE, 2)], len := 2, data := [7, 8], imm := 0, cmp := 0, swapAdd := 0, relaxed := false, ackReq := true, local_ := false, entry := none, got := 2, phase := .accepted, atPoint := false, fwd := false, dup := false, resent := false, pub := none, result := none, solicit := false, arrived := 0 } : Msg); let a := 0x1FFFE; (s.mode = .solo) ∧ (s.gates = true) ∧ (s.qpAt qp.val = some q) ∧ (q.msgs = [m]) ∧ (q.nak = none) ∧ (qpLive q.state = true) ∧ (q.engine ≠ none) ∧ (q.giving = false) ∧ (m.verb = .write) ∧ (m.phase = .accepted) ∧ (m.entry = none) ∧ (m.pub = none) ∧ (m.pieces = [(a, m.len)]) ∧ (m.data.length = m.len) ∧ (0 < m.len) ∧ (a % 65536 + m.len ≤ 65536) ∧ (a < carveBase) ∧ ((s.tile (tileOf a)).home = .dram) ∧ ((s.tile (tileOf a)).units = []) ∧ ((s.tile (tileOf a)).churn = false) ∧ ((s.tile (tileOf a)).present = true) ∧ (s.seam.blind = false) ∧ (s.kept.chans = []) ∧ (Memory.wf s.kept.mem = true) ∧ ((s.nc.freed = false ∧ s.kept.freshTab = []) ∨ (s.parks = [] ∧ s.kept.own = [] ∧ s.seam.fwdWait = [] ∧ s.seam.early = [])) ∧ ((m.cells.map (·.1)).Nodup) ∧ (∀ c ∈ m.cells, (s.cell c.1).owner = q.owner ∧ (s.cell c.1).owner ≠ 255 ∧ (s.cell c.1).gen = c.2)) ∧
(let s : State := ((({ base .solo with ports := { up := [0] }, kept := { qps := [(3, ({ state := .rts, engine := some 0, pd := 5, pmtu := 1024, remote := some (1, 2), msgs := [{ ({ psn := 9, last := 9, verb := .write, region := some 7, pieces := [(0x1FFFE, 2)], len := 2, data := [7, 8], imm := 0, cmp := 0, swapAdd := 0, relaxed := false, ackReq := true, local_ := false, entry := none, got := 2, phase := .accepted, atPoint := false, fwd := false, dup := false, resent := false, pub := none, result := none, solicit := false, arrived := 0 } : Msg) with psn := 8, phase := .parked 0 }, ({ psn := 9, last := 9, verb := .write, region := some 7, pieces := [(0x1FFFE, 2)], len := 2, data := [7, 8], imm := 0, cmp := 0, swapAdd := 0, relaxed := false, ackReq := true, local_ := false, entry := none, got := 2, phase := .accepted, atPoint := false, fwd := false, dup := false, resent := false, pub := none, result := none, solicit := false, arrived := 0 } : Msg)] } : Qp))] } }).setBit F.SEAM_STATUS_gates_open true).setFld F.RGN_RDT_CFG_count 16); let qp := (3 : Qpi); let q := ({ state := .rts, engine := some 0, pd := 5, pmtu := 1024, remote := some (1, 2), msgs := [{ ({ psn := 9, last := 9, verb := .write, region := some 7, pieces := [(0x1FFFE, 2)], len := 2, data := [7, 8], imm := 0, cmp := 0, swapAdd := 0, relaxed := false, ackReq := true, local_ := false, entry := none, got := 2, phase := .accepted, atPoint := false, fwd := false, dup := false, resent := false, pub := none, result := none, solicit := false, arrived := 0 } : Msg) with psn := 8, phase := .parked 0 }, ({ psn := 9, last := 9, verb := .write, region := some 7, pieces := [(0x1FFFE, 2)], len := 2, data := [7, 8], imm := 0, cmp := 0, swapAdd := 0, relaxed := false, ackReq := true, local_ := false, entry := none, got := 2, phase := .accepted, atPoint := false, fwd := false, dup := false, resent := false, pub := none, result := none, solicit := false, arrived := 0 } : Msg)] } : Qp); let m := ({ psn := 9, last := 9, verb := .write, region := some 7, pieces := [(0x1FFFE, 2)], len := 2, data := [7, 8], imm := 0, cmp := 0, swapAdd := 0, relaxed := false, ackReq := true, local_ := false, entry := none, got := 2, phase := .accepted, atPoint := false, fwd := false, dup := false, resent := false, pub := none, result := none, solicit := false, arrived := 0 } : Msg); (s.runs) ∧ (s.qpAt qp.val = some q) ∧ (q.msgs.find? (fun x => decide (x.psn = m.psn ∧ !x.committed)) = some m) ∧ (m.phase ≠ .accepted ∨ mayCommit m (earlierOf q.msgs m.psn) = false)) := by
  refine ⟨?_, ?_⟩ <;> (intros; decide +kernel +zetaReduce)

theorem test_answers_and_retries_met :
(let s : State := ((({ base .solo with ports := { up := [0] }, kept := { qps := [(3, ({ state := .rts, engine := some 0, pd := 5, pmtu := 1024, remote := some (1, 2), unacked := [(0xFFFFFF, 0)], doneTo := 0 } : Qp))] } }).setBit F.SEAM_STATUS_gates_open true).setFld F.RGN_RDT_CFG_count 16); let qp := (3 : Qpi); let q := ({ state := .rts, engine := some 0, pd := 5, pmtu := 1024, remote := some (1, 2), unacked := [(0xFFFFFF, 0)], doneTo := 0 } : Qp); (s.runs) ∧ (s.qpAt qp.val = some q) ∧ (q.rc = true) ∧ (qpLive q.state = true) ∧ (q.unacked ≠ []) ∧ (s.gates = true) ∧ (s.clearWay qp.val q (.ack (psnAdd q.doneTo (2 ^ 24 - 1))) = true) ∧ (s.inClear q.lport (q.ether (.ack 0)) = true)) ∧
(let s : State := ((({ base .solo with ports := { up := [0] }, kept := { qps := [(3, ({ state := .rts, engine := some 0, pd := 5, pmtu := 1024, remote := some (1, 2), unacked := (List.replicate 16 (7, 0)), doneTo := 8, lport := 1 } : Qp))] } }).setBit F.SEAM_STATUS_gates_open true).setFld F.RGN_RDT_CFG_count 16); let qp := (3 : Qpi); let q := ({ state := .rts, engine := some 0, pd := 5, pmtu := 1024, remote := some (1, 2), unacked := (List.replicate 16 (7, 0)), doneTo := 8, lport := 1 } : Qp); (s.runs) ∧ (s.qpAt qp.val = some q) ∧ (q.rc = true) ∧ (qpLive q.state = true) ∧ (q.unacked ≠ []) ∧ (s.gates = true) ∧ (s.clearWay qp.val q (.ack (psnAdd q.doneTo (2 ^ 24 - 1))) = false) ∧ (s.fld (F.PORT_TP_CFG_ack_msgs (portOf q.lport)) ≤ q.unacked.length)) ∧
(let s : State := ((({ base .solo with ports := { up := [0] }, kept := { qps := [(3, ({ state := .rts, engine := some 0, pd := 5, pmtu := 1024, remote := some (1, 2), unacked := (List.replicate 15 (7, 0)) } : Qp))] } }).setBit F.SEAM_STATUS_gates_open true).setFld F.RGN_RDT_CFG_count 16); let qp := (3 : Qpi); let q := ({ state := .rts, engine := some 0, pd := 5, pmtu := 1024, remote := some (1, 2), unacked := (List.replicate 15 (7, 0)) } : Qp); (s.runs) ∧ (s.qpAt qp.val = some q) ∧ (s.gates = false ∨ q.unacked = [] ∨ q.unacked.length < s.fld (F.PORT_TP_CFG_ack_msgs (portOf q.lport)))) ∧
(let s : State := ((({ base .solo with ports := { up := [0] }, kept := { qps := [(3, ({ state := .rts, engine := some 0, pd := 5, pmtu := 1024, remote := some (1, 2) } : Qp))] } }).setBit F.SEAM_STATUS_gates_open true).setFld F.RGN_RDT_CFG_count 16); let qp := (3 : Qpi); let q := ({ state := .rts, engine := some 0, pd := 5, pmtu := 1024, remote := some (1, 2) } : Qp); (s.runs) ∧ (s.qpAt qp.val = some q) ∧ (s.gates = false ∨ q.unacked = [])) ∧
(let s : State := ((({ base .solo with ports := { up := [0] }, kept := { qps := [(3, ({ state := .rts, engine := some 0, pd := 5, pmtu := 1024, remote := some (1, 2), retry := 1, reqs := [⟨4, 4, 0, 0, [1], [], .write 7 4 [] none, none⟩, ⟨5, 5, 0, 0, [2], [], .write 7 5 [] none, none⟩] } : Qp))] } }).setBit F.SEAM_STATUS_gates_open true).setFld F.RGN_RDT_CFG_count 16); let qp := (3 : Qpi); let q := ({ state := .rts, engine := some 0, pd := 5, pmtu := 1024, remote := some (1, 2), retry := 1, reqs := [⟨4, 4, 0, 0, [1], [], .write 7 4 [] none, none⟩, ⟨5, 5, 0, 0, [2], [], .write 7 5 [] none, none⟩] } : Qp); (s.runs) ∧ (s.qpAt qp.val = some q) ∧ (q.reqs ≠ []) ∧ (q.state = .rts) ∧ (q.tries < q.retry)) ∧
(let s : State := ((({ base .solo with ports := { up := [0] }, kept := { qps := [(3, ({ state := .rts, engine := some 0, pd := 5, pmtu := 1024, remote := some (1, 2), retry := 1, tries := 1, reqs := [⟨4, 4, 0, 0, [1], [], .write 7 4 [] none, none⟩] } : Qp))] } }).setBit F.SEAM_STATUS_gates_open true).setFld F.RGN_RDT_CFG_count 16); let qp := (3 : Qpi); let q := ({ state := .rts, engine := some 0, pd := 5, pmtu := 1024, remote := some (1, 2), retry := 1, tries := 1, reqs := [⟨4, 4, 0, 0, [1], [], .write 7 4 [] none, none⟩] } : Qp); let r := (⟨4, 4, 0, 0, [1], [], .write 7 4 [] none, none⟩ : Req); let l := ([] : List Req); (s.runs) ∧ (s.qpAt qp.val = some q) ∧ (q.reqs = r :: l) ∧ (q.state = .rts) ∧ (q.retry ≤ q.tries)) ∧
(let s : State := ((({ base .solo with ports := { up := [0] }, kept := { qps := [(3, ({ state := .rts, engine := some 0, pd := 5, pmtu := 1024, remote := some (1, 2) } : Qp))] } }).setBit F.SEAM_STATUS_gates_open true).setFld F.RGN_RDT_CFG_count 16); let qp := (3 : Qpi); let q := ({ state := .rts, engine := some 0, pd := 5, pmtu := 1024, remote := some (1, 2) } : Qp); (s.runs) ∧ (s.qpAt qp.val = some q) ∧ (q.reqs = [])) := by
  refine ⟨?_, ?_, ?_, ?_, ?_, ?_, ?_⟩ <;> (intros; decide +kernel +zetaReduce)

theorem test_naks_leave_met :
(let s : State := ((({ base .solo with ports := { up := [0] }, kept := { qps := [(3, ({ state := .rts, engine := some 63, pd := 5, pmtu := 1024, remote := some (1, 2), nak := some (7, 1, 0x60) } : Qp))] } }).setBit F.SEAM_STATUS_gates_open true).setFld F.RGN_RDT_CFG_count 16); let qp := (3 : Qpi); let q := ({ state := .rts, engine := some 63, pd := 5, pmtu := 1024, remote := some (1, 2), nak := some (7, 1, 0x60) } : Qp); let psn := 7; let syn := 1; let aeth := 0x60; let e := 63; (s.runs) ∧ (s.qpAt qp.val = some q) ∧ (q.nak = some (psn, syn, aeth)) ∧ (q.engine = some e) ∧ (s.gates = true) ∧ (qpLive q.state = true) ∧ (q.msgs = []) ∧ (q.unacked = []) ∧ (s.clearWay qp.val q (.nak psn syn aeth) = true) ∧ (s.inClear q.lport (q.ether (.ack 0)) = true) ∧ (syn < 0x10) ∧ (e < 64)) ∧
(let s : State := ((({ base .solo with ports := { up := [0] }, kept := { qps := [(3, ({ state := .rts, engine := some 0, pd := 5, pmtu := 1024, remote := some (1, 2), nak := some (7, 0x22, 0x62) } : Qp))] } }).setBit F.SEAM_STATUS_gates_open true).setFld F.RGN_RDT_CFG_count 16); let qp := (3 : Qpi); let q := ({ state := .rts, engine := some 0, pd := 5, pmtu := 1024, remote := some (1, 2), nak := some (7, 0x22, 0x62) } : Qp); let psn := 7; let syn := 0x22; let aeth := 0x62; let e := 0; (s.runs) ∧ (s.qpAt qp.val = some q) ∧ (q.nak = some (psn, syn, aeth)) ∧ (q.engine = some e) ∧ (s.gates = true) ∧ (qpLive q.state = true) ∧ (q.msgs = []) ∧ (q.cur = none) ∧ (q.past = []) ∧ (q.recvs = []) ∧ (∀ p ∈ s.kept.subs, p.2.qp ≠ qp.val) ∧ (s.clearWay qp.val q (.nak psn syn aeth) = true) ∧ (s.inClear q.lport (q.ether (.ack 0)) = true) ∧ (0x10 ≤ syn) ∧ (syn < 0x40)) ∧
(let s : State := (base .solo); (s.runs) ∧ (s.gates = false)) ∧
(let s : State := ((({ base .solo with ports := { up := [0] }, mrtQ := 400000000, parks := [(3, 9)], kept := { qps := [(3, ({ state := .rts, engine := some 0, pd := 5, pmtu := 1024, remote := some (1, 2), epsn := 10, msgs := [{ ({ psn := 9, last := 9, verb := .write, region := some 7, pieces := [(0x1FFFE, 2)], len := 2, data := [7, 8], imm := 0, cmp := 0, swapAdd := 0, relaxed := false, ackReq := true, local_ := false, entry := none, got := 2, phase := .accepted, atPoint := false, fwd := false, dup := false, resent := false, pub := none, result := none, solicit := false, arrived := 0 } : Msg) with phase := .parked 4 }] } : Qp))] } }).setBit F.SEAM_STATUS_gates_open true).setFld F.RGN_RDT_CFG_count 16); let qp := (3 : Qpi); let q := ({ state := .rts, engine := some 0, pd := 5, pmtu := 1024, remote := some (1, 2), epsn := 10, msgs := [{ ({ psn := 9, last := 9, verb := .write, region := some 7, pieces := [(0x1FFFE, 2)], len := 2, data := [7, 8], imm := 0, cmp := 0, swapAdd := 0, relaxed := false, ackReq := true, local_ := false, entry := none, got := 2, phase := .accepted, atPoint := false, fwd := false, dup := false, resent := false, pub := none, result := none, solicit := false, arrived := 0 } : Msg) with phase := .parked 4 }] } : Qp); let m := { ({ psn := 9, last := 9, verb := .write, region := some 7, pieces := [(0x1FFFE, 2)], len := 2, data := [7, 8], imm := 0, cmp := 0, swapAdd := 0, relaxed := false, ackReq := true, local_ := false, entry := none, got := 2, phase := .accepted, atPoint := false, fwd := false, dup := false, resent := false, pub := none, result := none, solicit := false, arrived := 0 } : Msg) with phase := .parked 4 }; let t0 := 4; let e := 0; (s.runs) ∧ (s.qpAt qp.val = some q) ∧ (q.msgs = [m]) ∧ (q.cur = none) ∧ (m.phase = .parked t0) ∧ (m.dup = false) ∧ (m.entry = none) ∧ (q.nak = none) ∧ (q.rc = true) ∧ (q.engine = some e) ∧ (s.gates = true) ∧ (qpLive q.state = true) ∧ (s.parkedPast m = true) ∧ (q.unacked = []) ∧ (s.clearWay qp.val q (.nak 0 0x40 0) = true) ∧ (s.inClear q.lport (q.ether (.ack 0)) = true)) ∧
(let s : State := ((({ base .solo with ports := { up := [0] }, kept := { qps := [(3, ({ state := .rts, engine := some 0, pd := 5, pmtu := 1024, remote := some (1, 2), replace := some 5, lostBy := some 1, epsn := 9 } : Qp))] } }).setBit F.SEAM_STATUS_gates_open true).setFld F.RGN_RDT_CFG_count 16); let qp := (3 : Qpi); let q := ({ state := .rts, engine := some 0, pd := 5, pmtu := 1024, remote := some (1, 2), replace := some 5, lostBy := some 1, epsn := 9 } : Qp); let p := 5; let e := 0; (s.runs) ∧ (s.qpAt qp.val = some q) ∧ (q.replace = some p) ∧ (q.engine = some e) ∧ (q.msgs = []) ∧ (q.unacked = []) ∧ (s.hostsServed = true) ∧ (qpLive q.state = true) ∧ (s.clearWay qp.val q (.nak p 2 0x60) = true) ∧ (s.inClear q.lport (q.ether (.ack 0)) = true)) := by
  refine ⟨?_, ?_, ?_, ?_, ?_⟩ <;> (intros; decide +kernel +zetaReduce)

theorem test_congestion_and_pause_met :
(let s : State := ((({ base .solo with ports := { up := [0] }, kept := { qps := [(3, ({ state := .rts, engine := some 0, pd := 5, pmtu := 1024, remote := some (1, 2), ccClass := 1, rate := 7 } : Qp))] } }).setBit F.SEAM_STATUS_gates_open true).setFld F.RGN_RDT_CFG_count 16); let qp := (3 : Qpi); let q := ({ state := .rts, engine := some 0, pd := 5, pmtu := 1024, remote := some (1, 2), ccClass := 1, rate := 7 } : Qp); (s.runs) ∧ (s.qpAt qp.val = some q) ∧ (q.engine ≠ none) ∧ (q.ccClass = 1) ∧ (s.fld (F.PORT_CC_ECN_cnp_gap (portOf q.lport)) * 1000 + (q.cnpAt.getD 0) ≤ s.mrt ∨ q.cnpAt = none)) ∧
(let s : State := ((({ base .solo with ports := { up := [0] }, kept := { qps := [(3, ({ state := .rts, engine := some 0, pd := 5, pmtu := 1024, remote := some (1, 2) } : Qp))] } }).setBit F.SEAM_STATUS_gates_open true).setFld F.RGN_RDT_CFG_count 16); let qp := (3 : Qpi); let q := ({ state := .rts, engine := some 0, pd := 5, pmtu := 1024, remote := some (1, 2) } : Qp); (s.runs) ∧ (s.qpAt qp.val = some q) ∧ (q.ccClass = 0)) ∧
(let s : State := ((({ base .solo with mrtQ := 0, ports := { tx := [⟨0, 0, 3, 0, .cnp 1 2, false⟩] }, kept := { qps := [(3, ({ state := .rts, engine := some 0, pd := 5, pmtu := 1024, remote := some (1, 2), rate := 3999 } : Qp))] } }).setBit F.SEAM_STATUS_gates_open true).setFld F.RGN_RDT_CFG_count 16); let qp := (3 : Qpi); let q := ({ state := .rts, engine := some 0, pd := 5, pmtu := 1024, remote := some (1, 2), rate := 3999 } : Qp); (s.runs) ∧ (s.qpAt qp.val = some q) ∧ (q.engine ≠ none) ∧ (s.ports.tx.any (fun x => decide (x.qp = qp.val)) = true) ∧ (q.ccClass = 0) ∧ (s.delayUs qp.val q ≤ (s.fld (F.PORT_CC_CFG_target_us (portOf q.lport)) : Rat))) ∧
(let s : State := ((({ base .solo with mrtQ := 4000000, ports := { tx := [⟨0, 0, 3, 0, .cnp 1 2, false⟩] }, kept := { qps := [(3, ({ state := .rts, engine := some 0, pd := 5, pmtu := 1024, remote := some (1, 2), rate := 3999 } : Qp))] } }).setBit F.SEAM_STATUS_gates_open true).setFld F.RGN_RDT_CFG_count 16); let qp := (3 : Qpi); let q := ({ state := .rts, engine := some 0, pd := 5, pmtu := 1024, remote := some (1, 2), rate := 3999 } : Qp); (s.runs) ∧ (s.qpAt qp.val = some q) ∧ (q.engine ≠ none) ∧ (s.ports.tx.any (fun x => decide (x.qp = qp.val)) = true) ∧ (q.ccClass = 0) ∧ ((s.fld (F.PORT_CC_CFG_target_us (portOf q.lport)) : Rat) < s.delayUs qp.val q)) ∧
(let s : State := ((({ base .solo with mrtQ := 0, ports := { tx := [⟨0, 0, 3, 0, .cnp 1 2, false⟩] }, kept := { qps := [(3, ({ state := .rts, engine := some 0, pd := 5, pmtu := 1024, remote := some (1, 2), rate := 3999, ccClass := 1 } : Qp))] } }).setBit F.SEAM_STATUS_gates_open true).setFld F.RGN_RDT_CFG_count 16); let qp := (3 : Qpi); let q := ({ state := .rts, engine := some 0, pd := 5, pmtu := 1024, remote := some (1, 2), rate := 3999, ccClass := 1 } : Qp); (s.runs) ∧ (s.qpAt qp.val = some q) ∧ (q.engine ≠ none) ∧ (s.ports.tx.any (fun x => decide (x.qp = qp.val)) = true) ∧ (q.ccClass = 1) ∧ (s.fld (F.PORT_CC_ECN_recover_us (portOf q.lport)) * 10000 + (q.cnpSeen.getD 0) ≤ s.mrt ∨ q.cnpSeen = none)) ∧
(let s : State := ({ base .solo with mrtQ := 4000000, ports := { tx := [⟨0, 0, 3, 0, .cnp 1 2, false⟩] } }); let n := 3; let x := (⟨0, 0, 3, 0, .cnp 1 2, false⟩ : Tx); (s.ports.tx.find? (fun (y : Tx) => decide (y.qp = n)) = some x)) ∧
(let s : State := (({ base .solo with ports := { paused := [(63, 9)] } }).setFld (F.PORT_TP_CFG_pfc_en 7) 0x80); let port := (7 : Port); let prio := (7 : Fin 8); (s.runs) ∧ (port.val < s.part.ports) ∧ (s.pfcOn port.val prio.val = true) ∧ (s.prioCells port.val prio.val ≤ 1024)) ∧
(let s : State := (base .solo); let port := (7 : Port); let prio := (7 : Fin 8); (s.runs) ∧ (s.pfcOn port.val prio.val = false)) ∧
(let s : State := ({ base .solo with ports := { paused := [(63, 9), (62, 1)] } }); let port := (7 : Port); let prio := (7 : Fin 8); (s.runs) ∧ (s.prioCells port.val prio.val ≤ 1024)) ∧
(let s : State := ((({ base .solo with ports := { up := [0], tx := [⟨1, 0, 4, 0, .cnp 1 2, false⟩, ⟨0, 7, 3, 0, .cnp 1 2, false⟩] }, kept := { qps := [(3, ({ state := .rts, engine := some 0, pd := 5, pmtu := 1024, remote := some (1, 2) } : Qp))] } }).setBit F.SEAM_STATUS_gates_open true).setFld F.RGN_RDT_CFG_count 16); let lport := (0 : Lport); let x := (⟨0, 7, 3, 0, .cnp 1 2, false⟩ : Tx); let q := ({ state := .rts, engine := some 0, pd := 5, pmtu := 1024, remote := some (1, 2) } : Qp); (s.runs) ∧ (s.hostsServed = true) ∧ (s.mqpOut = []) ∧ (s.nextTx lport.val [] s.ports.tx = some x) ∧ (s.qpAt x.qp = some q) ∧ (s.inClear q.lport (q.ether x.wire) = true) ∧ (∀ psn d, x.wire = .readResp psn d → x.last = false) ∧ (q.nak = none) ∧ (q.giving = false)) := by
  refine ⟨?_, ?_, ?_, ?_, ?_, ?_, ?_, ?_, ?_, ?_⟩
  · intros; decide +kernel +zetaReduce
  · intros; decide +kernel +zetaReduce
  · intros; decide +kernel +zetaReduce
  · intros; decide +kernel +zetaReduce
  · intros; decide +kernel +zetaReduce
  · intros; decide +kernel +zetaReduce
  · intros; decide +kernel +zetaReduce
  · intros; decide +kernel +zetaReduce
  · intros; decide +kernel +zetaReduce
  · exact ⟨by decide +kernel, by decide +kernel, by decide +kernel, by decide +kernel, by decide +kernel, by decide +kernel, by rintro _ _ ⟨⟩, by decide +kernel, by decide +kernel⟩

theorem test_queue_pair_commands_met :
(let h := hdr; let qp := (3 : Qpi); let rc := true; let host := false; let cq := (some (⟨6, 0x7000, 0⟩ : CqDef)); let s : State := (go h (.createQp qp rc host cq) ((base .solo))); (s.starts h (.createQp qp rc host cq)) ∧ (s.restoring = false) ∧ (s.mirrored = false) ∧ (s.qpAt qp.val = none) ∧ (cq.all cqOk = true)) ∧
(let h := hdr; let qp := (3 : Qpi); let rc := true; let host := false; let cq := (none : Option CqDef); let s : State := (go h (.createQp qp rc host cq) (((({ base .solo with ports := { up := [0] }, kept := { qps := [(3, ({ state := .rts, engine := some 0, pd := 5, pmtu := 1024, remote := some (1, 2) } : Qp))] } }).setBit F.SEAM_STATUS_gates_open true).setFld F.RGN_RDT_CFG_count 16))); (s.starts h (.createQp qp rc host cq)) ∧ (s.qpAt qp.val ≠ none)) ∧
(let h := hdr; let qp := (3 : Qpi); let q := ({ state := .reset, engine := none, pd := 0, pmtu := 1024, remote := some (1, 2) } : Qp); let a := ({ ty := some true, pd := some 5, lport := some 0, rq := some none, dscp := some 63 } : QpAttrs); let s : State := (go h (.modifyQp qp .init a) (((({ base .solo with ports := { up := [0] }, kept := { qps := [(3, ({ state := .reset, engine := none, pd := 0, pmtu := 1024, remote := some (1, 2) } : Qp))], domains := [(5, ⟨4, 4, 9⟩)] } }).setBit F.SEAM_STATUS_gates_open true).setFld F.RGN_RDT_CFG_count 16))); (s.starts h (.modifyQp qp .init a)) ∧ (s.restoring = false) ∧ (s.mirrored = false) ∧ (s.qpAt qp.val = some q) ∧ (q.state = .reset) ∧ (s.modifyOk q .init a = true)) ∧
(let h := hdr; let qp := (3 : Qpi); let q := ({ state := .init, engine := none, pd := 5, pmtu := 1024, remote := some (1, 2) } : Qp); let a := ({ pmtu := some 1024, remote := some (1, 2), epsn := some 0xFFFFFF } : QpAttrs); let e := 0xFFFFFF; let s : State := (go h (.modifyQp qp .rtr a) (((({ base .solo with ports := { up := [0] }, kept := { qps := [(3, ({ state := .init, engine := none, pd := 5, pmtu := 1024, remote := some (1, 2) } : Qp))] } }).setBit F.SEAM_STATUS_gates_open true).setFld F.RGN_RDT_CFG_count 16))); (s.starts h (.modifyQp qp .rtr a)) ∧ (s.restoring = false) ∧ (s.mirrored = false) ∧ (s.qpAt qp.val = some q) ∧ (q.state = .init) ∧ (q.rc = true) ∧ (a.epsn = some e) ∧ (s.modifyOk q .rtr a = true) ∧ (s.hosts q = true)) ∧
(let h := hdr; let qp := (3 : Qpi); let q := ({ state := .rtr, engine := some 0, pd := 5, pmtu := 1024, remote := some (1, 2) } : Qp); let a := ({ spsn := some 4, retry := some 7, rnrRetry := some 7, relaxed := some 1 } : QpAttrs); let s : State := (go h (.modifyQp qp .rts a) (((({ base .solo with ports := { up := [0] }, kept := { qps := [(3, ({ state := .rtr, engine := some 0, pd := 5, pmtu := 1024, remote := some (1, 2) } : Qp))] } }).setBit F.SEAM_STATUS_gates_open true).setFld F.RGN_RDT_CFG_count 16))); (s.starts h (.modifyQp qp .rts a)) ∧ (s.restoring = false) ∧ (s.mirrored = false) ∧ (s.qpAt qp.val = some q) ∧ (q.state = .rtr) ∧ (s.modifyOk q .rts a = true)) ∧
(let h := hdr; let qp := (3 : Qpi); let q := ({ state := .rts, engine := some 0, pd := 5, pmtu := 1024, remote := some (1, 2) } : Qp); let a := ({} : QpAttrs); let s : State := (go h (.modifyQp qp .error a) (((({ base .solo with ports := { up := [0] }, kept := { qps := [(3, ({ state := .rts, engine := some 0, pd := 5, pmtu := 1024, remote := some (1, 2) } : Qp))] } }).setBit F.SEAM_STATUS_gates_open true).setFld F.RGN_RDT_CFG_count 16))); (s.starts h (.modifyQp qp .error a)) ∧ (s.restoring = false) ∧ (s.mirrored = false) ∧ (s.qpAt qp.val = some q) ∧ (q.state = .rtr ∨ q.state = .rts)) ∧
(let h := hdr; let qp := (3 : Qpi); let q := ({ state := .rts, engine := some 0, pd := 5, pmtu := 1024, remote := some (1, 2) } : Qp); let a := ({} : QpAttrs); let s : State := (go h (.modifyQp qp .reset a) (((({ base .solo with ports := { up := [0] }, kept := { qps := [(3, ({ state := .rts, engine := some 0, pd := 5, pmtu := 1024, remote := some (1, 2) } : Qp))] } }).setBit F.SEAM_STATUS_gates_open true).setFld F.RGN_RDT_CFG_count 16))); (s.starts h (.modifyQp qp .reset a)) ∧ (s.restoring = false) ∧ (s.mirrored = false) ∧ (s.qpAt qp.val = some q)) ∧
(let h := hdr; let qp := (3 : Qpi); let q := ({ state := .init, engine := some 0, pd := 5, pmtu := 1024, remote := some (1, 2) } : Qp); let dst := QpState.rts; let a := ({ spsn := some 4, retry := some 7, rnrRetry := some 7, relaxed := some 1 } : QpAttrs); let s : State := (go h (.modifyQp qp dst a) (((({ base .solo with ports := { up := [0] }, kept := { qps := [(3, ({ state := .init, engine := some 0, pd := 5, pmtu := 1024, remote := some (1, 2) } : Qp))] } }).setBit F.SEAM_STATUS_gates_open true).setFld F.RGN_RDT_CFG_count 16))); (s.starts h (.modifyQp qp dst a)) ∧ (s.qpAt qp.val = some q) ∧ (s.modifyOk q dst a = false)) ∧
(let s : State := ((({ base .solo with ports := { up := [0] }, kept := { qps := [(3, ({ state := .rts, engine := some 0, pd := 5, pmtu := 1024, remote := some (1, 2), reqs := [⟨4, 4, 0, 0, [1], [], .write 7 4 [] none, none⟩] } : Qp))] } }).setBit F.SEAM_STATUS_gates_open true).setFld F.RGN_RDT_CFG_count 16); let n := 3; let q := ({ state := .rts, engine := some 0, pd := 5, pmtu := 1024, remote := some (1, 2), reqs := [⟨4, 4, 0, 0, [1], [], .write 7 4 [] none, none⟩] } : Qp); (s.qpAt n = some q) ∧ (q.msgs = []) ∧ (q.cur = none) ∧ (q.past = []) ∧ (q.recvs = [])) ∧
(let h := hdr; let qp := (3 : Qpi); let q := ({ state := .error, engine := some 0, pd := 5, pmtu := 1024, remote := some (1, 2) } : Qp); let s : State := (go h (.destroyQp qp) (((({ base .solo with ports := { up := [0] }, kept := { qps := [(3, ({ state := .error, engine := some 0, pd := 5, pmtu := 1024, remote := some (1, 2) } : Qp))] } }).setBit F.SEAM_STATUS_gates_open true).setFld F.RGN_RDT_CFG_count 16))); (s.starts h (.destroyQp qp)) ∧ (s.restoring = false) ∧ (s.mirrored = false) ∧ (s.qpAt qp.val = some q) ∧ (q.state = .reset ∨ q.state = .error)) ∧
(let s : State := ({ base .solo with kept := { qps := [(3, ({ state := .error, engine := some 0, pd := 5, pmtu := 1024, remote := some (1, 2) } : Qp)), (4, ({ state := .rts, engine := none, pd := 5, pmtu := 1024, remote := some (1, 2) } : Qp))] } }); let n := 3; let k := 4; (alRises 0 s.kept.qps = true) ∧ (k ≠ n)) ∧
(let h := hdr; let qp := (3 : Qpi); let q := ({ state := .rts, engine := some 0, pd := 5, pmtu := 1024, remote := some (1, 2) } : Qp); let s : State := (go h (.destroyQp qp) (((({ base .solo with ports := { up := [0] }, kept := { qps := [(3, ({ state := .rts, engine := some 0, pd := 5, pmtu := 1024, remote := some (1, 2) } : Qp))] } }).setBit F.SEAM_STATUS_gates_open true).setFld F.RGN_RDT_CFG_count 16))); (s.starts h (.destroyQp qp)) ∧ (s.qpAt qp.val = some q) ∧ (q.state ≠ .reset) ∧ (q.state ≠ .error)) ∧
(let h := hdr; let qp := 3; let wr := (5 : BitVec 64); let key := (0x7000 : BitVec 32); let off := 64; let len := 32; let q := ({ state := .rts, engine := some 0, pd := 5, pmtu := 1024, remote := some (1, 2), recvs := [⟨1, 2, 3, 4⟩] } : Qp); let s : State := (go h (.postReceive false qp wr key off len) (((({ base .solo with ports := { up := [0] }, kept := { qps := [(3, ({ state := .rts, engine := some 0, pd := 5, pmtu := 1024, remote := some (1, 2), recvs := [⟨1, 2, 3, 4⟩] } : Qp))] } }).setBit F.SEAM_STATUS_gates_open true).setFld F.RGN_RDT_CFG_count 16))); (s.starts h (.postReceive false qp wr key off len)) ∧ (s.restoring = false) ∧ (s.mirrored = false) ∧ (s.qpAt qp = some q) ∧ (q.srq = none) ∧ (q.recvs.length + q.reserved.length < 4096) ∧ (s.poolUsed < 4194304)) ∧
(let h := hdr; let i := 4095; let wr := (5 : BitVec 64); let key := (0x7000 : BitVec 32); let off := 64; let len := 32; let x := ({ pd := 5, ring := { def_ := ⟨6, 0, 0⟩ } } : Srq); let s : State := (go h (.postReceive true i wr key off len) (({ base .solo with kept := { srqs := [(4095, { pd := 5, ring := { def_ := ⟨6, 0, 0⟩ } })] } }))); (s.starts h (.postReceive true i wr key off len)) ∧ (s.restoring = false) ∧ (s.mirrored = false) ∧ (alGet s.kept.srqs i = some x) ∧ (x.entries.length < 4096) ∧ (s.poolUsed < 4194304)) ∧
(let h := hdr; let i := 4095; let wr := (5 : BitVec 64); let key := (0x7000 : BitVec 32); let off := 64; let len := 32; let x := ({ pd := 5, ring := { def_ := ⟨6, 0, 0⟩ }, entries := List.replicate 4096 ⟨0, 0, 0, 0⟩ } : Srq); let s : State := (go h (.postReceive true i wr key off len) (({ base .solo with kept := { srqs := [(4095, { pd := 5, ring := { def_ := ⟨6, 0, 0⟩ }, entries := List.replicate 4096 ⟨0, 0, 0, 0⟩ })] } }))); (s.starts h (.postReceive true i wr key off len)) ∧ (alGet s.kept.srqs i = some x) ∧ (4096 ≤ x.entries.length ∨ 4194304 ≤ s.poolUsed)) ∧
(let h := hdr; let i := 4095; let pd := 5; let cq := (⟨6, 0x7000, 0⟩ : CqDef); let s : State := (go h (.createSrq i pd cq) (({ base .solo with kept := { domains := [(5, ⟨4, 4, 9⟩)] } }))); (s.starts h (.createSrq i pd cq)) ∧ (s.restoring = false) ∧ (s.mirrored = false) ∧ (i < 4096) ∧ (alGet s.kept.srqs i = none) ∧ (alGet s.kept.domains pd ≠ none) ∧ (6 ≤ cq.log2) ∧ (cq.log2 ≤ 16)) := by
  refine ⟨?_, ?_, ?_, ?_, ?_, ?_, ?_, ?_, ?_, ?_, ?_, ?_, ?_, ?_, ?_, ?_⟩
  · intros; decide +kernel +zetaReduce
  · intros; decide +kernel +zetaReduce
  · intros; decide +kernel +zetaReduce
  · intros; decide +kernel +zetaReduce
  · intros; decide +kernel +zetaReduce
  · intros; decide +kernel +zetaReduce
  · intros; decide +kernel +zetaReduce
  · intros; decide +kernel +zetaReduce
  · intros; decide +kernel +zetaReduce
  · intros; decide +kernel +zetaReduce
  · intros; decide +kernel +zetaReduce
  · intros; decide +kernel +zetaReduce
  · intros; decide +kernel +zetaReduce
  · intros; decide +kernel +zetaReduce
  · exact ⟨by decide +kernel, rfl, .inl (by rw [List.length_replicate])⟩
  · intros; decide +kernel +zetaReduce

theorem test_fence_and_return_met :
(let h := hdr; let e := (63 : Engine); let s : State := (go h (.fence e) ((base .solo))); (s.starts h (.fence e)) ∧ (e.val < s.part.engines)) ∧
(let s : State := (base .solo); (s.runs)) ∧
(let s : State := (base .solo); (s.runs)) ∧
(let s : State := ((({ base .solo with ports := { up := [0] }, kept := { qps := [(3, ({ state := .rts, engine := some 63, pd := 5, pmtu := 1024, remote := some (1, 2) } : Qp))] } }).setBit F.SEAM_STATUS_gates_open true).setFld F.RGN_RDT_CFG_count 16); let e := 63; let cause := 5; (e < s.part.engines) ∧ (s.fld (F.VE_STATUS_state e) = 0) ∧ (cause < 8) ∧ (alRises 0 s.kept.qps = true)) ∧
(let s : State := ((base .solo).setFld (F.VE_STATUS_state 7) 1); let e := 7; (s.fld (F.VE_STATUS_state e) = 1)) ∧
(let h := hdr; let e := (7 : Engine); let s : State := (go h (.test e) (((base .solo).setFld (F.VE_STATUS_state 7) 1))); (s.starts h (.test e)) ∧ (e.val < s.part.engines) ∧ (s.fld (F.VE_STATUS_state e.val) = 1)) ∧
(let h := hdr; let e := (7 : Engine); let s : State := (go h (.test e) ((base .solo))); (s.starts h (.test e)) ∧ (e.val < s.part.engines) ∧ (s.fld (F.VE_STATUS_state e.val) = 0 ∨ s.fld (F.VE_STATUS_state e.val) = 3)) ∧
(let h := hdr; let e := (7 : Engine); let s : State := (go h (.test e) (((base .solo).setFld (F.VE_STATUS_state 7) 2))); (s.starts h (.test e)) ∧ (e.val < s.part.engines) ∧ (s.fld (F.VE_STATUS_state e.val) = 2)) ∧
(let s : State := ((({ base .solo with tests := [(7, hdr)] }).setFld (F.VE_STATUS_state 7) 2)); let h := hdr; let e := (7 : Engine); (s.runs) ∧ (s.fld (F.VE_STATUS_state e.val) = 2) ∧ (alGet s.tests e.val = some h)) ∧
(let s : State := ((({ base .solo with tests := [(7, hdr)] }).setFld (F.VE_STATUS_state 7) 2)); let h := hdr; let e := (7 : Engine); (s.runs) ∧ (s.fld (F.VE_STATUS_state e.val) = 2) ∧ (alGet s.tests e.val = some h)) ∧
(let h := hdr; let e := (7 : Engine); let s : State := (go h (.rejoin e) (((base .solo).setFld (F.VE_STATUS_state 7) 3))); (s.starts h (.rejoin e)) ∧ (e.val < s.part.engines) ∧ (s.fld (F.VE_STATUS_state e.val) = 3)) ∧
(let h := hdr; let e := (7 : Engine); let s : State := (go h (.rejoin e) ((base .solo))); (s.starts h (.rejoin e)) ∧ (s.fld (F.VE_STATUS_state e.val) ≠ 3)) := by
  refine ⟨?_, ?_, ?_, ?_, ?_, ?_, ?_, ?_, ?_, ?_, ?_, ?_⟩ <;> (intros; decide +kernel +zetaReduce)

theorem test_channel_commands_met :
(let h := hdr; let a := ({ number := 2, pd := 5, local_ := false, quorum := 1, retention := some 65536, maxMsg := 512, relKey := 0x7000, relOffset := 0, snapshot := none, hintOn := true, hintGroup := 0xE0000009, hintQKey := 0, hintQp := 6, logTile := 1 } : ChanArgs); let s : State := (go h (.channelCreate a) (((((({ base .solo with pops := [(0, ⟨1, 1, 1, 70000⟩)], ports := { up := [0] }, kept := { domains := [(5, ⟨4, 4, 9⟩)], qps := [(3, ({ state := .rts, engine := some 0, pd := 5, pmtu := 1024, remote := some (1, 2) } : Qp))], chans := [], subs := [], rdt := [(7, { state := .valid, pd := 5, length := 65536 })] } }).setBit F.SEAM_STATUS_gates_open true).setFld F.RGN_RANGE_TOP_top_tiles 16).setFld F.TLR_HOMECAP_cap_tiles 100).setFld F.TLR_WM_CFG_wm_hi 90))); (s.starts h (.channelCreate a)) ∧ (s.restoring = false) ∧ (s.mirrored = false) ∧ (chanInRange a = true) ∧ (alGet s.kept.domains a.pd ≠ none) ∧ (s.keyOfDomain a.pd a.relKey = true) ∧ (a.snapshot.all (s.keyOfDomain a.pd) = true) ∧ (s.chan a.number = none) ∧ (s.logClash a = false) ∧ (s.blocksFor a = true) ∧ (a.logTile + chanTiles a ≤ s.fld F.RGN_RANGE_TOP_top_tiles) ∧ ((s.homed + ((List.range (chanTiles a)).filter (fun i => !(s.tile (a.logTile + i)).inDram)).length) * 100 ≤ s.fld F.TLR_WM_CFG_wm_hi * s.cap)) ∧
(let h := hdr; let a := ({ number := 2, pd := 5, local_ := false, quorum := 1, retention := some 65536, maxMsg := 512, relKey := 0x7000, relOffset := 0, snapshot := none, hintOn := true, hintGroup := 0xE0000009, hintQKey := 0, hintQp := 6, logTile := 1 } : ChanArgs); let s : State := (go h (.channelCreate a) (((({ base .solo with ports := { up := [0] }, kept := { domains := [(5, ⟨4, 4, 9⟩)], qps := [(3, ({ state := .rts, engine := some 0, pd := 5, pmtu := 1024, remote := some (1, 2) } : Qp))], chans := [], subs := [], rdt := [(7, { state := .valid, pd := 5, length := 65536 })] } }).setBit F.SEAM_STATUS_gates_open true).setFld F.RGN_RANGE_TOP_top_tiles 16).setFld F.RGN_RANGE_TOP_top_tiles 1)); (s.starts h (.channelCreate a)) ∧ (s.restoring = false) ∧ (s.mirrored = false) ∧ (chanInRange a = true) ∧ (alGet s.kept.domains a.pd ≠ none) ∧ (s.keyOfDomain a.pd a.relKey = true) ∧ (a.snapshot.all (s.keyOfDomain a.pd) = true) ∧ (s.chan a.number = none) ∧ (s.logClash a = false) ∧ (s.fld F.RGN_RANGE_TOP_top_tiles < a.logTile + chanTiles a)) ∧
(let h := hdr; let c := 2; let ch := ({ args := ({ number := 2, pd := 5, local_ := false, quorum := 1, retention := some 65536, maxMsg := 512, relKey := 0x7000, relOffset := 0, snapshot := none, hintOn := true, hintGroup := 0xE0000009, hintQKey := 0, hintQp := 6, logTile := 1 } : ChanArgs) } : Chan); let s : State := (go h (.channelClose c) (((({ base .solo with ports := { up := [0] }, kept := { domains := [(5, ⟨4, 4, 9⟩)], qps := [(3, ({ state := .rts, engine := some 0, pd := 5, pmtu := 1024, remote := some (1, 2) } : Qp))], chans := [(2, ({ args := ({ number := 2, pd := 5, local_ := false, quorum := 1, retention := some 65536, maxMsg := 512, relKey := 0x7000, relOffset := 0, snapshot := none, hintOn := true, hintGroup := 0xE0000009, hintQKey := 0, hintQp := 6, logTile := 1 } : ChanArgs) } : Chan))], subs := [(2049, ({ state := .live, qp := 3, addr := 0x10000, key := 0x7000, size := 131072, seal_ := false, sent := 1, released := 0 } : Sub))], rdt := [(7, { state := .valid, pd := 5, length := 65536 })] } }).setBit F.SEAM_STATUS_gates_open true).setFld F.RGN_RANGE_TOP_top_tiles 16))); (s.starts h (.channelClose c)) ∧ (s.restoring = false) ∧ (s.mirrored = false) ∧ (s.chan c = some ch) ∧ (ch.pubs = [])) ∧
(let s : State := ((({ base .solo with ports := { up := [0] }, kept := { domains := [(5, ⟨4, 4, 9⟩)], qps := [(3, ({ state := .rts, engine := some 0, pd := 5, pmtu := 1024, remote := some (1, 2) } : Qp))], chans := [(2, ({ args := ({ number := 2, pd := 5, local_ := false, quorum := 1, retention := some 65536, maxMsg := 512, relKey := 0x7000, relOffset := 0, snapshot := none, hintOn := true, hintGroup := 0xE0000009, hintQKey := 0, hintQp := 6, logTile := 1 } : ChanArgs) } : Chan))], subs := [(2049, ({ state := .live, qp := 3, addr := 0x10000, key := 0x7000, size := 131072, seal_ := false, sent := 1, released := 0 } : Sub))], tiles := [(1, { home := .dram })] } }).setBit F.SEAM_STATUS_gates_open true).setFld F.RGN_RANGE_TOP_top_tiles 16); let c := 2; let ch := ({ args := ({ number := 2, pd := 5, local_ := false, quorum := 1, retention := some 65536, maxMsg := 512, relKey := 0x7000, relOffset := 0, snapshot := none, hintOn := true, hintGroup := 0xE0000009, hintQKey := 0, hintQp := 6, logTile := 1 } : ChanArgs) } : Chan); (s.chan c = some ch)) ∧
(let h := hdr; let c := 2; let ch := ({ args := ({ number := 2, pd := 5, local_ := false, quorum := 1, retention := some 65536, maxMsg := 512, relKey := 0x7000, relOffset := 0, snapshot := none, hintOn := true, hintGroup := 0xE0000009, hintQKey := 0, hintQp := 6, logTile := 1 } : ChanArgs), pubs := [(0, 3)] } : Chan); let s : State := (go h (.channelClose c) (((({ base .solo with ports := { up := [0] }, kept := { domains := [(5, ⟨4, 4, 9⟩)], qps := [(3, ({ state := .rts, engine := some 0, pd := 5, pmtu := 1024, remote := some (1, 2) } : Qp))], chans := [(2, ({ args := ({ number := 2, pd := 5, local_ := false, quorum := 1, retention := some 65536, maxMsg := 512, relKey := 0x7000, relOffset := 0, snapshot := none, hintOn := true, hintGroup := 0xE0000009, hintQKey := 0, hintQp := 6, logTile := 1 } : ChanArgs), pubs := [(0, 3)] } : Chan))], subs := [], rdt := [(7, { state := .valid, pd := 5, length := 65536 })] } }).setBit F.SEAM_STATUS_gates_open true).setFld F.RGN_RANGE_TOP_top_tiles 16))); (s.starts h (.channelClose c)) ∧ (s.chan c = some ch) ∧ (ch.pubs ≠ [])) ∧
(let h := hdr; let c := 2; let qp := (3 : Qpi); let ch := ({ args := ({ number := 2, pd := 5, local_ := false, quorum := 1, retention := some 65536, maxMsg := 512, relKey := 0x7000, relOffset := 0, snapshot := none, hintOn := true, hintGroup := 0xE0000009, hintQKey := 0, hintQp := 6, logTile := 1 } : ChanArgs), pubs := [(0, 4), (2, 6)] } : Chan); let q := ({ state := .rts, engine := some 0, pd := 5, pmtu := 1024, remote := some (1, 2) } : Qp); let i := 1; let s : State := (go h (.attachPublisher c qp) (((({ base .solo with ports := { up := [0] }, kept := { domains := [(5, ⟨4, 4, 9⟩)], qps := [(3, ({ state := .rts, engine := some 0, pd := 5, pmtu := 1024, remote := some (1, 2) } : Qp))], chans := [(2, ({ args := ({ number := 2, pd := 5, local_ := false, quorum := 1, retention := some 65536, maxMsg := 512, relKey := 0x7000, relOffset := 0, snapshot := none, hintOn := true, hintGroup := 0xE0000009, hintQKey := 0, hintQp := 6, logTile := 1 } : ChanArgs), pubs := [(0, 4), (2, 6)] } : Chan))], subs := [], rdt := [(7, { state := .valid, pd := 5, length := 65536 })] } }).setBit F.SEAM_STATUS_gates_open true).setFld F.RGN_RANGE_TOP_top_tiles 16))); (s.starts h (.attachPublisher c qp)) ∧ (s.restoring = false) ∧ (s.mirrored = false) ∧ (s.chan c = some ch) ∧ (s.qpAt qp.val = some q) ∧ (q.rc = true) ∧ (q.pd = ch.args.pd) ∧ (q.state ≠ .reset) ∧ (s.publisher qp.val = none) ∧ (i < 64) ∧ (alGet ch.pubs i = none) ∧ (∀ j, j < i → alGet ch.pubs j ≠ none)) ∧
(let h := hdr; let c := 2; let qp := (3 : Qpi); let ch := ({ args := ({ number := 2, pd := 5, local_ := false, quorum := 1, retention := some 65536, maxMsg := 512, relKey := 0x7000, relOffset := 0, snapshot := none, hintOn := true, hintGroup := 0xE0000009, hintQKey := 0, hintQp := 6, logTile := 1 } : ChanArgs), pubs := [(0, 4), (2, 3)] } : Chan); let s : State := (go h (.detachPublisher c qp) (((({ base .solo with ports := { up := [0] }, kept := { domains := [(5, ⟨4, 4, 9⟩)], qps := [(3, ({ state := .rts, engine := some 0, pd := 5, pmtu := 1024, remote := some (1, 2) } : Qp))], chans := [(2, ({ args := ({ number := 2, pd := 5, local_ := false, quorum := 1, retention := some 65536, maxMsg := 512, relKey := 0x7000, relOffset := 0, snapshot := none, hintOn := true, hintGroup := 0xE0000009, hintQKey := 0, hintQp := 6, logTile := 1 } : ChanArgs), pubs := [(0, 4), (2, 3)] } : Chan))], subs := [], rdt := [(7, { state := .valid, pd := 5, length := 65536 })] } }).setBit F.SEAM_STATUS_gates_open true).setFld F.RGN_RANGE_TOP_top_tiles 16))); (s.starts h (.detachPublisher c qp)) ∧ (s.restoring = false) ∧ (s.mirrored = false) ∧ (s.chan c = some ch) ∧ (ch.pubs.any (fun e => decide (e.2 = qp.val)) = true)) ∧
(let h := hdr; let a := ({ chan := 2, sub := 1023, qp := 3, ringAddr := 0x10000, ringKey := 0x7000, ringSize := 131072, sealMode := some true, start := 1 } : SubArgs); let ch := ({ args := ({ number := 2, pd := 5, local_ := false, quorum := 1, retention := some 65536, maxMsg := 512, relKey := 0x7000, relOffset := 0, snapshot := none, hintOn := true, hintGroup := 0xE0000009, hintQKey := 0, hintQp := 6, logTile := 1 } : ChanArgs) } : Chan); let s : State := (go h (.attachSubscriber a) (((({ base .solo with ports := { up := [0] }, kept := { domains := [(5, ⟨4, 4, 9⟩)], qps := [(3, ({ state := .rts, engine := some 0, pd := 5, pmtu := 1024, remote := some (1, 2) } : Qp))], chans := [(2, ({ args := ({ number := 2, pd := 5, local_ := false, quorum := 1, retention := some 65536, maxMsg := 512, relKey := 0x7000, relOffset := 0, snapshot := none, hintOn := true, hintGroup := 0xE0000009, hintQKey := 0, hintQp := 6, logTile := 1 } : ChanArgs) } : Chan))], subs := [], rdt := [(7, { state := .valid, pd := 5, length := 65536 })] } }).setBit F.SEAM_STATUS_gates_open true).setFld F.RGN_RANGE_TOP_top_tiles 16))); (s.starts h (.attachSubscriber a)) ∧ (s.restoring = false) ∧ (s.mirrored = false) ∧ (s.chan a.chan = some ch) ∧ (a.sub < 1024) ∧ (s.subQp ch a.qp.val = true) ∧ (ringOk a.ringAddr a.ringSize = true) ∧ (s.sub a.chan a.sub = none) ∧ (ch.oldest ≤ a.start) ∧ (a.start ≤ ch.next)) ∧
(let h := hdr; let c := 2; let b := 1; let qp := (3 : Qpi); let ch := ({ args := ({ number := 2, pd := 5, local_ := false, quorum := 1, retention := some 65536, maxMsg := 512, relKey := 0x7000, relOffset := 0, snapshot := none, hintOn := true, hintGroup := 0xE0000009, hintQKey := 0, hintQp := 6, logTile := 1 } : ChanArgs) } : Chan); let x := ({ state := .stopped, qp := 3, addr := 0x10000, key := 0x7000, size := 131072, seal_ := false, sent := 9, released := 4 } : Sub); let s : State := (go h (.resume c b qp) (((({ base .solo with ports := { up := [0] }, kept := { domains := [(5, ⟨4, 4, 9⟩)], qps := [(3, ({ state := .rts, engine := some 0, pd := 5, pmtu := 1024, remote := some (1, 2) } : Qp))], chans := [(2, ({ args := ({ number := 2, pd := 5, local_ := false, quorum := 1, retention := some 65536, maxMsg := 512, relKey := 0x7000, relOffset := 0, snapshot := none, hintOn := true, hintGroup := 0xE0000009, hintQKey := 0, hintQp := 6, logTile := 1 } : ChanArgs) } : Chan))], subs := [(2049, ({ state := .stopped, qp := 3, addr := 0x10000, key := 0x7000, size := 131072, seal_ := false, sent := 9, released := 4 } : Sub))], rdt := [(7, { state := .valid, pd := 5, length := 65536 })] } }).setBit F.SEAM_STATUS_gates_open true).setFld F.RGN_RANGE_TOP_top_tiles 16))); (s.starts h (.resume c b qp)) ∧ (s.restoring = false) ∧ (s.mirrored = false) ∧ (s.chan c = some ch) ∧ (s.sub c b = some x) ∧ (x.state = .stopped) ∧ (s.subQp ch qp.val = true)) ∧
(let h := hdr; let c := 2; let b := 1; let qp := (3 : Qpi); let ch := ({ args := ({ number := 2, pd := 5, local_ := false, quorum := 1, retention := some 65536, maxMsg := 512, relKey := 0x7000, relOffset := 0, snapshot := none, hintOn := true, hintGroup := 0xE0000009, hintQKey := 0, hintQp := 6, logTile := 1 } : ChanArgs) } : Chan); let x := ({ state := .detached, qp := 3, addr := 0x10000, key := 0x7000, size := 131072, seal_ := false, sent := 1, released := 0, gapDue := true, missing := 4, waits := true } : Sub); let s : State := (go h (.resume c b qp) (((({ base .solo with ports := { up := [0] }, kept := { domains := [(5, ⟨4, 4, 9⟩)], qps := [(3, ({ state := .rts, engine := some 0, pd := 5, pmtu := 1024, remote := some (1, 2) } : Qp))], chans := [(2, ({ args := ({ number := 2, pd := 5, local_ := false, quorum := 1, retention := some 65536, maxMsg := 512, relKey := 0x7000, relOffset := 0, snapshot := none, hintOn := true, hintGroup := 0xE0000009, hintQKey := 0, hintQp := 6, logTile := 1 } : ChanArgs) } : Chan))], subs := [(2049, ({ state := .detached, qp := 3, addr := 0x10000, key := 0x7000, size := 131072, seal_ := false, sent := 1, released := 0, gapDue := true, missing := 4, waits := true } : Sub))], rdt := [(7, { state := .valid, pd := 5, length := 65536 })] } }).setBit F.SEAM_STATUS_gates_open true).setFld F.RGN_RANGE_TOP_top_tiles 16))); (s.starts h (.resume c b qp)) ∧ (s.restoring = false) ∧ (s.mirrored = false) ∧ (s.chan c = some ch) ∧ (s.sub c b = some x) ∧ (x.state = .detached) ∧ (x.gapDue = true) ∧ (s.subQp ch qp.val = true)) ∧
(let h := hdr; let c := 2; let b := 1; let ch := ({ args := ({ number := 2, pd := 5, local_ := false, quorum := 1, retention := some 65536, maxMsg := 512, relKey := 0x7000, relOffset := 0, snapshot := none, hintOn := true, hintGroup := 0xE0000009, hintQKey := 0, hintQp := 6, logTile := 1 } : ChanArgs) } : Chan); let s : State := (go h (.remove c b) (((({ base .solo with ports := { up := [0] }, kept := { domains := [(5, ⟨4, 4, 9⟩)], qps := [(3, ({ state := .rts, engine := some 0, pd := 5, pmtu := 1024, remote := some (1, 2) } : Qp))], chans := [(2, ({ args := ({ number := 2, pd := 5, local_ := false, quorum := 1, retention := some 65536, maxMsg := 512, relKey := 0x7000, relOffset := 0, snapshot := none, hintOn := true, hintGroup := 0xE0000009, hintQKey := 0, hintQp := 6, logTile := 1 } : ChanArgs) } : Chan))], subs := [(2049, ({ state := .live, qp := 3, addr := 0x10000, key := 0x7000, size := 131072, seal_ := false, sent := 1, released := 0 } : Sub))], rdt := [(7, { state := .valid, pd := 5, length := 65536 })] } }).setBit F.SEAM_STATUS_gates_open true).setFld F.RGN_RANGE_TOP_top_tiles 16))); (s.starts h (.remove c b)) ∧ (s.restoring = false) ∧ (s.mirrored = false) ∧ (s.chan c = some ch) ∧ (b < 1024)) ∧
(let s : State := ((({ base .solo with ports := { up := [0] }, kept := { domains := [(5, ⟨4, 4, 9⟩)], qps := [(3, ({ state := .rts, engine := some 0, pd := 5, pmtu := 1024, remote := some (1, 2) } : Qp))], chans := [(2, ({ args := ({ number := 2, pd := 5, local_ := false, quorum := 1, retention := some 65536, maxMsg := 512, relKey := 0x7000, relOffset := 0, snapshot := none, hintOn := true, hintGroup := 0xE0000009, hintQKey := 0, hintQp := 6, logTile := 1 } : ChanArgs), log := [{ ({ seq := 1, stamp := 77, pub := 0, payload := [1, 2], atPoint := true, held := [] } : LogEntry) with held := [1] }] } : Chan))], subs := [(2049, ({ state := .live, qp := 3, addr := 0x10000, key := 0x7000, size := 131072, seal_ := false, sent := 1, released := 0 } : Sub))], rdt := [(7, { state := .valid, pd := 5, length := 65536 })] } }).setBit F.SEAM_STATUS_gates_open true).setFld F.RGN_RANGE_TOP_top_tiles 16); let c := 2; let ch := ({ args := ({ number := 2, pd := 5, local_ := false, quorum := 1, retention := some 65536, maxMsg := 512, relKey := 0x7000, relOffset := 0, snapshot := none, hintOn := true, hintGroup := 0xE0000009, hintQKey := 0, hintQp := 6, logTile := 1 } : ChanArgs), log := [{ ({ seq := 1, stamp := 77, pub := 0, payload := [1, 2], atPoint := true, held := [] } : LogEntry) with held := [1] }] } : Chan); (s.chan c = some ch) ∧ (∀ p ∈ ch.pubs, s.qpAt p.2 = none)) := by
  refine ⟨?_, ?_, ?_, ?_, ?_, ?_, ?_, ?_, ?_, ?_, ?_, ?_⟩ <;> (intros; decide +kernel +zetaReduce)

theorem test_publish_delivery_met :
(let s : State := ((({ base .solo with ports := { up := [0] }, kept := { domains := [(5, ⟨4, 4, 9⟩)], qps := [(3, ({ state := .rts, engine := some 0, pd := 5, pmtu := 1024, remote := some (1, 2) } : Qp))], chans := [(2, ({ args := ({ number := 2, pd := 5, local_ := false, quorum := 1, retention := some 65536, maxMsg := 512, relKey := 0x7000, relOffset := 0, snapshot := none, hintOn := true, hintGroup := 0xE0000009, hintQKey := 0, hintQp := 6, logTile := 1 } : ChanArgs), log := [({ seq := 1, stamp := 77, pub := 0, payload := [1, 2], atPoint := true, held := [] } : LogEntry)] } : Chan))], subs := [(2049, ({ state := .live, qp := 3, addr := 0x10000, key := 0x7000, size := 131072, seal_ := false, sent := 1, released := 0 } : Sub))], rdt := [(7, { state := .valid, pd := 5, length := 65536 })] } }).setBit F.SEAM_STATUS_gates_open true).setFld F.RGN_RANGE_TOP_top_tiles 16); let c := 2; let b := 1; let ch := ({ args := ({ number := 2, pd := 5, local_ := false, quorum := 1, retention := some 65536, maxMsg := 512, relKey := 0x7000, relOffset := 0, snapshot := none, hintOn := true, hintGroup := 0xE0000009, hintQKey := 0, hintQp := 6, logTile := 1 } : ChanArgs), log := [({ seq := 1, stamp := 77, pub := 0, payload := [1, 2], atPoint := true, held := [] } : LogEntry)] } : Chan); let x := ({ state := .live, qp := 3, addr := 0x10000, key := 0x7000, size := 131072, seal_ := false, sent := 1, released := 0 } : Sub); let q := ({ state := .rts, engine := some 0, pd := 5, pmtu := 1024, remote := some (1, 2) } : Qp); let e := ({ seq := 1, stamp := 77, pub := 0, payload := [1, 2], atPoint := true, held := [] } : LogEntry); (s.runs) ∧ (s.delivers = true) ∧ (s.mirrored = false) ∧ (s.chan c = some ch) ∧ (s.sub c b = some x) ∧ (s.qpAt x.qp = some q) ∧ (q.state = .rts) ∧ (q.engine ≠ none) ∧ (q.rc = true) ∧ (x.state = .live) ∧ (x.seal_ = false) ∧ (x.nextEntry ch = some e) ∧ (x.padFor (entryUnits e.payload.length * 64) = 0)) ∧
(let s : State := ((({ base .solo with ports := { up := [0] }, kept := { domains := [(5, ⟨4, 4, 9⟩)], qps := [(3, ({ state := .rts, engine := some 0, pd := 5, pmtu := 1024, remote := some (1, 2) } : Qp))], chans := [(2, ({ args := ({ number := 2, pd := 5, local_ := false, quorum := 1, retention := some 65536, maxMsg := 512, relKey := 0x7000, relOffset := 0, snapshot := none, hintOn := true, hintGroup := 0xE0000009, hintQKey := 0, hintQp := 6, logTile := 1 } : ChanArgs), log := [({ seq := 1, stamp := 77, pub := 0, payload := [1, 2], atPoint := true, held := [] } : LogEntry)] } : Chan))], subs := [(2049, ({ state := .live, qp := 3, addr := 0x10000, key := 0x7000, size := 131072, seal_ := false, sent := 1, released := 0, nextOff := 131072 } : Sub))], rdt := [(7, { state := .valid, pd := 5, length := 65536 })] } }).setBit F.SEAM_STATUS_gates_open true).setFld F.RGN_RANGE_TOP_top_tiles 16); let c := 2; let b := 1; let ch := ({ args := ({ number := 2, pd := 5, local_ := false, quorum := 1, retention := some 65536, maxMsg := 512, relKey := 0x7000, relOffset := 0, snapshot := none, hintOn := true, hintGroup := 0xE0000009, hintQKey := 0, hintQp := 6, logTile := 1 } : ChanArgs), log := [({ seq := 1, stamp := 77, pub := 0, payload := [1, 2], atPoint := true, held := [] } : LogEntry)] } : Chan); let x := ({ state := .live, qp := 3, addr := 0x10000, key := 0x7000, size := 131072, seal_ := false, sent := 1, released := 0, nextOff := 131072 } : Sub); (s.runs) ∧ (s.chan c = some ch) ∧ (s.sub c b = some x) ∧ (s.mirrored = false) ∧ (x.state ≠ .live ∨ x.nextEntry ch = none ∨ s.canSend x.qp = false ∨ s.delivers = false)) ∧
(let s : State := ((({ base .solo with ports := { up := [0] }, kept := { domains := [(5, ⟨4, 4, 9⟩)], qps := [(3, ({ state := .rts, engine := some 0, pd := 5, pmtu := 1024, remote := some (1, 2) } : Qp))], chans := [(2, ({ args := ({ number := 2, pd := 5, local_ := false, quorum := 1, retention := some 65536, maxMsg := 512, relKey := 0x7000, relOffset := 0, snapshot := none, hintOn := true, hintGroup := 0xE0000009, hintQKey := 0, hintQp := 6, logTile := 1 } : ChanArgs), log := [({ seq := 1, stamp := 77, pub := 0, payload := [1, 2], atPoint := true, held := [] } : LogEntry)] } : Chan))], subs := [(2049, ({ state := .live, qp := 3, addr := 0x10000, key := 0x7000, size := 131072, seal_ := true, sent := 1, released := 0 } : Sub))], rdt := [(7, { state := .valid, pd := 5, length := 65536 })] } }).setBit F.SEAM_STATUS_gates_open true).setFld F.RGN_RANGE_TOP_top_tiles 16); let c := 2; let b := 1; let ch := ({ args := ({ number := 2, pd := 5, local_ := false, quorum := 1, retention := some 65536, maxMsg := 512, relKey := 0x7000, relOffset := 0, snapshot := none, hintOn := true, hintGroup := 0xE0000009, hintQKey := 0, hintQp := 6, logTile := 1 } : ChanArgs), log := [({ seq := 1, stamp := 77, pub := 0, payload := [1, 2], atPoint := true, held := [] } : LogEntry)] } : Chan); let x := ({ state := .live, qp := 3, addr := 0x10000, key := 0x7000, size := 131072, seal_ := true, sent := 1, released := 0 } : Sub); let g := (Sub.gather ({ args := ({ number := 2, pd := 5, local_ := false, quorum := 1, retention := some 65536, maxMsg := 512, relKey := 0x7000, relOffset := 0, snapshot := none, hintOn := true, hintGroup := 0xE0000009, hintQKey := 0, hintQp := 6, logTile := 1 } : ChanArgs), log := [({ seq := 1, stamp := 77, pub := 0, payload := [1, 2], atPoint := true, held := [] } : LogEntry)] } : Chan) 0 16 16 ({ state := .live, qp := 3, addr := 0x10000, key := 0x7000, size := 131072, seal_ := true, sent := 1, released := 0 } : Sub)); let y := g.1; let ps := g.2.1; let ss := g.2.2.1; let qs := g.2.2.2; (s.runs) ∧ (s.delivers = true) ∧ (s.mirrored = false) ∧ (s.chan c = some ch) ∧ (s.sub c b = some x) ∧ (x.state = .live) ∧ (s.canSend x.qp = true) ∧ (x.seal_ = true) ∧ (Sub.gather ch s.commit 16 16 x = (y, ps, ss, qs)) ∧ (qs ≠ [])) ∧
(let s : State := ((({ base .solo with ports := { up := [0] }, kept := { domains := [(5, ⟨4, 4, 9⟩)], qps := [(3, ({ state := .rts, engine := some 0, pd := 5, pmtu := 1024, remote := some (1, 2), reqs := [⟨0, 0, 2, 1, [1], [], .cnp 1 2, some 0⟩] } : Qp))], chans := [(2, ({ args := ({ number := 2, pd := 5, local_ := false, quorum := 1, retention := some 65536, maxMsg := 512, relKey := 0x7000, relOffset := 0, snapshot := none, hintOn := true, hintGroup := 0xE0000009, hintQKey := 0, hintQp := 6, logTile := 1 } : ChanArgs), log := [({ seq := 1, stamp := 77, pub := 0, payload := [1, 2], atPoint := true, held := [] } : LogEntry)] } : Chan))], subs := [(2049, ({ state := .live, qp := 3, addr := 0x10000, key := 0x7000, size := 131072, seal_ := false, sent := 2, released := 0 } : Sub))], rdt := [(7, { state := .valid, pd := 5, length := 65536 })] } }).setBit F.SEAM_STATUS_gates_open true).setFld F.RGN_RANGE_TOP_top_tiles 16); let c := 2; let b := 1; let ch := ({ args := ({ number := 2, pd := 5, local_ := false, quorum := 1, retention := some 65536, maxMsg := 512, relKey := 0x7000, relOffset := 0, snapshot := none, hintOn := true, hintGroup := 0xE0000009, hintQKey := 0, hintQp := 6, logTile := 1 } : ChanArgs), log := [({ seq := 1, stamp := 77, pub := 0, payload := [1, 2], atPoint := true, held := [] } : LogEntry)] } : Chan); let x := ({ state := .live, qp := 3, addr := 0x10000, key := 0x7000, size := 131072, seal_ := false, sent := 2, released := 0 } : Sub); let q := ({ state := .rts, engine := some 0, pd := 5, pmtu := 1024, remote := some (1, 2), reqs := [⟨0, 0, 2, 1, [1], [], .cnp 1 2, some 0⟩] } : Qp); let r := (⟨0, 0, 2, 1, [1], [], .cnp 1 2, some 0⟩ : Req); (s.runs) ∧ (s.mirrored = false) ∧ (s.chan c = some ch) ∧ (ch.pubs = []) ∧ (s.sub c b = some x) ∧ (s.qpAt x.qp = some q) ∧ (q.reqs = [r]) ∧ (r.chan = c) ∧ (r.sub = b) ∧ (r.seqs ≠ []) ∧ (r.seals = [])) ∧
(let s : State := ((({ base .solo with ports := { up := [0] }, kept := { domains := [(5, ⟨4, 4, 9⟩)], qps := [(3, ({ state := .rts, engine := some 0, pd := 5, pmtu := 1024, remote := some (1, 2), reqs := [⟨0, 0, 2, 1, [1], [(1, 64)], .cnp 1 2, some 0⟩] } : Qp))], chans := [(2, ({ args := ({ number := 2, pd := 5, local_ := false, quorum := 1, retention := some 65536, maxMsg := 512, relKey := 0x7000, relOffset := 0, snapshot := none, hintOn := true, hintGroup := 0xE0000009, hintQKey := 0, hintQp := 6, logTile := 1 } : ChanArgs), log := [({ seq := 1, stamp := 77, pub := 0, payload := [1, 2], atPoint := true, held := [] } : LogEntry)] } : Chan))], subs := [(2049, ({ state := .live, qp := 3, addr := 0x10000, key := 0x7000, size := 131072, seal_ := false, sent := 2, released := 0 } : Sub))], rdt := [(7, { state := .valid, pd := 5, length := 65536 })] } }).setBit F.SEAM_STATUS_gates_open true).setFld F.RGN_RANGE_TOP_top_tiles 16); let c := 2; let b := 1; let ch := ({ args := ({ number := 2, pd := 5, local_ := false, quorum := 1, retention := some 65536, maxMsg := 512, relKey := 0x7000, relOffset := 0, snapshot := none, hintOn := true, hintGroup := 0xE0000009, hintQKey := 0, hintQp := 6, logTile := 1 } : ChanArgs), log := [({ seq := 1, stamp := 77, pub := 0, payload := [1, 2], atPoint := true, held := [] } : LogEntry)] } : Chan); let x := ({ state := .live, qp := 3, addr := 0x10000, key := 0x7000, size := 131072, seal_ := false, sent := 2, released := 0 } : Sub); let q := ({ state := .rts, engine := some 0, pd := 5, pmtu := 1024, remote := some (1, 2), reqs := [⟨0, 0, 2, 1, [1], [(1, 64)], .cnp 1 2, some 0⟩] } : Qp); let r := (⟨0, 0, 2, 1, [1], [(1, 64)], .cnp 1 2, some 0⟩ : Req); let off := 64; (s.runs) ∧ (s.mirrored = false) ∧ (s.chan c = some ch) ∧ (ch.pubs = []) ∧ (s.sub c b = some x) ∧ (s.qpAt x.qp = some q) ∧ (q.reqs = [r]) ∧ (r.chan = c) ∧ (r.sub = b) ∧ (r.seqs ≠ []) ∧ (r.seals = [(r.seqs.getD 0 0, off)])) ∧
(let s : State := ((({ base .solo with ports := { up := [0] }, kept := { domains := [(5, ⟨4, 4, 9⟩)], qps := [(3, ({ state := .rts, engine := some 0, pd := 5, pmtu := 1024, remote := some (1, 2) } : Qp))], chans := [(2, ({ args := ({ number := 2, pd := 5, local_ := false, quorum := 1, retention := some 65536, maxMsg := 512, relKey := 0x7000, relOffset := 0, snapshot := none, hintOn := true, hintGroup := 0xE0000009, hintQKey := 0, hintQp := 6, logTile := 1 } : ChanArgs), next := 9 } : Chan))], subs := [(2049, ({ state := .detached, qp := 3, addr := 0x10000, key := 0x7000, size := 131072, seal_ := false, sent := 1, released := 0, gapDue := true, missing := 4 } : Sub))], rdt := [(7, { state := .valid, pd := 5, length := 65536 })] } }).setBit F.SEAM_STATUS_gates_open true).setFld F.RGN_RANGE_TOP_top_tiles 16); let c := 2; let b := 1; let ch := ({ args := ({ number := 2, pd := 5, local_ := false, quorum := 1, retention := some 65536, maxMsg := 512, relKey := 0x7000, relOffset := 0, snapshot := none, hintOn := true, hintGroup := 0xE0000009, hintQKey := 0, hintQp := 6, logTile := 1 } : ChanArgs), next := 9 } : Chan); let x := ({ state := .detached, qp := 3, addr := 0x10000, key := 0x7000, size := 131072, seal_ := false, sent := 1, released := 0, gapDue := true, missing := 4 } : Sub); let q := ({ state := .rts, engine := some 0, pd := 5, pmtu := 1024, remote := some (1, 2) } : Qp); (s.runs) ∧ (s.delivers = true) ∧ (s.mirrored = false) ∧ (s.chan c = some ch) ∧ (s.sub c b = some x) ∧ (s.qpAt x.qp = some q) ∧ (q.state = .rts) ∧ (q.engine ≠ none) ∧ (q.rc = true) ∧ (x.state = .detached) ∧ (x.gapDue = true) ∧ (x.waits = false) ∧ (x.seal_ = false) ∧ (x.room 64 = true) ∧ (x.padFor 64 = 0)) ∧
(let s : State := (((({ base .solo with ports := { up := [0] }, kept := { domains := [(5, ⟨4, 4, 9⟩)], qps := [(3, ({ state := .rts, engine := some 0, pd := 5, pmtu := 1024, remote := some (1, 2) } : Qp)), (6, ({ state := .rts, engine := some 0, pd := 5, pmtu := 1024, remote := some (1, 2), rc := false } : Qp))], chans := [(2, ({ args := ({ number := 2, pd := 5, local_ := false, quorum := 1, retention := some 65536, maxMsg := 512, relKey := 0x7000, relOffset := 0, snapshot := none, hintOn := true, hintGroup := 0xE0000009, hintQKey := 0, hintQp := 6, logTile := 1 } : ChanArgs), log := [({ seq := 1, stamp := 77, pub := 0, payload := [1, 2], atPoint := true, held := [] } : LogEntry)] } : Chan))], subs := [], rdt := [(7, { state := .valid, pd := 5, length := 65536 })] } }).setBit F.SEAM_STATUS_gates_open true).setFld F.RGN_RANGE_TOP_top_tiles 16).setFld F.PUB_HINT_CFG_gap_us 5); let c := 2; let ch := ({ args := ({ number := 2, pd := 5, local_ := false, quorum := 1, retention := some 65536, maxMsg := 512, relKey := 0x7000, relOffset := 0, snapshot := none, hintOn := true, hintGroup := 0xE0000009, hintQKey := 0, hintQp := 6, logTile := 1 } : ChanArgs), log := [({ seq := 1, stamp := 77, pub := 0, payload := [1, 2], atPoint := true, held := [] } : LogEntry)] } : Chan); let q := ({ state := .rts, engine := some 0, pd := 5, pmtu := 1024, remote := some (1, 2), rc := false } : Qp); let e := ({ seq := 1, stamp := 77, pub := 0, payload := [1, 2], atPoint := true, held := [] } : LogEntry); (s.runs) ∧ (s.delivers = true) ∧ (s.mirrored = false) ∧ (s.chan c = some ch) ∧ (ch.args.hintOn = true) ∧ (s.fld F.PUB_HINT_CFG_gap_us ≠ 0) ∧ (ch.log = [e]) ∧ (e.atPoint = true) ∧ (ch.hinted < e.seq) ∧ (ch.hintAt = none) ∧ (s.qpAt ch.args.hintQp = some q) ∧ (q.state = .rts) ∧ (q.engine ≠ none) ∧ (q.rc = false) ∧ (s.clearWay ch.args.hintQp q (.hint ch.args.hintGroup ch.args.hintQKey 0xFFFFFF (hintBytes c e.seq)) = true) ∧ (s.inClear q.lport (addrEther ch.args.hintGroup) = true)) ∧
(let s : State := (((({ base .solo with ports := { up := [0] }, kept := { domains := [(5, ⟨4, 4, 9⟩)], qps := [(3, ({ state := .rts, engine := some 0, pd := 5, pmtu := 1024, remote := some (1, 2) } : Qp)), (6, ({ state := .rts, engine := some 0, pd := 5, pmtu := 1024, remote := some (1, 2), rc := false } : Qp))], chans := [(2, ({ args := ({ number := 2, pd := 5, local_ := false, quorum := 1, retention := some 65536, maxMsg := 512, relKey := 0x7000, relOffset := 0, snapshot := none, hintOn := true, hintGroup := 0xE0000009, hintQKey := 0, hintQp := 6, logTile := 1 } : ChanArgs), log := [({ seq := 1, stamp := 77, pub := 0, payload := [1, 2], atPoint := true, held := [] } : LogEntry)], hintAt := some 0 } : Chan))], subs := [], rdt := [(7, { state := .valid, pd := 5, length := 65536 })] } }).setBit F.SEAM_STATUS_gates_open true).setFld F.RGN_RANGE_TOP_top_tiles 16).setFld F.PUB_HINT_CFG_gap_us 5); let c := 2; let ch := ({ args := ({ number := 2, pd := 5, local_ := false, quorum := 1, retention := some 65536, maxMsg := 512, relKey := 0x7000, relOffset := 0, snapshot := none, hintOn := true, hintGroup := 0xE0000009, hintQKey := 0, hintQp := 6, logTile := 1 } : ChanArgs), log := [({ seq := 1, stamp := 77, pub := 0, payload := [1, 2], atPoint := true, held := [] } : LogEntry)], hintAt := some 0 } : Chan); let t0 := 0; (s.runs) ∧ (s.chan c = some ch) ∧ (ch.hintAt = some t0) ∧ (s.mrt < t0 + s.fld F.PUB_HINT_CFG_gap_us * 1000)) := by
  refine ⟨?_, ?_, ?_, ?_, ?_, ?_, ?_, ?_⟩ <;> (intros; decide +kernel +zetaReduce)

theorem test_migrations_switch_met :
(let s : State := ({ base .solo with pops := [(0, ⟨1, 1, 1, 70000⟩)], kept := { tiles := [(1, { home := .dram, frame := 66000 })] }, nand := { blockTiles := 4, perTarget := 8, targets := [0, 5], init := 10, left := 10, formatted := true }, tlr := { running := [(⟨1, none, 4, false, 0, 70001, false, none, 77, false⟩ : Mig)] } }.setFld F.TLR_HOMECAP_cap_tiles 100); let tile := 1; let m := (⟨1, none, 4, false, 0, 70001, false, none, 77, false⟩ : Mig); (s.runs) ∧ (s.tlr.running.find? (fun (x : Mig) => x.tile == tile && x.unit == none) = some m) ∧ (m.toDram = false) ∧ (m.durable = false)) ∧
(let s : State := ({ base .solo with pops := [(0, ⟨1, 1, 1, 70000⟩)], kept := { tiles := [(1, { home := .dram, frame := 66000 }), (2, { home := .dram, frame := 66001 })], mem := [(65536, 7)] }, nand := { blockTiles := 4, perTarget := 8, targets := [0, 5], init := 10, left := 10, formatted := true }, tlr := { running := [(⟨1, none, 4, false, 0, 70001, true, none, 77, false⟩ : Mig)] } }.setFld F.TLR_HOMECAP_cap_tiles 100); let tile := 1; let m := (⟨1, none, 4, false, 0, 70001, true, none, 77, false⟩ : Mig); (s.runs) ∧ (s.parks = []) ∧ (s.kept.own = []) ∧ (s.seam.fwdWait = []) ∧ (s.seam.early = []) ∧ (s.tlr.running.find? (fun (x : Mig) => x.tile == tile && x.unit == none) = some m) ∧ (m.unit = none) ∧ (m.tile = tile) ∧ (m.toDram = false) ∧ (m.durable = true) ∧ ((s.tile tile).dirty = false)) ∧
(let s : State := ({ base .solo with pops := [(0, ⟨1, 1, 1, 70000⟩)], kept := { tiles := [(1, { home := .dram, frame := 66000, dirty := true })] }, nand := { blockTiles := 4, perTarget := 8, targets := [0, 5], init := 10, left := 10, formatted := true }, tlr := { running := [(⟨1, none, 4, false, 0, 70001, true, none, 77, false⟩ : Mig)] } }.setFld F.TLR_HOMECAP_cap_tiles 100); let tile := 1; let m := (⟨1, none, 4, false, 0, 70001, true, none, 77, false⟩ : Mig); (s.runs) ∧ (s.parks = []) ∧ (s.kept.own = []) ∧ (s.seam.fwdWait = []) ∧ (s.seam.early = []) ∧ (s.tlr.running.find? (fun (x : Mig) => x.tile == tile && x.unit == none) = some m) ∧ (m.unit = none) ∧ (m.tile = tile) ∧ (m.toDram = false) ∧ (m.durable = true) ∧ ((s.tile tile).dirty = true)) ∧
(let s : State := ({ base .solo with pops := [(0, ⟨1, 1, 1, 70000⟩)], kept := { tiles := [(1, { home := .nand })], map := [(33, 0)] }, nand := { blockTiles := 4, perTarget := 8, targets := [0, 5], init := 10, left := 10, formatted := true }, tlr := { running := [(⟨1, none, 4, true, 0, 70001, true, none, 77, false⟩ : Mig)] } }.setFld F.TLR_HOMECAP_cap_tiles 100); let tile := 1; let m := (⟨1, none, 4, true, 0, 70001, true, none, 77, false⟩ : Mig); (s.runs) ∧ (s.parks = []) ∧ (s.kept.own = []) ∧ (s.seam.fwdWait = []) ∧ (s.seam.early = []) ∧ (s.tlr.running.find? (fun (x : Mig) => x.tile == tile && x.unit == none) = some m) ∧ (m.unit = none) ∧ (m.tile = tile) ∧ (m.toDram = true) ∧ (m.within = false) ∧ ((s.tile tile).home = .nand) ∧ ((s.tile tile).units = [])) ∧
(let s : State := ({ base .solo with pops := [(0, ⟨1, 1, 1, 70000⟩)], kept := { tiles := [(1, { home := .nand })], map := [(33, 0)] }, nand := { blockTiles := 4, perTarget := 8, targets := [0, 5], init := 10, left := 10, formatted := true }, tlr := { queue := [(⟨1, none, 2, true, 0, 0, false, none, 0, false⟩ : Mig)] } }.setFld F.TLR_HOMECAP_cap_tiles 100); let m := (⟨1, none, 2, true, 0, 0, false, none, 0, false⟩ : Mig); let f := 65536; (s.mode = .solo) ∧ (s.tlr.running = []) ∧ (s.tlr.jobs = []) ∧ (s.tlr.queue = [m]) ∧ (m.cls = 2) ∧ (m.toDram = true) ∧ (m.within = false) ∧ (m.unit = none) ∧ ((s.tile m.tile).home = .nand) ∧ ((s.tile m.tile).units = []) ∧ ((s.tile m.tile).churn = false) ∧ ((s.tile m.tile).present = true) ∧ (s.homed ≤ s.cap) ∧ (s.homeBlock m.tile = true) ∧ (s.grantHome s.save.room = .granted) ∧ (State.chooseFrame { s with tlr := { s.tlr with jobs := [] } } = some f)) ∧
(let s : State := ({ base .solo with pops := [(0, ⟨1, 1, 1, 70000⟩)], kept := { tiles := [(1, { home := .dram, frame := 66000 })] }, nand := { blockTiles := 4, perTarget := 8, targets := [0, 5], init := 10, left := 10, formatted := true }, tlr := { running := List.replicate 16 (⟨1, none, 4, false, 0, 70001, true, none, 77, false⟩ : Mig) } }.setFld F.TLR_HOMECAP_cap_tiles 100); (s.runs) ∧ (16 ≤ s.tlr.running.length)) := by
  refine ⟨?_, ?_, ?_, ?_, ?_, ?_⟩
  · intros; decide +kernel +zetaReduce
  · intros; decide +kernel +zetaReduce
  · intros; decide +kernel +zetaReduce
  · intros; decide +kernel +zetaReduce
  · exact ⟨rfl, rfl, rfl, rfl, rfl, rfl, rfl, rfl, rfl, rfl, rfl, rfl, by decide +kernel, by decide +kernel, by decide +kernel, choose_first _ rfl rfl rfl rfl⟩
  · intros; decide +kernel +zetaReduce

theorem test_flash_work_met :
(let s : State := ({ base .solo with pops := [(0, ⟨1, 1, 1, 70000⟩)], kept := { tiles := [(1, { home := .dram, frame := 66000 })] }, nand := { blockTiles := 4, perTarget := 8, targets := [0, 5], init := 10, left := 10, formatted := true }, tlr := { running := [(⟨1, none, 4, false, 5, 70001, false, none, 77, false⟩ : Mig)] } }.setFld F.TLR_HOMECAP_cap_tiles 100); let tgt := (5 : Target); let m := (⟨1, none, 4, false, 5, 70001, false, none, 77, false⟩ : Mig); let cw := (5 * 2 ^ 22 * 16); (s.runs) ∧ (s.tlr.running = [m]) ∧ (m.toDram = false) ∧ (m.durable = false) ∧ (m.target = tgt.val) ∧ (m.unit = none) ∧ ((s.opAt tgt.val).map (fun o => o.1) = some (.program m.tile m.unit)) ∧ ((s.programTile tgt.val m.tile none false).2 = some cw)) ∧
(let s : State := ({ base .solo with pops := [(0, ⟨1, 1, 1, 70000⟩)], kept := {  }, nand := { blockTiles := 4, perTarget := 8, targets := [0, 5], init := 10, left := 10, formatted := true, blocks := [(1, ({ st := .erasing, fill := 64, erases := 7, group := 1 } : NBlock))], cws := [(64, ⟨0, false, false, 0, [], 0⟩), (65, ⟨0, false, false, 0, [], 0⟩), (640, ⟨0, false, false, 0, [], 0⟩)] } }.setFld F.TLR_HOMECAP_cap_tiles 100); let tgt := (0 : Target); let b := 1; (s.runs) ∧ ((s.opAt tgt.val).map (fun o => o.1) = some (.erase (blockKey tgt.val b)))) ∧
(let s : State := ({ base .solo with pops := [(0, ⟨1, 1, 1, 70000⟩)], kept := {  }, nand := { blockTiles := 4, perTarget := 8, targets := [0, 5], init := 10, left := 10, formatted := true, blocks := [(1, ({ st := .erasing, fill := 64, erases := 7, group := 1 } : NBlock))] } }.setFld F.TLR_HOMECAP_cap_tiles 100); let tgt := (0 : Target); let b := 1; (s.runs) ∧ ((s.opAt tgt.val).map (fun o => o.1) = some (.erase (blockKey tgt.val b))) ∧ ((s.blk (blockKey tgt.val b)).st ≠ .retired) ∧ (∀ x, alGet s.nand.groups (s.blk (blockKey tgt.val b)).group = some x → x.block ≠ some (blockKey tgt.val b)) ∧ (b < 2 ^ 20) ∧ (s.nand.gcOn = []) ∧ (alRises 0 s.nand.blocks = true)) ∧
(let s : State := ({ base .solo with pops := [(0, ⟨1, 1, 1, 70000⟩)], kept := {  }, nand := { blockTiles := 4, perTarget := 8, targets := [0, 5], init := 10, left := 10, formatted := true, blocks := [(1, ({ st := .closed, fill := 64, erases := 7, group := 1 } : NBlock))] } }.setFld F.TLR_HOMECAP_cap_tiles 100); let tgt := (0 : Target); let b := 1; (s.runs) ∧ ((s.opAt tgt.val).map (fun o => o.1) ≠ some (.erase (blockKey tgt.val b)))) ∧
(let s : State := ({ base .solo with pops := [(0, ⟨1, 1, 1, 70000⟩)], kept := {  }, nand := { blockTiles := 4, perTarget := 8, targets := [0, 5], init := 10, left := 10, formatted := true, blocks := [(1, ({ st := .closed, fill := 64, erases := 7, group := 1 } : NBlock))] } }.setFld F.TLR_HOMECAP_cap_tiles 100); let tgt := (0 : Target); let b := 1; (s.runs) ∧ ((s.blk (blockKey tgt.val b)).st = .closed) ∧ ((s.blk (blockKey tgt.val b)).verified = false) ∧ (s.idle tgt.val = true)) ∧
(let s : State := ({ base .solo with pops := [(0, ⟨1, 1, 1, 70000⟩)], kept := { map := [(33, 64)] }, nand := { blockTiles := 4, perTarget := 8, targets := [0, 5], init := 10, left := 10, formatted := true, blocks := [(1, ({ st := .closed, fill := 64, erases := 7, group := 1 } : NBlock))], groups := [(1, {})] } }.setFld F.TLR_HOMECAP_cap_tiles 100); let tgt := (0 : Target); let b := 1; (s.runs) ∧ ((s.blk (blockKey tgt.val b)).st = .closed) ∧ ((s.blk (blockKey tgt.val b)).verified = false) ∧ (s.idle tgt.val = true) ∧ (s.nand.frozen = false) ∧ (s.liveIn (blockKey tgt.val b) ≠ [])) ∧
(let s : State := ({ base .solo with pops := [(0, ⟨1, 1, 1, 70000⟩)], kept := {  }, nand := { blockTiles := 4, perTarget := 8, targets := [0, 5], init := 10, left := 10, formatted := true, blocks := [(1, ({ st := .closed, fill := 64, erases := 7, group := 1, reads := 10000000 } : NBlock))] } }.setFld F.TLR_HOMECAP_cap_tiles 100); let tgt := (0 : Target); let b := 1; (s.runs) ∧ (s.mode ≠ .save) ∧ ((s.blk (blockKey tgt.val b)).st = .closed) ∧ (s.idle tgt.val = true) ∧ (s.fld F.QLT_RD_CFG_scan_kreads * 1000 ≤ (s.blk (blockKey tgt.val b)).reads)) ∧
(let s : State := ({ base .solo with pops := [(0, ⟨1, 1, 1, 70000⟩)], kept := {  }, nand := { blockTiles := 4, perTarget := 8, targets := [0, 5], init := 10, left := 10, formatted := true, blocks := [(1, ({ st := .closed, fill := 64, erases := 7, group := 1, verified := true } : NBlock)), (2, ({ st := .erasing, fill := 64, erases := 7, group := 1 } : NBlock))] } }.setFld F.TLR_HOMECAP_cap_tiles 100); let tgt := (0 : Target); (s.runs) ∧ (s.idle tgt.val = false)) ∧
(let s : State := (({ base .solo with pops := [(0, ⟨1, 1, 1, 70000⟩)], kept := {  }, nand := { blockTiles := 4, perTarget := 8, targets := [0, 5], init := 10, left := 10, formatted := true, blocks := [(1, ({ st := .closed, fill := 64, erases := 7, group := 1, reads := 9999 } : NBlock))] } }.setFld F.TLR_HOMECAP_cap_tiles 100).setFld F.QLT_RD_CFG_scan_kreads 10); let tgt := (0 : Target); let b := 1; (s.runs) ∧ ((s.blk (blockKey tgt.val b)).reads < s.fld F.QLT_RD_CFG_scan_kreads * 1000 ∨ s.mode = .save)) ∧
(let s : State := ({ base .solo with pops := [(0, ⟨1, 1, 1, 70000⟩)], kept := {  }, nand := { blockTiles := 4, perTarget := 8, targets := [0, 5], init := 10, left := 10, formatted := true, blocks := [(1, ({ st := .closed, fill := 64, erases := 7, group := 1 } : NBlock))] } }.setFld F.TLR_HOMECAP_cap_tiles 100); let tgt := (0 : Target); let b := 1; (s.runs) ∧ (s.mode ≠ .save) ∧ ((s.blk (blockKey tgt.val b)).st = .closed) ∧ (s.idle tgt.val = true)) ∧
(let s : State := ({ base .solo with pops := [(0, ⟨1, 1, 1, 70000⟩)], kept := { map := [(33, 64)] }, nand := { blockTiles := 4, perTarget := 8, targets := [0, 5], init := 10, left := 10, formatted := true, blocks := [(1, ({ st := .closed, fill := 64, erases := 7, group := 1 } : NBlock))] } }.setFld F.TLR_HOMECAP_cap_tiles 100); let tgt := (0 : Target); let b := 1; (s.runs) ∧ (s.mode ≠ .save) ∧ ((s.blk (blockKey tgt.val b)).st = .closed) ∧ (s.idle tgt.val = true) ∧ ((s.blk (blockKey tgt.val b)).suspect = false) ∧ (s.nand.frozen = false) ∧ (s.liveIn (blockKey tgt.val b) ≠ [])) ∧
(let s : State := ({ base .solo with pops := [(0, ⟨1, 1, 1, 70000⟩)], kept := { map := [(33, 64)] }, nand := { blockTiles := 4, perTarget := 8, targets := [0, 5], init := 10, left := 10, formatted := true, blocks := [(1, ({ st := .closed, fill := 64, erases := 7, group := 1, suspect := true } : NBlock))] } }.setFld F.TLR_HOMECAP_cap_tiles 100); let tgt := (0 : Target); let b := 1; (s.runs) ∧ (s.mode ≠ .save) ∧ ((s.blk (blockKey tgt.val b)).st = .closed) ∧ (s.idle tgt.val = true) ∧ ((s.blk (blockKey tgt.val b)).suspect = true) ∧ (s.nand.frozen = false) ∧ (s.liveIn (blockKey tgt.val b) ≠ [])) ∧
(let s : State := ({ base .solo with pops := [(0, ⟨1, 1, 1, 70000⟩)], kept := { map := [(33, 64)] }, nand := { blockTiles := 4, perTarget := 8, targets := [0, 5], init := 10, left := 10, formatted := true, blocks := [(1, ({ st := .closed, fill := 64, erases := 7, group := 1 } : NBlock))] } }.setFld F.TLR_HOMECAP_cap_tiles 100).setFld F.QLT_GC_CFG_lo 8; let tgt := (0 : Target); let c := (16 * 2 ^ 32 + 7); let k := 1; (s.runs) ∧ (s.freeBlocks tgt.val < s.fld F.QLT_GC_CFG_lo) ∧ (s.collecting tgt.val = false) ∧ (least (s.victims tgt.val) = some (c, k)) ∧ (s.nand.frozen = false) ∧ (s.mode ≠ .save)) ∧
(let s : State := ({ base .solo with pops := [(0, ⟨1, 1, 1, 70000⟩)], kept := { map := [(33, 64)] }, nand := { blockTiles := 4, perTarget := 8, targets := [0, 5], init := 10, left := 10, formatted := true, blocks := [(1, ({ st := .closed, fill := 64, erases := 7, group := 1 } : NBlock))] } }.setFld F.TLR_HOMECAP_cap_tiles 100).setFld F.QLT_GC_CFG_lo 7; let tgt := (0 : Target); (s.runs) ∧ (s.fld F.QLT_GC_CFG_lo ≤ s.freeBlocks tgt.val)) ∧
(let s : State := ({ base .solo with pops := [(0, ⟨1, 1, 1, 70000⟩)], kept := { map := [(33, 64)] }, nand := { blockTiles := 4, perTarget := 8, targets := [0, 5], init := 10, left := 10, formatted := true, blocks := [(1, ({ st := .closed, fill := 64, erases := 7, group := 1 } : NBlock)), (2, ({ st := .retired, fill := 64, erases := 9, group := 1 } : NBlock))] } }.setFld F.TLR_HOMECAP_cap_tiles 100).setFld F.QLT_WEAR_CFG_delta 1; let tgt := (0 : Target); let lo := 7; let k := 1; (s.runs) ∧ (least (((s.blocksOf tgt.val).filter (fun p => p.2.st == .closed)).map (fun p => (p.2.erases, p.1))) = some (lo, k)) ∧ (lo + s.fld F.QLT_WEAR_CFG_delta < ((s.blocksOf tgt.val).map (·.2.erases)).foldl Nat.max 0) ∧ (s.nand.frozen = false) ∧ (s.mode ≠ .save)) ∧
(let s : State := ({ base .solo with pops := [(0, ⟨1, 1, 1, 70000⟩)], kept := { map := [(33, 64)] }, nand := { blockTiles := 4, perTarget := 8, targets := [0, 5], init := 10, left := 10, formatted := true, blocks := [(1, ({ st := .draining true, fill := 64, erases := 7, group := 1 } : NBlock))] } }.setFld F.TLR_HOMECAP_cap_tiles 100); let tile := 1; let cw := 64; (s.runs) ∧ (s.mode ≠ .save) ∧ (s.kept.map = [(mapKey tile none, cw)]) ∧ ((s.blk (s.blockOf cw)).st = .draining true) ∧ (s.opAt (cw / 16 / 2 ^ 22) = none)) ∧
(let s : State := ({ base .solo with pops := [(0, ⟨1, 1, 1, 70000⟩)], kept := { map := [(33, 64)] }, nand := { blockTiles := 4, perTarget := 8, targets := [0, 5], init := 10, left := 10, formatted := true, blocks := [(1, ({ st := .draining true, fill := 64, erases := 7, group := 1 } : NBlock))] } }.setFld F.TLR_HOMECAP_cap_tiles 100); let tile := 1; let cw := 64; let n := 0; ((s.programTile (s.blockOf cw / 2 ^ 20) tile none true).2 = some n)) ∧
(let s : State := ({ base .solo with pops := [(0, ⟨1, 1, 1, 70000⟩)], kept := {  }, nand := { blockTiles := 4, perTarget := 8, targets := [0, 5], init := 10, left := 10, formatted := true } }.setFld F.TLR_HOMECAP_cap_tiles 100); (s.runs) ∧ (s.mode ≠ .save) ∧ (s.nand.ckpt = false) ∧ (s.nand.formatted = true)) ∧
(let s : State := ({ base .solo with pops := [(0, ⟨1, 1, 1, 70000⟩)], kept := {  }, nand := { blockTiles := 4, perTarget := 8, targets := [0, 5], init := 10, left := 10, formatted := true, programmed := 2 ^ 60 } }.setFld F.TLR_HOMECAP_cap_tiles 100); (s.runs) ∧ (s.mode ≠ .save) ∧ (s.nand.ckpt = false) ∧ (s.nand.formatted = true) ∧ (s.fld F.QLT_CKPT_CFG_gib * 2 ^ 30 ≤ s.nand.programmed)) ∧
(let s : State := ({ base .solo with pops := [(0, ⟨1, 1, 1, 70000⟩)], kept := {  }, nand := { blockTiles := 4, perTarget := 8, targets := [0, 5], init := 10, left := 10, formatted := true, programmed := 2 ^ 30 - 1 } }.setFld F.TLR_HOMECAP_cap_tiles 100).setFld F.QLT_CKPT_CFG_gib 1; (s.runs) ∧ (s.nand.programmed < s.fld F.QLT_CKPT_CFG_gib * 2 ^ 30)) ∧
(let s : State := ({ base .solo with pops := [(0, ⟨1, 1, 1, 70000⟩)], kept := { segs := [⟨4, 0, false, true⟩] }, nand := { blockTiles := 4, perTarget := 8, init := 10, left := 10, formatted := true, ckpt := true, ckptMap := [(33, 64)], targets := [0, 20], root := some ⟨41, 3, 0, [], false, 10, 0, [], []⟩ } }.setFld F.TLR_HOMECAP_cap_tiles 100).setFld F.QLT_CKPT_STAT_count 65535; (s.runs) ∧ (s.nand.ckpt = true)) ∧
(let s : State := ({ base .solo with pops := [(0, ⟨1, 1, 1, 70000⟩)], kept := { segs := [⟨4, 0, false, true⟩] }, nand := { blockTiles := 4, perTarget := 8, targets := [0, 5], init := 10, left := 10, formatted := true, ckpt := true } }.setFld F.TLR_HOMECAP_cap_tiles 100).setFld F.QLT_CKPT_STAT_count 65535; (s.runs) ∧ (s.nand.ckpt = true)) := by
  refine ⟨?_, ?_, ?_, ?_, ?_, ?_, ?_, ?_, ?_, ?_, ?_, ?_, ?_, ?_, ?_, ?_, ?_, ?_, ?_, ?_, ?_, ?_⟩ <;> (intros; decide +kernel +zetaReduce)

theorem test_reads_discards_losses_met :
(let s : State := ({ base .solo with pops := [(0, ⟨1, 1, 1, 70000⟩)], kept := { tiles := [(1, { home := .nand })] }, nand := { blockTiles := 4, perTarget := 8, targets := [0, 5], init := 10, left := 10, formatted := true }, fetches := [⟨1, none, [(3, 9)], [], none, 0, false, false⟩] }.setFld F.TLR_HOMECAP_cap_tiles 100).setFld F.TLR_HEAT_CFG_promote_reads 0; let tile := 1; let f := (⟨1, none, [(3, 9)], [], none, 0, false, false⟩ : Fetch); (s.runs) ∧ (s.parks = []) ∧ (s.fetches = [f]) ∧ (f.tile = tile) ∧ (f.unit = none) ∧ (f.entered = []) ∧ (f.since = none) ∧ (f.spent = false) ∧ (f.seg = false) ∧ (f.sharers ≠ []) ∧ (s.kept.own = []) ∧ (s.opAt 0 = none) ∧ (s.kept.map = []) ∧ (s.fld F.TLR_HEAT_CFG_promote_reads = 0)) ∧
(let s : State := ({ base .solo with pops := [(0, ⟨1, 1, 1, 70000⟩)], kept := { tiles := [(1, { home := .nand })], map := [(33, 64)] }, nand := { blockTiles := 4, perTarget := 8, targets := [0, 5], init := 10, left := 10, formatted := true }, fetches := [⟨1, none, [(3, 9)], [], none, 0, false, false⟩] }.setFld F.TLR_HOMECAP_cap_tiles 100).setFld F.TLR_HEAT_CFG_promote_reads 0; let tile := 1; let c := 64; let f := (⟨1, none, [(3, 9)], [], none, 0, false, false⟩ : Fetch); (s.runs) ∧ (s.parks = []) ∧ (s.fetches = [f]) ∧ (f.tile = tile) ∧ (f.unit = none) ∧ (f.entered = []) ∧ (f.since = none) ∧ (f.spent = false) ∧ (f.seg = false) ∧ (f.sharers ≠ []) ∧ (s.kept.own = []) ∧ (s.kept.map = [(mapKey tile none, c)]) ∧ (s.parityHeld (s.blockOf c) = false) ∧ (s.opAt (s.blockOf c / 2 ^ 20) = none) ∧ (s.fld F.TLR_HEAT_CFG_promote_reads = 0)) ∧
(let s : State := ({ base .solo with pops := [(0, ⟨1, 1, 1, 70000⟩)], kept := {  }, nand := { blockTiles := 4, perTarget := 8, targets := [0, 5], init := 10, left := 10, formatted := true }, fetches := [⟨1, none, [(3, 9)], [15], some 4, 0, false, false⟩], mrtQ := 400000016 }.setFld F.TLR_HOMECAP_cap_tiles 100); let a := 4; let tile := 1; let f := (⟨1, none, [(3, 9)], [15], some 4, 0, false, false⟩ : Fetch); (s.runs) ∧ (s.fetches = [f]) ∧ (f.tile = tile) ∧ (f.since = some a) ∧ (a + 100000000 ≤ s.mrt) ∧ (f.spent = false)) ∧
(let s : State := ({ base .solo with pops := [(0, ⟨1, 1, 1, 70000⟩)], kept := {  }, nand := { blockTiles := 4, perTarget := 8, targets := [0, 5], init := 10, left := 10, formatted := true }, fetches := [⟨1, some 4, [(3, 9)], [4], some 4, 0, false, false⟩] }.setFld F.TLR_HOMECAP_cap_tiles 100); let f := (⟨1, some 4, [(3, 9)], [4], some 4, 0, false, false⟩ : Fetch); (s.fetches = [f])) ∧
(let s : State := ({ base .solo with pops := [(0, ⟨1, 1, 1, 70000⟩)], kept := {  }, nand := { blockTiles := 4, perTarget := 8, targets := [0, 5], init := 10, left := 10, formatted := true }, fetches := [⟨1, none, [], [], none, 0, false, false⟩, ⟨1, some 4, [], [4], some 5, 0, false, false⟩], mrtQ := 400000016 }.setFld F.TLR_HOMECAP_cap_tiles 100); let tile := 1; (s.runs) ∧ (s.fetches.all (fun f => f.tile != tile || f.since.all (fun a => decide (s.mrt < a + 100000000))) = true)) ∧
(let h := hdr; let start := 1; let count := 2; let s : State := (go h (.discard start count false) (({ base .solo with pops := [(0, ⟨1, 1, 1, 70000⟩)], kept := { tiles := [(1, { home := .dram, frame := 66000 }), (2, { home := .nand }), (3, { home := .dram, frame := 66001 })], map := [(50, 0)], mem := [(65535, 3), (65536, 7), (3 * 65536 - 1, 7), (3 * 65536, 4)] }, nand := { blockTiles := 4, perTarget := 8, targets := [0, 5], init := 10, left := 10, formatted := true } }.setFld F.TLR_HOMECAP_cap_tiles 100).setFld F.RGN_RANGE_TOP_top_tiles 16)); (s.starts h (.discard start count false)) ∧ (s.mirrored = false) ∧ (s.parks = []) ∧ (s.kept.own = []) ∧ (s.seam.fwdWait = []) ∧ (s.seam.early = []) ∧ (s.discardCheck start count = none)) ∧
(let h := hdr; let start := 0; let count := 0; let secure := false; let st := Status.invalid; let s : State := (go h (.discard start count secure) (({ base .solo with pops := [(0, ⟨1, 1, 1, 70000⟩)], kept := {  }, nand := { blockTiles := 4, perTarget := 8, targets := [0, 5], init := 10, left := 10, formatted := true } }.setFld F.TLR_HOMECAP_cap_tiles 100))); (s.starts h (.discard start count secure)) ∧ (s.discardCheck start count = some st)) ∧
(let h := hdr; let start := 1; let count := 2; let s : State := (go h (.discard start count true) (({ base .solo with pops := [(0, ⟨1, 1, 1, 70000⟩)], kept := {  }, nand := { blockTiles := 4, perTarget := 8, targets := [0, 5], init := 10, left := 10, formatted := true } }.setFld F.TLR_HOMECAP_cap_tiles 100).setFld F.RGN_RANGE_TOP_top_tiles 16)); (s.starts h (.discard start count true)) ∧ (s.mirrored = false) ∧ (s.discardCheck start count = none)) ∧
(let s : State := ({ base .solo with pops := [(0, ⟨1, 1, 1, 70000⟩)], kept := {  }, nand := { blockTiles := 4, perTarget := 8, targets := [0, 5], init := 10, left := 10, formatted := true, secure := [(hdr, 1, 2)] } }.setFld F.TLR_HOMECAP_cap_tiles 100); let h := hdr; let start := 1; let count := 2; (s.runs) ∧ (s.nand.secure = [(h, start, count)]) ∧ (s.copiesOf start count = []) ∧ (h.src ≠ .twin) ∧ (s.shared = [])) ∧
(let s : State := ({ base .solo with pops := [(0, ⟨1, 1, 1, 70000⟩)], kept := {  }, nand := { blockTiles := 4, perTarget := 8, targets := [0, 5], init := 10, left := 10, formatted := true, secure := [(hdr, 1, 2)], blocks := [(1, ({ st := .closed, fill := 64, erases := 7, group := 1, stale := [2] } : NBlock))] } }.setFld F.TLR_HOMECAP_cap_tiles 100); let h := hdr; let start := 1; let count := 2; (s.runs) ∧ (s.nand.secure = [(h, start, count)]) ∧ (s.copiesOf start count ≠ [])) ∧
(let s : State := ({ base .solo with pops := [(0, ⟨1, 1, 1, 70000⟩)], kept := {  }, nand := { blockTiles := 4, perTarget := 8, targets := [0, 5], init := 10, left := 10, formatted := true, blocks := [(1, ({ st := .closed, fill := 64, erases := 7, group := 1 } : NBlock))] } }.setFld F.TLR_HOMECAP_cap_tiles 100); let tgt := (0 : Target); (s.runs) ∧ (s.nand.targets.contains tgt.val = true) ∧ (s.kept.map = [])) := by
  refine ⟨?_, ?_, ?_, ?_, ?_, ?_, ?_, ?_, ?_, ?_, ?_⟩ <;> (intros; decide +kernel +zetaReduce)

theorem test_save_runs_met :
(let s : State := ((base .solo).setBit F.FEN_PF_CFG_cmp_en true); let p := PfPath.comparator; (s.fen.vdd = true) ∧ (s.pfEnabled p = true)) ∧
(let s : State := (base .solo); let p := PfPath.command; (s.pfEnabled p = false)) ∧
(let s : State := ({ base .solo with pf := { pin := true } }.setFld F.FEN_PF_STAT_glitches 65535); let p := PfPath.pin; (s.fen.vdd = true) ∧ (s.pf.get p = true)) ∧
(let s : State := ({ base .solo with parks := [(3, 9)], gate := { active := true }, kept := { mem := [(65536, 7)], domains := [(5, ⟨4, 4, 9⟩)], qps := [(3, ({ state := .rts, engine := some 0, pd := 5, pmtu := 1024, remote := some (1, 2), msgs := [({ psn := 9, last := 9, verb := .write, region := some 7, pieces := [(0x1FFFE, 2)], len := 2, data := [7, 8], imm := 0, cmp := 0, swapAdd := 0, relaxed := false, ackReq := true, local_ := false, entry := none, got := 2, phase := .accepted, atPoint := false, fwd := false, dup := false, resent := false, pub := none, result := none, solicit := false, arrived := 0 } : Msg)] } : Qp))] }, pf := { pin := true } }).setBit F.FEN_PF_CFG_pin_en true; let p := PfPath.pin; (s.fen.vdd = true) ∧ (s.bit F.FEN_PF_STAT_valid = false) ∧ (s.mode = .solo ∨ s.mode = .paired ∨ s.mode = .resync ∨ s.mode = .doze) ∧ (s.pfEnabled p = true) ∧ (p = .sampled ∨ s.pf.get p = true)) ∧
(let s : State := (base .solo); let p := PfPath.pin; (s.pfEnabled p = false ∨ (p ≠ .sampled ∧ s.pf.get p = false))) ∧
(let h := hdr; let s : State := (go h .save (({ base .solo with parks := [(3, 9)], gate := { active := true }, kept := { mem := [(65536, 7)], domains := [(5, ⟨4, 4, 9⟩)], qps := [(3, ({ state := .rts, engine := some 0, pd := 5, pmtu := 1024, remote := some (1, 2), msgs := [({ psn := 9, last := 9, verb := .write, region := some 7, pieces := [(0x1FFFE, 2)], len := 2, data := [7, 8], imm := 0, cmp := 0, swapAdd := 0, relaxed := false, ackReq := true, local_ := false, entry := none, got := 2, phase := .accepted, atPoint := false, fwd := false, dup := false, resent := false, pub := none, result := none, solicit := false, arrived := 0 } : Msg)] } : Qp))] } }))); (s.starts h .save) ∧ (s.mode = .solo ∨ s.mode = .paired ∨ s.mode = .resync ∨ s.mode = .doze) ∧ (s.bit F.FEN_PF_STAT_valid = false)) ∧
(let s : State := (base .save); (s.mode = .save) ∧ (s.save.streamed = none)) ∧
(let s : State := ({ base .save with nand := { targets := [0, 20] }, area := { spares := 1 } }); (s.mode = .save) ∧ (s.save.tierClosed = false)) ∧
(let s : State := ({ base .save with kept := { mem := [(65536, 7)], wrapCount := 3 }, save := { tierClosed := true, slot := 1, gen := 8 } }); (s.mode = .save) ∧ (s.save.tierClosed = true) ∧ (s.save.delta = false)) ∧
(let s : State := ({ base .save with kept := { mem := [(65536, 7)], wrapCount := 3 }, area := { slot1 := { erased := false, base := some ({ head := { delta := false, planned := false, paired := false, lead := true, entryMode := .solo, generation := 7, baseGen := 0, lastCommit := 5, mirrorStamp := 0, epoch := 9, unit := false, framesFound := 1, framesSaved := 1, hours := 0, cycles := 0, saveMs := 100, eEst := 0, deltaOff := 0, wseq := 0 }, root := .absent, kept := { mem := [(65536, 7)], tiles := [(1, { home := .dram, frame := 66000 })], domains := [(5, ⟨4, 4, 9⟩)], wrapCount := 3 } } : Image) } }, save := { streamed := some 100, delta := true, slot := 1, gen := 8 } }); let ms := 100; (s.mode = .save) ∧ (s.save.streamed = some ms) ∧ (s.save.delta = true)) := by
  refine ⟨?_, ?_, ?_, ?_, ?_, ?_, ?_, ?_, ?_, ?_⟩ <;> (intros; decide +kernel +zetaReduce)

theorem test_bringup_ends_met :
(let s : State := ({ base .bringup with boot := { ran := true, filled := true }, pops := [(0, ⟨1, 1, 1, 300000⟩), (1, ⟨1, 1, 1, 300000⟩)] }.setBit F.THM_LOCK_lock true).setFld F.SEAM_PAIR_CFG_pair_en 0; (s.canEnd = true) ∧ (s.fuses.life ≠ Machine.returned) ∧ (s.pairEn = false) ∧ (s.area.journal = []) ∧ (s.nand.root = none) ∧ (s.kept.qps = []) ∧ (s.parks = []) ∧ (s.kept.own = []) ∧ (s.seam.fwdWait = []) ∧ (s.seam.early = [])) ∧
(let s : State := (({ base .bringup with boot := { ran := true, filled := true }, pops := [(0, ⟨1, 1, 1, 300000⟩), (1, ⟨1, 1, 1, 300000⟩)], nand := { formatted := true, slotTiles := 600000, blockTiles := 4 }, area := { slot0 := { erased := false, base := some ({ head := { delta := false, planned := false, paired := false, lead := true, entryMode := .solo, generation := 7, baseGen := 0, lastCommit := 5, mirrorStamp := 0, epoch := 9, unit := false, framesFound := 1, framesSaved := 1, hours := 0, cycles := 0, saveMs := 100, eEst := 0, deltaOff := 0, wseq := 0 }, root := .absent, kept := { mem := [(65536, 7)], tiles := [(1, { home := .dram, frame := 66000 })], domains := [(5, ⟨4, 4, 9⟩)], wrapCount := 3 } } : Image) }, journal := [⟨.sealed_, 0, 0, 7, 0⟩] } }.setBit F.THM_LOCK_lock true).setBit F.GLB_RESTORE_CFG_qp_err false); let sc := ({ channels := [(0, [{ ce := 0 }, { ce := 1 }, { ce := 2 }, { ce := 3 }]), (1, [{ ce := 0 }, { ce := 1 }, { ce := 2 }, { ce := 3, rate := 1600 }])], root := true, journal := [(0, [])] } : NandScan); let r := (⟨.sealed_, 0, 0, 7, 0⟩ : JRec); let img := ({ head := { delta := false, planned := false, paired := false, lead := true, entryMode := .solo, generation := 7, baseGen := 0, lastCommit := 5, mirrorStamp := 0, epoch := 9, unit := false, framesFound := 1, framesSaved := 1, hours := 0, cycles := 0, saveMs := 100, eEst := 0, deltaOff := 0, wseq := 0 }, root := .absent, kept := { mem := [(65536, 7)], tiles := [(1, { home := .dram, frame := 66000 })], domains := [(5, ⟨4, 4, 9⟩)], wrapCount := 3 } } : Image); (s.canEnd = true) ∧ (s.fuses.life ≠ Machine.returned) ∧ (s.nand.formatted = true) ∧ (sc.root = true) ∧ ((s.readJournal sc).newestRec = some r) ∧ (r.type = .sealed_) ∧ (r.off = 0) ∧ ((s.slotAt r.slot.val).base = some img) ∧ (s.imagePasses sc r.slot.val img = true) ∧ (img.kept.own = []) ∧ (∀ p ∈ img.kept.qps, p.2.msgs = []) ∧ (s.nand.root.any (fun x => decide (s.area.wseq < x.wseq)) = false) ∧ (s.bit F.GLB_RESTORE_CFG_qp_err = false) ∧ (s.bit F.GLB_RESTORE_STAT_serving = false) ∧ (s.parks = []) ∧ (s.kept.own = []) ∧ (s.seam.fwdWait = []) ∧ (s.seam.early = [])) ∧
(let s : State := (base .solo); (s.runs) ∧ (s.canEnd = false)) ∧
(let h := hdr; let n := 0; let img := ({ head := { delta := false, planned := false, paired := false, lead := true, entryMode := .solo, generation := 7, baseGen := 0, lastCommit := 5, mirrorStamp := 0, epoch := 9, unit := false, framesFound := 1, framesSaved := 1, hours := 0, cycles := 0, saveMs := 100, eEst := 0, deltaOff := 0, wseq := 0 }, root := .absent, kept := { mem := [(65536, 7)], tiles := [(1, { home := .dram, frame := 66000 })], domains := [(5, ⟨4, 4, 9⟩)], wrapCount := 3 } } : Image); let s : State := (go h .acceptOlderImage ((({ base .bringup with boot := { ran := true, filled := true, ready := true }, area := { slot0 := { erased := false, base := some ({ head := { delta := false, planned := false, paired := false, lead := true, entryMode := .solo, generation := 7, baseGen := 0, lastCommit := 5, mirrorStamp := 0, epoch := 9, unit := false, framesFound := 1, framesSaved := 1, hours := 0, cycles := 0, saveMs := 100, eEst := 0, deltaOff := 0, wseq := 0 }, root := .absent, kept := { mem := [(65536, 7)], tiles := [(1, { home := .dram, frame := 66000 })], domains := [(5, ⟨4, 4, 9⟩)], wrapCount := 3 } } : Image) }, journal := [⟨.sealed_, 0, 0, 7, 0⟩, ⟨.start, 1, 0, 8, 0⟩] }, save := { gen := 8 } }.setBit F.GLB_SAVE_STAT_lost true).setBit F.GLB_RESTORE_CFG_qp_err false))); (s.starts h .acceptOlderImage) ∧ (s.isLost = true) ∧ (s.olderImage = some (n, img)) ∧ (img.kept.own = []) ∧ (∀ p ∈ img.kept.qps, p.2.msgs = []) ∧ (s.bit F.GLB_RESTORE_CFG_qp_err = false) ∧ (s.bit F.GLB_RESTORE_STAT_serving = false) ∧ (s.parks = []) ∧ (s.kept.own = []) ∧ (s.seam.fwdWait = []) ∧ (s.seam.early = [])) ∧
(let h := hdr; let s : State := (go h .acceptOlderImage ((base .solo))); (s.starts h .acceptOlderImage) ∧ (s.isLost = false)) ∧
(let h := hdr; let s : State := (go h .discardImage ((({ base .bringup with boot := { ran := true, filled := true, ready := true }, area := { slot0 := { erased := false, base := some ({ head := { delta := false, planned := false, paired := false, lead := true, entryMode := .solo, generation := 7, baseGen := 0, lastCommit := 5, mirrorStamp := 0, epoch := 9, unit := false, framesFound := 1, framesSaved := 1, hours := 0, cycles := 0, saveMs := 100, eEst := 0, deltaOff := 0, wseq := 0 }, root := .absent, kept := { mem := [(65536, 7)], tiles := [(1, { home := .dram, frame := 66000 })], domains := [(5, ⟨4, 4, 9⟩)], wrapCount := 3 } } : Image) }, journal := [⟨.sealed_, 0, 0, 7, 0⟩, ⟨.start, 1, 0, 8, 0⟩] }, save := { gen := 8 }, kept := { mem := [(65536, 7)] } }.setBit F.GLB_SAVE_STAT_lost true).setFld F.SEAM_PAIR_CFG_pair_en 0))); (s.starts h .discardImage) ∧ (s.isLost = true) ∧ (s.pairEn = false) ∧ (s.kept.qps = []) ∧ (s.parks = []) ∧ (s.kept.own = []) ∧ (s.seam.fwdWait = []) ∧ (s.seam.early = [])) ∧
(let h := hdr; let s : State := (go h .discardImage ((base .solo))); (s.starts h .discardImage) ∧ (s.isLost = false)) := by
  refine ⟨?_, ?_, ?_, ?_, ?_, ?_, ?_⟩ <;> (intros; decide +kernel +zetaReduce)

theorem test_restore_runs_met :
(let s : State := (((({ base .restore with area := { slot0 := { erased := false, base := some ({ head := { delta := false, planned := false, paired := false, lead := true, entryMode := .solo, generation := 7, baseGen := 0, lastCommit := 5, mirrorStamp := 0, epoch := 9, unit := false, framesFound := 1, framesSaved := 1, hours := 0, cycles := 0, saveMs := 100, eEst := 0, deltaOff := 0, wseq := 0 }, root := .absent, kept := { mem := [(65536, 7)], tiles := [(1, { home := .dram, frame := 66000 })], domains := [(5, ⟨4, 4, 9⟩)], wrapCount := 3 } } : Image) }, journal := [⟨.sealed_, 0, 0, 7, 0⟩] }, save := { slot := 0, gen := 7 }, pops := [(0, ⟨1, 1, 1, 70000⟩)] })).setBit F.GLB_RESTORE_CFG_serve_en true).setBit F.SEAM_WIT_STAT_held true); (s.mayServe = true) ∧ (∀ p ∈ s.kept.qps, p.2.msgs = [])) ∧
(let s : State := (base .solo); (s.runs) ∧ (s.mayServe = false)) ∧
(let s : State := ((({ base .restore with area := { slot0 := { erased := false, base := some ({ head := { delta := false, planned := false, paired := false, lead := true, entryMode := .solo, generation := 7, baseGen := 0, lastCommit := 5, mirrorStamp := 0, epoch := 9, unit := false, framesFound := 1, framesSaved := 1, hours := 0, cycles := 0, saveMs := 100, eEst := 0, deltaOff := 0, wseq := 0 }, root := .absent, kept := { mem := [(65536, 7)], tiles := [(1, { home := .dram, frame := 66000 })], domains := [(5, ⟨4, 4, 9⟩)], wrapCount := 3 } } : Image) }, journal := [⟨.sealed_, 0, 0, 7, 0⟩] }, save := { slot := 0, gen := 7 }, pops := [(0, ⟨1, 1, 1, 70000⟩)], kept := { tiles := [(1, { home := .dram, frame := 66000, present := false }), (2, { home := .dram, frame := 66001, present := false })] } })).setFld F.GLB_RESTORE_STAT_left_tiles 2); let tile := 1; let first := ([] : Altered); let second := ([] : Altered); let dual := Dual.retryAgrees; (s.mode = .restore) ∧ (s.restoreTurn tile = true) ∧ (s.frameOk (s.tile tile).frame = true) ∧ (s.frameFails tile first second < 2) ∧ (dual ≠ .retryDiffers) ∧ (s.parks = []) ∧ (s.kept.own = []) ∧ (s.seam.fwdWait = []) ∧ (s.seam.early = [])) ∧
(let s : State := RESTORING; let tile := 1; ∃ first second : Altered, (s.mode = .restore) ∧ (s.restoreTurn tile = true) ∧ (s.frameOk (s.tile tile).frame = true) ∧ (2 ≤ s.frameFails tile first second) ∧ (Dual.agree ≠ .retryDiffers) ∧ (s.parks = []) ∧ (s.kept.own = []) ∧ (s.seam.fwdWait = []) ∧ (s.seam.early = [])) ∧
(let s : State := (({ base .restore with area := { slot0 := { erased := false, base := some ({ head := { delta := false, planned := false, paired := false, lead := true, entryMode := .solo, generation := 7, baseGen := 0, lastCommit := 5, mirrorStamp := 0, epoch := 9, unit := false, framesFound := 1, framesSaved := 1, hours := 0, cycles := 0, saveMs := 100, eEst := 0, deltaOff := 0, wseq := 0 }, root := .absent, kept := { mem := [(65536, 7)], tiles := [(1, { home := .dram, frame := 66000 })], domains := [(5, ⟨4, 4, 9⟩)], wrapCount := 3 } } : Image) }, journal := [⟨.sealed_, 0, 0, 7, 0⟩] }, save := { slot := 0, gen := 7 }, pops := [(0, ⟨1, 1, 1, 70000⟩)], kept := { tiles := [(1, { home := .dram, frame := 66000, present := false })] } })); let tile := 1; (s.mode = .restore) ∧ (s.restoreTurn tile = true) ∧ (s.parks = [])) ∧
(let s : State := (({ base .restore with area := { slot0 := { erased := false, base := some ({ head := { delta := false, planned := false, paired := false, lead := true, entryMode := .solo, generation := 7, baseGen := 0, lastCommit := 5, mirrorStamp := 0, epoch := 9, unit := false, framesFound := 1, framesSaved := 1, hours := 0, cycles := 0, saveMs := 100, eEst := 0, deltaOff := 0, wseq := 0 }, root := .absent, kept := { mem := [(65536, 7)], tiles := [(1, { home := .dram, frame := 66000 })], domains := [(5, ⟨4, 4, 9⟩)], wrapCount := 3 } } : Image) }, journal := [⟨.sealed_, 0, 0, 7, 0⟩] }, save := { slot := 0, gen := 7 }, pops := [(0, ⟨1, 1, 1, 70000⟩)], kept := { tiles := [(1, { home := .dram, frame := 66000, present := false }), (2, { home := .dram, frame := 65999, present := false })] } })); let tile := 1; (s.runs) ∧ (s.mode ≠ .restore ∨ s.restoreTurn tile = false)) ∧
(let s : State := (({ base .restore with area := { slot0 := { erased := false, base := some ({ head := { delta := false, planned := false, paired := false, lead := true, entryMode := .solo, generation := 7, baseGen := 0, lastCommit := 5, mirrorStamp := 0, epoch := 9, unit := false, framesFound := 1, framesSaved := 1, hours := 0, cycles := 0, saveMs := 100, eEst := 0, deltaOff := 0, wseq := 0 }, root := .absent, kept := { mem := [(65536, 7)], tiles := [(1, { home := .dram, frame := 66000 })], domains := [(5, ⟨4, 4, 9⟩)], wrapCount := 3 } } : Image) }, journal := [⟨.sealed_, 0, 0, 7, 0⟩] }, save := { slot := 0, gen := 7 }, pops := [(0, ⟨1, 1, 1, 70000⟩)] }).setFld F.SEAM_PAIR_CFG_pair_en 0); (s.canRelease = true) ∧ (s.pairEn = false) ∧ (∀ p ∈ s.kept.qps, p.2.msgs = [])) ∧
(let s : State := ({ base .solo with boot := { ready := true }, area := { slot1 := { erased := false }, journal := [⟨.sealed_, 0, 0, 7, 0⟩] } }); let slot := (1 : Fin 2); (s.runs) ∧ (s.mode ≠ .save) ∧ (s.mode ≠ .restore) ∧ (s.isLost = false) ∧ (s.boot.ready = true) ∧ ((s.slotAt slot.val).erased = false)) ∧
(let s : State := ({ base .save with area := { slot1 := { erased := false } } }); let slot := (1 : Fin 2); (s.mode = .save ∨ s.isLost = true ∨ (s.slotAt slot.val).erased = true)) := by
  refine ⟨?_, ?_, ?_, ?_, ?_, ?_, ?_, ?_, ?_⟩
  · intros; decide +kernel +zetaReduce
  · intros; decide +kernel +zetaReduce
  · intros; decide +kernel +zetaReduce
  · exact restoring_fails.elim (fun a h => ⟨a, a, by decide +kernel, by decide +kernel, by decide +kernel, h, by decide, rfl, rfl, rfl, rfl⟩)
  · intros; decide +kernel +zetaReduce
  · intros; decide +kernel +zetaReduce
  · intros; decide +kernel +zetaReduce
  · intros; decide +kernel +zetaReduce
  · intros; decide +kernel +zetaReduce

theorem test_beats_and_links_met :
(let s : State := ({ base .paired with seam := { link0 := { up := true, synced := true, rx := 4, tx := 9, unacked := [(9, 0, .ctx (.domain 5 none))], last := some 0 } } }.setBit F.SEAM_PAIR_CFG_pair_en true); let link := (0 : Fin 2); (s.runs) ∧ (s.pairEn = true) ∧ (s.mode ≠ .doze) ∧ (s.quiet = false) ∧ ((s.seamLink link.val).up = true)) ∧
(let s : State := ({ base .paired with seam := { link0 := { up := true, synced := true, rx := 4, tx := 9, unacked := [(9, 0, .ctx (.domain 5 none))], last := some 0 } } }.setBit F.SEAM_PAIR_CFG_pair_en true); let link := (1 : Fin 2); (s.runs) ∧ (s.pairEn = true) ∧ (s.mode ≠ .doze) ∧ (s.quiet = false) ∧ ((s.seamLink link.val).up = false)) ∧
(let l := 0; (l = 0)) ∧
(let s : State := ((base .doze).setBit F.SEAM_PAIR_CFG_pair_en true); (s.runs) ∧ (s.pairEn = false ∨ s.mode = .doze ∨ s.quiet = true)) ∧
(let s : State := ({ base .doze with seam := { tackSeq := 65535 } }.setBit F.SEAM_PAIR_CFG_pair_en true); (s.runs) ∧ (s.pairEn = true) ∧ (s.quiet = false)) ∧
(let s : State := ({ base .paired with seam := { link0 := { up := true, synced := true, rx := 4, tx := 9, unacked := [(9, 0, .ctx (.domain 5 none))], last := some 0 } } }.setBit F.SEAM_PAIR_CFG_pair_en true); (s.pairEn = true)) ∧
(let s : State := ((base .solo).setFld F.SEAM_PAIR_CFG_pair_en 0); (s.runs) ∧ (s.pairEn = false ∨ s.quiet = true)) ∧
(let s : State := ((base .paired).setBit F.SEAM_PAIR_CFG_pair_en true); let b := ({  pairId := 0, unit := false, epoch := 0, mode := 4, ready := true, joining := false, sent := 70, echo := 0, delay := 0, sync := 3, linkSeq := 5, linkAck := 9, stamp := 0 } : Beat); (s.runs) ∧ (s.pairEn = true) ∧ (s.mode ≠ .doze) ∧ (s.mismatch b.pairId b.unit = true)) ∧
(let s : State := ({ base .paired with seam := { link0 := { up := true, synced := true, rx := 4, tx := 9, unacked := [(9, 0, .ctx (.domain 5 none))], last := some 0 } } }.setBit F.SEAM_PAIR_CFG_pair_en true); let link := (0 : Fin 2); let b := ({  pairId := 0, unit := true, epoch := 0, mode := 4, ready := true, joining := false, sent := 70, echo := 0, delay := 0, sync := 3, linkSeq := 6, linkAck := 9, stamp := 0 } : Beat); (s.runs) ∧ (s.pairEn = true) ∧ (s.mode ≠ .doze) ∧ (s.mismatch b.pairId b.unit = false) ∧ ((s.seamLink link.val).gap b.linkSeq = true)) ∧
(let s : State := ({ base .paired with seam := { link0 := { up := true, synced := true, rx := 4, tx := 9, unacked := [(9, 0, .ctx (.domain 5 none))], last := some 0 } } }.setBit F.SEAM_PAIR_CFG_pair_en true); let link := (0 : Fin 2); let b := ({ pairId := 0, unit := true, epoch := 0, mode := 4, ready := true, joining := false, sent := 70, echo := 0, delay := 0, sync := 3, linkSeq := 5, linkAck := 9, stamp := 0 } : Beat); (s.runs) ∧ (s.pairEn = true) ∧ (s.mode ≠ .doze) ∧ (s.mismatch b.pairId b.unit = false) ∧ ((s.seamLink link.val).gap b.linkSeq = false) ∧ ((s.seamLink link.val).up = true)) ∧
(let s : State := ({ base .paired with seam := { link1 := { last := some 0, beats := 6 } } }.setBit F.SEAM_PAIR_CFG_pair_en true); let link := (1 : Fin 2); let b := ({ pairId := 0, unit := true, epoch := 0, mode := 4, ready := true, joining := false, sent := 70, echo := 0, delay := 0, sync := 3, linkSeq := 5, linkAck := 9, stamp := 0 } : Beat); (s.runs) ∧ (s.pairEn = true) ∧ (s.mode ≠ .doze) ∧ (s.mismatch b.pairId b.unit = false) ∧ ((s.seamLink link.val).gap b.linkSeq = false) ∧ ((s.seamLink link.val).up = false)) ∧
(let l := 0; (l = 0)) ∧
(let s : State := ((base .paired).setBit F.SEAM_PAIR_CFG_pair_en true); let b := ({  crcOk := false, pairId := 0, unit := true, epoch := 0, lead := false, held := true, ready := true, mode := 4, sync := 0 } : TackBeat); (s.runs) ∧ (s.pairEn = true) ∧ (b.crcOk = false)) ∧
(let s : State := ((base .paired).setBit F.SEAM_PAIR_CFG_pair_en true); let b := ({  crcOk := true, pairId := 0, unit := false, epoch := 0, lead := false, held := true, ready := true, mode := 4, sync := 0 } : TackBeat); (s.runs) ∧ (s.pairEn = true) ∧ (b.crcOk = true) ∧ (s.mismatch b.pairId b.unit = true)) ∧
(let s : State := ((base .paired).setBit F.SEAM_PAIR_CFG_pair_en true); let b := ({ crcOk := true, pairId := 0, unit := true, epoch := 0, lead := false, held := true, ready := true, mode := 4, sync := 0 } : TackBeat); (s.runs) ∧ (s.pairEn = true) ∧ (b.crcOk = true) ∧ (s.mismatch b.pairId b.unit = false)) ∧
(let s : State := ({ base .paired with seam := { link0 := { up := true, synced := true, rx := 4, tx := 9, unacked := [(9, 0, .ctx (.domain 5 none))], last := some 0 } } }.setBit F.SEAM_PAIR_CFG_pair_en true); (s.mode ≠ .solo)) ∧
(let p := ({ epoch := 7 } : Peer); (p.epoch < 2 ^ 32)) ∧
(let s : State := ({ base .paired with seam := { link1 := { beats := 8 }, link0 := { queue := [(0, .ctx (.domain 5 none))] } } }.setBit F.SEAM_PAIR_CFG_pair_en true); let link := (1 : Fin 2); (s.runs) ∧ (s.pairEn = true) ∧ ((s.seamLink link.val).up = false) ∧ (8 ≤ (s.seamLink link.val).beats)) ∧
(let s : State := ({ base .paired with seam := { link1 := { beats := 7 } } }.setBit F.SEAM_PAIR_CFG_pair_en true); let link := (1 : Fin 2); (s.runs) ∧ ((s.seamLink link.val).up = true ∨ (s.seamLink link.val).beats < 8 ∨ s.pairEn = false)) ∧
(let s : State := ({ base .paired with seam := { link0 := { up := true, synced := true, rx := 4, tx := 9, unacked := [(9, 0, .ctx (.domain 5 none))], last := some 0 } } }.setBit F.SEAM_PAIR_CFG_pair_en true); let link := (0 : Fin 2); (s.runs) ∧ ((s.seamLink link.val).up = true) ∧ ((s.seamLink (1 - link.val)).up = false)) ∧
(let s : State := (({ base .paired with seam := { link0 := { up := true, synced := true, rx := 4, tx := 9, unacked := [(9, 0, .ctx (.domain 5 none))], last := some 0 }, link1 := { up := true } } }.setBit F.SEAM_PAIR_CFG_pair_en true).setBit F.SEAM_STATUS_gates_open true); let link := (0 : Fin 2); (s.runs) ∧ ((s.seamLink link.val).up = true) ∧ ((s.seamLink (1 - link.val)).up = true)) ∧
(let x := ({ up := true, rx := 4, tx := 9, unacked := [(9, 0, .depart)] } : Link); (x.up = true)) ∧
(let s : State := ((base .paired).setBit F.SEAM_PAIR_CFG_pair_en true); let link := (0 : Fin 2); (s.runs) ∧ ((s.seamLink link.val).up = false)) ∧
(let s : State := ((({ base .paired with seam := { link0 := { up := true, synced := true, rx := 4, tx := 9, unacked := [(9, 0, .ctx (.domain 5 none))], last := some 0 } } }.setBit F.SEAM_PAIR_CFG_pair_en true).setBit F.SEAM_STATUS_gates_open true).setFld F.SEAM_STALE_CNT_replays 65535); let link := (0 : Fin 2); (s.runs) ∧ ((s.seamLink link.val).up = true) ∧ ((s.seamLink link.val).unacked ≠ [])) ∧
(let s : State := ((base .paired).setBit F.SEAM_PAIR_CFG_pair_en true); let link := (0 : Fin 2); (s.runs) ∧ ((s.seamLink link.val).up = false ∨ (s.seamLink link.val).unacked = [])) ∧
(let s : State := ((base .paired).setBit F.SEAM_PAIR_CFG_pair_en true); let kind := (1 : Fin 4); (s.runs) ∧ (s.pairEn = true) ∧ (kind.val ≤ 1)) ∧
(let s : State := ((base .paired).setBit F.SEAM_PAIR_CFG_pair_en true); (s.runs) ∧ (s.pairEn = true)) ∧
(let s : State := ((base .paired).setBit F.SEAM_PAIR_CFG_pair_en true); (s.runs) ∧ (s.pairEn = true)) ∧
(let s : State := ({ base .paired with seam := { link0 := { up := true, synced := true, rx := 4, tx := 9, unacked := [(9, 0, .ctx (.domain 5 none))], last := some 0 } } }.setBit F.SEAM_PAIR_CFG_pair_en true); (s.mode ≠ .doze) ∧ (s.seam.link0.up = true)) ∧
(let s : State := ({ base .paired with seam := { link0 := { up := true, synced := true, rx := 4, tx := 9, unacked := [(9, 0, .ctx (.domain 5 none))], last := some 0 } } }.setBit F.SEAM_PAIR_CFG_pair_en true); let h := ({ link := 0, linkSeq := 5, frames := 1, linkAck := 9, pairId := 0, epoch := 0, unit := true, pairSeq := 1, stamp := 0, local_ := false, relaxed := false } : SeamHdr); (s.runs) ∧ (s.mode ≠ .doze) ∧ (s.mode ≠ .save) ∧ (s.pairEn = true) ∧ (s.mismatch h.pairId h.unit = false) ∧ ((s.seamLink h.link.val).gap h.linkSeq = false)) ∧
(let s : State := ({ base .paired with seam := { link0 := { up := true, synced := true, rx := 4, tx := 9, unacked := [(9, 0, .ctx (.domain 5 none))], last := some 0 } } }.setBit F.SEAM_PAIR_CFG_pair_en true); let d := (⟨true, 0, true, 0⟩ : TackId); (s.runs) ∧ (s.pairEn = true) ∧ (d.crcOk = true) ∧ (s.mismatch d.pairId d.unit = false)) ∧
(let s : State := ({ base .paired with seam := { link0 := { up := true, synced := true, rx := 4, tx := 9, unacked := [(9, 0, .ctx (.domain 5 none))], last := some 0 } } }.setBit F.SEAM_PAIR_CFG_pair_en true); let d := (⟨true, 1, true, 0⟩ : TackId); (s.runs) ∧ (s.pairEn = true) ∧ (d.crcOk = true) ∧ (s.mismatch d.pairId d.unit = true)) ∧
(let s : State := ({ base .paired with seam := { link0 := { up := true, synced := true, rx := 4, tx := 9, unacked := [(9, 0, .ctx (.domain 5 none))], last := some 0 } } }.setBit F.SEAM_PAIR_CFG_pair_en true); let d := (⟨false, 0, true, 0⟩ : TackId); (s.runs) ∧ (s.pairEn = true) ∧ (d.crcOk = false)) ∧
(let s : State := ({ base .paired with seam := { link0 := { up := true, synced := true, rx := 4, tx := 9, unacked := [(9, 0, .ctx (.domain 5 none))], last := some 0 }, tackLast := some 0 } }.setBit F.SEAM_PAIR_CFG_pair_en true); let path := (Path.tack : Path); (s.runs) ∧ (s.mode ≠ .doze) ∧ (State.twin (s.doPathLost path) ≠ 2)) ∧
(let s : State := ({ base .paired with seam := { departed := true, link0 := { up := true, synced := true, rx := 4, tx := 9, unacked := [(9, 0, .ctx (.domain 5 none))], last := some 0 } } }.setBit F.SEAM_PAIR_CFG_pair_en true); (s.seam.departed = true)) ∧
(let s : State := ({ base .paired with seam := { tackLast := some 0 } }.setBit F.SEAM_PAIR_CFG_pair_en true); (s.seam.departed = false) ∧ (s.mode ≠ .doze) ∧ (s.doze.grace = false)) := by
  refine ⟨?_, ?_, ?_, ?_, ?_, ?_, ?_, ?_, ?_, ?_, ?_, ?_, ?_, ?_, ?_, ?_, ?_, ?_, ?_, ?_, ?_, ?_, ?_, ?_, ?_, ?_, ?_, ?_, ?_, ?_, ?_, ?_, ?_, ?_, ?_, ?_⟩ <;> (intros; decide +kernel +zetaReduce)

theorem test_witness_and_claims_met :
(let s : State := ((base .paired).setBit F.SEAM_PAIR_CFG_pair_en true); (s.runs)) ∧
(let s : State := ((base .paired).setBit F.SEAM_PAIR_CFG_pair_en true); (s.runs)) ∧
(let s : State := ({ base .paired with seam := { token := some (9, 100, false) } }.setBit F.SEAM_PAIR_CFG_pair_en true); (s.runs)) ∧
(let h := hdr; let w := ({ magicOk := true, pairId := 0, unit := false, epoch := 9, notAfter := 1000, sigOk := true, recOk := true } : WitToken); let s : State := (go h (.witnessToken w) ((({ base .solo with seam := {  } }.setBit F.SEAM_PAIR_CFG_pair_en true).setBit F.SEAM_WIT_CFG_token_en true))); (s.starts h (.witnessToken w)) ∧ (s.tokenOk w = true)) ∧
(let h := hdr; let w := ({ magicOk := true, pairId := 0, unit := false, epoch := 0, notAfter := 1000, sigOk := true, recOk := true } : WitToken); let s : State := (go h (.witnessToken w) (((base .paired).setBit F.SEAM_PAIR_CFG_pair_en true))); (s.starts h (.witnessToken w)) ∧ (s.tokenOk w = false) ∧ (w.recOk = true)) ∧
(let h := hdr; let w := ({ magicOk := true, pairId := 0, unit := false, epoch := 0, notAfter := 1000, sigOk := true, recOk := false } : WitToken); let s : State := (go h (.witnessToken w) (((base .paired).setBit F.SEAM_PAIR_CFG_pair_en true))); (s.starts h (.witnessToken w)) ∧ (w.recOk = false)) ∧
(let s : State := (({ base .solo with seam := {  } }.setBit F.SEAM_PAIR_CFG_pair_en true).setBit F.SEAM_WIT_CFG_token_en true); let w := ({ magicOk := true, pairId := 0, unit := false, epoch := 1, notAfter := 1, sigOk := true, recOk := true } : WitToken); (s.tokenOk w = true)) ∧
(let s : State := (({ base .paired with seam := {  } }.setBit F.SEAM_PAIR_CFG_pair_en true).setBit F.SEAM_STATUS_lead true); let d := (⟨true, 0, true, 0⟩ : TackId); (s.runs) ∧ (s.pairEn = true) ∧ (d.crcOk = true) ∧ (s.mismatch d.pairId d.unit = false) ∧ (s.mirrored = true) ∧ (s.lead = true)) ∧
(let s : State := ({ base .paired with seam := {  } }.setBit F.SEAM_PAIR_CFG_pair_en true); let d := (⟨true, 0, true, 0⟩ : TackId); (s.runs) ∧ (s.pairEn = true) ∧ (d.crcOk = true) ∧ (s.mismatch d.pairId d.unit = false) ∧ (s.mirrored = true) ∧ (s.lead = false)) ∧
(let s : State := ({ base .solo with seam := {  } }.setBit F.SEAM_PAIR_CFG_pair_en true); let d := (⟨true, 0, true, 3⟩ : TackId); (s.runs) ∧ (s.pairEn = true) ∧ (d.crcOk = true) ∧ (s.mismatch d.pairId d.unit = false) ∧ (s.mirrored = false)) ∧
(let s : State := ((base .paired).setBit F.SEAM_PAIR_CFG_pair_en true); let d := (⟨true, 0, false, 3⟩ : TackId); (s.runs) ∧ (s.pairEn = true) ∧ (d.crcOk = true) ∧ (s.mismatch d.pairId d.unit = true)) ∧
(let s : State := ((base .solo).setFld F.SEAM_PAIR_CFG_pair_en 0); (s.runs) ∧ (s.pairEn = false)) ∧
(let s : State := ({ base .bringup with seam := { joining := true } }.setBit F.SEAM_PAIR_CFG_pair_en true); (s.runs) ∧ (s.seam.joining = true)) ∧
(let s : State := ((base .paired).setBit F.SEAM_PAIR_CFG_pair_en true); (s.runs) ∧ (s.seam.joining = false)) ∧
(let s : State := ({ base .solo with ports := { announce := [(31, 2)] } }); let lport := (31 : Lport); let k := 1; (s.runs) ∧ (alGet s.ports.announce lport.val = some (k + 1))) ∧
(let s : State := ({ base .solo with ports := { announce := [(32, 1)] } }); let lport := (0 : Lport); let k := 0; (s.runs) ∧ (alGet s.ports.announce lport.val = none ∨ alGet s.ports.announce lport.val = some 0) ∧ (alGet s.ports.announce (lport.val + 32) = some (k + 1))) ∧
(let s : State := ((base .paired).setBit F.SEAM_PAIR_CFG_pair_en true); let lport := (0 : Lport); (s.runs) ∧ (alGet s.ports.announce lport.val = none) ∧ (alGet s.ports.announce (lport.val + 32) = none)) ∧
(let s : State := ({ base .solo with ports := { announce := [(5, 2)] } }); (alRises 0 s.ports.announce = true)) ∧
(let s : State := ((base .paired).setBit F.SEAM_PAIR_CFG_pair_en true); (s.held = false ∨ s.mode = .save)) ∧
(let s : State := (((({ base .paired with seam := {  } }.setBit F.SEAM_PAIR_CFG_pair_en true).setBit F.SEAM_STATUS_lead true).setFld F.SEAM_STATUS_twin 2).setBit F.SEAM_WIT_STAT_held true); (s.held = true) ∧ (s.mode ≠ .save) ∧ (s.mustTake = true)) ∧
(let s : State := (({ base .paired with seam := {  } }.setBit F.SEAM_PAIR_CFG_pair_en true).setFld F.SEAM_TWIN_CLAIM_epoch 7); (s.seam.token = none) ∧ (s.epoch < 2 ^ 32 - 1) ∧ (s.fld F.SEAM_TWIN_CLAIM_epoch < 2 ^ 32 - 1)) := by
  refine ⟨?_, ?_, ?_, ?_, ?_, ?_, ?_, ?_, ?_, ?_, ?_, ?_, ?_, ?_, ?_, ?_, ?_, ?_, ?_, ?_, ?_⟩ <;> (intros; decide +kernel +zetaReduce)

theorem test_pair_order_met :
(let s : State := ({ base .paired with seam := { link0 := { up := true, synced := true, rx := 4, tx := 9, unacked := [(9, 0, .ctx (.domain 5 none))], last := some 0 }, applied := 1 } }.setBit F.SEAM_PAIR_CFG_pair_en true); let h := ({ link := 0, linkSeq := 5, frames := 1, linkAck := 9, pairId := 0, epoch := 0, unit := true, pairSeq := 1, stamp := 0, local_ := false, relaxed := false } : SeamHdr); (s.runs) ∧ (s.takesFrame h) ∧ (s.lead = false) ∧ (h.pairSeq ≤ s.seam.applied)) ∧
(let s : State := ({ base .paired with seam := { link0 := { up := true, synced := true, rx := 4, tx := 9, unacked := [(9, 0, .ctx (.domain 5 none))], last := some 0 }, applied := 5 } }.setBit F.SEAM_PAIR_CFG_pair_en true); let h := ({ link := 0, linkSeq := 5, frames := 1, linkAck := 9, pairId := 0, epoch := 0, unit := true, pairSeq := 1, stamp := 0, local_ := false, relaxed := false } : SeamHdr); (s.runs) ∧ (s.takesFrame h) ∧ (h.local_ = false)) ∧
(let s : State := ({ base .paired with seam := { link0 := { up := true, synced := true, rx := 4, tx := 9, unacked := [(9, 0, .ctx (.domain 5 none))], last := some 0 }, applied := 5 } }.setBit F.SEAM_PAIR_CFG_pair_en true); let h := ({ link := 0, linkSeq := 5, frames := 1, linkAck := 9, pairId := 0, epoch := 0, unit := true, pairSeq := 1, stamp := 0, local_ := false, relaxed := false } : SeamHdr); (s.runs) ∧ (s.takesFrame h)) ∧
(let s : State := ({ base .paired with seam := { link0 := { up := true, synced := true, rx := 4, tx := 9, unacked := [(9, 0, .ctx (.domain 5 none))], last := some 0 }, applied := 5 } }.setBit F.SEAM_PAIR_CFG_pair_en true); let h := ({ link := 0, linkSeq := 5, frames := 1, linkAck := 9, pairId := 0, epoch := 0, unit := true, pairSeq := 1, stamp := 0, local_ := false, relaxed := false } : SeamHdr); (s.runs) ∧ (s.takesFrame h)) ∧
(let s : State := ({ base .paired with seam := { link0 := { up := true, synced := true, rx := 4, tx := 9, unacked := [(9, 0, .ctx (.domain 5 none))], last := some 0 }, applied := 5 } }.setBit F.SEAM_PAIR_CFG_pair_en true); let q := 5; (s.lead = true ∨ s.mirrored = false ∨ q ≤ s.seam.applied)) ∧
(let s : State := ({ base .paired with seam := { link0 := { up := true, synced := true, rx := 4, tx := 9, unacked := [(9, 0, .ctx (.domain 5 none))], last := some 0 }, applied := 5 } }.setBit F.SEAM_PAIR_CFG_pair_en true); let q := 7; (s.lead = false) ∧ (s.mirrored = true) ∧ (s.seam.applied < q)) ∧
(let s : State := ({ base .paired with seam := { link0 := { up := true, synced := true, rx := 4, tx := 9, unacked := [(9, 0, .ctx (.domain 5 none))], last := some 0 }, applied := 5 } }.setBit F.SEAM_PAIR_CFG_pair_en true); let h := ({  link := 0, linkSeq := 5, frames := 1, linkAck := 9, pairId := 0, epoch := 0, unit := true, pairSeq := 7, stamp := 0, local_ := true, relaxed := false } : SeamHdr); (s.runs) ∧ (s.takesFrame h) ∧ (s.lead = false) ∧ (s.seam.applied < h.pairSeq) ∧ (h.local_ = true)) ∧
(let s : State := ({ base .paired with seam := { link0 := { up := true, synced := true, rx := 4, tx := 9, unacked := [(9, 0, .ctx (.domain 5 none))], last := some 0 } } }.setBit F.SEAM_PAIR_CFG_pair_en true); let h := ({  link := 0, linkSeq := 5, frames := 1, linkAck := 9, pairId := 0, epoch := 0, unit := false, pairSeq := 1, stamp := 0, local_ := false, relaxed := false } : SeamHdr); (s.runs) ∧ (s.pairEn = true) ∧ (s.mirrored = true) ∧ (s.mismatch h.pairId h.unit = true)) ∧
(let s : State := ({ base .paired with seam := { link0 := { up := true, synced := true, rx := 4, tx := 9, unacked := [(9, 0, .ctx (.domain 5 none))], last := some 0 } } }.setBit F.SEAM_PAIR_CFG_pair_en true); let h := ({  link := 0, linkSeq := 4, frames := 1, linkAck := 9, pairId := 0, epoch := 0, unit := true, pairSeq := 1, stamp := 0, local_ := false, relaxed := false } : SeamHdr); (s.runs) ∧ (s.pairEn = true) ∧ (s.mirrored = true) ∧ (s.mismatch h.pairId h.unit = false) ∧ ((s.seamLink h.link.val).gap h.linkSeq = true)) ∧
(let s : State := ({ base .paired with seam := { link0 := { up := true, synced := true, rx := 4, tx := 9, unacked := [(9, 0, .ctx (.domain 5 none))], last := some 0 } } }.setBit F.SEAM_PAIR_CFG_pair_en true); let h := ({  link := 0, linkSeq := 5, frames := 1, linkAck := 9, pairId := 0, epoch := 2, unit := true, pairSeq := 1, stamp := 0, local_ := false, relaxed := false } : SeamHdr); (s.runs) ∧ (State.takesFrame s { h with epoch := s.epoch }) ∧ (s.epoch < h.epoch)) ∧
(let s : State := (({ base .paired with seam := { link0 := { up := true, synced := true, rx := 4, tx := 9, unacked := [(9, 0, .ctx (.domain 5 none))], last := some 0 } } }.setBit F.SEAM_PAIR_CFG_pair_en true).setFld F.SEAM_CLAIM_epoch 3); let h := ({ link := 0, linkSeq := 5, frames := 1, linkAck := 9, pairId := 0, epoch := 0, unit := true, pairSeq := 1, stamp := 0, local_ := false, relaxed := false } : SeamHdr); (s.runs) ∧ (State.takesFrame s { h with epoch := s.epoch }) ∧ (h.epoch < s.epoch)) ∧
(let s : State := (({ base .paired with seam := { link0 := { up := true, synced := true, rx := 4, tx := 9, unacked := [(9, 0, .ctx (.domain 5 none))], last := some 0 } } }.setBit F.SEAM_PAIR_CFG_pair_en true).setFld F.SEAM_CLAIM_epoch 3); let h := ({ link := 0, linkSeq := 5, frames := 1, linkAck := 9, pairId := 0, epoch := 0, unit := true, pairSeq := 1, stamp := 0, local_ := false, relaxed := false } : SeamHdr); (s.runs) ∧ (State.takesFrame s { h with epoch := s.epoch }) ∧ (h.epoch < s.epoch)) ∧
(let s : State := (({ base .paired with seam := { link0 := { up := true, synced := true, rx := 4, tx := 9, unacked := [(9, 0, .ctx (.domain 5 none))], last := some 0 } } }.setBit F.SEAM_PAIR_CFG_pair_en true).setBit F.SEAM_STATUS_lead true); let h := ({ link := 0, linkSeq := 5, frames := 1, linkAck := 9, pairId := 0, epoch := 0, unit := true, pairSeq := 1, stamp := 0, local_ := false, relaxed := false } : SeamHdr); (s.runs) ∧ (s.takesFrame h) ∧ (s.lead = true)) ∧
(let s : State := ({ base .paired with seam := { link0 := { up := true, synced := true, rx := 4, tx := 9, unacked := [(9, 0, .ctx (.domain 5 none))], last := some 0 } } }.setBit F.SEAM_PAIR_CFG_pair_en true); let h := ({ link := 0, linkSeq := 5, frames := 1, linkAck := 9, pairId := 0, epoch := 0, unit := true, pairSeq := 1, stamp := 0, local_ := false, relaxed := false } : SeamHdr); (s.runs) ∧ (s.takesFrame h) ∧ (s.lead = false)) ∧
(let s : State := (({ base .paired with seam := { link0 := { up := true, synced := true, rx := 4, tx := 9, unacked := [(9, 0, .ctx (.domain 5 none))], last := some 0 } } }.setBit F.SEAM_PAIR_CFG_pair_en true).setBit F.SEAM_STATUS_lead true); let h := ({ link := 0, linkSeq := 5, frames := 1, linkAck := 9, pairId := 0, epoch := 0, unit := true, pairSeq := 1, stamp := 0, local_ := false, relaxed := false } : SeamHdr); (s.runs) ∧ (s.takesFrame h) ∧ (s.lead = true)) ∧
(let s : State := (({ base .paired with seam := { link0 := { up := true, synced := true, rx := 4, tx := 9, unacked := [(9, 0, .ctx (.domain 5 none))], last := some 0 } } }.setBit F.SEAM_PAIR_CFG_pair_en true).setBit F.SEAM_STATUS_lead true); let h := ({ link := 0, linkSeq := 5, frames := 1, linkAck := 9, pairId := 0, epoch := 0, unit := true, pairSeq := 1, stamp := 0, local_ := false, relaxed := false } : SeamHdr); (s.runs) ∧ (s.takesFrame h) ∧ (s.lead = true)) ∧
(let s : State := ({ base .paired with seam := { link0 := { up := true, synced := true, rx := 4, tx := 9, unacked := [(9, 0, .ctx (.domain 5 none))], last := some 0 } } }.setBit F.SEAM_PAIR_CFG_pair_en true); let h := ({ link := 0, linkSeq := 5, frames := 1, linkAck := 9, pairId := 0, epoch := 0, unit := true, pairSeq := 1, stamp := 0, local_ := false, relaxed := false } : SeamHdr); (s.runs) ∧ (s.takesFrame h) ∧ (s.lead = false)) ∧
(let s : State := ({ ({ base .paired with seam := { link0 := { up := true, synced := true, rx := 4, tx := 9, unacked := [(9, 0, .ctx (.domain 5 none))], last := some 0 } } }.setBit F.SEAM_PAIR_CFG_pair_en true) with kept := { qps := [(3, { state := .rtr, msgs := [{ MSG with fwd := true }] })] } }); let h := ({ link := 0, linkSeq := 5, frames := 1, linkAck := 9, pairId := 0, epoch := 0, unit := true, pairSeq := 1, stamp := 0, local_ := false, relaxed := false } : SeamHdr); let qp := (3 : Qpi); let psn := 8; let m := { MSG with fwd := true }; (s.runs) ∧ (s.takesFrame h) ∧ (s.lead = false) ∧ ((s.qpAt qp.val).bind (fun (q : Qp) => q.msgs.find? (fun (x : Msg) => x.psn = psn ∧ x.fwd ∧ !x.committed)) = some m) ∧ (m.region.any (fun i => (s.rgn i).state == .closing) = false)) ∧
(let s : State := ({ ({ base .paired with seam := { link0 := { up := true, synced := true, rx := 4, tx := 9, unacked := [(9, 0, .ctx (.domain 5 none))], last := some 0 } } }.setBit F.SEAM_PAIR_CFG_pair_en true) with kept := { qps := [(3, { state := .rtr, msgs := [{ MSG with fwd := true }] })], rdt := [(7, { state := .closing })] } }); let h := ({ link := 0, linkSeq := 5, frames := 1, linkAck := 9, pairId := 0, epoch := 0, unit := true, pairSeq := 1, stamp := 0, local_ := false, relaxed := false } : SeamHdr); let qp := (3 : Qpi); let psn := 8; let m := { MSG with fwd := true }; (s.runs) ∧ (s.takesFrame h) ∧ (s.lead = false) ∧ ((s.qpAt qp.val).bind (fun (q : Qp) => q.msgs.find? (fun (x : Msg) => x.psn = psn ∧ x.fwd ∧ !x.committed)) = some m) ∧ (m.region.any (fun i => (s.rgn i).state == .closing) = true)) ∧
(let s : State := (({ base .paired with seam := { link0 := { up := true, synced := true, rx := 4, tx := 9, unacked := [(9, 0, .ctx (.domain 5 none))], last := some 0 } } }.setBit F.SEAM_PAIR_CFG_pair_en true).setBit F.SEAM_STATUS_lead true); let h := ({ link := 0, linkSeq := 5, frames := 1, linkAck := 9, pairId := 0, epoch := 0, unit := true, pairSeq := 1, stamp := 0, local_ := false, relaxed := false } : SeamHdr); (s.runs) ∧ (s.takesFrame h) ∧ (s.lead = true)) ∧
(let s : State := ({ ({ base .paired with seam := { link0 := { up := true, synced := true, rx := 4, tx := 9, unacked := [(9, 0, .ctx (.domain 5 none))], last := some 0 } } }.setBit F.SEAM_PAIR_CFG_pair_en true) with kept := { domains := [(5, ⟨1, 1, 0⟩)] } }); let h := ({ link := 0, linkSeq := 5, frames := 1, linkAck := 9, pairId := 0, epoch := 0, unit := true, pairSeq := 1, stamp := 0, local_ := false, relaxed := false } : SeamHdr); (s.runs) ∧ (s.takesFrame h) ∧ (s.lead = false)) ∧
(let s : State := ({ ({ base .paired with seam := { link0 := { up := true, synced := true, rx := 4, tx := 9, unacked := [(9, 0, .ctx (.domain 5 none))], last := some 0 } } }.setBit F.SEAM_PAIR_CFG_pair_en true) with kept := { domains := [(5, ⟨1, 1, 0⟩)] }, shared := [(⟨hdr, .destroyDomain 5, [], true⟩ : Shared)] }); let f := (⟨hdr, .destroyDomain 5, false⟩ : GateCmd); let x := (⟨hdr, .destroyDomain 5, [], true⟩ : Shared); (s.shared.find? (fun (x : Shared) => x.sent && x.hdr.tag == f.hdr.tag && x.cmd == f.cmd) = some x)) ∧
(let s : State := ({ base .paired with seam := { link0 := { up := true, synced := true, rx := 4, tx := 9, unacked := [(9, 0, .ctx (.domain 5 none))], last := some 0 } } }.setBit F.SEAM_PAIR_CFG_pair_en true); let f := (⟨hdr, .repair 5, false⟩ : GateCmd); (s.shared = []) ∧ (cmdLocal f.cmd = true)) ∧
(let s : State := ({ ({ base .paired with seam := { link0 := { up := true, synced := true, rx := 4, tx := 9, unacked := [(9, 0, .ctx (.domain 5 none))], last := some 0 } } }.setBit F.SEAM_PAIR_CFG_pair_en true) with kept := { domains := [(5, ⟨1, 1, 0⟩)] } }); let f := (⟨hdr, .destroyDomain 5, false⟩ : GateCmd); (s.shared = []) ∧ (cmdLocal f.cmd = false) ∧ (cmdLasts f.cmd = false)) ∧
(let s : State := ({ ({ base .paired with seam := { link0 := { up := true, synced := true, rx := 4, tx := 9, unacked := [(9, 0, .ctx (.domain 5 none))], last := some 0 } } }.setBit F.SEAM_PAIR_CFG_pair_en true) with kept := { domains := [(5, ⟨1, 1, 0⟩)] } }); let f := (⟨hdr, .destroyDomain 5, false⟩ : GateCmd); (s.shared = []) ∧ (cmdLasts f.cmd = false)) ∧
(let s : State := ({ ({ base .paired with seam := { link0 := { up := true, synced := true, rx := 4, tx := 9, unacked := [(9, 0, .ctx (.domain 5 none))], last := some 0 } } }.setBit F.SEAM_PAIR_CFG_pair_en true) with shared := [(⟨hdr, .destroyDomain 5, [], false⟩ : Shared)] }); let h := ({ link := 0, linkSeq := 5, frames := 1, linkAck := 9, pairId := 0, epoch := 0, unit := true, pairSeq := 1, stamp := 0, local_ := false, relaxed := false } : SeamHdr); let of_ := hdr; let code := (cmdCode (.destroyDomain 5)); let st := Status.busy; let vals := ([] : List Nat); let x := (⟨hdr, .destroyDomain 5, [], false⟩ : Shared); (s.runs) ∧ (s.takesFrame h) ∧ (st ≠ .ok) ∧ (code ≠ cmdCode (.deregister 0) ∨ s.awaitsDrain of_ vals = false) ∧ (s.shared.find? (fun (y : Shared) => y.named of_ code) = some x)) ∧
(let s : State := ({ ({ base .paired with seam := { link0 := { up := true, synced := true, rx := 4, tx := 9, unacked := [(9, 0, .ctx (.domain 5 none))], last := some 0 } } }.setBit F.SEAM_PAIR_CFG_pair_en true) with kept := { domains := [(5, ⟨1, 1, 0⟩)] }, shared := [(⟨hdr, .destroyDomain 5, [], false⟩ : Shared)] }); let h := ({ link := 0, linkSeq := 5, frames := 1, linkAck := 9, pairId := 0, epoch := 0, unit := true, pairSeq := 1, stamp := 0, local_ := false, relaxed := false } : SeamHdr); let of_ := hdr; let code := (cmdCode (.destroyDomain 5)); let vals := ([] : List Nat); let x := (⟨hdr, .destroyDomain 5, [], false⟩ : Shared); (s.runs) ∧ (s.takesFrame h) ∧ (code ≠ cmdCode (.deregister 0) ∨ s.awaitsDrain of_ vals = false) ∧ (s.shared.find? (fun (y : Shared) => y.named of_ code) = some x)) ∧
(let s : State := ({ ({ base .paired with seam := { link0 := { up := true, synced := true, rx := 4, tx := 9, unacked := [(9, 0, .ctx (.domain 5 none))], last := some 0 } } }.setBit F.SEAM_PAIR_CFG_pair_en true) with kept := { rdt := [(7, { regDescriptor 4 REGARGS with state := .closing, closer := some hdr, selfDone := true, twinDone := false })] } }); let h := ({ link := 0, linkSeq := 5, frames := 1, linkAck := 9, pairId := 0, epoch := 0, unit := true, pairSeq := 1, stamp := 0, local_ := false, relaxed := false } : SeamHdr); let of_ := hdr; let i := 7; let l := ([] : List Nat); (s.runs) ∧ (s.takesFrame h) ∧ (s.awaitsDrain of_ (i :: l) = true)) ∧
(let s : State := ({ ({ base .paired with seam := { link0 := { up := true, synced := true, rx := 4, tx := 9, unacked := [(9, 0, .ctx (.domain 5 none))], last := some 0 } } }.setBit F.SEAM_PAIR_CFG_pair_en true) with kept := { rdt := [(7, { regDescriptor 4 REGARGS with state := .closing, closer := some hdr, selfDone := false, twinDone := false })] } }); let h := ({ link := 0, linkSeq := 5, frames := 1, linkAck := 9, pairId := 0, epoch := 0, unit := true, pairSeq := 1, stamp := 0, local_ := false, relaxed := false } : SeamHdr); let of_ := hdr; let i := 7; let l := ([] : List Nat); let st := Status.invalid; (s.runs) ∧ (s.takesFrame h) ∧ (st ≠ .ok) ∧ (s.awaitsDrain of_ (i :: l) = true)) ∧
(let s : State := ({ ({ base .paired with seam := { link0 := { up := true, synced := true, rx := 4, tx := 9, unacked := [(9, 0, .ctx (.domain 5 none))], last := some 0 } } }.setBit F.SEAM_PAIR_CFG_pair_en true) with shared := [(⟨hdr, .destroyDomain 5, [], false⟩ : Shared)] }); let h := ({ link := 0, linkSeq := 5, frames := 1, linkAck := 9, pairId := 0, epoch := 0, unit := true, pairSeq := 1, stamp := 0, local_ := false, relaxed := false } : SeamHdr); let of_ := hdr; let code := (cmdCode (.repair 5)); let vals := ([] : List Nat); (s.runs) ∧ (s.takesFrame h) ∧ (code ≠ cmdCode (.deregister 0) ∨ s.awaitsDrain of_ vals = false) ∧ (s.shared.find? (fun (y : Shared) => y.named of_ code) = none)) ∧
(let x := (⟨hdr, .destroyDomain 5, [], true⟩ : Shared); (x.sent = true)) ∧
(let s : State := ({ base .paired with seam := { link0 := { up := true, synced := true, rx := 4, tx := 9, unacked := [(9, 0, .ctx (.domain 5 none))], last := some 0 } } }.setBit F.SEAM_PAIR_CFG_pair_en true); let h := ({ link := 0, linkSeq := 5, frames := 1, linkAck := 9, pairId := 0, epoch := 0, unit := true, pairSeq := 1, stamp := 0, local_ := false, relaxed := false } : SeamHdr); (s.runs) ∧ (s.takesFrame h)) := by
  refine ⟨?_, ?_, ?_, ?_, ?_, ?_, ?_, ?_, ?_, ?_, ?_, ?_, ?_, ?_, ?_, ?_, ?_, ?_, ?_, ?_, ?_, ?_, ?_, ?_, ?_, ?_, ?_, ?_, ?_, ?_, ?_, ?_⟩ <;> (intros; decide +kernel +zetaReduce)

theorem test_resync_runs_met :
(let s : State := ({ ((({ base .resync with seam := { link0 := { up := true, synced := true, rx := 4, tx := 9, unacked := [(9, 0, .ctx (.domain 5 none))], last := some 0 }, copySet := [1, 2], inflight := [(4, 3)] } }.setBit F.SEAM_PAIR_CFG_pair_en true).setBit F.SEAM_STATUS_lead true).setBit F.SEAM_STATUS_gates_open true) with kept := { tiles := [(1, { home := .dram, frame := 66000 })] } }); let tile := 1; let l := ([2] : List Nat); (s.runs) ∧ (s.seam.copySet = tile :: l) ∧ (s.lead = true) ∧ (s.mirrored = true) ∧ (s.gates = true) ∧ (s.twinUp = true) ∧ (s.seam.blind = false) ∧ (tile ∉ l)) ∧
(let s : State := ((base .paired).setBit F.SEAM_PAIR_CFG_pair_en true); (s.runs) ∧ (s.seam.copySet = [] ∨ s.lead = false ∨ s.gates = false)) ∧
(let s : State := ({ base .resync with seam := { link0 := { up := true, synced := true, rx := 4, tx := 9, unacked := [(9, 0, .ctx (.domain 5 none))], last := some 0 } } }.setBit F.SEAM_PAIR_CFG_pair_en true); (s.mode = .resync) ∧ (s.seam.blind = false) ∧ (s.twinUp = true) ∧ (s.copyBytes < s.fld F.SEAM_RSY_CFG_cut_mib * 2 ^ 20)) ∧
(let s : State := ((base .paired).setBit F.SEAM_PAIR_CFG_pair_en true); (s.runs) ∧ (s.mode ≠ .resync ∨ s.seam.blind = true ∨ s.fld F.SEAM_RSY_CFG_cut_mib * 2 ^ 20 ≤ s.copyBytes)) ∧
(let s : State := (({ base .paired with seam := { link0 := { up := true, synced := true, rx := 4, tx := 9, unacked := [(9, 0, .ctx (.domain 5 none))], last := some 0 }, copying := true } }.setBit F.SEAM_PAIR_CFG_pair_en true).setBit F.SEAM_STATUS_lead true); (s.mode = .paired) ∧ (s.seam.copying = true) ∧ (s.seam.copySet = []) ∧ (s.seam.inflight = []) ∧ (s.lead = true)) ∧
(let s : State := ({ base .paired with seam := { link0 := { up := true, synced := true, rx := 4, tx := 9, unacked := [(9, 0, .ctx (.domain 5 none))], last := some 0 }, copying := true } }.setBit F.SEAM_PAIR_CFG_pair_en true); (s.mode = .paired) ∧ (s.seam.copying = true) ∧ (s.seam.copySet = []) ∧ (s.seam.inflight = []) ∧ (s.lead = false)) ∧
(let s : State := ((base .paired).setBit F.SEAM_PAIR_CFG_pair_en true); (s.runs) ∧ (s.mode ≠ .paired ∨ s.seam.copying = false ∨ s.seam.copySet ≠ [] ∨ s.seam.inflight ≠ [])) ∧
(let h := hdr; let ns := ([3] : List Qpi); let s : State := (go h (.giveBack ns) (({ ({ base .paired with seam := { link0 := { up := true, synced := true, rx := 4, tx := 9, unacked := [(9, 0, .ctx (.domain 5 none))], last := some 0 } } }.setBit F.SEAM_PAIR_CFG_pair_en true) with kept := { qps := [(3, { state := .rtr })] } }))); (s.starts h (.giveBack ns)) ∧ (s.mode = .paired) ∧ (ns ≠ []) ∧ (∀ n ∈ ns, ∃ q, s.qpAt n.val = some q ∧ s.hosts q = true)) ∧
(let h := hdr; let ns := ([3] : List Qpi); let s : State := (go h (.giveBack ns) (({ ((base .solo).setFld F.SEAM_PAIR_CFG_pair_en 0) with kept := { qps := [(3, { state := .rtr })] } }))); (s.starts h (.giveBack ns)) ∧ (s.mode ≠ .paired) ∧ (ns ≠ []) ∧ (∀ n ∈ ns, ∃ q, s.qpAt n.val = some q ∧ s.hosts q = true)) ∧
(let h := hdr; let n := (3 : Qpi); let s : State := (go h (.giveBack ([n])) (((base .paired).setBit F.SEAM_PAIR_CFG_pair_en true))); (s.starts h (.giveBack ([n]))) ∧ (s.qpAt n.val = none)) ∧
(let s : State := ({ base .paired with kept := { qps := [(3, { fwdUntil := some 9 })] } }); (s.runs)) := by
  refine ⟨?_, ?_, ?_, ?_, ?_, ?_, ?_, ?_, ?_, ?_, ?_⟩
  · intros; decide +kernel +zetaReduce
  · intros; decide +kernel +zetaReduce
  · intros; decide +kernel +zetaReduce
  · intros; decide +kernel +zetaReduce
  · intros; decide +kernel +zetaReduce
  · intros; decide +kernel +zetaReduce
  · intros; decide +kernel +zetaReduce
  · exact ⟨by decide +kernel, by decide +kernel, by decide, by rintro n ⟨⟩; exact ⟨_, rfl, by decide +kernel⟩; contradiction⟩
  · exact ⟨by decide +kernel, by decide +kernel, by decide, by rintro n ⟨⟩; exact ⟨_, rfl, by decide +kernel⟩; contradiction⟩
  · intros; decide +kernel +zetaReduce
  · intros; decide +kernel +zetaReduce

theorem test_rail_sequence_met :
(let s : State := ({ base .reset with fen := { vdd := false } }); (s.fen.vdd = false)) ∧
(let s : State := ({ base .reset with fen := { trigger := false } }); (s.fen.vdd = true) ∧ (s.fen.inputGood = false) ∧ (s.fen.phase = .off ∨ s.fen.phase = .removing)) ∧
(let s : State := ({ base .solo with fen := { phase := .on } }); (s.fen.vdd = true) ∧ (s.fen.inputGood = false) ∧ (s.fen.phase ≠ .off) ∧ (s.fen.phase ≠ .removing)) ∧
(let s : State := ({ base .solo with fen := { inputGood := true } }); (s.fen.vdd = true) ∧ (s.fen.inputGood = true)) ∧
(let s : State := ({ base .reset with fen := { phase := .removing, trigger := false } }); (s.fen.vdd = true) ∧ (s.fen.phase = .off ∨ s.fen.phase = .removing)) ∧
(let s : State := ({ base .solo with fen := { phase := .on } }); (s.fen.vdd = true) ∧ (s.fen.phase ≠ .off) ∧ (s.fen.phase ≠ .removing)) ∧
(let s : State := ({ base .reset with fen := { inputGood := true }, nor := { mib := 64, copyA := some ({ formOk := true, build := 1, svn := 0, key := 0, onHx := true, onMx := true, sigOk := true, digestOk := true, rails := [({ rail := 4, pg := true, core := false, critical := true, serdes := false, rst := 3#8, delayUs := 0, pg100us := 0 } : RailEntry)], railsOk := true, eRated := 0, ocv := [], pairId := 0, dramMax := 0, regs := [] } : ImageInfo) } }); let tb := ([({ rail := 4, pg := true, core := false, critical := true, serdes := false, rst := 3#8, delayUs := 0, pg100us := 0 } : RailEntry)] : List RailEntry); (s.fen.vdd = true) ∧ (s.fen.phase = .off) ∧ (s.fen.trigger = true) ∧ (s.fen.inputGood = true) ∧ (railsOf (s.nor.copy (s.bit F.NORC_FEN_SEL_copy)) = some tb)) ∧
(let s : State := ({ base .reset with fen := { inputGood := true } }); (s.fen.vdd = true) ∧ (s.fen.phase = .off) ∧ (s.fen.trigger = true) ∧ (s.fen.inputGood = true) ∧ (railsOf (s.nor.copy false) = none) ∧ (railsOf (s.nor.copy true) = none)) ∧
(let s : State := ({ base .reset with fen := {  } }); (s.fen.vdd = true) ∧ (s.fen.phase ≠ .off ∨ s.fen.trigger = false ∨ s.fen.inputGood = false)) ∧
(let s : State := ({ base .reset with fen := { phase := .delay, table := [({ rail := 4, pg := true, core := false, critical := true, serdes := false, rst := 3#8, delayUs := 0, pg100us := 0 } : RailEntry), ({ rail := 5, pg := false, core := false, critical := false, serdes := false, rst := 0#8, delayUs := 0, pg100us := 0 } : RailEntry), ({ rail := 6, pg := false, core := true, critical := true, serdes := false, rst := 0#8, delayUs := 0, pg100us := 0 } : RailEntry)] } }); let e := ({ rail := 4, pg := true, core := false, critical := true, serdes := false, rst := 3#8, delayUs := 0, pg100us := 0 } : RailEntry); (s.fen.vdd = true) ∧ (s.fen.phase = .delay) ∧ (s.fen.table[s.fen.step]? = some e) ∧ (e.core = false)) ∧
(let s : State := ({ base .reset with fen := { phase := .delay, step := 2, table := [({ rail := 4, pg := true, core := false, critical := true, serdes := false, rst := 3#8, delayUs := 0, pg100us := 0 } : RailEntry), ({ rail := 5, pg := false, core := false, critical := false, serdes := false, rst := 0#8, delayUs := 0, pg100us := 0 } : RailEntry), ({ rail := 6, pg := false, core := true, critical := true, serdes := false, rst := 0#8, delayUs := 0, pg100us := 0 } : RailEntry)] } }); let e := ({ rail := 6, pg := false, core := true, critical := true, serdes := false, rst := 0#8, delayUs := 0, pg100us := 0 } : RailEntry); (s.fen.vdd = true) ∧ (s.fen.phase = .delay) ∧ (s.fen.table[s.fen.step]? = some e) ∧ (e.core = true)) ∧
(let s : State := ({ base .reset with fen := {  } }); (s.fen.vdd = true) ∧ (s.fen.phase ≠ .delay)) ∧
(let s : State := ({ base .reset with fen := { phase := .pg, table := [({ rail := 4, pg := true, core := false, critical := true, serdes := false, rst := 3#8, delayUs := 0, pg100us := 0 } : RailEntry), ({ rail := 5, pg := false, core := false, critical := false, serdes := false, rst := 0#8, delayUs := 0, pg100us := 0 } : RailEntry), ({ rail := 6, pg := false, core := true, critical := true, serdes := false, rst := 0#8, delayUs := 0, pg100us := 0 } : RailEntry)] } }); let e := ({ rail := 4, pg := true, core := false, critical := true, serdes := false, rst := 3#8, delayUs := 0, pg100us := 0 } : RailEntry); let rail := (4 : Fin 24); (s.fen.vdd = true) ∧ (s.fen.phase = .pg) ∧ (s.fen.table[s.fen.step]? = some e) ∧ (e.rail = rail)) ∧
(let s : State := ({ base .reset with fen := { phase := .pg, table := [({ rail := 4, pg := true, core := false, critical := true, serdes := false, rst := 3#8, delayUs := 0, pg100us := 0 } : RailEntry), ({ rail := 5, pg := false, core := false, critical := false, serdes := false, rst := 0#8, delayUs := 0, pg100us := 0 } : RailEntry), ({ rail := 6, pg := false, core := true, critical := true, serdes := false, rst := 0#8, delayUs := 0, pg100us := 0 } : RailEntry)] } }); let e := ({ rail := 4, pg := true, core := false, critical := true, serdes := false, rst := 3#8, delayUs := 0, pg100us := 0 } : RailEntry); let rail := (5 : Fin 24); (s.fen.vdd = true) ∧ (s.fen.table[s.fen.step]? = some e) ∧ (s.fen.phase ≠ .pg ∨ e.rail ≠ rail)) ∧
(let s : State := ({ base .reset with fen := { phase := .settle, step := 1, table := [({ rail := 4, pg := true, core := false, critical := true, serdes := false, rst := 3#8, delayUs := 0, pg100us := 0 } : RailEntry), ({ rail := 5, pg := false, core := false, critical := false, serdes := false, rst := 0#8, delayUs := 0, pg100us := 0 } : RailEntry), ({ rail := 6, pg := false, core := true, critical := true, serdes := false, rst := 0#8, delayUs := 0, pg100us := 0 } : RailEntry)] } }); let e := ({ rail := 5, pg := false, core := false, critical := false, serdes := false, rst := 0#8, delayUs := 0, pg100us := 0 } : RailEntry); (s.fen.vdd = true) ∧ (s.fen.phase = .settle) ∧ (s.fen.table[s.fen.step]? = some e)) ∧
(let s : State := ({ base .reset with fen := {  } }); (s.fen.vdd = true) ∧ (s.fen.phase ≠ .settle)) ∧
(let s : State := ({ base .reset with fen := { phase := .pg, due := [0], table := [({ rail := 4, pg := true, core := false, critical := true, serdes := false, rst := 3#8, delayUs := 0, pg100us := 0 } : RailEntry), ({ rail := 5, pg := false, core := false, critical := false, serdes := false, rst := 0#8, delayUs := 0, pg100us := 0 } : RailEntry), ({ rail := 6, pg := false, core := true, critical := true, serdes := false, rst := 0#8, delayUs := 0, pg100us := 0 } : RailEntry)] } }); let e := ({ rail := 4, pg := true, core := false, critical := true, serdes := false, rst := 3#8, delayUs := 0, pg100us := 0 } : RailEntry); (e.core = false) ∧ (s.fen.step + 1 < s.fen.table.length)) ∧
(let s : State := ({ base .reset with fen := { due := [7] } }); let n := (7 : Fin 8); (s.fen.vdd = true) ∧ (n.val ∈ s.fen.due)) ∧
(let s : State := ({ base .reset with fen := { due := [6] } }); let n := (7 : Fin 8); (s.fen.vdd = true) ∧ (n.val ∉ s.fen.due)) ∧
(let s : State := ({ base .solo with fen := {  } }); (s.runs)) := by
  refine ⟨?_, ?_, ?_, ?_, ?_, ?_, ?_, ?_, ?_, ?_, ?_, ?_, ?_, ?_, ?_, ?_, ?_, ?_, ?_, ?_⟩ <;> (intros; decide +kernel +zetaReduce)

theorem test_rails_removed_met :
(let s : State := ({ base .paired with fen := { phase := .on, on := [4, 5, 6], table := [({ rail := 4, pg := true, core := false, critical := true, serdes := false, rst := 3#8, delayUs := 0, pg100us := 0 } : RailEntry), ({ rail := 5, pg := false, core := false, critical := false, serdes := false, rst := 0#8, delayUs := 0, pg100us := 0 } : RailEntry), ({ rail := 6, pg := false, core := true, critical := true, serdes := false, rst := 0#8, delayUs := 0, pg100us := 0 } : RailEntry)] }, kept := { mem := [(65536, 7)] } }); let rail := (4 : Fin 24); let e := ({ rail := 4, pg := true, core := false, critical := true, serdes := false, rst := 3#8, delayUs := 0, pg100us := 0 } : RailEntry); (s.fen.vdd = true) ∧ (s.mode ≠ .reset) ∧ (rail.val ∈ s.fen.on) ∧ (s.fen.phase = .on) ∧ (e ∈ s.fen.table) ∧ (e.rail = rail) ∧ (e.critical = true)) ∧
(let s : State := ({ base .paired with fen := { phase := .on, on := [4, 5, 6], table := [({ rail := 4, pg := true, core := false, critical := true, serdes := false, rst := 3#8, delayUs := 0, pg100us := 0 } : RailEntry), ({ rail := 5, pg := false, core := false, critical := false, serdes := false, rst := 0#8, delayUs := 0, pg100us := 0 } : RailEntry), ({ rail := 6, pg := false, core := true, critical := true, serdes := false, rst := 0#8, delayUs := 0, pg100us := 0 } : RailEntry)] } }); let rail := (5 : Fin 24); (s.fen.vdd = true) ∧ (rail.val ∈ s.fen.on) ∧ (∀ e ∈ s.fen.table, e.rail = rail → e.critical = false)) ∧
(let s : State := ({ base .paired with fen := { phase := .on, on := [4, 5], table := [({ rail := 4, pg := true, core := false, critical := true, serdes := false, rst := 3#8, delayUs := 0, pg100us := 0 } : RailEntry), ({ rail := 5, pg := false, core := false, critical := false, serdes := false, rst := 0#8, delayUs := 0, pg100us := 0 } : RailEntry), ({ rail := 6, pg := false, core := true, critical := true, serdes := false, rst := 0#8, delayUs := 0, pg100us := 0 } : RailEntry)] } }); let rail := (6 : Fin 24); (s.fen.vdd = true) ∧ (rail.val ∉ s.fen.on)) ∧
(let s : State := ({ base .paired with fen := { phase := .on, on := [4, 5, 6], table := [({ rail := 4, pg := true, core := false, critical := true, serdes := false, rst := 3#8, delayUs := 0, pg100us := 0 } : RailEntry), ({ rail := 5, pg := false, core := false, critical := false, serdes := false, rst := 0#8, delayUs := 0, pg100us := 0 } : RailEntry), ({ rail := 6, pg := false, core := true, critical := true, serdes := false, rst := 0#8, delayUs := 0, pg100us := 0 } : RailEntry)] } }); let e := ({ rail := 6, pg := false, core := true, critical := true, serdes := false, rst := 0#8, delayUs := 0, pg100us := 0 } : RailEntry); (s.fen.vdd = true) ∧ (s.fen.table.find? (·.core) = some e)) ∧
(let s : State := ({ base .reset with fen := {  } }); (s.fen.vdd = true) ∧ (s.fen.table.find? (·.core) = none)) ∧
(let s : State := ({ base .reset with fen := { phase := .pg, on := [4], table := [({ rail := 4, pg := true, core := false, critical := true, serdes := false, rst := 3#8, delayUs := 0, pg100us := 0 } : RailEntry), ({ rail := 5, pg := false, core := false, critical := false, serdes := false, rst := 0#8, delayUs := 0, pg100us := 0 } : RailEntry), ({ rail := 6, pg := false, core := true, critical := true, serdes := false, rst := 0#8, delayUs := 0, pg100us := 0 } : RailEntry)] } }); let e := ({ rail := 4, pg := true, core := false, critical := true, serdes := false, rst := 3#8, delayUs := 0, pg100us := 0 } : RailEntry); (s.fen.vdd = true) ∧ (s.fen.phase = .pg) ∧ (s.fen.table[s.fen.step]? = some e)) ∧
(let s : State := ({ base .reset with fen := {  } }); (s.fen.vdd = true) ∧ (s.fen.phase ≠ .pg) ∧ (s.doze.phase ≠ .exiting)) ∧
(let s : State := ({ base .doze with fen := { phase := .on, on := [4], table := [{ (({ rail := 4, pg := true, core := false, critical := true, serdes := false, rst := 3#8, delayUs := 0, pg100us := 0 } : RailEntry) : RailEntry) with serdes := true, pg := true }] }, doze := { phase := .exiting } }); (s.fen.vdd = true) ∧ (s.fen.phase = .on) ∧ (s.doze.phase = .exiting) ∧ (s.exitSteps ≠ [])) ∧
(let s : State := ({ base .paired with fen := { phase := .on, on := [4, 5, 6], table := [({ rail := 4, pg := true, core := false, critical := true, serdes := false, rst := 3#8, delayUs := 0, pg100us := 0 } : RailEntry), ({ rail := 5, pg := false, core := false, critical := false, serdes := false, rst := 0#8, delayUs := 0, pg100us := 0 } : RailEntry), ({ rail := 6, pg := false, core := true, critical := true, serdes := false, rst := 0#8, delayUs := 0, pg100us := 0 } : RailEntry)] } }); (s.fen.phase ≠ .fault) ∧ (2 ≤ s.fen.on.length)) ∧
(let s : State := ({ base .reset with fen := { phase := .removing, on := [4, 5] } }); (s.fen.vdd = true) ∧ (s.fen.phase = .removing) ∧ (2 ≤ s.fen.on.length)) ∧
(let s : State := ({ base .reset with fen := { phase := .removing, after := .retry, on := [4] } }); (s.fen.vdd = true) ∧ (s.fen.phase = .removing) ∧ (s.fen.on.length = 1) ∧ (s.fen.after = .retry)) ∧
(let s : State := ({ base .reset with fen := { phase := .removing, after := .stay, on := [4] } }); (s.fen.vdd = true) ∧ (s.fen.phase = .removing) ∧ (s.fen.on.length = 1) ∧ (s.fen.after = .stay)) ∧
(let s : State := ({ base .reset with fen := { phase := .removing, after := .fault, on := [4] } }); (s.fen.vdd = true) ∧ (s.fen.phase = .removing) ∧ (s.fen.on.length = 1) ∧ (s.fen.after = .fault)) ∧
(let s : State := ({ base .reset with fen := {  } }); (s.fen.vdd = true) ∧ (s.fen.phase ≠ .removing)) ∧
(let s : State := ({ base .reset with fen := { phase := .retryWait } }); (s.fen.vdd = true) ∧ (s.fen.phase = .retryWait)) ∧
(let s : State := ({ base .reset with fen := {  } }); (s.fen.vdd = true) ∧ (s.fen.phase ≠ .retryWait)) ∧
(let s : State := ({ base .paired with fen := { on := [4] }, kept := { mem := [(65536, 7)] } }).setFld F.FEN_CYCLES_count 9; (s.fen.vdd = true) ∧ (s.mode ≠ .reset)) ∧
(let s : State := ({ base .reset with fen := { vdd := false }, nor := { mib := 64, counters := [{ hours := 4294967297, cycles := 6, rails := [3], sector := 17 }] } }); let mv := 3000; let r := ({ hours := 4294967297, cycles := 6, rails := [3], sector := 17 } : CounterRec); let l := ([] : List CounterRec); (s.fen.vdd = false) ∧ (s.nor.counters = r :: l) ∧ (mv < 2 ^ 16)) ∧
(let s : State := ({ base .solo with fen := {  } }); (s.fen.vdd = true)) := by
  refine ⟨?_, ?_, ?_, ?_, ?_, ?_, ?_, ?_, ?_, ?_, ?_, ?_, ?_, ?_, ?_, ?_, ?_, ?_, ?_⟩ <;> (intros; decide +kernel +zetaReduce)

theorem test_core_voltage_and_battery_met :
(let s : State := ({ base .paired with fen := { tj := 30, on := [6], table := [({ rail := 4, pg := true, core := false, critical := true, serdes := false, rst := 3#8, delayUs := 0, pg100us := 0 } : RailEntry), ({ rail := 5, pg := false, core := false, critical := false, serdes := false, rst := 0#8, delayUs := 0, pg100us := 0 } : RailEntry), ({ rail := 6, pg := false, core := true, critical := true, serdes := false, rst := 0#8, delayUs := 0, pg100us := 0 } : RailEntry)] } }); let tj := (31 : Int); (s.fen.vdd = true) ∧ (s.coreOn = true) ∧ (s.fen.vFault = false) ∧ ((tj - s.fen.tj).natAbs < 2)) ∧
(let s : State := ({ base .paired with fen := { tj := 30, on := [6], table := [({ rail := 4, pg := true, core := false, critical := true, serdes := false, rst := 3#8, delayUs := 0, pg100us := 0 } : RailEntry), ({ rail := 5, pg := false, core := false, critical := false, serdes := false, rst := 0#8, delayUs := 0, pg100us := 0 } : RailEntry), ({ rail := 6, pg := false, core := true, critical := true, serdes := false, rst := 0#8, delayUs := 0, pg100us := 0 } : RailEntry)] } }); let tj := (-30 : Int); (s.fen.vdd = true) ∧ (s.coreOn = true) ∧ (s.fen.vFault = false) ∧ (2 ≤ (tj - s.fen.tj).natAbs)) ∧
(let s : State := ({ base .paired with fen := { tj := 30, vFault := true, on := [6], table := [({ rail := 4, pg := true, core := false, critical := true, serdes := false, rst := 3#8, delayUs := 0, pg100us := 0 } : RailEntry), ({ rail := 5, pg := false, core := false, critical := false, serdes := false, rst := 0#8, delayUs := 0, pg100us := 0 } : RailEntry), ({ rail := 6, pg := false, core := true, critical := true, serdes := false, rst := 0#8, delayUs := 0, pg100us := 0 } : RailEntry)] } }); let tj := (31 : Int); (s.fen.vdd = true) ∧ (s.coreOn = false ∨ s.fen.vFault = true) ∧ ((tj - s.fen.tj).natAbs < 2)) ∧
(let s : State := ({ base .paired with fen := { off := 9, on := [6], table := [({ rail := 4, pg := true, core := false, critical := true, serdes := false, rst := 3#8, delayUs := 0, pg100us := 0 } : RailEntry), ({ rail := 5, pg := false, core := false, critical := false, serdes := false, rst := 0#8, delayUs := 0, pg100us := 0 } : RailEntry), ({ rail := 6, pg := false, core := true, critical := true, serdes := false, rst := 0#8, delayUs := 0, pg100us := 0 } : RailEntry)] } }).setFld F.FEN_VCORE_STAT_set_mv 700; let mv := 715; (s.fen.vdd = true) ∧ (s.coreOn = true) ∧ (mv ≤ s.fld F.FEN_VCORE_STAT_set_mv + 15) ∧ (s.fld F.FEN_VCORE_STAT_set_mv ≤ mv + 15)) ∧
(let s : State := ({ base .paired with fen := { off := 9, on := [6], table := [({ rail := 4, pg := true, core := false, critical := true, serdes := false, rst := 3#8, delayUs := 0, pg100us := 0 } : RailEntry), ({ rail := 5, pg := false, core := false, critical := false, serdes := false, rst := 0#8, delayUs := 0, pg100us := 0 } : RailEntry), ({ rail := 6, pg := false, core := true, critical := true, serdes := false, rst := 0#8, delayUs := 0, pg100us := 0 } : RailEntry)] } }).setFld F.FEN_VCORE_STAT_set_mv 700; let mv := 716; (s.fen.vdd = true) ∧ (s.coreOn = true) ∧ (s.fen.vFault = false) ∧ (s.fen.off = 9) ∧ (s.fld F.FEN_VCORE_STAT_set_mv + 15 < mv)) ∧
(let s : State := ({ base .reset with fen := {  } }); (s.fen.vdd = true) ∧ (s.coreOn = false)) ∧
(let s : State := ({ base .paired with fen := { inputGood := true, pack := { fcc := 1000, soc := 10000 } } }).setFld F.FEN_BAT_CFG_rest_ma 50; (s.fen.vdd = true)) ∧
(let s : State := ({ base .paired with fen := { pack := { fcc := 1000, soc := 5000 } } }).setFld F.FEN_BAT_CFG_shunt 5; (0 < s.fen.pack.fcc)) ∧
(let ch := 3; (ch < 16)) ∧
(let s : State := ({ base .reset with fen := { pack := { current := -49, ocv := [(0, 2800), (10000, 4200)] } } }).setFld F.FEN_BAT_CFG_rest_ma 50 |>.setFld (F.FEN_MONn_VAL_mv 1) 600; (s.fen.vdd = true) ∧ (s.atRest = true)) ∧
(let s : State := ({ base .reset with fen := { pack := { current := 50 } } }).setFld F.FEN_BAT_CFG_rest_ma 50; (s.fen.vdd = true) ∧ (s.atRest = false)) ∧
(let s : State := ({ base .reset with fen := { pack := { current := 51, fcc := 1020 } } }).setFld F.FEN_BAT_CFG_rest_ma 50; (s.fen.vdd = true) ∧ (s.tapers = false)) ∧
(let s : State := ({ base .reset with fen := { pack := { ocv := [(0, 2800), (10000, 4200)] } } }); let mv := 3500; let c := 5000; (ocv true s.fen.pack.ocv mv = some c)) ∧
(let s : State := ({ base .reset with fen := { pack := { current := 51, fcc := 1021 } } }).setFld F.FEN_BAT_CFG_rest_ma 50; (s.fen.vdd = true) ∧ (s.tapers = true)) ∧
(let s : State := ({ base .reset with fen := { pack := { current := -49 } } }).setFld F.FEN_BAT_CFG_rest_ma 50; (s.fen.vdd = true) ∧ (s.fen.pack.current.natAbs < s.fld F.FEN_BAT_CFG_rest_ma)) ∧
(let s : State := ({ base .reset with fen := { pack := { current := -50 } } }).setFld F.FEN_BAT_CFG_rest_ma 50; (s.fen.vdd = true) ∧ (s.fld F.FEN_BAT_CFG_rest_ma ≤ s.fen.pack.current.natAbs)) ∧
(let s : State := ({ base .reset with fen := {  } }); (s.fen.vdd = true)) ∧
(let s : State := ({ base .reset with fen := {  } }); (s.fen.vdd = true) ∧ (s.bit F.FEN_BAT_STAT_alt_bus = false) ∧ (s.fld (F.SBUS_STATn_state 1) ≠ 3)) ∧
(let s : State := ({ base .reset with fen := { pack := { missed := 1 } } }); (s.fen.vdd = true) ∧ (s.bit F.FEN_BAT_STAT_alt_bus = false) ∧ (s.fld (F.SBUS_STATn_state 1) ≠ 3) ∧ (s.fen.pack.missed < 2)) ∧
(let s : State := ({ base .reset with fen := { pack := { missed := 2 } } }); (s.fen.vdd = true) ∧ (s.bit F.FEN_BAT_STAT_alt_bus = false) ∧ (2 ≤ s.fen.pack.missed)) ∧
(let s : State := ({ base .reset with fen := {  } }).setBit F.FEN_BAT_STAT_alt_bus true; (s.fen.vdd = true) ∧ (s.bit F.FEN_BAT_STAT_alt_bus = true)) ∧
(let r := ({ temp := 20, fcc := 900, dc := 1000, serial := 7 } : PackRead); (0 < r.dc)) ∧
(let s : State := ({ base .solo with fen := {  } }); (s.fen.vdd = true) ∧ (s.mode ≠ .reset) ∧ (s.thm.fresh = true)) ∧
(let s : State := ({ base .reset with fen := {  } }); (s.fen.vdd = true) ∧ (s.mode = .reset)) ∧
(let s : State := ({ base .solo with fen := { pack := { challenge := some 7, tries := 1 } } }); (s.fen.vdd = true) ∧ (s.fen.pack.challenge.isSome = true)) ∧
(let s : State := ({ base .solo with fen := { pack := { challenge := some 7, tries := 1 } } }); (s.fen.vdd = true) ∧ (s.fen.pack.challenge.isSome = true)) ∧
(let s : State := ({ base .solo with fen := { pack := { challenge := some 7, tries := 1 } } }); (s.fen.vdd = true) ∧ (s.fen.pack.challenge.isSome = true)) ∧
(let s : State := ({ base .solo with fen := { pack := { challenge := some 7, tries := 1 } } }); (s.fen.vdd = true) ∧ (s.fen.pack.challenge.isSome = true)) ∧
(let s : State := ({ base .solo with fen := {  } }); (s.fen.vdd = true) ∧ (s.fen.pack.challenge = none)) ∧
(let s : State := ({ base .solo with fen := { pack := { tries := 3 } } }).setBit F.FEN_BAT_STAT_auth true; (s.fen.vdd = true) ∧ (s.fen.pack.challenge = none) ∧ (3 ≤ s.fen.pack.tries)) ∧
(let s : State := ({ base .solo with fen := { pack := { tries := 2 } } }); (s.fen.vdd = true) ∧ (s.fen.pack.challenge = none) ∧ (0 < s.fen.pack.tries) ∧ (s.fen.pack.tries < 3)) ∧
(let s : State := ({ base .solo with fen := { pack := { fcc := 10, dc := 10, soc := 9000 } } }).setFld F.FEN_BAT_ERATED_e_rated 900; (s.bit F.FEN_BAT_STAT_auth = false)) ∧
(let t := (-21 : Int); let u := (-20 : Int); (t ≤ u)) := by
  refine ⟨?_, ?_, ?_, ?_, ?_, ?_, ?_, ?_, ?_, ?_, ?_, ?_, ?_, ?_, ?_, ?_, ?_, ?_, ?_, ?_, ?_, ?_, ?_, ?_, ?_, ?_, ?_, ?_, ?_, ?_, ?_, ?_, ?_⟩ <;> (intros; decide +kernel +zetaReduce)

theorem test_doze_agreement_met :
(let h := hdr; let s : State := (go h .doze ((({ base .paired with doze := {  }, seam := { peer := some { ready := true, mode := 4 } } }.setBit F.SEAM_PAIR_CFG_pair_en true).setBit F.SEAM_STATUS_lead true))); (s.starts h .doze) ∧ (s.mode = .paired) ∧ (s.fuses.life ≠ Machine.returned) ∧ (s.doze.phase = .idle) ∧ (s.lead = true) ∧ (s.bothReady = true)) ∧
(let h := hdr; let s : State := (go h .doze ((({ base .paired with doze := {  } }.setBit F.SEAM_PAIR_CFG_pair_en true).setBit F.SEAM_STATUS_lead true))); (s.starts h .doze) ∧ (s.mode = .paired) ∧ (s.fuses.life ≠ Machine.returned) ∧ (s.doze.phase = .idle) ∧ (s.lead = true) ∧ (s.bothReady = false)) ∧
(let h := hdr; let s : State := (go h .doze (({ base .resync with doze := {  } }.setBit F.SEAM_PAIR_CFG_pair_en true))); (s.starts h .doze) ∧ (s.mode = .paired ∨ s.mode = .resync) ∧ (s.fuses.life ≠ Machine.returned) ∧ (s.doze.phase = .idle) ∧ (s.lead = false)) ∧
(let h := hdr; let s : State := (go h .doze ({ base .solo with doze := {  } })); (s.starts h .doze) ∧ (s.mode = .solo) ∧ (s.fuses.life ≠ Machine.returned) ∧ (s.doze.phase = .idle)) ∧
(let h := hdr; let s : State := (go h .doze ({ base .restore with doze := {  } })); (s.starts h .doze) ∧ (s.fuses.life = Machine.returned ∨ s.doze.phase ≠ .idle ∨ s.mode = .restore ∨ s.mode = .bringup ∨ s.mode = .doze)) ∧
(let d := (⟨true, 0, true, 3⟩ : TackId); let s : State := ({ base .paired with doze := {  } }.setBit F.SEAM_PAIR_CFG_pair_en true); (s.mode = .paired) ∧ (s.lead = false) ∧ (s.ready = true) ∧ (s.wakeLatches = 0) ∧ (s.doze.phase = .idle) ∧ (s.pairEn = true) ∧ (d.crcOk = true) ∧ (s.mismatch d.pairId d.unit = false)) ∧
(let d := (⟨true, 0, true, 3⟩ : TackId); let s : State := (({ base .paired with doze := {  } }.setBit F.SEAM_PAIR_CFG_pair_en true).setBit F.FEN_DOZE_STAT_monitor true); (s.runs) ∧ (s.mode ≠ .doze) ∧ (s.doze.phase ≠ .accepted) ∧ (s.mode ≠ .paired ∨ s.lead = true ∨ s.wakeLatches ≠ 0) ∧ (s.pairEn = true) ∧ (d.crcOk = true) ∧ (s.mismatch d.pairId d.unit = false)) ∧
(let d := (⟨true, 0, true, 3⟩ : TackId); let s : State := ({ base .paired with doze := { phase := .accepted } }.setBit F.SEAM_PAIR_CFG_pair_en true); (s.runs) ∧ (s.mode ≠ .doze) ∧ (s.doze.phase = .accepted) ∧ (s.pairEn = true) ∧ (d.crcOk = true) ∧ (s.mismatch d.pairId d.unit = false)) ∧
(let d := (⟨true, 0, true, 3⟩ : TackId); let s : State := (({ base .paired with doze := { phase := .proposed 2 } }.setBit F.SEAM_PAIR_CFG_pair_en true).setBit F.SEAM_STATUS_lead true); let n := 2; (s.runs) ∧ (s.doze.phase = .proposed n) ∧ (s.pairEn = true) ∧ (d.crcOk = true) ∧ (s.mismatch d.pairId d.unit = false)) ∧
(let s : State := (({ base .paired with doze := { phase := .proposed 2 } }.setBit F.SEAM_PAIR_CFG_pair_en true).setBit F.SEAM_STATUS_lead true); let n := 2; (s.runs) ∧ (s.doze.phase = .proposed n) ∧ (n < 3)) ∧
(let s : State := (({ base .paired with doze := { phase := .proposed 3 } }.setBit F.SEAM_PAIR_CFG_pair_en true).setBit F.SEAM_STATUS_lead true); let n := 3; (s.runs) ∧ (s.doze.phase = .proposed n) ∧ (3 ≤ n)) ∧
(let d := (⟨true, 0, true, 3⟩ : TackId); let s : State := (({ base .paired with doze := { phase := .proposed 3 } }.setBit F.SEAM_PAIR_CFG_pair_en true).setBit F.SEAM_STATUS_lead true); let n := 3; (s.runs) ∧ (s.doze.phase = .proposed n) ∧ (s.pairEn = true) ∧ (d.crcOk = true) ∧ (s.mismatch d.pairId d.unit = false)) ∧
(let d := (⟨true, 0, true, 3⟩ : TackId); let s : State := ({ base .paired with doze := { phase := .accepted, armed := true } }.setBit F.SEAM_PAIR_CFG_pair_en true); (s.runs) ∧ (s.doze.phase = .accepted ∨ s.doze.phase = .noticed ∨ s.doze.phase = .idle) ∧ (s.pairEn = true) ∧ (d.crcOk = true) ∧ (s.mismatch d.pairId d.unit = false)) ∧
(let d := (⟨true, 0, true, 3⟩ : TackId); let s : State := (({ base .paired with doze := { phase := .accepted, armed := true } }.setBit F.SEAM_PAIR_CFG_pair_en true).setFld F.FEN_BAT_E_e_est 700); (s.mode ≠ .reset) ∧ (s.mode ≠ .doze) ∧ (s.doze.phase = .accepted) ∧ (s.doze.cmd = none) ∧ (s.scan = none) ∧ (s.pairEn = true) ∧ (d.crcOk = true) ∧ (s.mismatch d.pairId d.unit = false)) ∧
(let s : State := ({ base .paired with doze := { phase := .accepted } }.setBit F.SEAM_PAIR_CFG_pair_en true); let d := (⟨true, 1, true, 3⟩ : TackId); (s.runs) ∧ (s.pairEn = true) ∧ (d.crcOk = true) ∧ (s.mismatch d.pairId d.unit = true)) ∧
(let s : State := ({ base .paired with doze := { phase := .accepted } }.setBit F.SEAM_PAIR_CFG_pair_en true); let d := (⟨false, 0, true, 3⟩ : TackId); (s.runs) ∧ (s.pairEn = true) ∧ (d.crcOk = false)) ∧
(let s : State := ({ base .doze with doze := { phase := .entered, armed := true } }.setFld F.SEAM_PAIR_CFG_pair_en 0); (s.runs) ∧ (s.pairEn = false)) ∧
(let s : State := { base .solo with doze := { phase := .noticed, armed := true } }; (s.mode = .solo) ∧ (s.doze.phase = .noticed)) ∧
(let s : State := (({ base .paired with doze := { phase := .noticed, armed := true } }.setBit F.SEAM_PAIR_CFG_pair_en true).setBit F.SEAM_STATUS_lead true); (s.mode = .paired) ∧ (s.doze.phase = .noticed)) ∧
(let s : State := ({ base .paired with doze := { phase := .accepted } }.setBit F.SEAM_PAIR_CFG_pair_en true); (s.runs) ∧ (s.doze.phase = .accepted)) ∧
(let s : State := { base .paired with doze := {  } }; (s.runs) ∧ (s.doze.phase ≠ .accepted)) ∧
(let d := (⟨true, 0, true, 3⟩ : TackId); let s : State := ({ base .paired with doze := {  } }.setBit F.SEAM_PAIR_CFG_pair_en true); (s.runs) ∧ (s.doze.phase ≠ .accepted) ∧ (s.pairEn = true) ∧ (d.crcOk = true) ∧ (s.mismatch d.pairId d.unit = false)) ∧
(let s : State := { base .paired with doze := {  } }; (s.runs) ∧ (s.doze.phase ≠ .noticed)) := by
  refine ⟨?_, ?_, ?_, ?_, ?_, ?_, ?_, ?_, ?_, ?_, ?_, ?_, ?_, ?_, ?_, ?_, ?_, ?_, ?_, ?_, ?_, ?_, ?_⟩ <;> (intros; decide +kernel +zetaReduce)

theorem test_wakes_and_exit_met :
(let s : State := ({ base .doze with doze := { phase := .entered, armed := true } }.setFld F.FEN_DOZE_CFG_wake_port 0xFE); let w := (.port 0 : Wake); (s.runs) ∧ (s.doze.armed = false ∨ s.wakes w = false)) ∧
(let s : State := ({ base .paired with doze := { phase := .accepted, armed := true } }.setBit F.SEAM_PAIR_CFG_pair_en true); let w := (.twin : Wake); (s.runs) ∧ (s.doze.armed = true) ∧ (s.wakes w = true) ∧ (s.doze.phase = .accepted ∨ s.doze.phase = .noticed)) ∧
(let s : State := (({ base .doze with doze := { phase := .entered, armed := true } }.setBit F.SEAM_PAIR_CFG_pair_en true).setFld F.FEN_DOZE_CFG_wake_port 128); let w := (.port 7 : Wake); (s.runs) ∧ (s.doze.armed = true) ∧ (s.wakes w = true) ∧ (s.doze.phase = .committed ∨ s.doze.phase = .entered)) ∧
(let d := (⟨true, 0, true, 3⟩ : TackId); let s : State := ({ base .doze with doze := { phase := .entered, armed := true } }.setBit F.SEAM_PAIR_CFG_pair_en true); (s.mode = .doze) ∧ (s.pairEn = true) ∧ (d.crcOk = true) ∧ (s.mismatch d.pairId d.unit = false)) ∧
(let d := (⟨true, 0, true, 3⟩ : TackId); let s : State := ({ base .paired with doze := {  } }.setBit F.SEAM_PAIR_CFG_pair_en true); (s.runs) ∧ (s.mode ≠ .doze) ∧ (s.pairEn = true) ∧ (d.crcOk = true) ∧ (s.mismatch d.pairId d.unit = false)) ∧
(let s : State := (({ base .doze with doze := { phase := .committed, armed := true } }.setBit F.SEAM_PAIR_CFG_pair_en true).setFld (F.DMC_STATUS_state 3) 2); (s.mode = .doze) ∧ (s.doze.phase = .committed) ∧ (s.nc.sets = []) ∧ (s.seam.link0.up = false) ∧ (s.seam.link1.up = false)) ∧
(let s : State := { base .paired with doze := {  } }; (s.runs) ∧ (s.mode ≠ .doze ∨ s.doze.phase ≠ .committed)) ∧
(let s : State := ((({ base .doze with doze := { phase := .exiting, armed := true, mode := .solo }, seam := { departed := true }, nc := { } }.setFld F.SEAM_PAIR_CFG_pair_en 0).setFld (F.DMC_STATUS_state 3) 3).setFld F.SEAM_STATUS_twin 2); (s.mode = .doze) ∧ (s.doze.phase = .exiting) ∧ (s.nc.walking = false) ∧ (s.pairEn = false) ∧ (s.doze.mode = .solo) ∧ (s.gates = true ∨ s.permitted = false) ∧ (s.seam.departed = true) ∧ (s.twin = 2) ∧ (s.parks = []) ∧ (s.seam.fwdWait = []) ∧ (s.seam.early = []) ∧ (s.pcieHeld = []) ∧ (s.held = false) ∧ (s.shared = []) ∧ (∀ p ∈ s.kept.qps, p.2.msgs = [])) ∧
(let s : State := { base .paired with doze := {  } }; (s.runs) ∧ (s.mode ≠ .doze ∨ s.doze.phase ≠ .exiting ∨ s.nc.walking = true)) ∧
(let s : State := ({ base .paired with doze := { grace := true } }.setBit F.SEAM_PAIR_CFG_pair_en true); (s.runs) ∧ (s.doze.grace = true)) ∧
(let s : State := { base .paired with doze := {  } }; (s.runs) ∧ (s.doze.grace = false)) ∧
(let s : State := { base .solo with doze := {  } }; let p := ({ ({ lport := 0, tagged := false, icvOk := false, sc := 0, an := 0, pn := 0, prio := 0, etype := 0, dual := none, lane := 0, hdrOk := true, qpn := 0x10003, srcAddr := 1, srcQpn := 2, pkey := 0xFFFF, qkey := 0, op := .writeOnly, psn := 0xFFFFFF, aeth := 0, ackReq := true, solicit := false, ect := false, ce := false, reth := some ⟨0x1008, BitVec.ofNat 32 (keyOf 7 4095), 3⟩, cmp := 0, swapAdd := 0, imm := 0, region := false, data := [1, 2, 3], walkUe := none, dataUe := none, mgmt := none } : Packet) with op := .ack } : Packet); (s.runs) ∧ (s.mode ≠ .doze) ∧ (isRequest p.op = false)) ∧
(let s : State := { base .solo with doze := { armed := true, phase := .accepted } }; let p := ({ ({ lport := 0, tagged := false, icvOk := false, sc := 0, an := 0, pn := 0, prio := 0, etype := 0, dual := none, lane := 0, hdrOk := true, qpn := 0x10003, srcAddr := 1, srcQpn := 2, pkey := 0xFFFF, qkey := 0, op := .writeOnly, psn := 0xFFFFFF, aeth := 0, ackReq := true, solicit := false, ect := false, ce := false, reth := some ⟨0x1008, BitVec.ofNat 32 (keyOf 7 4095), 3⟩, cmp := 0, swapAdd := 0, imm := 0, region := false, data := [1, 2, 3], walkUe := none, dataUe := none, mgmt := none } : Packet) with op := .writeOnly } : Packet); (s.runs) ∧ (s.mode ≠ .doze) ∧ (isRequest p.op = true)) ∧
(let s : State := { base .doze with doze := { phase := .entered, armed := true } }; let p := ({ ({ lport := 0, tagged := false, icvOk := false, sc := 0, an := 0, pn := 0, prio := 0, etype := 0, dual := none, lane := 0, hdrOk := true, qpn := 0x10003, srcAddr := 1, srcQpn := 2, pkey := 0xFFFF, qkey := 0, op := .writeOnly, psn := 0xFFFFFF, aeth := 0, ackReq := true, solicit := false, ect := false, ce := false, reth := some ⟨0x1008, BitVec.ofNat 32 (keyOf 7 4095), 3⟩, cmp := 0, swapAdd := 0, imm := 0, region := false, data := [1, 2, 3], walkUe := none, dataUe := none, mgmt := none } : Packet) with op := .other, etype := 0x88F7#16 } : Packet); (s.mode = .doze) ∧ (timeOrLldp p.etype = true)) ∧
(let s : State := { base .doze with doze := { phase := .entered, armed := true } }; let p := ({ ({ lport := 0, tagged := false, icvOk := false, sc := 0, an := 0, pn := 0, prio := 0, etype := 0, dual := none, lane := 0, hdrOk := true, qpn := 0x10003, srcAddr := 1, srcQpn := 2, pkey := 0xFFFF, qkey := 0, op := .writeOnly, psn := 0xFFFFFF, aeth := 0, ackReq := true, solicit := false, ect := false, ce := false, reth := some ⟨0x1008, BitVec.ofNat 32 (keyOf 7 4095), 3⟩, cmp := 0, swapAdd := 0, imm := 0, region := false, data := [1, 2, 3], walkUe := none, dataUe := none, mgmt := none } : Packet) with op := .ack } : Packet); (s.mode = .doze) ∧ (timeOrLldp p.etype = false)) ∧
(let v := (1 : Word); let s : State := (gow F.PCIE_CMD_DB_tail.off v ({ base .solo with doze := {  } })); (s.passes F.PCIE_CMD_DB_tail.off v)) ∧
(let s : State := ({ base .doze with doze := { phase := .entered, armed := true } }.setBit F.SEAM_PAIR_CFG_pair_en true); (s.runs)) ∧
(let s : State := ((({ base .reset with fen := { pack := { fcc := 1000, dc := 1000, temp := 20, soc := 10000 } } }).setBit F.FEN_BAT_STAT_auth true).setFld F.FEN_BAT_ERATED_e_rated 900); (s.fen.vdd = true) ∧ (s.mode = .reset)) ∧
(let s : State := ((({ base .solo with fen := { pack := { fcc := 1000, dc := 1000, temp := 20, soc := 10000 } } }).setBit F.FEN_BAT_STAT_auth true).setFld F.FEN_BAT_ERATED_e_rated 900); (s.fen.vdd = true) ∧ (s.doze.armed = false)) ∧
(let s : State := ((base .solo).setBit (F.FEN_MONn_CFG_tripped 15) true); let c := (15 : Fin 16); (s.fen.vdd = true) ∧ (s.bit (F.FEN_MONn_CFG_tripped c.val) = true ∨ alGetD s.fen.beyond c.val 0 < 4)) ∧
(let s : State := { base .solo with doze := {  }, fen := { beyond := [(15, 4)] } }; let c := (15 : Fin 16); (s.fen.vdd = true) ∧ (s.bit (F.FEN_MONn_CFG_tripped c.val) = false) ∧ (4 ≤ alGetD s.fen.beyond c.val 0)) ∧
(let s : State := { base .solo with doze := {  } }; (s.fen.vdd = true) ∧ (s.mode ≠ .doze)) ∧
(let s : State := ({ base .doze with doze := { phase := .entered, armed := true } }.setFld F.FEN_DOZE_CFG_e_wake 50); (s.fen.vdd = true) ∧ (s.mode = .doze)) := by
  refine ⟨?_, ?_, ?_, ?_, ?_, ?_, ?_, ?_, ?_, ?_, ?_, ?_, ?_, ?_, ?_, ?_, ?_, ?_, ?_, ?_, ?_, ?_, ?_⟩ <;> (intros; decide +kernel +zetaReduce)

theorem test_dram_channels_met :
(let s : State := ({ base .solo with drams := [(3, { due := [(1, 3)] })] }.setFld (F.DMC_STATUS_state 3) 2); let c := (3 : Dmc); let sub := (1 : Fin 2); (s.runs) ∧ (s.dmcState c.val = dmcReady) ∧ (alGetD (s.dram c.val).due sub.val 0 < 4)) ∧
(let s : State := ({ base .bringup with drams := [(3, { due := [(1, 4)], open_ := [(bankKey 1 15 31, 4), (3, 1)] })] }.setFld (F.DMC_STATUS_state 3) 2); let c := (3 : Dmc); let sub := (1 : Fin 2); (s.runs) ∧ (s.dmcState c.val = dmcReady) ∧ (4 ≤ alGetD (s.dram c.val).due sub.val 0) ∧ (s.allBank = true)) ∧
(let s : State := ({ base .solo with drams := [(3, { due := [(1, 4)], open_ := [(bankKey 1 15 31, 4), (3, 1)] })] }.setFld (F.DMC_STATUS_state 3) 2); let c := (3 : Dmc); let sub := (1 : Fin 2); (s.runs) ∧ (s.dmcState c.val = dmcReady) ∧ (4 ≤ alGetD (s.dram c.val).due sub.val 0) ∧ (s.allBank = false)) ∧
(let s : State := ({ base .bringup with drams := [(3, { due := [(1, 3)], open_ := [(bankKey 1 15 31, 4), (3, 1)] })] }.setFld (F.DMC_STATUS_state 3) 2); let c := (3 : Dmc); (s.runs) ∧ (s.dmcState c.val = dmcReady) ∧ (s.allBank = true)) ∧
(let s : State := ({ base .solo with drams := [(3, { due := [(1, 4)], open_ := [(bankKey 1 15 31, 4), (3, 1)] })] }.setFld (F.DMC_STATUS_state 3) 2); let c := (3 : Dmc); (s.runs) ∧ (s.dmcState c.val = dmcReady) ∧ (s.allBank = false)) ∧
(let s : State := { base .solo with drams := [(3, {  })] }; let c := (3 : Dmc); (s.runs) ∧ (s.dmcState c.val ≠ dmcReady)) ∧
(let s : State := { base .solo with drams := [(3, {  })] }; (s.runs)) ∧
(let s : State := { base .solo with drams := [(3, { open_ := [(bankKey 1 15 31, 4)] })] }; (s.runs)) ∧
(let s : State := ((({ base .solo with drams := [(3, {  })] }.setFld (F.DMC_STATUS_state 3) 2).setFld (F.DMC_PAGE_CFG_idle_clk 3) 9).setFld (F.DMC_RH_CFG_k 3) 8); let c := (3 : Dmc); let draw := 255; (s.runs) ∧ (s.dmcState c.val ≠ dmcSelfRefresh) ∧ (s.dmcState c.val ≠ dmcOff) ∧ (s.throttles c.val = false) ∧ (s.fld (F.DMC_PAGE_CFG_idle_clk c.val) ≠ 0) ∧ (s.bit (F.DMC_RH_CFG_pnr_en c.val) = false ∨ draw % 2 ^ s.fld (F.DMC_RH_CFG_k c.val) ≠ 0)) ∧
(let s : State := ((((({ base .bringup with drams := [(3, {  })] }.setFld (F.DMC_STATUS_state 3) 2).setFld (F.DMC_PAGE_CFG_idle_clk 3) 9).setFld (F.DMC_RH_CFG_thr_acts 3) 9).setFld (F.DMC_RH_CFG_k 3) 8).setBit (F.DMC_RH_CFG_pnr_en 3) true); let c := (3 : Dmc); let loc := ({ subch := 1, lrank := 2, bank := 31, row := 5, column := 6 } : BurstLoc); let draw := 256; (s.runs) ∧ (s.dmcState c.val ≠ dmcSelfRefresh) ∧ (s.dmcState c.val ≠ dmcOff) ∧ (s.throttles c.val = true) ∧ (alGetD (alGetD (s.dram c.val).counters (locKey loc) []) loc.row.toNat 0 < s.fld (F.DMC_RH_CFG_thr_acts c.val)) ∧ (s.fld (F.DMC_PAGE_CFG_idle_clk c.val) ≠ 0) ∧ (s.bit (F.DMC_RH_CFG_pnr_en c.val) = true) ∧ (draw % 2 ^ s.fld (F.DMC_RH_CFG_k c.val) = 0)) ∧
(let s : State := (({ base .bringup with drams := [(3, { counters := [((locKey ({ subch := 1, lrank := 2, bank := 31, row := 5, column := 6 } : BurstLoc)), [(5, 9)])] })] }.setFld (F.DMC_STATUS_state 3) 2).setFld (F.DMC_RH_CFG_thr_acts 3) 9); let c := (3 : Dmc); let loc := ({ subch := 1, lrank := 2, bank := 31, row := 5, column := 6 } : BurstLoc); (s.runs) ∧ (s.dmcState c.val ≠ dmcSelfRefresh) ∧ (s.dmcState c.val ≠ dmcOff) ∧ (s.throttles c.val = true) ∧ (s.fld (F.DMC_RH_CFG_thr_acts c.val) ≤ alGetD (alGetD (s.dram c.val).counters (locKey loc) []) loc.row.toNat 0)) ∧
(let s : State := ({ base .doze with drams := [(3, {  })] }.setFld (F.DMC_STATUS_state 3) 3); let c := (3 : Dmc); (s.runs) ∧ (s.dmcState c.val = dmcSelfRefresh ∨ s.dmcState c.val = dmcOff)) ∧
(let l := ([(5, 2)] : List (Nat × Nat)); let row := 5; let n := 2; (alGet l row = some n)) ∧
(let s : State := (({ base .bringup with drams := [(3, { held := [(({ subch := 1, lrank := 2, bank := 31, row := 5, column := 6 } : BurstLoc), 3)], counters := [((locKey ({ subch := 1, lrank := 2, bank := 31, row := 5, column := 6 } : BurstLoc)), (List.range 16).map (fun i => (i, 100 + i)))] })] }.setFld (F.DMC_STATUS_state 3) 2).setFld (F.DMC_RH_CFG_thr_acts 3) 105); let c := (3 : Dmc); let loc := ({ subch := 1, lrank := 2, bank := 31, row := 5, column := 6 } : BurstLoc); let low := 100; (s.runs) ∧ (s.throttles c.val = true) ∧ (s.fld (F.DMC_RH_CFG_thr_acts c.val) ≤ alGetD (alGetD (s.dram c.val).counters (locKey loc) []) loc.row.toNat 0) ∧ ((alDel (alGetD (s.dram c.val).counters (locKey loc) []) loc.row.toNat).length = 15) ∧ ((lowest (alDel (alGetD (s.dram c.val).counters (locKey loc) []) loc.row.toNat)).map (·.2) = some low)) ∧
(let s : State := { base .solo with drams := [(3, {  })] }; let c := (3 : Dmc); let loc := ({ subch := 1, lrank := 2, bank := 31, row := 5, column := 6 } : BurstLoc); (s.runs) ∧ (s.throttles c.val = false ∨ alGetD (alGetD (s.dram c.val).counters (locKey loc) []) loc.row.toNat 0 < s.fld (F.DMC_RH_CFG_thr_acts c.val))) ∧
(let s : State := { base .bringup with drams := [(3, { counters := [(3, [])] })] }; (s.runs)) ∧
(let s : State := ({ base .solo with drams := [(3, { held := [(({ subch := 1, lrank := 2, bank := 31, row := 5, column := 6 } : BurstLoc), 3)] })] }.setFld (F.DMC_STATUS_state 3) 2); let c := 3; let loc := ({ subch := 1, lrank := 2, bank := 31, row := 5, column := 6 } : BurstLoc); let draw := 3; ((s.dram c).held = [(loc, draw)])) ∧
(let s : State := { base .solo with drams := [(3, {  })] }; let c := (3 : Dmc); let sub := (1 : Fin 2); let device := (9 : Fin 10); let d := (-9 : Int); (s.runs) ∧ (8 < d.natAbs) ∧ ((alGetD (s.dram c.val).drift (sub.val * 10 + device.val) 0).natAbs ≤ 8)) ∧
(let s : State := { base .solo with drams := [(3, {  })] }; let c := (3 : Dmc); let sub := (1 : Fin 2); let device := (9 : Fin 10); let d := (8 : Int); (s.runs) ∧ (d.natAbs ≤ 8 ∨ 8 < (alGetD (s.dram c.val).drift (sub.val * 10 + device.val) 0).natAbs)) ∧
(let s : State := { base .solo with drams := [(3, {  })] }; (s.runs)) ∧
(let c := (3 : Dmc); let v := (BitVec.ofNat 32 (2 ^ 31 + 0 * 2 ^ 27 + 5 * 2 ^ 8) : Word); let s : State := (gow (trnOff c.val) v ({ base .bringup with drams := [(3, {  })] })); (s.passes (trnOff c.val) v) ∧ (v.getLsbD 31 = true) ∧ (bitsOf v 29 27 = 0) ∧ (c.val < s.part.dmcs) ∧ (s.bit (F.DMC_TRN_CTRL_busy c.val) = false)) ∧
(let c := (3 : Dmc); let v := (BitVec.ofNat 32 (2 ^ 31 + 1 * 2 ^ 27 + 5 * 2 ^ 8) : Word); let s : State := (gow (trnOff c.val) v ({ base .bringup with drams := [(3, {  })] })); (s.passes (trnOff c.val) v) ∧ (v.getLsbD 31 = true) ∧ (bitsOf v 29 27 = 1) ∧ (c.val < s.part.dmcs) ∧ (s.bit (F.DMC_TRN_CTRL_busy c.val) = false)) ∧
(let c := (3 : Dmc); let v := (BitVec.ofNat 32 (2 ^ 31 + 2 * 2 ^ 27 + 5 * 2 ^ 8) : Word); let s : State := (gow (trnOff c.val) v ({ base .bringup with drams := [(3, {  })] })); (s.passes (trnOff c.val) v) ∧ (v.getLsbD 31 = true) ∧ (bitsOf v 29 27 = 2) ∧ (c.val < s.part.dmcs) ∧ (s.bit (F.DMC_TRN_CTRL_busy c.val) = false)) ∧
(let c := (3 : Dmc); let v := (BitVec.ofNat 32 (2 ^ 31 + 3 * 2 ^ 27 + 5 * 2 ^ 8) : Word); let s : State := (gow (trnOff c.val) v ({ base .bringup with drams := [(3, {  })] })); (s.passes (trnOff c.val) v) ∧ (v.getLsbD 31 = true) ∧ (bitsOf v 29 27 = 3) ∧ (c.val < s.part.dmcs) ∧ (s.bit (F.DMC_TRN_CTRL_busy c.val) = false)) ∧
(let c := (3 : Dmc); let v := (BitVec.ofNat 32 (2 ^ 31 + 4 * 2 ^ 27 + 5 * 2 ^ 8) : Word); let pop := ({ slot0 := some ({ rdimm := true, x4 := true, rate := 6400, height := 2, ranks := 1, banks := 32, capacity := 17179869184, directedRm := true, serial := 9 } : Dimm), slot1 := none } : DimmPop); let d := ({ rdimm := true, x4 := true, rate := 6400, height := 2, ranks := 1, banks := 32, capacity := 17179869184, directedRm := true, serial := 9 } : Dimm); let s : State := (gow (trnOff c.val) v ({ base .bringup with drams := [(3, {  })], dmarks := [(18, 4), (19, 7)] })); (s.passes (trnOff c.val) v) ∧ (s.mode = .bringup) ∧ (s.boot.filled = false) ∧ (c.val < s.part.dmcs) ∧ (s.bit (F.DMC_TRN_CTRL_busy c.val) = false) ∧ (v.getLsbD 31 = true) ∧ (bitsOf v 29 27 = 4) ∧ (pop.slot0 = some d) ∧ (popOk pop = true)) ∧
(let c := (3 : Dmc); let v := (BitVec.ofNat 32 (2 ^ 31 + 4 * 2 ^ 27 + 5 * 2 ^ 8) : Word); let pop := ({ slot0 := none, slot1 := some ({ rdimm := true, x4 := true, rate := 6400, height := 2, ranks := 1, banks := 32, capacity := 17179869184, directedRm := true, serial := 9 } : Dimm) } : DimmPop); let s : State := (gow (trnOff c.val) v (({ base .bringup with drams := [(3, {  })], pops := [(3, ⟨1, 1, 1, 7⟩)], serials := [(6, 9)] }.setFld (F.DMC_STATUS_state 3) 2))); (s.passes (trnOff c.val) v) ∧ (s.mode = .bringup) ∧ (s.boot.filled = false) ∧ (c.val < s.part.dmcs) ∧ (s.bit (F.DMC_TRN_CTRL_busy c.val) = false) ∧ (v.getLsbD 31 = true) ∧ (bitsOf v 29 27 = 4) ∧ (pop.slot0 ≠ none ∨ pop.slot1 ≠ none) ∧ (popOk pop = false)) ∧
(let s : State := { base .bringup with drams := [(3, {  })] }; (s.nor.copyA = none)) ∧
(let s : State := { base .bringup with drams := [(3, {  })] }; let c := (3 : Dmc); (s.runs) ∧ ((s.dram c.val).run = none)) ∧
(let s : State := ({ base .bringup with drams := [(3, { run := some 0 })] }.setFld (F.DMC_TRN_CTRL_count 3) 255); let c := (3 : Dmc); let op := 0; (s.runs) ∧ ((s.dram c.val).run = some op) ∧ (op ≠ 2)) ∧
(let s : State := (((({ base .bringup with drams := [(3, { run := some 2 })] }.setFld (F.DMC_TRN_CTRL_count 3) 1).setFld (F.DMC_TRN_SWEEP_start 3) 10).setFld (F.DMC_TRN_SWEEP_stop 3) 17).setFld (F.DMC_TRN_SWEEP_step 3) 2); let c := (3 : Dmc); (s.runs) ∧ ((s.dram c.val).run = some 2)) ∧
(let s : State := ({ base .bringup with boot := { ran := true }, pops := [(0, ⟨1, 1, 1, 300000⟩), (1, ⟨1, 1, 1, 300000⟩)], kept := { mem := [(7, 9), (carveBase, 1)] } }); (s.mode = .bringup) ∧ (s.boot.ran = true) ∧ (s.boot.filled = false) ∧ (s.boot.reads = []) ∧ (2 ≤ s.pops.length) ∧ (524288 ≤ s.framesFound) ∧ (Memory.wf s.kept.mem = true)) ∧
(let s : State := ({ base .bringup with boot := { ran := true } }.setFld (F.DMC_STATUS_state 3) 1); (s.mode = .bringup) ∧ (s.boot.ran = true) ∧ (s.boot.filled = false) ∧ (s.boot.reads = []) ∧ (s.pops.length < 2 ∨ s.framesFound < 524288)) ∧
(let s : State := (base .solo); (s.runs) ∧ (s.mode ≠ .bringup ∨ s.boot.ran = false ∨ s.boot.filled = true)) ∧
(let s : State := ({ base .bringup with boot := { filled := true, reads := [carveBase] } }); let a := carveBase; (s.boot.reads = [a])) ∧
(let s : State := ({ base .solo with kept := { freshTab := [(1, [0])], freshAge := [1] } }); let tile := 1; let l := 1; let bits := ([0] : List Nat); (s.runs) ∧ (s.fills = true) ∧ (s.kept.freshAge.find? (fun u => (s.clearLineOf u).isSome) = some tile) ∧ (s.clearLineOf tile = some l) ∧ (alGet s.kept.freshTab tile = some bits) ∧ ((setAdd bits l).length ≠ 256)) ∧
(let s : State := ({ base .solo with kept := { freshTab := [(1, List.range 255)], freshAge := [1] } }); let tile := 1; let l := 255; let bits := (List.range 255 : List Nat); (s.runs) ∧ (s.fills = true) ∧ (s.kept.freshAge.find? (fun u => (s.clearLineOf u).isSome) = some tile) ∧ (s.clearLineOf tile = some l) ∧ (alGet s.kept.freshTab tile = some bits) ∧ ((setAdd bits l).length = 256)) ∧
(let s : State := (base .save); (s.runs) ∧ (s.fills = false ∨ s.kept.freshAge.find? (fun u => (s.clearLineOf u).isSome) = none)) := by
  refine ⟨?_, ?_, ?_, ?_, ?_, ?_, ?_, ?_, ?_, ?_, ?_, ?_, ?_, ?_, ?_, ?_, ?_, ?_, ?_, ?_, ?_, ?_, ?_, ?_, ?_, ?_, ?_, ?_, ?_, ?_, ?_, ?_, ?_, ?_, ?_, ?_, ?_⟩ <;> (intros; decide +kernel +zetaReduce)

theorem test_burst_code_met :
(let d := ([1, 2, 3, 4, 5, 6, 7, 255] : List Byte); (d.length = 8)) ∧
(let j := 0; let d := 9; (j < 8) ∧ (d < 10)) ∧
(let w := (List.replicate 10 0 : List Byte); let i := 9; let b := (255 : Byte); (w.length = 10) ∧ (rsSyndrome 0 0 w = 0) ∧ (rsSyndrome 1 0 w = 0) ∧ (i < 10) ∧ (b ≠ w.getD i 0)) ∧
(let ws := ([[0, 0, 0, 0, 7, 0, 0, 0, 0, 0]] : List (List Byte)); let d := 4; (ws ≠ []) ∧ ((ws.all (fun w => decide (rsLocate w = Symbol.at_ d))) = true)) ∧
(let ws := ([[0, 0, 0, 0, 0, 0, 0, 0, 0, 0]] : List (List Byte)); ((ws.all (fun w => decide (rsLocate w = Symbol.clean))) = true)) ∧
(let v := ([0, 0, 0, 0, 7, 0, 0, 0, 0, 0] : List Byte); let w := ([0, 0, 3, 0, 0, 0, 0, 0, 0, 0] : List Byte); let d := 4; let e := 2; (rsLocate v = Symbol.at_ d) ∧ (rsLocate w = Symbol.at_ e) ∧ (d ≠ e)) := by
  refine ⟨?_, ?_, ?_, ?_, ?_, ?_⟩ <;> (intros; decide +kernel +zetaReduce)

theorem test_errors_are_met_met :
(let s : State := ({ base .solo with drams := [(3, {  })], kept := { tiles := [(1, { home := HomeK.dram, frame := 1900001 })] }, pops := [(3, ⟨1, 4, 32, 20000⟩)] }.setFld (F.DMC_STATUS_state 3) 2); let line := 323; let k := 1; let c := 3; let loc := ({ subch := 1, lrank := 2, bank := 31, row := 5, column := 6 } : BurstLoc); (s.burstOf line k = some (c, loc))) ∧
(let s : State := ({ base .solo with drams := [(3, {  })] }.setFld (F.DMC_STATUS_state 3) 2); let c := (3 : Dmc); let loc := ({ subch := 1, lrank := 2, bank := 31, row := 5, column := 6 } : BurstLoc); let beats := (List.replicate 16 0 : Beats); let who := Reader.walker; (s.runs) ∧ (s.dmcState c.val = dmcReady) ∧ (s.mode ≠ .save ∨ who = .saveEngine) ∧ (inArray who = false) ∧ (decodeBurst (s.markOf c.val loc.subch.val) (burstWords beats) = .clean)) ∧
(let s : State := (({ base .solo with drams := [(3, {  })] }.setFld (F.DMC_STATUS_state 3) 2).setFld (F.DMC_STATUS_mark1 3) 15); let c := (3 : Dmc); let loc := ({ subch := 1, lrank := 2, bank := 31, row := 5, column := 6 } : BurstLoc); let beats := (BitVec.ofNat 40 (7 * 16 ^ 4) :: List.replicate 15 0 : Beats); let who := Reader.walker; let d := 4; (s.runs) ∧ (s.dmcState c.val = dmcReady) ∧ (s.mode ≠ .save ∨ who = .saveEngine) ∧ (inArray who = false) ∧ (decodeBurst (s.markOf c.val loc.subch.val) (burstWords beats) = .corrected d)) ∧
(let s : State := ({ base .solo with drams := [(3, {  })], kept := { tiles := [(1, { home := HomeK.dram, frame := 1900001 })] }, pops := [(3, ⟨1, 4, 32, 20000⟩)] }.setFld (F.DMC_STATUS_state 3) 2); let c := (3 : Dmc); let loc := ({ subch := 1, lrank := 2, bank := 31, row := 5, column := 6 } : BurstLoc); let beats := (BitVec.ofNat 40 (7 * 16 ^ 4 + 9 * 16 ^ 9) :: List.replicate 15 0 : Beats); let who := Reader.engineRead; let l := 323; (s.runs) ∧ (s.dmcState c.val = dmcReady) ∧ (s.mode ≠ .save) ∧ (who = .walker ∨ who = .engineRead ∨ who = .partialMerge ∨ who = .saveEngine) ∧ (decodeBurst (s.markOf c.val loc.subch.val) (burstWords beats) = .bad) ∧ (s.lineAt c.val loc = some l) ∧ (l ∉ s.kept.poison)) ∧
(let s : State := ({ base .solo with drams := [(3, {  })], kept := { tiles := [(1, { home := HomeK.dram, frame := 1900001 })] }, pops := [(3, ⟨1, 4, 32, 20000⟩)] }.setFld (F.DMC_STATUS_state 3) 2); let c := (3 : Dmc); let loc := ({ subch := 1, lrank := 2, bank := 31, row := 5, column := 6 } : BurstLoc); let beats := (BitVec.ofNat 40 (7 * 16 ^ 4 + 9 * 16 ^ 9) :: List.replicate 15 0 : Beats); let l := 323; (s.runs) ∧ (s.dmcState c.val = dmcReady) ∧ (s.mode ≠ .save) ∧ (decodeBurst (s.markOf c.val loc.subch.val) (burstWords beats) = .bad) ∧ (s.lineAt c.val loc = some l) ∧ (l ∉ s.kept.poison)) ∧
(let s : State := ({ base .solo with drams := [(3, {  })], kept := { tiles := [(1, { home := HomeK.dram, frame := 1900001 })] }, pops := [(3, ⟨1, 4, 32, 20000⟩)] }.setFld (F.DMC_STATUS_state 3) 2); let c := (3 : Dmc); let loc := ({ subch := 1, lrank := 2, bank := 31, row := 5, column := 6 } : BurstLoc); let beats := (BitVec.ofNat 40 (7 * 16 ^ 4 + 9 * 16 ^ 9) :: List.replicate 15 0 : Beats); let l := 323; (s.runs) ∧ (s.dmcState c.val = dmcReady) ∧ (s.mode ≠ .save) ∧ (decodeBurst (s.markOf c.val loc.subch.val) (burstWords beats) = .bad) ∧ (s.lineAt c.val loc = some l) ∧ (l ∉ s.kept.poison)) ∧
(let s : State := ({ base .solo with drams := [(3, {  })], kept := { tiles := [(1, { home := HomeK.dram, frame := 1900001 })], poison := [323] }, pops := [(3, ⟨1, 4, 32, 20000⟩)] }.setFld (F.DMC_STATUS_state 3) 2); let c := (3 : Dmc); let loc := ({ subch := 1, lrank := 2, bank := 31, row := 5, column := 6 } : BurstLoc); let beats := (BitVec.ofNat 40 (7 * 16 ^ 4 + 9 * 16 ^ 9) :: List.replicate 15 0 : Beats); let who := Reader.engineRead; let l := 323; (s.runs) ∧ (s.dmcState c.val = dmcReady) ∧ (s.mode ≠ .save) ∧ (inArray who = false) ∧ (decodeBurst (s.markOf c.val loc.subch.val) (burstWords beats) = .bad) ∧ (s.lineAt c.val loc = some l) ∧ (s.kept.poison.contains l = true)) ∧
(let s : State := { base .solo with drams := [(3, {  })] }; (s.runs)) ∧
(let s : State := { base .solo with drams := [(3, {  })] }; (s.runs)) ∧
(let s : State := { base .solo with drams := [(3, {  })] }; let l := 323; (s.runs) ∧ (s.lineDirty l = false)) ∧
(let s : State := ({ base .save with drams := [(3, {  })] }.setFld (F.DMC_STATUS_state 3) 2); let c := (3 : Dmc); let who := Reader.engineRead; (s.runs) ∧ (s.dmcState c.val ≠ dmcReady ∨ s.mode = .save) ∧ (inArray who = false) ∧ (who ≠ .saveEngine)) ∧
(let s : State := ({ base .doze with drams := [(3, {  })], kept := { tiles := [(1, { home := HomeK.dram, frame := 1900001 })] }, pops := [(3, ⟨1, 4, 32, 20000⟩)] }.setFld (F.DMC_STATUS_state 3) 2); let c := (3 : Dmc); let loc := ({ subch := 1, lrank := 2, bank := 31, row := 5, column := 6 } : BurstLoc); let l := 323; (s.runs) ∧ (s.lineAt c.val loc = some l) ∧ (s.bit (F.DMC_SCRUB_CFG_en c.val) = false ∨ s.scrubs = false ∨ s.dmcState c.val ≠ dmcReady ∨ s.scrubbed l = false ∨ (s.burstFrame c.val loc).any s.isRetired = true)) ∧
(let s : State := ({ base .solo with drams := [(3, {  })] }.setFld (F.DMC_STATUS_state 3) 2); let c := (3 : Dmc); let loc := ({ subch := 1, lrank := 2, bank := 31, row := 5, column := 6 } : BurstLoc); (s.runs) ∧ (s.lineAt c.val loc = none)) ∧
(let s : State := (({ base .solo with drams := [(3, {  })], kept := { tiles := [(1, { home := HomeK.dram, frame := 1900001 })] }, pops := [(3, ⟨1, 4, 32, 20000⟩)] }.setFld (F.DMC_STATUS_state 3) 2).setBit (F.DMC_SCRUB_CFG_en 3) true); let c := (3 : Dmc); let loc := ({ subch := 1, lrank := 2, bank := 31, row := 5, column := 6 } : BurstLoc); let l := 323; (s.runs) ∧ (s.lineAt c.val loc = some l) ∧ (s.bit (F.DMC_SCRUB_CFG_en c.val) = true) ∧ (s.scrubs = true) ∧ (s.dmcState c.val = dmcReady) ∧ (s.scrubbed l = true) ∧ ((s.burstFrame c.val loc).any s.isRetired = false) ∧ (s.cached l = false)) := by
  refine ⟨?_, ?_, ?_, ?_, ?_, ?_, ?_, ?_, ?_, ?_, ?_, ?_, ?_, ?_⟩ <;> (intros; decide +kernel +zetaReduce)

theorem test_retirement_and_maintenance_met :
(let h := hdr; let f := 7; let s : State := (go h (.retireFrame f) ((base .solo))); (s.starts h (.retireFrame f)) ∧ (frameAt s.pops f = none)) ∧
(let h := hdr; let f := 5000; let c := ((3, 0, 5000) : Nat × Nat × Nat); let s : State := (go h (.retireFrame f) (({ base .solo with pops := [(3, ⟨1, 1, 1, 70000⟩)], retFrames := List.range 4096 }))); (s.starts h (.retireFrame f)) ∧ (frameAt s.pops f = some c) ∧ (f ∉ s.retFrames) ∧ (4096 ≤ s.retFrames.length + s.strayRecs true)) ∧
(let h := hdr; let f := 69000; let c := ((3, 0, 69000) : Nat × Nat × Nat); let s : State := (go h (.retireFrame f) (({ base .solo with pops := [(3, ⟨1, 1, 1, 70000⟩)], kept := { tiles := [(1, { home := .dram, frame := 69000 })] } }))); (s.starts h (.retireFrame f)) ∧ (frameAt s.pops f = some c) ∧ (f ∉ s.retFrames) ∧ (s.retFrames.length + s.strayRecs true < 4096)) ∧
(let h := hdr; let c := (3 : Dmc); let slot := 0; let lrank := 2; let bank := 31; let p := (⟨1, 2, 32, 70⟩ : Pop); let s : State := (go h (.retireBank c slot lrank bank) (({ base .solo with pops := [(3, ⟨1, 2, 32, 70⟩)] }))); (s.starts h (.retireBank c slot lrank bank)) ∧ (alGet s.pops c.val = some p) ∧ (p.slots ≤ slot ∨ p.lranks ≤ lrank ∨ p.banks ≤ bank)) ∧
(let h := hdr; let c := (3 : Dmc); let slot := 0; let lrank := 1; let bank := 31; let p := (⟨1, 2, 32, 7⟩ : Pop); let s : State := (go h (.retireBank c slot lrank bank) (({ base .solo with pops := [(3, ⟨1, 2, 32, 7⟩)] }))); (s.starts h (.retireBank c slot lrank bank)) ∧ (alGet s.pops c.val = some p) ∧ (slot < p.slots) ∧ (lrank < p.lranks) ∧ (bank < p.banks) ∧ ((c.val, (slot * p.lranks + lrank) * p.banks + bank) ∉ s.retBanks) ∧ (s.retBanks.length + s.strayRecs false < 64)) ∧
(let v := (BitVec.ofNat 32 (2 ^ 31 + 2 ^ 29 + 3 * 2 ^ 27) : Word); let s : State := (gow F.NCACHE_MAINT_CTRL_go.off v (({ base .solo with nc := { sets := [(setOf 256, { ways := [(0, ⟨256, true, false⟩)] })] } }))); (s.passes F.NCACHE_MAINT_CTRL_go.off v) ∧ (v.getLsbD 31 = true) ∧ (bitsOf v 30 29 = 1) ∧ (s.bit F.NCACHE_STATUS_maint_busy = false)) ∧
(let s : State := ({ base .solo with nc := { sets := [(setOf 256, { ways := [(0, ⟨256, true, false⟩)] })] } }); let l := 256; (s.lineDirty l = true)) ∧
(let v := (BitVec.ofNat 32 (2 ^ 31 + 2 * 2 ^ 29 + 3 * 2 ^ 27) : Word); let s : State := (gow F.NCACHE_MAINT_CTRL_go.off v (({ base .solo with nc := { sets := [(setOf 256, { ways := [(0, ⟨256, true, false⟩)] })] } }))); (s.passes F.NCACHE_MAINT_CTRL_go.off v) ∧ (v.getLsbD 31 = true) ∧ (bitsOf v 30 29 = 2) ∧ (s.bit F.NCACHE_STATUS_maint_busy = false)) ∧
(let v := (BitVec.ofNat 32 (2 ^ 31 + 3 * 2 ^ 29) : Word); let s : State := (gow F.NCACHE_MAINT_CTRL_go.off v ((base .solo))); (s.passes F.NCACHE_MAINT_CTRL_go.off v) ∧ (v.getLsbD 31 = true) ∧ (s.bit F.NCACHE_STATUS_maint_busy = true ∨ bitsOf v 30 29 = 0 ∨ bitsOf v 30 29 = 3)) ∧
(let s : State := ((base .solo).setBit F.NCACHE_STATUS_maint_busy true); (s.runs) ∧ (s.bit F.NCACHE_STATUS_maint_busy = true) ∧ (s.parks = []) ∧ (s.seam.fwdWait = []) ∧ (s.seam.early = [])) ∧
(let s : State := (base .solo); (s.runs) ∧ (s.bit F.NCACHE_STATUS_maint_busy = false)) ∧
(let s : State := ({ base .bringup with nc := { walking := true } }); (s.runs) ∧ (s.nc.walking = true)) ∧
(let s : State := (base .solo); (s.runs) ∧ (s.nc.walking = false)) := by
  refine ⟨?_, ?_, ?_, ?_, ?_, ?_, ?_, ?_, ?_, ?_, ?_, ?_, ?_⟩ <;> (intros; decide +kernel +zetaReduce)

theorem test_scans_and_contexts_met :
(let v := (BitVec.ofNat 32 (2 ^ 31 + 1) : Word); let s : State := (gow F.CRC_SCAN_CTRL_go.off v ((base .solo))); (s.passes F.CRC_SCAN_CTRL_go.off v) ∧ (v.getLsbD 31 = true) ∧ (s.bit F.CRC_SCAN_CTRL_busy = true ∨ (s.fld F.CRC_SCAN_LEN_LO_len_lo + s.fld F.CRC_SCAN_LEN_HI_len_hi * 2 ^ 32) = 0)) ∧
(let v := (BitVec.ofNat 32 (2 ^ 31 + 1) : Word); let s : State := (gow F.CRC_SCAN_CTRL_go.off v (((base .solo).setFld F.CRC_SCAN_LEN_LO_len_lo 8))); (s.passes F.CRC_SCAN_CTRL_go.off v) ∧ (v.getLsbD 31 = true) ∧ (s.bit F.CRC_SCAN_CTRL_busy = false) ∧ ((s.fld F.CRC_SCAN_LEN_LO_len_lo + s.fld F.CRC_SCAN_LEN_HI_len_hi * 2 ^ 32) ≠ 0) ∧ (2 ^ 44 < (s.fld F.CRC_SCAN_LEN_LO_len_lo + s.fld F.CRC_SCAN_LEN_HI_len_hi * 2 ^ 32) ∨ s.scanRange (s.fld F.CRC_SCAN_ADDR_LO_addr_lo + s.fld F.CRC_SCAN_ADDR_HI_addr_hi * 2 ^ 32) (s.fld F.CRC_SCAN_LEN_LO_len_lo + s.fld F.CRC_SCAN_LEN_HI_len_hi * 2 ^ 32) = false)) ∧
(let v := (BitVec.ofNat 32 (2 ^ 31 + 1) : Word); let s : State := (gow F.CRC_SCAN_CTRL_go.off v (((((base .solo).setFld F.CRC_SCAN_LEN_LO_len_lo 8).setFld F.CRC_SCAN_ADDR_LO_addr_lo (carveBase % 2 ^ 32)).setFld F.CRC_SCAN_ADDR_HI_addr_hi (carveBase / 2 ^ 32)))); (s.passes F.CRC_SCAN_CTRL_go.off v) ∧ (v.getLsbD 31 = true) ∧ (s.bit F.CRC_SCAN_CTRL_busy = false) ∧ ((s.fld F.CRC_SCAN_LEN_LO_len_lo + s.fld F.CRC_SCAN_LEN_HI_len_hi * 2 ^ 32) ≠ 0) ∧ ((s.fld F.CRC_SCAN_LEN_LO_len_lo + s.fld F.CRC_SCAN_LEN_HI_len_hi * 2 ^ 32) ≤ 2 ^ 44) ∧ (s.scanRange (s.fld F.CRC_SCAN_ADDR_LO_addr_lo + s.fld F.CRC_SCAN_ADDR_HI_addr_hi * 2 ^ 32) (s.fld F.CRC_SCAN_LEN_LO_len_lo + s.fld F.CRC_SCAN_LEN_HI_len_hi * 2 ^ 32) = true)) ∧
(let s : State := (base .solo); (s.runs) ∧ (s.scan = none)) ∧
(let s : State := { base .solo with scan := some ({ addr := carveBase, len := 8, fold := false, crc64 := true, compare := true, seq := 0, expect := 0 } : Scan), kept := { poison := [carveBase / 256] } }; let x := ({ addr := carveBase, len := 8, fold := false, crc64 := true, compare := true, seq := 0, expect := 0 } : Scan); let l := (carveBase / 256); (s.runs) ∧ (s.scan = some x) ∧ ((linesOf x.addr x.len).find? (fun l => s.kept.poison.contains l) = some l)) ∧
(let s : State := { base .solo with scan := some ({ addr := carveBase, len := 8, fold := false, crc64 := true, compare := true, seq := 0, expect := 0 } : Scan), kept := { mem := [(carveBase, 9)] } }; let x := ({ addr := carveBase, len := 8, fold := false, crc64 := true, compare := true, seq := 0, expect := 0 } : Scan); (s.runs) ∧ (s.scan = some x) ∧ ((linesOf x.addr x.len).find? (fun l => s.kept.poison.contains l) = none)) ∧
(let h := hdr; let slot := 5; let b := ({ magicOk := true, kind := 3, wrapped := true, index := 5, key := 77, salt := 0, ssci := 0, pn := 0, tagOk := true } : Blob); let s : State := (go h (.keySlot slot b) ({ base .solo with kept := { domains := [(3, ⟨1, 2, 5⟩)] } })); (s.starts h (.keySlot slot b)) ∧ (s.kept.domains.any (fun p => decide (p.2.keySlot = slot)) = true)) ∧
(let h := hdr; let slot := 6; let b := ({ magicOk := true, kind := 3, wrapped := true, index := 5, key := 77, salt := 0, ssci := 0, pn := 0, tagOk := true } : Blob); let s : State := (go h (.keySlot slot b) ((base .solo))); (s.starts h (.keySlot slot b)) ∧ (s.kept.domains.any (fun p => decide (p.2.keySlot = slot)) = false) ∧ (b.magicOk = false ∨ b.kind ≠ 3 ∨ b.wrapped = false ∨ b.tagOk = false ∨ b.index ≠ slot ∨ 1024 ≤ slot)) ∧
(let h := hdr; let slot := 5; let b := ({ magicOk := true, kind := 3, wrapped := true, index := 5, key := 77, salt := 0, ssci := 0, pn := 0, tagOk := true } : Blob); let s : State := (go h (.keySlot slot b) ((base .solo))); (s.starts h (.keySlot slot b)) ∧ (s.kept.domains.any (fun p => decide (p.2.keySlot = slot)) = false)) ∧
(let h := hdr; let slot := 5; let b := ({ magicOk := true, kind := 3, wrapped := true, index := 5, key := 77, salt := 0, ssci := 0, pn := 0, tagOk := true } : Blob); let s : State := (go h (.keySlot slot b) ((base .solo))); (s.starts h (.keySlot slot b)) ∧ (s.mirrored = false) ∧ (s.restoring = false) ∧ (s.kept.domains.any (fun p => decide (p.2.keySlot = slot)) = false) ∧ (b.magicOk = true) ∧ (b.kind = 3) ∧ (b.wrapped = true) ∧ (b.tagOk = true) ∧ (b.index = slot) ∧ (slot < 1024)) ∧
(let s : State := { base .solo with kept := { mem := [(65536, 7)], tiles := [(1, { home := HomeK.dram, frame := 66000, key := 5 }), (2, { home := HomeK.dram, frame := 66001, key := 6 })] } }; (s.slotKey 5 = 0)) ∧
(let s : State := { base .solo with kept := { mem := [(65536, 7)], tiles := [(1, { home := HomeK.dram, frame := 66000, key := 5 })] } }; let x := ({ home := HomeK.dram, frame := 66000, key := 5 } : Tile); let old := 0; let k := 77; (alGet (s.rekey 1 old k x).keyed 0 = some old) ∧ (old ≠ k)) ∧
(let h := hdr; let kind := 3; let i := 5; let s : State := (go h (.contextSave kind i false) ((base .solo))); (s.starts h (.contextSave kind i false)) ∧ (kind = 3 ∨ s.bit F.CRYP_CTX_CFG_clear_en = false)) ∧
(let h := hdr; let kind := 3; let i := 5; let s : State := (go h (.contextSave kind i true) ((base .solo))); (s.starts h (.contextSave kind i true)) ∧ (s.fuses.wrapKey ≠ .present ∨ s.context kind i = none)) ∧
(let h := hdr; let kind := 3; let i := 5; let k := 77; let salt := 0; let ssci := 0; let pn := 0; let s : State := (go h (.contextSave kind i true) ({ base .solo with fuses := { Fuses.factory with wrapKey := .present }, kept := { keySlots := [(5, 77)] } })); (s.starts h (.contextSave kind i true)) ∧ (s.fuses.wrapKey = .present) ∧ (s.context kind i = some (k, salt, ssci, pn))) ∧
(let h := hdr; let b := ({ ({ magicOk := true, kind := 3, wrapped := true, index := 5, key := 77, salt := 0, ssci := 0, pn := 0, tagOk := true } : Blob) with wrapped := false } : Blob); let s : State := (go h (.contextRestore b) ((base .solo))); (s.starts h (.contextRestore b)) ∧ (b.wrapped = false) ∧ (b.kind = 3 ∨ s.bit F.CRYP_CTX_CFG_clear_en = false)) ∧
(let h := hdr; let b := ({ ({ magicOk := true, kind := 1, wrapped := true, index := 0, key := 77, salt := 4, ssci := 6, pn := 10, tagOk := true } : Blob) with tagOk := false } : Blob); let s : State := (go h (.contextRestore b) ((base .solo))); (s.starts h (.contextRestore b)) ∧ (b.wrapped = true) ∧ (b.magicOk = false ∨ s.assocValid b.kind b.index = false ∨ b.tagOk = false ∨ s.fuses.wrapKey ≠ .present)) ∧
(let h := hdr; let b := ({ magicOk := true, kind := 1, wrapped := true, index := 0, key := 77, salt := 4, ssci := 6, pn := 10, tagOk := true } : Blob); let s : State := (go h (.contextRestore b) ({ base .solo with fuses := { Fuses.factory with wrapKey := .present } })); (s.starts h (.contextRestore b)) ∧ (b.wrapped = true) ∧ (b.magicOk = true) ∧ (s.fuses.wrapKey = .present) ∧ (s.assocValid b.kind b.index = true) ∧ (b.tagOk = true)) := by
  refine ⟨?_, ?_, ?_, ?_, ?_, ?_, ?_, ?_, ?_, ?_, ?_, ?_, ?_, ?_, ?_, ?_, ?_, ?_⟩ <;> (intros; decide +kernel +zetaReduce)

theorem test_lockstep_pairs_met :
(let s : State := (base .solo); (s.runs)) ∧
(let s : State := (base .solo); let p := (3 : Fin 4); (s.runs) ∧ (s.mode ≠ .bringup) ∧ (s.pairState p.val ≠ 3) ∧ (2 < (s.setPair_ p.val 3).countUsable)) ∧
(let s : State := ((base .solo).setFld F.LKS_STATUS_pairs 0xC0); let p := (3 : Fin 4); (s.runs) ∧ (s.pairState p.val = 3)) ∧
(let s : State := ((base .solo).setFld F.LKS_STATUS_pairs 0x0C); let p := (3 : Fin 4); (s.runs) ∧ (s.mode ≠ .bringup) ∧ (s.pairState p.val ≠ 3) ∧ ((s.setPair_ p.val 3).countUsable = 2)) ∧
(let s : State := ((base .solo).setFld F.LKS_STATUS_pairs 0xC0); let p := (3 : Fin 4); (s.runs) ∧ (s.pairState p.val = 3)) ∧
(let s : State := ((base .solo).setFld F.LKS_STATUS_pairs 0x3C); let p := (3 : Fin 4); (s.mode = .solo ∨ s.mode = .paired ∨ s.mode = .resync) ∧ (s.pairState p.val ≠ 3) ∧ ((s.setPair_ p.val 3).countUsable < 2)) ∧
(let s : State := (((base .solo).setFld F.LKS_STATUS_pairs 0x40).setFld F.LKS_CNT_mismatches 65535); let p := (0 : Fin 4); let r := 3; (s.runs) ∧ (s.pairState p.val < 2) ∧ (s.heir p.val = some r)) ∧
(let s : State := ((base .solo).setFld F.LKS_STATUS_pairs 0xC0); let p := (3 : Fin 4); (s.runs) ∧ (2 ≤ s.pairState p.val)) ∧
(let s : State := (base .solo); let p := (3 : Fin 4); (s.runs) ∧ (s.pairState p.val ≠ 2)) ∧
(let s : State := ((base .solo).setFld F.LKS_STATUS_pairs 0x80); let p := (3 : Fin 4); (s.runs) ∧ (s.pairState p.val = 2) ∧ (s.lks.halted = []) ∧ (s.lks.transients = [])) ∧
(let s : State := ((base .solo).setFld F.LKS_STATUS_pairs 0x80); let p := (3 : Fin 4); (s.runs) ∧ (s.mode ≠ .bringup) ∧ (s.pairState p.val = 2) ∧ (s.lks.halted = []) ∧ (2 < (s.setPair_ p.val 3).countUsable)) := by
  refine ⟨?_, ?_, ?_, ?_, ?_, ?_, ?_, ?_, ?_, ?_, ?_⟩ <;> (intros; decide +kernel +zetaReduce)

theorem test_window_sequences_met :
(let s : State := (base .solo); (s.manages) ∧ (s.nor.win = none)) ∧
(let s : State := (base .solo); let off := 0xA00; let v := (0x4B42 : Word); let ok := false; (s.manages) ∧ (s.nor.win = none) ∧ (ok = false ∨ off ≠ 0xA00 ∨ v ≠ 0x4B42#32)) ∧
(let s : State := { base .solo with nor := { win := some { src := .pcie, step := 1 } } }; let src := (NorSrc.core 2); let q := ({ src := .pcie, step := 1 } : NorSeq); (s.manages) ∧ (s.nor.win = some q) ∧ (q.src ≠ src)) ∧
(let s : State := { base .solo with nor := { win := some { src := .pcie, step := 1 } } }; let q := ({ src := .pcie, step := 1 } : NorSeq); (s.manages) ∧ (s.nor.win = some q)) ∧
(let s : State := { base .solo with nor := { win := some { src := .pcie, step := 1 } } }; let q := ({ src := .pcie, step := 1 } : NorSeq); (s.manages) ∧ (s.nor.win = some q)) ∧
(let q := ({ src := .pcie, step := 1 } : NorSeq); (q.step = 1)) ∧
(let q := ({ src := .pcie, step := 2 } : NorSeq); (q.step = 2)) ∧
(let q := ({ src := .pcie, step := 2 } : NorSeq); (q.step = 2)) ∧
(let q := ({ src := .pcie, step := 3, code := 0x60 } : NorSeq); (q.step = 3) ∧ (q.code = 0x60)) ∧
(let q := ({ src := .pcie, step := 3, code := 0x50 } : NorSeq); (q.step = 3) ∧ (q.code = 0x50) ∧ (q.data = [])) ∧
(let s : State := { base .solo with nor := { win := some { src := .pcie, step := 1 } } }; let q := ({ src := .pcie, step := 1 } : NorSeq); (s.runs) ∧ (s.nor.win = some q)) ∧
(let s : State := (base .solo); (s.runs) ∧ (s.nor.win = none)) ∧
(let s : State := (base .solo); (s.runs) ∧ (s.nor.ready.find? (fun q => q.code == 0xF0) = none)) ∧
(let s : State := { base .solo with nor := { ready := [({ src := .pcie, step := 3, code := 0xF0 } : NorSeq)] } }; let q := ({ src := .pcie, step := 3, code := 0xF0 } : NorSeq); (s.runs) ∧ (s.nor.ready = [q]) ∧ (q.code = 0xF0)) ∧
(let s : State := { base .solo with nor := { einc := [64] } }; let off := 0x400000; (s.runs) ∧ (s.nor.size ≤ off ∨ off / 65536 ∈ s.nor.einc ∨ s.nor.ops = [])) ∧
(let s : State := { base .solo with nor := { ops := [({ erase := true, off := 0x410000, data := [], since := 0 } : NorOp)] } }; let off := 0x410004; let o := ({ erase := true, off := 0x410000, data := [], since := 0 } : NorOp); (s.runs) ∧ (off < s.nor.size) ∧ (s.nor.einc = []) ∧ (s.nor.ops = [o]) ∧ (o.covers off = true)) ∧
(let n := ({ einc := [64], bytes := [(0x400000, 5)] } : Nor); let off := 0x400000; (off / 65536 ∈ n.einc ∨ n.size ≤ off)) := by
  refine ⟨?_, ?_, ?_, ?_, ?_, ?_, ?_, ?_, ?_, ?_, ?_, ?_, ?_, ?_, ?_, ?_, ?_⟩ <;> (intros; decide +kernel +zetaReduce)

theorem test_programs_and_erases_met :
(let s : State := { base .solo with nor := { ready := [({ src := .pcie, step := 3, code := 0x50, base := 0x400100, data := [(0x400100, 0xFFFFFF00#32)] } : NorSeq)] } }; let q := ({ src := .pcie, step := 3, code := 0x50, base := 0x400100, data := [(0x400100, 0xFFFFFF00#32)] } : NorSeq); (s.runs) ∧ (s.nor.ready = [q]) ∧ (q.code = 0x50) ∧ (s.norAllowed q.base = false)) ∧
(let s : State := ({ base .solo with nor := { ready := [({ src := .pcie, step := 3, code := 0x50, base := 0x400100, data := [(0x400100, 0xFFFFFF00#32)] } : NorSeq)] }, brownout := true }.setBit F.NORC_BOOT_copy true); let q := ({ src := .pcie, step := 3, code := 0x50, base := 0x400100, data := [(0x400100, 0xFFFFFF00#32)] } : NorSeq); (s.runs) ∧ (s.nor.ready = [q]) ∧ (q.code = 0x50) ∧ (s.norAllowed q.base = true) ∧ (s.brownout = true)) ∧
(let s : State := ({ base .solo with nor := { ready := [({ src := .pcie, step := 3, code := 0x50, base := 0x400100, data := [(0x400100, 0xFFFFFF00#32)] } : NorSeq)], ops := [({ erase := false, off := 0x400100, data := [], since := 0 } : NorOp)] } }.setBit F.NORC_BOOT_copy true); let q := ({ src := .pcie, step := 3, code := 0x50, base := 0x400100, data := [(0x400100, 0xFFFFFF00#32)] } : NorSeq); (s.runs) ∧ (s.nor.ready = [q]) ∧ (q.code = 0x50) ∧ (s.norAllowed q.base = true) ∧ (s.brownout = false) ∧ (s.norBusy false q.base = true ∨ q.base / 65536 ∈ s.nor.einc)) ∧
(let s : State := ({ base .solo with nor := { ready := [({ src := .pcie, step := 3, code := 0x50, base := 0x400100, data := [(0x400100, 0xFFFFFF00#32)] } : NorSeq)], bytes := [(0x400200, 9)] } }.setBit F.NORC_BOOT_copy true); let q := ({ src := .pcie, step := 3, code := 0x50, base := 0x400100, data := [(0x400100, 0xFFFFFF00#32)] } : NorSeq); (s.runs) ∧ (s.nor.ready = [q]) ∧ (q.code = 0x50) ∧ (s.norAllowed q.base = true) ∧ (s.brownout = false) ∧ (s.norBusy false q.base = false) ∧ (q.base / 65536 ∉ s.nor.einc) ∧ (q.base % 256 = 0) ∧ (∀ p ∈ q.data, p.1 / 256 = q.base / 256 ∧ p.1 % 4 = 0) ∧ (Memory.wf s.nor.bytes = true)) ∧
(let s : State := (base .solo); (s.runs) ∧ (s.nor.ready = [])) ∧
(let s : State := ({ base .solo with nor := { ready := [({ src := .pcie, step := 3, code := 0x60, base := 0x410000 } : NorSeq)], copyA := some ({ formOk := true, build := 1, svn := 0, key := 0, onHx := true, onMx := true, sigOk := true, digestOk := true, rails := [({ rail := 4, pg := true, core := false, critical := true, serdes := false, rst := 3#8, delayUs := 0, pg100us := 0 } : RailEntry)], railsOk := true, eRated := 0, ocv := [], pairId := 0, dramMax := 0, regs := [] } : ImageInfo) } }.setBit F.NORC_BOOT_copy true); let q := ({ src := .pcie, step := 3, code := 0x60, base := 0x410000 } : NorSeq); (s.runs) ∧ (s.nor.ready = [q]) ∧ (q.code = 0x60) ∧ (s.norAllowed q.base = true) ∧ (s.brownout = false) ∧ (s.nor.ops = []) ∧ (q.base / 65536 ∉ s.nor.einc)) ∧
(let s : State := ({ base .solo with nor := { ready := [({ src := .pcie, step := 3, code := 0x60, base := 0x410000 } : NorSeq)] } }.setBit F.NORC_BOOT_copy true); let q := ({ src := .pcie, step := 3, code := 0x60, base := 0x410000 } : NorSeq); (s.runs) ∧ (s.nor.ready = [q]) ∧ (q.code = 0x60) ∧ (s.norAllowed q.base = true) ∧ (s.brownout = false) ∧ (s.nor.ops = []) ∧ (q.base / 65536 ∉ s.nor.einc)) ∧
(let s : State := { base .solo with nor := { ready := [({ src := .pcie, step := 3, code := 0x70 } : NorSeq)], ops := [({ erase := true, off := 0x410000, data := [], since := 0 } : NorOp)] }, mrtQ := 8000000 }; let q := ({ src := .pcie, step := 3, code := 0x70 } : NorSeq); let o := ({ erase := true, off := 0x410000, data := [], since := 0 } : NorOp); (s.runs) ∧ (s.nor.ready = [q]) ∧ (q.code = 0x70) ∧ (s.nor.ops = [o]) ∧ (o.running = true)) ∧
(let s : State := (base .solo); (s.runs) ∧ (s.nor.ready = [])) ∧
(let s : State := { base .solo with nor := { ready := [({ src := .pcie, step := 3, code := 0x71 } : NorSeq)], ops := [{ ({ erase := true, off := 0x410000, data := [], since := 0 } : NorOp) with suspended := true }] } }; let q := ({ src := .pcie, step := 3, code := 0x71 } : NorSeq); let o := ({ ({ erase := true, off := 0x410000, data := [], since := 0 } : NorOp) with suspended := true } : NorOp); (s.runs) ∧ (s.nor.ready = [q]) ∧ (q.code = 0x71) ∧ (s.nor.ops = [o]) ∧ (o.suspended = true) ∧ (s.brownout = false)) ∧
(let s : State := { base .solo with nor := { ready := [({ src := .pcie, step := 3, code := 0x71 } : NorSeq)], ops := [({ erase := true, off := 0x410000, data := [], since := 0 } : NorOp)] } }; let q := ({ src := .pcie, step := 3, code := 0x71 } : NorSeq); let o := ({ erase := true, off := 0x410000, data := [], since := 0 } : NorOp); (s.runs) ∧ (s.nor.ready = [q]) ∧ (q.code = 0x71) ∧ (s.nor.ops = [o]) ∧ (o.running = true)) ∧
(let s : State := { base .solo with nor := { ops := [{ ({ erase := true, off := 0x410000, data := [], since := 0 } : NorOp) with held := true }] } }; let o := ({ ({ erase := true, off := 0x410000, data := [], since := 0 } : NorOp) with held := true } : NorOp); (s.runs) ∧ (s.nor.ops = [o]) ∧ (o.running = true) ∧ (o.held = true) ∧ (o.reads = []) ∧ (o.append = false)) ∧
(let s : State := (base .solo); (s.runs) ∧ (s.nor.ops = [])) ∧
(let s : State := { base .solo with nor := { ops := [({ erase := true, off := 0x410000, data := [], since := 0 } : NorOp)], intents := [65], bytes := [(0x41FFFF, 9), (0x420000, 8)] } }; let o := ({ erase := true, off := 0x410000, data := [], since := 0 } : NorOp); (s.runs) ∧ (s.nor.ops = [o]) ∧ (o.running = true) ∧ (o.erase = true) ∧ (o.own = false) ∧ (o.reads = []) ∧ (o.append = false) ∧ (0x400000 ≤ o.off)) ∧
(let s : State := (base .solo); (s.runs) ∧ (s.nor.ops = [])) ∧
(let s : State := { base .solo with nor := { appends := [.counter ⟨1, 2, [], 16⟩] } }; let k := (1 : Fin 3); let r := (⟨1, 2, [], 16⟩ : CounterRec); (s.runs) ∧ (s.brownout = false) ∧ (s.nor.ops = []) ∧ (s.nor.appends = [.counter r]) ∧ (k.val = 1)) ∧
(let s : State := { base .solo with nor := { appends := [.frame hdr 75] }, pops := [(3, ⟨1, 2, 32, 70⟩)], serials := [(6, 77)] }; let k := (2 : Fin 3); let h := hdr; let f := 75; let c := 3; let b := 1; let i := 5; (s.runs) ∧ (s.brownout = false) ∧ (s.nor.ops = []) ∧ (s.nor.appends = [.frame h f]) ∧ (k.val = 2) ∧ (frameAt s.pops f = some (c, b, i))) ∧
(let s : State := { base .solo with nor := { appends := [.bank hdr 3 40] }, pops := [(3, ⟨1, 2, 32, 70⟩)], serials := [(6, 77)] }; let k := (2 : Fin 3); let h := hdr; let c := 3; let b := 40; (s.runs) ∧ (s.brownout = false) ∧ (s.nor.ops = []) ∧ (s.nor.appends = [.bank h c b]) ∧ (k.val = 2)) ∧
(let s : State := { base .solo with nor := { appends := [.mark 155 4] } }; let k := (2 : Fin 3); let x := 155; let d := 4; (s.runs) ∧ (s.brownout = false) ∧ (s.nor.ops = []) ∧ (s.nor.appends = [.mark x d]) ∧ (k.val = 2)) ∧
(let s : State := { base .solo with nor := {  }, pops := [(3, ⟨1, 2, 32, 70⟩)], serials := [(6, 77)] }; let c := 3; let p := (⟨1, 2, 32, 70⟩ : Pop); (alGet s.pops c = some p)) ∧
(let s : State := (base .solo); (s.runs) ∧ (s.brownout = true ∨ s.nor.appends = [])) ∧
(let s : State := { base .solo with nor := { ops := [({ erase := true, off := 0x410000, data := [], since := 0 } : NorOp)] } }; let o := ({ erase := true, off := 0x410000, data := [], since := 0 } : NorOp); (s.runs) ∧ (s.fen.vdd = true) ∧ (s.thm.burn = none) ∧ (s.nor.ops = [o]) ∧ (o.running = true) ∧ (o.erase = true)) ∧
(let s : State := { base .solo with nor := { ops := [{ ({ erase := true, off := 0x410000, data := [], since := 0 } : NorOp) with brown := true }] }, brownout := true }; let o := ({ ({ erase := true, off := 0x410000, data := [], since := 0 } : NorOp) with brown := true } : NorOp); (s.runs) ∧ (s.fen.vdd = true) ∧ (s.nor.einc = []) ∧ (s.nor.ops = [o]) ∧ (o.brown = true)) ∧
(let s : State := (base .reset); (s.mode = .reset) ∧ (s.fen.vdd = true)) ∧
(let s : State := ({ base .reset with brownout := true }); (s.mode = .reset) ∧ (s.fen.vdd = true)) ∧
(let s : State := (gow F.NORC_CTRL_reboot.off 1#32 ((base .solo))); (s.passes F.NORC_CTRL_reboot.off 1#32) ∧ (s.bit F.NORC_BOOT_none = false)) ∧
(let s : State := (gow F.NORC_CTRL_reboot.off 1#32 (((base .bringup).setBit F.NORC_BOOT_none true))); (s.passes F.NORC_CTRL_reboot.off 1#32) ∧ (s.bit F.NORC_BOOT_none = true)) := by
  refine ⟨?_, ?_, ?_, ?_, ?_, ?_, ?_, ?_, ?_, ?_, ?_, ?_, ?_, ?_, ?_, ?_, ?_, ?_, ?_, ?_, ?_, ?_, ?_, ?_, ?_, ?_, ?_⟩ <;> (intros; decide +kernel +zetaReduce)

theorem test_only_checked_images_run_met :
(let s : State := { base .bringup with nor := { copyA := some ({ formOk := true, build := 1, svn := 0, key := 0, onHx := true, onMx := true, sigOk := true, digestOk := true, rails := [({ rail := 4, pg := true, core := false, critical := true, serdes := false, rst := 3#8, delayUs := 0, pg100us := 0 } : RailEntry)], railsOk := true, eRated := 0, ocv := [], pairId := 0, dramMax := 0, regs := [] } : ImageInfo), copyB := some ({ formOk := true, build := 2, svn := 0, key := 0, onHx := true, onMx := true, sigOk := true, digestOk := true, rails := [({ rail := 4, pg := true, core := false, critical := true, serdes := false, rst := 3#8, delayUs := 0, pg100us := 0 } : RailEntry)], railsOk := true, eRated := 0, ocv := [], pairId := 0, dramMax := 0, regs := [] } : ImageInfo) } }; let c := true; (s.pickCopy.2.2 = some c)) ∧
(let s : State := { base .bringup with nor := { copyA := some ({ formOk := true, build := 1, svn := 0, key := 0, onHx := true, onMx := true, sigOk := true, digestOk := true, rails := [({ rail := 4, pg := true, core := false, critical := true, serdes := false, rst := 3#8, delayUs := 0, pg100us := 0 } : RailEntry)], railsOk := true, eRated := 0, ocv := [], pairId := 0, dramMax := 0, regs := [] } : ImageInfo), copyB := some ({ formOk := true, build := 2, svn := 0, key := 0, onHx := true, onMx := true, sigOk := true, digestOk := true, rails := [({ rail := 4, pg := true, core := false, critical := true, serdes := false, rst := 3#8, delayUs := 0, pg100us := 0 } : RailEntry)], railsOk := true, eRated := 0, ocv := [], pairId := 0, dramMax := 0, regs := [] } : ImageInfo) } }; (s.checkCopy false = 0) ∧ (s.checkCopy true = 0) ∧ (s.digestOk false = true) ∧ (s.digestOk true = true)) ∧
(let s : State := (base .solo); (s.checkCopy false ≠ 0) ∧ (s.checkCopy true ≠ 0)) := by
  refine ⟨?_, ?_, ?_⟩ <;> (intros; decide +kernel +zetaReduce)

theorem test_register_access_met :
(let off := 0x10000; let v := (1 : Word); let s : State := (gow off v ((base .solo))); (s.passes off v)) ∧
(let off := 0x10000; let v := (1 : Word); let s : State := (gow off v (((base .bringup).setBit F.NORC_BOOT_none true))); (s.passes off v) ∧ (s.bit F.NORC_BOOT_none = true) ∧ (reachedBare off = false)) ∧
(let width := 2; let off := 0x10000; let v := (1 : Word); let s : State := (gow off v ((base .solo))); (s.passes off v) ∧ (s.bit F.NORC_BOOT_none = false) ∧ (off % 4 ≠ 0 ∨ (width ≠ 4 ∧ width ≠ 8)) ∧ (off < 0x8000000 ∨ 0xC000000 ≤ off)) ∧
(let off := 0x90000; let v := (1 : Word); let src := (some NorSrc.pcie); let s : State := (gow off v ((base .solo))); (s.passes off v) ∧ (s.writer = src) ∧ (s.bit F.NORC_BOOT_none = false ∨ reachedBare off = true) ∧ (off % 4 = 0) ∧ (off < 0x8000000 ∨ 0xC000000 ≤ off)) ∧
(let off := 0x8000A00; let v := (0x4B42 : Word); let x := NorSrc.pcie; let s : State := (gow off v ((base .solo))); (s.passes off v) ∧ (s.writer = some x) ∧ (0x8000000 ≤ off) ∧ (off < 0xC000000)) ∧
(let s : State := (base .solo); let off := 0x90000; let v := (7 : Word); let r := (((regAt 0x90000).getD (⟨0, 0, 0, 0, 0, .const 0, .any, []⟩, 0, 0)).1); let n := (((regAt 0x90000).getD (⟨0, 0, 0, 0, 0, .const 0, .any, []⟩, 0, 0)).2.1); let j := (((regAt 0x90000).getD (⟨0, 0, 0, 0, 0, .const 0, .any, []⟩, 0, 0)).2.2); (regAt off = some (r, n, j)) ∧ (s.runs) ∧ (s.ownWrite off v = none)) ∧
(let s : State := ((base .solo).setBit F.THM_LOCK_lock true); let r := ({ base := 0, n := 1, stride := 0, m := 1, step := 0, reset := .const 5, all := .any, fields := [⟨31, 8, .ro, .plain⟩, ⟨7, 0, .rwl, .plain⟩] } : RegSpec); ((r.fields.all (fun (f : FieldSpec) => decide (f.lo ≤ f.hi ∧ f.hi < 32 ∧ (f.acc = Access.ro ∨ f.acc = Access.rwl ∧ s.bit F.THM_LOCK_lock = true)))) = true)) ∧
(let h := hdr; let off := 0x90002; let values := ([1] : List Word); let s : State := (go h (.registerWrite off values) ((base .solo))); (s.starts h (.registerWrite off values)) ∧ (off % 4 ≠ 0 ∨ 2 ^ 28 ≤ off ∨ values = [] ∨ 1014 < values.length)) ∧
(let h := hdr; let off := 0x90000; let v := (1 : Word); let s : State := (go h (.registerWrite off ([v])) ((base .solo))); (s.starts h (.registerWrite off ([v]))) ∧ (off % 4 = 0) ∧ (off < 2 ^ 28) ∧ (s.ptpAbsent off v = false) ∧ ((State.writeReg s.begun (norSrc h.src) off v).mode ≠ .reset)) ∧
(let h := hdr; let off := F.TIME_CTRL_ptp_lport.off; let v := (0xFFFFFFFF : Word); let s : State := (go h (.registerWrite off ([v])) ((base .solo))); (s.starts h (.registerWrite off ([v]))) ∧ (off % 4 = 0) ∧ (off < 2 ^ 28) ∧ (s.ptpAbsent off v = true)) ∧
(let h := hdr; let off := 0x90000; let n := 1015; let s : State := (go h (.registerRead off n) ((base .solo))); (s.starts h (.registerRead off n)) ∧ (off % 4 ≠ 0 ∨ 2 ^ 28 ≤ off ∨ n = 0 ∨ 1014 < n)) ∧
(let h := hdr; let off := 0x90000; let s : State := (go h (.registerRead off 1) ((base .solo))); (s.starts h (.registerRead off 1)) ∧ (off % 4 = 0) ∧ (off < 2 ^ 28)) ∧
(let s : State := (base .solo); let off := F.THM_DEVID_LO_value.off; (s.runs) ∧ (s.bit F.NORC_BOOT_none = false ∨ reachedBare off = true)) ∧
(let s : State := (((base .solo)).setBit F.NORC_BOOT_none true); let off := 0x90000; (s.runs) ∧ (s.bit F.NORC_BOOT_none = true) ∧ (reachedBare off = false)) ∧
(let s : State := (base .solo); let off := F.THM_DEVID_LO_value.off; (off ∈ loPairs) ∧ (s.latch = [])) ∧
(let off := 0x90002; (off % 4 ≠ 0)) ∧
(let off := F.THM_DEVID_LO_value.off; (off ∈ loPairs)) ∧
(let off := 0x90FF0; (regAt off = none)) := by
  refine ⟨?_, ?_, ?_, ?_, ?_, ?_, ?_, ?_, ?_, ?_, ?_, ?_, ?_, ?_, ?_, ?_, ?_, ?_⟩ <;> (intros; decide +kernel +zetaReduce)

theorem test_paths_and_buses_met :
(let v := (63 : Word); let s : State := (gow F.PCIE_CPL_DB_head.off v ((base .solo))); (s.passes F.PCIE_CPL_DB_head.off v)) ∧
(let h := hdr; let dest := 16; let addr := 5; let qpn := 6; let s : State := (go h (.subscribe dest addr qpn) ((base .solo))); (s.starts h (.subscribe dest addr qpn)) ∧ (16 ≤ dest)) ∧
(let h := hdr; let dest := 15; let addr := 5; let qpn := 6; let s : State := (go h (.subscribe dest addr qpn) ((base .solo))); (s.starts h (.subscribe dest addr qpn)) ∧ (dest < 16)) ∧
(let s : State := ((base .solo).setBit F.PCIE_STATUS_link_up true); (s.runs) ∧ (s.link = true)) ∧
(let s : State := (base .solo); (s.runs) ∧ (s.link = false)) ∧
(let s : State := (base .doze); (s.runs) ∧ (s.link = false) ∧ (s.mode = .doze ∨ s.quiet = true)) ∧
(let s : State := { base .solo with pcieHeld := [.completion .pcie (some 3) ⟨2, 4, 0x10, .ok, 6, 0⟩ []] }; (s.runs) ∧ (s.mode ≠ .doze) ∧ (s.quiet = false)) ∧
(let s : State := { base .solo with ports := { up := [0] } }; let l := (0 : Lport); (s.runs) ∧ (s.hasPort l.val = true) ∧ (s.ports.up.contains l.val = true)) ∧
(let s : State := (base .solo); let l := (0 : Lport); (s.runs) ∧ (s.hasPort l.val = true) ∧ (s.ports.up.contains l.val = false)) ∧
(let s : State := (base .solo); let l := (31 : Lport); (s.runs) ∧ (s.hasPort l.val = false ∨ s.ports.up.contains l.val = false)) ∧
(let s : State := { base .solo with ports := { up := [0] } }; let l := (0 : Lport); (s.runs) ∧ (s.hasPort l.val = false ∨ s.ports.up.contains l.val = true)) ∧
(let s : State := { base .solo with ev := { frames := [⟨0, 5, []⟩], dests := [(3, 5, 6)] }, ports := { up := [0] }, kept := { qps := [(0, { state := .rts })] } }; let f := (⟨0, 5, []⟩ : EvFrame); let l := ([] : List EvFrame); (s.runs) ∧ (s.mode ≠ .doze) ∧ (s.quiet = false) ∧ (s.mqpSends = true) ∧ (s.ev.frames = f :: l)) ∧
(let s : State := { base .solo with ev := { dests := [(3, 5, 6)] } }; let d := ((3, 5, 6) : Nat × Nat × Nat); (s.ev.dests = [d])) ∧
(let s : State := (base .solo); (s.runs) ∧ (s.ev.frames = [] ∨ s.mode = .doze ∨ s.mqpSends = false)) ∧
(let s : State := (base .reset); let n := (1 : Fin 6); let low := true; let freed := true; ((n.val < 2 ∧ s.fen.vdd = true) ∨ (2 ≤ n.val ∧ s.runs)) ∧ (low = false ∨ freed = true)) ∧
(let s : State := (base .solo); let n := (5 : Fin 6); ((n.val < 2 ∧ s.fen.vdd = true) ∨ (2 ≤ n.val ∧ s.runs))) ∧
(let s : State := { base .solo with sbus := [(5, ⟨1⟩)] }; let n := (5 : Fin 6); let x := (⟨1⟩ : Sbus); ((n.val < 2 ∧ s.fen.vdd = true) ∨ (2 ≤ n.val ∧ s.runs)) ∧ (alGet s.sbus n.val = some x)) ∧
(let s : State := { base .solo with sbus := [(5, ⟨1⟩)] }; let n := (5 : Fin 6); let x := (⟨1⟩ : Sbus); ((n.val < 2 ∧ s.fen.vdd = true) ∨ (2 ≤ n.val ∧ s.runs)) ∧ (alGet s.sbus n.val = some x) ∧ (x.tries < 2)) ∧
(let s : State := { base .solo with sbus := [(5, ⟨2⟩)] }; let n := (5 : Fin 6); let x := (⟨2⟩ : Sbus); ((n.val < 2 ∧ s.fen.vdd = true) ∨ (2 ≤ n.val ∧ s.runs)) ∧ (alGet s.sbus n.val = some x) ∧ (2 ≤ x.tries)) ∧
(let s : State := (base .solo); let n := (5 : Fin 6); ((n.val < 2 ∧ s.fen.vdd = true) ∨ (2 ≤ n.val ∧ s.runs)) ∧ (alGet s.sbus n.val = none)) ∧
(let s : State := (((base .solo).setBit (F.SBUS_CFGn_en 5) true).setFld (F.SBUS_STATn_state 5) 1); let n := (5 : Fin 6); ((n.val < 2 ∧ s.fen.vdd = true) ∨ (2 ≤ n.val ∧ s.runs)) ∧ (s.bit (F.SBUS_CFGn_en n.val) = true) ∧ (s.fld (F.SBUS_STATn_state n.val) < 2)) ∧
(let s : State := (((base .solo).setBit (F.SBUS_CFGn_en 5) true).setFld (F.SBUS_STATn_state 5) 1); let n := (5 : Fin 6); ((n.val < 2 ∧ s.fen.vdd = true) ∨ (2 ≤ n.val ∧ s.runs)) ∧ (s.bit (F.SBUS_CFGn_en n.val) = true) ∧ (s.fld (F.SBUS_STATn_state n.val) < 2)) ∧
(let s : State := ((base .solo).setFld (F.SBUS_STATn_state 5) 3); let n := (5 : Fin 6); ((n.val < 2 ∧ s.fen.vdd = true) ∨ (2 ≤ n.val ∧ s.runs)) ∧ (s.bit (F.SBUS_CFGn_en n.val) = false ∨ 2 ≤ s.fld (F.SBUS_STATn_state n.val))) ∧
(let h := hdr; let cls := QueryObj.domain; let i := 5; let l := ([1, 0, 0, 9] : List Nat); let s : State := (go h (.query cls i) ({ base .solo with kept := { domains := [(5, ⟨4, 4, 9⟩)] } })); (s.starts h (.query cls i)) ∧ (s.queryVals i cls = some l)) ∧
(let h := hdr; let cls := QueryObj.qp; let i := 65536; let s : State := (go h (.query cls i) ((base .solo))); (s.starts h (.query cls i)) ∧ (s.queryVals i cls = none)) ∧
(let s : State := (base .solo); (s.runs)) ∧
(let s : State := (base .solo); (s.runs) ∧ (s.tapR = false)) ∧
(let s : State := (base .solo); (s.runs) ∧ (s.tapC = false)) ∧
(let s : State := (base .solo); let a := 65536; (s.runs) ∧ (s.tapW = false ∨ s.tapRange a = false)) ∧
(let s : State := ((base .solo).setFld F.THM_LIFECYCLE_debug 1); (s.runs) ∧ (s.tapR = true)) ∧
(let s : State := ((base .bringup).setFld F.THM_LIFECYCLE_debug 2); let p := (3 : Fin 4); (s.runs) ∧ (s.tapC = true) ∧ (s.pairState p.val < 2) ∧ (s.serves = false)) ∧
(let s : State := (((base .solo).setFld F.THM_LIFECYCLE_debug 2).setFld F.LKS_STATUS_pairs 0xC0); let p := (1 : Fin 4); (s.runs) ∧ (s.tapC = true) ∧ (s.pairState p.val < 2) ∧ (s.serves = true) ∧ (s.countUsable < 4)) ∧
(let s : State := (base .bringup); (s.mode = .bringup)) ∧
(let s : State := (base .solo); (s.runs) ∧ (s.mode ≠ .bringup)) ∧
(let s : State := (base .solo); (s.runs)) ∧
(let s : State := ((base .solo).setFld F.THM_LIFECYCLE_debug 2); (s.runs) ∧ (s.tapC = true)) ∧
(let s : State := ((base .solo).setFld F.THM_LIFECYCLE_debug 2); let a := 7; (s.runs) ∧ (s.tapC = true) ∧ (a < 8388608)) ∧
(let s : State := ({ base .solo with kept := { sram := [(7, 9)] } }.setFld F.THM_LIFECYCLE_debug 2); let a := 7; let v := (9 : Byte); (s.runs) ∧ (s.tapC = true) ∧ (a < 8388608) ∧ (alGet s.kept.sram a = some v)) ∧
(let s : State := (({ base .solo with kept := { mem := [(65536, 7)], tiles := [(1, { home := .dram, frame := 66000 })] } }.setFld F.THM_LIFECYCLE_debug 2).setFld F.RGN_RANGE_TOP_top_tiles 100); let a := 65536; (s.runs) ∧ (s.tapC = true) ∧ (s.tapRange a = true) ∧ (s.nc.walking = false) ∧ (a < carveBase ∨ s.boot.filled = true)) ∧
(let s : State := ((base .bringup).setFld F.THM_LIFECYCLE_debug 2); let a := carveBase; (s.runs) ∧ (s.tapC = true) ∧ (s.tapRange a = true) ∧ (s.nc.walking = true ∨ (carveBase ≤ a ∧ s.boot.filled = false))) ∧
(let s : State := ((base .bringup).setFld F.THM_LIFECYCLE_debug 2); let a := 7; (s.runs) ∧ (s.tapC = true) ∧ (a < 8388608) ∧ (alGet s.kept.sram a = none) ∧ (s.boot.ran = false)) ∧
(let s : State := (({ base .solo with kept := { mem := [(65536, 7)], tiles := [(1, { home := .dram, frame := 66000 })] } }.setFld F.THM_LIFECYCLE_debug 2).setFld F.RGN_RANGE_TOP_top_tiles 100); let a := 65536; (s.runs) ∧ (s.tapW = true) ∧ (s.inTenant a 1 = true ∨ inTableArea a 1 = true)) ∧
(let s : State := (base .solo); (s.runs)) ∧
(let s : State := (base .solo); (s.runs)) := by
  refine ⟨?_, ?_, ?_, ?_, ?_, ?_, ?_, ?_, ?_, ?_, ?_, ?_, ?_, ?_, ?_, ?_, ?_, ?_, ?_, ?_, ?_, ?_, ?_, ?_, ?_, ?_, ?_, ?_, ?_, ?_, ?_, ?_, ?_, ?_, ?_, ?_, ?_, ?_, ?_, ?_, ?_, ?_, ?_, ?_⟩ <;> (intros; decide +kernel +zetaReduce)

theorem test_pins_and_balls_met :
(let b := (Ball.nand 0 2); (b.signal = true)) ∧
(let r := 69; let c := 11; let b := (Ball.nand 12 24); (ballAt r c = some b) ∧ (b.signal = true)) ∧
(let r := 10; let c := 15; (1 ≤ r) ∧ (r ≤ 69) ∧ (1 ≤ c) ∧ (c ≤ 69)) ∧
(let r := 18; let c := 60; (mayFloat Part.mx r c = true)) ∧
(let s : State := (((base .solo).setFld (F.EVT_PENDg_pend 0) 32).setFld (F.EVT_ROUTEn_pin 5) 2); (s.mode ≠ .reset) ∧ (s.pended 5 = true) ∧ (s.masked 5 = false)) ∧
(let s : State := ({ base .solo with fen := { on := [4] } }); let n := 4; (s.railEn n = true)) := by
  refine ⟨?_, ?_, ?_, ?_, ?_, ?_⟩ <;> (intros; decide +kernel +zetaReduce)

end Sys2Proof.Tests
end

section
/-! PROOFS. Commands on shared state: what a row does in its turn, alone, at LEAD and at FOLLOW. -/

namespace Sys2Proof.Machine

/-! ### The row and its outcome -/

/-- In its turn a shared-state command's row is `runShared` on the state with the command begun. -/
theorem State.sharedRow_starts {s : State} {h : Hdr} {c : Cmd} (hs : s.starts h c) : s.sharedRow h c = .next (s.begun.runShared h c) := by
  unfold State.sharedRow State.start
  rw [if_pos hs]

/-- A refused command completes with the status of its check; only a bad key blob does more (R273). -/
theorem State.runShared_refused {s : State} {c : Cmd} {st : Status} (h : Hdr) (hc : s.checkShared c = .error st)
    (hk : ∀ slot b, c ≠ .keySlot slot b) : s.runShared h c = s.complete h st := by
  unfold State.runShared State.failShared
  rw [hc]
  cases c
  case keySlot slot b => exact absurd rfl (hk slot b)
  all_goals rfl

/-- On a unit that runs alone a command whose checks pass takes effect and ends. -/
theorem State.runShared_alone {s : State} {c : Cmd} {vals : List Nat} (h : Hdr) (hm : s.mirrored = false) (hc : s.checkShared c = .ok vals) :
    s.runShared h c = s.finishShared h c vals := by
  simp [State.runShared, hc, hm]

/-- LEAD takes its own command to the twin (R169). -/
theorem State.runShared_lead {s : State} {h : Hdr} {c : Cmd} {vals : List Nat} (hm : s.mirrored = true) (hl : s.lead = true)
    (hsrc : h.src ≠ .twin) (hc : s.checkShared c = .ok vals) : s.runShared h c = s.leadCmd h c vals := by
  simp [State.runShared, hc, hm, hl, hsrc]

/-- FOLLOW sends its own command on (R169). -/
theorem State.runShared_follow {s : State} {h : Hdr} {c : Cmd} {vals : List Nat} (hm : s.mirrored = true) (hl : s.lead = false)
    (hsrc : h.src ≠ .twin) (hc : s.checkShared c = .ok vals) : s.runShared h c = s.sendToLead h c := by
  simp [State.runShared, hc, hm, hl, hsrc]

/-- A row whose command is refused completes with the check's status. -/
theorem State.sharedRow_refused {s : State} {h : Hdr} {c : Cmd} {st : Status} (hs : s.starts h c) (hc : s.begun.checkShared c = .error st)
    (hk : ∀ slot b, c ≠ .keySlot slot b) : s.sharedRow h c = .next (s.begun.complete h st) := by
  rw [State.sharedRow_starts hs, State.runShared_refused h hc hk]

/-- A row whose command passes on a unit that runs alone. -/
theorem State.sharedRow_alone {s : State} {h : Hdr} {c : Cmd} {vals : List Nat} (hs : s.starts h c) (hm : s.mirrored = false)
    (hc : s.begun.checkShared c = .ok vals) : s.sharedRow h c = .next (s.begun.finishShared h c vals) := by
  rw [State.sharedRow_starts hs, State.runShared_alone h (s := s.begun) hm hc]

/-- In PAIRED and RESYNC no command is refused for a restore under way (R154). -/
theorem State.restoring_of_mirrored {s : State} (hm : s.mirrored = true) : s.restoring = false := by
  cases hmode : s.mode <;> simp_all [State.mirrored, State.restoring]

/-! ### What a frame to the twin leaves alone -/

/-- Nothing changed but Seam, the free values drawn and what has left the device. -/
def State.onlySeam (s t : State) : Prop := t = { s with seam := t.seam, free := t.free, out := t.out }

theorem State.onlySeam.rfl {s : State} : s.onlySeam s := by unfold State.onlySeam; cases s; simp

theorem State.onlySeam.trans {s t u : State} (h : s.onlySeam t) (k : t.onlySeam u) : s.onlySeam u := by
  unfold State.onlySeam at *; rw [k, h]

theorem State.onlySeam.ite {s a b : State} {p : Prop} [Decidable p] (ha : s.onlySeam a) (hb : s.onlySeam b) : s.onlySeam (if p then a else b) := by
  split <;> assumption

theorem State.onlySeam.forUp {f : Nat → State → State} (hf : ∀ i (s : State), s.onlySeam (f i s)) :
    ∀ (k i : Nat) (s : State), s.onlySeam (Machine.forUp f k i s)
  | 0, _, _ => .rfl
  | k + 1, i, s => (hf i s).trans (State.onlySeam.forUp hf k (i + 1) (f i s))

theorem State.setLink_onlySeam (s : State) (l : Nat) (x : Link) : s.onlySeam (s.setLink l x) := by unfold State.onlySeam; rfl

theorem State.putFrame_onlySeam (s : State) (l n i : Nat) (f : SFrame) : s.onlySeam (s.putFrame l n i f) := by unfold State.onlySeam; rfl

theorem State.sendFrame_onlySeam (s : State) (l i : Nat) (f : SFrame) : s.onlySeam (s.sendFrame l i f) := by
  unfold State.sendFrame State.launch
  exact .ite ((s.setLink_onlySeam _ _).trans (State.putFrame_onlySeam _ _ _ _ _)) (s.setLink_onlySeam _ _)

theorem State.sendOn_onlySeam (s : State) (l : Nat) (f : SFrame) : s.onlySeam (s.sendOn l f) :=
  State.onlySeam.forUp (fun i s => s.sendFrame_onlySeam l i f) _ _ _

theorem State.seamSend_onlySeam (s : State) (f : SFrame) : s.onlySeam (s.seamSend f) := by
  have drawn : s.onlySeam { s with free := s.free + 1 } := by unfold State.onlySeam; rfl
  unfold State.seamSend
  exact .ite (.ite (drawn.trans (State.sendOn_onlySeam _ _ _)) (.ite (State.sendOn_onlySeam _ _ _) (State.sendOn_onlySeam _ _ _)))
    (.ite (State.sendOn_onlySeam _ _ _) .rfl)

@[simp] theorem State.seamSend_csr (s : State) (f : SFrame) : (s.seamSend f).csr = s.csr := by rw [s.seamSend_onlySeam f]
@[simp] theorem State.seamSend_gate (s : State) (f : SFrame) : (s.seamSend f).gate = s.gate := by rw [s.seamSend_onlySeam f]

/-- A claim number carries the rank it is made with (R24): the identity takes one bit below it, and the rank two. -/
theorem State.claimRank_claimOf (s : State) {rank : Nat} (hr : rank < 4) : claimRank (s.claimOf rank) = rank := by
  have hu : s.fld F.SEAM_STATUS_unit < 2 := s.fld_lt F.SEAM_STATUS_unit
  unfold claimRank State.claimOf
  rw [BitVec.toNat_ofNat]
  omega

end Sys2Proof.Machine
end

section
/-! PROOFS. Protection domains (R41, R43): what their checks answer, and the statement about their commands. -/

namespace Sys2Proof.Machine

/-! ### The checks -/

variable {s : State} {pd rq qq slot : Nat}

theorem State.checkCreateDomain_ok (hr : s.restoring = false) (hpd : pd < 1024) (hfree : alGet s.kept.domains pd = none) (hrq : rq ≤ 1048576)
    (hqq : qq ≤ 65536) (hslot : slot < 1024) : s.checkCreateDomain pd rq qq slot = .ok [] := by
  unfold State.checkCreateDomain State.unlessRestoring
  rw [if_neg (by omega), hfree, if_neg (by simp), if_neg (by omega), hr, if_neg (by simp)]

theorem State.checkCreateDomain_busy (hpd : pd < 1024) (hact : alGet s.kept.domains pd ≠ none) :
    s.checkCreateDomain pd rq qq slot = .error .busy := by
  simp [State.checkCreateDomain, hpd, Option.isSome_iff_ne_none, hact]

theorem State.checkCreateDomain_invalid (hfree : alGet s.kept.domains pd = none) (hbad : 1024 ≤ pd ∨ 1048576 < rq ∨ 65536 < qq ∨ 1024 ≤ slot) :
    s.checkCreateDomain pd rq qq slot = .error .invalid := by
  unfold State.checkCreateDomain
  by_cases hpd : 1024 ≤ pd
  · rw [if_pos hpd]
  · rw [if_neg hpd, hfree, if_neg (by simp), if_pos (hbad.resolve_left hpd)]

theorem State.checkDestroyDomain_ok (hr : s.restoring = false) (hact : alGet s.kept.domains pd ≠ none) (hrgns : s.rgnsIn pd = 0)
    (hqps : s.qpsIn pd = 0) : s.checkDestroyDomain pd = .ok [] := by
  simp [State.checkDestroyDomain, State.unlessRestoring, hr, hact, hrgns, hqps]

theorem State.checkDestroyDomain_busy (hact : alGet s.kept.domains pd ≠ none) (hheld : 0 < s.rgnsIn pd ∨ 0 < s.qpsIn pd) :
    s.checkDestroyDomain pd = .error .busy := by
  unfold State.checkDestroyDomain
  rw [if_neg (by simpa using hact), if_pos hheld]

theorem State.checkDestroyDomain_invalid (hfree : alGet s.kept.domains pd = none) : s.checkDestroyDomain pd = .error .invalid := by
  simp [State.checkDestroyDomain, hfree]

/-! ### The rows -/

theorem exec_createDomain (h : Hdr) (s : State) :
    exec (.createDomain h pd rq qq slot) s = s.sharedRow h (.createDomain pd rq qq slot) := by rfl

theorem exec_destroyDomain (h : Hdr) (s : State) : exec (.destroyDomain h pd) s = s.sharedRow h (.destroyDomain pd) := by rfl

theorem State.finishShared_createDomain (s : State) (h : Hdr) (vals : List Nat) :
    s.finishShared h (.createDomain pd rq qq slot) vals = (s.putDomain pd rq qq slot).complete h .ok := by rfl

theorem State.finishShared_destroyDomain (s : State) (h : Hdr) (vals : List Nat) :
    s.finishShared h (.destroyDomain pd) vals = (s.dropDomain pd).complete h .ok := by rfl

theorem State.leadCmd_createDomain (s : State) (h : Hdr) (vals : List Nat) :
    s.leadCmd h (.createDomain pd rq qq slot) vals =
      ((s.putDomain pd rq qq slot).awaitTwin h (.createDomain pd rq qq slot) vals false).seamSend
        (.command h (.createDomain pd rq qq slot) vals) := by rfl

/-! ### The statement -/

/-- Settles O18: each row is `runShared` on the begun state, whose checks see what they saw before; the outcome follows from the check's
answer and from the unit's place in its pair. -/
theorem domainCommands : Obligations.DomainCommands := by
  unfold Obligations.DomainCommands
  refine ⟨?createAlone, ?createBusy, ?createInvalid, ?destroyAlone, ?destroyBusy, ?destroyInvalid, ?alone, ?refused, ?lead, ?follow, ?sent⟩
  case createAlone =>
    intro s h pd rq qq k hs hr hm hpd hfree hrq hqq hk
    have hc : s.begun.checkShared (.createDomain pd rq qq k) = .ok [] := State.checkCreateDomain_ok (s := s.begun) hr hpd hfree hrq hqq hk
    rw [exec_createDomain, State.sharedRow_alone hs hm hc, State.finishShared_createDomain]
    rfl
  case createBusy =>
    intro s h pd rq qq k hs hpd hact
    have hc : s.begun.checkShared (.createDomain pd rq qq k) = .error .busy := State.checkCreateDomain_busy (s := s.begun) hpd hact
    rw [exec_createDomain, State.sharedRow_refused hs hc nofun]
  case createInvalid =>
    intro s h pd rq qq k hs hfree hbad
    have hc : s.begun.checkShared (.createDomain pd rq qq k) = .error .invalid := State.checkCreateDomain_invalid (s := s.begun) hfree hbad
    rw [exec_createDomain, State.sharedRow_refused hs hc nofun]
  case destroyAlone =>
    intro s h pd hs hr hm hact hrgns hqps
    have hc : s.begun.checkShared (.destroyDomain pd) = .ok [] := State.checkDestroyDomain_ok (s := s.begun) hr hact hrgns hqps
    rw [exec_destroyDomain, State.sharedRow_alone hs hm hc, State.finishShared_destroyDomain]
    rfl
  case destroyBusy =>
    intro s h pd hs hact hheld
    have hc : s.begun.checkShared (.destroyDomain pd) = .error .busy := State.checkDestroyDomain_busy (s := s.begun) hact hheld
    rw [exec_destroyDomain, State.sharedRow_refused hs hc nofun]
  case destroyInvalid =>
    intro s h pd hs hfree
    have hc : s.begun.checkShared (.destroyDomain pd) = .error .invalid := State.checkDestroyDomain_invalid (s := s.begun) hfree
    rw [exec_destroyDomain, State.sharedRow_refused hs hc nofun]
  case alone =>
    intro s h c vals hm hc
    exact State.runShared_alone h hm hc
  case refused =>
    intro s h c st hc hk
    exact State.runShared_refused h hc hk
  case lead =>
    intro s h pd rq qq k hs hm hl hsrc hpd hfree hrq hqq hk
    have hc : s.begun.checkShared (.createDomain pd rq qq k) = .ok [] :=
      State.checkCreateDomain_ok (s := s.begun) (State.restoring_of_mirrored hm) hpd hfree hrq hqq hk
    rw [exec_createDomain, State.sharedRow_starts hs, State.runShared_lead (s := s.begun) hm hl hsrc hc, State.leadCmd_createDomain]
    rfl
  case follow =>
    intro s h pd rq qq k hs hm hl hsrc hpd hfree hrq hqq hk
    have hc : s.begun.checkShared (.createDomain pd rq qq k) = .ok [] :=
      State.checkCreateDomain_ok (s := s.begun) (State.restoring_of_mirrored hm) hpd hfree hrq hqq hk
    rw [exec_createDomain, State.sharedRow_starts hs, State.runShared_follow (s := s.begun) hm hl hsrc hc]
  case sent =>
    intro s h c
    refine ⟨?_, ?_, ?_, ?_, s.claimRank_claimOf (by decide)⟩ <;> simp [State.sendToLead, State.awaitTwin]

end Sys2Proof.Machine
end

section
/-! PROOFS. Regions: the domain check of a walk (R42, R51), and registration (R44, R57). -/

namespace Sys2Proof.Machine

/-! ### The domain check (R42) -/

variable {s : State} {pd : Nat} {key : BitVec 32} {right : Right} {va len : Nat} {bounds : Bool}

/-- Steps 1 to 7 of R51 pass only for the region's own domain (step 5). -/
theorem State.pd_of_keyCheck (hc : s.keyCheck pd key right va len bounds = none) : (s.rgn (keyIndex key)).pd = pd := by
  by_contra hpd
  unfold State.keyCheck at hc
  simp only [if_pos hpd] at hc
  split at hc
  · cases hc
  · split at hc
    · cases hc
    · split at hc <;> cases hc

/-- What `admits` lets through has passed `keyCheck`. -/
theorem State.keyCheck_of_admits {x : Nat × List (Nat × Nat)} (ha : (s.admits pd key right va len bounds).2 = .ok x) :
    s.keyCheck pd key right va len bounds = none := by
  have hcached : ∀ p : Prop, [Decidable p] → (if p then s.cacheDesc (keyIndex key) else s).keyCheck pd key right va len bounds =
      s.keyCheck pd key right va len bounds := fun p _ => by split <;> rfl
  by_contra hc
  obtain ⟨⟨syn, stale⟩, hsyn⟩ := Option.ne_none_iff_exists'.1 hc
  unfold State.admits at ha
  simp only [hcached, hsyn] at ha
  split at ha <;> split at ha <;> cases ha

/-- Settles O21: admission implies the key check, whose fifth step compares the domains. -/
theorem domainsNeverCross : Obligations.DomainsNeverCross := by
  unfold Obligations.DomainsNeverCross
  refine ⟨fun s pd key right va len bounds x ha => State.pd_of_keyCheck (State.keyCheck_of_admits ha), ?_⟩
  intro s pd key right va len bounds hpd
  cases ha : (s.admits pd key right va len bounds).2 with
  | error syn => exact ⟨syn, rfl⟩
  | ok x => exact absurd (State.pd_of_keyCheck (State.keyCheck_of_admits ha)) hpd

/-! ### Registration (R57) -/

theorem exec_register (h : Hdr) (a : RegArgs) (s : State) : exec (.register h a) s = s.sharedRow h (.register a) := by rfl

theorem State.chooseIndex_begun (s : State) (k i : Nat) : s.begun.chooseIndex k i = s.chooseIndex k i := by
  induction k generalizing i with
  | zero => rfl
  | succ k ih => unfold State.chooseIndex; rw [ih]; rfl

theorem State.checkRegister_begun (s : State) (a : RegArgs) : s.begun.checkRegister a = s.checkRegister a := by
  unfold State.checkRegister State.registerIndex
  rw [State.chooseIndex_begun]; rfl

/-- A register command whose checks pass on a unit that runs alone: the effect is `putRegion` at the index's key, and the completion returns that key. -/
theorem exec_register_alone {s : State} {h : Hdr} {a : RegArgs} {i : Nat} (hs : s.starts h (.register a)) (hr : s.restoring = false)
    (hm : s.mirrored = false) (hi : s.registerIndex a = some i) (hc : s.registerCheck i a = none) :
    exec (.register h a) s = .next ((s.begun.putRegion a (keyOf i (s.rgn i).epoch)).complete h .ok [keyOf i (s.rgn i).epoch]) := by
  have hcheck : s.begun.checkShared (.register a) = .ok [keyOf i (s.rgn i).epoch] := by
    show s.begun.checkRegister a = _
    rw [State.checkRegister_begun]
    simp [State.checkRegister, State.unlessRestoring, hi, hc, hr]
  rw [exec_register, State.sharedRow_alone hs hm hcheck]
  rfl

/-- A register command for an extent of one tile, tile 1, with the policy prefer-DRAM (R118). -/
def preferDramArgs : RegArgs :=
  { index := some 7, pd := 5, tiled := false, read := true, write := true, atomic := false, flush := false, local_ := false, vaBase := 0x1000
    length := 65536, target := 0x10000, tileCount := 0, rnrThr := 0, ext := true, policy := 1, reservedZero := true }

/-- The header under which the management queue pair sends it. -/
def preferDramHdr : Hdr := ⟨.mqp, 7, 4⟩

/-- A unit in SOLO that has granted that command: its domain is ACTIVE, and the extent's one tile is homed in NAND. -/
def preferDramUnit : State :=
  ({ State.reset with
      mode := .solo, kept := { domains := [(5, ⟨4, 4, 9⟩)], tiles := [(1, { home := .nand })] }
      gate := { granted := [⟨preferDramHdr, .register preferDramArgs, false⟩] } }.setFld F.RGN_RDT_CFG_count 16).setFld
    F.RGN_RANGE_TOP_top_tiles 16

/-- The registration of the extent queues the job that takes its tile to DRAM (R120). -/
theorem preferDramUnit_queues_job :
    (preferDramUnit.begun.putRegion preferDramArgs (keyOf 7 (preferDramUnit.rgn 7).epoch)).tlr.jobs = [⟨7, true, [1], none⟩] := by
  decide +kernel

/-- Refutes O19: registering an extent does more than write its descriptor. With the policy prefer-DRAM and a tile in NAND it also queues
the extent's move (R120), and the statement allows no job. -/
theorem not_registerAnswersKey : ¬ Obligations.RegisterAnswersKey := by
  unfold Obligations.RegisterAnswersKey
  rintro ⟨named, -, -⟩
  have hs : preferDramUnit.starts preferDramHdr (.register preferDramArgs) := by decide +kernel
  have hr : preferDramUnit.restoring = false := by decide +kernel
  have hm : preferDramUnit.mirrored = false := by decide +kernel
  have hc : preferDramUnit.registerCheck 7 preferDramArgs = none := by decide +kernel
  have claimed := named _ _ _ 7 hs hr hm rfl hc
  rw [exec_register_alone hs hr hm rfl hc] at claimed
  have hjobs := congrArg (fun t : State => t.tlr.jobs) (Host.Outcome.next.inj claimed)
  simp only [State.complete_tlr, preferDramUnit_queues_job] at hjobs
  exact absurd hjobs (List.cons_ne_nil _ _)

end Sys2Proof.Machine
end

section
set_option Elab.async false
/-! PROOFS. The rows of the table: when a command acts at all (R7, R26, R281), and the statement about a unit without FEN_VDD. -/

namespace Sys2Proof.Machine

/-! ### In RESET, and without FEN_VDD, no kind of row acts -/

variable {s : State}

theorem State.core_reset (hm : s.mode = .reset) (f : State → State) : s.core f = .next s := by simp [State.core, hm]

theorem State.start_reset (hm : s.mode = .reset) (h : Hdr) (c : Cmd) (f : State → State) : s.start h c f = .next s := by
  simp [State.start, State.turn, hm]

theorem State.sharedRow_reset (hm : s.mode = .reset) (h : Hdr) (c : Cmd) : s.sharedRow h c = .next s := State.start_reset hm h c _

theorem State.pairRow_reset (hm : s.mode = .reset) (f : State → State) : s.pairRow f = .next s := State.core_reset hm _

theorem State.post_reset (hm : s.mode = .reset) (off : Nat) (v : Word) (f : State → State) : s.post off v f = .next s := by
  simp [State.post, State.turnWrite, hm]

theorem State.fenCmd_unpowered (hv : s.fen.vdd = false) (f : State → State) : s.fenCmd f = .next s := by simp [State.fenCmd, hv]

theorem State.sbusCmd_unpowered (hm : s.mode = .reset) (hv : s.fen.vdd = false) (n : Nat) (f : State → State) : s.sbusCmd n f = .next s := by
  unfold State.sbusCmd
  split
  · exact s.fenCmd_unpowered hv f
  · exact s.core_reset hm f

/-- Settles O3: each row is guarded by the core's mode or by FEN_VDD, but for the rise of FEN_VDD itself. -/
theorem nothingActsUnpowered : Obligations.NothingActsUnpowered := by
  unfold Obligations.NothingActsUnpowered
  intro c s hm hv hrise
  unfold exec
  cases c
  case csrWrite pf1 width off v => exact State.post_reset hm off v (State.doCsrWrite · s.writer pf1 width off v)
  case fenVddRise mv twinId fitted => exact absurd rfl (hrise mv twinId fitted)
  case gateCommandArrive | gateWindowClose | norWindowWrite => exact congrArg Host.Outcome.next (if_pos (.inl hm))
  case sbusEnable | sbusRecoveryRetry | sbusSclTimeout | sbusTransactionDone => exact State.sbusCmd_unpowered hm hv _ _
  case powerFailIndication | powerFailGlitch | powerFailConfirm | mainInputGood | powerButton | powerOnStart | railDelayExpire | railPgRise |
      railSettleExpire | railStepTimeout | seqRetryWaitExpire | fenRailDrop | vcoreWindowTrip | resetStretchExpire | vcoreStep | vcoreCheck | monTrip
      | batRateLow | batRateHigh | batRead | batPresenceChange | batAuthStart | batAuthRead | socOcvReset | fenBatFull | energyEstimate |
      brownoutBegin | brownoutResume | fenVddLoss | railRemoveDelayExpire | fenSample | batAuthRetry => exact State.fenCmd_unpowered hv _
  case weftStallCfgWrite | trnWriteReadCompare | trnReadCompare | trnSweep | trnRcdLoopback | trnSetReady | maintClean | maintCleanInvalidate |
      scanStart | norReboot | thmLockSet | evtPendClear | evtMaskWrite | monSnap | peatSnapTake | pcieDoorbell | pcieCplHead =>
    exact State.post_reset hm _ _ _
  case query | registerRead | registerWrite | fence | test | rejoin | retireFrame | retireBank | save | acceptOlderImage | discardImage | doze |
      giveBack | setTime | witnessToken | keySlot | contextSave | contextRestore | provisionBegin | provisionCommit | secure | returnUnit | scrap |
      advanceRollback | debugChallenge | debugOpen | debugClose | peatClear | subscribe =>
    exact State.start_reset hm _ _ _
  case createDomain | destroyDomain | createQp | modifyQp | destroyQp | postReceive | createSrq | register | deregister | repair | sync | setExtent |
      discard | tableWrite | channelCreate | channelClose | attachPublisher | detachPublisher | attachSubscriber | resume | remove =>
    exact State.sharedRow_reset hm _ _
  case seamBeatReceive | seamLinkUp | seamLinkDown | mackReceive | departReceive | tackBeatReceive | yieldReceive | pathLost | pairWaitExpire |
      witnessGrant | fenDozeExit | dozeTwinGraceEnd =>
    exact State.pairRow_reset hm _
  all_goals exact State.core_reset hm _

end Sys2Proof.Machine
end

section
set_option Elab.async false
/-! PROOFS. The step, and the state after reset. -/

namespace Sys2Proof.Machine

/-- Settles O1: the two arms of the step, by what the queue holds. -/
theorem stepTakesFront : Obligations.StepTakesFront := by
  unfold Obligations.StepTakesFront step
  refine ⟨fun c rest s hq => ?_, fun s hq => ?_⟩
  · rw [hq]
  · rw [hq]

/-- Settles O6: no key is needed while the lifecycle is BLANK and no sequence runs; each register is evaluated over its reset value. -/
theorem resetState : Obligations.ResetState := by
  unfold Obligations.ResetState
  refine ⟨⟨rfl, rfl, rfl, rfl, rfl, ⟨fun h => absurd h (by decide), nofun⟩, rfl, rfl⟩, ?_⟩
  decide +kernel

end Sys2Proof.Machine
end

section
set_option Elab.async false
/-! PROOFS. Spool (R30, R31): which cell a grant takes, what it does to the counts, and the statement about the reserves. -/

namespace Sys2Proof.Machine

/-! ### Counts over a keyed list -/

/-- A number below all keys is no key. -/
theorem alGet_eq_none_of_lt {α : Type} {l : List (Nat × α)} {b n : Nat} (hr : alRises b l = true) (hn : n < b) : alGet l n = none := by
  induction l generalizing b with
  | nil => rfl
  | cons p l ih =>
    simp only [alRises, Bool.and_eq_true, decide_eq_true_eq] at hr
    rw [alGet_cons, if_neg (by omega)]
    exact ih hr.2 (by omega)

theorem le_of_mem_alRises {α : Type} {l : List (Nat × α)} {b : Nat} (hr : alRises b l = true) {p : Nat × α} (hp : p ∈ l) : b ≤ p.1 := by
  induction l generalizing b with
  | nil => cases hp
  | cons q l ih =>
    simp only [alRises, Bool.and_eq_true, decide_eq_true_eq] at hr
    rcases List.mem_cons.1 hp with rfl | hp
    · exact hr.1
    · exact Nat.le_trans (by omega) (ih hr.2 hp)

/-- A put adds the new value to a count and takes the old one from it. -/
theorem countP_alPut {α : Type} (q : α → Bool) {l : List (Nat × α)} {b : Nat} (hr : alRises b l = true) (n : Nat) (v : α) :
    (alPut l n v).countP (q ·.2) + ((alGet l n).elim 0 fun w => (q w).toNat) = l.countP (q ·.2) + (q v).toNat := by
  have hbool : ∀ c : Bool, (if c = true then 1 else 0) = c.toNat := fun c => by cases c <;> rfl
  induction l generalizing b with
  | nil => simp [alPut, List.countP_cons, hbool]
  | cons p l ih =>
    obtain ⟨k, w⟩ := p
    simp only [alRises, Bool.and_eq_true, decide_eq_true_eq] at hr
    unfold alPut
    split
    · rename_i hlt
      have hnone : alGet ((k, w) :: l) n = none := by rw [alGet_cons, if_neg (by omega), alGet_eq_none_of_lt hr.2 (by omega)]
      simp [hnone, List.countP_cons, hbool]
    · split
      · rename_i hk
        subst hk
        simp [alGet_cons, List.countP_cons, hbool]
        omega
      · rename_i hk
        have := ih hr.2
        simp only [alGet_cons, if_neg (Ne.symm hk), List.countP_cons, hbool]
        omega

/-- In a list with rising keys every entry is found under its key. -/
theorem alGet_of_mem {α : Type} {l : List (Nat × α)} {b : Nat} (hr : alRises b l = true) {p : Nat × α} (hp : p ∈ l) : alGet l p.1 = some p.2 := by
  induction l generalizing b with
  | nil => cases hp
  | cons q l ih =>
    simp only [alRises, Bool.and_eq_true, decide_eq_true_eq] at hr
    rcases List.mem_cons.1 hp with rfl | hp
    · rw [alGet_cons, if_pos rfl]
    · have := le_of_mem_alRises hr.2 hp
      rw [alGet_cons, if_neg (by omega)]
      exact ih hr.2 hp

theorem mem_of_alGet {α : Type} {l : List (Nat × α)} {n : Nat} {v : α} (h : alGet l n = some v) : (n, v) ∈ l := by
  induction l with
  | nil => cases h
  | cons q l ih =>
    obtain ⟨k, w⟩ := q
    rw [alGet_cons] at h
    split at h
    · rename_i hk; subst hk; cases h; exact List.mem_cons_self ..
    · exact List.mem_cons_of_mem _ (ih h)

/-! ### The cell that is granted (R30) -/

variable {s : State}

/-- The numbers of the cells in use. -/
def State.usedKeys (s : State) : List Nat := (s.spool.cells.filter (fun c => c.2.owner ≠ 255)).map (·.1)

theorem State.length_usedKeys (s : State) : s.usedKeys.length = s.usedCells := by simp [State.usedKeys, State.usedCells]

theorem State.mem_usedKeys {i : Nat} (h : (s.cell i).owner ≠ 255) : i ∈ s.usedKeys := by
  unfold State.cell alGetD at h
  cases hc : alGet s.spool.cells i with
  | none => simp [hc] at h
  | some c =>
    rw [hc] at h
    exact List.mem_map.2 ⟨(i, c), List.mem_filter.2 ⟨mem_of_alGet hc, by simpa using h⟩, rfl⟩

/-- A search that ends at a used cell has passed used cells only. -/
theorem State.used_of_freeFrom {k i : Nat} (h : (s.cell (s.freeFrom k i)).owner ≠ 255) : ∀ j ≤ k, (s.cell ((i + j) % 262144)).owner ≠ 255 := by
  induction k generalizing i with
  | zero =>
    intro j hj
    rw [Nat.le_zero.1 hj]
    exact h
  | succ k ih =>
    intro j hj
    unfold State.freeFrom at h
    split at h
    · rename_i hfree; exact absurd hfree h
    · rename_i hused
      cases j with
      | zero => exact hused
      | succ j => have := ih h j (by omega); rwa [Nat.add_assoc, Nat.add_comm 1] at this

/-- Where a cell is free, the cell picked is free: a search past as many cells as are listed cannot meet used cells only. -/
theorem State.pickCell_free (hfree : 0 < s.freeCells) : (s.cell s.pickCell).owner = 255 := by
  by_contra hused
  have hall := State.used_of_freeFrom hused
  have hlist : s.usedCells ≤ s.spool.cells.length := List.length_filter_le ..
  have hlt : s.usedCells < 262144 := by unfold State.freeCells at hfree; omega
  have hinj : Set.InjOn (fun j => (Config.spoolStart s.free + j) % 262144) (Finset.range (s.usedCells + 1) : Set Nat) := by
    intro a ha b hb hab
    simp only [Finset.coe_range, Set.mem_Iio] at ha hb
    have := Nat.ModEq.add_left_cancel' _ hab
    unfold Nat.ModEq at this
    omega
  have hsub : (Finset.range (s.usedCells + 1)).image (fun j => (Config.spoolStart s.free + j) % 262144) ⊆ s.usedKeys.toFinset := by
    intro n hn
    obtain ⟨j, hj, rfl⟩ := Finset.mem_image.1 hn
    rw [Finset.mem_range] at hj
    exact List.mem_toFinset.2 (State.mem_usedKeys (hall j (by omega)))
  have hcard := Finset.card_le_card hsub
  rw [Finset.card_image_of_injOn hinj, Finset.card_range] at hcard
  have := hcard.trans (List.toFinset_card_le _)
  rw [State.length_usedKeys] at this
  omega

theorem State.freeFrom_lt (s : State) (k i : Nat) : s.freeFrom k i < 262144 := by
  induction k generalizing i with
  | zero => exact Nat.mod_lt _ (by decide)
  | succ k ih =>
    unfold State.freeFrom
    split
    · exact Nat.mod_lt _ (by decide)
    · exact ih _

theorem State.pickCell_lt (s : State) : s.pickCell < 262144 := s.freeFrom_lt _ _

/-- A request that is granted puts its tag on the picked cell, and nothing else of the list changes. -/
theorem State.takeCell_cells (s : State) (o prio : Nat) :
    (s.takeCell o prio).spool.cells = alPut s.spool.cells s.pickCell ⟨o, ((s.cell s.pickCell).gen + 1) % 65536, prio⟩ := by
  unfold State.takeCell State.pauseCheck
  dsimp only
  (repeat' split) <;> rfl

/-! ### The counts after a grant -/

theorem State.ownerCells_eq (s : State) (o : Nat) : s.ownerCells o = s.spool.cells.countP (fun c => decide (c.2.owner = o)) := by
  rw [State.ownerCells, List.countP_eq_length_filter]

theorem State.usedCells_eq (s : State) : s.usedCells = s.spool.cells.countP (fun c => decide (c.2.owner ≠ 255)) := by
  rw [State.usedCells, List.countP_eq_length_filter]

variable {o prio : Nat}

/-- The picked cell adds to no owner's count. -/
theorem State.owner_of_pickCell (hfree : 0 < s.freeCells) {c : Cell} (hc : alGet s.spool.cells s.pickCell = some c) : c.owner = 255 := by
  have := State.pickCell_free hfree
  rwa [State.cell, alGetD, hc] at this

theorem State.usedCells_takeCell (hr : alRises 0 s.spool.cells = true) (hfree : 0 < s.freeCells) (ho : o < 82) :
    (s.takeCell o prio).usedCells = s.usedCells + 1 := by
  have h := countP_alPut (fun c : Cell => decide (c.owner ≠ 255)) hr s.pickCell ⟨o, ((s.cell s.pickCell).gen + 1) % 65536, prio⟩
  have hne : o ≠ 255 := by omega
  rw [State.usedCells_eq, State.usedCells_eq, State.takeCell_cells]
  cases hc : alGet s.spool.cells s.pickCell with
  | none => simpa [hc, hne] using h
  | some c => simpa [hc, hne, State.owner_of_pickCell hfree hc] using h

theorem State.ownerCells_takeCell (hr : alRises 0 s.spool.cells = true) (hfree : 0 < s.freeCells) {x : Nat} (hx : x < 82) :
    (s.takeCell o prio).ownerCells x = s.ownerCells x + if x = o then 1 else 0 := by
  have h := countP_alPut (fun c : Cell => decide (c.owner = x)) hr s.pickCell ⟨o, ((s.cell s.pickCell).gen + 1) % 65536, prio⟩
  have hne : 255 ≠ x := by omega
  have hbool : (decide (o = x)).toNat = if x = o then 1 else 0 := by
    by_cases hxo : x = o
    · simp [hxo]
    · simp [hxo, Ne.symm hxo]
  rw [State.ownerCells_eq, State.ownerCells_eq, State.takeCell_cells, ← hbool, ← h]
  cases hc : alGet s.spool.cells s.pickCell with
  | none => rfl
  | some c => simp [State.owner_of_pickCell hfree hc, hne]

/-! ### The reserves (R31) -/

theorem State.shortfall_eq (s : State) : s.shortfall = ∑ x ∈ Finset.range 82, (reserveOf x - s.ownerCells x) := by
  rw [State.shortfall, Finset.sum_range, ← Fin.sum_ofFn, List.sum_eq_foldl]
  have hmap : ∀ (f : Nat → Nat) (l : List Nat) (n : Nat), l.foldl (fun n x => n + f x) n = (l.map f).foldl (· + ·) n := by
    intro f l n; rw [List.foldl_map]
  rw [hmap, List.ofFn_eq_map]
  rfl

/-- All reserves together are below the 16,384 cells from which on the allocator grants to any owner. -/
theorem State.shortfall_lt (s : State) : s.shortfall < 16384 := by
  have hle : s.shortfall ≤ ∑ x ∈ Finset.range 82, reserveOf x := by
    rw [State.shortfall_eq]; exact Finset.sum_le_sum fun x _ => Nat.sub_le _ _
  have hsum : ∑ x ∈ Finset.range 82, reserveOf x = 15616 := by decide +kernel
  omega

/-- One more cell of an owner lowers the shortfall by one where the owner is below its reserve, and raises it nowhere. -/
theorem State.shortfall_takeCell (hr : alRises 0 s.spool.cells = true) (hfree : 0 < s.freeCells) (ho : o < 82) :
    (s.takeCell o prio).shortfall + (if s.ownerCells o < reserveOf o then 1 else 0) = s.shortfall := by
  have hterm : ∀ x ∈ Finset.range 82, reserveOf x - (s.takeCell o prio).ownerCells x + (if x = o then (if s.ownerCells o < reserveOf o then 1 else 0) else 0) =
      reserveOf x - s.ownerCells x := by
    intro x hx
    rw [State.ownerCells_takeCell hr hfree (Finset.mem_range.1 hx)]
    by_cases hxo : x = o
    · subst hxo
      rw [if_pos rfl, if_pos rfl]
      split <;> omega
    · simp [hxo]
  have hpick : ∑ x ∈ Finset.range 82, (if x = o then (if s.ownerCells o < reserveOf o then 1 else 0) else 0) =
      if s.ownerCells o < reserveOf o then 1 else 0 := by
    rw [Finset.sum_ite_eq' (Finset.range 82) o, if_pos (Finset.mem_range.2 ho)]
  rw [State.shortfall_eq, State.shortfall_eq, ← hpick, ← Finset.sum_add_distrib]
  exact Finset.sum_congr rfl hterm

/-- Settles O13: a grant takes one free cell; either the owner was below its reserve, and the shortfall falls with it, or 16,384 cells were
free, more than all reserves together. -/
theorem reservesReachable : Obligations.ReservesReachable := by
  unfold Obligations.ReservesReachable
  intro s o prio hr _ hcover
  unfold State.doAllocate
  split
  · exact hcover
  · split
    · rename_i hmay
      simp only [State.mayAllocate, Bool.and_eq_true, Bool.or_eq_true, decide_eq_true_eq] at hmay
      obtain ⟨hfree, hgrant⟩ := hmay
      have hshort := State.shortfall_takeCell (prio := prio.val) hr hfree o.isLt
      have hused := State.usedCells_takeCell (prio := prio.val) hr hfree o.isLt
      have hlt := s.shortfall_lt
      unfold State.freeCells at *
      rcases hgrant with hmany | hbelow
      · split at hshort <;> omega
      · rw [if_pos hbelow] at hshort; omega
    · exact hcover

end Sys2Proof.Machine
end

section
set_option Elab.async false
/-! PROOFS. The code of a DRAM burst (R210, R211): multiplication by α is linear and of order 255, and the statement about the code. -/

namespace Sys2Proof.Machine

/-! ### Multiplication by powers of α -/

/-- Doubling takes the top bit out by the field polynomial. -/
theorem gfDouble_eq {a : Nat} (ha : a < 256) : gfDouble a = (2 * a) ^^^ (if a.testBit 7 then 0x11D else 0) := by
  have htop : ∀ a < 256, a.testBit 7 = decide (128 ≤ a) := by decide +kernel
  unfold gfDouble
  rw [htop a ha]
  by_cases h : a < 128
  · rw [if_pos h, if_neg (by simpa using h), Nat.xor_zero]
  · rw [if_neg h, if_pos (by simpa using h)]
    rfl

theorem gfDouble_lt {a : Nat} (ha : a < 256) : gfDouble a < 256 := by
  have hall : ∀ a < 256, gfDouble a < 256 := by decide +kernel
  exact hall a ha

theorem gfDouble_xor {a b : Nat} (ha : a < 256) (hb : b < 256) : gfDouble (a ^^^ b) = gfDouble a ^^^ gfDouble b := by
  have hmul : 2 * (a ^^^ b) = (2 * a) ^^^ (2 * b) := by
    simpa [Nat.shiftLeft_eq, Nat.mul_comm] using Nat.shiftLeft_xor_distrib (a := a) (b := b) (i := 1)
  rw [gfDouble_eq ha, gfDouble_eq hb, gfDouble_eq (Nat.xor_lt_two_pow (n := 8) ha hb), hmul, Nat.testBit_xor]
  cases a.testBit 7 <;> cases b.testBit 7 <;> simp [Nat.xor_assoc, Nat.xor_comm, Nat.xor_left_comm]

theorem gfAlpha_lt (n : Nat) {a : Nat} (ha : a < 256) : gfAlpha n a < 256 := by
  induction n generalizing a with
  | zero => exact ha
  | succ n ih => exact ih (gfDouble_lt ha)

theorem gfAlpha_xor (n : Nat) {a b : Nat} (ha : a < 256) (hb : b < 256) : gfAlpha n (a ^^^ b) = gfAlpha n a ^^^ gfAlpha n b := by
  induction n generalizing a b with
  | zero => rfl
  | succ n ih => rw [gfAlpha, gfAlpha, gfAlpha, gfDouble_xor ha hb, ih (gfDouble_lt ha) (gfDouble_lt hb)]

theorem gfAlpha_add (m n a : Nat) : gfAlpha (m + n) a = gfAlpha n (gfAlpha m a) := by
  induction m generalizing a with
  | zero => rw [Nat.zero_add]; rfl
  | succ m ih => rw [Nat.succ_add]; exact ih _

/-- α^255 is 1. -/
theorem gfAlpha_order {a : Nat} (ha : a < 256) : gfAlpha 255 a = a := by
  have hall : ∀ a < 256, gfAlpha 255 a = a := by decide +kernel
  exact hall a ha

/-- α^230 is the inverse of 1 + α. -/
theorem gfAlpha_inverse {a : Nat} (ha : a < 256) : gfAlpha 230 a ^^^ gfAlpha 231 a = a := by
  have hall : ∀ a < 256, gfAlpha 230 a ^^^ gfAlpha 231 a = a := by decide +kernel
  exact hall a ha

/-- The first ten powers of α differ. -/
theorem gfAlpha_inj {e : Nat} (he : e < 256) (h0 : e ≠ 0) {i j : Nat} (hi : i < 10) (hj : j < 10) (h : gfAlpha i e = gfAlpha j e) : i = j := by
  have hall : ∀ e < 256, e ≠ 0 → ∀ i < 10, ∀ j < 10, gfAlpha i e = gfAlpha j e → i = j := by decide +kernel
  exact hall e he h0 i hi j hj h

/-! ### Syndromes -/

theorem rsSyndrome_cons (step k : Nat) (b : Byte) (l : List Byte) :
    rsSyndrome step k (b :: l) = gfAlpha (k * step) b.toNat ^^^ rsSyndrome step (k + 1) l := rfl

theorem rsSyndrome_append (step k : Nat) (l r : List Byte) :
    rsSyndrome step k (l ++ r) = rsSyndrome step k l ^^^ rsSyndrome step (k + l.length) r := by
  induction l generalizing k with
  | nil => simp [rsSyndrome]
  | cons b l ih => rw [List.cons_append, rsSyndrome_cons, rsSyndrome_cons, ih, Nat.xor_assoc, List.length_cons, Nat.add_right_comm, Nat.add_assoc]

theorem rsSyndrome_lt (step k : Nat) (l : List Byte) : rsSyndrome step k l < 256 := by
  induction l generalizing k with
  | nil => exact Nat.zero_lt_succ _
  | cons b l ih => exact Nat.xor_lt_two_pow (n := 8) (gfAlpha_lt _ b.isLt) (ih _)

/-- A wrong symbol adds its error, times its power of α, to the syndrome. -/
theorem rsSyndrome_set (step k i : Nat) (l : List Byte) (b : Byte) (hi : i < l.length) :
    rsSyndrome step k (l.set i b) = gfAlpha ((k + i) * step) (b.toNat ^^^ (l.getD i 0).toNat) ^^^ rsSyndrome step k l := by
  induction l generalizing k i with
  | nil => exact absurd hi (Nat.not_lt_zero _)
  | cons c l ih =>
    cases i with
    | zero =>
      rw [Nat.add_zero, List.set_cons_zero, rsSyndrome_cons, rsSyndrome_cons, gfAlpha_xor _ b.isLt (BitVec.isLt _), List.getD_cons_zero,
        Nat.xor_assoc, ← Nat.xor_assoc (gfAlpha (k * step) c.toNat), Nat.xor_self, Nat.zero_xor]
    | succ i =>
      rw [List.set_cons_succ, rsSyndrome_cons, rsSyndrome_cons, ih _ _ (Nat.lt_of_succ_lt_succ hi), List.getD_cons_succ, Nat.xor_left_comm,
        Nat.add_right_comm, Nat.add_assoc k]

/-- The check symbols make both syndromes 0. -/
theorem rsSyndrome_rsChecks (d : List Byte) (hd : d.length = 8) :
    rsSyndrome 0 0 (d ++ rsChecks d) = 0 ∧ rsSyndrome 1 0 (d ++ rsChecks d) = 0 := by
  have h0 : rsSyndrome 0 0 d < 256 := rsSyndrome_lt ..
  have h1 : rsSyndrome 1 0 d < 256 := rsSyndrome_lt ..
  rw [rsSyndrome_append, rsSyndrome_append, hd]
  unfold rsChecks
  dsimp only
  generalize rsSyndrome 0 0 d = s0 at *
  generalize rsSyndrome 1 0 d = s1 at *
  have hx : s0 ^^^ gfAlpha 247 s1 < 256 := Nat.xor_lt_two_pow (n := 8) h0 (gfAlpha_lt _ h1)
  have hc9 : gfAlpha 230 (s0 ^^^ gfAlpha 247 s1) < 256 := gfAlpha_lt _ hx
  have hsplit := gfAlpha_inverse hx
  rw [show 231 = 230 + 1 from rfl, gfAlpha_add] at hsplit
  have hback : gfAlpha 8 (gfAlpha 247 s1) = s1 := by rw [← gfAlpha_add]; exact gfAlpha_order h1
  have hbyte : ∀ n < 256, (BitVec.ofNat 8 n).toNat = n := fun n hn => by rw [BitVec.toNat_ofNat, Nat.mod_eq_of_lt hn]
  have hc8 : s0 ^^^ gfAlpha 230 (s0 ^^^ gfAlpha 247 s1) < 256 := Nat.xor_lt_two_pow (n := 8) h0 hc9
  simp only [rsSyndrome_cons, show ∀ a b, Nat.xor a b = a ^^^ b from fun _ _ => rfl, hbyte _ hc8, hbyte _ hc9]
  generalize gfAlpha 247 s1 = t at *
  generalize gfAlpha 230 (s0 ^^^ t) = c at *
  constructor
  · show s0 ^^^ (s0 ^^^ c ^^^ (c ^^^ 0)) = 0
    simp
  · have hc1 : gfAlpha 1 c < 256 := gfAlpha_lt _ hc9
    have hninth : gfAlpha 9 c = gfAlpha 8 (gfAlpha 1 c) := by rw [← gfAlpha_add]
    have ht : t < 256 := by
      have := Nat.xor_lt_two_pow (n := 8) h0 hx
      rwa [← Nat.xor_assoc, Nat.xor_self, Nat.zero_xor] at this
    calc s1 ^^^ (gfAlpha 8 (s0 ^^^ c) ^^^ (gfAlpha 9 c ^^^ 0))
        = gfAlpha 8 t ^^^ gfAlpha 8 (s0 ^^^ (c ^^^ gfAlpha 1 c)) := by
          rw [hback, hninth, Nat.xor_zero, ← Nat.xor_assoc s0, gfAlpha_xor 8 hc8 hc1]
      _ = gfAlpha 8 (t ^^^ t) := by rw [hsplit, ← Nat.xor_assoc, Nat.xor_self, Nat.zero_xor, Nat.xor_self, Nat.xor_self]; rfl
      _ = 0 := by rw [Nat.xor_self]; rfl

/-! ### Decoding -/

/-- One wrong symbol of a codeword is located where it is. -/
theorem rsLocate_set (w : List Byte) (i : Nat) (b : Byte) (hw : w.length = 10) (h0 : rsSyndrome 0 0 w = 0) (h1 : rsSyndrome 1 0 w = 0)
    (hi : i < 10) (hb : b ≠ w.getD i 0) : rsLocate (w.set i b) = .at_ i := by
  have he : b.toNat ^^^ (w.getD i 0).toNat ≠ 0 := fun h => hb (BitVec.eq_of_toNat_eq (Nat.xor_eq_zero_iff.1 h))
  have hlt : b.toNat ^^^ (w.getD i 0).toNat < 256 := Nat.xor_lt_two_pow (n := 8) b.isLt (BitVec.isLt _)
  have hs0 : rsSyndrome 0 0 (w.set i b) = b.toNat ^^^ (w.getD i 0).toNat := by
    rw [rsSyndrome_set _ _ _ _ _ (hw ▸ hi), h0, Nat.mul_zero, Nat.xor_zero]; rfl
  have hs1 : rsSyndrome 1 0 (w.set i b) = gfAlpha i (b.toNat ^^^ (w.getD i 0).toNat) := by
    rw [rsSyndrome_set _ _ _ _ _ (hw ▸ hi), h1, Nat.mul_one, Nat.zero_add, Nat.xor_zero]
  have hfind : (List.range 10).find? (fun j => decide (gfAlpha j (b.toNat ^^^ (w.getD i 0).toNat) = gfAlpha i (b.toNat ^^^ (w.getD i 0).toNat))) = some i := by
    rw [List.find?_range_eq_some]
    refine ⟨by simp, List.mem_range.2 hi, fun j hj => ?_⟩
    have hne : gfAlpha j _ ≠ gfAlpha i _ := fun h => absurd (gfAlpha_inj hlt he (hj.trans hi) hi h) (Nat.ne_of_lt hj)
    simpa using hne
  unfold rsLocate
  simp only [hs0, hs1, if_neg (fun h : _ ∧ _ => he h.1), if_neg he, hfind]

theorem rsLocate_clean {w : List Byte} (h0 : rsSyndrome 0 0 w = 0) (h1 : rsSyndrome 1 0 w = 0) : rsLocate w = .clean := by
  simp [rsLocate, h0, h1]

/-- Codewords that all locate one device. -/
theorem located_same {ws : List (List Byte)} {d : Nat} (h : ∀ w ∈ ws, rsLocate w = .at_ d) :
    located (ws.map rsLocate) = some (List.replicate ws.length d) := by
  induction ws with
  | nil => rfl
  | cons w ws ih =>
    rw [List.map_cons, h w (List.mem_cons_self ..), located, ih fun v hv => h v (List.mem_cons_of_mem _ hv)]
    rfl

theorem located_clean {ws : List (List Byte)} (h : ∀ w ∈ ws, rsLocate w = .clean) : located (ws.map rsLocate) = some [] := by
  induction ws with
  | nil => rfl
  | cons w ws ih =>
    rw [List.map_cons, h w (List.mem_cons_self ..), located, ih fun v hv => h v (List.mem_cons_of_mem _ hv)]

/-- A device that a codeword locates is among the located ones. -/
theorem mem_located {l : List Symbol} {d : Nat} (hd : Symbol.at_ d ∈ l) {r : List Nat} (hr : located l = some r) : d ∈ r := by
  induction l generalizing r with
  | nil => cases hd
  | cons x l ih =>
    cases x with
    | clean => exact ih (by simpa using hd) hr
    | bad => cases hr
    | at_ i =>
      simp only [located, Option.map_eq_some_iff] at hr
      obtain ⟨t, ht, rfl⟩ := hr
      rcases List.mem_cons.1 hd with h | h
      · cases h; exact List.mem_cons_self ..
      · exact List.mem_cons_of_mem _ (ih h ht)

/-- Errors on two devices are uncorrectable, whatever is marked. -/
theorem decodeBurst_two {ws : List (List Byte)} {v w : List Byte} {d e : Nat} (mark : Option Nat) (hv : v ∈ ws) (hw : w ∈ ws)
    (hd : rsLocate v = .at_ d) (he : rsLocate w = .at_ e) (hde : d ≠ e) : decodeBurst mark ws = .bad := by
  unfold decodeBurst
  cases hl : located (ws.map rsLocate) with
  | none => rfl
  | some r =>
    have hdr : d ∈ r := mem_located (hd ▸ List.mem_map_of_mem hv) hl
    have her : e ∈ r := mem_located (he ▸ List.mem_map_of_mem hw) hl
    cases r with
    | nil => cases hdr
    | cons x r =>
      have hall : r.all (· == x) = false := by
        rw [List.all_eq_false]
        rcases List.mem_cons.1 hdr with rfl | hdr
        · rcases List.mem_cons.1 her with h | her
          · exact absurd h.symm hde
          · exact ⟨e, her, by simpa using hde.symm⟩
        · by_cases hdx : d = x
          · subst hdx
            rcases List.mem_cons.1 her with h | her
            · exact absurd h.symm hde
            · exact ⟨e, her, by simpa using hde.symm⟩
          · exact ⟨d, hdr, by simpa using hdx⟩
      simp [hall]

/-- Settles O50: the syndromes are linear in the symbols, so a single error shows its value in the one and its place in the other. -/
theorem burstCode : Obligations.BurstCode := by
  unfold Obligations.BurstCode
  refine ⟨rsSyndrome_rsChecks, ?symbols, fun w i b hw h0 h1 hi hb => ⟨rsLocate_clean h0 h1, rsLocate_set w i b hw h0 h1 hi hb⟩, ?same, ?clean,
    fun ws v w d e mark hv hw hd he hde => decodeBurst_two mark hv hw hd he hde⟩
  case symbols =>
    intro b j d hj hd
    have hn : ∀ x : BitVec 40, nibble x d < 16 := fun x => Nat.mod_lt _ (by decide)
    refine ⟨by simp [burstWords], ?_⟩
    simp only [burstWords, List.getD_eq_getElem?_getD, List.getElem?_map, List.getElem?_range hj, List.getElem?_range hd, Option.map_some,
      Option.getD_some, BitVec.toNat_ofNat]
    exact Nat.mod_eq_of_lt (by have := hn (b[2 * j]?.getD 0); have := hn (b[2 * j + 1]?.getD 0); omega)
  case same =>
    intro ws d hne h
    obtain ⟨w, ws, rfl⟩ := List.exists_cons_of_ne_nil hne
    have hall : (List.replicate ws.length d).all (· == d) = true := by simp
    simp only [decodeBurst, located_same h, List.length_cons, List.replicate_succ, hall, if_true]
    exact ⟨trivial, fun m => trivial⟩
  case clean =>
    intro ws mark h
    simp only [decodeBurst, located_clean h]

end Sys2Proof.Machine
end

section
set_option Elab.async false
/-! PROOFS. Pins and balls (R286, R356, R386, R391 to R397): the ball map is evaluated position by position, and the statement about it. -/

namespace Sys2Proof.Machine

/-! ### The ball map -/

/-- No ball lies outside rows and columns 1 to 69. -/
theorem ballAt_range {r c : Nat} {b : Ball} (h : ballAt r c = some b) : r < 70 ∧ c < 70 := by
  by_contra hout
  have hw : (!within r 1 69 || !within c 1 69 || keepOut r c) = true := by
    simp only [within, Bool.or_eq_true, Bool.not_eq_true', Bool.and_eq_false_iff, decide_eq_false_iff_not]
    omega
  rw [ballAt, if_pos hw] at h
  cases h

/-- A property of rows and columns that holds at each position of the field. -/
theorem of_ballAt {P : Nat → Nat → Bool} (hall : ∀ r < 70, ∀ c < 70, P r c = true) {r c : Nat} {b : Ball} (h : ballAt r c = some b) : P r c = true :=
  hall r (ballAt_range h).1 c (ballAt_range h).2

theorem ballAt_place {b : Ball} (hb : b.signal = true) : ∃ r c, b.place = some (r, c) ∧ ballAt r c = some b := by
  have hpair : ∀ b : Ball, b.place.any (fun p => ballAt p.1 p.2 == some b) = true → ∃ r c, b.place = some (r, c) ∧ ballAt r c = some b := by
    intro b h
    cases hp : b.place with
    | none => simp [hp] at h
    | some p => exact ⟨p.1, p.2, rfl, by simpa [hp] using h⟩
  apply hpair
  cases b with
  | lane s rx neg =>
    have hall : ∀ s < 56, ∀ rx neg, (Ball.lane s rx neg).place.any (fun p => ballAt p.1 p.2 == some (Ball.lane s rx neg)) = true := by decide +kernel
    exact hall s (by simpa [Ball.signal] using hb) rx neg
  | ddr n q =>
    have hall : ∀ n < 16, ∀ q < 150, (Ball.ddr n q).place.any (fun p => ballAt p.1 p.2 == some (Ball.ddr n q)) = true := by decide +kernel
    simp only [Ball.signal, Bool.and_eq_true, decide_eq_true_eq] at hb
    exact hall n hb.1 q hb.2
  | nand n w =>
    have hall : ∀ n < 32, ∀ w < 31, (Ball.nand n w).place.any (fun p => ballAt p.1 p.2 == some (Ball.nand n w)) = true := by decide +kernel
    simp only [Ball.signal, Bool.and_eq_true, decide_eq_true_eq] at hb
    exact hall n hb.1 w hb.2
  | nandWp => decide +kernel
  | misc p =>
    have hall : ∀ p < 124, (Ball.misc p).place.any (fun x => ballAt x.1 x.2 == some (Ball.misc p)) = true := by decide +kernel
    exact hall p (by simpa [Ball.signal] using hb)
  | supply x => cases hb

theorem place_of_ballAt {r c : Nat} {b : Ball} (h : ballAt r c = some b) (hb : b.signal = true) : b.place = some (r, c) := by
  have hall : ∀ r < 70, ∀ c < 70, (ballAt r c).all (fun b => !b.signal || b.place == some (r, c)) = true := by decide +kernel
  simpa [h, hb] using of_ballAt hall h

/-- The field is symmetric under a half turn, and a position holds a ball but where R391 keeps it out. -/
theorem ballAt_half_turn {r c : Nat} (hr : 1 ≤ r) (hr' : r ≤ 69) (hc : 1 ≤ c) (hc' : c ≤ 69) :
    (ballAt r c).isSome = (ballAt (70 - r) (70 - c)).isSome ∧ (ballAt r c).isSome = !keepOut r c := by
  have hall : ∀ r < 70, 1 ≤ r → ∀ c < 70, 1 ≤ c → (ballAt r c).isSome = (ballAt (70 - r) (70 - c)).isSome ∧ (ballAt r c).isSome = !keepOut r c := by
    decide +kernel
  exact hall r (by omega) hr c (by omega) hc

/-- What a ball that may be left unconnected carries (R397). -/
theorem mayFloat_cases {part : Part} {r c : Nat} (h : mayFloat part r c = true) : part = .mx ∧
    ((∃ s rx neg, ballAt r c = some (.lane s rx neg) ∧ 16 ≤ s ∧ s ≤ 31) ∨ (∃ n q, ballAt r c = some (.ddr n q) ∧ 8 ≤ n) ∨
      (∃ n w, ballAt r c = some (.nand n w) ∧ 16 ≤ n) ∨ ballAt r c = some (.supply .vddqDdr)) := by
  simp only [mayFloat, Bool.and_eq_true, beq_iff_eq] at h
  obtain ⟨hpart, h⟩ := h
  refine ⟨hpart, ?_⟩
  split at h
  · rename_i s rx neg hat
    exact .inl ⟨s, rx, neg, hat, by simpa [within] using h⟩
  · rename_i n q hat
    exact .inr (.inl ⟨n, q, hat, by simpa using h⟩)
  · rename_i n w hat
    exact .inr (.inr (.inl ⟨n, w, hat, by simpa using h⟩))
  · rename_i hat
    exact .inr (.inr (.inr hat))
  · cases h

/-! ### The pins -/

theorem State.irqLow_iff {s : State} (hm : s.mode ≠ .reset) (n : Nat) :
    s.irqLow n = true ↔ ∃ e, e < 640 ∧ s.pended e = true ∧ s.masked e = false ∧ s.fld (F.EVT_ROUTEn_pin e) / 2 ^ n % 2 = 1 := by
  simp [State.irqLow, hm, State.pended, and_assoc]

/-- Settles O60: the map's two directions are evaluated over all signals and all positions; the pins are read off their definitions. -/
theorem pinsAndBalls : Obligations.PinsAndBalls := by
  unfold Obligations.PinsAndBalls
  refine ⟨fun b => ballAt_place, fun r c b => place_of_ballAt, fun r c => ballAt_half_turn, ?float, fun s n hm => State.irqLow_iff hm n, ?pins, ?vdd⟩
  case float =>
    intro part r c h
    obtain ⟨hpart, hat⟩ := mayFloat_cases h
    refine ⟨hpart, ?_⟩
    rcases hat with ⟨s, rx, neg, hat, hlo, hhi⟩ | ⟨n, q, hat, hn⟩ | ⟨n, w, hat, hn⟩ | hat
    all_goals rw [hat]
    · exact ⟨nofun, nofun, fun _ _ _ h => by cases h; exact ⟨hlo, hhi⟩, nofun, nofun⟩
    · exact ⟨nofun, fun _ _ h => by cases h; exact hn, nofun, nofun, nofun⟩
    · exact ⟨fun _ _ h => by cases h; exact hn, nofun, nofun, nofun, nofun⟩
    · exact ⟨nofun, nofun, nofun, nofun, fun _ h => by cases h; rfl⟩
  case pins =>
    intro s n
    exact ⟨by simp [State.railEn], by simp [State.rstLow], fun hm => by simp [State.irqLow, hm]⟩
  case vdd =>
    intro toggle target uv
    simp [Supply.operates]

end Sys2Proof.Machine
end

section
set_option Elab.async false
/-! PROOFS. The functions of the state up to the movers of tiles: each leaves the queue, the part and the fuses as they were (`State.fixed`). -/

namespace Sys2Proof.Machine

/-- What almost every function of the model leaves alone: the queue, the part, the fuses and the fuse sequence under way. -/
def State.fixed (s : State) : List Instr × Part × Fuses × Option BurnRun := (s.pending, s.part, s.fuses, s.thm.burn)

@[simp] theorem State.fixed_eta (s : State) : (s.pending, s.part, s.fuses, s.thm.burn) = s.fixed := rfl

@[simp] theorem State.fixed_ite (c : Prop) [Decidable c] (s t : State) : (if c then s else t).fixed = if c then s.fixed else t.fixed := apply_ite _ _ _ _

@[simp] theorem State.fixed_mk pending free part mode prevMode changes mrtQ csr latch out kept gate weft spool ev mons peatQ peatSnap pcie pcieHeld mqpOut sbus cryp scan lks fuses thm clk save pf brownout entries descs shared tlr fetches parks pops retFrames retBanks retRecs serials moved nc ports fencedAt seam tests nand svn area drams dmarks fen doze nor boot : (State.mk pending free part mode prevMode changes mrtQ csr latch out kept gate weft spool ev mons peatQ peatSnap pcie pcieHeld mqpOut sbus cryp scan lks fuses thm clk save pf brownout entries descs shared tlr fetches parks pops retFrames retBanks retRecs serials moved nc ports fencedAt seam tests nand svn area drams dmarks fen doze nor boot).fixed = (pending, part, fuses, thm.burn) := rfl

@[simp] theorem fixed_forUp {f : Nat → State → State} (hf : ∀ i s, (f i s).fixed = s.fixed) (k i : Nat) (s : State) : (forUp f k i s).fixed = s.fixed := by
  induction k generalizing i s with
  | zero => rfl
  | succ k ih => rw [forUp, ih, hf]

@[simp] theorem fixed_foldl {α : Type} {f : State → α → State} (hf : ∀ s a, (f s a).fixed = s.fixed) (l : List α) (s : State) : (l.foldl f s).fixed = s.fixed := by
  induction l generalizing s with
  | nil => rfl
  | cons a l ih => rw [List.foldl_cons, ih, hf]

theorem fixed_of_pair {α : Type} {p : State × α} {s : State} {a : α} (h : p = (s, a)) : s.fixed = p.1.fixed := by rw [h]

@[simp] theorem fixed_foldr {α : Type} {f : α → State → State} (hf : ∀ a s, (f a s).fixed = s.fixed) (l : List α) (s : State) : (l.foldr f s).fixed = s.fixed := by
  induction l generalizing s with
  | nil => rfl
  | cons a l ih => rw [List.foldr_cons, hf, ih]

theorem fixed_foldl_fst {α β : Type} {f : State × β → α → State × β} (hf : ∀ r a, (f r a).1.fixed = r.1.fixed) (l : List α) (r : State × β) :
    (l.foldl f r).1.fixed = r.1.fixed := by
  induction l generalizing r with
  | nil => rfl
  | cons a l ih => rw [List.foldl_cons, ih, hf]

@[simp] theorem State.begun_fixed (s : State) : (State.begun s).fixed = s.fixed := by
  simp [State.begun]

@[simp] theorem State.setReg_fixed (s : State) (off : Nat) (w : Word) : (State.setReg s off w).fixed = s.fixed := by
  simp [State.setReg]

@[simp] theorem State.setFld_fixed (s : State) (f : Fld) (v : Nat) : (State.setFld s f v).fixed = s.fixed := by
  simp [State.setFld]

@[simp] theorem State.setBit_fixed (s : State) (f : Fld) (b : Bool) : (State.setBit s f b).fixed = s.fixed := by
  simp [State.setBit]

@[simp] theorem State.wrap_fixed (s : State) (f : Fld) (n : Nat) : (State.wrap s f n).fixed = s.fixed := by
  simp [State.wrap]

@[simp] theorem State.sat_fixed (s : State) (f : Fld) (n : Nat) : (State.sat s f n).fixed = s.fixed := by
  simp [State.sat]

@[simp] theorem State.setPair_fixed (s : State) (lo : Fld) (hi : Fld) (v : Nat) : (State.setPair s lo hi v).fixed = s.fixed := by
  simp [State.setPair]

@[simp] theorem State.put_fixed (s : State) (o : Out) : (State.put s o).fixed = s.fixed := by
  simp [State.put]

@[simp] theorem State.sendMsix_fixed (s : State) (pf : Nat) (vector : Nat) : (State.sendMsix s pf vector).fixed = s.fixed := by
  simp [State.sendMsix]

@[simp] theorem State.pushEntry_fixed (s : State) (e : Entry) : (State.pushEntry s e).fixed = s.fixed := by
  unfold State.pushEntry
  split <;> simp

@[simp] theorem State.frameRoute_fixed (s : State) (ev : Nat) (inst : Nat) : (State.frameRoute s ev inst).fixed = s.fixed := by
  unfold State.frameRoute
  dsimp only
  split <;> simp -implicitDefEqProofs

@[simp] theorem State.peatPush_fixed (s : State) (ev : Nat) (inst : Nat) : (State.peatPush s ev inst).fixed = s.fixed := by
  simp [State.peatPush]

@[simp] theorem State.msixRoute_fixed (s : State) (ev : Nat) : (State.msixRoute s ev).fixed = s.fixed := by
  simp [State.msixRoute]

@[simp] theorem State.raiseOne_fixed (s : State) (ev : Nat) (inst : Nat) : (State.raiseOne s ev inst).fixed = s.fixed := by
  simp [State.raiseOne]

@[simp] theorem State.overflowOnce_fixed (s : State) (before : Bool) : (State.overflowOnce s before).fixed = s.fixed := by
  simp [State.overflowOnce]

@[simp] theorem State.raise_fixed (s : State) (ev : Nat) (inst : Nat) : (State.raise s ev inst).fixed = s.fixed := by
  simp [State.raise]

@[simp] theorem State.monitor_fixed (s : State) (m : Nat) (v : Nat) : (State.monitor s m v).fixed = s.fixed := by
  unfold State.monitor
  dsimp only
  (repeat' split) <;> simp -implicitDefEqProofs

@[simp] theorem State.sample_fixed (s : State) (sel : Nat) (inst : Option Nat) (v : Nat) : (State.sample s sel inst v).fixed = s.fixed := by
  simp [State.sample]

@[simp] theorem State.setLink_fixed (s : State) (l : Nat) (x : Link) : (State.setLink s l x).fixed = s.fixed := by
  simp [State.setLink]

@[simp] theorem State.putFrame_fixed (s : State) (l : Nat) (n : Nat) (i : Nat) (f : SFrame) : (State.putFrame s l n i f).fixed = s.fixed := by
  simp [State.putFrame]

@[simp] theorem State.launch_fixed (s : State) (l : Nat) (i : Nat) (f : SFrame) : (State.launch s l i f).fixed = s.fixed := by
  simp [State.launch]

@[simp] theorem State.sendFrame_fixed (s : State) (l : Nat) (i : Nat) (f : SFrame) : (State.sendFrame s l i f).fixed = s.fixed := by
  simp [State.sendFrame]

@[simp] theorem State.sendOn_fixed (s : State) (l : Nat) (f : SFrame) : (State.sendOn s l f).fixed = s.fixed := by
  simp [State.sendOn]

@[simp] theorem State.pumpN_fixed (x0 : Nat) (x1 : Nat) (x2 : State) : (State.pumpN x0 x1 x2).fixed = x2.fixed := by
  induction x0 generalizing x2 with
  | zero => rfl
  | succ k ih => unfold State.pumpN; dsimp only; (repeat' split) <;> simp [ih]

@[simp] theorem State.pump_fixed (s : State) (l : Nat) : (State.pump s l).fixed = s.fixed := by
  simp [State.pump]

@[simp] theorem State.seamSend_fixed (s : State) (f : SFrame) : (State.seamSend s f).fixed = s.fixed := by
  simp [State.seamSend]

@[simp] theorem State.answer_fixed (s : State) (h : Hdr) (code : Nat) (st : Status) (vals : List Nat) : (State.answer s h code st vals).fixed = s.fixed := by
  unfold State.answer
  (repeat' split) <;> simp

@[simp] theorem State.complete_fixed (s : State) (h : Hdr) (st : Status) (vals : List Nat) : (State.complete s h st vals).fixed = s.fixed := by
  simp [State.complete]

@[simp] theorem State.endDoze_fixed (s : State) : (State.endDoze s).fixed = s.fixed := by
  unfold State.endDoze
  dsimp only
  split <;> simp -implicitDefEqProofs

@[simp] theorem State.setMode_fixed (s : State) (m : Mode) : (State.setMode s m).fixed = s.fixed := by
  unfold State.setMode
  (repeat' split) <;> simp

@[simp] theorem State.tickFree_fixed (s : State) : (State.tickFree s).fixed = s.fixed := by
  simp [State.tickFree]

@[simp] theorem State.putRec_fixed (s : State) (slot : Nat) (r : PeatRec) : (State.putRec s slot r).fixed = s.fixed := by
  simp [State.putRec]

@[simp] theorem State.allocRec_fixed (s : State) (sev : Nat) (r : PeatRec) : (State.allocRec s sev r).fixed = s.fixed := by
  unfold State.allocRec
  (repeat' split) <;> simp

@[simp] theorem State.recordRaise_fixed (s : State) (x : Raise) : (State.recordRaise s x).fixed = s.fixed := by
  unfold State.recordRaise
  split <;> simp

@[simp] theorem doPeatRecord_fixed (s : State) : (doPeatRecord s).fixed = s.fixed := by
  unfold doPeatRecord
  split <;> simp

@[simp] theorem doPeatSnapTake_fixed (value : Word) (s : State) : (doPeatSnapTake value s).fixed = s.fixed := by
  simp [doPeatSnapTake]

@[simp] theorem doPeatSnapDone_fixed (s : State) : (doPeatSnapDone s).fixed = s.fixed := by
  simp [doPeatSnapDone]

@[simp] theorem State.clearPeat_fixed (s : State) (scope : Nat) (key : Nat) : (State.clearPeat s scope key).fixed = s.fixed := by
  simp [State.clearPeat]

@[simp] theorem State.lifeRec_fixed (m : Nat) (s : State) : (State.lifeRec m s).fixed = s.fixed := by
  unfold State.lifeRec
  split <;> simp

@[simp] theorem State.ownRec_fixed (ev : Nat) (s : State) : (State.ownRec ev s).fixed = s.fixed := by
  unfold State.ownRec
  split <;> simp

@[simp] theorem State.startPeat_fixed (s : State) : (State.startPeat s).fixed = s.fixed := by
  simp [State.startPeat]

@[simp] theorem State.notePeatLost_fixed (s : State) : (State.notePeatLost s).fixed = s.fixed := by
  simp [State.notePeatLost]

@[simp] theorem State.losePeat_fixed (s : State) : (State.losePeat s).fixed = s.fixed := by
  simp [State.losePeat]

@[simp] theorem doEvtFrameGapExpire_fixed (source : Nat) (s : State) : (doEvtFrameGapExpire source s).fixed = s.fixed := by
  unfold doEvtFrameGapExpire
  split <;> simp

@[simp] theorem doEvtPendClear_fixed (g : Nat) (value : Word) (s : State) : (doEvtPendClear g value s).fixed = s.fixed := by
  simp [doEvtPendClear]

@[simp] theorem unmaskedSource_fixed (g : Nat) (old : Nat) (new : Nat) (i : Nat) (s : State) : (unmaskedSource g old new i s).fixed = s.fixed := by
  simp [unmaskedSource]

@[simp] theorem doEvtMaskWrite_fixed (g : Nat) (value : Word) (s : State) : (doEvtMaskWrite g value s).fixed = s.fixed := by
  simp [doEvtMaskWrite]

@[simp] theorem showMonitor_fixed (s : State) (p : Nat × Live) : (showMonitor s p).fixed = s.fixed := by
  simp [showMonitor]

@[simp] theorem State.snapMonitors_fixed (s : State) : (State.snapMonitors s).fixed = s.fixed := by
  simp [State.snapMonitors]

@[simp] theorem doMonSnap_fixed (value : Word) (s : State) : (doMonSnap value s).fixed = s.fixed := by
  simp [doMonSnap]

@[simp] theorem State.holdCommit_fixed (s : State) (v : Nat) : (State.holdCommit s v).fixed = s.fixed := by
  simp [State.holdCommit]

@[simp] theorem State.raiseCommit_fixed (s : State) (stamp : Nat) : (State.raiseCommit s stamp).fixed = s.fixed := by
  simp [State.raiseCommit]

@[simp] theorem State.releaseCommit_fixed (s : State) : (State.releaseCommit s).fixed = s.fixed := by
  unfold State.releaseCommit
  split <;> simp

@[simp] theorem State.leaveLocked_fixed (s : State) : (State.leaveLocked s).fixed = s.fixed := by
  simp [State.leaveLocked]

@[simp] theorem State.showUncert_fixed (s : State) (t : Nat) : (State.showUncert s t).fixed = s.fixed := by
  simp [State.showUncert]

@[simp] theorem State.runFree_fixed (s : State) : (State.runFree s).fixed = s.fixed := by
  simp [State.runFree]

@[simp] theorem State.enterHoldover_fixed (s : State) : (State.enterHoldover s).fixed = s.fixed := by
  simp [State.enterHoldover]

@[simp] theorem State.enterLocking_fixed (s : State) (src : Nat) : (State.enterLocking s src).fixed = s.fixed := by
  simp [State.enterLocking]

@[simp] theorem State.dropSrc_fixed (s : State) : (State.dropSrc s).fixed = s.fixed := by
  simp [State.dropSrc]

@[simp] theorem State.noteBand_fixed (s : State) (off : ℤ) : (State.noteBand s off).fixed = s.fixed := by
  simp [State.noteBand]

@[simp] theorem State.measure_fixed (s : State) (src : Nat) (off : ℤ) : (State.measure s src off).fixed = s.fixed := by
  simp -implicitDefEqProofs [State.measure]

@[simp] theorem State.offsetFrom_fixed (s : State) (src : Nat) (off : ℤ) : (State.offsetFrom s src off).fixed = s.fixed := by
  simp [State.offsetFrom]

@[simp] theorem doPtpMessageReceive_fixed (lport : Nat) (m : PtpMsg) (s : State) : (doPtpMessageReceive lport m s).fixed = s.fixed := by
  unfold doPtpMessageReceive
  (repeat' split) <;> simp

@[simp] theorem doPtpSourceLost_fixed (s : State) : (doPtpSourceLost s).fixed = s.fixed := by
  simp [doPtpSourceLost]

@[simp] theorem State.setPps_fixed (s : State) (n : Nat) (p : Pps) : (State.setPps s n p).fixed = s.fixed := by
  simp [State.setPps]

@[simp] theorem doPpsInEdge_fixed (n : Nat) (errNs : ℤ) (s : State) : (doPpsInEdge n errNs s).fixed = s.fixed := by
  unfold doPpsInEdge
  dsimp only
  split <;> simp -implicitDefEqProofs

@[simp] theorem doPpsInMissing_fixed (n : Nat) (s : State) : (doPpsInMissing n s).fixed = s.fixed := by
  simp [doPpsInMissing]

@[simp] theorem doTimeLocked_fixed (s : State) : (doTimeLocked s).fixed = s.fixed := by
  simp [doTimeLocked]

@[simp] theorem doHoldoverUpdate_fixed (s : State) : (doHoldoverUpdate s).fixed = s.fixed := by
  simp [doHoldoverUpdate]

@[simp] theorem State.age_fixed (s : State) (q : Nat) : (State.age s q).fixed = s.fixed := by
  simp [State.age]

@[simp] theorem State.slewCycle_fixed (s : State) : (State.slewCycle s).2.fixed = s.fixed := by
  unfold State.slewCycle
  dsimp only
  (repeat' split) <;> simp -implicitDefEqProofs

@[simp] theorem State.pass_fixed (s : State) : (State.pass s).fixed = s.fixed := by
  simp [State.pass]

@[simp] theorem State.pulse_fixed (n : Nat) (s : State) : (State.pulse n s).fixed = s.fixed := by
  simp [State.pulse]

@[simp] theorem State.stepSecond_fixed (s : State) : (State.stepSecond s).fixed = s.fixed := by
  unfold State.stepSecond
  split <;> simp

@[simp] theorem doPpsOutPulse_fixed (s : State) : (doPpsOutPulse s).fixed = s.fixed := by
  simp [doPpsOutPulse]

@[simp] theorem doTimeTodSnapshot_fixed (s : State) : (doTimeTodSnapshot s).fixed = s.fixed := by
  simp [doTimeTodSnapshot]

@[simp] theorem doSetTime_fixed (h : Hdr) (n : Nat) (second : Nat) (s : State) : (doSetTime h n second s).fixed = s.fixed := by
  simp [doSetTime]

@[simp] theorem State.tick_fixed (s : State) : (State.tick s).fixed = s.fixed := by
  unfold State.tick
  split <;> simp

@[simp] theorem doEntropyHealthFail_fixed (s : State) : (doEntropyHealthFail s).fixed = s.fixed := by
  simp [doEntropyHealthFail]

@[simp] theorem doDrbgReseed_fixed (pass : Bool) (s : State) : (doDrbgReseed pass s).fixed = s.fixed := by
  simp [doDrbgReseed]

@[simp] theorem State.drawChallenge_fixed (s : State) : (State.drawChallenge s).fixed = s.fixed := by
  simp [State.drawChallenge]

@[simp] theorem doDebugChallenge_fixed (h : Hdr) (s : State) : (doDebugChallenge h s).fixed = s.fixed := by
  simp [doDebugChallenge]

@[simp] theorem doTapChallengeRead_fixed (s : State) : (doTapChallengeRead s).fixed = s.fixed := by
  simp [doTapChallengeRead]

@[simp] theorem doChallengeExpire_fixed (s : State) : (doChallengeExpire s).fixed = s.fixed := by
  simp [doChallengeExpire]

@[simp] theorem State.setPair__fixed (s : State) (p : Nat) (v : Nat) : (State.setPair_ s p v).fixed = s.fixed := by
  simp [State.setPair_]

@[simp] theorem State.releasePair_fixed (s : State) (p : Nat) : (State.releasePair s p).fixed = s.fixed := by
  simp [State.releasePair]

@[simp] theorem State.closeDebug_fixed (s : State) : (State.closeDebug s).fixed = s.fixed := by
  simp [State.closeDebug]

@[simp] theorem State.openDebug_fixed (s : State) (level : Nat) (opened : Nat) : (State.openDebug s level opened).fixed = s.fixed := by
  simp [State.openDebug]

@[simp] theorem State.present_fixed (s : State) (t : Token) (use : TokenUse) (for_ : Option Hdr) : (State.present s t use for_).fixed = s.fixed := by
  simp [State.present]

@[simp] theorem State.completeIf_fixed (s : State) (h : Option Hdr) (st : Status) : (State.completeIf s h st).fixed = s.fixed := by
  unfold State.completeIf
  split <;> simp

@[simp] theorem State.refuseToken_fixed (s : State) (use : TokenUse) (h : Option Hdr) : (State.refuseToken s use h).fixed = s.fixed := by
  unfold State.refuseToken
  split <;> simp

@[simp] theorem doDebugOpen_fixed (h : Hdr) (level : Nat) (t : Option Token) (s : State) : (doDebugOpen h level t s).fixed = s.fixed := by
  unfold doDebugOpen
  (repeat' split) <;> simp

@[simp] theorem doDebugClose_fixed (h : Hdr) (s : State) : (doDebugClose h s).fixed = s.fixed := by
  simp [doDebugClose]

@[simp] theorem doTapTokenWrite_fixed (t : Token) (s : State) : (doTapTokenWrite t s).fixed = s.fixed := by
  simp [doTapTokenWrite]

@[simp] theorem doPeatClear_fixed (h : Hdr) (scope : Nat) (t : Option Token) (s : State) : (doPeatClear h scope t s).fixed = s.fixed := by
  unfold doPeatClear
  (repeat' split) <;> simp

@[simp] theorem State.burnEnd_fixed (reseq : State → State) (go : State → State) (b : Burn) (h : Option Hdr) (s : State) (hreseq : ∀ (u : State), (reseq u).fixed = u.fixed) (hgo : ∀ (u : State), (go u).fixed = u.fixed) : (State.burnEnd reseq go b h s).fixed = s.fixed := by
  unfold State.burnEnd
  split <;> simp [hreseq, hgo]

@[simp] theorem doThmLockSet_fixed (s : State) : (doThmLockSet s).fixed = s.fixed := by
  simp [doThmLockSet]

@[simp] theorem State.poisonLine_fixed (s : State) (line : Nat) : (State.poisonLine s line).fixed = s.fixed := by
  simp [State.poisonLine]

@[simp] theorem State.clearLine_fixed (s : State) (line : Nat) : (State.clearLine s line).fixed = s.fixed := by
  simp [State.clearLine]

@[simp] theorem State.setRgn_fixed (s : State) (i : Nat) (r : Rgn) : (State.setRgn s i r).fixed = s.fixed := by
  simp [State.setRgn]

@[simp] theorem State.walkTiles_fixed (s : State) (target : Nat) (x2 : Nat) (x3 : Nat) (x4 : Nat) : (State.walkTiles s target x2 x3 x4).1.fixed = s.fixed := by
  induction x2 generalizing s x3 x4 with
  | zero => rfl
  | succ k ih =>
    unfold State.walkTiles
    dsimp only
    split
    · rfl
    · split
      · rfl
      · have h := ih { s with entries := cacheEntry s.entries (target + x3 / 65536 * 8) (s.readEntry (target + x3 / 65536 * 8)) }
          (x3 + Nat.min x4 (65536 - x3 % 65536)) (x4 - Nat.min x4 (65536 - x3 % 65536))
        split <;> rename_i heq <;> rw [heq] at h <;> simpa using h

@[simp] theorem State.translate_fixed (s : State) (r : Rgn) (off : Nat) (len : Nat) : (State.translate s r off len).1.fixed = s.fixed := by
  unfold State.translate
  (repeat' split) <;> simp

@[simp] theorem State.logFault_fixed (s : State) (i : Nat) (f : WalkFault) : (State.logFault s i f).fixed = s.fixed := by
  simp [State.logFault]

@[simp] theorem State.cacheDesc_fixed (s : State) (i : Nat) : (State.cacheDesc s i).fixed = s.fixed := by
  simp [State.cacheDesc]

@[simp] theorem State.dropDesc_fixed (s : State) (i : Nat) : (State.dropDesc s i).fixed = s.fixed := by
  simp [State.dropDesc]

@[simp] theorem State.admits_fixed (s : State) (pd : Nat) (key : BitVec 32) (right : Right) (va : Nat) (len : Nat) (bounds : Bool) : (State.admits s pd key right va len bounds).1.fixed = s.fixed := by
  unfold State.admits
  extract_lets i u
  have hu : u.fixed = s.fixed := by simp [u]
  have htr : ∀ {r off n v g}, u.translate r off n = (v, g) → v.fixed = s.fixed := fun h => (fixed_of_pair h).trans (by simp [hu])
  split
  · simp [hu]
  · split
    · simp [hu]
    · split
      · exact hu
      · split <;> rename_i h <;> simp [htr h]

@[simp] theorem State.dropEntries_fixed (s : State) (r : Rgn) : (State.dropEntries s r).fixed = s.fixed := by
  simp [State.dropEntries]

@[simp] theorem State.setTile_fixed (s : State) (t : Nat) (x : Tile) : (State.setTile s t x).fixed = s.fixed := by
  simp [State.setTile]

@[simp] theorem State.setBlk_fixed (s : State) (k : Nat) (b : NBlock) : (State.setBlk s k b).fixed = s.fixed := by
  simp [State.setBlk]

@[simp] theorem State.useSeg_fixed (s : State) (t : Nat) (dirty : Bool) : (State.useSeg s t dirty).fixed = s.fixed := by
  simp [State.useSeg]

@[simp] theorem State.addStale_fixed (s : State) (t : Nat) (cw : Nat) : (State.addStale s t cw).fixed = s.fixed := by
  simp [State.addStale]

@[simp] theorem State.setMap_fixed (s : State) (t : Nat) (m : List (Nat × Nat)) : (State.setMap s t m).fixed = s.fixed := by
  simp [State.setMap]

@[simp] theorem State.reviewFull_fixed (s : State) : (State.reviewFull s).fixed = s.fixed := by
  simp [State.reviewFull]

@[simp] theorem State.countLoad_fixed (s : State) (frame : Nat) : (State.countLoad s frame).fixed = s.fixed := by
  unfold State.countLoad
  split <;> simp

@[simp] theorem State.setThrottle_fixed (s : State) : (State.setThrottle s).fixed = s.fixed := by
  simp [State.setThrottle]

@[simp] theorem State.reviewCap_fixed (s : State) : (State.reviewCap s).fixed = s.fixed := by
  simp [State.reviewCap]

@[simp] theorem State.capNow_fixed (s : State) : (State.capNow s).fixed = s.fixed := by
  simp [State.capNow]

@[simp] theorem State.firstCap_fixed (s : State) (was : Mode) : (State.firstCap s was).fixed = s.fixed := by
  simp [State.firstCap]

@[simp] theorem State.enterFresh_fixed (s : State) (t : Nat) (unit : Option Nat) : (State.enterFresh s t unit).fixed = s.fixed := by
  simp [State.enterFresh]

@[simp] theorem State.takeFrame_fixed (s : State) (f : Nat) : (State.takeFrame s f).fixed = s.fixed := by
  simp [State.takeFrame]

@[simp] theorem State.homeNew_fixed (s : State) (t : Nat) (unit : Option Nat) (key : Nat) (fresh : Bool) : (State.homeNew s t unit key fresh).1.fixed = s.fixed := by
  unfold State.homeNew
  dsimp only
  (repeat' split) <;> simp -implicitDefEqProofs

@[simp] theorem State.noteDirty_fixed (s : State) (t : Nat) : (State.noteDirty s t).fixed = s.fixed := by
  simp [State.noteDirty]

@[simp] theorem State.touch_fixed (s : State) (t : Nat) : (State.touch s t).fixed = s.fixed := by
  simp [State.touch]

@[simp] theorem State.setCset_fixed (s : State) (i : Nat) (c : CSet) : (State.setCset s i c).fixed = s.fixed := by
  simp [State.setCset]

@[simp] theorem State.freeFresh_fixed (s : State) (t : Nat) : (State.freeFresh s t).fixed = s.fixed := by
  simp [State.freeFresh]

@[simp] theorem State.setValid_fixed (s : State) (t : Nat) (l : Nat) : (State.setValid s t l).fixed = s.fixed := by
  unfold State.setValid
  split <;> simp

@[simp] theorem State.writeBack_fixed (s : State) (line : Nat) : (State.writeBack s line).fixed = s.fixed := by
  simp [State.writeBack]

@[simp] theorem State.sidePut_fixed (s : State) (line : Nat) (held : Bool) : (State.sidePut s line held).fixed = s.fixed := by
  simp [State.sidePut]

@[simp] theorem State.enterLine_fixed (s : State) (line : Nat) (dirty : Bool) (held : Bool) : (State.enterLine s line dirty held).fixed = s.fixed := by
  unfold State.enterLine
  dsimp only
  (repeat' split) <;> simp -implicitDefEqProofs

@[simp] theorem State.cleanLine_fixed (s : State) (line : Nat) : (State.cleanLine s line).fixed = s.fixed := by
  unfold State.cleanLine
  dsimp only
  split <;> simp -implicitDefEqProofs

@[simp] theorem State.cleanAll_fixed (s : State) : (State.cleanAll s).fixed = s.fixed := by
  simp [State.cleanAll]

@[simp] theorem State.missLoad_fixed (s : State) (line : Nat) : (State.missLoad s line).fixed = s.fixed := by
  simp [State.missLoad]

@[simp] theorem State.readLine_fixed (s : State) (line : Nat) : (State.readLine s line).fixed = s.fixed := by
  simp [State.readLine]

@[simp] theorem State.writeLine_fixed (s : State) (line : Nat) : (State.writeLine s line).fixed = s.fixed := by
  simp [State.writeLine]

@[simp] theorem State.dropLine_fixed (s : State) (line : Nat) : (State.dropLine s line).fixed = s.fixed := by
  unfold State.dropLine
  dsimp only
  split <;> simp -implicitDefEqProofs

@[simp] theorem State.startWalk_fixed (s : State) : (State.startWalk s).fixed = s.fixed := by
  simp [State.startWalk]

@[simp] theorem State.markRecord_fixed (s : State) (t : Nat) : (State.markRecord s t).fixed = s.fixed := by
  unfold State.markRecord
  split <;> simp

@[simp] theorem State.replain_fixed (s : State) (line : Nat) : (State.replain s line).fixed = s.fixed := by
  simp [State.replain]

@[simp] theorem State.cleanse_fixed (s : State) (a : Nat) (n : Nat) (line : Nat) : (State.cleanse s a n line).fixed = s.fixed := by
  simp [State.cleanse]

@[simp] theorem State.reviewFresh_fixed (s : State) (t : Nat) : (State.reviewFresh s t).fixed = s.fixed := by
  unfold State.reviewFresh
  split <;> simp

@[simp] theorem State.store_fixed (s : State) (a : Nat) (data : List Byte) : (State.store s a data).fixed = s.fixed := by
  simp [State.store]

@[simp] theorem State.load_fixed (s : State) (a : Nat) (n : Nat) : (State.load s a n).fixed = s.fixed := by
  simp [State.load]

@[simp] theorem State.countScan_fixed (s : State) (n : Nat) : (State.countScan s n).fixed = s.fixed := by
  simp [State.countScan]

@[simp] theorem State.endScan_fixed (s : State) (outcome : Nat) (result : Nat) : (State.endScan s outcome result).fixed = s.fixed := by
  unfold State.endScan
  split <;> simp

@[simp] theorem State.newGroup_fixed (s : State) : (State.newGroup s).1.fixed = s.fixed := by
  simp [State.newGroup]

@[simp] theorem State.takeSpares_fixed (s : State) (n : Nat) : (State.takeSpares s n).fixed = s.fixed := by
  simp -implicitDefEqProofs [State.takeSpares]

@[simp] theorem State.joinSpare_fixed (s : State) (t : Nat) : (State.joinSpare s t).fixed = s.fixed := by
  simp [State.joinSpare]

@[simp] theorem State.drawBlock_fixed (s : State) (t : Nat) (reloc : Bool) : (State.drawBlock s t reloc).1.fixed = s.fixed := by
  unfold State.drawBlock
  split <;> simp

@[simp] theorem State.openBlock_fixed (s : State) (t : Nat) (reloc : Bool) : (State.openBlock s t reloc).1.fixed = s.fixed := by
  unfold State.openBlock
  split <;> rename_i h <;> have := fixed_of_pair h
  · simpa using this
  · dsimp only; split <;> simpa using this

@[simp] theorem State.programParity_fixed (s : State) (g : Nat) : (State.programParity s g).fixed = s.fixed := by
  unfold State.programParity
  dsimp only
  (repeat' split) <;> simp -implicitDefEqProofs

@[simp] theorem State.closeBlock_fixed (s : State) (k : Nat) : (State.closeBlock s k).fixed = s.fixed := by
  simp [State.closeBlock]

@[simp] theorem State.program_fixed (s : State) (t : Nat) (reloc : Bool) (unit : Bool) : (State.program s t reloc unit).1.fixed = s.fixed := by
  unfold State.program
  dsimp only
  (repeat' split) <;> simp -implicitDefEqProofs

@[simp] theorem State.programTile_fixed (s : State) (t : Nat) (tile : Nat) (unit : Option Nat) (reloc : Bool) : (State.programTile s t tile unit reloc).1.fixed = s.fixed := by
  unfold State.programTile
  dsimp only
  split <;> rename_i h <;> simpa using fixed_of_pair h

@[simp] theorem State.occupy_fixed (s : State) (t : Nat) : (State.occupy s t).fixed = s.fixed := by
  simp [State.occupy]

@[simp] theorem State.vacate_fixed (s : State) (t : Nat) : (State.vacate s t).fixed = s.fixed := by
  simp [State.vacate]

@[simp] theorem State.suspend_fixed (s : State) (t : Nat) : (State.suspend s t).1.fixed = s.fixed := by
  unfold State.suspend
  (repeat' split) <;> simp

@[simp] theorem State.saveReplace_fixed (s : State) : (State.saveReplace s).fixed = s.fixed := by
  unfold State.saveReplace
  (repeat' split) <;> simp

@[simp] theorem State.toErase_fixed (s : State) (k : Nat) : (State.toErase s k).fixed = s.fixed := by
  simp [State.toErase]

@[simp] theorem State.reviewGroup_fixed (s : State) (g : Nat) : (State.reviewGroup s g).fixed = s.fixed := by
  unfold State.reviewGroup
  (repeat' split) <;> simp
  rename_i x _ _; cases x.block <;> simp

@[simp] theorem State.retireBlock_fixed (s : State) (k : Nat) : (State.retireBlock s k).fixed = s.fixed := by
  simp [State.retireBlock]

@[simp] theorem State.drainBlock_fixed (s : State) (k : Nat) (retire : Bool) : (State.drainBlock s k retire).fixed = s.fixed := by
  simp [State.drainBlock]

@[simp] theorem State.reviewDrain_fixed (s : State) (k : Nat) : (State.reviewDrain s k).fixed = s.fixed := by
  unfold State.reviewDrain
  split <;> simp

@[simp] theorem State.abandonMoves_fixed (s : State) (p : Mig → Bool) : (State.abandonMoves s p).fixed = s.fixed := by
  simp [State.abandonMoves]

@[simp] theorem State.countFail_fixed (s : State) (t : Nat) : (State.countFail s t).fixed = s.fixed := by
  simp [State.countFail]

@[simp] theorem State.endExtent_fixed (s : State) (i : Nat) : (State.endExtent s i).fixed = s.fixed := by
  simp [State.endExtent]

@[simp] theorem State.unchurn_fixed (s : State) (t : Nat) : (State.unchurn s t).fixed = s.fixed := by
  simp [State.unchurn]

@[simp] theorem State.abandonDown_fixed (s : State) (t : Nat) : (State.abandonDown s t).fixed = s.fixed := by
  simp [State.abandonDown]

@[simp] theorem State.pinDown_fixed (s : State) (name : Nat) (ts : List Nat) : (State.pinDown s name ts).fixed = s.fixed := by
  simp [State.pinDown]

@[simp] theorem State.applyExtent_fixed (s : State) (i : Nat) (flag : Bool) (policy : Nat) : (State.applyExtent s i flag policy).fixed = s.fixed := by
  simp [State.applyExtent]

@[simp] theorem State.installKey_fixed (s : State) (slot : Nat) (k : Nat) : (State.installKey s slot k).fixed = s.fixed := by
  simp [State.installKey]

@[simp] theorem State.logEcc_fixed (s : State) (c : Nat) (loc : BurstLoc) (ue : Bool) (device : Nat) : (State.logEcc s c loc ue device).fixed = s.fixed := by
  simp [State.logEcc]

@[simp] theorem State.uncorrectable_fixed (s : State) (c : Nat) (loc : BurstLoc) : (State.uncorrectable s c loc).fixed = s.fixed := by
  simp [State.uncorrectable]

@[simp] theorem State.dataError_fixed (s : State) (line : Nat) : (State.dataError s line).fixed = s.fixed := by
  unfold State.dataError
  (repeat' split) <;> simp

@[simp] theorem State.heat_fixed (s : State) (t : Nat) (unit : Option Nat) : (State.heat s t unit).fixed = s.fixed := by
  simp [State.heat]

@[simp] theorem State.startFetch_fixed (s : State) (t : Nat) (unit : Option Nat) (n : Nat) (psn : Nat) : (State.startFetch s t unit n psn).fixed = s.fixed := by
  simp [State.startFetch]

@[simp] theorem State.freeGroup_fixed (s : State) : (State.freeGroup s).fixed = s.fixed := by
  unfold State.freeGroup
  dsimp only
  split <;> simp -implicitDefEqProofs

@[simp] theorem State.unhome_fixed (s : State) (t : Nat) : (State.unhome s t).fixed = s.fixed := by
  simp [State.unhome]

@[simp] theorem State.passTurn_fixed (s : State) (m : Mig) (f : Nat) : (State.passTurn s m f).fixed = s.fixed := by
  unfold State.passTurn
  split <;> simp

@[simp] theorem State.beginMove_fixed (s : State) (m : Mig) : (State.beginMove s m).1.fixed = s.fixed := by
  unfold State.beginMove
  (repeat' split) <;> simp

@[simp] theorem State.raisePromotion_fixed (s : State) (t : Nat) (unit : Option Nat) : (State.raisePromotion s t unit).fixed = s.fixed := by
  simp [State.raisePromotion]

@[simp] theorem State.promote_fixed (s : State) (t : Nat) (unit : Option Nat) : (State.promote s t unit).fixed = s.fixed := by
  simp [State.promote]

@[simp] theorem State.askHome_fixed (s : State) (t : Nat) : (State.askHome s t).1.fixed = s.fixed := by
  unfold State.askHome
  dsimp only
  (repeat' split) <;> simp -implicitDefEqProofs

@[simp] theorem State.denied_fixed (s : State) (g : Grant) : (State.denied s g).1.fixed = s.fixed := by
  unfold State.denied
  split <;> simp

@[simp] theorem State.lookupWrite_fixed (s : State) (t : Nat) (unit : Option Nat) (u : Nat) (key : Nat) : (State.lookupWrite s t unit u key).1.fixed = s.fixed := by
  have hask : ∀ {u g}, s.askHome t = (u, g) → u.fixed = s.fixed := fun h => (fixed_of_pair h).trans (by simp)
  unfold State.lookupWrite
  dsimp only
  split
  · (repeat' split) <;> simp
  · split <;> rename_i h
    · split <;> simp [hask h]
    · simp [hask h]
  · split
    · rfl
    · split <;> rename_i h <;> simp [hask h]

@[simp] theorem State.lookupRead_fixed (s : State) (t : Nat) (unit : Option Nat) (u : Nat) (a : Nat) (n : Nat) (qp : Nat) (psn : Nat) : (State.lookupRead s t unit u a n qp psn).1.fixed = s.fixed := by
  unfold State.lookupRead
  (repeat' split) <;> simp

@[simp] theorem State.raiseJob_fixed (s : State) (t : Nat) : (State.raiseJob s t).fixed = s.fixed := by
  simp [State.raiseJob]

@[simp] theorem State.lookupPart_fixed (s : State) (write : Bool) (key : Nat) (qp : Nat) (psn : Nat) (a : Nat) (n : Nat) : (State.lookupPart s write key qp psn a n).1.fixed = s.fixed := by
  unfold State.lookupPart
  dsimp only
  split
  · rfl
  · split
    · rfl
    · rw [fixed_foldl_fst (fun r g => by (repeat' split) <;> simp)]
      simp

@[simp] theorem State.lookup_fixed (s : State) (write : Bool) (key : Nat) (qp : Nat) (psn : Nat) (parts : List (Nat × Nat)) : (State.lookup s write key qp psn parts).1.fixed = s.fixed := by
  unfold State.lookup
  rw [fixed_foldl_fst (fun r p => by simp)]

@[simp] theorem State.setCell_fixed (s : State) (i : Nat) (c : Cell) : (State.setCell s i c).fixed = s.fixed := by
  simp [State.setCell]

@[simp] theorem State.pauseCheck_fixed (s : State) (port : Nat) (prio : Nat) : (State.pauseCheck s port prio).fixed = s.fixed := by
  simp [State.pauseCheck]

@[simp] theorem State.takeCell_fixed (s : State) (o : Nat) (prio : Nat) : (State.takeCell s o prio).fixed = s.fixed := by
  simp [State.takeCell]

@[simp] theorem State.grantCells_fixed (s : State) (x1 : Nat) : (State.grantCells s x1).fixed = s.fixed := by
  induction x1 generalizing s with
  | zero => rfl
  | succ k ih => unfold State.grantCells; split <;> simp [ih]

@[simp] theorem State.freeCell_fixed (s : State) (i : Nat) (gen : Nat) : (State.freeCell s i gen).fixed = s.fixed := by
  simp [State.freeCell]

theorem State.takeChain_fixed (s : State) (o : Nat) (prio : Nat) (x3 : Nat) : ∀ r, (State.takeChain s o prio x3) = some r → r.1.fixed = s.fixed := by
  induction x3 generalizing s with
  | zero => intro t ht; cases ht; rfl
  | succ k ih =>
    intro t ht
    unfold State.takeChain at ht
    split at ht
    · dsimp only at ht
      split at ht
      · rename_i h
        cases ht
        simpa using ih _ _ h
      · cases ht
    · cases ht

@[simp] theorem State.passChain_fixed (s : State) (e : Nat) (l : List (Nat × Nat)) : (State.passChain s e l).fixed = s.fixed := by
  simp [State.passChain]

@[simp] theorem State.dropHand_fixed (s : State) : (State.dropHand s).fixed = s.fixed := by
  simp [State.dropHand]

@[simp] theorem State.setQp_fixed (s : State) (n : Nat) (q : Qp) : (State.setQp s n q).fixed = s.fixed := by
  simp [State.setQp]

@[simp] theorem State.modQp_fixed (s : State) (n : Nat) (f : Qp → Qp) : (State.modQp s n f).fixed = s.fixed := by
  simp [State.modQp]

@[simp] theorem State.bindTo_fixed (s : State) (n : Nat) (e : Nat) : (State.bindTo s n e).fixed = s.fixed := by
  unfold State.bindTo
  (repeat' split) <;> simp

@[simp] theorem State.bindQp_fixed (s : State) (n : Nat) : (State.bindQp s n).fixed = s.fixed := by
  unfold State.bindQp
  split <;> simp

@[simp] theorem State.bindAll_fixed (s : State) : (State.bindAll s).fixed = s.fixed := by
  unfold State.bindAll
  refine fixed_foldl (fun u p => ?_) _ _
  (repeat' split) <;> simp

@[simp] theorem State.storeParts_fixed (s : State) (x1 : List (Nat × Nat)) (x2 : List Byte) : (State.storeParts s x1 x2).fixed = s.fixed := by
  induction x1 generalizing s x2 with
  | nil => rfl
  | cons p l ih => simp [State.storeParts, ih]

@[simp] theorem State.tryOwn_fixed (s : State) (w : OwnWrite) : (State.tryOwn s w).1.fixed = s.fixed := by
  unfold State.tryOwn
  dsimp only
  split <;> simp -implicitDefEqProofs

@[simp] theorem State.ownStore_fixed (s : State) (w : OwnWrite) : (State.ownStore s w).fixed = s.fixed := by
  simp [State.ownStore]

@[simp] theorem State.retryOwn_fixed (s : State) : (State.retryOwn s).fixed = s.fixed := by
  simp [State.retryOwn]

@[simp] theorem State.regionWrite_fixed (s : State) (pd : Nat) (key : BitVec 32) (off : Nat) (data : List Byte) : (State.regionWrite s pd key off data).fixed = s.fixed := by
  have htr : ∀ {r n u g}, s.translate r off n = (u, g) → u.fixed = s.fixed := fun h => (fixed_of_pair h).trans (by simp)
  unfold State.regionWrite
  dsimp only
  split
  · split <;> rename_i h <;> simp [htr h]
  · rfl

@[simp] theorem State.ringStep_fixed (s : State) (n : Nat) (q : Qp) : (State.ringStep s n q).fixed = s.fixed := by
  unfold State.ringStep
  split <;> simp

@[simp] theorem State.completeRecv_fixed (s : State) (n : Nat) (e : RecvEntry) (count : Nat) (imm : BitVec 32) (syn : Nat) (status : Nat) (psn : Nat) : (State.completeRecv s n e count imm syn status psn).fixed = s.fixed := by
  unfold State.completeRecv
  (repeat' split) <;> simp

@[simp] theorem State.flushEntries_fixed (s : State) (n : Nat) (es : List RecvEntry) : (State.flushEntries s n es).fixed = s.fixed := by
  simp [State.flushEntries]

@[simp] theorem State.giveEntry_fixed (s : State) (n : Nat) (e : RecvEntry) : (State.giveEntry s n e).fixed = s.fixed := by
  unfold State.giveEntry
  (repeat' split) <;> simp

@[simp] theorem State.takeEntry_fixed (s : State) (n : Nat) : (State.takeEntry s n).1.fixed = s.fixed := by
  unfold State.takeEntry
  (repeat' split) <;> simp

@[simp] theorem State.unhold_fixed (s : State) (line : Nat) : (State.unhold s line).fixed = s.fixed := by
  unfold State.unhold
  dsimp only
  split <;> simp -implicitDefEqProofs

@[simp] theorem State.endHold_fixed (s : State) (f : Fetch) : (State.endHold s f).fixed = s.fixed := by
  simp [State.endHold]

@[simp] theorem State.reviewHolds_fixed (s : State) : (State.reviewHolds s).fixed = s.fixed := by
  simp [State.reviewHolds]

@[simp] theorem State.endShare_fixed (s : State) (n : Nat) (psn : Nat) : (State.endShare s n psn).fixed = s.fixed := by
  simp [State.endShare]

@[simp] theorem State.endPark_fixed (s : State) (n : Nat) (psn : Nat) : (State.endPark s n psn).fixed = s.fixed := by
  simp [State.endPark]

@[simp] theorem State.endShares_fixed (s : State) (n : Nat) : (State.endShares s n).fixed = s.fixed := by
  simp [State.endShares]

@[simp] theorem State.endReplace_fixed (s : State) (n : Nat) (sent : Bool) : (State.endReplace s n sent).fixed = s.fixed := by
  unfold State.endReplace
  dsimp only
  (repeat' split) <;> simp -implicitDefEqProofs

@[simp] theorem State.countAbandon_fixed (s : State) (i : Nat) : (State.countAbandon s i).fixed = s.fixed := by
  simp [State.countAbandon]

@[simp] theorem State.unbindLost_fixed (s : State) (n : Nat) (by_ : Option Nat) : (State.unbindLost s n by_).fixed = s.fixed := by
  unfold State.unbindLost
  dsimp only
  split
  · simp
  · have hclose : ∀ (u : State) (i : Nat), (if (u.rgn i).state = .closing then u.countAbandon i else u).fixed = u.fixed := fun u i => by split <;> simp
    simp -implicitDefEqProofs [hclose]

@[simp] theorem State.fence_fixed (s : State) (e : Nat) (cause : Nat) : (State.fence s e cause).fixed = s.fixed := by
  unfold State.fence
  dsimp only
  (repeat' split) <;> simp -implicitDefEqProofs

end Sys2Proof.Machine
end

section
set_option Elab.async false
/-! PROOFS. The functions of queue pairs, messages, regions and the gate: each leaves the queue, the part and the fuses as they were (`State.fixed`). -/

namespace Sys2Proof.Machine

@[simp] theorem State.badFree_fixed (s : State) (dbl : Bool) (i : Nat) (issuer : Nat) (c : Cell) : (State.badFree s dbl i issuer c).fixed = s.fixed := by
  simp [State.badFree]

@[simp] theorem State.freeAs_fixed (s : State) (issuer : Nat) (c : Nat × Nat) : (State.freeAs s issuer c).fixed = s.fixed := by
  simp [State.freeAs]

@[simp] theorem State.freeChain_fixed (s : State) (issuer : Nat) (l : List (Nat × Nat)) : (State.freeChain s issuer l).fixed = s.fixed := by
  simp [State.freeChain]

@[simp] theorem State.protect_fixed (s : State) (lport : Nat) (ety : Nat) : (State.protect s lport ety).1.fixed = s.fixed := by
  unfold State.protect
  (repeat' split) <;> simp

@[simp] theorem State.emit_fixed (s : State) (n : Nat) (q : Qp) (w : Wire) : (State.emit s n q w).fixed = s.fixed := by
  simp [State.emit]

@[simp] theorem State.sendPkt_fixed (s : State) (n : Nat) (w : Wire) : (State.sendPkt s n w).fixed = s.fixed := by
  unfold State.sendPkt
  split <;> simp

@[simp] theorem State.queuePkt_fixed (s : State) (n : Nat) (w : Wire) (last : Bool) : (State.queuePkt s n w last).fixed = s.fixed := by
  unfold State.queuePkt
  split <;> simp

@[simp] theorem State.pay_fixed (s : State) (n : Nat) (syn : Nat) (psn : Nat) (upTo : Nat) : (State.pay s n syn psn upTo).fixed = s.fixed := by
  unfold State.pay
  split <;> simp

@[simp] theorem State.respond_fixed (s : State) (n : Nat) (m : Msg) : (State.respond s n m).fixed = s.fixed := by
  unfold State.respond
  (repeat' split) <;> simp

@[simp] theorem State.tryGive_fixed (s : State) (n : Nat) : (State.tryGive s n).fixed = s.fixed := by
  unfold State.tryGive
  split <;> simp

@[simp] theorem State.finish_fixed (s : State) (n : Nat) (m : Msg) : (State.finish s n m).fixed = s.fixed := by
  unfold State.finish
  dsimp only
  (repeat' split) <;> simp -implicitDefEqProofs

@[simp] theorem State.sweepN_fixed (x0 : Nat) (x1 : State) (x2 : Nat) : (State.sweepN x0 x1 x2).fixed = x1.fixed := by
  induction x0 generalizing x1 with
  | zero => rfl
  | succ k ih => unfold State.sweepN; (repeat' split) <;> simp [ih]

@[simp] theorem State.sweep_fixed (s : State) (n : Nat) : (State.sweep s n).fixed = s.fixed := by
  unfold State.sweep
  split <;> simp

@[simp] theorem State.sweepAll_fixed (s : State) : (State.sweepAll s).fixed = s.fixed := by
  simp [State.sweepAll]

@[simp] theorem State.sweepChan_fixed (s : State) (c : Nat) : (State.sweepChan s c).fixed = s.fixed := by
  simp [State.sweepChan]

@[simp] theorem State.ackNow_fixed (s : State) (n : Nat) : (State.ackNow s n).fixed = s.fixed := by
  unfold State.ackNow
  split <;> simp

@[simp] theorem State.stopSubs_fixed (s : State) (n : Nat) : (State.stopSubs s n).fixed = s.fixed := by
  simp [State.stopSubs]

@[simp] theorem State.dropUncommitted_fixed (s : State) (n : Nat) : (State.dropUncommitted s n).fixed = s.fixed := by
  unfold State.dropUncommitted
  split <;> simp

@[simp] theorem State.flushQp_fixed (s : State) (n : Nat) : (State.flushQp s n).fixed = s.fixed := by
  unfold State.flushQp
  split <;> simp

@[simp] theorem State.enterError_fixed (s : State) (n : Nat) (syn : Nat) (psn : Nat) : (State.enterError s n syn psn).fixed = s.fixed := by
  unfold State.enterError
  split <;> simp

@[simp] theorem State.discard_fixed (s : State) (n : Nat) (gone : List Msg) (kept : Option Nat) : (State.discard s n gone kept).fixed = s.fixed := by
  have hshare : ∀ (u : State) (m : Msg), (if kept = some m.psn then u.endPark n m.psn else u.endShare n m.psn).fixed = u.fixed := fun u m => by
    split <;> simp
  simp [State.discard, hshare]

@[simp] theorem State.discardFrom_fixed (s : State) (n : Nat) (psn : Nat) (kept : Option Nat) : (State.discardFrom s n psn kept).fixed = s.fixed := by
  unfold State.discardFrom
  split <;> simp

@[simp] theorem State.dropOne_fixed (s : State) (n : Nat) (psn : Nat) : (State.dropOne s n psn).fixed = s.fixed := by
  unfold State.dropOne
  split <;> simp

@[simp] theorem State.discardDup_fixed (s : State) (n : Nat) (psn : Nat) : (State.discardDup s n psn).fixed = s.fixed := by
  unfold State.discardDup
  split <;> simp

@[simp] theorem State.decideNak_fixed (s : State) (n : Nat) (psn : Nat) (syn : Nat) (writes : Bool) : (State.decideNak s n psn syn writes).fixed = s.fixed := by
  unfold State.decideNak
  split <;> simp

@[simp] theorem State.countNak_fixed (s : State) (e : Nat) (syn : Nat) : (State.countNak s e syn).fixed = s.fixed := by
  simp [State.countNak]

@[simp] theorem State.tryNak_fixed (s : State) (n : Nat) : (State.tryNak s n).fixed = s.fixed := by
  unfold State.tryNak
  (repeat' split) <;> simp

@[simp] theorem State.reviewPair_fixed (s : State) : (State.reviewPair s).fixed = s.fixed := by
  simp -implicitDefEqProofs [State.reviewPair]

@[simp] theorem State.entryPoint_fixed (s : State) (c : Nat) (q : Nat) : (State.entryPoint s c q).fixed = s.fixed := by
  simp [State.entryPoint]

@[simp] theorem State.reachPoint_fixed (s : State) (n : Nat) (psn : Nat) (pub : Option (Nat × Nat)) : (State.reachPoint s n psn pub).fixed = s.fixed := by
  unfold State.reachPoint
  split <;> simp

@[simp] theorem State.markTiles_fixed (s : State) (ts : List Nat) : (State.markTiles s ts).fixed = s.fixed := by
  simp [State.markTiles]

@[simp] theorem State.clearMarks_fixed (s : State) (ts : List Nat) : (State.clearMarks s ts).fixed = s.fixed := by
  simp [State.clearMarks]

@[simp] theorem State.openRecord_fixed (s : State) : (State.openRecord s).fixed = s.fixed := by
  simp [State.openRecord]

@[simp] theorem State.dropStamp_fixed (s : State) : (State.dropStamp s).fixed = s.fixed := by
  simp [State.dropStamp]

@[simp] theorem State.nextSeq_fixed (s : State) : (State.nextSeq s).1.fixed = s.fixed := by
  simp [State.nextSeq]

@[simp] theorem State.sendCopy_fixed (s : State) (t : Nat) : (State.sendCopy s t).fixed = s.fixed := by
  simp [State.sendCopy]

@[simp] theorem State.copyFirst_fixed (s : State) (t : Nat) : (State.copyFirst s t).fixed = s.fixed := by
  simp [State.copyFirst]

@[simp] theorem State.copyAgain_fixed (s : State) (t : Nat) : (State.copyAgain s t).fixed = s.fixed := by
  simp [State.copyAgain]

@[simp] theorem State.mirrorCommit_fixed (s : State) (m : SeamMsg) (tiles : List Nat) (isLocal : Bool) (pub : Option (Nat × Nat)) (relaxed : Bool) (always : Bool) : (State.mirrorCommit s m tiles isLocal pub relaxed always).1.fixed = s.fixed := by
  have hcopy : ∀ (u : State) (t : Nat), (if u.mode = .paired then u.sendCopy t else if (u.copyAgain t).held then u.copyAgain t else (u.copyAgain t).copyFirst t).fixed = u.fixed :=
    fun u t => by (repeat' split) <;> simp
  have hall : ∀ (l : List Nat) (u : State), (l.foldl (fun s t => if s.mode = .paired then s.sendCopy t else if (s.copyAgain t).held then s.copyAgain t else (s.copyAgain t).copyFirst t) u).fixed = u.fixed :=
    fun l u => fixed_foldl hcopy l u
  unfold State.mirrorCommit
  dsimp only
  (repeat' split) <;> simp [hall]

@[simp] theorem State.settle_fixed (s : State) : (State.settle s).fixed = s.fixed := by
  simp [State.settle]

@[simp] theorem State.raiseEpoch_fixed (s : State) : (State.raiseEpoch s).fixed = s.fixed := by
  unfold State.raiseEpoch
  split <;> simp

@[simp] theorem State.adoptQp_fixed (s : State) (n : Nat) : (State.adoptQp s n).fixed = s.fixed := by
  unfold State.adoptQp
  split <;> simp

@[simp] theorem State.dropForwards_fixed (s : State) (n : Nat) : (State.dropForwards s n).fixed = s.fixed := by
  unfold State.dropForwards
  (repeat' split) <;> simp

@[simp] theorem State.takeover_fixed (s : State) (new : Bool) : (State.takeover s new).fixed = s.fixed := by
  simp [State.takeover]

@[simp] theorem State.twinGone_fixed (s : State) : (State.twinGone s).fixed = s.fixed := by
  simp [State.twinGone]

@[simp] theorem State.enterSolo_fixed (s : State) : (State.enterSolo s).fixed = s.fixed := by
  simp -implicitDefEqProofs [State.enterSolo]

@[simp] theorem State.takeSolo_fixed (s : State) : (State.takeSolo s).fixed = s.fixed := by
  simp [State.takeSolo]

@[simp] theorem State.setChan_fixed (s : State) (c : Nat) (x : Chan) : (State.setChan s c x).fixed = s.fixed := by
  simp [State.setChan]

@[simp] theorem State.setSub_fixed (s : State) (c : Nat) (b : Nat) (x : Sub) : (State.setSub s c b x).fixed = s.fixed := by
  simp [State.setSub]

@[simp] theorem State.tellTwin_fixed (s : State) (u : CtxUpdate) : (State.tellTwin s u).fixed = s.fixed := by
  simp [State.tellTwin]

@[simp] theorem State.tellSub_fixed (s : State) (c : Nat) (b : Nat) : (State.tellSub s c b).fixed = s.fixed := by
  unfold State.tellSub
  split <;> simp

@[simp] theorem State.detach_fixed (s : State) (c : Nat) (b : Nat) (x : Sub) : (State.detach s c b x).fixed = s.fixed := by
  simp [State.detach]

@[simp] theorem State.trim_fixed (s : State) (c : Nat) (need : Nat) (x3 : Nat) : (State.trim s c need x3).fixed = s.fixed := by
  induction x3 generalizing s with
  | zero => rfl
  | succ k ih => unfold State.trim; (repeat' split) <;> simp [ih]

@[simp] theorem State.commitPublish_fixed (s : State) (c : Nat) (pub : Nat) (payload : List Byte) (stamp : Nat) : (State.commitPublish s c pub payload stamp).1.fixed = s.fixed := by
  unfold State.commitPublish
  dsimp only
  (repeat' split) <;> simp -implicitDefEqProofs

@[simp] theorem State.release_fixed (s : State) (c : Nat) (b : Nat) (v : Nat) : (State.release s c b v).fixed = s.fixed := by
  unfold State.release
  (repeat' split) <;> simp

@[simp] theorem State.readReleases_fixed (s : State) (region : Nat) (parts : List (Nat × Nat)) : (State.readReleases s region parts).fixed = s.fixed := by
  unfold State.readReleases
  refine fixed_foldl (fun u p => fixed_foldl (fun v b => ?_) _ _) _ _
  (repeat' split) <;> simp

@[simp] theorem State.sendWrite_fixed (s : State) (n : Nat) (key : BitVec 32) (parts : List (Nat × List Byte)) (imm : Option Nat) (c : Nat) (b : Nat) (seqs : List Nat) (seals : List (Nat × Nat)) : (State.sendWrite s n key parts imm c b seqs seals).fixed = s.fixed := by
  unfold State.sendWrite
  split <;> simp

@[simp] theorem State.writeEntry_fixed (s : State) (c : Nat) (b : Nat) (x : Sub) (seq : Nat) (type : Nat) (stamp : Nat) (pub : Nat) (payload : List Byte) : (State.writeEntry s c b x seq type stamp pub payload).1.fixed = s.fixed := by
  simp [State.writeEntry]

@[simp] theorem State.deliver_fixed (s : State) (c : Nat) (b : Nat) (ch : Chan) (x : Sub) : (State.deliver s c b ch x).fixed = s.fixed := by
  unfold State.deliver
  dsimp only
  (repeat' split) <;> simp -implicitDefEqProofs

@[simp] theorem State.doPublishDeliver_fixed (s : State) (c : Nat) (b : Nat) : (State.doPublishDeliver s c b).fixed = s.fixed := by
  unfold State.doPublishDeliver
  split <;> simp

@[simp] theorem State.sendSeals_fixed (s : State) (c : Nat) (b : Nat) (x : Sub) (seqs : List Nat) (x5 : List (Nat × Nat)) : (State.sendSeals s c b x seqs x5).fixed = s.fixed := by
  induction x5 generalizing s with
  | nil => rfl
  | cons p l ih => simp [State.sendSeals, ih]

@[simp] theorem State.holdEntry_fixed (s : State) (c : Nat) (b : Nat) (seq : Nat) : (State.holdEntry s c b seq).fixed = s.fixed := by
  unfold State.holdEntry
  split <;> simp

@[simp] theorem State.ackReqOne_fixed (s : State) (r : Req) : (State.ackReqOne s r).fixed = s.fixed := by
  unfold State.ackReqOne
  split <;> simp

@[simp] theorem State.doSubscriberAck_fixed (s : State) (c : Nat) (b : Nat) (seq : Nat) : (State.doSubscriberAck s c b seq).fixed = s.fixed := by
  unfold State.doSubscriberAck
  (repeat' split) <;> simp

@[simp] theorem State.doGap_fixed (s : State) (c : Nat) (b : Nat) : (State.doGap s c b).fixed = s.fixed := by
  unfold State.doGap
  split <;> simp

@[simp] theorem State.doHint_fixed (s : State) (c : Nat) : (State.doHint s c).fixed = s.fixed := by
  unfold State.doHint
  split <;> simp

@[simp] theorem State.takeLogTile_fixed (s : State) (key : Nat) (i : Nat) : (State.takeLogTile s key i).fixed = s.fixed := by
  simp [State.takeLogTile]

@[simp] theorem State.takeLog_fixed (s : State) (a : ChanArgs) : (State.takeLog s a).fixed = s.fixed := by
  simp [State.takeLog]

@[simp] theorem State.putChannel_fixed (s : State) (a : ChanArgs) : (State.putChannel s a).fixed = s.fixed := by
  simp [State.putChannel]

@[simp] theorem State.dropChannel_fixed (s : State) (c : Nat) : (State.dropChannel s c).fixed = s.fixed := by
  unfold State.dropChannel
  split <;> simp

@[simp] theorem State.putPublisher_fixed (s : State) (c : Nat) (n : Nat) (i : Nat) : (State.putPublisher s c n i).fixed = s.fixed := by
  simp [State.putPublisher]

@[simp] theorem State.dropPublisher_fixed (s : State) (c : Nat) (n : Nat) : (State.dropPublisher s c n).fixed = s.fixed := by
  simp [State.dropPublisher]

@[simp] theorem State.putSubscriber_fixed (s : State) (a : SubArgs) : (State.putSubscriber s a).fixed = s.fixed := by
  simp [State.putSubscriber]

@[simp] theorem State.resumeSub_fixed (s : State) (c : Nat) (b : Nat) (n : Nat) : (State.resumeSub s c b n).fixed = s.fixed := by
  unfold State.resumeSub
  (repeat' split) <;> simp

@[simp] theorem State.dropSub_fixed (s : State) (c : Nat) (b : Nat) : (State.dropSub s c b).fixed = s.fixed := by
  simp [State.dropSub]

@[simp] theorem State.failLane_fixed (s : State) (lane : Nat) : (State.failLane s lane).fixed = s.fixed := by
  simp [State.failLane]

@[simp] theorem State.missLane_fixed (s : State) (lane : Nat) : (State.missLane s lane).fixed = s.fixed := by
  simp [State.missLane]

@[simp] theorem State.dual_fixed (s : State) (d : Dual) (lane : Nat) : (State.dual s d lane).fixed = s.fixed := by
  unfold State.dual
  split <;> simp

@[simp] theorem State.retryLanes_fixed (s : State) (lanes : List (Fin 64)) : (State.retryLanes s lanes).fixed = s.fixed := by
  simp [State.retryLanes]

@[simp] theorem State.drop_fixed (s : State) (p : Packet) (f : Nat → Fld) : (State.drop s p f).fixed = s.fixed := by
  simp [State.drop]

@[simp] theorem State.refuse_fixed (s : State) (n : Nat) (psn : Nat) (syn : Nat) (v : Verb) : (State.refuse s n psn syn v).fixed = s.fixed := by
  unfold State.refuse
  split <;> simp

@[simp] theorem State.rnr_fixed (s : State) (n : Nat) (psn : Nat) (syn : Nat) (v : Verb) : (State.rnr s n psn syn v).fixed = s.fixed := by
  simp [State.rnr]

@[simp] theorem State.notePark_fixed (s : State) : (State.notePark s).fixed = s.fixed := by
  simp [State.notePark]

@[simp] theorem State.raiseCopies_fixed (s : State) (parts : List (Nat × Nat)) : (State.raiseCopies s parts).fixed = s.fixed := by
  simp [State.raiseCopies]

@[simp] theorem State.park_fixed (s : State) (n : Nat) (m : Msg) (put : State → Msg → State) (hput : ∀ (u : State) (a1 : Msg), (put u a1).fixed = u.fixed) : (State.park s n m put).fixed = s.fixed := by
  simp [State.park, hput]

@[simp] theorem State.setMsg_fixed (s : State) (n : Nat) (m : Msg) : (State.setMsg s n m).fixed = s.fixed := by
  simp [State.setMsg]

@[simp] theorem State.forwardReady_fixed (s : State) (n : Nat) : (State.forwardReady s n).fixed = s.fixed := by
  unfold State.forwardReady
  (repeat' split) <;> simp

@[simp] theorem State.accept_fixed (s : State) (n : Nat) (m : Msg) : (State.accept s n m).fixed = s.fixed := by
  simp [State.accept]

@[simp] theorem State.sampleRest_fixed (s : State) (m : Msg) : (State.sampleRest s m).fixed = s.fixed := by
  unfold State.sampleRest
  split <;> simp

@[simp] theorem State.putMsg_fixed (s : State) (n : Nat) (m : Msg) : (State.putMsg s n m).fixed = s.fixed := by
  simp [State.putMsg]

@[simp] theorem State.retryPark_fixed (s : State) (p : Nat × Nat) : (State.retryPark s p).fixed = s.fixed := by
  unfold State.retryPark
  (repeat' split) <;> simp

@[simp] theorem State.retryParks_fixed (s : State) : (State.retryParks s).fixed = s.fixed := by
  simp [State.retryParks]

@[simp] theorem State.meet_fixed (s : State) (line : Option Nat) : (State.meet s line).fixed = s.fixed := by
  unfold State.meet
  split <;> simp

@[simp] theorem State.takeHand_fixed (s : State) (n : Nat) (m : Msg) : (State.takeHand s n m).1.fixed = s.fixed := by
  simp [State.takeHand]

@[simp] theorem State.receiveData_fixed (s : State) (n : Nat) (m : Msg) (p : Packet) (done : Bool) : (State.receiveData s n m p done).fixed = s.fixed := by
  unfold State.receiveData
  dsimp only
  (repeat' split) <;> simp -implicitDefEqProofs

@[simp] theorem State.receiveRequest_fixed (s : State) (n : Nat) (m : Msg) (k : Nat) : (State.receiveRequest s n m k).fixed = s.fixed := by
  unfold State.receiveRequest
  dsimp only
  (repeat' split) <;> simp -implicitDefEqProofs

@[simp] theorem State.startSend_fixed (s : State) (n : Nat) (q : Qp) (p : Packet) (pos : Pos) : (State.startSend s n q p pos).fixed = s.fixed := by
  unfold State.startSend
  dsimp only
  (repeat' split) <;> simp -implicitDefEqProofs

@[simp] theorem State.startWrite_fixed (s : State) (n : Nat) (q : Qp) (p : Packet) (v : Verb) (pos : Pos) (r : Reth) : (State.startWrite s n q p v pos r).fixed = s.fixed := by
  unfold State.startWrite
  dsimp only
  split
  · simp
  · split
    · simp
      (repeat' split) <;> simp
    · simp
      (repeat' split) <;> simp

@[simp] theorem State.startOther_fixed (s : State) (n : Nat) (q : Qp) (p : Packet) (v : Verb) (r : Reth) (dup : Bool) : (State.startOther s n q p v r dup).fixed = s.fixed := by
  unfold State.startOther
  dsimp only
  split
  · simp
  · split
    · simp
    · split
      · simp
      · split
        · simp
        · split
          · simp
            (repeat' split) <;> simp
          · simp
            (repeat' split) <;> simp

@[simp] theorem State.continueMsg_fixed (s : State) (n : Nat) (m : Msg) (p : Packet) (v : Verb) (pos : Pos) : (State.continueMsg s n m p v pos).fixed = s.fixed := by
  unfold State.continueMsg
  dsimp only
  (repeat' split) <;> simp -implicitDefEqProofs

@[simp] theorem State.resend_fixed (s : State) (n : Nat) (m : Msg) (p : Packet) (pos : Pos) : (State.resend s n m p pos).fixed = s.fixed := by
  simp [State.resend]

@[simp] theorem State.inOrder_fixed (s : State) (n : Nat) (p : Packet) : (State.inOrder s n p).fixed = s.fixed := by
  have hrep : (if ((s.qpAt n).bind (·.replace)).isSome then s.endReplace n false else s).fixed = s.fixed := by split <;> simp
  unfold State.inOrder
  dsimp only
  split
  · simp [hrep]
  · (repeat' split) <;> simp [hrep]

@[simp] theorem State.duplicate_fixed (s : State) (n : Nat) (p : Packet) : (State.duplicate s n p).fixed = s.fixed := by
  simp only [State.duplicate]
  (repeat' split) <;> simp -implicitDefEqProofs

@[simp] theorem State.t6_fixed (s : State) (n : Nat) (q : Qp) (p : Packet) : (State.t6 s n q p).fixed = s.fixed := by
  simp [State.t6]

@[simp] theorem State.echo_fixed (s : State) (n : Nat) (p : Packet) : (State.echo s n p).fixed = s.fixed := by
  unfold State.echo
  split <;> simp

@[simp] theorem State.ptpReceive_fixed (s : State) (lport : Nat) (m : PtpMsg) (protected_ : Bool) : (State.ptpReceive s lport m protected_).fixed = s.fixed := by
  simp [State.ptpReceive]

@[simp] theorem State.slide_fixed (s : State) (p : Packet) : (State.slide s p).fixed = s.fixed := by
  unfold State.slide
  split <;> simp

@[simp] theorem State.resendReqs_fixed (s : State) (n : Nat) (l : List Req) : (State.resendReqs s n l).fixed = s.fixed := by
  simp [State.resendReqs]

@[simp] theorem State.retryReqs_fixed (s : State) (n : Nat) : (State.retryReqs s n).fixed = s.fixed := by
  unfold State.retryReqs
  (repeat' split) <;> simp

@[simp] theorem State.takeNak_fixed (s : State) (n : Nat) (q : Qp) (p : Packet) : (State.takeNak s n q p).fixed = s.fixed := by
  simp [State.takeNak]

@[simp] theorem State.udSend_fixed (s : State) (n : Nat) (q : Qp) (p : Packet) : (State.udSend s n q p).fixed = s.fixed := by
  simp [State.udSend]

@[simp] theorem State.t4_fixed (s : State) (n : Nat) (q : Qp) (p : Packet) (deliver : State → MgmtFrame → State) (hdeliver : ∀ (u : State) (a1 : MgmtFrame), (deliver u a1).fixed = u.fixed) : (State.t4 s n q p deliver).fixed = s.fixed := by
  unfold State.t4
  (repeat' split) <;> simp [hdeliver]

@[simp] theorem State.route_fixed (s : State) (p : Packet) (deliver : State → MgmtFrame → State) (hdeliver : ∀ (u : State) (a1 : MgmtFrame), (deliver u a1).fixed = u.fixed) : (State.route s p deliver).fixed = s.fixed := by
  unfold State.route
  dsimp only
  (repeat' split) <;> simp -implicitDefEqProofs [hdeliver]

@[simp] theorem State.doPacket_fixed (s : State) (p : Packet) (deliver : State → MgmtFrame → State) (hdeliver : ∀ (u : State) (a1 : MgmtFrame), (deliver u a1).fixed = u.fixed) : (State.doPacket s p deliver).fixed = s.fixed := by
  have hdual : ∀ o : Option Bool, (match o with
      | some true => s.dual .retryAgrees p.lane
      | some false => s.dual .retryDiffers p.lane
      | none => s).fixed = s.fixed := fun o => by split <;> simp
  unfold State.doPacket
  extract_lets u v
  have hu : u.fixed = s.fixed := hdual _
  have hv : v.fixed = s.fixed := (State.slide_fixed _ _).trans hu
  split
  · simp [hu]
  · split
    · simp [hv]
    · split
      · simp [hv]
      · split
        · exact hv
        · rename_i h
          simp [State.route_fixed, hdeliver, State.takeChain_fixed _ _ _ _ _ h, hv]

@[simp] theorem State.queueRead_fixed (s : State) (n : Nat) (q : Qp) (m : Msg) (data : List Byte) : (State.queueRead s n q m data).fixed = s.fixed := by
  simp [State.queueRead]

@[simp] theorem State.prefetch_fixed (s : State) (n : Nat) (line : Nat) : (State.prefetch s n line).fixed = s.fixed := by
  simp [State.prefetch]

@[simp] theorem State.missesOf_fixed (s : State) (n : Nat) (p : Nat × Nat) : (State.missesOf s n p).fixed = s.fixed := by
  simp [State.missesOf]

@[simp] theorem State.loadFor_fixed (s : State) (n : Nat) (p : Nat × Nat) : (State.loadFor s n p).fixed = s.fixed := by
  simp [State.loadFor]

@[simp] theorem State.storeFor_fixed (s : State) (n : Nat) (parts : List (Nat × Nat)) (data : List Byte) : (State.storeFor s n parts data).fixed = s.fixed := by
  simp [State.storeFor]

@[simp] theorem State.setCommitted_fixed (s : State) (n : Nat) (m : Msg) : (State.setCommitted s n m).fixed = s.fixed := by
  simp [State.setCommitted]

@[simp] theorem State.afterCommit_fixed (s : State) (n : Nat) (m : Msg) : (State.afterCommit s n m).fixed = s.fixed := by
  unfold State.afterCommit
  extract_lets u v tiles
  have hu : u.fixed = s.fixed := by simp only [u]; split <;> simp
  have hv : v.fixed = s.fixed := by simp [v, hu]
  dsimp only
  split <;> simp [hv]

@[simp] theorem State.apply_fixed (s : State) (n : Nat) (q : Qp) (m : Msg) (before : List Msg) : (State.apply s n q m before).fixed = s.fixed := by
  unfold State.apply
  dsimp only
  (repeat' split) <;> simp -implicitDefEqProofs

@[simp] theorem State.doCommit_fixed (s : State) (n : Nat) (psn : Nat) (rd : CommitRead) : (State.doCommit s n psn rd).fixed = s.fixed := by
  unfold State.doCommit
  (repeat' split) <;> simp

@[simp] theorem State.doAckIdle_fixed (s : State) (n : Nat) : (State.doAckIdle s n).fixed = s.fixed := by
  unfold State.doAckIdle
  split <;> simp

@[simp] theorem State.doAckMsgs_fixed (s : State) (n : Nat) : (State.doAckMsgs s n).fixed = s.fixed := by
  unfold State.doAckMsgs
  split <;> simp

@[simp] theorem State.doRnrExpire_fixed (s : State) (n : Nat) (psn : Nat) : (State.doRnrExpire s n psn).fixed = s.fixed := by
  unfold State.doRnrExpire
  (repeat' split) <;> simp

@[simp] theorem State.doSeqReplace_fixed (s : State) (n : Nat) : (State.doSeqReplace s n).fixed = s.fixed := by
  unfold State.doSeqReplace
  (repeat' split) <;> simp

@[simp] theorem State.doRetryTimeout_fixed (s : State) (n : Nat) : (State.doRetryTimeout s n).fixed = s.fixed := by
  unfold State.doRetryTimeout
  split <;> simp

@[simp] theorem State.doCnp_fixed (s : State) (n : Nat) : (State.doCnp s n).fixed = s.fixed := by
  unfold State.doCnp
  split <;> simp

@[simp] theorem State.doRate_fixed (s : State) (n : Nat) : (State.doRate s n).fixed = s.fixed := by
  unfold State.doRate
  split <;> simp

@[simp] theorem State.doPause_fixed (s : State) (port : Nat) (prio : Nat) (quanta : Nat) : (State.doPause s port prio quanta).fixed = s.fixed := by
  simp [State.doPause]

@[simp] theorem State.readSent_fixed (s : State) (n : Nat) (psn : Nat) : (State.readSent s n psn).fixed = s.fixed := by
  unfold State.readSent
  (repeat' split) <;> simp

@[simp] theorem State.noteSent_fixed (s : State) (n : Nat) (w : Wire) : (State.noteSent s n w).fixed = s.fixed := by
  simp [State.noteSent]

@[simp] theorem State.unsent_fixed (s : State) (t : Tx) (q : Qp) : (State.unsent s t q).fixed = s.fixed := by
  unfold State.unsent
  split <;> simp

end Sys2Proof.Machine
end

section
set_option Elab.async false
/-! PROOFS. The functions of the pair, the flash tier and Tailor: each leaves the queue, the part and the fuses as they were (`State.fixed`). -/

namespace Sys2Proof.Machine

@[simp] theorem State.sendMqp_fixed (s : State) (q : Qp) (o : Out) (d : Dual) (lane : Nat) : (State.sendMqp s q o d lane).fixed = s.fixed := by
  simp [State.sendMqp]

@[simp] theorem State.doTransmit_fixed (s : State) (lport : Nat) (d : Dual) (lane : Nat) : (State.doTransmit s lport d lane).fixed = s.fixed := by
  unfold State.doTransmit
  (repeat' split) <;> simp

@[simp] theorem State.arrive_fixed (s : State) (c : GateCmd) : (State.arrive s c).fixed = s.fixed := by
  simp [State.arrive]

@[simp] theorem State.deliverFrame_fixed (s : State) (src : Source) (f : MgmtFrame) : (State.deliverFrame s src f).fixed = s.fixed := by
  unfold State.deliverFrame
  dsimp only
  split <;> simp -implicitDefEqProofs

@[simp] theorem State.deliverWrite_fixed (s : State) (c : GateCmd) : (State.deliverWrite s c).fixed = s.fixed := by
  unfold State.deliverWrite
  split <;> simp

@[simp] theorem State.doArrive_fixed (s : State) (c : GateCmd) : (State.doArrive s c).fixed = s.fixed := by
  simp [State.doArrive]

@[simp] theorem State.grant_fixed (s : State) (c : GateCmd) (t : Nat) : (State.grant s c t).fixed = s.fixed := by
  simp [State.grant]

@[simp] theorem State.lose_fixed (s : State) (c : GateCmd) (w : GateCmd) : (State.lose s c w).fixed = s.fixed := by
  simp [State.lose]

@[simp] theorem State.decideWindow_fixed (s : State) (x1 : List (GateCmd × Nat)) (x2 : List GateCmd) : (State.decideWindow s x1 x2).fixed = s.fixed := by
  induction x1 generalizing s x2 with
  | nil => rfl
  | cons p l ih => unfold State.decideWindow; split <;> simp [ih]

@[simp] theorem State.openNext_fixed (s : State) : (State.openNext s).fixed = s.fixed := by
  simp [State.openNext]

@[simp] theorem State.doWindowClose_fixed (s : State) : (State.doWindowClose s).fixed = s.fixed := by
  simp [State.doWindowClose]

@[simp] theorem State.recordStall_fixed (s : State) (c : BitVec 16) : (State.recordStall s c).fixed = s.fixed := by
  unfold State.recordStall
  dsimp only
  split <;> simp -implicitDefEqProofs

@[simp] theorem State.watch_fixed (s : State) : (State.watch s).fixed = s.fixed := by
  simp [State.watch]

@[simp] theorem State.doWeftStall_fixed (s : State) (c : BitVec 16) (waitUs : Nat) : (State.doWeftStall s c waitUs).fixed = s.fixed := by
  simp [State.doWeftStall]

@[simp] theorem State.doAllocate_fixed (s : State) (o : Nat) (prio : Nat) : (State.doAllocate s o prio).fixed = s.fixed := by
  simp [State.doAllocate]

@[simp] theorem State.doFree_fixed (s : State) (i : Nat) (issuer : Nat) (gen : Nat) : (State.doFree s i issuer gen).fixed = s.fixed := by
  simp [State.doFree]

@[simp] theorem State.doReclaim_fixed (s : State) (e : Nat) : (State.doReclaim s e).fixed = s.fixed := by
  simp [State.doReclaim]

@[simp] theorem State.receive_fixed (s : State) (p : Packet) : (State.receive s p).fixed = s.fixed := by
  simp [State.receive]

@[simp] theorem State.putDomain_fixed (s : State) (pd : Nat) (rq : Nat) (qq : Nat) (slot : Nat) : (State.putDomain s pd rq qq slot).fixed = s.fixed := by
  simp [State.putDomain]

@[simp] theorem State.dropDomain_fixed (s : State) (pd : Nat) : (State.dropDomain s pd).fixed = s.fixed := by
  simp [State.dropDomain]

@[simp] theorem State.putRegion_fixed (s : State) (a : RegArgs) (key : Nat) : (State.putRegion s a key).fixed = s.fixed := by
  simp [State.putRegion]

@[simp] theorem State.forfeitEntry_fixed (s : State) (n : Nat) (e : RecvEntry) : (State.forfeitEntry s n e).fixed = s.fixed := by
  unfold State.forfeitEntry
  split <;> simp

@[simp] theorem State.closeParked_fixed (s : State) (i : Nat) : (State.closeParked s i).fixed = s.fixed := by
  unfold State.closeParked
  refine fixed_foldl (fun u p => ?_) _ _
  (repeat' split) <;> simp

@[simp] theorem State.closeRegion_fixed (s : State) (i : Nat) (h : Hdr) : (State.closeRegion s i h).fixed = s.fixed := by
  simp [State.closeRegion]

@[simp] theorem State.freeRegion_fixed (s : State) (i : Nat) : (State.freeRegion s i).fixed = s.fixed := by
  unfold State.freeRegion
  dsimp only
  (repeat' split) <;> simp -implicitDefEqProofs

@[simp] theorem State.doDrainDone_fixed (s : State) (i : Nat) : (State.doDrainDone s i).fixed = s.fixed := by
  unfold State.doDrainDone
  dsimp only
  (repeat' split) <;> simp -implicitDefEqProofs

@[simp] theorem State.twinDrained_fixed (s : State) (i : Nat) : (State.twinDrained s i).fixed = s.fixed := by
  simp [State.twinDrained]

@[simp] theorem State.reopen_fixed (s : State) (i : Nat) (st : Status) : (State.reopen s i st).fixed = s.fixed := by
  unfold State.reopen
  dsimp only
  split <;> simp -implicitDefEqProofs

@[simp] theorem State.abandonPicked_fixed (s : State) (i : Nat) (n : Nat) (pick : Msg → Bool) : (State.abandonPicked s i n pick).fixed = s.fixed := by
  unfold State.abandonPicked
  split <;> simp

@[simp] theorem State.abandonQp_fixed (s : State) (i : Nat) (n : Nat) : (State.abandonQp s i n).fixed = s.fixed := by
  simp [State.abandonQp]

@[simp] theorem State.dropWaiting_fixed (s : State) (i : Nat) : (State.dropWaiting s i).fixed = s.fixed := by
  simp [State.dropWaiting]

@[simp] theorem State.doDrainDeadline_fixed (s : State) (i : Nat) : (State.doDrainDeadline s i).fixed = s.fixed := by
  simp [State.doDrainDeadline]

@[simp] theorem State.syncRegion_fixed (s : State) (i : Nat) : (State.syncRegion s i).fixed = s.fixed := by
  simp [State.syncRegion]

@[simp] theorem State.repairRegion_fixed (s : State) (i : Nat) : (State.repairRegion s i).fixed = s.fixed := by
  simp [State.repairRegion]

@[simp] theorem State.writeTable_fixed (s : State) (addr : Nat) (entries : List (BitVec 64)) : (State.writeTable s addr entries).fixed = s.fixed := by
  simp [State.writeTable]

@[simp] theorem State.putQp_fixed (s : State) (n : Nat) (rc : Bool) (host : Bool) (cq : Option CqDef) : (State.putQp s n rc host cq).fixed = s.fixed := by
  simp [State.putQp]

@[simp] theorem State.resetQp_fixed (s : State) (n : Nat) : (State.resetQp s n).fixed = s.fixed := by
  unfold State.resetQp
  split <;> simp

@[simp] theorem State.applyModify_fixed (s : State) (n : Nat) (q : Qp) (dst : QpState) (a : QpAttrs) : (State.applyModify s n q dst a).fixed = s.fixed := by
  unfold State.applyModify
  split <;> simp

@[simp] theorem State.modifyQp_fixed (s : State) (n : Nat) (dst : QpState) (a : QpAttrs) : (State.modifyQp s n dst a).fixed = s.fixed := by
  unfold State.modifyQp
  split <;> simp

@[simp] theorem State.dropQp_fixed (s : State) (n : Nat) : (State.dropQp s n).fixed = s.fixed := by
  simp [State.dropQp]

@[simp] theorem State.putReceive_fixed (s : State) (srq : Bool) (i : Nat) (e : RecvEntry) : (State.putReceive s srq i e).fixed = s.fixed := by
  simp [State.putReceive]

@[simp] theorem State.putSrq_fixed (s : State) (i : Nat) (pd : Nat) (cq : CqDef) : (State.putSrq s i pd cq).fixed = s.fixed := by
  simp [State.putSrq]

@[simp] theorem State.doFence_fixed (s : State) (h : Hdr) (e : Nat) : (State.doFence s h e).fixed = s.fixed := by
  simp [State.doFence]

@[simp] theorem State.doTest_fixed (s : State) (h : Hdr) (e : Nat) : (State.doTest s h e).fixed = s.fixed := by
  simp -implicitDefEqProofs [State.doTest]

@[simp] theorem State.doSelfTest_fixed (s : State) (e : Nat) (pass : Bool) : (State.doSelfTest s e pass).fixed = s.fixed := by
  unfold State.doSelfTest
  dsimp only
  (repeat' split) <;> simp -implicitDefEqProofs

@[simp] theorem State.doRejoin_fixed (s : State) (h : Hdr) (e : Nat) : (State.doRejoin s h e).fixed = s.fixed := by
  simp [State.doRejoin]

@[simp] theorem State.doQpMove_fixed (s : State) (n : Nat) (dest : Nat) : (State.doQpMove s n dest).fixed = s.fixed := by
  unfold State.doQpMove
  split <;> simp

@[simp] theorem State.planMoves_fixed (s : State) (pct : Nat) (b : Nat) (loads : List (Nat × Nat)) (but : List Nat) (x5 : Nat) : (State.planMoves s pct b loads but x5).fixed = s.fixed := by
  induction x5 generalizing s loads but with
  | zero => rfl
  | succ k ih => unfold State.planMoves; dsimp only; (repeat' split) <;> simp [ih]

@[simp] theorem State.doRebalance_fixed (s : State) : (State.doRebalance s).fixed = s.fixed := by
  simp [State.doRebalance]

@[simp] theorem State.doPassOver_fixed (s : State) (n : Nat) : (State.doPassOver s n).fixed = s.fixed := by
  unfold State.doPassOver
  dsimp only
  (repeat' split) <;> simp -implicitDefEqProofs

@[simp] theorem State.seeClaim_fixed (s : State) (e : Nat) : (State.seeClaim s e).fixed = s.fixed := by
  simp [State.seeClaim]

@[simp] theorem State.sendTack_fixed (s : State) (type : Nat) : (State.sendTack s type).fixed = s.fixed := by
  simp [State.sendTack]

@[simp] theorem State.adoptAll_fixed (s : State) : (State.adoptAll s).fixed = s.fixed := by
  simp [State.adoptAll]

@[simp] theorem State.seize_fixed (s : State) : (State.seize s).fixed = s.fixed := by
  simp [State.seize]

@[simp] theorem State.beginResync_fixed (s : State) (lead : Bool) (full : Bool) : (State.beginResync s lead full).fixed = s.fixed := by
  simp [State.beginResync]

@[simp] theorem State.startLead_fixed (s : State) (p : Peer) : (State.startLead s p).fixed = s.fixed := by
  simp [State.startLead]

@[simp] theorem State.forgetShared_fixed (s : State) : (State.forgetShared s).fixed = s.fixed := by
  simp [State.forgetShared]

@[simp] theorem State.startFollow_fixed (s : State) (p : Peer) : (State.startFollow s p).fixed = s.fixed := by
  simp [State.startFollow]

@[simp] theorem State.cutOver_fixed (s : State) : (State.cutOver s).fixed = s.fixed := by
  simp -implicitDefEqProofs [State.cutOver]

@[simp] theorem State.consider_fixed (s : State) : (State.consider s).fixed = s.fixed := by
  unfold State.consider
  split <;> simp

@[simp] theorem State.twinWorse_fixed (s : State) : (State.twinWorse s).fixed = s.fixed := by
  simp [State.twinWorse]

@[simp] theorem State.twinBetter_fixed (s : State) : (State.twinBetter s).fixed = s.fixed := by
  simp [State.twinBetter]

@[simp] theorem State.reviewTwin_fixed (s : State) : (State.reviewTwin s).fixed = s.fixed := by
  simp -implicitDefEqProofs [State.reviewTwin]

@[simp] theorem State.heard_fixed (s : State) (p : Peer) : (State.heard s p).fixed = s.fixed := by
  simp [State.heard]

@[simp] theorem State.doBeatSend_fixed (s : State) (l : Nat) : (State.doBeatSend s l).fixed = s.fixed := by
  simp [State.doBeatSend]

@[simp] theorem State.measureRtt_fixed (s : State) (l : Nat) (b : Beat) : (State.measureRtt s l b).fixed = s.fixed := by
  simp [State.measureRtt]

@[simp] theorem State.gotFrames_fixed (s : State) (l : Nat) (seq : Nat) (n : Nat) (ack : Nat) : (State.gotFrames s l seq n ack).fixed = s.fixed := by
  simp [State.gotFrames]

@[simp] theorem State.doBeatReceive_fixed (s : State) (l : Nat) (b : Beat) : (State.doBeatReceive s l b).fixed = s.fixed := by
  simp [State.doBeatReceive]

@[simp] theorem State.tackIn_fixed (s : State) (t : TackId) (k : State → State) (hk : ∀ (u : State), (k u).fixed = u.fixed) : (State.tackIn s t k).fixed = s.fixed := by
  simp [State.tackIn, hk]

@[simp] theorem State.doTackReceive_fixed (s : State) (b : TackBeat) : (State.doTackReceive s b).fixed = s.fixed := by
  simp [State.doTackReceive]

@[simp] theorem State.doLinkUp_fixed (s : State) (l : Nat) : (State.doLinkUp s l).fixed = s.fixed := by
  simp [State.doLinkUp]

@[simp] theorem State.doLinkDown_fixed (s : State) (l : Nat) : (State.doLinkDown s l).fixed = s.fixed := by
  simp [State.doLinkDown]

@[simp] theorem State.doReplay_fixed (s : State) (l : Nat) : (State.doReplay s l).fixed = s.fixed := by
  simp [State.doReplay]

@[simp] theorem State.doFrameDiscard_fixed (s : State) (x1 : Nat) (kind : Nat) : (State.doFrameDiscard s x1 kind).fixed = s.fixed := by
  simp [State.doFrameDiscard]

@[simp] theorem State.doPathLost_fixed (s : State) (p : Path) : (State.doPathLost s p).fixed = s.fixed := by
  unfold State.doPathLost
  split <;> simp

@[simp] theorem State.linkFrame_fixed (s : State) (h : SeamHdr) (k : State → State) (hk : ∀ (u : State), (k u).fixed = u.fixed) : (State.linkFrame s h k).fixed = s.fixed := by
  simp [State.linkFrame, hk]

@[simp] theorem State.doDepart_fixed (s : State) (n : Notice) : (State.doDepart s n).fixed = s.fixed := by
  unfold State.doDepart
  split <;> simp

@[simp] theorem State.doYield_fixed (s : State) (t : TackId) : (State.doYield s t).fixed = s.fixed := by
  simp [State.doYield]

@[simp] theorem State.doPairWait_fixed (s : State) : (State.doPairWait s).fixed = s.fixed := by
  simp [State.doPairWait]

@[simp] theorem State.doWitness_fixed (s : State) : (State.doWitness s).fixed = s.fixed := by
  simp [State.doWitness]

@[simp] theorem State.doWitnessToken_fixed (s : State) (h : Hdr) (t : WitToken) : (State.doWitnessToken s h t).fixed = s.fixed := by
  simp [State.doWitnessToken]

@[simp] theorem State.announceOn_fixed (s : State) (l : Nat) (v6 : Bool) (addr : Nat) : (State.announceOn s l v6 addr).fixed = s.fixed := by
  simp [State.announceOn]

@[simp] theorem State.announceAll_fixed (s : State) (l : Nat) (unit : Bool) : (State.announceAll s l unit).fixed = s.fixed := by
  simp [State.announceAll]

@[simp] theorem State.countAnnounce_fixed (s : State) (k : Nat) (n : Nat) : (State.countAnnounce s k n).fixed = s.fixed := by
  simp [State.countAnnounce]

@[simp] theorem State.doAnnounce_fixed (s : State) (l : Nat) : (State.doAnnounce s l).fixed = s.fixed := by
  unfold State.doAnnounce
  split <;> simp

@[simp] theorem State.frameIn_fixed (s : State) (h : SeamHdr) (gated : Bool) (stale : State → State) (k : State → State) (hstale : ∀ (u : State), (stale u).fixed = u.fixed) (hk : ∀ (u : State), (k u).fixed = u.fixed) : (State.frameIn s h gated stale k).fixed = s.fixed := by
  simp [State.frameIn, hstale, hk]

@[simp] theorem State.applyOp_fixed (s : State) (op : SeamOp) (result : Option (BitVec 64)) (stamp : Nat) : (State.applyOp s op result stamp).1.fixed = s.fixed := by
  unfold State.applyOp
  split <;> simp

@[simp] theorem State.noteRemote_fixed (s : State) (m : SeamMsg) (result : Option (BitVec 64)) : (State.noteRemote s m result).fixed = s.fixed := by
  unfold State.noteRemote
  split <;> simp

@[simp] theorem State.refuseFwd_fixed (s : State) (n : Nat) (psn : Nat) (syn : Nat) : (State.refuseFwd s n psn syn).fixed = s.fixed := by
  simp [State.refuseFwd]

@[simp] theorem State.commitFwd_fixed (s : State) (h : SeamHdr) (m : SeamMsg) (rd : CommitRead) : (State.commitFwd s h m rd).fixed = s.fixed := by
  unfold State.commitFwd
  dsimp only
  (repeat' split) <;> simp -implicitDefEqProofs

@[simp] theorem State.retryForwards_fixed (s : State) : (State.retryForwards s).fixed = s.fixed := by
  simp [State.retryForwards]

@[simp] theorem State.doFwd_fixed (s : State) (h : SeamHdr) (m : SeamMsg) (rd : CommitRead) : (State.doFwd s h m rd).fixed = s.fixed := by
  simp [State.doFwd]

@[simp] theorem State.returned_fixed (s : State) (m : SeamMsg) (done : Bool) (result : Option (BitVec 64)) (pub : Option (Nat × Nat)) (awaits : List Nat) (now : Bool) : (State.returned s m done result pub awaits now).fixed = s.fixed := by
  unfold State.returned
  (repeat' split) <;> simp

@[simp] theorem State.expectCopy_fixed (s : State) (t : Nat) : (State.expectCopy s t).fixed = s.fixed := by
  simp [State.expectCopy]

@[simp] theorem State.broughtOne_fixed (s : State) (t : Nat) (n : Nat) : (State.broughtOne s t n).fixed = s.fixed := by
  unfold State.broughtOne
  split <;> simp

@[simp] theorem State.brought_fixed (s : State) (t : Nat) : (State.brought s t).fixed = s.fixed := by
  simp [State.brought]

@[simp] theorem State.homeCopy_fixed (s : State) (t : Nat) (key : Nat) : (State.homeCopy s t key).1.fixed = s.fixed := by
  have hask : ∀ {u g}, s.askHome t = (u, g) → u.fixed = s.fixed := fun h => (fixed_of_pair h).trans (by simp)
  unfold State.homeCopy
  split
  · rfl
  · split <;> rename_i h
    · dsimp only
      split <;> simp [hask h]
    · simp [hask h]

@[simp] theorem State.copyArrived_fixed (s : State) (t : Nat) : (State.copyArrived s t).fixed = s.fixed := by
  simp [State.copyArrived]

@[simp] theorem State.applyCopy_fixed (s : State) (q : Nat) (t : Nat) (i : Nat) (data : List Byte) (key : Nat) : (State.applyCopy s q t i data key).1.fixed = s.fixed := by
  unfold State.applyCopy
  dsimp only
  (repeat' split) <;> simp -implicitDefEqProofs

@[simp] theorem State.applyMirror_fixed (s : State) (q : Nat) (h : SeamHdr) (m : SeamMsg) : (State.applyMirror s q h m).1.fixed = s.fixed := by
  unfold State.applyMirror
  dsimp only
  (repeat' split) <;> simp -implicitDefEqProofs

@[simp] theorem State.applyEarly_fixed (s : State) (q : Nat) (x2 : Early) : (State.applyEarly s q x2).1.fixed = s.fixed := by
  unfold State.applyEarly
  split <;> simp

@[simp] theorem State.drainN_fixed (x0 : Nat) (x1 : State) : (State.drainN x0 x1).fixed = x1.fixed := by
  induction x0 generalizing x1 with
  | zero => rfl
  | succ k ih =>
    unfold State.drainN
    dsimp only
    split
    · rfl
    · rename_i e _
      have he := State.applyEarly_fixed x1 (x1.seam.applied + 1) e
      split <;> rename_i h <;> simp_all

@[simp] theorem State.drain_fixed (s : State) : (State.drain s).fixed = s.fixed := by
  simp [State.drain]

@[simp] theorem State.orderIn_fixed (s : State) (q : Nat) (e : Early) : (State.orderIn s q e).fixed = s.fixed := by
  simp [State.orderIn]

@[simp] theorem State.doMirror_fixed (s : State) (h : SeamHdr) (m : SeamMsg) : (State.doMirror s h m).fixed = s.fixed := by
  simp [State.doMirror]

@[simp] theorem State.retryAll_fixed (s : State) : (State.retryAll s).fixed = s.fixed := by
  simp [State.retryAll]

@[simp] theorem State.afterFree_fixed (s : State) : (State.afterFree s).fixed = s.fixed := by
  simp [State.afterFree]

@[simp] theorem State.mackOk_fixed (s : State) (q : Nat) : (State.mackOk s q).fixed = s.fixed := by
  simp [State.mackOk]

@[simp] theorem State.mackRefused_fixed (s : State) (q : Nat) : (State.mackRefused s q).fixed = s.fixed := by
  unfold State.mackRefused
  (repeat' split) <;> simp

@[simp] theorem State.mackStale_fixed (s : State) : (State.mackStale s).fixed = s.fixed := by
  simp [State.mackStale]

@[simp] theorem State.abandonFwd_fixed (s : State) (n : Nat) (m : Msg) : (State.abandonFwd s n m).fixed = s.fixed := by
  simp [State.abandonFwd]

@[simp] theorem State.doMack_fixed (s : State) (h : SeamHdr) (n : Nat) (psn : Nat) (status : Nat) (syn : Nat) : (State.doMack s h n psn status syn).fixed = s.fixed := by
  unfold State.doMack
  refine State.frameIn_fixed _ _ _ _ _ (fun _ => rfl) fun u => ?_
  (repeat' split) <;> simp

@[simp] theorem State.takeMarks_fixed (s : State) (full : Bool) (ts : List Nat) : (State.takeMarks s full ts).fixed = s.fixed := by
  simp [State.takeMarks]

@[simp] theorem State.takeCopySet_fixed (s : State) (full : Bool) (ts : List Nat) : (State.takeCopySet s full ts).fixed = s.fixed := by
  simp [State.takeCopySet]

@[simp] theorem State.takeQueue_fixed (s : State) (srq : Bool) (i : Nat) (pd : Nat) (cq : Option CqDef) (written : Nat) (es : List (BitVec 64 × BitVec 32 × Nat × Nat)) : (State.takeQueue s srq i pd cq written es).fixed = s.fixed := by
  unfold State.takeQueue
  (repeat' split) <;> simp

@[simp] theorem State.takeRegion_fixed (s : State) (i : Nat) (r : Rgn) : (State.takeRegion s i r).fixed = s.fixed := by
  simp [State.takeRegion]

@[simp] theorem State.applyCtx_fixed (s : State) (u : CtxUpdate) : (State.applyCtx s u).fixed = s.fixed := by
  unfold State.applyCtx
  (repeat' split) <;> simp

@[simp] theorem State.doCtx_fixed (s : State) (h : SeamHdr) (u : CtxUpdate) : (State.doCtx s h u).fixed = s.fixed := by
  unfold State.doCtx
  refine State.frameIn_fixed _ _ _ _ _ (fun _ => rfl) fun u => ?_
  (repeat' split) <;> simp

@[simp] theorem State.doCopySend_fixed (s : State) : (State.doCopySend s).fixed = s.fixed := by
  unfold State.doCopySend
  split <;> simp

@[simp] theorem State.doCutover_fixed (s : State) : (State.doCutover s).fixed = s.fixed := by
  simp [State.doCutover]

@[simp] theorem State.doResyncDone_fixed (s : State) : (State.doResyncDone s).fixed = s.fixed := by
  simp [State.doResyncDone]

@[simp] theorem State.doGiveBack_fixed (s : State) (h : Hdr) (ns : List Nat) : (State.doGiveBack s h ns).fixed = s.fixed := by
  simp [State.doGiveBack]

@[simp] theorem State.failProgram_fixed (s : State) (t : Nat) (reloc : Bool) : (State.failProgram s t reloc).fixed = s.fixed := by
  unfold State.failProgram
  dsimp only
  split
  · simp
  · split <;> rename_i h <;> simp [fixed_of_pair h]

@[simp] theorem State.doProgram_fixed (s : State) (t : Nat) (tile : Nat) (pass : Bool) : (State.doProgram s t tile pass).fixed = s.fixed := by
  unfold State.doProgram
  split
  · rfl
  · split
    · rfl
    · split
      · split <;> rename_i h <;> simp [fixed_of_pair h]
      · simp

@[simp] theorem State.takeVictim_fixed (s : State) (t : Nat) : (State.takeVictim s t).fixed = s.fixed := by
  unfold State.takeVictim
  (repeat' split) <;> simp

@[simp] theorem State.continueGc_fixed (s : State) (t : Nat) : (State.continueGc s t).fixed = s.fixed := by
  simp [State.continueGc]

@[simp] theorem State.erased_fixed (s : State) (k : Nat) : (State.erased s k).fixed = s.fixed := by
  simp [State.erased]

@[simp] theorem State.doErase_fixed (s : State) (t : Nat) (b : Nat) (pass : Bool) : (State.doErase s t b pass).fixed = s.fixed := by
  simp [State.doErase]

@[simp] theorem State.poisonUnit_fixed (s : State) (t : Nat) (unit : Nat) : (State.poisonUnit s t unit).fixed = s.fixed := by
  simp [State.poisonUnit]

@[simp] theorem State.countReads_fixed (s : State) (k : Nat) (n : Nat) : (State.countReads s k n).fixed = s.fixed := by
  simp [State.countReads]

@[simp] theorem State.failedRead_fixed (s : State) (tile : Nat) (cw : Nat) (k : Nat) : (State.failedRead s tile cw k).1.fixed = s.fixed := by
  unfold State.failedRead
  split <;> simp

@[simp] theorem State.readCodeword_fixed (s : State) (tile : Nat) (cw : Nat) (k : Nat) (res : NandRead) : (State.readCodeword s tile cw k res).1.fixed = s.fixed := by
  unfold State.readCodeword
  split <;> simp

@[simp] theorem State.readCopy_fixed (s : State) (tile : Nat) (unit : Option Nat) (reads : List (Fin 16 × NandRead)) : (State.readCopy s tile unit reads).fixed = s.fixed := by
  unfold State.readCopy
  refine fixed_foldl (fun u c => ?_) _ _
  split <;> simp

@[simp] theorem State.doReadVerify_fixed (s : State) (t : Nat) (b : Nat) (pass : Bool) (failed : List Nat) : (State.doReadVerify s t b pass failed).fixed = s.fixed := by
  have hlive : ∀ (u : State) (p : Nat), ((u.liveAt (blockKey t b) p).elim u fun x => (u.failedRead x.1 x.2 (blockKey t b)).1).fixed = u.fixed := fun u p => by
    cases u.liveAt (blockKey t b) p <;> simp
  unfold State.doReadVerify
  dsimp only
  split
  · split <;> simp [hlive]
  · rfl

@[simp] theorem State.scanBlock_fixed (s : State) (k : Nat) (pass : Bool) : (State.scanBlock s k pass).fixed = s.fixed := by
  simp [State.scanBlock]

@[simp] theorem State.doDisturb_fixed (s : State) (t : Nat) (b : Nat) (pass : Bool) : (State.doDisturb s t b pass).fixed = s.fixed := by
  simp [State.doDisturb]

@[simp] theorem State.doPatrol_fixed (s : State) (t : Nat) (b : Nat) (pass : Bool) : (State.doPatrol s t b pass).fixed = s.fixed := by
  simp [State.doPatrol]

@[simp] theorem State.doGc_fixed (s : State) (t : Nat) : (State.doGc s t).fixed = s.fixed := by
  simp [State.doGc]

@[simp] theorem State.relocate_fixed (s : State) (key : Nat) (cw : Nat) : (State.relocate s key cw).fixed = s.fixed := by
  unfold State.relocate
  dsimp only
  split <;> rename_i h <;> simp [fixed_of_pair h]

@[simp] theorem State.doRelocate_fixed (s : State) (tile : Nat) (reads : List (Fin 16 × NandRead)) (fails : Nat) : (State.doRelocate s tile reads fails).fixed = s.fixed := by
  simp [State.doRelocate]

@[simp] theorem State.doWear_fixed (s : State) (t : Nat) : (State.doWear s t).fixed = s.fixed := by
  unfold State.doWear
  split <;> simp

@[simp] theorem State.startCkpt_fixed (s : State) : (State.startCkpt s).fixed = s.fixed := by
  simp [State.startCkpt]

@[simp] theorem State.doGibCount_fixed (s : State) : (State.doGibCount s).fixed = s.fixed := by
  simp [State.doGibCount]

@[simp] theorem State.writeSegs_fixed (s : State) : (State.writeSegs s).fixed = s.fixed := by
  simp -implicitDefEqProofs [State.writeSegs]

@[simp] theorem State.writeRoot_fixed (s : State) : (State.writeRoot s).fixed = s.fixed := by
  simp [State.writeRoot]

@[simp] theorem State.doCkptDone_fixed (s : State) (ms : Nat) (fails : List Target) : (State.doCkptDone s ms fails).fixed = s.fixed := by
  simp [State.doCkptDone]

@[simp] theorem State.loseEntry_fixed (s : State) (key : Nat) (cw : Nat) : (State.loseEntry s key cw).fixed = s.fixed := by
  unfold State.loseEntry
  dsimp only
  split
  · split
    · split <;> rename_i h <;> simp [fixed_of_pair h]
    · simp
  · simp

@[simp] theorem State.redoDemotions_fixed (s : State) (t : Nat) : (State.redoDemotions s t).fixed = s.fixed := by
  simp [State.redoDemotions]

@[simp] theorem State.doTargetFail_fixed (s : State) (t : Nat) : (State.doTargetFail s t).fixed = s.fixed := by
  simp [State.doTargetFail]

@[simp] theorem State.enterHeld_fixed (s : State) (line : Nat) (follow : Bool) : (State.enterHeld s line follow).fixed = s.fixed := by
  simp [State.enterHeld]

@[simp] theorem State.readFetched_fixed (s : State) (tile : Nat) (cw : Nat) (issued : Nat) (res : NandRead) : (State.readFetched s tile cw issued res).fixed = s.fixed := by
  unfold State.readFetched
  dsimp only
  (repeat' split) <;> simp -implicitDefEqProofs

end Sys2Proof.Machine
end

section
set_option Elab.async false
/-! PROOFS. The functions of power, persistence, integrity and shared state: each leaves the queue, the part and the fuses as they were (`State.fixed`). -/

namespace Sys2Proof.Machine

@[simp] theorem State.readSeg_fixed (s : State) (f : Fetch) : (State.readSeg s f).fixed = s.fixed := by
  simp [State.readSeg]

@[simp] theorem State.enterCodeword_fixed (s : State) (f : Fetch) (cw : Nat) : (State.enterCodeword s f cw).fixed = s.fixed := by
  simp [State.enterCodeword]

@[simp] theorem State.gotCodeword_fixed (s : State) (f : Fetch) (cw : Nat) : (State.gotCodeword s f cw).fixed = s.fixed := by
  simp [State.gotCodeword]

@[simp] theorem State.doNandRead_fixed (s : State) (tile : Nat) (cw : Nat) (res : NandRead) (d : Dual) (lane : Nat) : (State.doNandRead s tile cw res d lane).fixed = s.fixed := by
  have hfetches : ∀ (u : State) (l : List Fetch), { u with fetches := l }.fixed = u.fixed := fun _ _ => rfl
  have hread : ∀ (f : Fetch), (if f.since.isSome || f.seg then (s, true) else s.suspend ((s.homeBlockOf f.tile f.unit).getD 0 / 2 ^ 20)).1.fixed =
      s.fixed := fun f => by split <;> simp
  unfold State.doNandRead
  split
  · rfl
  · rename_i f _
    have := hread f
    split
    rename_i u reads heq
    rw [heq] at this
    split
    · simp [this]
    · split
      · exact this
      · extract_lets v
        have hv : v.fixed = s.fixed := by simp [v, this]
        split
        · refine (hfetches _ _).trans ((fixed_foldl (fun _ _ => by simp) _ _).trans ((fixed_foldl (fun w p => ?_) _ _).trans hv))
          split <;> simp
        · rename_i w _
          have hw : w.fixed = s.fixed := by
            simp only [w]
            split <;> simp [hv]
          simp [hw]

@[simp] theorem State.doHoldExpire_fixed (s : State) (tile : Nat) : (State.doHoldExpire s tile).fixed = s.fixed := by
  simp [State.doHoldExpire]

@[simp] theorem State.discardTile_fixed (s : State) (t : Nat) : (State.discardTile s t).fixed = s.fixed := by
  simp [State.discardTile]

@[simp] theorem State.discardRange_fixed (s : State) (start : Nat) (count : Nat) : (State.discardRange s start count).fixed = s.fixed := by
  simp [State.discardRange]

@[simp] theorem State.wipeBlock_fixed (s : State) (k : Nat) : (State.wipeBlock s k).fixed = s.fixed := by
  simp [State.wipeBlock]

@[simp] theorem State.putDiscard_fixed (s : State) (h : Hdr) (start : Nat) (count : Nat) (secure : Bool) : (State.putDiscard s h start count secure).fixed = s.fixed := by
  simp [State.putDiscard]

@[simp] theorem State.doSecureDone_fixed (s : State) (tag : BitVec 16) : (State.doSecureDone s tag).fixed = s.fixed := by
  unfold State.doSecureDone
  split <;> simp

@[simp] theorem State.computeCap_fixed (s : State) : (State.computeCap s).fixed = s.fixed := by
  simp [State.computeCap]

@[simp] theorem State.newEstimate_fixed (s : State) (e : Nat) : (State.newEstimate s e).fixed = s.fixed := by
  unfold State.newEstimate
  dsimp only
  split <;> simp -implicitDefEqProofs

@[simp] theorem State.countStart_fixed (s : State) (cls : Nat) (unit : Option Nat) : (State.countStart s cls unit).fixed = s.fixed := by
  simp [State.countStart]

theorem State.startDemotion_fixed (s : State) (m : Mig) : ∀ r, (State.startDemotion s m) = some r → r.fixed = s.fixed := by
  intro t ht
  unfold State.startDemotion at ht
  extract_lets x at ht
  split at ht
  · cases ht
  · split at ht
    · cases ht
    · extract_lets _ u v at ht
      have hv : v.fixed = s.fixed := by
        simp only [v]
        split
        · rfl
        · exact (State.setTile_fixed ..).trans rfl
      dsimp only at ht
      split at ht
      · cases ht
        simp [hv]
      · cases ht

theorem State.startPromotion_fixed (s : State) (m : Mig) : ∀ r, (State.startPromotion s m) = some r → r.fixed = s.fixed := by
  unfold State.startPromotion
  dsimp only
  (repeat' split) <;> simp -implicitDefEqProofs

theorem State.startWithin_fixed (s : State) (m : Mig) : ∀ r, (State.startWithin s m) = some r → r.fixed = s.fixed := by
  intro t ht
  unfold State.startWithin at ht
  split at ht
  · cases ht
  · dsimp only at ht
    split at ht
    · cases ht; simp
    · split at ht
      · split at ht
        · simpa using State.startDemotion_fixed _ _ _ ht
        · cases ht
      · cases ht

theorem State.startMove_fixed (s : State) (m : Mig) : ∀ r, (State.startMove s m) = some r → r.fixed = s.fixed := by
  intro t ht
  unfold State.startMove at ht
  split at ht
  · exact State.startWithin_fixed _ _ _ ht
  · split at ht
    · exact State.startPromotion_fixed _ _ _ ht
    · exact State.startDemotion_fixed _ _ _ ht

theorem State.startQueued_fixed (s : State) (cls : Nat) (x2 : List Mig) : ∀ r, (State.startQueued s cls x2) = some r → r.fixed = s.fixed := by
  induction x2 generalizing s with
  | nil => intro t ht; cases ht
  | cons m l ih =>
    intro t ht
    unfold State.startQueued at ht
    split at ht
    · exact ih _ _ ht
    · split at ht
      · simpa using ih _ _ ht
      · split at ht
        · exact ih _ _ ht
        · rename_i hu
          have := State.startMove_fixed _ _ _ hu
          cases ht
          split <;> simpa using this

@[simp] theorem State.endJobs_fixed (s : State) : (State.endJobs s).fixed = s.fixed := by
  simp [State.endJobs]

theorem State.startJob_fixed (s : State) (x1 : List ExtJob) : ∀ r, (State.startJob s x1) = some r → r.fixed = s.fixed := by
  induction x1 generalizing s with
  | nil => intro t ht; cases ht
  | cons j l ih =>
    intro t ht
    unfold State.startJob at ht
    split at ht
    · exact ih _ _ ht
    · rename_i heq
      obtain ⟨x, -, hx⟩ := List.exists_of_findSome?_eq_some heq
      simp only [Option.bind_eq_some_iff, Option.map_eq_some_iff] at hx
      obtain ⟨g, -, u, hu, hx⟩ := hx
      cases ht
      cases hx
      simpa using State.startMove_fixed _ _ _ hu

theorem State.startPin_fixed (s : State) : ∀ r, (State.startPin s) = some r → r.fixed = s.fixed := by
  intro t ht
  obtain ⟨i, -, hi⟩ := List.exists_of_findSome?_eq_some ht
  obtain ⟨u, -, hu⟩ := List.exists_of_findSome?_eq_some hi
  obtain ⟨g, -, hg⟩ := Option.bind_eq_some_iff.1 hu
  exact State.startMove_fixed _ _ _ hg

@[simp] theorem State.candidate_fixed (s : State) (cls : Nat) : (State.candidate s cls).1.fixed = s.fixed := by
  unfold State.candidate
  dsimp only
  (repeat' split) <;> simp -implicitDefEqProofs

theorem State.startCap_fixed (s : State) (cls : Nat) : ∀ r, (State.startCap s cls) = some r → r.fixed = s.fixed := by
  intro t ht
  unfold State.startCap at ht
  split at ht
  · cases ht
  · split at ht
    · rename_i h
      exact (State.startDemotion_fixed _ _ _ ht).trans ((fixed_of_pair h).trans (by simp))
    · cases ht

theorem State.startClass_fixed (s : State) (cls : Nat) : ∀ r, (State.startClass s cls) = some r → r.fixed = s.fixed := by
  intro t ht
  unfold State.startClass at ht
  split at ht
  · rename_i h
    cases ht
    exact State.startQueued_fixed _ _ _ _ h
  · split at ht
    · split at ht
      · exact State.startCap_fixed _ _ _ ht
      · cases ht
    · cases h : s.startJob s.tlr.jobs with
      | some u => rw [h] at ht; cases ht; exact State.startJob_fixed _ _ _ h
      | none => rw [h] at ht; exact State.startPin_fixed _ _ ht
    · split at ht
      · exact State.startCap_fixed _ _ _ ht
      · cases ht
    · cases ht

@[simp] theorem State.doMigStart_fixed (s : State) : (State.doMigStart s).fixed = s.fixed := by
  unfold State.doMigStart
  split
  · rfl
  · extract_lets _ u v
    have hv : v.fixed = s.fixed := by
      simp only [v]
      cases h : u.classes.findSome? u.startClass with
      | none => rfl
      | some w =>
        obtain ⟨c, -, hc⟩ := List.exists_of_findSome?_eq_some h
        exact (State.startClass_fixed _ _ _ hc).trans (by simp [u])
    simp [hv]

@[simp] theorem State.cleanGranule_fixed (s : State) (t : Nat) (unit : Option Nat) : (State.cleanGranule s t unit).fixed = s.fixed := by
  unfold State.cleanGranule
  dsimp only
  refine fixed_foldl (fun u l => ?_) _ _
  split <;> simp

@[simp] theorem State.freshGone_fixed (s : State) (t : Nat) (unit : Option Nat) : (State.freshGone s t unit).fixed = s.fixed := by
  unfold State.freshGone
  split <;> simp

@[simp] theorem State.countDemotion_fixed (s : State) (t : Nat) : (State.countDemotion s t).fixed = s.fixed := by
  simp [State.countDemotion]

@[simp] theorem State.splitMap_fixed (s : State) (t : Nat) : (State.splitMap s t).fixed = s.fixed := by
  unfold State.splitMap
  split <;> simp

@[simp] theorem State.unmap_fixed (s : State) (t : Nat) (unit : Option Nat) : (State.unmap s t unit).fixed = s.fixed := by
  unfold State.unmap
  split <;> simp

@[simp] theorem State.switchDown_fixed (s : State) (m : Mig) : (State.switchDown s m).fixed = s.fixed := by
  unfold State.switchDown
  split <;> simp

@[simp] theorem State.switchUp_fixed (s : State) (m : Mig) : (State.switchUp s m).fixed = s.fixed := by
  simp [State.switchUp]

@[simp] theorem State.doMigSwitch_fixed (s : State) (tile : Nat) (unit : Option Nat) (reads : List (Fin 16 × NandRead)) : (State.doMigSwitch s tile unit reads).fixed = s.fixed := by
  unfold State.doMigSwitch
  split <;> simp

@[simp] theorem State.doAge_fixed (s : State) : (State.doAge s).fixed = s.fixed := by
  simp [State.doAge]

@[simp] theorem State.mergeMap_fixed (s : State) (t : Nat) (reads : List (Fin 16 × NandRead)) (fails : Nat) : (State.mergeMap s t reads fails).fixed = s.fixed := by
  unfold State.mergeMap
  split
  · rfl
  · split
    · rfl
    · extract_lets u
      have hu : u.fixed = s.fixed := by simp [u]
      split <;> rename_i h <;> simp [fixed_of_pair h, hu]

@[simp] theorem State.doMerge_fixed (s : State) (t : Nat) (reads : List (Fin 16 × NandRead)) (fails : Nat) : (State.doMerge s t reads fails).fixed = s.fixed := by
  simp [State.doMerge]

@[simp] theorem State.doDramRebalance_fixed (s : State) (c : Nat) : (State.doDramRebalance s c).fixed = s.fixed := by
  unfold State.doDramRebalance
  dsimp only
  (repeat' split) <;> simp -implicitDefEqProofs

@[simp] theorem State.setDram_fixed (s : State) (c : Nat) (d : Dram) : (State.setDram s c d).fixed = s.fixed := by
  simp [State.setDram]

@[simp] theorem State.moveChannels_fixed (s : State) (from_ : Nat) (to_ : Nat) : (State.moveChannels s from_ to_).fixed = s.fixed := by
  simp [State.moveChannels]

@[simp] theorem State.setRails_fixed (s : State) (v : Nat) : (State.setRails s v).fixed = s.fixed := by
  simp [State.setRails]

@[simp] theorem State.latchFault_fixed (s : State) (cause : Nat) : (State.latchFault s cause).fixed = s.fixed := by
  simp -implicitDefEqProofs [State.latchFault]

@[simp] theorem State.startSequence_fixed (s : State) : (State.startSequence s).fixed = s.fixed := by
  unfold State.startSequence
  dsimp only
  split <;> simp -implicitDefEqProofs

@[simp] theorem State.railsGone_fixed (s : State) : (State.railsGone s).fixed = s.fixed := by
  unfold State.railsGone
  split <;> simp

@[simp] theorem State.dropRail_fixed (s : State) : (State.dropRail s).fixed = s.fixed := by
  simp [State.dropRail]

@[simp] theorem State.trigger_fixed (s : State) : (State.trigger s).fixed = s.fixed := by
  simp [State.trigger]

@[simp] theorem State.pressed_fixed (s : State) : (State.pressed s).fixed = s.fixed := by
  simp [State.pressed]

@[simp] theorem State.doInputGood_fixed (s : State) : (State.doInputGood s).fixed = s.fixed := by
  simp [State.doInputGood]

@[simp] theorem State.doPowerOn_fixed (s : State) : (State.doPowerOn s).fixed = s.fixed := by
  simp [State.doPowerOn]

@[simp] theorem State.doRailDelay_fixed (s : State) : (State.doRailDelay s).fixed = s.fixed := by
  unfold State.doRailDelay
  split <;> simp

@[simp] theorem State.doStretch_fixed (s : State) (n : Nat) : (State.doStretch s n).fixed = s.fixed := by
  simp [State.doStretch]

@[simp] theorem State.doVcoreStep_fixed (s : State) (tj : ℤ) : (State.doVcoreStep s tj).fixed = s.fixed := by
  simp -implicitDefEqProofs [State.doVcoreStep]

@[simp] theorem State.holdTarget_fixed (s : State) (answered : Bool) : (State.holdTarget s answered).fixed = s.fixed := by
  simp [State.holdTarget]

@[simp] theorem State.doVcoreCheck_fixed (s : State) (mv : Nat) (answered : Bool) : (State.doVcoreCheck s mv answered).fixed = s.fixed := by
  simp -implicitDefEqProofs [State.doVcoreCheck]

@[simp] theorem State.setSoc_fixed (s : State) (c : Nat) : (State.setSoc s c).fixed = s.fixed := by
  simp [State.setSoc]

@[simp] theorem State.socFrom_fixed (s : State) (mv : Nat) : (State.socFrom s mv).fixed = s.fixed := by
  simp [State.socFrom]

@[simp] theorem State.doOcvReset_fixed (s : State) : (State.doOcvReset s).fixed = s.fixed := by
  simp [State.doOcvReset]

@[simp] theorem State.doBatFull_fixed (s : State) : (State.doBatFull s).fixed = s.fixed := by
  simp [State.doBatFull]

@[simp] theorem State.coulombs_fixed (s : State) (nvs : ℤ) : (State.coulombs s nvs).fixed = s.fixed := by
  simp [State.coulombs]

@[simp] theorem State.sampleMon_fixed (s : State) (ch : Nat) (mv : Nat) : (State.sampleMon s ch mv).fixed = s.fixed := by
  simp [State.sampleMon]

@[simp] theorem State.doFenSample_fixed (s : State) (amon : List (Fin 16 × Nat)) (nvs : ℤ) (uv : ℤ) : (State.doFenSample s amon nvs uv).fixed = s.fixed := by
  simp [State.doFenSample]

@[simp] theorem State.packIs_fixed (s : State) (r : PackRead) : (State.packIs s r).fixed = s.fixed := by
  simp [State.packIs]

@[simp] theorem State.packLost_fixed (s : State) : (State.packLost s).fixed = s.fixed := by
  simp [State.packLost]

@[simp] theorem State.packAlt_fixed (s : State) (sb1 : Option PackRead) (sb0 : Option PackRead) : (State.packAlt s sb1 sb0).fixed = s.fixed := by
  unfold State.packAlt
  split <;> simp

@[simp] theorem State.doBatRead_fixed (s : State) (sb1 : Option PackRead) (sb0 : Option PackRead) : (State.doBatRead s sb1 sb0).fixed = s.fixed := by
  unfold State.doBatRead
  dsimp only
  (repeat' split) <;> simp -implicitDefEqProofs

@[simp] theorem State.challengePack_fixed (s : State) (tries : Nat) : (State.challengePack s tries).fixed = s.fixed := by
  simp [State.challengePack]

@[simp] theorem State.authFail_fixed (s : State) : (State.authFail s).fixed = s.fixed := by
  simp [State.authFail]

@[simp] theorem State.doBatAuthRead_fixed (s : State) (sigOk : Option Bool) (recOk : Bool) : (State.doBatAuthRead s sigOk recOk).fixed = s.fixed := by
  unfold State.doBatAuthRead
  (repeat' split) <;> simp

@[simp] theorem State.doBatAuthRetry_fixed (s : State) : (State.doBatAuthRetry s).fixed = s.fixed := by
  simp [State.doBatAuthRetry]

@[simp] theorem State.writeE_fixed (s : State) (e : Nat) : (State.writeE s e).fixed = s.fixed := by
  simp -implicitDefEqProofs [State.writeE]

@[simp] theorem State.setSlot_fixed (s : State) (n : Nat) (x : Slot) : (State.setSlot s n x).fixed = s.fixed := by
  simp [State.setSlot]

@[simp] theorem State.journal_fixed (s : State) (t : JType) (slot : Nat) (off : Nat) (gen : Nat) : (State.journal s t slot off gen).fixed = s.fixed := by
  simp [State.journal]

@[simp] theorem State.rollBack_fixed (s : State) (n : Nat) : (State.rollBack s n).fixed = s.fixed := by
  unfold State.rollBack
  split <;> simp

@[simp] theorem State.drainPeat_fixed (s : State) : (State.drainPeat s).fixed = s.fixed := by
  simp [State.drainPeat]

@[simp] theorem State.sendDepart_fixed (s : State) : (State.sendDepart s).fixed = s.fixed := by
  simp [State.sendDepart]

@[simp] theorem State.finishPrograms_fixed (s : State) : (State.finishPrograms s).fixed = s.fixed := by
  unfold State.finishPrograms
  refine fixed_foldl (fun u t => ?_) _ _
  split
  · split <;> rename_i h <;> simp [fixed_of_pair h]
  · rfl

@[simp] theorem State.startSave_fixed (s : State) (planned : Bool) (delta : Bool) : (State.startSave s planned delta).fixed = s.fixed := by
  simp -implicitDefEqProofs [State.startSave]

@[simp] theorem State.saveLine_fixed (s : State) (x : Nat × Dual × Fin 64) : (State.saveLine s x).fixed = s.fixed := by
  simp [State.saveLine]

@[simp] theorem State.saveFail_fixed (s : State) (off : Nat) : (State.saveFail s off).fixed = s.fixed := by
  simp [State.saveFail]

@[simp] theorem State.doPfIndication_fixed (s : State) (p : PfPath) : (State.doPfIndication s p).fixed = s.fixed := by
  simp [State.doPfIndication]

@[simp] theorem State.doPfGlitch_fixed (s : State) (p : PfPath) : (State.doPfGlitch s p).fixed = s.fixed := by
  simp [State.doPfGlitch]

@[simp] theorem State.finishRestored_fixed (s : State) (n : Nat) : (State.finishRestored s n).fixed = s.fixed := by
  unfold State.finishRestored
  split
  · rfl
  · refine (fixed_foldl (fun u m => ?_) _ _).trans (State.setQp_fixed _ _ _)
    split <;> simp

@[simp] theorem State.failQps_fixed (s : State) : (State.failQps s).fixed = s.fixed := by
  simp [State.failQps]

@[simp] theorem State.enterRestore_fixed (s : State) (slot : Nat) (img : Image) : (State.enterRestore s slot img).fixed = s.fixed := by
  simp [State.enterRestore]

@[simp] theorem State.scanChannel_fixed (s : State) (c : Fin 32 × List NandChip) : (State.scanChannel s c).fixed = s.fixed := by
  simp -implicitDefEqProofs [State.scanChannel]

@[simp] theorem State.format_fixed (s : State) (sc : NandScan) : (State.format s sc).fixed = s.fixed := by
  simp [State.format]

@[simp] theorem State.fitSlot_fixed (x0 : Nat) (x1 : State) : (State.fitSlot x0 x1).fixed = x1.fixed := by
  induction x0 generalizing x1 with
  | zero => rfl
  | succ k ih => unfold State.fitSlot; (repeat' split) <;> simp -implicitDefEqProofs [ih]

@[simp] theorem State.showQuilt_fixed (s : State) : (State.showQuilt s).fixed = s.fixed := by
  simp -implicitDefEqProofs [State.showQuilt]

@[simp] theorem State.bringNand_fixed (s : State) (sc : NandScan) : (State.bringNand s sc).fixed = s.fixed := by
  simp [State.bringNand]

@[simp] theorem State.foundTile_fixed (s : State) (e : Nat × Nat) : (State.foundTile s e).fixed = s.fixed := by
  simp [State.foundTile]

@[simp] theorem State.replay_fixed (s : State) : (State.replay s).fixed = s.fixed := by
  simp [State.replay]

@[simp] theorem State.loseImage_fixed (s : State) (bad : Nat) : (State.loseImage s bad).fixed = s.fixed := by
  simp [State.loseImage]

@[simp] theorem State.stand_fixed (s : State) : (State.stand s).fixed = s.fixed := by
  simp [State.stand]

@[simp] theorem State.discardAll_fixed (s : State) : (State.discardAll s).fixed = s.fixed := by
  simp [State.discardAll]

@[simp] theorem State.readJournal_fixed (s : State) (sc : NandScan) : (State.readJournal s sc).fixed = s.fixed := by
  simp [State.readJournal]

@[simp] theorem State.endBringup_fixed (s : State) (sc : NandScan) : (State.endBringup s sc).fixed = s.fixed := by
  unfold State.endBringup
  dsimp only
  (repeat' split) <;> simp -implicitDefEqProofs

@[simp] theorem State.doBringupComplete_fixed (s : State) (sc : NandScan) : (State.doBringupComplete s sc).fixed = s.fixed := by
  simp -implicitDefEqProofs [State.doBringupComplete]

@[simp] theorem State.doAcceptOlder_fixed (s : State) (h : Hdr) : (State.doAcceptOlder s h).fixed = s.fixed := by
  unfold State.doAcceptOlder
  (repeat' split) <;> simp

@[simp] theorem State.doDiscardImage_fixed (s : State) (h : Hdr) : (State.doDiscardImage s h).fixed = s.fixed := by
  simp [State.doDiscardImage]

@[simp] theorem State.doServe_fixed (s : State) : (State.doServe s).fixed = s.fixed := by
  simp [State.doServe]

theorem State.restoreNand_fixed (s : State) (t : Nat) : ∀ r, (State.restoreNand s t) = some r → r.fixed = s.fixed := by
  unfold State.restoreNand
  generalize (s.tile t).dramUnits = l
  suffices h : ∀ r : Option State, (∀ u, r = some u → u.fixed = s.fixed) → ∀ v, l.foldl _ r = some v → v.fixed = s.fixed from
    h (some s) (fun u hu => by cases hu; rfl)
  induction l with
  | nil => exact fun r hr v hv => hr v hv
  | cons u l ih =>
    intro r hr
    refine ih _ fun v hv => ?_
    dsimp only at hv
    split at hv
    · cases hv
    · rename_i w
      split at hv
      · cases hv
      · split at hv
        · rename_i h
          cases hv
          simp [fixed_of_pair h, hr w rfl]
        · cases hv

theorem State.placeRestored_fixed (s : State) (t : Nat) : ∀ r, (State.placeRestored s t) = some r → r.fixed = s.fixed := by
  intro u hu
  unfold State.placeRestored at hu
  split at hu
  · cases hu; rfl
  · split at hu
    · cases hu; simp
    · exact State.restoreNand_fixed _ _ _ hu

@[simp] theorem State.refuseParked_fixed (s : State) (t : Nat) : (State.refuseParked s t).fixed = s.fixed := by
  unfold State.refuseParked
  refine fixed_foldl (fun u p => ?_) _ _
  split <;> simp

@[simp] theorem State.doTilePresent_fixed (s : State) (t : Nat) (first : Altered) (second : Altered) (d : Dual) (lane : Nat) : (State.doTilePresent s t first second d lane).fixed = s.fixed := by
  unfold State.doTilePresent
  split
  · extract_lets fails u v w
    split
    · simp [u]
    · have hw : w.fixed = s.fixed := by simp [w, v, u]
      split
      · rename_i h
        have := State.placeRestored_fixed _ _ _ h
        simp [this, hw]
      · exact hw
  · rfl

@[simp] theorem State.doRelease_fixed (s : State) : (State.doRelease s).fixed = s.fixed := by
  simp [State.doRelease]

@[simp] theorem State.doSlotErase_fixed (s : State) (n : Nat) (fails : Nat) : (State.doSlotErase s n fails).fixed = s.fixed := by
  simp [State.doSlotErase]

@[simp] theorem State.doScanStart_fixed (s : State) (value : Word) : (State.doScanStart s value).fixed = s.fixed := by
  simp -implicitDefEqProofs [State.doScanStart]

@[simp] theorem State.scanLoad_fixed (s : State) (a : Nat) (n : Nat) : (State.scanLoad s a n).fixed = s.fixed := by
  simp [State.scanLoad]

@[simp] theorem State.doScanDone_fixed (s : State) : (State.doScanDone s).fixed = s.fixed := by
  unfold State.doScanDone
  (repeat' split) <;> simp

@[simp] theorem State.badContext_fixed (s : State) (h : Hdr) : (State.badContext s h).fixed = s.fixed := by
  simp [State.badContext]

@[simp] theorem State.countWrap_fixed (s : State) : (State.countWrap s).fixed = s.fixed := by
  simp [State.countWrap]

@[simp] theorem State.doContextSave_fixed (s : State) (h : Hdr) (kind : Nat) (index : Nat) (wrapped : Bool) (d : Dual) (lane : Nat) : (State.doContextSave s h kind index wrapped d lane).fixed = s.fixed := by
  unfold State.doContextSave
  (repeat' split) <;> simp

@[simp] theorem State.restoreAssoc_fixed (s : State) (b : Blob) : (State.restoreAssoc s b).fixed = s.fixed := by
  simp [State.restoreAssoc]

@[simp] theorem State.doContextRestore_fixed (s : State) (h : Hdr) (b : Blob) (d : Dual) (lane : Nat) : (State.doContextRestore s h b d lane).fixed = s.fixed := by
  simp [State.doContextRestore]

@[simp] theorem State.moveTasks_fixed (s : State) (p : Nat) : (State.moveTasks s p).fixed = s.fixed := by
  unfold State.moveTasks
  split <;> simp

@[simp] theorem State.doMismatch_fixed (s : State) (p : Nat) : (State.doMismatch s p).fixed = s.fixed := by
  simp [State.doMismatch]

@[simp] theorem State.applyShared_fixed (s : State) (h : Hdr) (vals : List Nat) (x3 : Cmd) : (State.applyShared s h vals x3).fixed = s.fixed := by
  unfold State.applyShared
  split <;> simp

@[simp] theorem State.failShared_fixed (s : State) (h : Hdr) (c : Cmd) (st : Status) : (State.failShared s h c st).fixed = s.fixed := by
  simp [State.failShared]

@[simp] theorem State.endShared_fixed (s : State) (h : Hdr) (c : Cmd) (vals : List Nat) : (State.endShared s h c vals).fixed = s.fixed := by
  unfold State.endShared
  split <;> simp

@[simp] theorem State.finishShared_fixed (s : State) (h : Hdr) (c : Cmd) (vals : List Nat) : (State.finishShared s h c vals).fixed = s.fixed := by
  simp [State.finishShared]

end Sys2Proof.Machine
end

section
set_option Elab.async false
/-! PROOFS. The functions of DRAM, the NOR, management, boot and DOZE: each leaves the queue, the part and the fuses as they were (`State.fixed`). -/

namespace Sys2Proof.Machine

@[simp] theorem State.awaitTwin_fixed (s : State) (h : Hdr) (c : Cmd) (vals : List Nat) (sent : Bool) : (State.awaitTwin s h c vals sent).fixed = s.fixed := by
  simp [State.awaitTwin]

@[simp] theorem State.sendToLead_fixed (s : State) (h : Hdr) (c : Cmd) : (State.sendToLead s h c).fixed = s.fixed := by
  simp [State.sendToLead]

@[simp] theorem State.leadCmd_fixed (s : State) (h : Hdr) (c : Cmd) (vals : List Nat) : (State.leadCmd s h c vals).fixed = s.fixed := by
  unfold State.leadCmd
  dsimp only
  split <;> simp -implicitDefEqProofs

@[simp] theorem State.leadForTwin_fixed (s : State) (h : Hdr) (c : Cmd) (vals : List Nat) : (State.leadForTwin s h c vals).fixed = s.fixed := by
  unfold State.leadForTwin
  split <;> simp

@[simp] theorem State.runShared_fixed (s : State) (h : Hdr) (c : Cmd) : (State.runShared s h c).fixed = s.fixed := by
  unfold State.runShared
  split <;> simp

@[simp] theorem State.followCmd_fixed (s : State) (f : GateCmd) (vals : List Nat) : (State.followCmd s f vals).fixed = s.fixed := by
  unfold State.followCmd
  dsimp only
  (repeat' split) <;> simp -implicitDefEqProofs

@[simp] theorem State.doCmdFrame_fixed (s : State) (h : SeamHdr) (f : MgmtFrame) (vals : List Nat) : (State.doCmdFrame s h f vals).fixed = s.fixed := by
  simp [State.doCmdFrame]

@[simp] theorem State.twinDid_fixed (s : State) (x : Shared) (vals : List Nat) : (State.twinDid s x vals).fixed = s.fixed := by
  simp [State.twinDid]

@[simp] theorem State.doCmdDone_fixed (s : State) (h : SeamHdr) (of_ : Hdr) (code : Nat) (st : Status) (vals : List Nat) : (State.doCmdDone s h of_ code st vals).fixed = s.fixed := by
  refine State.frameIn_fixed _ _ _ _ _ (fun _ => rfl) fun u => ?_
  split
  · split <;> simp
  · split
    · dsimp only
      split
      · exact (State.twinDid_fixed ..).trans rfl
      · exact (State.complete_fixed ..).trans rfl
    · rfl

@[simp] theorem State.settleOne_fixed (s : State) (x : Shared) : (State.settleOne s x).fixed = s.fixed := by
  simp [State.settleOne]

@[simp] theorem State.settleShared_fixed (s : State) : (State.settleShared s).fixed = s.fixed := by
  simp [State.settleShared]

@[simp] theorem State.doRefresh_fixed (s : State) (c : Nat) (sub : Nat) (busy : Bool) : (State.doRefresh s c sub busy).fixed = s.fixed := by
  simp [State.doRefresh]

@[simp] theorem State.refreshNeighbours_fixed (s : State) (c : Nat) (k : Nat) : (State.refreshNeighbours s c k).fixed = s.fixed := by
  simp [State.refreshNeighbours]

@[simp] theorem State.doActivate_fixed (s : State) (c : Nat) (loc : BurstLoc) (draw : Nat) : (State.doActivate s c loc draw).fixed = s.fixed := by
  simp [State.doActivate]

@[simp] theorem State.releaseHeld_fixed (s : State) (c : Nat) (p : BurstLoc → Bool) : (State.releaseHeld s c p).fixed = s.fixed := by
  simp [State.releaseHeld]

@[simp] theorem State.doRowHold_fixed (s : State) (c : Nat) (loc : BurstLoc) : (State.doRowHold s c loc).fixed = s.fixed := by
  simp [State.doRowHold]

@[simp] theorem State.driftOf_fixed (s : State) (c : Nat) (x : Fin 2 × Fin 10 × ℤ) : (State.driftOf s c x).fixed = s.fixed := by
  simp [State.driftOf]

@[simp] theorem State.reviewMark_fixed (s : State) (c : Nat) (slot : Nat) (sub : Nat) (device : Nat) : (State.reviewMark s c slot sub device).fixed = s.fixed := by
  unfold State.reviewMark
  split <;> simp

@[simp] theorem State.reviewMarks_fixed (s : State) (c : Nat) : (State.reviewMarks s c).fixed = s.fixed := by
  simp [State.reviewMarks]

@[simp] theorem State.correctable_fixed (s : State) (c : Nat) (loc : BurstLoc) (device : Nat) : (State.correctable s c loc device).fixed = s.fixed := by
  simp [State.correctable]

@[simp] theorem State.poisonTile_fixed (s : State) (t : Nat) : (State.poisonTile s t).fixed = s.fixed := by
  simp [State.poisonTile]

@[simp] theorem State.requeue_fixed (s : State) (t : Nat) : (State.requeue s t).fixed = s.fixed := by
  unfold State.requeue
  split <;> simp

@[simp] theorem State.loseLine_fixed (s : State) (line : Nat) : (State.loseLine s line).fixed = s.fixed := by
  simp [State.loseLine]

@[simp] theorem State.ueAt_fixed (s : State) (line : Option Nat) (x2 : Reader) : (State.ueAt s line x2).fixed = s.fixed := by
  unfold State.ueAt
  cases x2
  case walker | engineRead | partialMerge | saveEngine => cases line <;> simp
  case scrubber =>
    cases line with
    | none => rfl
    | some l =>
      dsimp only [Option.elim]
      (repeat' split) <;> simp
  case migration t => cases line <;> simp
  case cacheTag l =>
    dsimp only
    split <;> simp
  all_goals simp

@[simp] theorem State.readBurst_fixed (s : State) (c : Nat) (loc : BurstLoc) (beats : Beats) (who : Reader) : (State.readBurst s c loc beats who).fixed = s.fixed := by
  unfold State.readBurst
  split <;> simp

@[simp] theorem State.doReadComplete_fixed (s : State) (c : Nat) (loc : BurstLoc) (beats : Beats) (who : Reader) (ns : Nat) : (State.doReadComplete s c loc beats who ns).fixed = s.fixed := by
  simp [State.doReadComplete]

@[simp] theorem State.setReady_fixed (s : State) (c : Nat) (p : DimmPop) (d : Dimm) : (State.setReady s c p d).fixed = s.fixed := by
  simp [State.setReady]

@[simp] theorem State.chanOff_fixed (s : State) (c : Nat) : (State.chanOff s c).fixed = s.fixed := by
  simp [State.chanOff]

@[simp] theorem State.setReadyOp_fixed (s : State) (c : Nat) : (State.setReadyOp s c).fixed = s.fixed := by
  simp only [State.setReadyOp]
  (repeat' split)
  · rfl
  · simp
  · simp
  · cases ((s.dram c).spd.getD ⟨none, none⟩).slot0 <;> simp

@[simp] theorem State.writeTrn_fixed (s : State) (c : Nat) (v : Word) : (State.writeTrn s c v).fixed = s.fixed := by
  simp [State.writeTrn]

@[simp] theorem State.doSetReady_fixed (s : State) (c : Nat) (v : Word) (p : DimmPop) : (State.doSetReady s c v p).fixed = s.fixed := by
  simp [State.doSetReady]

@[simp] theorem State.laneDone_fixed (s : State) (c : Nat) (op : Nat) (x : List Nat × Nat) : (State.laneDone s c op x).fixed = s.fixed := by
  simp [State.laneDone]

@[simp] theorem State.doRunDone_fixed (s : State) (c : Nat) (lanes : List (List Nat)) : (State.doRunDone s c lanes).fixed = s.fixed := by
  unfold State.doRunDone
  split <;> simp

@[simp] theorem State.applyRecs_fixed (s : State) : (State.applyRecs s).fixed = s.fixed := by
  simp [State.applyRecs]

@[simp] theorem State.failTraining_fixed (s : State) : (State.failTraining s).fixed = s.fixed := by
  simp [State.failTraining]

@[simp] theorem State.doCarveFill_fixed (s : State) : (State.doCarveFill s).fixed = s.fixed := by
  simp [State.doCarveFill]

@[simp] theorem State.doFillLine_fixed (s : State) : (State.doFillLine s).fixed = s.fixed := by
  unfold State.doFillLine
  split
  · rfl
  · split
    · rfl
    · rename_i t _
      cases s.clearLineOf t <;> simp

@[simp] theorem State.doScrub_fixed (s : State) (c : Nat) (loc : BurstLoc) (beats : Beats) : (State.doScrub s c loc beats).fixed = s.fixed := by
  unfold State.doScrub
  split <;> simp

@[simp] theorem State.evacuate_fixed (s : State) (t : Nat) : (State.evacuate s t).fixed = s.fixed := by
  simp [State.evacuate]

@[simp] theorem State.moveCarve_fixed (s : State) (gone : List Nat) : (State.moveCarve s gone).fixed = s.fixed := by
  refine fixed_foldl (fun u f => ?_) _ _
  dsimp only
  split <;> rfl

@[simp] theorem State.refill_fixed (s : State) (gone : List Nat) : (State.refill s gone).fixed = s.fixed := by
  simp [State.refill]

@[simp] theorem State.retire_fixed (s : State) (c : Nat) (gone : List Nat) (fresh : List Nat) (a : NorAppend) : (State.retire s c gone fresh a).fixed = s.fixed := by
  simp [State.retire]

@[simp] theorem State.doRetireFrame_fixed (s : State) (h : Hdr) (f : Nat) : (State.doRetireFrame s h f).fixed = s.fixed := by
  unfold State.doRetireFrame
  split <;> simp

@[simp] theorem State.doRetireBank_fixed (s : State) (h : Hdr) (c : Nat) (slot : Nat) (lrank : Nat) (bank : Nat) : (State.doRetireBank s h c slot lrank bank).fixed = s.fixed := by
  unfold State.doRetireBank
  split <;> simp

@[simp] theorem State.cleanDrop_fixed (s : State) (line : Nat) : (State.cleanDrop s line).fixed = s.fixed := by
  simp [State.cleanDrop]

@[simp] theorem State.writeMaint_fixed (s : State) (v : Word) : (State.writeMaint s v).fixed = s.fixed := by
  simp [State.writeMaint]

@[simp] theorem State.doMaintDone_fixed (s : State) (misses : List (Fin 64)) : (State.doMaintDone s misses).fixed = s.fixed := by
  simp -implicitDefEqProofs [State.doMaintDone]

@[simp] theorem State.doWalkDone_fixed (s : State) : (State.doWalkDone s).fixed = s.fixed := by
  simp [State.doWalkDone]

@[simp] theorem State.setOps_fixed (s : State) (l : List NorOp) : (State.setOps s l).fixed = s.fixed := by
  simp [State.setOps]

@[simp] theorem State.modRunning_fixed (s : State) (f : NorOp → NorOp) : (State.modRunning s f).fixed = s.fixed := by
  simp [State.modRunning]

@[simp] theorem State.norOutcome_fixed (s : State) (n : Nat) : (State.norOutcome s n).fixed = s.fixed := by
  simp [State.norOutcome]

@[simp] theorem State.closeWin_fixed (s : State) : (State.closeWin s).fixed = s.fixed := by
  simp [State.closeWin]

@[simp] theorem State.abandonWin_fixed (s : State) : (State.abandonWin s).fixed = s.fixed := by
  simp [State.abandonWin]

@[simp] theorem State.confirmWin_fixed (s : State) (q : NorSeq) : (State.confirmWin s q).fixed = s.fixed := by
  simp [State.confirmWin]

@[simp] theorem State.setWin_fixed (s : State) (q : NorSeq) : (State.setWin s q).fixed = s.fixed := by
  simp [State.setWin]

@[simp] theorem State.winWrite_fixed (s : State) (q : NorSeq) (off : Nat) (v : Word) : (State.winWrite s q off v).fixed = s.fixed := by
  unfold State.winWrite
  split <;> simp

@[simp] theorem State.doWindowWrite_fixed (s : State) (src : NorSrc) (off : Nat) (v : Word) (ok : Bool) : (State.doWindowWrite s src off v ok).fixed = s.fixed := by
  unfold State.doWindowWrite
  split <;> simp

theorem State.takeReady_fixed (s : State) (code : Nat) : ∀ r, (State.takeReady s code) = some r → r.2.fixed = s.fixed := by
  simp [State.takeReady]

@[simp] theorem State.norStart_fixed (s : State) (erase : Bool) (off : Nat) (go : State → State) (hgo : ∀ (u : State), (go u).fixed = u.fixed) : (State.norStart s erase off go).fixed = s.fixed := by
  simp [State.norStart, hgo]

@[simp] theorem State.doNorProgram_fixed (s : State) : (State.doNorProgram s).fixed = s.fixed := by
  unfold State.doNorProgram
  split
  · rfl
  · rename_i q u h
    exact (State.norStart_fixed _ _ _ _ fun _ => by simp).trans (State.takeReady_fixed _ _ _ h)

@[simp] theorem State.issueErase_fixed (s : State) (off : Nat) (own : Bool) : (State.issueErase s off own).fixed = s.fixed := by
  simp [State.issueErase]

@[simp] theorem State.doNorErase_fixed (s : State) (intentOk : Bool) : (State.doNorErase s intentOk).fixed = s.fixed := by
  unfold State.doNorErase
  split
  · rfl
  · rename_i q u h
    refine (State.norStart_fixed _ _ _ _ fun _ => ?_).trans (State.takeReady_fixed _ _ _ h)
    split <;> simp

@[simp] theorem State.doNorSuspend_fixed (s : State) : (State.doNorSuspend s).fixed = s.fixed := by
  unfold State.doNorSuspend
  split
  · rfl
  · rename_i h
    simpa using State.takeReady_fixed _ _ _ h

@[simp] theorem State.doNorResume_fixed (s : State) : (State.doNorResume s).fixed = s.fixed := by
  unfold State.doNorResume
  split
  · rfl
  · rename_i h
    have hu := State.takeReady_fixed _ _ _ h
    (repeat' split) <;> simpa using hu

@[simp] theorem State.doNorAbort_fixed (s : State) : (State.doNorAbort s).fixed = s.fixed := by
  unfold State.doNorAbort
  split
  · rfl
  · rename_i h
    simpa using State.takeReady_fixed _ _ _ h

@[simp] theorem State.serveRead_fixed (s : State) (off : Nat) : (State.serveRead s off).fixed = s.fixed := by
  simp [State.serveRead]

@[simp] theorem State.doWindowRead_fixed (s : State) (off : Nat) : (State.doWindowRead s off).fixed = s.fixed := by
  unfold State.doWindowRead
  (repeat' split) <;> simp

@[simp] theorem State.appendRecord_fixed (s : State) (a : NorAppend) : (State.appendRecord s a).fixed = s.fixed := by
  unfold State.appendRecord
  split <;> simp

@[simp] theorem State.doRecordAppend_fixed (s : State) (kind : Nat) : (State.doRecordAppend s kind).fixed = s.fixed := by
  unfold State.doRecordAppend
  (repeat' split) <;> simp

@[simp] theorem State.heldAppend_fixed (s : State) (o : NorOp) : (State.heldAppend s o).fixed = s.fixed := by
  unfold State.heldAppend
  (repeat' split) <;> simp

@[simp] theorem State.doSuspendGrant_fixed (s : State) : (State.doSuspendGrant s).fixed = s.fixed := by
  unfold State.doSuspendGrant
  split <;> simp

@[simp] theorem State.nextEinc_fixed (s : State) : (State.nextEinc s).fixed = s.fixed := by
  unfold State.nextEinc
  split <;> simp

@[simp] theorem State.doNorOpDone_fixed (s : State) (info : Option (Bool × ImageInfo)) : (State.doNorOpDone s info).fixed = s.fixed := by
  unfold State.doNorOpDone
  split <;> simp

@[simp] theorem State.doBrownoutEnd_fixed (s : State) : (State.doBrownoutEnd s).fixed = s.fixed := by
  simp [State.doBrownoutEnd]

@[simp] theorem State.accessError_fixed (s : State) (kind : Nat) (off : Nat) : (State.accessError s kind off).fixed = s.fixed := by
  simp [State.accessError]

@[simp] theorem State.takeSlot_fixed (s : State) (slot : Nat) (f : MgmtFrame) : (State.takeSlot s slot f).fixed = s.fixed := by
  simp [State.takeSlot]

@[simp] theorem State.doDoorbell_fixed (s : State) (v : Word) (slots : List MgmtFrame) : (State.doDoorbell s v slots).fixed = s.fixed := by
  simp [State.doDoorbell]

@[simp] theorem State.doCplHead_fixed (s : State) (v : Word) : (State.doCplHead s v).fixed = s.fixed := by
  simp [State.doCplHead]

@[simp] theorem State.endPauses_fixed (s : State) (port : Nat) : (State.endPauses s port).fixed = s.fixed := by
  simp [State.endPauses]

@[simp] theorem State.afterWrite_fixed (s : State) (off : Nat) : (State.afterWrite s off).fixed = s.fixed := by
  simp [State.afterWrite]

@[simp] theorem State.doSubscribe_fixed (s : State) (h : Hdr) (dest : Nat) (addr : Nat) (qpn : Nat) : (State.doSubscribe s h dest addr qpn).fixed = s.fixed := by
  simp [State.doSubscribe]

@[simp] theorem State.doPcieDown_fixed (s : State) : (State.doPcieDown s).fixed = s.fixed := by
  simp [State.doPcieDown]

@[simp] theorem State.flushPcie_fixed (s : State) : (State.flushPcie s).fixed = s.fixed := by
  simp [State.flushPcie]

@[simp] theorem State.doPcieUp_fixed (s : State) (speed : Nat) (width : Nat) : (State.doPcieUp s speed width).fixed = s.fixed := by
  simp [State.doPcieUp]

@[simp] theorem State.doPortDown_fixed (s : State) (l : Nat) : (State.doPortDown s l).fixed = s.fixed := by
  simp [State.doPortDown]

@[simp] theorem State.doPortUp_fixed (s : State) (l : Nat) : (State.doPortUp s l).fixed = s.fixed := by
  simp [State.doPortUp]

@[simp] theorem State.notify_fixed (s : State) (type : Nat) (stamp : Nat) (payload : List Byte) : (State.notify s type stamp payload).fixed = s.fixed := by
  simp [State.notify]

@[simp] theorem State.doEventSend_fixed (s : State) : (State.doEventSend s).fixed = s.fixed := by
  unfold State.doEventSend
  split <;> simp

@[simp] theorem State.countStuck_fixed (s : State) (n : Nat) : (State.countStuck s n).fixed = s.fixed := by
  simp [State.countStuck]

@[simp] theorem State.doSbusEnable_fixed (s : State) (n : Nat) (low : Bool) (freed : Bool) : (State.doSbusEnable s n low freed).fixed = s.fixed := by
  simp -implicitDefEqProofs [State.doSbusEnable]

@[simp] theorem State.doSbusRetry_fixed (s : State) (n : Nat) (freed : Bool) : (State.doSbusRetry s n freed).fixed = s.fixed := by
  have hsbus : ∀ (u : State) (l : List (Nat × Sbus)), { u with sbus := l }.fixed = u.fixed := fun _ _ => rfl
  unfold State.doSbusRetry
  split
  · rfl
  · split
    · rw [State.setFld_fixed, hsbus]
    · dsimp only
      split
      · rw [hsbus, State.countStuck_fixed]
      · rw [State.raise_fixed _ _ _, State.setFld_fixed, hsbus, State.countStuck_fixed]

@[simp] theorem State.doSbusEnd_fixed (s : State) (n : Nat) (ok : Bool) : (State.doSbusEnd s n ok).fixed = s.fixed := by
  simp [State.doSbusEnd]

@[simp] theorem State.markEinc_fixed (s : State) : (State.markEinc s).fixed = s.fixed := by
  unfold State.markEinc
  dsimp only
  split <;> simp -implicitDefEqProofs

@[simp] theorem State.loadCounts_fixed (s : State) (r : CounterRec) : (State.loadCounts s r).fixed = s.fixed := by
  simp [State.loadCounts]

@[simp] theorem State.reloadCounts_fixed (s : State) : (State.reloadCounts s).fixed = s.fixed := by
  unfold State.reloadCounts
  (repeat' split) <;> simp

@[simp] theorem State.noImage_fixed (s : State) : (State.noImage s).fixed = s.fixed := by
  simp [State.noImage]

@[simp] theorem State.queueCounter_fixed (s : State) : (State.queueCounter s).fixed = s.fixed := by
  simp [State.queueCounter]

@[simp] theorem State.sequenceDone_fixed (s : State) : (State.sequenceDone s).fixed = s.fixed := by
  simp [State.sequenceDone]

@[simp] theorem State.fit_fixed (s : State) (p : NorParts) : (State.fit s p).fixed = s.fixed := by
  simp [State.fit]

@[simp] theorem State.doVddRise_fixed (s : State) (amon1 : Nat) (twinId : Bool) (fitted : Option NorParts) : (State.doVddRise s amon1 twinId fitted).fixed = s.fixed := by
  unfold State.doVddRise
  dsimp only
  (repeat' split) <;> simp -implicitDefEqProofs

@[simp] theorem State.sendNotice_fixed (s : State) : (State.sendNotice s).fixed = s.fixed := by
  simp [State.sendNotice]

@[simp] theorem State.arm_fixed (s : State) : (State.arm s).fixed = s.fixed := by
  simp -implicitDefEqProofs [State.arm]

@[simp] theorem State.setPhase_fixed (s : State) (p : DozePhase) : (State.setPhase s p).fixed = s.fixed := by
  simp [State.setPhase]

@[simp] theorem State.abortDoze_fixed (s : State) (outcome : Nat) (tell : Bool) : (State.abortDoze s outcome tell).fixed = s.fixed := by
  simp [State.abortDoze]

@[simp] theorem State.latch__fixed (s : State) (x1 : Wake) : (State.latch_ s x1).fixed = s.fixed := by
  unfold State.latch_
  split <;> simp

@[simp] theorem State.beginExit_fixed (s : State) : (State.beginExit s).fixed = s.fixed := by
  simp [State.beginExit]

@[simp] theorem State.wake_fixed (s : State) (w : Wake) : (State.wake s w).fixed = s.fixed := by
  unfold State.wake
  dsimp only
  (repeat' split) <;> simp -implicitDefEqProofs

@[simp] theorem State.dozeIn_fixed (s : State) (t : TackId) (k : State → State) (hk : ∀ (u : State), (k u).fixed = u.fixed) : (State.dozeIn s t k).fixed = s.fixed := by
  simp [State.dozeIn, hk]

@[simp] theorem State.doWakeReceive_fixed (s : State) : (State.doWakeReceive s).fixed = s.fixed := by
  simp [State.doWakeReceive]

@[simp] theorem State.doDoze_fixed (s : State) (h : Hdr) : (State.doDoze s h).fixed = s.fixed := by
  unfold State.doDoze
  dsimp only
  (repeat' split) <;> simp -implicitDefEqProofs

@[simp] theorem State.doPropose_fixed (s : State) : (State.doPropose s).fixed = s.fixed := by
  simp [State.doPropose]

@[simp] theorem State.doAccept_fixed (s : State) : (State.doAccept s).fixed = s.fixed := by
  unfold State.doAccept
  split <;> simp

@[simp] theorem State.doProposeRetry_fixed (s : State) : (State.doProposeRetry s).fixed = s.fixed := by
  unfold State.doProposeRetry
  split <;> simp

@[simp] theorem State.commitDoze_fixed (s : State) : (State.commitDoze s).fixed = s.fixed := by
  unfold State.commitDoze
  dsimp only
  split <;> simp -implicitDefEqProofs

@[simp] theorem State.doNoticeExpire_fixed (s : State) : (State.doNoticeExpire s).fixed = s.fixed := by
  simp [State.doNoticeExpire]

@[simp] theorem State.doCommitReceive_fixed (s : State) : (State.doCommitReceive s).fixed = s.fixed := by
  simp [State.doCommitReceive]

@[simp] theorem State.doAbortReceive_fixed (s : State) : (State.doAbortReceive s).fixed = s.fixed := by
  unfold State.doAbortReceive
  split <;> simp

@[simp] theorem State.doCommitTimeout_fixed (s : State) : (State.doCommitTimeout s).fixed = s.fixed := by
  simp [State.doCommitTimeout]

@[simp] theorem State.parkLink_fixed (s : State) (l : Nat) : (State.parkLink s l).fixed = s.fixed := by
  simp [State.parkLink]

@[simp] theorem State.doDozeEnter_fixed (s : State) : (State.doDozeEnter s).fixed = s.fixed := by
  simp [State.doDozeEnter]

@[simp] theorem State.doDozeExit_fixed (s : State) : (State.doDozeExit s).fixed = s.fixed := by
  simp [State.doDozeExit]

@[simp] theorem State.doGraceEnd_fixed (s : State) : (State.doGraceEnd s).fixed = s.fixed := by
  simp [State.doGraceEnd]

@[simp] theorem State.doReceive_fixed (s : State) (p : Packet) : (State.doReceive s p).fixed = s.fixed := by
  simp [State.doReceive]

@[simp] theorem State.doDoorbellWake_fixed (s : State) (v : Word) (slots : List MgmtFrame) : (State.doDoorbellWake s v slots).fixed = s.fixed := by
  simp [State.doDoorbellWake]

@[simp] theorem State.doPathLostWake_fixed (s : State) (p : Path) : (State.doPathLostWake s p).fixed = s.fixed := by
  simp [State.doPathLostWake]

@[simp] theorem State.doEnergy_fixed (s : State) : (State.doEnergy s).fixed = s.fixed := by
  simp [State.doEnergy]

@[simp] theorem State.doMonTrip_fixed (s : State) (ch : Fin 16) : (State.doMonTrip s ch).fixed = s.fixed := by
  simp [State.doMonTrip]

@[simp] theorem State.doPresence_fixed (s : State) (present : Bool) : (State.doPresence s present).fixed = s.fixed := by
  simp [State.doPresence]

@[simp] theorem State.setLatch_fixed (s : State) (src : Source) (off : Nat) (w : Word) : (State.setLatch s src off w).fixed = s.fixed := by
  simp [State.setLatch]

@[simp] theorem State.doLoLatch_fixed (s : State) (src : Source) (off : Nat) : (State.doLoLatch s src off).fixed = s.fixed := by
  simp [State.doLoLatch]

@[simp] theorem State.readFor_fixed (s : State) (src : Source) (off : Nat) : (State.readFor s src off).1.fixed = s.fixed := by
  unfold State.readFor
  dsimp only
  (repeat' split) <;> simp -implicitDefEqProofs

@[simp] theorem State.doCsrRead_fixed (s : State) (src : Source) (off : Nat) : (State.doCsrRead s src off).fixed = s.fixed := by
  simp [State.doCsrRead]

@[simp] theorem State.readRegs_fixed (src : Source) (x1 : Nat) (x2 : Nat) (x3 : State) : (State.readRegs src x1 x2 x3).1.fixed = x3.fixed := by
  induction x1 generalizing x2 x3 with
  | zero => rfl
  | succ k ih => simp [State.readRegs, ih]

@[simp] theorem State.doRegisterRead_fixed (s : State) (h : Hdr) (off : Nat) (n : Nat) : (State.doRegisterRead s h off n).fixed = s.fixed := by
  simp [State.doRegisterRead]

@[simp] theorem State.doQuery_fixed (s : State) (h : Hdr) (cls : QueryObj) (i : Nat) : (State.doQuery s h cls i).fixed = s.fixed := by
  unfold State.doQuery
  split <;> simp

@[simp] theorem State.haltPair_fixed (s : State) (p : Nat) : (State.haltPair s p).fixed = s.fixed := by
  simp -implicitDefEqProofs [State.haltPair]

@[simp] theorem State.tapRead_fixed (s : State) (a : Nat) : (State.tapRead s a).fixed = s.fixed := by
  simp [State.tapRead]

@[simp] theorem State.releaseReads_fixed (s : State) : (State.releaseReads s).fixed = s.fixed := by
  simp [State.releaseReads]

@[simp] theorem State.doTap_fixed (s : State) (x1 : TapOp) : (State.doTap s x1).fixed = s.fixed := by
  unfold State.doTap
  split <;> simp

@[simp] theorem State.doLevels_fixed (s : State) : (State.doLevels s).fixed = s.fixed := by
  simp [State.doLevels]

@[simp] theorem State.taken_fixed (s : State) : (State.taken s).fixed = s.fixed := by
  simp [State.taken]

@[simp] theorem State.counted_fixed (s : State) (h : SeamHdr) : (State.counted s h).fixed = s.fixed := by
  simp [State.counted]

end Sys2Proof.Machine
end

section
set_option Elab.async false
/-! PROOFS. What every command keeps: the queue, the part, the one-way fuses (R341) and the keys of a returned unit (R349). The functions
of the model that leave all four as they were stand before; here come the few that burn a fuse or put the core in RESET. -/

namespace Sys2Proof.Machine

/-! ### One burn -/

theorem Fuses.advances_refl (f : Fuses) : f.advances f where
  life := le_rfl
  destroyBegun := id
  scrapIntent := id
  programmed := BitVec.and_self
  revoked := BitVec.and_self
  drkBurned := id
  drkGone := id
  wrapBurned := id
  wrapGone := id
  rollback := le_rfl
  devid := rfl

theorem bitsWithin_trans {a b c : BitVec 4} (hab : bitsWithin a b) (hbc : bitsWithin b c) : bitsWithin a c := by
  rw [bitsWithin, ← hab, BitVec.and_assoc, hbc]

theorem bitsWithin_or (a b : BitVec 4) : bitsWithin a (a ||| b) := by
  ext i
  simp +contextual

theorem Fuses.advances.trans {f g k : Fuses} (hfg : f.advances g) (hgk : g.advances k) : f.advances k where
  life := hfg.life.trans hgk.life
  destroyBegun h := hgk.destroyBegun (hfg.destroyBegun h)
  scrapIntent h := hgk.scrapIntent (hfg.scrapIntent h)
  programmed := bitsWithin_trans hfg.programmed hgk.programmed
  revoked := bitsWithin_trans hfg.revoked hgk.revoked
  drkBurned h := hgk.drkBurned (hfg.drkBurned h)
  drkGone h := hgk.drkGone (hfg.drkGone h)
  wrapBurned h := hgk.wrapBurned (hfg.wrapBurned h)
  wrapGone h := hgk.wrapGone (hfg.wrapGone h)
  rollback := hfg.rollback.trans hgk.rollback
  devid := hgk.devid.trans hfg.devid

/-- One burn goes forward (R341). -/
theorem Fuses.advances_apply (f : Fuses) (b : Burn) : f.advances (f.apply b) := by
  have hf := f.advances_refl
  cases b with
  | drk => exact { hf with drkBurned := by simp +contextual [Fuses.apply], drkGone := by simp +contextual [Fuses.apply] }
  | keys k => exact { hf with programmed := bitsWithin_or _ _ }
  | wrapKey => exact { hf with wrapBurned := by simp +contextual [Fuses.apply], wrapGone := by simp +contextual [Fuses.apply] }
  | rollback => exact { hf with rollback := by simp only [Fuses.apply]; split <;> omega }
  | destroyBegun => exact { hf with destroyBegun := fun _ => rfl }
  | scrapIntent => exact { hf with scrapIntent := fun _ => rfl }
  | revokeOwner | revokeMaker => exact { hf with revoked := bitsWithin_or _ _ }
  | destroyKeys =>
    exact { hf with drkBurned := by simp [Fuses.apply], drkGone := fun _ => rfl, wrapBurned := by simp [Fuses.apply], wrapGone := fun _ => rfl }
  | life c => exact { hf with life := Nat.le_max_left _ _ }

theorem Fuses.keysGone.advances {f g : Fuses} (h : f.keysGone) (ha : f.advances g) : g.keysGone := ⟨ha.drkGone h.1, ha.wrapGone h.2⟩

/-- A burn that is no lifecycle state leaves the lifecycle. -/
theorem Fuses.apply_life {f : Fuses} {b : Burn} (h : ∀ c, b ≠ .life c) : (f.apply b).life = f.life := by
  cases b with
  | life c => exact absurd rfl (h c)
  | drk | keys _ | wrapKey | rollback | destroyBegun | scrapIntent | revokeOwner | destroyKeys | revokeMaker => rfl

/-- A burn that a sequence orders leaves the keys gone where the lifecycle says RETURNED or SCRAPPED. -/
theorem Fuses.keysGone_apply {f : Fuses} {b : Burn} {l : List Burn} (ho : f.orderly (b :: l)) (h : returned ≤ f.life → f.keysGone)
    (hr : returned ≤ (f.apply b).life) : (f.apply b).keysGone := by
  refine Fuses.keysGone.advances (f := f) ?_ (f.advances_apply b)
  by_cases hb : ∃ c, b = .life c
  · obtain ⟨c, rfl⟩ := hb
    rcases (le_max_iff (α := ℕ)).1 hr with h' | h'
    · exact h h'
    · exact ho.1 c rfl h'
  · exact h (f.apply_life (fun c hc => hb ⟨c, hc⟩) ▸ hr)

/-! ### Sequences that are in order (R349, R350) -/

/-- Once the keys are gone, any sequence is in order. -/
theorem Fuses.keysGone.orderly {f : Fuses} (h : f.keysGone) (l : List Burn) : f.orderly l := by
  induction l generalizing f with
  | nil => trivial
  | cons b l ih => exact ⟨fun _ _ _ => h, ih (h.advances (f.advances_apply b))⟩

/-- A sequence that burns neither RETURNED nor SCRAPPED is in order. -/
theorem Fuses.orderly_of_early (f : Fuses) (l : List Burn) (h : ∀ c, .life c ∈ l → c < returned) : f.orderly l := by
  induction l generalizing f with
  | nil => trivial
  | cons b l ih =>
    exact ⟨fun c hc hr => absurd hr (Nat.not_le.2 (h c (hc ▸ List.mem_cons_self))), ih _ fun c hc => h c (List.mem_cons_of_mem _ hc)⟩

/-- A sequence is in order where it destroys the keys before it burns a lifecycle state. -/
theorem Fuses.orderly_destroy (f : Fuses) (l r : List Burn) (h : ∀ c, Burn.life c ∉ l) : f.orderly (l ++ .destroyKeys :: r) := by
  induction l generalizing f with
  | nil => exact ⟨fun c hc => Burn.noConfusion hc, Fuses.keysGone.orderly ⟨rfl, rfl⟩ r⟩
  | cons b l ih =>
    exact ⟨fun c hc => absurd (hc ▸ List.mem_cons_self) (h c), ih _ fun c hc => h c (List.mem_cons_of_mem _ hc)⟩

theorem Fuses.orderly_lifeSteps {f : Fuses} (hf : returned ≤ f.life → f.keysGone) (code : Nat) : f.orderly (f.lifeSteps code) := by
  unfold Fuses.lifeSteps
  split
  · exact f.orderly_of_early _ (by simp [secured, returned])
  · split
    · exact f.orderly_destroy [.destroyBegun, .revokeOwner] _ (by simp)
    · split
      case isTrue h => exact (hf h.ge).orderly _
      case isFalse => exact f.orderly_destroy [.scrapIntent, .destroyBegun, .revokeOwner] _ (by simp)

theorem Fuses.orderly_leftover {f : Fuses} (hf : returned ≤ f.life → f.keysGone) : f.orderly f.leftover := by
  unfold Fuses.leftover
  extract_lets target
  split
  · by_cases hg : f.keysGone
    · exact hg.orderly _
    · rw [if_neg (fun h : f.life = returned => hg (hf h.ge)), if_neg hg, List.append_assoc]
      refine f.orderly_destroy _ _ fun c hc => ?_
      split at hc <;> simp at hc
  · trivial

/-! ### What is kept -/

/-- From `s` to `t` the queue and the part are as they were, the fuses only went forward, and safe keys stayed safe. -/
structure State.keeps (s t : State) : Prop where
  pending : t.pending = s.pending
  part    : t.part = s.part
  fuses   : s.fuses.advances t.fuses
  safe    : s.keysSafe → t.keysSafe

variable {s t u : State}

theorem State.keeps_of_fixed (h : t.fixed = s.fixed) : s.keeps t := by
  simp only [State.fixed, Prod.mk.injEq] at h
  obtain ⟨hp, hpart, hf, hb⟩ := h
  exact ⟨hp, hpart, hf ▸ s.fuses.advances_refl, fun hs => by rwa [State.keysSafe, hf, hb]⟩

theorem State.keeps_refl (s : State) : s.keeps s := State.keeps_of_fixed rfl

theorem State.keeps.trans (hst : s.keeps t) (htu : t.keeps u) : s.keeps u :=
  ⟨htu.pending.trans hst.pending, htu.part.trans hst.part, hst.fuses.trans htu.fuses, fun h => htu.safe (hst.safe h)⟩

/-- What leaves the four as they are may come first … -/
theorem State.keeps.after (h : t.keeps u) (ht : t.fixed = s.fixed) : s.keeps u := (State.keeps_of_fixed ht).trans h

/-- … or last. -/
theorem State.keeps.andThen (h : s.keeps t) (hu : u.fixed = t.fixed) : s.keeps u := h.trans (State.keeps_of_fixed hu)

theorem State.keeps_foldl {α : Type} {f : State → α → State} (hf : ∀ (s : State) a, s.keeps (f s a)) (l : List α) (s : State) : s.keeps (l.foldl f s) := by
  induction l generalizing s with
  | nil => exact s.keeps_refl
  | cons a l ih => exact (hf s a).trans (ih _)

/-- A fuse sequence that ends or is lost leaves the keys as safe as they were. -/
theorem State.keeps_of_noBurn (hp : t.pending = s.pending) (hpart : t.part = s.part) (hf : t.fuses = s.fuses) (hb : t.thm.burn = none) :
    s.keeps t :=
  ⟨hp, hpart, hf ▸ s.fuses.advances_refl, fun hs => ⟨hf ▸ hs.1, fun r hr => by rw [hb] at hr; cases hr⟩⟩

/-- A fuse sequence that starts keeps the keys safe where its burns are in order. -/
theorem State.keeps_of_burn {r : BurnRun} (hp : t.pending = s.pending) (hpart : t.part = s.part) (hf : t.fuses = s.fuses)
    (hb : t.thm.burn = some r) (ho : (Machine.returned ≤ s.fuses.life → s.fuses.keysGone) → s.fuses.orderly r.steps) : s.keeps t :=
  ⟨hp, hpart, hf ▸ s.fuses.advances_refl, fun hs =>
    ⟨hf ▸ hs.1, fun q hq => by rw [hb, Option.some.injEq] at hq; exact hq ▸ hf ▸ ho hs.1⟩⟩

/-! ### The core enters RESET -/

theorem State.enterReset_keeps (s : State) : s.keeps s.enterReset := by
  unfold State.enterReset
  split
  · exact s.keeps_refl
  · exact State.keeps_of_noBurn rfl rfl rfl rfl

theorem State.unpowered_keeps (s : State) : s.keeps s.unpowered := State.keeps_of_noBurn rfl rfl rfl rfl

theorem State.removeRails_keeps (s : State) (a : AfterOff) : s.keeps (s.removeRails a) := by
  unfold State.removeRails
  split
  · exact s.keeps_refl
  · refine s.enterReset_keeps.andThen ?_
    dsimp only
    split <;> simp

theorem State.resequence_keeps (s : State) : s.keeps s.resequence := (State.removeRails_keeps _ _).after (State.cleanAll_fixed _)

theorem State.failAttempt_keeps (s : State) (n : Nat) : s.keeps (s.failAttempt n) := (State.removeRails_keeps _ _).after rfl

theorem State.failStep_keeps (s : State) (e : RailEntry) (step n : Nat) : s.keeps (s.failStep e step n) :=
  (State.failAttempt_keeps _ _).after (by simp)

theorem State.doStepTimeout_keeps (s : State) : s.keeps s.doStepTimeout := by
  unfold State.doStepTimeout
  split
  · exact s.failStep_keeps _ _ _
  · dsimp only
    split
    · split
      · exact (State.failStep_keeps _ _ _ _).after (by simp)
      · exact s.keeps_refl
    · exact s.keeps_refl
  · exact s.keeps_refl

theorem State.doRailDrop_keeps (s : State) (rail : Nat) : s.keeps (s.doRailDrop rail) := by
  unfold State.doRailDrop
  split
  · exact s.keeps_refl
  · dsimp only
    split
    · exact (State.failAttempt_keeps _ _).after (by simp)
    · exact State.keeps_of_fixed (by simp)

theorem State.doWindowTrip_keeps (s : State) : s.keeps s.doWindowTrip := by
  unfold State.doWindowTrip
  split
  · exact s.doRailDrop_keeps _
  · exact s.keeps_refl

theorem State.doReboot_keeps (s : State) (v : Word) : s.keeps (s.doReboot v) := by
  unfold State.doReboot
  split
  · exact s.resequence_keeps
  · exact s.keeps_refl

/-! ### Power failure, and the end of a SAVE -/

theorem State.powerFailed_keeps (s : State) (planned : Bool) : s.keeps (s.powerFailed planned) := by
  unfold State.powerFailed
  split
  · exact s.keeps_refl
  · exact s.removeRails_keeps _
  · exact s.removeRails_keeps _
  · (repeat' split)
    · exact State.keeps_of_fixed (by simp)
    · exact State.keeps_of_fixed (by simp)
    · exact s.removeRails_keeps _
  · exact State.keeps_of_fixed (by simp)

theorem State.confirmFail_keeps (s : State) (path : Nat) (planned : Bool) : s.keeps (s.confirmFail path planned) := by
  unfold State.confirmFail
  split
  · exact s.keeps_refl
  · refine (State.powerFailed_keeps _ _).after ?_
    split <;> simp

theorem State.doPfConfirm_keeps (s : State) (p : PfPath) : s.keeps (s.doPfConfirm p) := by
  unfold State.doPfConfirm
  split
  · exact (State.confirmFail_keeps _ _ _).after rfl
  · exact s.keeps_refl

theorem State.seal_keeps (s : State) : s.keeps s.seal := by
  unfold State.seal
  split
  · split
    · refine (State.removeRails_keeps _ _).after ?_
      dsimp only
      (repeat' split) <;> simp
    · exact s.keeps_refl
  · exact s.keeps_refl

theorem State.doTierClose_keeps (s : State) : s.keeps s.doTierClose := by
  unfold State.doTierClose
  split
  · exact (State.seal_keeps _).after rfl
  · exact s.keeps_refl

theorem State.doStreamDone_keeps (s : State) (ms : Nat) (cipher : List (Nat × Dual × Fin 64)) (fails : List Nat) :
    s.keeps (s.doStreamDone ms cipher fails) := by
  unfold State.doStreamDone
  split
  · exact (State.seal_keeps _).after (by simp)
  · exact s.keeps_refl

/-! ### Lockstep pairs -/

theorem State.distrust_keeps (s : State) (p cause : Nat) : s.keeps (s.distrust p cause) := by
  unfold State.distrust
  extract_lets a b c
  have hb : b.fixed = s.fixed := by
    simp only [b, a]
    split <;> simp
  have hc : c.fixed = s.fixed := by simp [c, hb]
  (repeat' split)
  · exact State.keeps_of_fixed hc
  · exact State.keeps_of_fixed (by simp [hc])
  · exact (State.confirmFail_keeps _ _ _).after hc
  · exact State.keeps_of_fixed hc

theorem State.doCodeViolation_keeps (s : State) (p : Nat) : s.keeps (s.doCodeViolation p) := by
  unfold State.doCodeViolation
  split
  · exact s.keeps_refl
  · exact s.distrust_keeps _ _

theorem State.doInject_keeps (s : State) (p : Nat) (caught : Bool) : s.keeps (s.doInject p caught) := by
  unfold State.doInject
  split
  · exact s.keeps_refl
  · exact s.distrust_keeps _ _

theorem State.doTestVector_keeps (s : State) (p : Nat) (reproduced : Bool) : s.keeps (s.doTestVector p reproduced) := by
  unfold State.doTestVector
  split
  · exact s.keeps_refl
  · split
    · exact s.distrust_keeps _ _
    · dsimp only
      split
      · exact (State.distrust_keeps _ _ _).after (by simp)
      · exact State.keeps_of_fixed (by simp)

theorem State.checkPairs_keeps (s : State) (failed : BitVec 4) : s.keeps (s.checkPairs failed) := by
  unfold State.checkPairs
  extract_lets t
  have ht : s.keeps t := by
    refine State.keeps_foldl (fun u p => ?_) _ _
    split
    · exact u.distrust_keeps _ _
    · exact State.keeps_of_fixed (by simp)
  split
  · exact ht.andThen (by simp)
  · exact ht

/-! ### Register writes -/

theorem State.ownWrite_keeps {off : Nat} {v : Word} (h : s.ownWrite off v = some t) : s.keeps t := by
  unfold State.ownWrite at h
  by_cases hr : off = F.NORC_CTRL_reboot.off
  · simp [hr] at h
    exact h ▸ s.doReboot_keeps v
  · simp only [hr, if_false] at h
    (repeat' split at h) <;> cases h <;> exact State.keeps_of_fixed (by simp)

theorem State.writeReg_keeps (s : State) (src : Option NorSrc) (off : Nat) (v : Word) : s.keeps (s.writeReg src off v) := by
  unfold State.writeReg
  split
  · exact s.keeps_refl
  · split
    · split <;> exact State.keeps_of_fixed (by simp)
    · split
      · exact s.keeps_refl
      · split
        · exact State.keeps_of_fixed (by simp)
        · split
          case h_1 h => exact State.ownWrite_keeps h
          case h_2 => exact State.keeps_of_fixed (by simp)

theorem State.writeRegs_keeps (s : State) (src : Option NorSrc) (off : Nat) (l : List Word) : s.keeps (s.writeRegs src off l) := by
  induction l generalizing s off with
  | nil => exact s.keeps_refl
  | cons v l ih => exact (s.writeReg_keeps src off v).trans (ih _ _)

theorem State.doRegisterWrite_keeps (s : State) (h : Hdr) (off : Nat) (l : List Word) : s.keeps (s.doRegisterWrite h off l) := by
  unfold State.doRegisterWrite
  have hw := s.writeRegs_keeps (norSrc h.src) off l
  dsimp only
  (repeat' split)
  · exact State.keeps_of_fixed (by simp)
  · exact State.keeps_of_fixed (by simp)
  · exact hw
  · exact hw.andThen (by simp)

theorem State.doCsrWrite_keeps (s : State) (src : Option NorSrc) (pf1 : Bool) (width off : Nat) (v : Word) :
    s.keeps (s.doCsrWrite src pf1 width off v) := by
  unfold State.doCsrWrite
  dsimp only
  split
  · exact State.keeps_of_fixed (by simp)
  · split
    · exact s.keeps_refl
    · split
      · cases src <;> exact State.keeps_of_fixed (by simp)
      · split
        · exact State.keeps_of_fixed (by simp)
        · exact s.writeReg_keeps _ _ _

theorem State.writeRegsRecord_keeps (s : State) (l : List (Nat × Word)) : s.keeps (s.writeRegsRecord l) := by
  refine State.keeps_foldl (fun u p => ?_) _ _
  split
  · exact u.writeReg_keeps _ _ _
  · exact State.keeps_of_fixed (by simp)

/-! ### BRINGUP -/

theorem State.runImage_keeps (s : State) (i : ImageInfo) : s.keeps (s.runImage i) :=
  by
  unfold State.runImage
  extract_lets a b c _ _ _ d f
  have ha : s.keeps a := (s.checkPairs_keeps s.boot.lks).andThen (by simp [a])
  have hf : f.fixed = a.fixed := by simp [f, d, c, b]
  exact ((ha.andThen hf).trans (f.writeRegsRecord_keeps i.regs)).andThen (by simp)

theorem State.railMismatch_keeps (s : State) (b : Bool) : s.keeps (s.railMismatch b) := by
  unfold State.railMismatch
  dsimp only
  split
  · exact State.keeps_of_fixed (by simp)
  · exact (State.resequence_keeps _).after (by simp)

theorem State.checkCopies_keeps (s : State) : s.keeps s.checkCopies := by
  unfold State.checkCopies
  extract_lets u _ t
  have ht : t.fixed = s.fixed := by simp [t, u]
  split
  extract_lets u v w
  have hv : v.fixed = s.fixed := by
    simp only [v, u]
    split <;> simp [ht]
  have hw : w.fixed = s.fixed := by
    simp only [w]
    split <;> simp [hv]
  split
  · exact State.keeps_of_fixed (by simp [hw])
  · dsimp only
    split
    · exact (State.railMismatch_keeps _ _).after (by simp -implicitDefEqProofs [hw])
    · exact (State.runImage_keeps _ _).after (by simp -implicitDefEqProofs [hw])

theorem State.bootImage_keeps (s : State) : s.keeps s.bootImage := by
  unfold State.bootImage
  dsimp only
  split
  · exact (State.checkCopies_keeps _).after (by simp)
  · exact State.keeps_of_fixed (by simp)

theorem State.doReseed_keeps (s : State) (pass : Bool) : s.keeps (s.doReseed pass) := by
  unfold State.doReseed
  dsimp only
  split
  · exact (State.checkCopies_keeps _).after (by simp)
  · exact State.keeps_of_fixed (by simp)

theorem State.coreRelease_keeps (s : State) (lks : BitVec 4) : s.keeps (s.coreRelease lks) := by
  unfold State.coreRelease
  split
  · exact s.keeps_refl
  · extract_lets _ a b c l
    have hb : b.fixed = s.fixed := by simp [b, a]
    have hc : c.fixed = s.fixed := by
      simp only [c]
      split <;> simp [hb]
    split
    · exact (State.bootImage_keeps _).after hc
    · exact State.keeps.after (s := s) (State.keeps_of_burn (s := c) rfl rfl rfl rfl Fuses.orderly_leftover) hc

theorem State.stepDone_keeps (s : State) (e : RailEntry) (lks : BitVec 4) : s.keeps (s.stepDone e lks) := by
  unfold State.stepDone
  extract_lets out last _ a b c
  have hb : s.keeps b := by
    refine State.keeps_of_fixed ?_
    simp only [b]
    split <;> simp [a]
  have hc : s.keeps c := by
    simp only [c]
    split
    · exact hb.trans (State.coreRelease_keeps _ _)
    · exact hb
  split
  · exact hc.andThen (by simp)
  · exact hc

theorem State.doPgRise_keeps (s : State) (rail : Nat) (lks : BitVec 4) : s.keeps (s.doPgRise rail lks) := by
  unfold State.doPgRise
  (repeat' split)
  · exact s.stepDone_keeps _ _
  all_goals exact s.keeps_refl

theorem State.doSettle_keeps (s : State) (lks : BitVec 4) : s.keeps (s.doSettle lks) := by
  unfold State.doSettle
  split
  · exact s.stepDone_keeps _ _
  · exact s.keeps_refl

/-! ### Fuse sequences -/

theorem State.startBurn_keeps (s : State) (h : Hdr) {l : List Burn}
    (ho : (Machine.returned ≤ s.fuses.life → s.fuses.keysGone) → s.fuses.orderly l) : s.keeps (s.startBurn h l) := by
  unfold State.startBurn
  split
  · exact State.keeps_of_fixed (by simp)
  · exact State.keeps_of_burn rfl rfl rfl rfl ho

theorem doLifeCommand_keeps (code : Nat) (h : Hdr) (o : Option Token) (s : State) : s.keeps (doLifeCommand code h o s) := by
  unfold doLifeCommand
  split
  · exact State.keeps_of_fixed (by simp)
  · split
    · exact State.keeps_of_fixed (by simp)
    · split
      · exact s.startBurn_keeps h fun hs => Fuses.orderly_lifeSteps hs code
      · split <;> exact State.keeps_of_fixed (by simp)

theorem doProvisionBegin_keeps (h : Hdr) (s : State) : s.keeps (doProvisionBegin h s) := by
  unfold doProvisionBegin
  split
  · exact State.keeps_of_fixed (by simp)
  · split
    · exact State.keeps_of_fixed (by simp)
    · exact State.keeps_of_fixed (by simp)
    · split
      · exact s.startBurn_keeps h fun _ => Fuses.orderly_of_early _ _ (by simp)
      · exact State.keeps_of_fixed (by simp)

theorem doProvisionCommit_keeps (h : Hdr) (keys : BitVec 4) (tagOk : Bool) (s : State) : s.keeps (doProvisionCommit h keys tagOk s) := by
  unfold doProvisionCommit
  (repeat' split)
  · exact State.keeps_of_fixed (by simp)
  · exact State.keeps_of_fixed (by simp)
  · exact s.startBurn_keeps h fun _ => Fuses.orderly_of_early _ _ (by simp [provisioned, Machine.returned])

theorem doAdvanceRollback_keeps (h : Hdr) (s : State) : s.keeps (doAdvanceRollback h s) := by
  unfold doAdvanceRollback
  dsimp only
  (repeat' split)
  · exact State.keeps_of_fixed (by simp)
  · exact State.keeps_of_fixed (by simp)
  · exact State.keeps_of_fixed (by simp)
  · exact s.startBurn_keeps h fun _ => Fuses.orderly_of_early _ _ (by simp [List.mem_replicate])

theorem State.acceptToken_keeps (s : State) (v : Verify) : s.keeps (s.acceptToken v) := by
  unfold State.acceptToken
  split
  · exact State.keeps_of_fixed (by simp)
  · split
    · split
      · exact s.startBurn_keeps _ fun hs => Fuses.orderly_lifeSteps hs _
      · exact State.keeps_of_fixed (by simp)
    · exact s.keeps_refl
  · exact State.keeps_of_fixed (by simp)

theorem doSignatureVerifyDone_keeps (s : State) : s.keeps (doSignatureVerifyDone s) := by
  unfold doSignatureVerifyDone
  split
  · exact s.keeps_refl
  · dsimp only
    split
    · exact (State.acceptToken_keeps _ _).after rfl
    · exact State.keeps_of_fixed (by simp)

theorem State.browned_keeps (s : State) : s.keeps s.browned := by
  unfold State.browned
  split
  · exact State.keeps.andThen (t := { s with thm := { s.thm with burn := none } }) (State.keeps_of_noBurn rfl rfl rfl rfl)
      (State.complete_fixed _ _ _ _)
  · exact s.keeps_refl

theorem State.doBrownout_keeps (s : State) : s.keeps s.doBrownout := by
  unfold State.doBrownout
  dsimp only
  split
  · exact State.keeps_of_fixed rfl
  · exact (State.browned_keeps _).after (by simp)

theorem State.burnEnd_keeps {reseq go : State → State} (hr : ∀ u : State, u.keeps (reseq u)) (hg : ∀ u : State, u.keeps (go u)) (b : Burn)
    (h : Option Hdr) (s : State) : s.keeps (s.burnEnd reseq go b h) := by
  unfold State.burnEnd
  split
  · exact (hr _).after (by simp)
  · exact (hg _).after (by simp)
  · exact State.keeps_of_fixed (by simp)
  · exact State.keeps_of_fixed (by simp)
  · exact hg s

/-- A burn that reads back: the fuse goes forward, and what is left of the sequence is still in order. -/
theorem State.burned_keeps {b : Burn} {l : List Burn} {h : Option Hdr} (hb : s.thm.burn = some ⟨b :: l, h⟩) :
    s.keeps { s with fuses := s.fuses.apply b, thm := { s.thm with burn := if l.isEmpty then none else some ⟨l, h⟩ } } where
  pending := rfl
  part := rfl
  fuses := s.fuses.advances_apply b
  safe := fun hs => by
    have ho := hs.2 _ hb
    refine ⟨Fuses.keysGone_apply ho hs.1, fun r hr => ?_⟩
    dsimp only at hr
    split at hr
    · cases hr
    · cases hr
      exact ho.2

theorem doFuseBurnDone_keeps {reseq go : State → State} (hr : ∀ u : State, u.keeps (reseq u)) (hg : ∀ u : State, u.keeps (go u))
    (readBack : Bool) (s : State) : s.keeps (doFuseBurnDone reseq go readBack s) := by
  unfold doFuseBurnDone
  split
  · exact s.keeps_refl
  · exact State.keeps_of_noBurn rfl rfl rfl rfl
  · rename_i b l h hb
    split
    · exact s.keeps_refl
    · extract_lets _ a c
      have hc : s.keeps c := by
        refine (State.burned_keeps hb).andThen ?_
        simp only [c]
        split <;> simp [a]
      split
      · exact hc.trans (State.burnEnd_keeps hr hg b h c)
      · exact hc

/-! ### The rows of the table -/

section Rows

variable {f : State → State}

theorem State.next_keeps (h : s.keeps t) : ∃ u, (.next t : Res) = .next u ∧ s.keeps u := ⟨t, rfl, h⟩

theorem State.core_keeps (hf : ∀ u : State, u.keeps (f u)) (s : State) : ∃ t, s.core f = .next t ∧ s.keeps t := by
  refine ⟨_, rfl, ?_⟩
  split
  · exact s.keeps_refl
  · exact hf s

theorem State.start_keeps (hf : ∀ u : State, u.keeps (f u)) (s : State) (h : Hdr) (c : Cmd) : ∃ t, s.start h c f = .next t ∧ s.keeps t := by
  refine ⟨_, rfl, ?_⟩
  split
  · exact (hf _).after rfl
  · exact s.keeps_refl

theorem State.sharedRow_keeps (s : State) (h : Hdr) (c : Cmd) : ∃ t, s.sharedRow h c = .next t ∧ s.keeps t :=
  State.start_keeps (fun _ => State.keeps_of_fixed (State.runShared_fixed _ _ _)) s h c

theorem State.pairRow_keeps (hf : ∀ u : State, u.keeps (f u)) (s : State) : ∃ t, s.pairRow f = .next t ∧ s.keeps t :=
  State.core_keeps (fun u => (hf u).andThen (State.settleShared_fixed _)) s

theorem State.post_keeps (hf : ∀ u : State, u.keeps (f u)) (s : State) (off : Nat) (v : Word) : ∃ t, s.post off v f = .next t ∧ s.keeps t := by
  refine ⟨_, rfl, ?_⟩
  split
  · exact (hf _).after rfl
  · exact s.keeps_refl

theorem State.fenCmd_keeps (hf : ∀ u : State, u.keeps (f u)) (s : State) : ∃ t, s.fenCmd f = .next t ∧ s.keeps t := by
  refine ⟨_, rfl, ?_⟩
  split
  · exact hf s
  · exact s.keeps_refl

theorem State.sbusCmd_keeps (hf : ∀ u : State, u.keeps (f u)) (s : State) (n : Nat) : ∃ t, s.sbusCmd n f = .next t ∧ s.keeps t := by
  unfold State.sbusCmd
  split
  · exact s.fenCmd_keeps hf
  · exact s.core_keeps hf

end Rows

/-- Whatever the command and the state, it answers a next state, with the queue, the part, the burned fuses and the safety of the keys kept. -/
theorem exec_keeps (c : Instr) (s : State) : ∃ t, exec c s = .next t ∧ s.keeps t := by
  unfold exec
  cases c
  case csrWrite pf1 width off v => exact State.post_keeps (fun u => u.doCsrWrite_keeps _ _ _ _ _) s off v
  case registerWrite => exact State.start_keeps (fun u => u.doRegisterWrite_keeps _ _ _) s _ _
  case norReboot => exact State.post_keeps (fun u => u.doReboot_keeps _) s _ _
  case railPgRise => exact State.fenCmd_keeps (fun u => u.doPgRise_keeps _ _) s
  case railSettleExpire => exact State.fenCmd_keeps (fun u => u.doSettle_keeps _) s
  case railStepTimeout => exact State.fenCmd_keeps (fun u => u.doStepTimeout_keeps) s
  case fenRailDrop => exact State.fenCmd_keeps (fun u => u.doRailDrop_keeps _) s
  case vcoreWindowTrip => exact State.fenCmd_keeps (fun u => u.doWindowTrip_keeps) s
  case brownoutBegin => exact State.fenCmd_keeps (fun u => u.doBrownout_keeps) s
  case fenVddLoss => exact State.fenCmd_keeps (fun u => u.unpowered_keeps) s
  case powerFailConfirm => exact State.fenCmd_keeps (fun u => u.doPfConfirm_keeps _) s
  case provisionBegin => exact State.start_keeps (fun u => doProvisionBegin_keeps _ u) s _ _
  case provisionCommit => exact State.start_keeps (fun u => doProvisionCommit_keeps _ _ _ u) s _ _
  case save h => exact State.start_keeps (fun u => (State.confirmFail_keeps _ _ _).after (u.complete_fixed h .ok [])) s _ _
  case secure | returnUnit | scrap => exact State.start_keeps (fun u => doLifeCommand_keeps _ _ _ u) s _ _
  case advanceRollback => exact State.start_keeps (fun u => doAdvanceRollback_keeps _ u) s _ _
  case fuseBurnDone => exact State.core_keeps (fun u => doFuseBurnDone_keeps State.resequence_keeps State.bootImage_keeps _ u) s
  case signatureVerifyDone => exact State.core_keeps (fun u => doSignatureVerifyDone_keeps u) s
  case drbgReseed => exact State.core_keeps (fun u => u.doReseed_keeps _) s
  case lksCodeViolation => exact State.core_keeps (fun u => u.doCodeViolation_keeps _) s
  case lksInject => exact State.core_keeps (fun u => u.doInject_keeps _ _) s
  case lksTestDone => exact State.core_keeps (fun u => u.doTestVector_keeps _ _) s
  case tierCloseDone => exact State.core_keeps (fun u => u.doTierClose_keeps) s
  case saveStreamDone => exact State.core_keeps (fun u => u.doStreamDone_keeps _ _ _) s
  case gateCommandArrive | gateWindowClose | norWindowWrite =>
    refine State.next_keeps ?_
    split
    · exact s.keeps_refl
    · exact State.keeps_of_fixed (by simp)
  case weftStallCfgWrite | trnWriteReadCompare | trnReadCompare | trnSweep | trnRcdLoopback | trnSetReady | maintClean | maintCleanInvalidate
      | scanStart | thmLockSet | evtPendClear | evtMaskWrite | monSnap | peatSnapTake | pcieDoorbell | pcieCplHead =>
    exact State.post_keeps (fun u => State.keeps_of_fixed (by simp)) s _ _
  case powerFailIndication | powerFailGlitch | mainInputGood | powerButton | powerOnStart | railDelayExpire | seqRetryWaitExpire |
      resetStretchExpire | vcoreStep | vcoreCheck | monTrip | batRateLow | batRateHigh | batRead | batPresenceChange | batAuthStart | batAuthRead
      | socOcvReset | fenBatFull | energyEstimate | brownoutResume | railRemoveDelayExpire | fenSample | batAuthRetry =>
    exact State.fenCmd_keeps (fun u => State.keeps_of_fixed (by simp)) s
  case seamBeatReceive | seamLinkUp | seamLinkDown | mackReceive | departReceive | tackBeatReceive | yieldReceive | pathLost | pairWaitExpire
      | witnessGrant | fenDozeExit | dozeTwinGraceEnd =>
    exact State.pairRow_keeps (fun u => State.keeps_of_fixed (by simp)) s
  case fenVddRise =>
    exact State.next_keeps (State.keeps_of_fixed (by simp))
  case sbusEnable | sbusRecoveryRetry | sbusSclTimeout | sbusTransactionDone =>
    exact State.sbusCmd_keeps (fun u => State.keeps_of_fixed (by simp)) s _
  case query | registerRead | fence | test | rejoin | retireFrame | retireBank | acceptOlderImage | discardImage | doze | giveBack |
      setTime | witnessToken | keySlot | contextSave | contextRestore | debugChallenge | debugOpen | debugClose | peatClear | subscribe =>
    exact State.start_keeps (fun u => State.keeps_of_fixed (by simp)) s _ _
  case createDomain | destroyDomain | createQp | modifyQp | destroyQp | postReceive | createSrq | register | deregister | repair | sync |
      setExtent | discard | tableWrite | channelCreate | channelClose | attachPublisher | detachPublisher | attachSubscriber | resume | remove =>
    exact s.sharedRow_keeps _ _
  all_goals exact State.core_keeps (fun u => State.keeps_of_fixed (by simp)) s

/-- A step runs the command at the front, without its place in the queue, or one cycle of the clock. -/
theorem step_part_fuses_safe {s t : State} (h : step s = .next t) : t.part = s.part ∧ s.fuses.advances t.fuses ∧ (s.keysSafe → t.keysSafe) := by
  unfold step at h
  split at h
  · rename_i c rest _
    obtain ⟨u, hu, hk⟩ := exec_keeps c { s with pending := rest }
    obtain rfl : u = t := by rw [hu] at h; exact Host.Outcome.next.inj h
    exact ⟨hk.part, hk.fuses, hk.safe⟩
  · have hk : s.keeps t := State.keeps_of_fixed (by rw [← Host.Outcome.next.inj h, State.tick_fixed])
    exact ⟨hk.part, hk.fuses, hk.safe⟩

/-- Settles O2: no row refuses, and none reaches the queue. -/
theorem everyCommandAnswers : Obligations.EveryCommandAnswers := by
  unfold Obligations.EveryCommandAnswers
  intro c s
  obtain ⟨t, ht, hk⟩ := exec_keeps c s
  exact ⟨t, ht, hk.pending⟩

/-- Settles O4: the only writer of the fuses is a burn that reads back, and a burn goes forward. -/
theorem fusesOneWay : Obligations.FusesOneWay := by
  unfold Obligations.FusesOneWay
  intro s t h
  obtain ⟨hpart, hfuses, -⟩ := step_part_fuses_safe h
  exact ⟨hfuses, hpart⟩

/-- Settles O5: every sequence that starts has the keys destroyed before it burns RETURNED or SCRAPPED. -/
theorem keysSafeKept : Obligations.KeysSafeKept := by
  unfold Obligations.KeysSafeKept
  intro s t hs h
  obtain ⟨-, -, hsafe⟩ := step_part_fuses_safe h
  exact hsafe hs

end Sys2Proof.Machine
end

section
set_option Elab.async false
/-! PROOFS. The rules of the register file and of raises, in the form that `simp` uses: what a field reads after a write, a raise or a
completion, and what these leave alone. -/

namespace Sys2Proof.Machine

variable {s t : State} {f g : Fld}

/-! ### A field reads the registers and the part only -/

/-- The value of a field in a register file of a part. -/
def fldIn (p : Part) (c : List (Nat × Word)) (f : Fld) : Nat := bitsOf ((alGet c f.off).getD (resetWord p f.off)) f.hi f.lo

theorem State.fld_congr (hp : t.part = s.part) (hc : t.csr = s.csr) (f : Fld) : t.fld f = s.fld f := by
  unfold State.fld State.reg
  rw [hp, hc]

theorem State.fld_eq_fldIn (s : State) (f : Fld) : s.fld f = fldIn s.part s.csr f := rfl

@[simp] theorem fldIn_csr {p : Part} (h : p = s.part) : fldIn p s.csr f = s.fld f := h ▸ rfl

@[simp] theorem State.fld_mk
    pending free part mode prevMode changes mrtQ csr latch out kept gate weft spool ev mons peatQ peatSnap pcie pcieHeld mqpOut sbus cryp scan
    lks fuses thm clk save pf brownout entries descs shared tlr fetches parks pops retFrames retBanks retRecs serials moved nc ports fencedAt
    seam tests nand svn area drams dmarks fen doze nor boot :
    (State.mk pending free part mode prevMode changes mrtQ csr latch out kept gate weft spool ev mons peatQ peatSnap pcie pcieHeld mqpOut sbus cryp scan
      lks fuses thm clk save pf brownout entries descs shared tlr fetches parks pops retFrames retBanks retRecs serials moved nc ports fencedAt
      seam tests nand svn area drams dmarks fen doze nor boot).fld f = fldIn part csr f := by
  simp only [State.fld_eq_fldIn]

@[simp] theorem State.bit_mk
    pending free part mode prevMode changes mrtQ csr latch out kept gate weft spool ev mons peatQ peatSnap pcie pcieHeld mqpOut sbus cryp scan
    lks fuses thm clk save pf brownout entries descs shared tlr fetches parks pops retFrames retBanks retRecs serials moved nc ports fencedAt
    seam tests nand svn area drams dmarks fen doze nor boot :
    (State.mk pending free part mode prevMode changes mrtQ csr latch out kept gate weft spool ev mons peatQ peatSnap pcie pcieHeld mqpOut sbus cryp scan
      lks fuses thm clk save pf brownout entries descs shared tlr fetches parks pops retFrames retBanks retRecs serials moved nc ports fencedAt
      seam tests nand svn area drams dmarks fen doze nor boot).bit f = (fldIn part csr f != 0) := by
  simp only [State.bit, State.fld_mk]

@[simp] theorem State.fld_ne_zero (s : State) (f : Fld) : (s.fld f != 0) = s.bit f := rfl

@[simp] theorem State.fld_begun (s : State) (f : Fld) : s.begun.fld f = s.fld f := State.fld_congr rfl rfl f

@[simp] theorem State.bit_begun (s : State) (f : Fld) : s.begun.bit f = s.bit f := by
  rw [State.bit, State.fld_begun, State.bit]

theorem State.fld_taken (s : State) (f : Fld) : s.taken.fld f = s.fld f := State.fld_congr rfl rfl f

theorem State.bit_taken (s : State) (f : Fld) : s.taken.bit f = s.bit f := by
  rw [State.bit, State.fld_taken, State.bit]

/-! ### Writes -/

@[simp] theorem State.fld_setFld_ne (s : State) (v : Nat) (h : f.lo ≤ f.hi) (h32 : f.hi < 32)
    (hd : f.off ≠ g.off ∨ f.hi < g.lo ∨ g.hi < f.lo) : (s.setFld f v).fld g = s.fld g :=
  s.fld_setFld_other f g v ⟨h, h32⟩ hd

@[simp] theorem State.bit_setFld_ne (s : State) (v : Nat) (h : f.lo ≤ f.hi) (h32 : f.hi < 32)
    (hd : f.off ≠ g.off ∨ f.hi < g.lo ∨ g.hi < f.lo) : (s.setFld f v).bit g = s.bit g :=
  s.bit_setFld_other f g v ⟨h, h32⟩ hd

@[simp] theorem State.fld_setBit_ne (s : State) (b : Bool) (h : f.lo ≤ f.hi) (h32 : f.hi < 32)
    (hd : f.off ≠ g.off ∨ f.hi < g.lo ∨ g.hi < f.lo) : (s.setBit f b).fld g = s.fld g :=
  s.fld_setFld_other f g _ ⟨h, h32⟩ hd

@[simp] theorem State.bit_setBit_ne (s : State) (b : Bool) (h : f.lo ≤ f.hi) (h32 : f.hi < 32)
    (hd : f.off ≠ g.off ∨ f.hi < g.lo ∨ g.hi < f.lo) : (s.setBit f b).bit g = s.bit g :=
  s.bit_setFld_other f g _ ⟨h, h32⟩ hd

@[simp] theorem State.fld_wrap_ne (s : State) (n : Nat) (h : f.lo ≤ f.hi) (h32 : f.hi < 32)
    (hd : f.off ≠ g.off ∨ f.hi < g.lo ∨ g.hi < f.lo) : (s.wrap f n).fld g = s.fld g :=
  s.fld_setFld_other f g _ ⟨h, h32⟩ hd

@[simp] theorem State.bit_wrap_ne (s : State) (n : Nat) (h : f.lo ≤ f.hi) (h32 : f.hi < 32)
    (hd : f.off ≠ g.off ∨ f.hi < g.lo ∨ g.hi < f.lo) : (s.wrap f n).bit g = s.bit g :=
  s.bit_setFld_other f g _ ⟨h, h32⟩ hd

@[simp] theorem State.fld_sat_ne (s : State) (n : Nat) (h : f.lo ≤ f.hi) (h32 : f.hi < 32)
    (hd : f.off ≠ g.off ∨ f.hi < g.lo ∨ g.hi < f.lo) : (s.sat f n).fld g = s.fld g :=
  s.fld_setFld_other f g _ ⟨h, h32⟩ hd

@[simp] theorem State.bit_sat_ne (s : State) (n : Nat) (h : f.lo ≤ f.hi) (h32 : f.hi < 32)
    (hd : f.off ≠ g.off ∨ f.hi < g.lo ∨ g.hi < f.lo) : (s.sat f n).bit g = s.bit g :=
  s.bit_setFld_other f g _ ⟨h, h32⟩ hd

@[simp] theorem State.fld_setFld_eq (s : State) (v : Nat) (h : f.lo ≤ f.hi) (h32 : f.hi < 32) : (s.setFld f v).fld f = v % 2 ^ (f.hi + 1 - f.lo) :=
  s.fld_setFld_same f v ⟨h, h32⟩

theorem State.fld_setFld_of_lt (s : State) (v : Nat) (hv : v < 2 ^ (f.hi + 1 - f.lo)) (h : f.lo ≤ f.hi) (h32 : f.hi < 32) :
    (s.setFld f v).fld f = v := s.fld_setFld_fits f v hv ⟨h, h32⟩

@[simp] theorem State.bit_setBit_eq (s : State) (b : Bool) (h : f.lo ≤ f.hi) (h32 : f.hi < 32) : (s.setBit f b).bit f = b :=
  s.bit_setBit_same f b ⟨h, h32⟩

@[simp] theorem State.fld_wrap_eq (s : State) (n : Nat) (h : f.lo ≤ f.hi) (h32 : f.hi < 32) :
    (s.wrap f n).fld f = (s.fld f + n) % 2 ^ (f.hi + 1 - f.lo) :=
  s.fld_setFld_eq _ h h32

@[simp] theorem State.fld_setPair_lo (s : State) (v : Nat) (h : f.lo ≤ f.hi) (h32 : f.hi < 32) (hg : g.lo ≤ g.hi) (hg32 : g.hi < 32)
    (hd : g.off ≠ f.off) : (s.setPair f g v).fld f = v % 2 ^ (f.hi + 1 - f.lo) := by
  rw [State.setPair, State.fld_setFld_ne _ _ hg hg32 (.inl hd), State.fld_setFld_eq _ _ h h32]

@[simp] theorem State.fld_setPair_hi (s : State) (v : Nat) (hg : g.lo ≤ g.hi) (hg32 : g.hi < 32) :
    (s.setPair f g v).fld g = v / 2 ^ 32 % 2 ^ (g.hi + 1 - g.lo) := State.fld_setFld_eq _ _ hg hg32

@[simp] theorem State.fld_setPair_ne {k : Fld} (s : State) (v : Nat) (h : f.lo ≤ f.hi) (h32 : f.hi < 32) (hg : g.lo ≤ g.hi) (hg32 : g.hi < 32)
    (hf : f.off ≠ k.off) (hgk : g.off ≠ k.off) : (s.setPair f g v).fld k = s.fld k := by
  rw [State.setPair, State.fld_setFld_ne _ _ hg hg32 (.inl hgk), State.fld_setFld_ne _ _ h h32 (.inl hf)]

@[simp] theorem State.bit_setPair_ne {k : Fld} (s : State) (v : Nat) (h : f.lo ≤ f.hi) (h32 : f.hi < 32) (hg : g.lo ≤ g.hi) (hg32 : g.hi < 32)
    (hf : f.off ≠ k.off) (hgk : g.off ≠ k.off) : (s.setPair f g v).bit k = s.bit k := by
  rw [State.bit, State.fld_setPair_ne s v h h32 hg hg32 hf hgk, State.bit]

/-- A 64-bit value put into a pair of full registers is read there. -/
theorem State.pair_setPair (s : State) (v : Nat) (h : f.lo = 0 ∧ f.hi = 31) (hg : g.lo = 0 ∧ g.hi = 31) (hd : g.off ≠ f.off) :
    (s.setPair f g v).pair f g = v % 2 ^ 64 := by
  obtain ⟨hl, hh⟩ := h
  obtain ⟨gl, gh⟩ := hg
  rw [State.pair, State.fld_setPair_lo _ _ (by omega) (by omega) (by omega) (by omega) hd,
    State.fld_setPair_hi _ _ (by omega) (by omega), hl, hh, gl, gh]
  omega

/-! ### Raises and completions -/

/-- The register is none of those that a raise can write. -/
abbrev notEvent (off : Nat) : Prop :=
  (off < 0x30100 ∨ 0x301A0 ≤ off) ∧ off ≠ F.EVT_OVF_frames.off ∧ off ≠ F.PEAT_STATUS_lost.off

theorem eventRegister_eq_false {off : Nat} (h : notEvent off) : eventRegister off = false := by
  obtain ⟨h1, h2, h3⟩ := h
  simp only [eventRegister, Bool.or_eq_false_iff, Bool.and_eq_false_iff, decide_eq_false_iff_not, beq_eq_false_iff_ne]
  exact ⟨⟨h1.imp (by omega) (by omega), h2⟩, h3⟩

@[simp] theorem State.fld_raise (s : State) (ev n : Nat) (hev : ev < 640) (h : f.off < 0x30100 ∨ 0x301A0 ≤ f.off)
    (h2 : f.off ≠ F.EVT_OVF_frames.off) (h3 : f.off ≠ F.PEAT_STATUS_lost.off) : (s.raise ev n).fld f = s.fld f :=
  (s.raise_only ev n hev).fld f (eventRegister_eq_false ⟨h, h2, h3⟩)

@[simp] theorem State.bit_raise (s : State) (ev n : Nat) (hev : ev < 640) (h : f.off < 0x30100 ∨ 0x301A0 ≤ f.off)
    (h2 : f.off ≠ F.EVT_OVF_frames.off) (h3 : f.off ≠ F.PEAT_STATUS_lost.off) : (s.raise ev n).bit f = s.bit f :=
  (s.raise_only ev n hev).bit f (eventRegister_eq_false ⟨h, h2, h3⟩)

@[simp] theorem State.fld_complete (s : State) (k : Hdr) (st : Status) (l : List Nat) (h : f.off < 0x30100 ∨ 0x301A0 ≤ f.off)
    (h2 : f.off ≠ F.EVT_OVF_frames.off) (h3 : f.off ≠ F.PEAT_STATUS_lost.off) : (s.complete k st l).fld f = s.fld f :=
  (s.complete_only k st l).fld f (eventRegister_eq_false ⟨h, h2, h3⟩)

@[simp] theorem State.bit_complete (s : State) (k : Hdr) (st : Status) (l : List Nat) (h : f.off < 0x30100 ∨ 0x301A0 ≤ f.off)
    (h2 : f.off ≠ F.EVT_OVF_frames.off) (h3 : f.off ≠ F.PEAT_STATUS_lost.off) : (s.complete k st l).bit f = s.bit f :=
  (s.complete_only k st l).bit f (eventRegister_eq_false ⟨h, h2, h3⟩)

/-! ### Frames -/

theorem State.sameButEvents.setFld (h : s.sameButEvents t) (f : Fld) (v : Nat) : s.sameButEvents (t.setFld f v) :=
  h.trans (t.setFld_sameButEvents f v)

theorem State.sameButEvents.raise (h : s.sameButEvents t) (ev n : Nat) : s.sameButEvents (t.raise ev n) := h.trans (t.raise_same ev n)

theorem State.sameButEvents.ite {a b : State} {p : Prop} [Decidable p] (ha : s.sameButEvents a) (hb : s.sameButEvents b) :
    s.sameButEvents (if p then a else b) := by split <;> assumption

theorem State.regsKept.mono {l k : List Nat} (h : s.regsKept t l) (hlk : ∀ x ∈ l, x ∈ k) : s.regsKept t k :=
  fun off hk he => h off (fun hl => hk (hlk off hl)) he

theorem State.regsKept.setFld {l : List Nat} (h : s.regsKept t l) (v : Nat) (hf : f.off ∈ l) : s.regsKept (t.setFld f v) l :=
  (h.trans (t.setFld_regsKept f v)).mono (by simp [or_imp, hf])

theorem State.regsKept.raise {l : List Nat} (h : s.regsKept t l) (ev n : Nat) (hev : ev < 640) : s.regsKept (t.raise ev n) l := by
  simpa using h.trans (t.raise_only ev n hev).2

theorem State.regsKept.ite {a b : State} {p : Prop} [Decidable p] {l : List Nat} (ha : s.regsKept a l) (hb : s.regsKept b l) :
    s.regsKept (if p then a else b) l := by split <;> assumption

/-- A change outside the registers and the part keeps every register. -/
theorem State.regsKept_of_csr {l : List Nat} (hp : t.part = s.part) (hc : t.csr = s.csr) : s.regsKept t l := by
  intro off _ _
  unfold State.reg
  rw [hp, hc]

/-! ### Registers only -/

/-- Nothing changed but registers. -/
def State.onlyRegs (s t : State) : Prop := t = { s with csr := t.csr }

theorem State.onlyRegs.rfl : s.onlyRegs s := by unfold State.onlyRegs; cases s; simp

theorem State.onlyRegs.trans {u : State} (h : s.onlyRegs t) (k : t.onlyRegs u) : s.onlyRegs u := by
  unfold State.onlyRegs at *; rw [k, h]

theorem State.onlyRegs.setFld (h : s.onlyRegs t) (f : Fld) (v : Nat) : s.onlyRegs (t.setFld f v) := by
  unfold State.onlyRegs at h; rw [h]; exact Eq.refl _

theorem State.onlyRegs.ite {a b : State} {p : Prop} [Decidable p] (ha : s.onlyRegs a) (hb : s.onlyRegs b) : s.onlyRegs (if p then a else b) := by
  split <;> assumption

theorem State.onlyRegs.forUp {h : Nat → State → State} (hh : ∀ i (s : State), s.onlyRegs (h i s)) :
    ∀ (k i : Nat) (s : State), s.onlyRegs (Machine.forUp h k i s)
  | 0, _, _ => .rfl
  | k + 1, i, s => (hh i s).trans (State.onlyRegs.forUp hh k (i + 1) (h i s))

theorem State.onlyRegs.foldl {α : Type} {h : State → α → State} (hh : ∀ (s : State) a, s.onlyRegs (h s a)) (l : List α) (s : State) :
    s.onlyRegs (l.foldl h s) := by
  induction l generalizing s with
  | nil => exact .rfl
  | cons a l ih => exact (hh s a).trans (ih _)

end Sys2Proof.Machine
end

section
set_option Elab.async false
/-! PROOFS. Pending, masked and routed raises (R356, R357), and the statement about them. -/

namespace Sys2Proof.Machine

variable {s t : State}

/-! ### A row whose turn it is -/

theorem State.core_runs (hs : s.runs) (f : State → State) : s.core f = .next (f s) := by rw [State.core, if_neg hs]

theorem State.post_passes {off : Nat} {v : Word} (hs : s.passes off v) (f : State → State) : s.post off v f = .next (f s.taken) := by
  rw [State.post, if_pos hs]

theorem State.start_starts {h : Hdr} {c : Cmd} (hs : s.starts h c) (f : State → State) : s.start h c f = .next (f s.begun) := by
  rw [State.start, if_pos hs]

/-! ### The pending bit -/

theorem State.pended_setPend (s : State) (ev n : Nat) :
    (s.setFld (F.EVT_PENDg_pend (ev / 16)) (s.fld (F.EVT_PENDg_pend (ev / 16)) ||| n)).pended ev = (s.pended ev || n.testBit (ev % 16)) := by
  have hlt : ev % 16 < 16 := Nat.mod_lt _ (by decide)
  rw [State.pended, State.fld_setFld_eq _ _ (by simp) (by simp), Nat.testBit_mod_two_pow, Nat.testBit_or]
  simp [hlt, State.pended]

/-- A pending bit of another source keeps its value when a bit is added. -/
theorem State.pended_addPend (s : State) (ev b : Nat) (h : s.pended ev = true) :
    (s.setFld (F.EVT_PENDg_pend (b / 16)) (s.fld (F.EVT_PENDg_pend (b / 16)) ||| 2 ^ (b % 16))).pended ev = true := by
  by_cases hg : ev / 16 = b / 16
  · have := s.pended_setPend ev (2 ^ (b % 16))
    rw [hg] at this
    rw [this, h, Bool.true_or]
  · rw [State.pended, State.fld_setFld_ne _ _ (by simp) (by simp) (by simp; omega)]
    exact h

/-- The registers of EVT_PENDg keep their values under what a raise does beside setting a bit. -/
def State.pendKept (s t : State) : Prop := ∀ ev, ev < 640 → t.pended ev = s.pended ev

theorem State.pendKept_of_csr (hp : t.part = s.part) (hc : t.csr = s.csr) : s.pendKept t := fun ev _ => by
  rw [State.pended, State.fld_congr hp hc, State.pended]

theorem State.pended_setFld_ne (s : State) (f : Fld) (v ev : Nat) (hev : ev < 640) (h : f.lo ≤ f.hi) (h32 : f.hi < 32)
    (hf : f.off < 0x30100 ∨ 0x301A0 ≤ f.off) : (s.setFld f v).pended ev = s.pended ev := by
  rw [State.pended, State.fld_setFld_ne _ _ h h32 (.inl (by simp only; omega)), State.pended]

theorem State.pendKept.trans {u : State} (h : s.pendKept t) (k : t.pendKept u) : s.pendKept u := fun ev he => (k ev he).trans (h ev he)

theorem State.pendKept.rfl : s.pendKept s := fun _ _ => .refl _

theorem State.pendKept.ite {a b : State} {p : Prop} [Decidable p] (ha : s.pendKept a) (hb : s.pendKept b) : s.pendKept (if p then a else b) := by
  split <;> assumption

theorem State.sendMsix_pendKept (s : State) (pf vector : Nat) : s.pendKept (s.sendMsix pf vector) := by
  unfold State.sendMsix
  exact .ite .rfl (.ite (State.pendKept_of_csr rfl rfl) (State.pendKept_of_csr rfl rfl))

theorem State.msixRoute_pendKept (s : State) (ev : Nat) : s.pendKept (s.msixRoute ev) := .ite (s.sendMsix_pendKept _ _) .rfl

theorem State.peatPush_pendKept (s : State) (ev inst : Nat) : s.pendKept (s.peatPush ev inst) := by
  unfold State.peatPush
  exact .ite .rfl (.ite (State.pendKept_of_csr rfl rfl) fun ev he => State.pended_setFld_ne _ _ _ _ he (by decide) (by decide) (by decide))

theorem State.pushEntry_pendKept (s : State) (e : Entry) : s.pendKept (s.pushEntry e) := by
  unfold State.pushEntry
  split
  · exact .ite (State.pendKept_of_csr rfl rfl) (.ite (State.pendKept_of_csr rfl rfl) fun ev he =>
      (State.pended_setFld_ne _ _ _ _ he (by decide) (by decide) (by decide)).trans (State.pendKept_of_csr rfl rfl ev he))
  · exact State.pendKept_of_csr rfl rfl

theorem State.frameRoute_pendKept (s : State) (ev inst : Nat) : s.pendKept (s.frameRoute ev inst) := by
  unfold State.frameRoute
  split
  dsimp only
  split
  · exact .ite (State.pendKept_of_csr rfl rfl) (s.pushEntry_pendKept _)
  · exact s.pushEntry_pendKept _

/-- What a raise does once its bit is set leaves every pending bit. -/
theorem State.raiseOne_pended (s : State) (b inst ev : Nat) (hev : ev < 640) : (s.raiseOne b inst).pended ev =
    (s.setFld (F.EVT_PENDg_pend (b / 16)) (s.fld (F.EVT_PENDg_pend (b / 16)) ||| 2 ^ (b % 16))).pended ev := by
  refine State.pendKept.trans (State.peatPush_pendKept _ b inst) ?_ ev hev
  refine .ite .rfl ?_
  have hmsix := State.pendKept.ite (p := s.pended b = true) .rfl (State.msixRoute_pendKept (State.peatPush (s.setFld (F.EVT_PENDg_pend (b / 16))
    (s.fld (F.EVT_PENDg_pend (b / 16)) ||| 2 ^ (b % 16))) b inst) b)
  exact .ite (hmsix.trans (State.frameRoute_pendKept _ _ _)) hmsix

/-- A raise leaves the bits that are pending. -/
theorem State.raiseOne_pended_of_pended (s : State) (b inst ev : Nat) (hev : ev < 640) (h : s.pended ev = true) :
    (s.raiseOne b inst).pended ev = true := by
  rw [State.raiseOne_pended _ _ _ _ hev, State.pended_addPend _ _ _ h]

/-- A raise sets the source's pending bit (R356). -/
theorem State.pended_raise (s : State) (ev inst : Nat) (hev : ev < 640) (hm : s.mode ≠ .reset) (hf : s.fusedEvent ev = false) :
    (s.raise ev inst).pended ev = true := by
  have hone : (s.raiseOne ev inst).pended ev = true := by
    rw [State.raiseOne_pended _ _ _ _ hev, State.pended_setPend]
    simp
  unfold State.raise State.overflowOnce
  rw [if_neg (by simp [hm, hf])]
  split
  · exact State.raiseOne_pended_of_pended _ _ _ _ hev hone
  · exact hone

/-- A later raise leaves a pending bit pending. -/
theorem State.pended_raise_of_pended (s : State) (ev b inst : Nat) (hev : ev < 640) (h : s.pended ev = true) :
    (s.raise b inst).pended ev = true := by
  unfold State.raise State.overflowOnce
  split
  · exact h
  · split
    · exact State.raiseOne_pended_of_pended _ _ _ _ hev (State.raiseOne_pended_of_pended _ _ _ _ hev h)
    · exact State.raiseOne_pended_of_pended _ _ _ _ hev h

/-! ### What leaves -/

theorem State.masked_congr (ev : Nat) (h : t.fld (F.EVT_MASKg_mask (ev / 16)) = s.fld (F.EVT_MASKg_mask (ev / 16))) :
    t.masked ev = s.masked ev := by rw [State.masked, h, State.masked]

@[simp] theorem State.peatPush_out (s : State) (ev inst : Nat) : (s.peatPush ev inst).out = s.out := by
  unfold State.peatPush
  (repeat' split) <;> simp

@[simp] theorem State.peatPush_ev (s : State) (ev inst : Nat) : (s.peatPush ev inst).ev = s.ev := by
  unfold State.peatPush
  (repeat' split) <;> simp

@[simp] theorem State.peatPush_mode (s : State) (ev inst : Nat) : (s.peatPush ev inst).mode = s.mode := (s.peatPush_only ev inst).1.mode
@[simp] theorem State.peatPush_save (s : State) (ev inst : Nat) : (s.peatPush ev inst).save = s.save := (s.peatPush_only ev inst).1.save
@[simp] theorem State.peatPush_mrtQ (s : State) (ev inst : Nat) : (s.peatPush ev inst).mrtQ = s.mrtQ := (s.peatPush_only ev inst).1.mrtQ
@[simp] theorem State.peatPush_clk (s : State) (ev inst : Nat) : (s.peatPush ev inst).clk = s.clk := (s.peatPush_only ev inst).1.clk

@[simp] theorem State.fld_peatPush {f : Fld} (s : State) (ev inst : Nat) (h : f.off < 0x30100 ∨ 0x301A0 ≤ f.off)
    (h2 : f.off ≠ F.EVT_OVF_frames.off) (h3 : f.off ≠ F.PEAT_STATUS_lost.off) : (s.peatPush ev inst).fld f = s.fld f :=
  (s.peatPush_only ev inst).fld f (eventRegister_eq_false ⟨h, h2, h3⟩)

/-- The mask and the routes of an event, which its raise reads, are not among the registers the raise has set before. -/
theorem State.fld_pendPush {f : Fld} (s : State) (g v ev inst : Nat) (hg : g < 40) (h : f.off < 0x30100 ∨ 0x301A0 ≤ f.off)
    (h2 : f.off ≠ F.EVT_OVF_frames.off) (h3 : f.off ≠ F.PEAT_STATUS_lost.off) :
    ((s.setFld (F.EVT_PENDg_pend g) v).peatPush ev inst).fld f = s.fld f := by
  rw [State.fld_peatPush _ _ _ h h2 h3, State.fld_setFld_ne _ _ (by simp) (by simp) (.inl (by simp only; omega))]

theorem State.raiseOne_masked (s : State) (ev inst : Nat) (hev : ev < 640) (hm : s.masked ev = true) :
    (s.raiseOne ev inst).out = s.out ∧ (s.raiseOne ev inst).ev = s.ev := by
  have hmask : ((s.setFld (F.EVT_PENDg_pend (ev / 16)) (s.fld (F.EVT_PENDg_pend (ev / 16)) ||| 2 ^ (ev % 16))).peatPush ev inst).masked ev = true := by
    rw [State.masked_congr ev (s.fld_pendPush _ _ ev inst (by omega) (by simp; omega) (by simp; omega) (by simp; omega)), hm]
  unfold State.raiseOne
  dsimp only
  rw [if_pos hmask]
  simp

/-- An unmasked raise with the frame route on and no entry of its source noted enters a frame at once (R356). -/
theorem State.raiseOne_frame (s : State) (ev inst : Nat) (hev : ev < 640) (hm : s.masked ev = false)
    (hf : s.bit (F.EVT_ROUTEn_frame_en ev) = true) (hq : s.quiet = false) (hfr : s.ev.frames = []) (hl : alGet s.ev.last ev = none)
    (hh : alGet s.ev.held ev = none) (hx : s.bit (F.EVT_ROUTEn_msix_en ev) = false) :
    (s.raiseOne ev inst).ev.frames = [⟨s.mrt, s.commit, [⟨ev, inst, 1⟩]⟩] ∧ (s.raiseOne ev inst).ev.fullSeen = s.ev.fullSeen := by
  generalize hu : (s.setFld (F.EVT_PENDg_pend (ev / 16)) (s.fld (F.EVT_PENDg_pend (ev / 16)) ||| 2 ^ (ev % 16))).peatPush ev inst = u
  have hfld : ∀ f : Fld, notEvent f.off → u.fld f = s.fld f := fun f h => hu ▸ s.fld_pendPush _ _ ev inst (by omega) h.1 h.2.1 h.2.2
  have hmask : u.masked ev = false := by
    rw [State.masked_congr ev (hfld _ ⟨by simp; omega, by simp; omega, by simp; omega⟩), hm]
  have hfe : u.bit (F.EVT_ROUTEn_frame_en ev) = true := by
    rw [State.bit, hfld _ ⟨by simp; omega, by simp; omega, by simp; omega⟩]
    exact hf
  have hxe : u.bit (F.EVT_ROUTEn_msix_en ev) = false := by
    rw [State.bit, hfld _ ⟨by simp; omega, by simp; omega, by simp; omega⟩]
    exact hx
  have hev' : u.ev = s.ev := by rw [← hu]; simp
  have hquiet : u.quiet = false := by rw [← hq, State.quiet, State.quiet, ← hu]; simp
  have hmrt : u.mrt = s.mrt := by rw [State.mrt, ← hu]; simp [State.mrt]
  have hcommit : u.commit = s.commit := by rw [State.commit, ← hu]; simp [State.commit]
  unfold State.raiseOne
  simp only [hu]
  have hroute : (if s.pended ev = true then u else u.msixRoute ev) = u := by
    unfold State.msixRoute
    simp [hxe]
  rw [if_neg (by simp [hmask]), hroute, if_pos (by simp [hfe, hquiet])]
  unfold State.frameRoute
  simp [hev', alGetD, hh, hl, State.pushEntry, hfr, hmrt, hcommit]

/-! ### Writes of the pending and mask registers -/

theorem State.unmaskedSource_same (s : State) (g old new i : Nat) : s.sameButEvents (unmaskedSource g old new i s) :=
  .ite (State.onlyEvents.ite (State.sendMsix_only _ _ _) .rfl).1 .rfl

theorem State.unmaskedSource_csr (s : State) (g old new i : Nat) : (unmaskedSource g old new i s).csr = s.csr := by
  unfold unmaskedSource State.msixRoute State.sendMsix
  (repeat' split) <;> rfl

/-- Nothing leaves for a source that its mask bit or its pending bit says nothing of. -/
theorem State.unmaskedSource_quiet (s : State) (g old new i : Nat) (h : (old.testBit i && !new.testBit i && s.pended (16 * g + i)) = false) :
    unmaskedSource g old new i s = s := by
  rw [unmaskedSource, if_neg (by simp [h])]

theorem State.forUp_unmasked (g old new : Nat) : ∀ (k i : Nat) (s : State),
    s.sameButEvents (forUp (unmaskedSource g old new) k i s) ∧ (forUp (unmaskedSource g old new) k i s).csr = s.csr ∧
      ((∀ j, i ≤ j → j < i + k → (old.testBit j && !new.testBit j && s.pended (16 * g + j)) = false) →
        forUp (unmaskedSource g old new) k i s = s)
  | 0, _, _ => ⟨.rfl, rfl, fun _ => rfl⟩
  | k + 1, i, s => by
    obtain ⟨hsame, hcsr, hquiet⟩ := State.forUp_unmasked g old new k (i + 1) (unmaskedSource g old new i s)
    refine ⟨(s.unmaskedSource_same g old new i).trans hsame, hcsr.trans (s.unmaskedSource_csr g old new i), fun h => ?_⟩
    rw [s.unmaskedSource_quiet g old new i (h i (by omega) (by omega))] at hquiet
    rw [forUp, s.unmaskedSource_quiet g old new i (h i (by omega) (by omega)), hquiet fun j hj hk => h j (by omega) (by omega)]

/-- A W1C write clears the pending bits written 1 and no others (R357). -/
theorem State.pended_clear (s : State) (g : Nat) (value : Word) (ev : Nat) :
    (doEvtPendClear g value s).pended ev = (s.pended ev && !(ev / 16 == g && value.getLsbD (ev % 16))) := by
  have hlt : ev % 16 < 16 := Nat.mod_lt _ (by decide)
  by_cases hg : ev / 16 = g
  · have hmask : (65535 - value.toNat % 65536).testBit (ev % 16) = !value.getLsbD (ev % 16) := by
      have hsub : 65535 - value.toNat % 65536 = 2 ^ 16 - (value.toNat % 2 ^ 16 + 1) := by omega
      rw [hsub, Nat.testBit_two_pow_sub_succ (Nat.mod_lt _ (by decide)), Nat.testBit_mod_two_pow, BitVec.getLsbD]
      simp [hlt]
    rw [State.pended, doEvtPendClear, hg, State.fld_setFld_eq _ _ (by simp) (by simp), Nat.testBit_mod_two_pow, Nat.testBit_and, hmask]
    simp [hlt, State.pended, hg]
  · rw [State.pended, doEvtPendClear, State.fld_setFld_ne _ _ (by simp) (by simp) (.inl (by simp only; omega))]
    simp [hg, State.pended]

/-- Settles O14: a raise sets one bit of one pending register, and every later step of it reads registers that it has not written. -/
theorem eventRouting : Obligations.EventRouting := by
  unfold Obligations.EventRouting
  refine ⟨?clear, ?mask, fun s ev inst hev hm hf => s.pended_raise ev inst hev hm hf, ?masked, ?framed, ?gap⟩
  case clear =>
    intro s g value hs
    exact ⟨_, State.post_passes hs _, rfl, fun ev => State.pended_clear s.taken g.val value ev.val⟩
  case mask =>
    intro s g value hs
    obtain ⟨hsame, hcsr, hquiet⟩ := State.forUp_unmasked g.val (s.fld (F.EVT_MASKg_mask g.val)) (value.toNat % 65536) 16 0
      (s.taken.setFld (F.EVT_MASKg_mask g.val) (value.toNat % 65536))
    refine ⟨_, State.post_passes hs _, ?_, fun h => ?_, (State.setFld_sameButEvents _ _ _).trans hsame⟩
    · refine (State.fld_congr hsame.part hcsr _).trans ?_
      rw [State.fld_setFld_eq _ _ (by simp) (by simp)]
      simp
    · refine (congrArg State.out (hquiet fun j _ hj => ?_)).trans rfl
      have hj16 : j < 16 := by omega
      have hg : 16 * g.val + j < 640 := by omega
      have hj' := List.all_eq_true.1 h j (List.mem_range.2 hj16)
      rw [State.pended_setFld_ne _ _ _ _ hg (by simp) (by simp) (by simp only; omega)]
      have hbit : (value.toNat % 65536).testBit j = value.getLsbD j := by
        rw [show 65536 = 2 ^ 16 by rfl, Nat.testBit_mod_two_pow, BitVec.getLsbD]
        simp [hj16]
      rw [hbit]
      rw [Bool.not_eq_true'] at hj'
      exact hj'
  case masked =>
    intro s ev inst hev hm hfull
    obtain ⟨hout, hev'⟩ := s.raiseOne_masked ev inst hev hm
    unfold State.raise State.overflowOnce
    split
    · exact ⟨rfl, rfl⟩
    · rw [hev', hfull, if_neg (by simp)]
      exact ⟨hout, hev'⟩
  case framed =>
    intro s ev inst hev hmode hfused hm hf hq hfr hl hh hx
    obtain ⟨hframes, hfull⟩ := s.raiseOne_frame ev inst hev hm hf hq hfr hl hh hx
    unfold State.raise State.overflowOnce
    rw [if_neg (by simp [hmode, hfused]), hfull, if_neg (by simp), hframes]
  case gap =>
    intro s source n inst hs hq hheld hfr hfull
    refine (State.core_runs hs _).trans (congrArg _ ?_)
    unfold doEvtFrameGapExpire
    simp [hheld, hq, State.pushEntry, hfr, State.overflowOnce, hfull]

end Sys2Proof.Machine
end

section
set_option Elab.async false
/-! PROOFS. The monitors' snapshot (R359) and the Peat recorder (R360 to R363). -/

namespace Sys2Proof.Machine

variable {s t : State}

/-! ### Rising keys -/

theorem alRises_pairwise {α : Type} {b : Nat} : ∀ {l : List (Nat × α)}, alRises b l = true → l.Pairwise (fun p q => p.1 < q.1)
  | [], _ => .nil
  | (k, v) :: l, h => by
    simp only [alRises, Bool.and_eq_true, decide_eq_true_eq] at h
    exact List.pairwise_cons.2 ⟨fun p hp => le_of_mem_alRises h.2 hp, alRises_pairwise h.2⟩

/-! ### The readout registers of a monitor -/

/-- A field outside the readout registers of a monitor. -/
def outsideReadout (f : Fld) (m : Nat) : Prop := f.off < 0x41004 + m * 0x80 ∨ 0x41050 + m * 0x80 ≤ f.off

theorem State.fld_showBins {f : Fld} (m : Nat) (l : List Nat) (hf : f.off < 0x41010 + m * 0x80 ∨ 0x41050 + m * 0x80 ≤ f.off) :
    ∀ (n i : Nat) (s : State), i + n ≤ 16 → (forUp (fun k s => s.setFld (F.MON_BINm_k_bin m k) (l.getD k 0)) n i s).fld f = s.fld f
  | 0, _, _, _ => rfl
  | n + 1, i, s, h => by
    rw [forUp, State.fld_showBins m l hf n (i + 1) _ (by omega), State.fld_setFld_ne _ _ (by simp) (by simp) (.inl (by simp only; omega))]

theorem State.fld_showMonitor_ne {f : Fld} (s : State) (p : Nat × Live) (hf : outsideReadout f p.1) : (showMonitor s p).fld f = s.fld f := by
  unfold outsideReadout at hf
  unfold showMonitor
  rw [State.fld_showBins p.1 p.2.bins (by omega) 16 0 _ (by decide)]
  simp (disch := simp <;> omega)

/-- A monitor's readout shows its count, its least and its greatest sample. -/
theorem State.fld_showMonitor (s : State) (p : Nat × Live) (hc : p.2.count < 2 ^ 32) (hmin : p.2.min < 2 ^ 32) (hmax : p.2.max < 2 ^ 32) :
    (showMonitor s p).fld (F.MON_COUNTm_value p.1) = p.2.count ∧ (showMonitor s p).fld (F.MON_MINm_value p.1) = p.2.min ∧
      (showMonitor s p).fld (F.MON_MAXm_value p.1) = p.2.max := by
  unfold showMonitor
  refine ⟨?_, ?_, ?_⟩ <;> rw [State.fld_showBins p.1 p.2.bins (by simp only; omega) 16 0 _ (by decide)]
  · simpa using hc
  · simpa using hmin
  · simpa using hmax

theorem State.fld_showMonitors_ne {f : Fld} (l : List (Nat × Live)) (s : State) (h : ∀ p ∈ l, outsideReadout f p.1) :
    (l.foldl showMonitor s).fld f = s.fld f := by
  induction l generalizing s with
  | nil => rfl
  | cons p l ih =>
    rw [List.foldl_cons, ih _ fun q hq => h q (List.mem_cons_of_mem _ hq), State.fld_showMonitor_ne _ _ (h p List.mem_cons_self)]

/-- Every monitor's readout shows it: those shown after it have registers of their own. -/
theorem State.fld_showMonitors (l : List (Nat × Live)) (s : State) (hl : l.Pairwise (fun p q => p.1 < q.1)) (p : Nat × Live) (hp : p ∈ l)
    (hc : p.2.count < 2 ^ 32) (hmin : p.2.min < 2 ^ 32) (hmax : p.2.max < 2 ^ 32) :
    (l.foldl showMonitor s).fld (F.MON_COUNTm_value p.1) = p.2.count ∧ (l.foldl showMonitor s).fld (F.MON_MINm_value p.1) = p.2.min ∧
      (l.foldl showMonitor s).fld (F.MON_MAXm_value p.1) = p.2.max := by
  induction l generalizing s with
  | nil => cases hp
  | cons q l ih =>
    rw [List.pairwise_cons] at hl
    obtain ⟨hq, hl⟩ := hl
    rcases List.mem_cons.1 hp with rfl | hp
    · have hne : ∀ f : Fld, f.off < 0x41050 + p.1 * 0x80 → (l.foldl showMonitor (showMonitor s p)).fld f = (showMonitor s p).fld f := fun f hf =>
        State.fld_showMonitors_ne l _ fun r hr => .inl (by have := hq r hr; omega)
      rw [List.foldl_cons, hne _ (by simp only; omega), hne _ (by simp only; omega), hne _ (by simp only; omega)]
      exact State.fld_showMonitor s p hc hmin hmax
    · rw [List.foldl_cons]
      exact ih (showMonitor s q) hl hp

theorem State.showMonitor_onlyRegs (s : State) (p : Nat × Live) : s.onlyRegs (showMonitor s p) :=
  (((State.onlyRegs.rfl.setFld _ _).setFld _ _).setFld _ _).trans (.forUp (fun _ _ => State.onlyRegs.rfl.setFld _ _) _ _ _)

/-- A register that is no readout register keeps its value when the readout registers are cleared. -/
theorem alGet_filter {α : Type} (l : List (Nat × α)) (f : Nat × α → Bool) (k : Nat) (h : ∀ v, f (k, v) = true) : alGet (l.filter f) k = alGet l k := by
  induction l with
  | nil => rfl
  | cons p l ih =>
    obtain ⟨j, v⟩ := p
    rw [List.filter_cons]
    by_cases hj : j = k
    · subst hj
      rw [if_pos (h v), alGet_cons, alGet_cons, if_pos rfl, if_pos rfl]
    · split
      · rw [alGet_cons, alGet_cons, if_neg hj, if_neg hj, ih]
      · rw [alGet_cons, if_neg hj, ih]

/-- Clearing the readout registers leaves the fields of the others. -/
theorem State.fld_clearReadout (s : State) (f : Fld) (h : monReadout f.off = false) :
    ({ s with csr := s.csr.filter fun c => !monReadout c.1 } : State).fld f = s.fld f := by
  rw [State.fld_eq_fldIn, State.fld_eq_fldIn, fldIn, fldIn, alGet_filter _ _ _ (fun _ => by simp [h])]

/-- A monitor's snapshot (R359). -/
theorem State.snapMonitors_spec (s : State) (hl : alRises 0 s.mons = true)
    (hr : s.mons.all (fun p => decide (p.1 < 64 ∧ p.2.count < 2 ^ 32 ∧ p.2.min < 2 ^ 32 ∧ p.2.max < 2 ^ 32)) = true) :
    s.snapMonitors.fld F.MON_CTRL_snap_seq = (s.fld F.MON_CTRL_snap_seq + 1) % 2 ^ 16 ∧
    s.snapMonitors.bit F.MON_CTRL_clear_on_snap = s.bit F.MON_CTRL_clear_on_snap ∧
    s.snapMonitors.mons = (if s.bit F.MON_CTRL_clear_on_snap then [] else s.mons) ∧
    (∀ p ∈ s.mons, s.snapMonitors.fld (F.MON_COUNTm_value p.1) = p.2.count ∧ s.snapMonitors.fld (F.MON_MINm_value p.1) = p.2.min ∧
      s.snapMonitors.fld (F.MON_MAXm_value p.1) = p.2.max) ∧
    s.snapMonitors = { s with csr := s.snapMonitors.csr, mons := s.snapMonitors.mons } := by
  have hnum : ∀ p ∈ s.mons, p.1 < 64 ∧ p.2.count < 2 ^ 32 ∧ p.2.min < 2 ^ 32 ∧ p.2.max < 2 ^ 32 := fun p hp => by
    simpa using List.all_eq_true.1 hr p hp
  let cleared : State := { s with csr := s.csr.filter fun c => !monReadout c.1 }
  obtain ⟨shown, hshown⟩ : ∃ u, u = s.mons.foldl showMonitor cleared := ⟨_, rfl⟩
  have hregs : s.onlyRegs shown :=
    State.onlyRegs.trans (t := cleared) (by exact Eq.refl _) (hshown ▸ State.onlyRegs.foldl State.showMonitor_onlyRegs s.mons cleared)
  have hctrl : ∀ f : Fld, f.off = 0x40000 → shown.fld f = s.fld f := fun f hf => by
    rw [hshown, State.fld_showMonitors_ne _ _ (fun p _ => .inl (by omega))]
    exact s.fld_clearReadout f (by rw [hf]; decide)
  have hsnap : s.snapMonitors = if (shown.wrap F.MON_CTRL_snap_seq).bit F.MON_CTRL_clear_on_snap then
      { shown.wrap F.MON_CTRL_snap_seq with mons := [] } else shown.wrap F.MON_CTRL_snap_seq := by rw [hshown]; rfl
  have hclear : (shown.wrap F.MON_CTRL_snap_seq).bit F.MON_CTRL_clear_on_snap = s.bit F.MON_CTRL_clear_on_snap := by
    rw [State.bit_wrap_ne _ _ (by simp) (by simp) (by simp), State.bit, hctrl _ rfl, State.bit]
  have hread : ∀ p ∈ s.mons, (shown.wrap F.MON_CTRL_snap_seq).fld (F.MON_COUNTm_value p.1) = p.2.count ∧
      (shown.wrap F.MON_CTRL_snap_seq).fld (F.MON_MINm_value p.1) = p.2.min ∧
      (shown.wrap F.MON_CTRL_snap_seq).fld (F.MON_MAXm_value p.1) = p.2.max := fun p hp => by
    obtain ⟨-, hc, hmin, hmax⟩ := hnum p hp
    rw [State.fld_wrap_ne _ _ (by simp) (by simp) (.inl (by simp only; omega)), State.fld_wrap_ne _ _ (by simp) (by simp) (.inl (by simp only; omega)),
      State.fld_wrap_ne _ _ (by simp) (by simp) (.inl (by simp only; omega)), hshown]
    exact State.fld_showMonitors s.mons cleared (alRises_pairwise hl) p hp hc hmin hmax
  have hmons : (shown.wrap F.MON_CTRL_snap_seq).mons = s.mons := by rw [hregs]; rfl
  have hseq : (shown.wrap F.MON_CTRL_snap_seq).fld F.MON_CTRL_snap_seq = (s.fld F.MON_CTRL_snap_seq + 1) % 2 ^ 16 := by
    rw [State.fld_wrap_eq _ _ (by simp) (by simp), hctrl _ rfl]
    rfl
  have hframe : s.onlyRegs (shown.wrap F.MON_CTRL_snap_seq) := hregs.setFld _ _
  rw [hsnap, hclear]
  generalize hw : shown.wrap F.MON_CTRL_snap_seq = w at *
  split
  · refine ⟨hseq, hclear, rfl, hread, ?_⟩
    rw [hframe]
  · refine ⟨hseq, hclear, hmons, hread, ?_⟩
    rw [hframe]

/-! ### Peat's records -/

theorem freeSlot_isSome {l : List (Nat × PeatRec)} {k : Nat} : ∀ {fuel n : Nat}, (∃ j, n ≤ j ∧ j < n + fuel ∧ j % 4096 = k) → alGet l k = none →
    k < 4096 → ∃ i, freeSlot l fuel n = some i ∧ alGet l i = none
  | 0, n, ⟨j, h1, h2, _⟩, _, _ => by omega
  | fuel + 1, n, ⟨j, h1, h2, hj⟩, hk, hlt => by
    unfold freeSlot
    split
    · rename_i hn
      exact ⟨_, rfl, by simpa using hn⟩
    · rename_i hn
      refine freeSlot_isSome ⟨j, ?_, by omega, hj⟩ hk hlt
      rcases h1.eq_or_lt with rfl | h
      · exact absurd hk (by rw [← hj]; simpa using hn)
      · exact h

/-- A store with fewer records than slots has a slot that holds none. -/
theorem exists_slot_free {l : List (Nat × PeatRec)} (hlen : l.length < 4096) : ∃ k, k < 4096 ∧ alGet l k = none := by
  by_contra h
  push Not at h
  have hsub : Finset.range 4096 ⊆ (l.map Prod.fst).toFinset := fun k hk => by
    obtain ⟨v, hv⟩ := Option.ne_none_iff_exists'.1 (h k (Finset.mem_range.1 hk))
    exact List.mem_toFinset.2 (List.mem_map.2 ⟨_, mem_of_alGet hv, rfl⟩)
  have := (Finset.card_le_card hsub).trans (List.toFinset_card_le _)
  simp only [Finset.card_range, List.length_map] at this
  omega

/-- The search from any slot finds one. -/
theorem freeSlot_of_length {l : List (Nat × PeatRec)} (hlen : l.length < 4096) (n : Nat) : ∃ i, freeSlot l 4096 n = some i := by
  obtain ⟨k, hk, hfree⟩ := exists_slot_free hlen
  obtain ⟨i, hi, -⟩ := freeSlot_isSome (l := l) (k := k) (fuel := 4096) (n := n)
    ⟨n + (k + 4096 - n % 4096) % 4096, by omega, by omega, by omega⟩ hfree hk
  exact ⟨i, hi⟩

/-- A record put where no other matches is the one found. -/
theorem find?_alPut {α : Type} (p : Nat × α → Bool) (l : List (Nat × α)) (k : Nat) (v : α) (hl : l.find? p = none) (hp : p (k, v) = true) :
    (alPut l k v).find? p = some (k, v) := by
  induction l with
  | nil => simp [alPut, hp]
  | cons q l ih =>
    obtain ⟨j, w⟩ := q
    rw [List.find?_cons] at hl
    split at hl
    · cases hl
    · rename_i hq
      unfold alPut
      split
      · simp [hp]
      · split
        · simp [hp]
        · simp [hq, ih hl]

/-- Settles O15: a snapshot of the monitors writes registers of its own for each, and Peat's store has a slot for a new record while it
holds fewer than it has slots. -/
theorem monitorsAndPeat : Obligations.MonitorsAndPeat := by
  unfold Obligations.MonitorsAndPeat
  refine ⟨?snap, ?counted, ?fresh, ?take, ?done⟩
  case snap =>
    intro s value hs hv hl hr
    obtain ⟨u, hu⟩ : ∃ u, u = s.taken.setBit F.MON_CTRL_clear_on_snap (value.getLsbD 30) := ⟨_, rfl⟩
    have hregs : s.taken.onlyRegs u := hu ▸ State.onlyRegs.rfl.setFld _ _
    have hmonitors : u.mons = s.mons := by rw [hregs]
    have hclear : u.bit F.MON_CTRL_clear_on_snap = value.getLsbD 30 := hu ▸ State.bit_setBit_eq _ _ (by simp) (by simp)
    have hbefore : u.fld F.MON_CTRL_snap_seq = s.fld F.MON_CTRL_snap_seq := by
      rw [hu, State.fld_setBit_ne _ _ (by simp) (by simp) (by simp), State.fld_taken]
    obtain ⟨hseq, hkeep, hmons, hread, hframe⟩ := u.snapMonitors_spec (hmonitors ▸ hl) (hmonitors ▸ hr)
    refine ⟨u.snapMonitors, ?_, ?_, hkeep.trans hclear, ?_, ?_, ?_⟩
    · refine (State.post_passes hs _).trans (congrArg _ ?_)
      rw [doMonSnap, if_pos hv, hu]
    · rw [hseq, hbefore]
    · rw [hmons, hclear, hmonitors]
    · rwa [hmonitors] at hread
    · generalize u.snapMonitors = t at hframe
      exact Eq.trans hframe (by rw [hregs])
  case counted =>
    intro s x l k r hs hq hbusy hstep hfind
    refine ⟨({ s with peatQ := l } : State).putRec k (({ s with peatQ := l } : State).countRaise r (s.kept.peatSeq + 1) x.at_), ?_, rfl, ?_⟩
    · refine (State.core_runs hs _).trans (congrArg _ ?_)
      simp only [doPeatRecord, hq, hbusy, State.recordRaise, hfind]
      rw [if_neg (by simp; omega)]
    · simp only [State.putRec, alGet_alPut_same, Option.map_some, State.countRaise]
      split <;> rfl
  case fresh =>
    intro s x l hs hq hbusy hstep hfind hl hlen
    obtain ⟨i, hi⟩ := freeSlot_of_length hlen (Config.choice s.free 4096)
    refine ⟨({ s with peatQ := l } : State).tickFree.putRec i
      { ({ s with peatQ := l } : State).newRec 1 (severity x.source) x.source x.inst 0 (s.kept.peatSeq + 1) 1 with lastAt := some x.at_ }, ?_, rfl, ?_⟩
    · refine (State.core_runs hs _).trans (congrArg _ ?_)
      simp only [doPeatRecord, hq, hbusy, State.recordRaise, hfind, State.allocRec, hi]
      rw [if_neg (by simp; omega)]
    · refine (congrArg _ (find?_alPut _ s.kept.peat i _ hfind ?_)).trans rfl
      simp [State.newRec]
  case take =>
    intro s value hs hv hbusy
    obtain ⟨u, hu⟩ : ∃ u : State, u = { s.taken with peatSnap := s.kept.peat } := ⟨_, rfl⟩
    obtain ⟨v, hv'⟩ : ∃ v, v = (u.setPair F.PEAT_SNAP_SEQ_LO_value F.PEAT_SNAP_SEQ_HI_value s.kept.peatSeq).setBit F.PEAT_SNAP_CTRL_busy true := ⟨_, rfl⟩
    have hframe : u.onlyRegs v := hv' ▸ ((State.onlyRegs.rfl.setFld _ _).setFld _ _).setFld _ _
    have hsnap : v.peatSnap = s.kept.peat := by rw [hframe, hu]
    refine ⟨v, (State.post_passes hs _).trans (congrArg _ ?_), hsnap, ?_, ?_, ?_⟩
    · have hidle : s.taken.bit F.PEAT_SNAP_CTRL_busy = false := (s.bit_taken _).trans hbusy
      rw [doPeatSnapTake, if_pos (by rw [hv, hidle]; rfl), hv', hu]
    · exact hv' ▸ State.bit_setBit_eq _ _ (by simp) (by simp)
    · rw [hv', State.pair, State.fld_setBit_ne _ _ (by simp) (by simp) (by simp), State.fld_setBit_ne _ _ (by simp) (by simp) (by simp), ← State.pair]
      exact State.pair_setPair _ _ (by simp) (by simp) (by simp)
    · rw [hsnap]
      exact Eq.trans hframe (by rw [hu])
  case done =>
    intro s hs
    exact ⟨_, State.core_runs hs _, State.bit_setBit_eq _ _ (by simp) (by simp), State.setFld_regsKept _ _ _, rfl⟩

end Sys2Proof.Machine
end

section
set_option Elab.async false
/-! PROOFS. Spool's cells (R30 to R34): grants, frees, bad frees and reclaims, and the statement about them. -/

namespace Sys2Proof.Machine

variable {s t : State}

/-! ### Frees -/

theorem State.cell_freeCell (s : State) (i gen j : Nat) : (s.freeCell i gen).cell j = if j = i then ⟨255, gen, 0⟩ else s.cell j := by
  simp only [State.cell, State.freeCell, alGetD]
  split <;> split
  · rename_i h0 h
    rw [h, alGet_alDel_same, h0]
    rfl
  · rename_i h
    rw [alGet_alDel_other _ _ _ h]
  · rename_i h
    rw [h, alGet_alPut_same]
    rfl
  · rename_i h
    rw [alGet_alPut_other _ _ _ _ h]

theorem State.alRises_freeCell (s : State) (i gen : Nat) (h : alRises 0 s.spool.cells = true) : alRises 0 (s.freeCell i gen).spool.cells = true := by
  simp only [State.freeCell]
  split
  · exact alRises_filter _ _ _ h
  · exact alRises_alPut _ _ _ _ (Nat.zero_le _) h

/-- A bad free of an issuer that is no engine is recorded and raised, and nothing else (R32). -/
theorem State.badFree_other (s : State) (dbl : Bool) (i : Fin 262144) (issuer : BitVec 8) (c : Cell) (hs : s.runs) (hi : 64 ≤ issuer.toNat) :
    let t := s.badFree dbl i.val issuer.toNat c
    t.pended (if dbl then Ev.SPOOL_DOUBLE_FREE else Ev.SPOOL_FOREIGN_FREE) = true ∧ t.bit F.SPOOL_BADFREE_CELL_valid = true ∧
      (s.bit F.SPOOL_BADFREE_CELL_valid = false → t.fld F.SPOOL_BADFREE_CELL_cell = i.val ∧
        t.fld F.SPOOL_BADFREE_CELL_kind = (if dbl then 1 else 0) ∧ t.fld F.SPOOL_BADFREE_OWNER_issuer = issuer.toNat) ∧
      s.regsKept t [F.SPOOL_BADFREE_CELL_cell.off, F.SPOOL_BADFREE_OWNER_issuer.off] ∧ s.sameButEvents t := by
  intro t
  have hev : (if dbl then Ev.SPOOL_DOUBLE_FREE else Ev.SPOOL_FOREIGN_FREE) < 640 := by split <;> decide
  have hevHere : (if dbl then Ev.SPOOL_DOUBLE_FREE else Ev.SPOOL_FOREIGN_FREE) < 384 := by split <;> decide
  have hiss : issuer.toNat < 2 ^ 8 := issuer.isLt
  obtain ⟨u, hu⟩ : ∃ u, u = if s.bit F.SPOOL_BADFREE_CELL_valid then s
    else (((((s.setBit F.SPOOL_BADFREE_CELL_valid true).setBit F.SPOOL_BADFREE_CELL_kind dbl).setFld F.SPOOL_BADFREE_CELL_cell i.val).setFld
      F.SPOOL_BADFREE_OWNER_issuer issuer.toNat).setFld F.SPOOL_BADFREE_OWNER_tag_owner c.owner).setFld F.SPOOL_BADFREE_OWNER_tag_gen c.gen := ⟨_, rfl⟩
  have ht : t = u.raise (if dbl then Ev.SPOOL_DOUBLE_FREE else Ev.SPOOL_FOREIGN_FREE) issuer.toNat := by
    rw [hu]
    exact if_pos hi
  have hsame : s.sameButEvents u := hu ▸ .ite .rfl ((((((State.sameButEvents.rfl.setFld _ _).setFld _ _).setFld _ _).setFld _ _).setFld _ _).setFld _ _)
  have hkept : s.regsKept u [F.SPOOL_BADFREE_CELL_cell.off, F.SPOOL_BADFREE_OWNER_issuer.off] :=
    hu ▸ .ite .rfl ((((((State.regsKept.rfl.setFld _ (by simp)).setFld _ (by simp)).setFld _ (by simp)).setFld _ (by simp)).setFld _ (by simp)).setFld _
      (by simp))
  rw [ht]
  refine ⟨State.pended_raise _ _ _ hev (by rw [hsame.mode]; exact hs) ?_, ?_, fun hv => ⟨?_, ?_, ?_⟩, hkept.raise _ _ hev, hsame.raise _ _⟩
  · unfold State.fusedEvent
    split
    · rfl
    · simp; omega
  · rw [State.bit_raise _ _ _ hev (by simp) (by simp) (by simp), hu]
    split
    · assumption
    · simp
  · rw [State.fld_raise _ _ _ hev (by simp) (by simp) (by simp), hu, hv]
    simp
  · rw [State.fld_raise _ _ _ hev (by simp) (by simp) (by simp), hu, hv]
    cases dbl <;> simp [State.setBit]
  · rw [State.fld_raise _ _ _ hev (by simp) (by simp) (by simp), hu, hv]
    simp
    omega

/-! ### A reclaim (R34) -/

/-- The cell after the frees of a list of cells with distinct numbers. -/
theorem State.cell_freeAll (j : Nat) : ∀ (l : List (Nat × Cell)) (s : State), l.Pairwise (fun p q => p.1 < q.1) →
    (l.foldl (fun s c => s.freeCell c.1 ((c.2.gen + 1) % 65536)) s).cell j =
      ((l.find? (fun c => c.1 == j)).map fun c => (⟨255, (c.2.gen + 1) % 65536, 0⟩ : Cell)).getD (s.cell j)
  | [], _, _ => rfl
  | c :: l, s, h => by
    rw [List.pairwise_cons] at h
    obtain ⟨hc, hl⟩ := h
    rw [List.foldl_cons, State.cell_freeAll j l _ hl, List.find?_cons]
    by_cases hj : c.1 = j
    · have hnone : l.find? (fun c => c.1 == j) = none := List.find?_eq_none.2 fun q hq => by
        have := hc q hq
        simp
        omega
      simp [hnone, State.cell_freeCell, hj]
    · rw [beq_false_of_ne hj, State.cell_freeCell, if_neg (Ne.symm hj)]

theorem State.freeAll_frame (l : List (Nat × Cell)) (s : State) (h : alRises 0 s.spool.cells = true) :
    let t := l.foldl (fun s c => s.freeCell c.1 ((c.2.gen + 1) % 65536)) s
    t = { s with spool := { s.spool with cells := t.spool.cells } } ∧ alRises 0 t.spool.cells = true := by
  induction l generalizing s with
  | nil => exact ⟨rfl, h⟩
  | cons c l ih =>
    obtain ⟨hframe, hrises⟩ := ih (s.freeCell c.1 ((c.2.gen + 1) % 65536)) (s.alRises_freeCell _ _ h)
    exact ⟨hframe, hrises⟩

theorem State.cell_reclaimed (s : State) (e j : Nat) (h : alRises 0 s.spool.cells = true) (he : e ≠ 255) :
    ((s.spool.cells.filter (fun c => c.2.owner = e)).foldl (fun s c => s.freeCell c.1 ((c.2.gen + 1) % 65536)) s).cell j =
      if (s.cell j).owner = e then ⟨255, ((s.cell j).gen + 1) % 65536, 0⟩ else s.cell j := by
  rw [State.cell_freeAll j _ _ ((alRises_pairwise h).filter _)]
  cases hfind : (s.spool.cells.filter (fun c => c.2.owner = e)).find? (fun c => c.1 == j) with
  | some c =>
    have hmem := List.mem_filter.1 (List.mem_of_find?_eq_some hfind)
    have hj : c.1 = j := by simpa using List.find?_some hfind
    have hcell : s.cell j = c.2 := by rw [State.cell, alGetD, ← hj, alGet_of_mem h hmem.1, Option.getD_some]
    rw [hcell, if_pos (by simpa using hmem.2)]
    rfl
  | none =>
    refine (if_neg fun ho => ?_).symm
    cases hget : alGet s.spool.cells j with
    | none => simp [State.cell, alGetD, hget] at ho; omega
    | some c =>
      rw [State.cell, alGetD, hget, Option.getD_some] at ho
      exact absurd (List.find?_eq_none.1 hfind (j, c) (List.mem_filter.2 ⟨mem_of_alGet hget, by simpa using ho⟩)) (by simp)

/-- An owner holds no cell where no cell carries its number. -/
theorem State.ownerCells_eq_zero {e : Nat} (h : alRises 0 s.spool.cells = true) (hc : ∀ j, (s.cell j).owner ≠ e) : s.ownerCells e = 0 := by
  rw [State.ownerCells, List.length_eq_zero_iff, List.filter_eq_nil_iff]
  intro p hp ho
  refine hc p.1 ?_
  rw [State.cell, alGetD, alGet_of_mem h hp, Option.getD_some]
  simpa using ho

/-- Settles O12: a grant takes a cell that is free, a free is checked against the cell's tag, and a reclaim frees every cell of the engine. -/
theorem spoolCells : Obligations.SpoolCells := by
  unfold Obligations.SpoolCells
  refine ⟨?granted, ?waits, ?freed, ?double, ?foreign, ?reclaim⟩
  case granted =>
    intro s o prio hs hhere hmay _ _
    have hfree : 0 < s.freeCells := by
      simp only [State.mayAllocate, Bool.and_eq_true, decide_eq_true_eq] at hmay
      exact hmay.1
    have hframe : (s.takeCell o.val prio.val).spool.waiting = s.spool.waiting ∧ (s.takeCell o.val prio.val).fuses = s.fuses ∧
        (s.takeCell o.val prio.val).kept = s.kept ∧ (s.takeCell o.val prio.val).gate = s.gate := by
      unfold State.takeCell State.pauseCheck
      dsimp only
      (repeat' split) <;> exact ⟨rfl, rfl, rfl, rfl⟩
    obtain ⟨hw, hf, hk, hg⟩ := hframe
    refine ⟨s.takeCell o.val prio.val, ?_, hw, hf, hk, hg, ⟨s.pickCell, s.pickCell_lt⟩, s.pickCell_free hfree, s.takeCell_cells _ _⟩
    refine (State.core_runs hs (fun s => s.doAllocate o.val prio.val)).trans (congrArg _ ?_)
    simp [State.doAllocate, hhere, hmay]
  case waits =>
    intro s o prio hs hhere hmay
    refine (State.core_runs hs (fun s => s.doAllocate o.val prio.val)).trans (congrArg _ ?_)
    simp [State.doAllocate, hhere, hmay]
  case freed =>
    intro s i issuer gen hs hw ho hi hg
    refine ⟨s.freeCell i.val (s.cell i.val).gen, (State.core_runs hs (fun s => s.doFree i.val issuer.toNat gen.toNat)).trans (congrArg _ ?_), ?_, ?_, fun j hj => ?_, rfl⟩
    · rw [State.doFree, if_neg (by rw [ho, hg]; simpa using hi), if_neg (by simp [ho]), hw]
      rfl
    · rw [State.cell_freeCell, if_pos rfl]
    · rw [State.cell_freeCell, if_pos rfl]
      exact hg
    · rw [State.cell_freeCell, if_neg (fun h => hj (Fin.ext h))]
  case double =>
    intro s i issuer gen hs hbad hi
    obtain ⟨hp, hv, hrec, hkept, hsame⟩ := s.badFree_other true i issuer (s.cell i.val) hs hi
    refine ⟨_, (State.core_runs hs (fun s => s.doFree i.val issuer.toNat gen.toNat)).trans (congrArg _ ?_), hp, hv, hrec, hkept, hsame⟩
    rw [State.doFree, if_pos (hbad.imp_right Ne.symm)]
  case foreign =>
    intro s i issuer gen hs ho hg hne hi
    obtain ⟨hp, hv, hrec, hkept, hsame⟩ := s.badFree_other false i issuer (s.cell i.val) hs hi
    refine ⟨_, (State.core_runs hs (fun s => s.doFree i.val issuer.toNat gen.toNat)).trans (congrArg _ ?_), hp, hv, fun h => (hrec h).2, hkept, hsame⟩
    rw [State.doFree, if_neg (by simp [ho, hg]), if_pos (Ne.symm hne)]
  case reclaim =>
    intro s e hs hrec hw hl
    have he : e.val ≠ 255 := by omega
    obtain ⟨u, hu⟩ : ∃ u, u = (s.spool.cells.filter (fun c => c.2.owner = e.val)).foldl (fun s c => s.freeCell c.1 ((c.2.gen + 1) % 65536)) s := ⟨_, rfl⟩
    obtain ⟨hframe, hrises⟩ := s.freeAll_frame (s.spool.cells.filter (fun c => c.2.owner = e.val)) hl
    rw [← hu] at hframe hrises
    have hcell : ∀ j, u.cell j = if (s.cell j).owner = e.val then ⟨255, ((s.cell j).gen + 1) % 65536, 0⟩ else s.cell j := fun j =>
      hu ▸ s.cell_reclaimed e.val j hl he
    have hreclaims : u.spool.reclaims = s.spool.reclaims := by rw [hframe]
    have hwaiting : u.spool.waiting = [] := by rw [hframe]; exact hw
    refine ⟨{ u with spool := { u.spool with reclaims := setDel u.spool.reclaims e.val } }, (State.core_runs hs (fun s => s.doReclaim e.val)).trans (congrArg _ ?_), ?_, ?_,
      fun i => hcell i.val, ?_⟩
    · rw [State.doReclaim, if_pos hrec]
      dsimp only
      rw [← hu, hwaiting]
      rfl
    · rw [hreclaims]
    · exact State.ownerCells_eq_zero (s := u) hrises fun j => by
        rw [hcell j]
        split
        · exact he.symm
        · assumption
    · rw [hframe]

end Sys2Proof.Machine
end

section
set_option Elab.async false
/-! PROOFS. The fence of an engine (R87), its way back (R89) and Weft's watchdog (R22), with the statements about them. -/

namespace Sys2Proof.Machine

variable {s t : State}

/-! ### What a fence leaves alone -/

/-- What the loss and the binding of queue pairs leave alone: memory, the region table, the fuses, the NOR, and every register but
VE_LAST_REPLACE, RGN_DRAIN_ABANDON and those of a raise. -/
structure State.besideQps (s t : State) : Prop where
  mem   : t.kept.mem = s.kept.mem
  rdt   : t.kept.rdt = s.kept.rdt
  fuses : t.fuses = s.fuses
  nor   : t.nor = s.nor
  part  : t.part = s.part
  regs  : ∀ f : Fld, f.off % 0x10000 ≠ 0x20 → notEvent f.off → t.fld f = s.fld f

theorem State.besideQps.rfl : s.besideQps s := ⟨.refl _, .refl _, .refl _, .refl _, .refl _, fun _ _ _ => .refl _⟩

theorem State.besideQps.trans {u : State} (h : s.besideQps t) (k : t.besideQps u) : s.besideQps u :=
  ⟨k.mem.trans h.mem, k.rdt.trans h.rdt, k.fuses.trans h.fuses, k.nor.trans h.nor, k.part.trans h.part,
    fun f h1 h2 => (k.regs f h1 h2).trans (h.regs f h1 h2)⟩

theorem State.besideQps.foldl {α : Type} {f : State → α → State} (hf : ∀ (s : State) a, s.besideQps (f s a)) (l : List α) (s : State) :
    s.besideQps (l.foldl f s) := by
  induction l generalizing s with
  | nil => exact .rfl
  | cons a l ih => exact (hf s a).trans (ih _)

theorem State.besideQps.foldr {α : Type} {f : α → State → State} (hf : ∀ (s : State) a, s.besideQps (f a s)) (l : List α) (s : State) :
    s.besideQps (l.foldr f s) := by
  induction l with
  | nil => exact .rfl
  | cons a l ih => exact ih.trans (hf _ a)

theorem State.besideQps.ite {a b : State} {p : Prop} [Decidable p] (ha : s.besideQps a) (hb : s.besideQps b) : s.besideQps (if p then a else b) := by
  split <;> assumption

/-- A change outside registers, memory and the region table. -/
theorem State.besideQps_of (hm : t.kept.mem = s.kept.mem) (hr : t.kept.rdt = s.kept.rdt) (hf : t.fuses = s.fuses) (hn : t.nor = s.nor)
    (hp : t.part = s.part) (hc : t.csr = s.csr) : s.besideQps t := ⟨hm, hr, hf, hn, hp, fun f _ _ => State.fld_congr hp hc f⟩

theorem State.raise_besideQps (s : State) (ev n : Nat) (hev : ev < 640) : s.besideQps (s.raise ev n) :=
  ⟨by simp, by simp, by simp, by simp, by simp, fun f _ h => State.fld_raise s ev n hev h.1 h.2.1 h.2.2⟩

theorem State.complete_besideQps (s : State) (h : Hdr) (st : Status) (l : List Nat) : s.besideQps (s.complete h st l) :=
  ⟨by simp, by simp, by simp, by simp, by simp, fun f _ hf => State.fld_complete s h st l hf.1 hf.2.1 hf.2.2⟩

theorem State.setFld_besideQps (s : State) (f : Fld) (v : Nat) (h : f.lo ≤ f.hi) (h32 : f.hi < 32) (ho : f.off % 0x10000 = 0x20) :
    s.besideQps (s.setFld f v) :=
  ⟨by simp, by simp, by simp, by simp, by simp, fun g hg _ => State.fld_setFld_ne s v h h32 (.inl fun e => hg (e ▸ ho))⟩

/-! ### The parts of a fence -/

theorem State.endReplace_besideQps (s : State) (n : Nat) (sent : Bool) : s.besideQps (s.endReplace n sent) := by
  unfold State.endReplace
  split
  · exact .rfl
  · have hset : s.besideQps (s.setQp n { ‹Qp› with replace := none, lostBy := none }) :=
      State.besideQps_of rfl rfl rfl rfl rfl rfl
    split
    · exact hset
    · rename_i e _
      have htimed : ∀ (u : State) (v : Nat), u.besideQps (if sent then u.setFld (F.VE_LAST_REPLACE_time_us e) v else u) := fun u v =>
        .ite (u.setFld_besideQps _ _ (by simp) (by simp) (by simp only; omega)) .rfl
      exact hset.trans ((htimed _ _).trans (.ite .rfl (State.raise_besideQps _ _ _ (by decide))))

theorem State.countAbandon_besideQps (s : State) (i : Nat) : s.besideQps (s.countAbandon i) :=
  (State.setFld_besideQps _ _ _ (by simp) (by simp) (by simp)).trans (State.raise_besideQps _ _ _ (by decide))

theorem State.unhold_besideQps (s : State) (l : Nat) : s.besideQps (s.unhold l) := by
  unfold State.unhold
  dsimp only
  split <;> exact State.besideQps_of rfl rfl rfl rfl rfl rfl

theorem State.endHold_besideQps (s : State) (f : Fetch) : s.besideQps (s.endHold f) := by
  unfold State.endHold
  have hlines : s.besideQps (f.entered.foldl (fun s cw => (codewordLines f.tile cw).foldl State.unhold s) s) :=
    .foldl (fun s _ => .foldl State.unhold_besideQps _ s) _ _
  dsimp only
  split <;> exact hlines.trans (State.besideQps_of rfl rfl rfl rfl rfl rfl)

theorem State.reviewHolds_besideQps (s : State) : s.besideQps s.reviewHolds :=
  .foldl (fun s f => .ite (s.endHold_besideQps f) .rfl) _ _

theorem State.endShare_besideQps (s : State) (n psn : Nat) : s.besideQps (s.endShare n psn) :=
  State.besideQps.trans (t := { s with parks := s.parks.filter (fun p => p != (n, psn)), fetches := dropShare (fun p => p == (n, psn)) s.fetches })
    (State.besideQps_of rfl rfl rfl rfl rfl rfl) (State.reviewHolds_besideQps _)

theorem State.giveEntry_besideQps (s : State) (n : Nat) (e : RecvEntry) : s.besideQps (s.giveEntry n e) := by
  unfold State.giveEntry
  split
  · exact .rfl
  · split <;> exact State.besideQps_of rfl rfl rfl rfl rfl rfl

theorem State.unbindLost_besideQps (s : State) (n : Nat) (by_ : Option Nat) : s.besideQps (s.unbindLost n by_) := by
  unfold State.unbindLost
  extract_lets u
  refine (s.endReplace_besideQps n false : s.besideQps u).trans ?_
  split
  · exact .rfl
  · rename_i q _
    extract_lets at_ gone a b keep c d
    have ha : u.besideQps a := .foldl (fun s i => .ite (s.countAbandon_besideQps i) .rfl) _ u
    have hb : a.besideQps b := .foldl (fun s (m : Msg) => s.endShare_besideQps n m.psn) _ a
    have hd : c.besideQps d := .foldr (fun s e => s.giveEntry_besideQps n e) _ c
    exact ha.trans (hb.trans ((State.besideQps_of rfl rfl rfl rfl rfl rfl : b.besideQps c).trans
      (hd.trans (State.besideQps_of rfl rfl rfl rfl rfl rfl))))

theorem State.bindTo_besideQps (s : State) (n e : Nat) : s.besideQps (s.bindTo n e) := by
  unfold State.bindTo
  split
  · exact .rfl
  · extract_lets u
    have hset : s.besideQps u := State.besideQps_of rfl rfl rfl rfl rfl rfl
    split
    · exact hset.trans (.ite (State.setFld_besideQps _ _ _ (by simp) (by simp) (by simp only; omega)) .rfl)
    · exact hset

theorem State.bindQp_besideQps (s : State) (n : Nat) : s.besideQps (s.bindQp n) := by
  unfold State.bindQp
  split
  · exact s.bindTo_besideQps _ _
  · exact s.raise_besideQps _ _ (by decide)

/-! ### Bindings -/

/-- Every queue pair of `t` is one of `s` with the same binding. -/
def State.bindingsFrom (s t : State) : Prop := ∀ m q, t.qpAt m = some q → ∃ p, s.qpAt m = some p ∧ p.engine = q.engine

theorem State.bindingsFrom.rfl : s.bindingsFrom s := fun _ q h => ⟨q, h, .refl _⟩

theorem State.bindingsFrom.trans {u : State} (h : s.bindingsFrom t) (k : t.bindingsFrom u) : s.bindingsFrom u := fun m q hq => by
  obtain ⟨p, hp, he⟩ := k m q hq
  obtain ⟨r, hr, he'⟩ := h m p hp
  exact ⟨r, hr, he'.trans he⟩

theorem State.bindingsFrom_of (h : t.kept.qps = s.kept.qps) : s.bindingsFrom t := fun m q hq => ⟨q, by rwa [State.qpAt, ← h], rfl⟩

theorem State.bindingsFrom.foldl {α : Type} {f : State → α → State} (hf : ∀ (s : State) a, s.bindingsFrom (f s a)) (l : List α) (s : State) :
    s.bindingsFrom (l.foldl f s) := by
  induction l generalizing s with
  | nil => exact .rfl
  | cons a l ih => exact (hf s a).trans (ih _)

theorem State.bindingsFrom.foldr {α : Type} {f : α → State → State} (hf : ∀ (s : State) a, s.bindingsFrom (f a s)) (l : List α) (s : State) :
    s.bindingsFrom (l.foldr f s) := by
  induction l with
  | nil => exact .rfl
  | cons a l ih => exact ih.trans (hf _ a)

theorem State.bindingsFrom.ite {a b : State} {p : Prop} [Decidable p] (ha : s.bindingsFrom a) (hb : s.bindingsFrom b) :
    s.bindingsFrom (if p then a else b) := by split <;> assumption

theorem State.qpAt_ports (s : State) (p : Ports) (n : Nat) : ({ s with ports := p } : State).qpAt n = s.qpAt n := rfl

theorem State.qpAt_setQp (s : State) (n m : Nat) (q : Qp) : (s.setQp n q).qpAt m = if m = n then some q else s.qpAt m := by
  unfold State.qpAt State.setQp
  split
  · rename_i h
    rw [h, alGet_alPut_same]
  · rename_i h
    rw [alGet_alPut_other _ _ _ _ h]

theorem alGet_alMod {α : Type} (l : List (Nat × α)) (n m : Nat) (f : α → α) :
    alGet (alMod l n f) m = if m = n then (alGet l n).map f else alGet l m := by
  unfold alMod
  by_cases hm : m = n
  · subst hm
    split
    · rename_i h
      rw [if_pos rfl, h, alGet_alPut_same, Option.map_some]
    · rename_i h
      rw [if_pos rfl, h, Option.map_none]
  · split
    · rw [if_neg hm, alGet_alPut_other _ _ _ _ hm]
    · rw [if_neg hm]

theorem State.qpAt_modQp (s : State) (n m : Nat) (f : Qp → Qp) : (s.modQp n f).qpAt m = if m = n then (s.qpAt n).map f else s.qpAt m :=
  alGet_alMod _ _ _ _

/-- A context written with the binding it had. -/
theorem State.setQp_bindingsFrom {n : Nat} {q p : Qp} (h : s.qpAt n = some p) (he : p.engine = q.engine) : s.bindingsFrom (s.setQp n q) := by
  intro m r hr
  rw [State.qpAt_setQp] at hr
  split at hr
  · rename_i hm
    cases hr
    exact ⟨p, hm ▸ h, he⟩
  · exact ⟨r, hr, rfl⟩

theorem State.endReplace_bindingsFrom (s : State) (n : Nat) (sent : Bool) : s.bindingsFrom (s.endReplace n sent) := by
  unfold State.endReplace
  split
  · exact .rfl
  · rename_i q hq
    extract_lets u
    have hset : s.bindingsFrom u := State.setQp_bindingsFrom hq rfl
    split
    · exact hset
    · have hset' : ∀ (f : Fld) (v : Nat), u.bindingsFrom (if sent then u.setFld f v else u) := fun f v => .ite (State.bindingsFrom_of (by simp)) .rfl
      exact hset.trans ((hset' _ _).trans (.ite .rfl (State.bindingsFrom_of (by simp))))

theorem State.reviewHolds_qps (s : State) : s.reviewHolds.kept.qps = s.kept.qps := by
  have hunhold : ∀ (s : State) (l : Nat), (s.unhold l).kept.qps = s.kept.qps := fun s l => by
    unfold State.unhold
    dsimp only
    split <;> rfl
  have hfold : ∀ {α : Type} {f : State → α → State}, (∀ (s : State) a, (f s a).kept.qps = s.kept.qps) → ∀ (l : List α) (s : State),
      (l.foldl f s).kept.qps = s.kept.qps := fun {α f} hf l => by
    induction l with
    | nil => exact fun _ => rfl
    | cons a l ih => exact fun s => (ih _).trans (hf s a)
  refine hfold (fun s f => ?_) _ _
  split
  · have hlines := hfold (fun s cw => hfold hunhold (codewordLines f.tile cw) s) f.entered s
    unfold State.endHold
    dsimp only
    split <;> exact hlines
  · rfl

theorem State.endShare_bindingsFrom (s : State) (n psn : Nat) : s.bindingsFrom (s.endShare n psn) :=
  State.bindingsFrom_of (State.reviewHolds_qps _)

theorem State.giveEntry_bindingsFrom (s : State) (n : Nat) (e : RecvEntry) : s.bindingsFrom (s.giveEntry n e) := by
  unfold State.giveEntry
  split
  · exact .rfl
  · rename_i q hq
    split
    · exact State.bindingsFrom_of rfl
    · exact State.setQp_bindingsFrom hq rfl

/-- A queue pair that loses its engine is bound to none, and no other binding changes. -/
theorem State.unbindLost_engine (s : State) (n : Nat) (by_ : Option Nat) {m : Nat} {q : Qp} (h : (s.unbindLost n by_).qpAt m = some q) :
    (m = n ∧ q.engine = none) ∨ (m ≠ n ∧ ∃ p, s.qpAt m = some p ∧ p.engine = q.engine) := by
  unfold State.unbindLost at h
  extract_lets u at h
  have hu : s.bindingsFrom u := s.endReplace_bindingsFrom n false
  split at h
  · rename_i hn
    refine .inr ⟨?_, hu m q h⟩
    rintro rfl
    rw [hn] at h
    cases h
  · rename_i q0 _
    extract_lets at_ gone a b keep c d at h
    have ha : u.bindingsFrom a := .foldl (fun s i => .ite (State.bindingsFrom_of (by simp -implicitDefEqProofs [State.countAbandon])) .rfl) _ u
    have hb : a.bindingsFrom b := .foldl (fun s (m : Msg) => s.endShare_bindingsFrom n m.psn) _ a
    have hd : c.bindingsFrom d := .foldr (fun s e => s.giveEntry_bindingsFrom n e) _ c
    rw [State.qpAt_ports] at h
    obtain ⟨p, hp, he⟩ := hd m q h
    simp only [c, State.qpAt_modQp] at hp
    split at hp
    · rename_i hm
      obtain ⟨r, -, rfl⟩ := Option.map_eq_some_iff.1 hp
      exact .inl ⟨hm, he.symm⟩
    · rename_i hm
      obtain ⟨r, hr, hre⟩ := (hu.trans (ha.trans hb)) m p hp
      exact .inr ⟨hm, r, hr, hre.trans he⟩

/-- Once each queue pair of a list has lost its engine, a binding that is left is one of a queue pair outside the list. -/
theorem State.unbindAll_engine (by_ : Option Nat) {m : Nat} {q : Qp} : ∀ (l : List Nat) (s : State),
    (l.foldl (fun s n => s.unbindLost n by_) s).qpAt m = some q → q.engine ≠ none → m ∉ l ∧ ∃ p, s.qpAt m = some p ∧ p.engine = q.engine
  | [], _, h, _ => ⟨List.not_mem_nil, q, h, rfl⟩
  | n :: l, s, h, hne => by
    obtain ⟨hm, p, hp, he⟩ := State.unbindAll_engine by_ l (s.unbindLost n by_) h hne
    rcases s.unbindLost_engine n by_ hp with ⟨-, hnone⟩ | ⟨hmn, r, hr, hre⟩
    · exact absurd (he.symm.trans hnone) hne
    · exact ⟨List.not_mem_cons_of_ne_of_not_mem hmn hm, r, hr, hre.trans he⟩

theorem mem_of_least {l : List (Nat × Nat)} {p : Nat × Nat} (h : least l = some p) : p ∈ l := by
  induction l generalizing p with
  | nil => cases h
  | cons q l ih =>
    obtain ⟨c, x⟩ := q
    unfold least at h
    split at h
    · rename_i hl
      split at h
      · exact List.mem_cons_of_mem _ (ih (h ▸ hl))
      · exact Option.some.inj h ▸ List.mem_cons_self
    · exact Option.some.inj h ▸ List.mem_cons_self

/-- A queue pair is bound only to an eligible engine (R133). -/
theorem State.eligible_of_bindTarget {e : Nat} (h : s.bindTarget = some e) : s.eligible e = true := by
  obtain ⟨p, hp, rfl⟩ := Option.map_eq_some_iff.1 h
  obtain ⟨e, he, rfl⟩ := List.mem_map.1 (mem_of_least hp)
  exact (List.mem_filter.1 he).2

theorem State.bindTo_engine (s : State) (n e : Nat) {m : Nat} {q : Qp} (h : (s.bindTo n e).qpAt m = some q) :
    q.engine = some e ∨ ∃ p, s.qpAt m = some p ∧ p.engine = q.engine := by
  unfold State.bindTo at h
  split at h
  · exact .inr ⟨q, h, rfl⟩
  · rename_i q0 _
    extract_lets u at h
    have hqp : u.qpAt m = some q := by
      split at h
      · split at h
        · rwa [State.qpAt, State.wrap, State.setFld_kept] at h
        · exact h
      · exact h
    simp only [u, State.qpAt_setQp] at hqp
    split at hqp
    · cases hqp
      exact .inl rfl
    · exact .inr ⟨q, hqp, rfl⟩

/-- The binding of a queue pair leaves every engine that is not ACTIVE as unbound as it was. -/
theorem State.bindQp_unbound (s : State) (n e : Nat) (he : s.fld (F.VE_STATUS_state e) ≠ 0) (hs : ∀ m q, s.qpAt m = some q → q.engine ≠ some e) :
    ∀ m q, (s.bindQp n).qpAt m = some q → q.engine ≠ some e := by
  intro m q hq
  unfold State.bindQp at hq
  split at hq
  · rename_i e' htarget
    rcases s.bindTo_engine n e' hq with h | ⟨p, hp, hpe⟩
    · rintro h'
      rw [h, Option.some.injEq] at h'
      have hel := State.eligible_of_bindTarget htarget
      simp only [State.eligible, Bool.and_eq_true, decide_eq_true_eq] at hel
      exact he (h' ▸ hel.1.2)
    · exact hpe ▸ hs m p hp
  · exact hs m q (by rwa [State.qpAt, State.raise_kept] at hq)

/-- The state field of an engine is no event register and no VE_LAST_REPLACE. -/
theorem State.besideQps.state (h : s.besideQps t) (e : Nat) (he : e < 64) : t.fld (F.VE_STATUS_state e) = s.fld (F.VE_STATUS_state e) :=
  h.regs _ (by simp only; omega) ⟨by simp only; omega, by simp only; omega, by simp only; omega⟩

theorem State.bindQps_unbound (e : Nat) (he64 : e < 64) : ∀ (l : List Nat) (s : State), s.fld (F.VE_STATUS_state e) ≠ 0 →
    (∀ m q, s.qpAt m = some q → q.engine ≠ some e) → ∀ m q, (l.foldl (fun s n => s.bindQp n) s).qpAt m = some q → q.engine ≠ some e
  | [], _, _, hs => hs
  | n :: l, s, he, hs =>
    State.bindQps_unbound e he64 l (s.bindQp n) (by rwa [(s.bindQp_besideQps n).state e he64]) (s.bindQp_unbound n e he hs)

/-! ### The fence -/

theorem State.setReg_besideQps (s : State) (off : Nat) (w : Word) (h : off % 0x10000 = 0x20) : s.besideQps (s.setReg off w) :=
  ⟨rfl, rfl, rfl, rfl, rfl, fun f hf _ => by
    rw [State.fld, State.reg_setReg_other _ _ _ _ (fun e : f.off = off => hf (e.symm ▸ h)), State.fld]⟩

/-- The engine's state and cause are set; what follows leaves them. -/
theorem State.fence_besideQps (s : State) (e cause : Nat) (he : e < s.part.engines) (hst : s.fld (F.VE_STATUS_state e) ≠ 1) :
    ((s.setFld (F.VE_STATUS_state e) 1).setFld (F.VE_STATUS_fence_cause e) cause).besideQps (s.fence e cause) := by
  unfold State.fence
  rw [if_neg (by omega)]
  generalize (s.setFld (F.VE_STATUS_state e) 1).setFld (F.VE_STATUS_fence_cause e) cause = t
  extract_lets _ u _ v qs w x y z r
  have hu : t.besideQps u := by
    simp only [u]
    split
    · exact State.besideQps.trans (t := { t with tests := alDel t.tests e }) (State.besideQps_of rfl rfl rfl rfl rfl rfl)
        (State.complete_besideQps _ _ _ _)
    · exact .rfl
  have hv : t.besideQps v := hu.trans (State.besideQps_of rfl rfl rfl rfl rfl rfl)
  have hw : t.besideQps w := hv.trans (State.besideQps_of rfl rfl rfl rfl rfl rfl)
  have hx : t.besideQps x := hw.trans (State.setReg_besideQps _ _ _ (by omega))
  have hy : t.besideQps y := hx.trans (.foldl (fun s n => s.unbindLost_besideQps n _) _ _)
  have hz : t.besideQps z := hy.trans (State.raise_besideQps _ _ _ (by decide))
  have hr : t.besideQps r := hz.trans (.foldl (fun s n => s.bindQp_besideQps n) _ _)
  exact .ite hv (.ite hr (hr.trans (State.raise_besideQps _ _ _ (by decide))))

theorem State.engines_le (s : State) : s.part.engines ≤ 64 := by
  unfold Part.engines
  split <;> decide

/-- What a fence sets, and what it leaves alone (R87). -/
theorem State.fence_spec (s : State) (e cause : Nat) (he : e < s.part.engines) (hst : s.fld (F.VE_STATUS_state e) ≠ 1) (hc : cause < 16) :
    (s.fence e cause).fld (F.VE_STATUS_state e) = 1 ∧ (s.fence e cause).fld (F.VE_STATUS_fence_cause e) = cause ∧
      (s.fence e cause).fuses = s.fuses ∧ (s.fence e cause).nor = s.nor ∧ (s.fence e cause).kept.mem = s.kept.mem ∧
      (s.fence e cause).kept.rdt = s.kept.rdt ∧
      (∀ f : Fld, f.off % 0x10000 ≠ 0x20 → notEvent f.off → f.off ≠ 0x400000 + e * 0x10000 → (s.fence e cause).fld f = s.fld f) := by
  have h := s.fence_besideQps e cause he hst
  have he64 : e < 64 := he.trans_le s.engines_le
  refine ⟨?_, ?_, h.fuses.trans ?_, h.nor.trans ?_, h.mem.trans ?_, h.rdt.trans ?_, fun f h1 h2 h3 => ?_⟩
  · rw [h.state e he64, State.fld_setFld_ne _ _ (by simp) (by simp) (by simp), State.fld_setFld_of_lt _ _ (by simp) (by simp) (by simp)]
  · rw [h.regs _ (by simp only; omega) ⟨by simp only; omega, by simp only; omega, by simp only; omega⟩,
      State.fld_setFld_of_lt _ _ (by simpa using hc) (by simp) (by simp)]
  · rw [State.setFld_fuses, State.setFld_fuses]
  · rw [State.setFld_nor, State.setFld_nor]
  · rw [State.setFld_kept, State.setFld_kept]
  · rw [State.setFld_kept, State.setFld_kept]
  · rw [h.regs f h1 h2, State.fld_setFld_ne _ _ (by simp) (by simp) (.inl h3.symm), State.fld_setFld_ne _ _ (by simp) (by simp) (.inl h3.symm)]

/-- A fence of a FENCED engine has no further effect. -/
theorem State.fence_fenced (s : State) (e cause : Nat) (h : s.fld (F.VE_STATUS_state e) = 1) : s.fence e cause = s := by
  rw [State.fence, if_pos (.inr h)]

/-- The queue pairs of an engine are those bound to it, where the contexts stand in their order. -/
theorem State.mem_qpsOf {e m : Nat} {q : Qp} (hm : s.qpAt m = some q) (he : q.engine = some e) : m ∈ s.qpsOf e :=
  List.mem_map.2 ⟨(m, q), List.mem_filter.2 ⟨mem_of_alGet hm, by simpa using he⟩, rfl⟩

/-- No queue pair is bound to an engine that was ACTIVE when it was fenced. -/
theorem State.fence_unbinds (s : State) (e cause : Nat) (he : e < s.part.engines) (hst : s.fld (F.VE_STATUS_state e) = 0) {n : Nat} {q : Qp}
    (hn : (s.fence e cause).qpAt n = some q) : q.engine ≠ some e := by
  have he64 : e < 64 := he.trans_le s.engines_le
  unfold State.fence at hn
  rw [if_neg (by omega)] at hn
  extract_lets a u _ v qs w x y z r at hn
  have ha : a.kept.qps = s.kept.qps := by
    simp only [a]
    rw [State.setFld_kept, State.setFld_kept]
  have hstate : a.fld (F.VE_STATUS_state e) = 1 := by
    simp only [a]
    rw [State.fld_setFld_ne _ _ (by simp) (by simp) (by simp), State.fld_setFld_of_lt _ _ (by simp) (by simp) (by simp)]
  have hu : u.kept.qps = a.kept.qps ∧ a.besideQps u := by
    simp only [u]
    split
    · exact ⟨by rw [State.complete_kept], State.besideQps.trans (t := { a with tests := alDel a.tests e }) (State.besideQps_of rfl rfl rfl rfl rfl rfl)
        (State.complete_besideQps _ _ _ _)⟩
    · exact ⟨rfl, .rfl⟩
  rw [if_neg (by simp [hst])] at hn
  have hv : v.kept.qps = s.kept.qps := hu.1.trans ha
  have hx : x.kept.qps = s.kept.qps := hv
  have hxs : x.fld (F.VE_STATUS_state e) = 1 := by
    have hux : u.besideQps x := State.besideQps.trans (State.besideQps_of rfl rfl rfl rfl rfl rfl : u.besideQps w) (State.setReg_besideQps _ _ _ (by omega))
    rw [hux.state e he64, hu.2.state e he64, hstate]
  have hy : ∀ m p, y.qpAt m = some p → p.engine ≠ some e := by
    intro m p hm he'
    obtain ⟨hmem, p', hp', hpe⟩ := State.unbindAll_engine (some e) qs x hm (by rw [he']; nofun)
    exact hmem (State.mem_qpsOf (s := v) (by rw [State.qpAt, hv, ← hx]; exact hp') (hpe.trans he'))
  have hz : z.fld (F.VE_STATUS_state e) = 1 ∧ ∀ m p, z.qpAt m = some p → p.engine ≠ some e := by
    have hxz : x.besideQps z := State.besideQps.trans (.foldl (fun s n => s.unbindLost_besideQps n _) _ _ : x.besideQps y) (State.raise_besideQps _ _ _ (by decide))
    refine ⟨by rw [hxz.state e he64, hxs], fun m p hm => hy m p ?_⟩
    rwa [State.qpAt, State.raise_kept] at hm
  have hr := State.bindQps_unbound e he64 qs z (by rw [hz.1]; decide) hz.2
  split at hn
  · exact hr n q hn
  · exact hr n q (by rwa [State.qpAt, State.raise_kept] at hn)

end Sys2Proof.Machine
end

section
set_option Elab.async false
/-! PROOFS. The statements about engines (R87 to R89) and about Weft's watchdog (R22). -/

namespace Sys2Proof.Machine

variable {s t : State}

/-! ### The rows of the engines -/

/-- A test finds the engine in the state it needs (R89). -/
theorem State.doTest_of_state {h : Hdr} {e st : Nat} (he : e < s.part.engines) (hst : s.fld (F.VE_STATUS_state e) = st) :
    s.doTest h e = if st = 2 then s.complete h .busy else if st = 1 then { s.setFld (F.VE_STATUS_state e) 2 with tests := alPut s.tests e h }
      else s.complete h .invalid := by
  rw [State.doTest]
  simp only [hst]
  rw [if_neg (by omega)]

theorem State.doSelfTest_ends {e : Nat} {h : Hdr} (pass : Bool) (hst : s.fld (F.VE_STATUS_state e) = 2) (ht : alGet s.tests e = some h) :
    s.doSelfTest e pass = (if pass then State.complete { s.setFld (F.VE_STATUS_state e) 3 with tests := alDel s.tests e } h .ok
      else State.complete { (s.setFld (F.VE_STATUS_state e) 1).setFld (F.VE_STATUS_fence_cause e) 5 with tests := alDel s.tests e } h .ok) := by
  cases pass <;> simp -implicitDefEqProofs [State.doSelfTest, hst, ht]

/-- Settles O31: a fence unbinds what its engine held before it binds anything, and binds to eligible engines only. -/
theorem fenceAndReturn : Obligations.FenceAndReturn := by
  unfold Obligations.FenceAndReturn
  refine ⟨?fence, ?check, ?bist, ?fenced, fun s e cause => s.fence_fenced e cause, ?test, ?testInvalid, ?testBusy, ?pass, ?fail, ?rejoin, ?rejoinInvalid⟩
  case fence =>
    intro s h e hs he
    refine (State.start_starts hs (fun s => s.doFence h e.val)).trans (congrArg _ ?_)
    exact if_neg (by simpa using he)
  case check => exact fun s e hs => State.core_runs hs (fun s => s.fence e.val 4)
  case bist => exact fun s e hs => State.core_runs hs (fun s => s.fence e.val 5)
  case fenced =>
    intro s e cause he hst hc _
    obtain ⟨hstate, hcause, -, -, hmem, hrdt, -⟩ := s.fence_spec e cause he (by omega) (by omega)
    exact ⟨hstate, hcause, fun n q hn => s.fence_unbinds e cause he hst hn, hmem, hrdt⟩
  case test =>
    intro s h e hs he hst
    refine (State.start_starts hs (fun s => s.doTest h e.val)).trans (congrArg _ ?_)
    exact State.doTest_of_state (s := s.begun) he ((s.fld_begun _).trans hst)
  case testInvalid =>
    intro s h e hs he hst
    refine (State.start_starts hs (fun s => s.doTest h e.val)).trans (congrArg _ ?_)
    rcases hst with hst | hst <;> exact State.doTest_of_state (s := s.begun) he ((s.fld_begun _).trans hst)
  case testBusy =>
    intro s h e hs he hst
    refine (State.start_starts hs (fun s => s.doTest h e.val)).trans (congrArg _ ?_)
    exact State.doTest_of_state (s := s.begun) he ((s.fld_begun _).trans hst)
  case pass =>
    intro s e h hs hst ht
    exact (State.core_runs hs (fun s => s.doSelfTest e.val true)).trans (congrArg _ (State.doSelfTest_ends true hst ht))
  case fail =>
    intro s e h hs hst ht
    exact (State.core_runs hs (fun s => s.doSelfTest e.val false)).trans (congrArg _ (State.doSelfTest_ends false hst ht))
  case rejoin =>
    intro s h e hs he hst
    refine (State.start_starts hs (fun s => s.doRejoin h e.val)).trans (congrArg _ (if_neg ?_))
    rw [State.fld_begun, hst]
    simpa using he
  case rejoinInvalid =>
    intro s h e hs hst
    refine (State.start_starts hs (fun s => s.doRejoin h e.val)).trans (congrArg _ (if_pos (.inr ?_)))
    rwa [State.fld_begun]

/-! ### Weft's watchdog -/

/-- The log of a stall, and its raise (R22). -/
def State.stallLogged (s : State) (c : BitVec 16) : State :=
  (if s.bit F.WEFT_STALL_LOG_valid then s else (s.setBit F.WEFT_STALL_LOG_valid true).setFld F.WEFT_STALL_LOG_channel c.toNat).raise Ev.WEFT_STALL

theorem State.recordStall_eq (s : State) (c : BitVec 16) : s.recordStall c = (channelEngine c).elim (s.stallLogged c) ((s.stallLogged c).fence · 2) := by
  unfold State.recordStall State.stallLogged
  dsimp only
  cases channelEngine c <;> rfl

theorem State.stallLogged_spec (s : State) (c : BitVec 16) (hs : s.runs) :
    (s.stallLogged c).bit F.WEFT_STALL_LOG_valid = true ∧
      (s.stallLogged c).fld F.WEFT_STALL_LOG_channel = (if s.bit F.WEFT_STALL_LOG_valid then s.fld F.WEFT_STALL_LOG_channel else c.toNat) ∧
      (s.stallLogged c).pended Ev.WEFT_STALL = true ∧ s.regsKept (s.stallLogged c) [F.WEFT_STALL_LOG_valid.off] ∧ s.sameButEvents (s.stallLogged c) := by
  unfold State.stallLogged
  obtain ⟨u, hu⟩ : ∃ u, u = if s.bit F.WEFT_STALL_LOG_valid then s
    else (s.setBit F.WEFT_STALL_LOG_valid true).setFld F.WEFT_STALL_LOG_channel c.toNat := ⟨_, rfl⟩
  have hsame : s.sameButEvents u := hu ▸ .ite .rfl ((State.sameButEvents.rfl.setFld _ _).setFld _ _)
  have hkept : s.regsKept u [F.WEFT_STALL_LOG_valid.off] := hu ▸ .ite .rfl ((State.regsKept.rfl.setFld _ (by simp)).setFld _ (by simp))
  rw [← hu]
  refine ⟨?_, ?_, State.pended_raise _ _ _ (by decide) (by rw [hsame.mode]; exact hs) ?_, hkept.raise _ _ (by decide), hsame.raise _ _⟩
  · rw [State.bit_raise _ _ _ (by decide) (by simp) (by simp) (by simp), hu]
    split
    · assumption
    · simp
  · rw [State.fld_raise _ _ _ (by decide) (by simp) (by simp) (by simp), hu]
    split
    · rfl
    · exact State.fld_setFld_of_lt _ _ c.isLt (by simp) (by simp)
  · unfold State.fusedEvent
    split <;> rfl

/-- A stall beyond the limit on a channel that no handshake is noted for (R22). -/
theorem State.doWeftStall_new (s : State) (c : BitVec 16) (waitUs : Nat) (hw : s.watched c = true) (h0 : s.fld F.WEFT_STALL_CFG_limit_us ≠ 0)
    (hlim : s.fld F.WEFT_STALL_CFG_limit_us < waitUs) (hnew : s.weft.all (fun h => h.channel != c) = true) :
    s.doWeftStall c waitUs = ({ s with weft := s.weft ++ [(⟨c, s.mrt - waitUs * 1000, true⟩ : Handshake)] } : State).recordStall c := by
  have hne : ∀ h ∈ s.weft, h.channel ≠ c := fun h hh => by simpa using List.all_eq_true.1 hnew h hh
  have hany : s.weft.any (fun h => h.channel == c && sameRequest h.since (s.mrt - waitUs * 1000)) = false :=
    List.any_eq_false.2 fun h hh => by simp [hne h hh]
  have hfilter : s.weft.filter (fun h => h.channel != c) = s.weft := List.filter_eq_self.2 fun h hh => by simpa using hne h hh
  have hmap : s.weft.map (fun h => if h.channel = c then { h with raised := true } else h) = s.weft := by
    refine (List.map_congr_left fun h hh => if_neg (hne h hh)).trans (List.map_id _)
  have hfld : ∀ l : List Handshake, ({ s with weft := l } : State).fld F.WEFT_STALL_CFG_limit_us = s.fld F.WEFT_STALL_CFG_limit_us := fun _ =>
    State.fld_congr rfl rfl _
  unfold State.doWeftStall
  rw [if_neg (by simp [hw])]
  dsimp only
  rw [hany, hfilter]
  simp only [Bool.false_eq_true, if_false]
  rw [hfld, if_pos ⟨h0, hlim, by simp⟩]
  simp only [List.map_append, hmap, List.map_cons, if_true, List.map_nil]

/-- Settles O11: a stall is logged and raised before an engine's fence, which leaves the log. -/
theorem weftWatchdog : Obligations.WeftWatchdog := by
  unfold Obligations.WeftWatchdog
  refine ⟨?logged, ?fenced, ?within, ?stopped, ?limit⟩
  case logged =>
    intro s c waitUs hs hc h0 hlim hnew
    have hw : s.watched c = true := by rw [State.watched, hc]
    obtain ⟨hv, hch, hp, hkept, hsame⟩ := State.stallLogged_spec
      ({ s with weft := s.weft ++ [(⟨c, s.mrt - waitUs * 1000, true⟩ : Handshake)] } : State) c hs
    refine ⟨_, (State.core_runs hs (fun s => s.doWeftStall c waitUs)).trans (congrArg _ ?_), hv, ?_, hp, hsame.weft, ?_, ?_⟩
    · rw [s.doWeftStall_new c waitUs hw h0 hlim hnew, State.recordStall_eq, hc]
      rfl
    · rw [hch]
      simp
    · exact (State.regsKept_of_csr (l := []) rfl rfl).trans hkept
    · rw [hsame.weft]
      exact hsame
  case fenced =>
    intro s c waitUs e hs hc hw h0 hlim hnew
    obtain ⟨hv, -, -, hkept, hsame⟩ := State.stallLogged_spec
      ({ s with weft := s.weft ++ [(⟨c, s.mrt - waitUs * 1000, true⟩ : Handshake)] } : State) c hs
    generalize hu : ({ s with weft := s.weft ++ [(⟨c, s.mrt - waitUs * 1000, true⟩ : Handshake)] } : State).stallLogged c = u at *
    have he : e < u.part.engines ∧ u.fld (F.VE_STATUS_state e) ≠ 1 := by
      simp only [State.watched, hc, Bool.and_eq_true, decide_eq_true_eq, bne_iff_ne] at hw
      have he64 : e < 64 := hw.1.trans_le s.engines_le
      refine ⟨by rw [hsame.part]; exact hw.1, ?_⟩
      have hreg := hkept (F.VE_STATUS_state e).off (by simp; omega) (eventRegister_eq_false ⟨by simp only; omega, by simp only; omega, by simp only; omega⟩)
      rw [State.fld, hreg]
      exact hw.2
    have he64 : e < 64 := he.1.trans_le u.engines_le
    obtain ⟨hstate, hcause, hfuses, hnor, hmem, hrdt, hregs⟩ := u.fence_spec e 2 he.1 he.2 (by decide)
    refine ⟨u.fence e 2, (State.core_runs hs (fun s => s.doWeftStall c waitUs)).trans (congrArg _ ?_), hstate, hcause, ?_,
      hfuses.trans hsame.fuses, hnor.trans hsame.nor, hmem.trans (by rw [hsame.kept]), hrdt.trans (by rw [hsame.kept])⟩
    · rw [s.doWeftStall_new c waitUs hw h0 hlim hnew, State.recordStall_eq, hc, ← hu]
      rfl
    · rw [State.bit, hregs _ (by simp) ⟨by simp, by simp, by simp⟩ (by simp only; omega)]
      exact hv
  case within =>
    intro s c waitUs hs hc hlim hany
    refine (State.core_runs hs (fun s => s.doWeftStall c waitUs)).trans (congrArg _ ?_)
    have hw : s.watched c = true := by rw [State.watched, hc]
    have hsame : s.weft.any (fun h => h.channel == c && sameRequest h.since (s.mrt - waitUs * 1000)) = true := by
      obtain ⟨h, hh, hp⟩ := List.any_eq_true.1 hany
      simp only [Bool.and_eq_true, beq_iff_eq] at hp
      exact List.any_eq_true.2 ⟨h, hh, by simp [hp.1, hp.2, sameRequest]⟩
    unfold State.doWeftStall
    rw [if_neg (by simp [hw])]
    dsimp only
    rw [hsame, if_pos rfl, if_neg (by omega)]
  case stopped =>
    intro s value hs h0
    have hfld : (s.taken.setFld F.WEFT_STALL_CFG_limit_us (bitsOf value 15 0)).fld F.WEFT_STALL_CFG_limit_us = 0 := by
      rw [State.fld_setFld_eq _ _ (by simp) (by simp), h0]
      rfl
    refine ⟨s.taken.setFld F.WEFT_STALL_CFG_limit_us (bitsOf value 15 0), ?_, hfld, State.setFld_regsKept _ _ _, State.onlyRegs.rfl.setFld _ _⟩
    refine (State.post_passes hs (fun s => (s.setFld F.WEFT_STALL_CFG_limit_us (bitsOf value 15 0)).watch)).trans (congrArg _ ?_)
    rw [State.watch, hfld]
    rfl
  case limit =>
    intro s value h hs h0 hweft hraised hc hlim
    have hbits : bitsOf value 15 0 < 2 ^ 16 := Nat.mod_lt _ (by decide)
    obtain ⟨u, hu⟩ : ∃ u, u = s.taken.setFld F.WEFT_STALL_CFG_limit_us (bitsOf value 15 0) := ⟨_, rfl⟩
    have hfld : u.fld F.WEFT_STALL_CFG_limit_us = bitsOf value 15 0 := hu ▸ State.fld_setFld_of_lt _ _ hbits (by simp) (by simp)
    have hframe : s.taken.onlyRegs u := hu ▸ State.onlyRegs.rfl.setFld _ _
    have huweft : u.weft = [h] := by rw [hframe]; exact hweft
    have humrt : u.mrt = s.mrt := by rw [State.mrt, hframe, State.mrt]
    have hmode : u.runs := by
      rw [State.runs, hframe]
      intro hm
      have hm : s.mode = .reset := hm
      simp [State.passes, State.turnWrite, hm] at hs
    obtain ⟨hv, -, hp, hkept, hsame⟩ := State.stallLogged_spec ({ u with weft := [{ h with raised := true }] } : State) h.channel hmode
    refine ⟨({ u with weft := [{ h with raised := true }] } : State).stallLogged h.channel, ?_, ?_, hsame.weft, hv, hp, ?_⟩
    · refine (State.post_passes hs (fun s => (s.setFld F.WEFT_STALL_CFG_limit_us (bitsOf value 15 0)).watch)).trans (congrArg _ ?_)
      have hw : u.watched h.channel = true := by rw [State.watched, hc]
      rw [← hu, State.watch, hfld, huweft, humrt]
      simp only [List.filter_cons, hraised, hlim, hw]
      simp [h0, State.recordStall_eq, hc]
    · have hreg := hkept F.WEFT_STALL_CFG_limit_us.off (by decide) (by decide)
      rw [State.fld, hreg]
      exact hfld
    · refine ((hu ▸ s.taken.setFld_regsKept F.WEFT_STALL_CFG_limit_us (bitsOf value 15 0) : s.taken.regsKept u _).trans
        ((State.regsKept_of_csr (l := []) rfl rfl).trans hkept)).mono (by simp)

end Sys2Proof.Machine
end

section
set_option Elab.async false
/-! PROOFS. The statements about regions: their states (R50), table-writes (R55), and the drain of a closing region (R59 to R61). -/

namespace Sys2Proof.Machine

/-! ### Concrete outcomes -/

/-- A row ends in a state of which `p` holds. -/
def endsIn (r : Res) (p : State → Bool) : Bool :=
  match r with
  | .next t => p t
  | _ => false

theorem of_endsIn {r : Res} {p : State → Bool} {t : State} (h : endsIn r p = true) (hr : r = .next t) : p t = true := by
  rw [hr] at h
  exact h

/-! ### Region commands by state (R50) -/

/-- What `admits` lets through found its region VALID with broken clear: steps 2 and 3 of R51. -/
theorem State.valid_of_keyCheck {s : State} {pd : Nat} {key : BitVec 32} {right : Right} {va len : Nat} {bounds : Bool}
    (hc : s.keyCheck pd key right va len bounds = none) : (s.rgn (keyIndex key)).state = .valid ∧ (s.rgn (keyIndex key)).broken = false := by
  unfold State.keyCheck at hc
  simp only at hc
  split at hc
  · cases hc
  split at hc
  · cases hc
  next hst =>
    split at hc
    · cases hc
    next hbr => exact ⟨by_contra fun h => hst (.inl h), by simpa using hbr⟩

/-- A key names its index where the descriptor can be read, and its tag is that of the region's state (R50). -/
theorem State.current_eq (s : State) (key : BitVec 32) : s.current key = if s.descPoisoned (keyIndex key) = true then none else
    if ((s.rgn (keyIndex key)).state = .valid ∧ keyTag key = (s.rgn (keyIndex key)).epoch % 4096) ∨
      ((s.rgn (keyIndex key)).state = .closing ∧ keyTag key = ((s.rgn (keyIndex key)).epoch + 2 ^ 32 - 1) % 4096)
    then some (keyIndex key) else none := by
  unfold State.current
  refine if_congr Iff.rfl rfl ?_
  cases (s.rgn (keyIndex key)).state <;> simp only [reduceCtorEq, false_and, true_and, or_false, false_or, ↓reduceIte]

theorem State.current_begun (s : State) (key : BitVec 32) : s.begun.current key = s.current key := rfl

theorem State.rgn_begun (s : State) (i : Nat) : s.begun.rgn i = s.rgn i := rfl

/-- Settles O20: each command fails the check of its rule, and a shared-state command that fails one only completes. -/
theorem regionCommandsByState : Obligations.RegionCommandsByState := by
  unfold Obligations.RegionCommandsByState
  refine ⟨State.current_eq, fun s pd key right va len bounds x ha => State.valid_of_keyCheck (State.keyCheck_of_admits ha), ?dereg, ?repair, ?sync,
    ?extent, ?register, ?deregClosing, ?repairClosing, ?syncClosing⟩
  case dereg =>
    intro s h key hs hk
    refine State.sharedRow_refused hs ?_ nofun
    rw [State.checkShared, State.checkDeregister, State.current_begun, hk]
  case repair =>
    intro s h key hs hk
    refine State.sharedRow_refused hs ?_ nofun
    rw [State.checkShared, State.checkSync, State.current_begun, hk]
  case sync =>
    intro s h key hs hk
    refine State.sharedRow_refused hs ?_ nofun
    rw [State.checkShared, State.checkSync, State.current_begun, hk]
  case extent =>
    intro s h key flag policy hs hk
    refine State.sharedRow_refused hs ?_ nofun
    rw [State.checkShared, State.checkSetExtent, State.current_begun, hk]
  case register =>
    intro s h a i hs hi hlt hp hst
    refine State.sharedRow_refused hs ?_ nofun
    have hc : s.registerCheck i a = some .busy := by
      rw [State.registerCheck, if_neg (by simp [hp, hlt]), if_pos (.inl hst)]
    rw [State.checkShared, State.checkRegister_begun, State.checkRegister, State.registerIndex, hi]
    simp only [hc]
  case deregClosing =>
    intro s h key i hs hk hst
    refine State.sharedRow_refused hs ?_ nofun
    rw [State.checkShared, State.checkDeregister, State.current_begun, hk]
    simp [State.rgn_begun, hst]
  case repairClosing =>
    intro s h key i hs hk hst
    refine State.sharedRow_refused hs ?_ nofun
    rw [State.checkShared, State.checkSync, State.current_begun, hk]
    simp [State.rgn_begun, hst]
  case syncClosing =>
    intro s h key i hs hk hst
    refine State.sharedRow_refused hs ?_ nofun
    rw [State.checkShared, State.checkSync, State.current_begun, hk]
    simp [State.rgn_begun, hst]

/-! ### A table-write (R55) -/

/-- The header of a table-write from the management queue pair. -/
def keyedTableHdr : Hdr := ⟨.mqp, 7, 4⟩

/-- A unit in SOLO that has granted a table-write of one entry, where the tile of the tile-table area that it goes to has a line kept
under another key pair, a churn record, and a map entry in the map cache. -/
def keyedTableUnit : State :=
  { State.reset with
    mode := .solo
    kept := { tiles := [(0xFFFE0400, { keyed := [(0, 1)] })], records := [(0xFFFE0400, 0)], segs := [{ no := 0x3FFF81, place := 0, dirty := false }] }
    gate := { granted := [⟨keyedTableHdr, .tableWrite 0xFFFE04000000 1 true [65536#64], false⟩] } }

/-- The map entry of that tile says that it has a churn record. -/
theorem keyedTableUnit_mapEntry : keyedTableUnit.byte (cacheBase + 3) = 64#8 := by decide +kernel

/-- The write stores the line anew, and the tile's churn record goes with it: its map entry is then empty. -/
theorem keyedTableUnit_mapEntry_written : endsIn (exec (.tableWrite keyedTableHdr 0xFFFE04000000 1 true [65536#64]) keyedTableUnit)
    (fun t => t.byte (cacheBase + 3) == 0#8) = true := by decide +kernel

/-- Refutes O23: a byte outside the entries changes. A written line that was kept under another key pair sets its tile, and with it the tile's
churn record, which the bytes of the map cache in the carve-out show. -/
theorem not_tableWriteStores : ¬ Obligations.TableWriteStores := by
  unfold Obligations.TableWriteStores
  rintro ⟨stores, -⟩
  obtain ⟨t, ht, -, hbyte, -⟩ := stores keyedTableUnit keyedTableHdr 0xFFFE04000000 [65536#64] (by decide +kernel) (by decide +kernel)
    (by decide +kernel) (by decide +kernel)
  have hzero := of_endsIn keyedTableUnit_mapEntry_written ht
  have hsame := hbyte (cacheBase + 3) (.inr (by decide))
  rw [keyedTableUnit_mapEntry] at hsame
  simp [hsame] at hzero

/-! ### The drain deadline (R60) -/

/-- A write of one byte that FOLLOW has forwarded to its LEAD, accepted in region 7. -/
def forwardedWrite : Msg :=
  { psn := 8, last := 8, verb := .write, region := some 7, pieces := [(0x10000, 1)], len := 1, data := [1], imm := 0, cmp := 0, swapAdd := 0
    relaxed := false, ackReq := true, local_ := false, entry := none, got := 1, phase := .accepted, atPoint := false, fwd := true, dup := false
    resent := false, pub := none, result := none, solicit := false, arrived := 0 }

/-- The queue pair whose only message that is. -/
def forwardingQp : Qp := { state := .rtr, epsn := 9, msgs := [forwardedWrite] }

/-- A unit in SOLO whose region 7 is CLOSING with that message admitted to it. -/
def forwardingUnit : State :=
  { State.reset with mode := .solo, kept := { rdt := [(7, { state := .closing })], qps := [(3, forwardingQp)] } }

theorem forwardingUnit_keeps_message : endsIn (exec (.drainDeadline 7) forwardingUnit)
    (fun t => (t.qpAt 3).map (fun q => q.msgs) == some [forwardedWrite]) = true := by decide +kernel

/-- Refutes O22: a message that FOLLOW has forwarded may have begun to apply at LEAD, so the deadline abandons only what was not forwarded
(R60), and the statement's clause on the deadline does not except it. -/
theorem not_regionCommands : ¬ Obligations.RegionCommands := by
  unfold Obligations.RegionCommands
  rintro ⟨-, -, -, -, abandons, -, -⟩
  obtain ⟨t, ht, hqp, -⟩ := abandons forwardingUnit 7 3 forwardingQp forwardedWrite (by decide +kernel) (by decide +kernel) (by decide +kernel)
    rfl rfl rfl rfl rfl rfl rfl rfl (by decide +kernel) rfl (by decide +kernel)
  have hkeeps := of_endsIn forwardingUnit_keeps_message ht
  cases hq : t.qpAt 3 with
  | none => simp [hq] at hqp
  | some q => simp_all

end Sys2Proof.Machine
end

section
set_option Elab.async false
/-! PROOFS. Queue pairs that commit, answer and retry (R69, R73 to R78): concrete units on which three statements fail. -/

namespace Sys2Proof.Machine

/-! ### A commit and the home block of its tile (R77, R113) -/

/-- An accepted write of one byte to the first byte of tile 1. -/
def agedWrite : Msg :=
  { psn := 9, last := 9, verb := .write, region := some 7, pieces := [(0x10000, 1)], len := 1, data := [7], imm := 0, cmp := 0, swapAdd := 0
    relaxed := false, ackReq := true, local_ := false, entry := none, got := 1, phase := .accepted, atPoint := false, fwd := false, dup := false
    resent := false, pub := none, result := none, solicit := false, arrived := 0 }

/-- The queue pair whose only message it is. -/
def agedQp : Qp := { state := .rts, engine := some 0, pd := 5, pmtu := 1024, remote := some (1, 2), msgs := [agedWrite] }

/-- A unit in SOLO with its gates open, whose tile 1 is homed in DRAM at age 3, with its entry in home block 0. -/
def agedUnit : State :=
  ({ State.reset with
      mode := .solo, ports := { up := [0] }
      kept := { qps := [(3, agedQp)], tiles := [(1, { home := .dram, age := 3 })], homes := [(0, 0)] } }).setBit F.SEAM_STATUS_gates_open true

/-- Byte 5 of the tile's entry shows its age. -/
theorem agedUnit_entry : agedUnit.byte (blocksBase + 13) = 0x30#8 := by decide +kernel

theorem agedUnit_entry_committed : endsIn (exec (.messageCommit 3 9 .clean) agedUnit)
    (fun t => t.byte (blocksBase + 13) == 0#8) = true := by decide +kernel

/-- Refutes O26: an access sets a tile's age to 0 (R125), and the tile's entry in its home block, which lies in the carve-out, shows the age
(R113): a byte outside the write changes. -/
theorem not_writeCommits : ¬ Obligations.WriteCommits := by
  unfold Obligations.WriteCommits
  rintro ⟨commits, -⟩
  obtain ⟨t, ht, -, hbyte, -⟩ := commits agedUnit 3 agedQp agedWrite 0x10000 rfl (by decide +kernel) (by decide +kernel) rfl rfl rfl nofun rfl rfl rfl
    rfl rfl rfl rfl (by decide) (by decide) (by decide) (by decide +kernel) (by decide +kernel) (by decide +kernel) (by decide +kernel)
    (by decide +kernel) (by decide +kernel) (by decide +kernel) (.inl (by decide +kernel)) (by decide) (by decide)
  have hzero := of_endsIn agedUnit_entry_committed ht
  have hsame := hbyte (blocksBase + 13) (.inr (by decide))
  rw [agedUnit_entry] at hsame
  simp [hsame] at hzero

/-! ### A retry and the responses that wait (R69, R78) -/

/-- A request recorded with the packet of a response. -/
def responseReq : Req := ⟨5, 5, 0, 0, [1], [], .ack 5, none⟩

/-- The requester that has it outstanding, with a try left. -/
def responseReqQp : Qp := { state := .rts, retry := 1, reqs := [responseReq] }

/-- A unit in SOLO with an ACK of a later PSN of that queue pair in the port's transmit queue. -/
def responseReqUnit : State :=
  { State.reset with mode := .solo, kept := { qps := [(3, responseReqQp)] }, ports := { tx := [⟨0, 0, 3, 0, .ack 9, false⟩] } }

/-- The packet takes its place in PSN order, before the ACK of the later PSN. -/
theorem responseReqUnit_order : endsIn (exec (.requesterRetryTimeout 3) responseReqUnit)
    (fun t => (t.ports.tx.map (fun x => x.wire)) == [.ack 5, .ack 9]) = true := by decide +kernel

/-- Refutes O27: a packet that is sent again joins the transmit queue before the responses of later PSNs (R78), and the statement, in which a
request may hold any packet, puts it at the queue's end. -/
theorem not_answersAndRetries : ¬ Obligations.AnswersAndRetries := by
  unfold Obligations.AnswersAndRetries
  rintro ⟨-, -, -, -, retries, -⟩
  have ht := retries responseReqUnit 3 responseReqQp (by decide +kernel) (by decide +kernel) (by decide) rfl (by decide)
  have horder := of_endsIn responseReqUnit_order ht
  revert horder
  decide +kernel

/-! ### An RNR NAK behind an earlier response (R63, R78) -/

/-- A write of two bytes at PSN 9 that is parked since time 4. -/
def parkedWrite : Msg :=
  { psn := 9, last := 9, verb := .write, region := some 7, pieces := [(0x1FFFE, 2)], len := 2, data := [7, 8], imm := 0, cmp := 0, swapAdd := 0
    relaxed := false, ackReq := true, local_ := false, entry := none, got := 2, phase := .parked 4, atPoint := false, fwd := false, dup := false
    resent := false, pub := none, result := none, solicit := false, arrived := 0 }

/-- The queue pair whose only message it is. -/
def parkedQp : Qp := { state := .rts, engine := some 0, pd := 5, pmtu := 1024, remote := some (1, 2), epsn := 10, msgs := [parkedWrite] }

/-- A unit in SOLO, long after the park, with an ACK of PSN 5 of that queue pair in the port's transmit queue. -/
def parkedUnit : State :=
  ({ State.reset with
      mode := .solo, mrtQ := 400000000, parks := [(3, 9)], kept := { qps := [(3, parkedQp)] }
      ports := { up := [0], tx := [⟨0, 0, 3, 0, .ack 5, false⟩] } }).setBit F.SEAM_STATUS_gates_open true

/-- The NAK of PSN 9 waits behind that ACK. -/
theorem parkedUnit_sends_nothing : endsIn (exec (.rnrThresholdExpire 3 9) parkedUnit)
    (fun t => t.out == []) = true := by decide +kernel

/-- Refutes O28: the clause on the RNR threshold asks for a clear way for a NAK of PSN 0, which goes before the ACK that waits; the NAK of the
parked message's own PSN does not, and stays (R78). -/
theorem not_naksLeave : ¬ Obligations.NaksLeave := by
  unfold Obligations.NaksLeave
  rintro ⟨-, -, -, rnr, -⟩
  obtain ⟨t, ht, ⟨l, hout⟩, -⟩ := rnr parkedUnit 3 parkedQp parkedWrite 4 0 (by decide +kernel) (by decide +kernel) rfl rfl rfl rfl rfl rfl rfl rfl
    (by decide +kernel) rfl (by decide +kernel) rfl (by decide +kernel) (by decide +kernel)
  have hnone := of_endsIn parkedUnit_sends_nothing ht
  simp [hout] at hnone

end Sys2Proof.Machine
end

section
set_option Elab.async false
/-! PROOFS. Queue-pair and channel commands, and delivery (R33, R69, R96, R101): concrete units on which three statements fail. -/

namespace Sys2Proof.Machine

/-! ### A publish that its channel lets complete (R94, R96) -/

/-- A SEND of the publisher on channel 2, committed and at its acknowledgement point. -/
def publishedSend : Msg :=
  { psn := 8, last := 8, verb := .send, region := none, pieces := [], len := 2, data := [7, 8], imm := 0, cmp := 0, swapAdd := 0
    relaxed := false, ackReq := false, local_ := false, entry := none, got := 2, phase := .committed, atPoint := true, fwd := false, dup := false
    resent := false, pub := some (2, 1), result := none, solicit := false, arrived := 0 }

/-- A channel that asks for no subscriber and has no publisher any more. -/
def detachedChan : Chan :=
  { args := { number := 2, pd := 5, local_ := false, quorum := 0, retention := some 65536, maxMsg := 512, relKey := 0x7000, relOffset := 0
              snapshot := none, hintOn := false, hintGroup := 0, hintQKey := 0, hintQp := 6, logTile := 1 } }

/-- A subscriber of that channel on queue pair 3. -/
def ackedSub : Sub := { state := .live, qp := 3, addr := 0x10000, key := 0x7000, size := 131072, seal_ := false, sent := 2, released := 0 }

/-- The request that took entry 1 to it. -/
def entryReq : Req := ⟨0, 0, 2, 1, [1], [], .write 0x7000 0 [] none, none⟩

/-- The subscriber's queue pair. -/
def entryQp : Qp := { state := .rts, engine := some 0, pd := 5, reqs := [entryReq] }

/-- A unit in SOLO with its gates open. Queue pair 4 has published and has been detached since; its message is still its first. -/
def publishedUnit : State :=
  ({ State.reset with
      mode := .solo
      kept := { chans := [(2, detachedChan)], subs := [(2049, ackedSub)]
                qps := [(3, entryQp), (4, { state := .rts, msgs := [publishedSend] })] } }).setBit F.SEAM_STATUS_gates_open true

/-- The subscriber's acknowledgement has the channel's publishes looked at, and that message completes. -/
theorem publishedUnit_completes : endsIn (exec (.subscriberAckReceive 2 1 1) publishedUnit) (fun t => t.tlr.qpLoad == [(4, 1)]) = true := by
  decide +kernel

/-- Refutes O33: an acknowledgement of a subscriber can let a publish of its channel complete (R96), also one of a queue pair that is not a
publisher any more, and the statement has nothing change but queue pairs and channels. -/
theorem not_publishDelivery : ¬ Obligations.PublishDelivery := by
  unfold Obligations.PublishDelivery
  rintro ⟨-, -, -, -, acked, -⟩
  obtain ⟨t, ht, -, -, hframe⟩ := acked publishedUnit 2 1 detachedChan ackedSub entryQp entryReq (by decide +kernel) (by decide +kernel)
    (by decide +kernel) rfl (by decide +kernel) (by decide +kernel) rfl rfl rfl (by decide) rfl
  have hload := of_endsIn publishedUnit_completes ht
  have htlr : t.tlr = publishedUnit.tlr := by rw [hframe]
  rw [htlr] at hload
  exact absurd hload (by decide +kernel)

/-- The removal of the subscriber does the same. -/
theorem publishedUnit_remove_completes : (((publishedUnit.dropSub 2 1).qpAt 4).map (fun q => q.msgs) == some []) = true := by decide +kernel

theorem publishedUnit_qp : ((publishedUnit.qpAt 4).map (fun q => q.msgs) == some []) = false := by decide +kernel

/-- Refutes O32: the removal of a subscriber can let a publish of its channel complete (R96), also one of a queue pair that is not a publisher any
more, and the statement has nothing change but subscribers and channels. -/
theorem not_channelCommands : ¬ Obligations.ChannelCommands := by
  unfold Obligations.ChannelCommands
  rintro ⟨-, -, -, -, -, -, -, -, -, -, -, removed⟩
  obtain ⟨-, -, -, hframe⟩ := removed publishedUnit 2 1 detachedChan (by decide +kernel) nofun
  have hqps : (publishedUnit.dropSub 2 1).kept.qps = publishedUnit.kept.qps := by rw [hframe]
  have hdone := publishedUnit_remove_completes
  rw [State.qpAt, hqps] at hdone
  exact absurd hdone (by rw [← State.qpAt, publishedUnit_qp]; decide)

/-! ### A queue pair whose cells are not its own (R32, R33) -/

/-- A committed write whose chain names three cells that are free. -/
def strayCellsWrite : Msg :=
  { psn := 8, last := 8, verb := .write, region := some 7, pieces := [(0x10000, 1)], len := 1, data := [1], imm := 0, cmp := 0, swapAdd := 0
    relaxed := false, ackReq := true, local_ := false, entry := none, got := 1, phase := .committed, atPoint := false, fwd := false, dup := false
    resent := false, pub := none, result := none, solicit := false, arrived := 0, cells := [(1, 1), (2, 1), (3, 1)] }

/-- A unit in SOLO with two queue pairs of engine 0: one in ERROR, which holds that message, and one that is chosen to move to engine 1. -/
def strayCellsUnit : State :=
  { State.reset with
    mode := .solo
    kept := { qps := [(3, { state := .error, engine := some 0, msgs := [strayCellsWrite] }), (4, { state := .rts, engine := some 0, moveTo := some 1 })] } }

/-- The three bad frees fence engine 0, and the other queue pair loses its binding and its move. -/
theorem strayCellsUnit_fences : (((strayCellsUnit.dropQp 3).qpAt 4).map (fun q => q.moveTo) == some none) = true := by decide +kernel

theorem strayCellsUnit_qp : ((strayCellsUnit.qpAt 4).map (fun q => q.moveTo) == some (some 1)) = true := by decide +kernel

/-- Refutes O30: freeing the Spool cells of a destroyed queue pair can be the third bad free of its engine, which fences the engine (R33), and a fence changes
more of the other queue pairs than their engine, fencedBy and rate. -/
theorem not_queuePairCommands : ¬ Obligations.QueuePairCommands := by
  unfold Obligations.QueuePairCommands
  rintro ⟨-, -, -, -, -, -, -, -, -, -, dropped, -⟩
  obtain ⟨-, hother, -⟩ := dropped strayCellsUnit 3 4 (by decide +kernel) (by decide)
  have hmove := congrArg (Option.map (fun q : Qp => q.moveTo)) hother
  simp only [Option.map_map, Function.comp_def] at hmove
  have hnone := eq_of_beq strayCellsUnit_fences
  rw [hmove, eq_of_beq strayCellsUnit_qp] at hnone
  exact absurd hnone (by decide)

end Sys2Proof.Machine
end

section
set_option Elab.async false
/-! PROOFS. The command gate's window (R26) and the NOR's appends (R336): concrete units on which two statements fail. -/

namespace Sys2Proof.Machine

/-! ### A grant that a monitor records (R26, R359) -/

/-- The lifetime record of monitor 0. -/
def grantRecord : PeatRec :=
  { kind := 2, sev := 3, source := 0, inst := 3, config := 0, seq := 5, firstH := 0, firstC := 0, lastH := 0, lastC := 0, data := Live.zero
    lastAt := none }

/-- A command of the PCIe function. -/
def lonelyCmd : GateCmd := ⟨⟨.pcie, 7, 6⟩, .debugClose, false⟩

/-- A unit in SOLO whose open window holds that command alone, and whose monitor 0 records how long the commands of rank 3 wait at the gate. -/
def monitoredUnit : State :=
  ({ State.reset with
      mode := .solo, kept := { peat := [(0, grantRecord)], peatSeq := 5 }
      gate := { active := true, window := [(lonelyCmd, 0)] } }.setFld (F.MON_CFGm_sel 0) 7).setFld (F.MON_CFGm_inst 0) 3

/-- The grant's sample takes the next sequence number of Peat's store. -/
theorem monitoredUnit_grants : endsIn (exec .gateWindowClose monitoredUnit) (fun t => t.kept.peatSeq == 6) = true := by decide +kernel

/-- Refutes O9: a grant is sampled by the monitors, whose lifetime records in Peat take the store's next sequence number (R359, R360), and the
statement has nothing that is kept change but the records. -/
theorem not_gateOrders : ¬ Obligations.GateOrders := by
  unfold Obligations.GateOrders
  rintro ⟨-, -, -, -, -, granted, -⟩
  obtain ⟨t, ht, -, -, hkept, -⟩ := granted monitoredUnit lonelyCmd 0 (by decide +kernel) (by decide +kernel) (by decide +kernel) (by decide +kernel)
    (by decide +kernel)
  have hseq := of_endsIn monitoredUnit_grants ht
  have hsame : t.kept.peatSeq = monitoredUnit.kept.peatSeq := by rw [hkept]
  rw [hsame] at hseq
  exact absurd hseq (by decide +kernel)

/-! ### An append to a sector that is to be erased again (R331, R336) -/

/-- A counter record that goes into sector 16. -/
def einCounter : CounterRec := { hours := 1, cycles := 1, rails := [], sector := 16 }

/-- A unit in SOLO on whose NOR sector 16 is erase-incomplete and that record waits. -/
def eincUnit : State := { State.reset with mode := .solo, nor := { State.reset.nor with einc := [16], appends := [.counter einCounter] } }

/-- The record stays where it is. -/
theorem eincUnit_waits : endsIn (exec (.norRecordAppend 1) eincUnit) (fun t => t.nor.appends == [.counter einCounter]) = true := by decide +kernel

/-- Refutes O56: no record goes into a sector that is still to be erased again (R336), and the clause on counter records does not except it. -/
theorem not_programsAndErases : ¬ Obligations.ProgramsAndErases := by
  unfold Obligations.ProgramsAndErases
  rintro ⟨-, -, -, -, -, -, -, -, -, -, -, -, -, -, -, counted, -⟩
  have ht := counted eincUnit 1 einCounter (by decide +kernel) (by decide +kernel) (by decide +kernel) (by decide +kernel) rfl
  have hwaits := of_endsIn eincUnit_waits ht
  exact absurd hwaits (by decide)

end Sys2Proof.Machine
end

section
set_option Elab.async false
/-! PROOFS. RESTORE (R153, R158, R187): a concrete unit on which the statement fails. -/

namespace Sys2Proof.Machine

/-! ### A unit that begins to serve completes what its twin had committed (R187, R372) -/

/-- A message with a receive entry that the lost twin had committed at PSN 9. -/
def lostTwinSend : Msg :=
  { psn := 9, last := 9, verb := .send, region := some 7, pieces := [], len := 0, data := [], imm := 0, cmp := 0, swapAdd := 0
    relaxed := false, ackReq := true, local_ := false, entry := some ⟨1, 0x7000, 0, 64⟩, got := 0, phase := .committed, atPoint := true, fwd := false
    dup := false, resent := false, pub := none, result := none, solicit := false, arrived := 0 }

/-- The twin's queue pair, which expects that PSN and holds no message, with a completion ring in region 7. -/
def lostTwinQp : Qp := { state := .rts, host := true, pd := 5, pmtu := 1024, remote := some (1, 2), epsn := 9, past := [lostTwinSend], ring := some ⟨⟨6, 0x7000, 0⟩, 0⟩ }

/-- A unit in RESTORE that may serve, whose gates are open, with that queue pair and the ring's region in tile 1, homed in DRAM. -/
def servingUnit : State :=
  ((({ State.reset with
      mode := .restore
      kept := { qps := [(3, lostTwinQp)], rdt := [(7, { state := .valid, pd := 5, target := 0x10000, length := 0x10000 })]
                tiles := [(1, { home := .dram, changed := true })] } }.setBit
    F.GLB_RESTORE_CFG_serve_en true).setBit F.SEAM_WIT_STAT_held true).setBit F.SEAM_STATUS_gates_open true)

/-- The receive entry's completion is in the ring: its byte 16 is the queue pair's number. -/
theorem servingUnit_writes : endsIn (exec .restoreServingBegin servingUnit) (fun t => alGet t.kept.mem (0x10000 + 16) == some 3) = true := by
  decide +kernel

/-- Refutes O39: the queue pairs that the unit adopts as it begins to serve complete what their twin had committed (R187), which writes their
completion rings, and the statement has memory stay as it is wherever no message waits in a context. -/
theorem not_restoreRuns : ¬ Obligations.RestoreRuns := by
  unfold Obligations.RestoreRuns
  rintro ⟨serves, -⟩
  obtain ⟨t, ht, -, -, -, -, hmem, -⟩ := serves servingUnit (by decide +kernel) (by decide +kernel)
  have hwritten := of_endsIn servingUnit_writes ht
  rw [hmem] at hwritten
  exact absurd hwritten (by decide +kernel)

end Sys2Proof.Machine
end

section
set_option Elab.async false
/-! PROOFS. Beats and links (R172 to R178), and the statement about them. -/

namespace Sys2Proof.Machine

variable {s t : State}

/-! ### Rows of the pair -/

theorem State.pairRow_runs (hs : s.runs) (f : State → State) : s.pairRow f = .next (f s).settleShared := State.core_runs hs _

/-! ### What a frame that leaves a link changes (R172, R174) -/

/-- Of a link, only the frames that it holds and its numbers differ. -/
def Link.sameLine (x y : Link) : Prop := y = { x with synced := y.synced, rx := y.rx, tx := y.tx, unacked := y.unacked, queue := y.queue }

theorem Link.sameLine.trans {x y z : Link} (h : x.sameLine y) (h' : y.sameLine z) : x.sameLine z := by
  unfold Link.sameLine at *
  rw [h', h]

/-- Nothing changed but the frames that the links hold and their numbers, and what has left the device. -/
def State.linksOnly (s t : State) : Prop :=
  t = { s with seam := { s.seam with link0 := t.seam.link0, link1 := t.seam.link1 }, free := t.free, out := t.out } ∧
  s.seam.link0.sameLine t.seam.link0 ∧ s.seam.link1.sameLine t.seam.link1

theorem State.linksOnly.refl (s : State) : s.linksOnly s := ⟨rfl, rfl, rfl⟩

theorem State.linksOnly.trans {u : State} (h : s.linksOnly t) (h' : t.linksOnly u) : s.linksOnly u := by
  obtain ⟨h, h0, h1⟩ := h
  obtain ⟨h', h0', h1'⟩ := h'
  refine ⟨?_, h0.trans h0', h1.trans h1'⟩
  rw [h', h]

theorem State.linksOnly.putFrame (h : s.linksOnly t) (l n i : Nat) (f : SFrame) : s.linksOnly (t.putFrame l n i f) := h.trans ⟨rfl, rfl, rfl⟩

theorem State.linksOnly.setLink (h : s.linksOnly t) {l : Nat} {x : Link} (hx : (t.seamLink l).sameLine x) : s.linksOnly (t.setLink l x) := by
  refine h.trans ?_
  by_cases hl : l = 0
  · subst hl
    exact ⟨rfl, hx, rfl⟩
  · rw [State.setLink, if_neg hl]
    rw [State.seamLink, if_neg hl] at hx
    exact ⟨rfl, rfl, hx⟩

theorem State.linksOnly.launch (h : s.linksOnly t) (l i : Nat) (f : SFrame) : s.linksOnly (t.launch l i f) := (h.setLink (by rfl)).putFrame _ _ _ _

theorem State.linksOnly.pumpN (l k : Nat) : ∀ {t : State}, s.linksOnly t → s.linksOnly (State.pumpN k l t) := by
  induction k with
  | zero => exact id
  | succ k ih =>
    intro t h
    rw [State.pumpN]
    split
    · exact h
    · split
      · exact ih ((h.setLink (by rfl)).launch _ _ _)
      · exact h

theorem State.linksOnly_gotFrames (s : State) (l q n a : Nat) : s.linksOnly (s.gotFrames l q n a) := ((State.linksOnly.refl s).setLink (by rfl)).pumpN _ _

theorem State.linksOnly.frame (h : s.linksOnly t) :
    t = { s with seam := { s.seam with link0 := t.seam.link0, link1 := t.seam.link1 }, free := t.free, out := t.out } := h.1

theorem State.linksOnly.peer (h : s.linksOnly t) : t.seam.peer = s.seam.peer := by rw [h.frame]

theorem State.linksOnly.mrt (h : s.linksOnly t) : t.mrt = s.mrt := by rw [h.frame]; rfl

theorem State.linksOnly.fld (h : s.linksOnly t) (f : Fld) : t.fld f = s.fld f := State.fld_congr (by rw [h.frame]) (by rw [h.frame]) f

theorem State.linksOnly.sameLine (h : s.linksOnly t) (l : Nat) : (s.seamLink l).sameLine (t.seamLink l) := by
  unfold State.seamLink
  split
  · exact h.2.1
  · exact h.2.2

theorem Link.sameLine.up {x y : Link} (h : x.sameLine y) : y.up = x.up := by rw [h]

theorem Link.sameLine.beats {x y : Link} (h : x.sameLine y) : y.beats = x.beats := by rw [h]

theorem Link.sameLine.last {x y : Link} (h : x.sameLine y) : y.last = x.last := by rw [h]

/-! ### What a beat leaves of the unit before it is heard (R176, R313) -/

/-- A sample touches the monitors and their records in Peat (R359). -/
def State.sampledOnly (s t : State) : Prop :=
  t = { s with mons := t.mons, kept := { s.kept with peat := t.kept.peat, peatSeq := t.kept.peatSeq } }

theorem State.sampledOnly_monitor (s : State) (m v : Nat) : s.sampledOnly (s.monitor m v) := by
  unfold State.monitor
  dsimp only
  split
  · rfl
  · split <;> rfl

theorem State.sampledOnly.trans {u : State} (h : s.sampledOnly t) (h' : t.sampledOnly u) : s.sampledOnly u := by
  unfold State.sampledOnly at *
  rw [h', h]

theorem State.sampledOnly_foldl (v : Nat) (l : List Nat) : ∀ s : State, s.sampledOnly (l.foldl (fun s m => s.monitor m v) s) := by
  induction l with
  | nil => exact fun _ => rfl
  | cons m l ih => exact fun s => (s.sampledOnly_monitor m v).trans (ih _)

theorem State.sampledOnly_sample (s : State) (sel : Nat) (inst : Option Nat) (v : Nat) : s.sampledOnly (s.sample sel inst v) := by
  unfold State.sample
  split
  · exact State.sampledOnly_foldl _ _ _
  · rfl

theorem State.sample_seam (s : State) (sel : Nat) (inst : Option Nat) (v : Nat) : (s.sample sel inst v).seam = s.seam := by
  rw [s.sampledOnly_sample sel inst v]

theorem State.measureRtt_seam (s : State) (l : Nat) (b : Beat) : (s.measureRtt l b).seam = s.seam := by
  unfold State.measureRtt
  split
  · rfl
  · split
    rw [State.sample_seam, State.setFld_seam, State.setFld_seam]

theorem State.holdCommit_seam (s : State) (v : Nat) : (s.holdCommit v).seam = s.seam := by
  unfold State.holdCommit
  split
  · rfl
  · split
    · rfl
    · dsimp only
      split
      · rw [State.setBit_seam]
      · rw [State.raise_seam, State.setBit_seam]

theorem State.raiseCommit_seam (s : State) (v : Nat) : (s.raiseCommit v).seam = s.seam := by
  unfold State.raiseCommit
  split
  · rfl
  · exact s.holdCommit_seam v

theorem State.setLink_peer (s : State) (l : Nat) (x : Link) : (s.setLink l x).seam.peer = s.seam.peer := by
  unfold State.setLink
  dsimp only
  split <;> rfl

/-! ### What a link has not delivered (R174) -/

theorem mem_inPairOrder {f : Nat × SFrame} {l : List (Nat × SFrame)} : f ∈ inPairOrder l ↔ f ∈ l := by
  induction l with
  | nil => rfl
  | cons x l ih =>
    have hsplit : ∀ p : Nat × SFrame → Bool, f ∈ inPairOrder l ↔ f ∈ (inPairOrder l).takeWhile p ∨ f ∈ (inPairOrder l).dropWhile p := fun p => by
      rw [← List.mem_append, List.takeWhile_append_dropWhile]
    rw [inPairOrder, List.mem_append, List.mem_cons, List.mem_cons, ← ih, hsplit (fun y => decide (y.2.pairSeq < x.2.pairSeq))]
    exact or_left_comm

theorem Link.mem_pending (x : Link) (f : Nat × SFrame) :
    f ∈ x.pending ↔ f.2.isBeat = false ∧ ((∃ n, (n, f.1, f.2) ∈ x.unacked) ∨ f ∈ x.queue) := by
  have hmap : f ∈ x.unacked.map (fun u => (u.2.1, u.2.2)) ↔ ∃ n, (n, f.1, f.2) ∈ x.unacked := by
    rw [List.mem_map]
    constructor
    · rintro ⟨⟨n, _⟩, hmem, rfl⟩
      exact ⟨n, hmem⟩
    · exact fun ⟨n, hmem⟩ => ⟨_, hmem, rfl⟩
  rw [Link.pending, mem_inPairOrder, List.mem_filter, List.mem_append, hmap, and_comm, Bool.not_eq_true']

/-! ### A replay (R174) -/

/-- Frames sent again change nothing but what has left the device. -/
def State.sentOnly (s t : State) : Prop := t = { s with free := t.free, out := t.out }

theorem State.sentOnly_resend (l : Nat) (us : List (Nat × Nat × SFrame)) :
    ∀ s : State, s.sentOnly (us.foldl (fun r u => r.putFrame l u.1 u.2.1 u.2.2) s) := by
  induction us with
  | nil => exact fun _ => rfl
  | cons u us ih =>
    intro s
    have h := ih (s.putFrame l u.1 u.2.1 u.2.2)
    unfold State.sentOnly at *
    rw [List.foldl_cons, h]
    rfl

/-! ### The statement -/

/-- A beat that counts: what the model reads of the unit after the frames' acknowledgement is what it held before. -/
theorem State.doBeatReceive_heard {l : Nat} {b : Beat} (hp : s.pairEn = true) (hm : s.mode ≠ .doze) (hid : s.mismatch b.pairId b.unit = false)
    (hg : (s.seamLink l).gap b.linkSeq = false) (n : Nat)
    (hn : n = if (s.seamLink l).up = true then (s.seamLink l).beats
      else if (s.seamLink l).last.any (fun u => decide (s.mrt < u + 2000 * s.fld F.SEAM_BEAT_CFG_seam_us)) = true then (s.seamLink l).beats + 1 else 1) :
    s.doBeatReceive l b =
      ((((s.gotFrames l b.linkSeq 1 b.linkAck).setLink l { (s.gotFrames l b.linkSeq 1 b.linkAck).seamLink l with
        last := some s.mrt, peer := b.sent, peerAt := s.mrt, beats := n }).measureRtt l b).raiseCommit b.stamp).heard
        { s.seam.peer.getD {} with epoch := b.epoch, unit := b.unit, mode := b.mode, ready := b.ready, joining := b.joining, sync := b.sync } := by
  have hgot := s.linksOnly_gotFrames l b.linkSeq 1 b.linkAck
  have hline := hgot.sameLine l
  rw [State.doBeatReceive, if_neg (by simp [hp, hm]), if_neg (by simp [hid]), if_neg (by simp [hg])]
  dsimp only
  rw [hgot.mrt, hgot.fld, hline.up, hline.beats, hline.last, State.raiseCommit_seam, State.measureRtt_seam,
    State.setLink_peer, hgot.peer, hn]
  cases (s.seamLink l).last <;> rfl

theorem State.seeClaim_fld (s : State) {e : Nat} (he : e < 2 ^ 32) :
    (s.seeClaim e).fld F.SEAM_TWIN_CLAIM_epoch = Nat.max (s.fld F.SEAM_TWIN_CLAIM_epoch) e := by
  have hset : (s.setFld F.SEAM_TWIN_CLAIM_epoch e).fld F.SEAM_TWIN_CLAIM_epoch = e := State.fld_setFld_of_lt s e he (by decide) (by decide)
  by_cases hlt : s.fld F.SEAM_TWIN_CLAIM_epoch < e
  · rw [State.seeClaim, if_pos hlt, State.fld_mk, fldIn_csr rfl, hset]
    exact (Nat.max_eq_right hlt.le).symm
  · rw [State.seeClaim, if_neg hlt, State.fld_mk, fldIn_csr rfl]
    exact (Nat.max_eq_left (Nat.le_of_not_lt hlt)).symm

/-- Settles O40, clause by clause in the order of the model's definitions: a row of the pair is what it does with the settlement of the shared
commands, and of a beat what is read after the acknowledgement of frames is what stood before it. -/
theorem beatsAndLinks : Obligations.BeatsAndLinks := by
  unfold Obligations.BeatsAndLinks
  refine ⟨?sendUp, ?sendDown, ?beatFrame, ?sendNone, ?tackSend, ?claimWord, ?tackNone, ?beatOther, ?beatGap, ?beatUp, ?beatDown, ?gotFrames, ?tackBad,
    ?tackOther, ?tackHeard, ?settled, ?heard, ?linkUp, ?linkUpNone, ?linkDownAlone, ?linkDownOther, ?pending, ?taken, ?linkDownNone, ?replay,
    ?replayNone, ?discardBad, ?discardType, ?discardGap, ?pathLosses, ?departSeam, ?departTack, ?departOther, ?departBad, ?pathLost, ?departed,
    ?twinSeen⟩
  case sendUp =>
    intro s link hs hp hm hq hup
    refine (State.core_runs hs (·.doBeatSend link.val)).trans (congrArg _ ?_)
    rw [State.doBeatSend, if_neg (by simp [hp, hm, hq])]
    exact if_pos hup
  case sendDown =>
    intro s link hs hp hm hq hup
    refine (State.core_runs hs (·.doBeatSend link.val)).trans (congrArg _ ?_)
    rw [State.doBeatSend, if_neg (by simp [hp, hm, hq])]
    exact if_neg (by simp [hup])
  case beatFrame => exact fun s l n a b c d => rfl
  case sendNone =>
    intro s link hs hoff
    refine (State.core_runs hs (·.doBeatSend link.val)).trans (congrArg _ ?_)
    rw [State.doBeatSend, if_pos (by simpa [or_assoc] using hoff)]
  case tackSend =>
    intro s hs hp hq
    refine ⟨s.sendTack 1, (State.core_runs hs (fun s => if s.quiet then s else s.sendTack 1)).trans (congrArg _ (if_neg (by simp [hq]))), ?_⟩
    rw [State.sendTack, if_pos hp]
    exact ⟨rfl, rfl, rfl⟩
  case claimWord => exact fun s => rfl
  case tackNone =>
    intro s hs hoff
    refine (State.core_runs hs (fun s => if s.quiet then s else s.sendTack 1)).trans (congrArg _ ?_)
    by_cases hq : s.quiet = true
    · exact if_pos hq
    · rw [if_neg hq, State.sendTack, if_neg (by simpa [hq] using hoff)]
  case beatOther =>
    intro s link b hs hp hm hid
    refine (State.pairRow_runs hs (·.doBeatReceive link.val b)).trans (congrArg _ (congrArg _ ?_))
    rw [State.doBeatReceive, if_neg (by simp [hp, hm]), if_pos hid]
  case beatGap =>
    intro s link b hs hp hm hid hg
    refine (State.pairRow_runs hs (·.doBeatReceive link.val b)).trans (congrArg _ (congrArg _ ?_))
    rw [State.doBeatReceive, if_neg (by simp [hp, hm]), if_neg (by simp [hid]), if_pos hg]
  case beatUp =>
    intro s link b hs hp hm hid hg hup
    refine (State.pairRow_runs hs (·.doBeatReceive link.val b)).trans (congrArg _ (congrArg _ ?_))
    rw [State.doBeatReceive_heard hp hm hid hg _ rfl, if_pos hup, ← ((s.linksOnly_gotFrames link.val b.linkSeq 1 b.linkAck).sameLine link.val).beats]
  case beatDown =>
    intro s link b hs hp hm hid hg hup
    refine (State.pairRow_runs hs (·.doBeatReceive link.val b)).trans (congrArg _ (congrArg _ ?_))
    rw [State.doBeatReceive_heard hp hm hid hg _ rfl, if_neg (by simp [hup])]
  case gotFrames => exact fun s l q n a => rfl
  case tackBad =>
    intro s b hs hp hcrc
    refine (State.pairRow_runs hs (·.doTackReceive b)).trans (congrArg _ (congrArg _ ?_))
    rw [State.doTackReceive, State.tackIn, if_neg (by simp [hp]), if_pos (by simp [hcrc])]
  case tackOther =>
    intro s b hs hp hcrc hid
    refine (State.pairRow_runs hs (·.doTackReceive b)).trans (congrArg _ (congrArg _ ?_))
    rw [State.doTackReceive, State.tackIn, if_neg (by simp [hp]), if_neg (by simp [hcrc]), if_pos hid]
  case tackHeard =>
    intro s b hs hp hcrc hid
    refine (State.pairRow_runs hs (·.doTackReceive b)).trans (congrArg _ (congrArg _ ?_))
    rw [State.doTackReceive, State.tackIn, if_neg (by simp [hp]), if_neg (by simp [hcrc]), if_neg (by simp [hid])]
  case settled => exact fun s hm => if_pos hm
  case heard => exact fun s p hp => ⟨rfl, s.seeClaim_fld hp⟩
  case linkUp =>
    intro s link hs hp hup hbeats
    refine (State.pairRow_runs hs (·.doLinkUp link.val)).trans (congrArg _ (congrArg _ ?_))
    rw [State.doLinkUp, if_neg (by simp [hp, hup, hbeats])]
  case linkUpNone =>
    intro s link hs hoff
    refine (State.pairRow_runs hs (·.doLinkUp link.val)).trans (congrArg _ (congrArg _ ?_))
    rw [State.doLinkUp, if_pos (by simpa using hoff)]
  case linkDownAlone =>
    intro s link hs hup hother
    refine (State.pairRow_runs hs (·.doLinkDown link.val)).trans (congrArg _ (congrArg _ ?_))
    rw [State.doLinkDown, if_neg (by simp [hup])]
    simp only [hother, Bool.false_eq_true, if_false]
  case linkDownOther =>
    intro s link hs hup hother
    refine (State.pairRow_runs hs (·.doLinkDown link.val)).trans (congrArg _ (congrArg _ ?_))
    rw [State.doLinkDown, if_neg (by simp [hup])]
    simp only [hother, if_true]
  case pending => exact fun x f => x.mem_pending f
  case taken => exact fun x => rfl
  case linkDownNone =>
    intro s link hs hup
    refine (State.pairRow_runs hs (·.doLinkDown link.val)).trans (congrArg _ (congrArg _ ?_))
    rw [State.doLinkDown, if_pos (by simp [hup])]
  case replay =>
    intro s link hs hup hun
    have hsent := State.sentOnly_resend link.val ((s.seamLink link.val).unacked.filter (fun u => s.mayLeave u.2.2)) (s.wrap F.SEAM_STALE_CNT_replays)
    refine ⟨_, (State.core_runs hs (·.doReplay link.val)).trans (congrArg _ ?_), rfl, ?_, ?_⟩
    · rw [State.doReplay, if_neg (by simp [hup, hun])]
    · rw [hsent]
      rfl
    · rw [State.fld_congr (by rw [hsent]) (by rw [hsent])]
      exact State.fld_wrap_eq _ _ (by decide) (by decide)
  case replayNone =>
    intro s link hs hoff
    refine (State.core_runs hs (·.doReplay link.val)).trans (congrArg _ ?_)
    rw [State.doReplay, if_pos (by simpa using hoff)]
  case discardBad =>
    intro s link kind hs hp hk
    refine (State.core_runs hs (·.doFrameDiscard link.val kind.val)).trans (congrArg _ ?_)
    rw [State.doFrameDiscard, if_neg (by simp [hp]), if_pos hk]
  case discardType =>
    intro s link hs hp
    refine (State.core_runs hs (·.doFrameDiscard link.val 3)).trans (congrArg _ ?_)
    rw [State.doFrameDiscard, if_neg (by simp [hp]), if_neg (by decide), if_pos (by decide)]
  case discardGap =>
    intro s link hs hp
    refine (State.core_runs hs (·.doFrameDiscard link.val 2)).trans (congrArg _ ?_)
    rw [State.doFrameDiscard, if_neg (by simp [hp]), if_neg (by decide), if_neg (by decide)]
  case pathLosses =>
    refine fun s => ⟨rfl, fun hm hup => ?_, fun hm hup => ?_, fun hm => ⟨?_, ?_⟩⟩
    · rw [State.doPathLost, if_neg (by simp [hm]), if_pos hup]
    · rw [State.doPathLost, if_neg (by simp [hm]), if_pos hup]
    · rw [State.doPathLost, if_pos (by simp [hm])]
    · rw [State.doPathLost, if_pos (by simp [hm])]
  case departSeam =>
    intro s h hs hdoze hsave hp hid hg
    refine (State.pairRow_runs hs (·.doDepart (.seam h))).trans (congrArg _ (congrArg _ ?_))
    rw [State.doDepart, State.linkFrame, if_neg (by simp [hp, hdoze, hsave]), if_neg (by simp [hid]), if_neg (by simp [hg])]
    rfl
  case departTack =>
    intro s d hs hp hcrc hid
    refine (State.pairRow_runs hs (·.doDepart (.tack d))).trans (congrArg _ (congrArg _ ?_))
    rw [State.doDepart, State.tackIn, if_neg (by simp [hp]), if_neg (by simp [hcrc]), if_neg (by simp [hid])]
  case departOther =>
    intro s d hs hp hcrc hid
    refine (State.pairRow_runs hs (·.doDepart (.tack d))).trans (congrArg _ (congrArg _ ?_))
    rw [State.doDepart, State.tackIn, if_neg (by simp [hp]), if_neg (by simp [hcrc]), if_pos hid]
  case departBad =>
    intro s d hs hp hcrc
    refine (State.pairRow_runs hs (·.doDepart (.tack d))).trans (congrArg _ (congrArg _ ?_))
    rw [State.doDepart, State.tackIn, if_neg (by simp [hp]), if_pos (by simp [hcrc])]
  case pathLost =>
    intro s path hs hm htwin
    refine (State.pairRow_runs hs (·.doPathLostWake path)).trans (congrArg _ (congrArg _ ?_))
    exact if_neg htwin
  case departed => exact fun s hd => if_pos hd
  case twinSeen =>
    intro s hd hm hg
    rw [State.twinSeen, if_neg (by simp [hd]), if_neg (by simp [hm, hg]), if_neg (by simp [hm])]
    simp only [Bool.or_eq_true]

end Sys2Proof.Machine
end

section
set_option Elab.async false
/-! PROOFS. Announcements under MACsec (R86, R187, R270): a concrete unit on which the statement on the witness fails. -/

namespace Sys2Proof.Machine

/-- A unit in SOLO whose port 0 protects every frame, with a transmit association one short of the packet number at which PORT_MSEC_PN_HIGH is
raised, and with that event unmasked and routed to an MSI-X message. -/
def pnHighUnit : State :=
  ((((({ State.reset with mode := .solo, kept := { assocs := [(0, ⟨1, 2, 3, 0xC000000000000000 - 1⟩)] } }.setFld (F.PORT_MSEC_CFG_policy 0) 2).setFld
    (F.EVT_MASKg_mask 32) 0).setBit (F.EVT_ROUTEn_msix_en 514) true).setBit F.PCIE_STATUS_link_up true))

/-- Beside the two announcements an MSI-X message leaves. -/
theorem pnHighUnit_announces : (pnHighUnit.announceAll 0 false).out.length = 3 := by decide +kernel

/-- Refutes O41: an announcement that takes the packet number of PORT_MSEC_PN_HIGH raises that event (R86, R270), whose MSI-X message leaves with
it, and the statement has nothing leave but the two announcements. -/
theorem not_witnessAndClaims : ¬ Obligations.WitnessAndClaims := by
  unfold Obligations.WitnessAndClaims
  rintro ⟨-, -, -, -, -, -, -, -, -, -, -, -, -, -, -, -, -, announced, -⟩
  obtain ⟨a, b, hout⟩ := (announced pnHighUnit 0 false).1
  have hlength := pnHighUnit_announces
  have hnone : pnHighUnit.out = [] := by decide +kernel
  rw [hout, hnone] at hlength
  exact absurd hlength (by simp)

end Sys2Proof.Machine
end

section
set_option Elab.async false
/-! PROOFS. The order of the pair (R167 to R175), and the statement about it. -/

namespace Sys2Proof.Machine

variable {s t : State}

/-! ### The unit that has counted a message's frames (R172, R313) -/

/-- A commit clock that begins to be held changes the clock, what a raise can touch and its status bit. -/
def State.clockOnly (s t : State) : Prop :=
  t = { s with csr := t.csr, ev := t.ev, out := t.out, peatQ := t.peatQ, clk := t.clk } ∧ s.regsKept t [F.TIME_STATUS_commit_held.off]

theorem State.clockOnly.raise (h : s.clockOnly t) (ev n : Nat) (hev : ev < 640) : s.clockOnly (t.raise ev n) := by
  refine ⟨?_, h.2.raise ev n hev⟩
  have hsame := t.raise_same ev n
  unfold State.sameButEvents at hsame
  have ht := h.1
  generalize t.raise ev n = u at hsame ⊢
  rw [hsame, ht]

theorem State.clockOnly_holdCommit (s : State) (v : Nat) : s.clockOnly (s.holdCommit v) := by
  have held : s.clockOnly (({ s with clk := { s.clk with held := some v } }).setBit F.TIME_STATUS_commit_held true) :=
    ⟨rfl, (State.regsKept_of_csr rfl rfl).setFld _ (by decide)⟩
  unfold State.holdCommit
  split
  · exact ⟨rfl, .rfl⟩
  · split
    · exact ⟨rfl, .rfl⟩
    · dsimp only
      split
      · exact held
      · exact held.raise _ _ (by decide)

theorem State.clockOnly_raiseCommit (s : State) (v : Nat) : s.clockOnly (s.raiseCommit v) := by
  unfold State.raiseCommit
  split
  · exact ⟨rfl, .rfl⟩
  · exact s.clockOnly_holdCommit v

/-- Of the unit that has counted a message's frames only these differ. -/
theorem State.counted_frame (s : State) (h : SeamHdr) : s.counted h =
    { s with csr := (s.counted h).csr, ev := (s.counted h).ev, out := (s.counted h).out, peatQ := (s.counted h).peatQ, clk := (s.counted h).clk
             free := (s.counted h).free
             seam := { s.seam with link0 := (s.counted h).seam.link0, link1 := (s.counted h).seam.link1 } } := by
  have hgot := (s.linksOnly_gotFrames h.link.val h.linkSeq (Nat.max 1 h.frames) h.linkAck).frame
  have hclk := ((s.gotFrames h.link.val h.linkSeq (Nat.max 1 h.frames) h.linkAck).clockOnly_raiseCommit h.stamp).1
  unfold State.counted
  rw [hclk, hgot]

theorem State.fld_counted (s : State) (h : SeamHdr) {f : Fld} (hf : f.off ≠ F.TIME_STATUS_commit_held.off) (hn : notEvent f.off) :
    (s.counted h).fld f = s.fld f := by
  have hgot := s.linksOnly_gotFrames h.link.val h.linkSeq (Nat.max 1 h.frames) h.linkAck
  have hclk := ((s.gotFrames h.link.val h.linkSeq (Nat.max 1 h.frames) h.linkAck).clockOnly_raiseCommit h.stamp).2
  rw [← hgot.fld f]
  unfold State.fld
  rw [← hclk f.off (by simpa using hf) (eventRegister_eq_false hn)]
  rfl

@[simp] theorem State.lead_counted (s : State) (h : SeamHdr) : (s.counted h).lead = s.lead := by
  rw [State.lead, State.bit, State.fld_counted _ _ (by decide) (by decide)]
  rfl

@[simp] theorem State.epoch_counted (s : State) (h : SeamHdr) : (s.counted h).epoch = s.epoch := State.fld_counted _ _ (by decide) (by decide)

@[simp] theorem State.mirrored_counted (s : State) (h : SeamHdr) : (s.counted h).mirrored = s.mirrored := by rw [s.counted_frame h]; rfl

@[simp] theorem State.mode_counted (s : State) (h : SeamHdr) : (s.counted h).mode = s.mode := by rw [s.counted_frame h]

@[simp] theorem State.kept_counted (s : State) (h : SeamHdr) : (s.counted h).kept = s.kept := by rw [s.counted_frame h]

@[simp] theorem State.shared_counted (s : State) (h : SeamHdr) : (s.counted h).shared = s.shared := by rw [s.counted_frame h]

@[simp] theorem State.applied_counted (s : State) (h : SeamHdr) : (s.counted h).seam.applied = s.seam.applied := by rw [s.counted_frame h]

@[simp] theorem State.qpAt_counted (s : State) (h : SeamHdr) (n : Nat) : (s.counted h).qpAt n = s.qpAt n := by simp [State.qpAt]

@[simp] theorem State.rgn_counted (s : State) (h : SeamHdr) (i : Nat) : (s.counted h).rgn i = s.rgn i := by simp [State.rgn]

@[simp] theorem State.awaitsDrain_counted (s : State) (h : SeamHdr) (k : Hdr) (vals : List Nat) :
    (s.counted h).awaitsDrain k vals = s.awaitsDrain k vals := by simp [State.awaitsDrain]

/-! ### A frame that arrives (R162, R174 to R176) -/

theorem State.not_save_or_doze_of_mirrored (h : s.mirrored = true) : s.mode ≠ .save ∧ s.mode ≠ .doze := by
  have hmode : s.mode = .paired ∨ s.mode = .resync := by simpa [State.mirrored] using h
  rcases hmode with hmode | hmode <;> rw [hmode] <;> decide

theorem State.linkFrame_in {h : SeamHdr} (hp : s.pairEn = true) (hm : s.mirrored = true) (hid : s.mismatch h.pairId h.unit = false)
    (hg : (s.seamLink h.link.val).gap h.linkSeq = false) (k : State → State) : s.linkFrame h k = k (s.counted h) := by
  obtain ⟨hsave, hdoze⟩ := State.not_save_or_doze_of_mirrored hm
  rw [State.linkFrame, if_neg (by simp [hp, hsave, hdoze]), if_neg (by simp [hid]), if_neg (by simp [hg])]
  rfl

theorem State.frameIn_takes {h : SeamHdr} (ht : s.takesFrame h) (gated : Bool) (stale k : State → State) :
    s.frameIn h gated stale k = k (s.counted h) := by
  obtain ⟨hp, hm, hid, he, hg⟩ := ht
  rw [State.frameIn, State.linkFrame_in hp hm hid hg, if_neg (by simp [he]), if_neg (by simp [he])]

theorem State.frameIn_above {h : SeamHdr} (ht : s.takesFrame { h with epoch := s.epoch }) (he : s.epoch < h.epoch) (gated : Bool)
    (stale k : State → State) : s.frameIn h gated stale k = (((s.counted h).seeClaim h.epoch).reviewPair).consider := by
  obtain ⟨hp, hm, hid, -, hg⟩ := ht
  rw [State.frameIn, State.linkFrame_in (h := h) hp hm hid hg, if_pos (by simpa using he)]

theorem State.frameIn_below {h : SeamHdr} (ht : s.takesFrame { h with epoch := s.epoch }) (he : h.epoch < s.epoch) (stale k : State → State) :
    s.frameIn h true stale k = stale ((s.counted h).wrap F.SEAM_STALE_CNT_stale) := by
  obtain ⟨hp, hm, hid, -, hg⟩ := ht
  rw [State.frameIn, State.linkFrame_in (h := h) hp hm hid hg, if_neg (by simpa using he.le), if_pos (by simpa using he)]

/-! ### The statement -/

/-- Settles O42: a frame in its turn meets the unit as the link has counted it, whose role, epoch, mode and tables are those it had. -/
theorem pairOrder : Obligations.PairOrder := by
  unfold Obligations.PairOrder
  refine ⟨?mirrorOld, ?mirrorIn, ?copyIn, ?discardIn, ?orderNone, ?orderHeld, ?mirrorLocal, ?mirrorOther, ?mirrorGap, ?mirrorAbove, ?mirrorBelow,
    ?fwdBelow, ?fwdLead, ?fwdFollow, ?mackOk, ?mackRefused, ?mackStale, ?mackRefuse, ?mackAbandon, ?cmdLead, ?cmdFollow, ?followOwn, ?followError,
    ?followAny, ?followOk, ?doneBad, ?doneOk, ?drained, ?reopened, ?doneNone, ?twinDid, ?ctx⟩
  case mirrorOld =>
    intro s h m hs ht hl hq
    refine (State.core_runs hs (fun s => (s.doMirror h m).afterFree)).trans (congrArg _ (congrArg _ ?_))
    simp [State.doMirror, State.frameIn_takes ht, State.orderIn, hq, Nat.not_lt.mpr hq]
  case mirrorIn =>
    intro s h m hs ht hl
    refine (State.core_runs hs (fun s => (s.doMirror h m).afterFree)).trans (congrArg _ (congrArg _ ?_))
    simp [State.doMirror, State.frameIn_takes ht, hl]
  case copyIn =>
    intro s h tile frame data key hs ht
    refine (State.core_runs hs (fun s => (s.frameIn h true id fun s => s.orderIn h.pairSeq (.copy tile frame.val data key)).afterFree)).trans
      (congrArg _ (congrArg _ (State.frameIn_takes ht _ _ _)))
  case discardIn =>
    intro s h tile hs ht
    exact (State.core_runs hs (fun s => s.frameIn h true id fun s => s.orderIn h.pairSeq (.discard tile))).trans
      (congrArg _ (State.frameIn_takes ht _ _ _))
  case orderNone =>
    intro s q e hnot
    rw [State.orderIn, if_pos (by simpa [or_assoc] using hnot)]
  case orderHeld =>
    intro s q e hl hm hq
    rw [State.orderIn, if_neg (by simp [hl, hm, hq])]
  case mirrorLocal =>
    intro s h m hs ht hl hq hloc
    refine (State.core_runs hs (fun s => (s.doMirror h m).afterFree)).trans (congrArg _ (congrArg _ ?_))
    obtain ⟨-, hm, -⟩ := id ht
    simp [State.doMirror, State.frameIn_takes ht, hl, hq, hloc, hm]
  case mirrorOther =>
    intro s h m hs hp hm hid
    refine (State.core_runs hs (fun s => (s.doMirror h m).afterFree)).trans (congrArg _ (congrArg _ ?_))
    obtain ⟨hsave, hdoze⟩ := State.not_save_or_doze_of_mirrored hm
    rw [State.doMirror, State.frameIn, State.linkFrame, if_neg (by simp [hp, hsave, hdoze]), if_pos hid]
  case mirrorGap =>
    intro s h m hs hp hm hid hg
    refine (State.core_runs hs (fun s => (s.doMirror h m).afterFree)).trans (congrArg _ (congrArg _ ?_))
    obtain ⟨hsave, hdoze⟩ := State.not_save_or_doze_of_mirrored hm
    rw [State.doMirror, State.frameIn, State.linkFrame, if_neg (by simp [hp, hsave, hdoze]), if_neg (by simp [hid]), if_pos hg]
  case mirrorAbove =>
    intro s h m hs ht he
    exact (State.core_runs hs (fun s => (s.doMirror h m).afterFree)).trans (congrArg _ (congrArg _ (State.frameIn_above ht he _ _ _)))
  case mirrorBelow =>
    intro s h m hs ht he
    exact (State.core_runs hs (fun s => (s.doMirror h m).afterFree)).trans (congrArg _ (congrArg _ (State.frameIn_below ht he _ _)))
  case fwdBelow =>
    intro s h m rd hs ht he
    refine (State.core_runs hs (fun s => (s.doFwd h m rd).afterFree)).trans (congrArg _ (congrArg _ ?_))
    exact State.frameIn_below ht he (fun s => s.seamSend (.mack 0 2 m.qp.val m.psn)) _
  case fwdLead =>
    intro s h m rd hs ht hl
    refine (State.core_runs hs (fun s => (s.doFwd h m rd).afterFree)).trans (congrArg _ (congrArg _ ?_))
    obtain ⟨-, hm, -⟩ := id ht
    simp [State.doFwd, State.frameIn_takes ht, hl, hm]
  case fwdFollow =>
    intro s h m rd hs ht hl
    refine (State.core_runs hs (fun s => (s.doFwd h m rd).afterFree)).trans (congrArg _ (congrArg _ ?_))
    simp [State.doFwd, State.frameIn_takes ht, hl]
  case mackOk =>
    intro s h n psn syn hs ht hl
    refine (State.pairRow_runs hs (·.doMack h n.val psn 0 syn)).trans (congrArg _ (congrArg _ ?_))
    simp [State.doMack, State.frameIn_takes ht, hl]
  case mackRefused =>
    intro s h n psn syn hs ht hl
    refine (State.pairRow_runs hs (·.doMack h n.val psn 1 syn)).trans (congrArg _ (congrArg _ ?_))
    simp [State.doMack, State.frameIn_takes ht, hl]
  case mackStale =>
    intro s h n psn syn hs ht hl
    refine (State.pairRow_runs hs (·.doMack h n.val psn 2 syn)).trans (congrArg _ (congrArg _ ?_))
    simp [State.doMack, State.frameIn_takes ht, hl]
  case mackRefuse =>
    intro s h qp psn syn m hs ht hl hmsg hreg
    refine (State.pairRow_runs hs (·.doMack h qp.val psn 1 syn)).trans (congrArg _ (congrArg _ ?_))
    simp only [State.doMack, State.frameIn_takes ht, State.lead_counted, hl, State.qpAt_counted, State.rgn_counted, hmsg, hreg, Bool.false_eq_true,
      if_false]
  case mackAbandon =>
    intro s h qp psn syn m hs ht hl hmsg hreg
    refine (State.pairRow_runs hs (·.doMack h qp.val psn 1 syn)).trans (congrArg _ (congrArg _ ?_))
    simp only [State.doMack, State.frameIn_takes ht, State.lead_counted, hl, State.qpAt_counted, State.rgn_counted, hmsg, hreg, Bool.false_eq_true,
      if_false, if_true]
  case cmdLead =>
    intro s h f vals hs ht hl
    refine (State.core_runs hs (·.doCmdFrame h f vals)).trans (congrArg _ ?_)
    simp [State.doCmdFrame, State.frameIn_takes ht, hl]
  case cmdFollow =>
    intro s h f vals hs ht hl
    refine (State.core_runs hs (·.doCmdFrame h f vals)).trans (congrArg _ ?_)
    obtain ⟨-, hm, -⟩ := id ht
    simp [State.doCmdFrame, State.frameIn_takes ht, hl, hm]
  case followOwn =>
    intro s f vals x hx
    rw [State.followCmd]
    simp only [hx]
  case followError =>
    intro s f vals e hnone hloc hcheck
    rw [State.followCmd]
    simp only [hnone, List.find?_nil, hloc, if_true, hcheck]
  case followAny =>
    intro s f vals hnone hloc hlast
    rw [State.followCmd]
    simp only [hnone, List.find?_nil, hloc, hlast, Bool.false_eq_true, if_false]
  case followOk =>
    intro s f vals l hnone hcheck hlast
    rw [State.followCmd]
    by_cases hloc : cmdLocal f.cmd = true
    · simp only [hnone, List.find?_nil, hloc, if_true, hcheck, hlast, Bool.false_eq_true, if_false]
    · simp only [hnone, List.find?_nil, hloc, hlast, Bool.false_eq_true, if_false]
  case doneBad =>
    intro s h of_ code st vals x hs ht hst hdrain hx
    refine (State.core_runs hs (·.doCmdDone h of_ code st vals)).trans (congrArg _ ?_)
    rw [State.doCmdDone, State.frameIn_takes ht, if_neg (by rw [State.awaitsDrain_counted]; simpa [imp_iff_not_or] using hdrain)]
    simp only [State.shared_counted, hx, hst, if_false]
  case doneOk =>
    intro s h of_ code vals x hs ht hdrain hx
    refine (State.core_runs hs (·.doCmdDone h of_ code .ok vals)).trans (congrArg _ ?_)
    rw [State.doCmdDone, State.frameIn_takes ht, if_neg (by rw [State.awaitsDrain_counted]; simpa [imp_iff_not_or] using hdrain)]
    simp only [State.shared_counted, hx, if_true]
  case drained =>
    intro s h of_ i l hs ht hdrain
    refine (State.core_runs hs (·.doCmdDone h of_ (cmdCode (.deregister 0)) .ok (i :: l))).trans (congrArg _ ?_)
    rw [State.doCmdDone, State.frameIn_takes ht, if_pos ⟨rfl, by rw [State.awaitsDrain_counted, hdrain]⟩, if_pos rfl]
    rfl
  case reopened =>
    intro s h of_ i l st hs ht hst hdrain
    refine (State.core_runs hs (·.doCmdDone h of_ (cmdCode (.deregister 0)) st (i :: l))).trans (congrArg _ ?_)
    rw [State.doCmdDone, State.frameIn_takes ht, if_pos ⟨rfl, by rw [State.awaitsDrain_counted, hdrain]⟩, if_neg hst]
    rfl
  case doneNone =>
    intro s h of_ code st vals hs ht hdrain hx
    refine (State.core_runs hs (·.doCmdDone h of_ code st vals)).trans (congrArg _ ?_)
    rw [State.doCmdDone, State.frameIn_takes ht, if_neg (by rw [State.awaitsDrain_counted]; simpa [imp_iff_not_or] using hdrain)]
    simp only [State.shared_counted, hx]
  case twinDid =>
    refine fun s x vals => ⟨fun hsent => ?_, fun hsent hsec hnow => ?_⟩
    · rw [State.twinDid, if_pos hsent]
    · rw [State.twinDid, if_neg (by simp [hsent])]
      simp [hnow, hsec]
  case ctx =>
    intro s h u hs ht
    refine (State.core_runs hs (·.doCtx h u)).trans (congrArg _ ?_)
    obtain ⟨-, hm, -⟩ := id ht
    have hsolo : (s.counted h).mode ≠ .solo := by
      intro hmode
      rw [State.mode_counted] at hmode
      simp [State.mirrored, hmode] at hm
    rw [State.doCtx, State.frameIn_takes ht]
    split
    · rw [if_neg (fun hc => hsolo hc.1)]
    · rw [State.mirrored_counted, if_pos hm]

end Sys2Proof.Machine
end

section
set_option Elab.async false
/-! PROOFS. The DOZE agreement (R299, R300): a concrete unit on which the statement fails. -/

namespace Sys2Proof.Machine

/-- A doze command of the debug window. -/
def secondDozeHdr : Hdr := ⟨.debug, 7, 4⟩

/-- A FOLLOW in PAIRED that has accepted a proposal, and whose turn it is to start another doze command. -/
def acceptedFollow : State :=
  { State.reset with mode := .paired, doze := { State.reset.doze with phase := .accepted }, gate := { granted := [⟨secondDozeHdr, .doze, false⟩] } }

/-- Whether a completion with INVALID has left. -/
def Out.isInvalid : Out → Bool
  | .completion _ _ h _ => h.status == .invalid
  | _ => false

/-- The command completes INVALID. -/
theorem acceptedFollow_invalid : endsIn (exec (.doze secondDozeHdr) acceptedFollow) (fun t => t.out.any Out.isInvalid) = true := by
  decide +kernel

/-- Refutes O47: at FOLLOW in PAIRED doze is INVALID also while an agreement is under way, and the statement has it BUSY there. -/
theorem not_dozeAgreement : ¬ Obligations.DozeAgreement := by
  unfold Obligations.DozeAgreement
  rintro ⟨-, -, -, -, busy, -⟩
  have ht := busy acceptedFollow secondDozeHdr (by decide +kernel) (.inr (.inl (by decide +kernel)))
  have hinvalid := of_endsIn acceptedFollow_invalid ht
  exact absurd hinvalid (by decide +kernel)

end Sys2Proof.Machine
end

section
set_option Elab.async false
/-! PROOFS. DOZE exit (R206, R303): a concrete unit on which the statement on wakes and exit fails. -/

namespace Sys2Proof.Machine

/-- A unit in DOZE, which was in SOLO, at the end of its exit: its twin is lost, and a write of its own of one byte into tile 1, homed in DRAM, has waited
for a home. -/
def ownWriteDozing : State :=
  { State.reset with
    mode := .doze, doze := { State.reset.doze with phase := .exiting, armed := true, mode := .solo }, seam := { departed := true }
    kept := { tiles := [(1, { home := .dram })], own := [⟨0, [(0x10000, 1)], [7]⟩] } }.setFld F.SEAM_PAIR_CFG_pair_en 0 |>.setFld F.SEAM_STATUS_twin 2

/-- The write is made. -/
theorem ownWriteDozing_stores : endsIn (exec .fenDozeExit ownWriteDozing) (fun t => alGet t.kept.mem 0x10000 == some 7) = true := by decide +kernel

/-- Refutes O48: as the unit serves again its own writes that have waited for a home are tried again (R123), and the statement, which says nothing
of them, has memory stay as it is. -/
theorem not_wakesAndExit : ¬ Obligations.WakesAndExit := by
  unfold Obligations.WakesAndExit
  rintro ⟨-, -, -, -, -, -, -, exits, -⟩
  obtain ⟨t, ht, -, -, -, -, hmem, -⟩ := exits ownWriteDozing (by decide +kernel) rfl rfl (by decide +kernel) rfl (.inr (by decide +kernel)) rfl
    (by decide +kernel) rfl rfl rfl rfl (by decide +kernel) rfl (by decide +kernel)
  have hstored := of_endsIn ownWriteDozing_stores ht
  rw [hmem] at hstored
  exact absurd hstored (by decide +kernel)

end Sys2Proof.Machine
end

section
set_option Elab.async false
/-! PROOFS. Pinned extents (R117, R120): a concrete unit on which the statement on moves fails. -/

namespace Sys2Proof.Machine

/-- A unit in SOLO with a region of one tile, which churns. -/
def churningUnit : State :=
  { State.reset with
    mode := .solo
    kept := { rdt := [(7, { state := .valid, target := 0x10000, length := 0x10000 })], tiles := [(1, { home := .dram, churn := true })] } }

/-- The tile churns no more. -/
theorem churningUnit_pinned : ((churningUnit.applyExtent 7 true 3).tile 1).churn = false := by decide +kernel

/-- Refutes O24: a tile that a pinned extent covers is no longer flagged churning (R117, R120), and the statement has every tile stay as it is. -/
theorem not_tailorMoves : ¬ Obligations.TailorMoves := by
  unfold Obligations.TailorMoves
  rintro ⟨-, extents, -⟩
  obtain ⟨-, -, -, -, htiles, -⟩ := extents churningUnit 7 true 3
  have hchurn := churningUnit_pinned
  rw [State.tile, htiles] at hchurn
  exact absurd hchurn (by decide +kernel)

end Sys2Proof.Machine
end

section
set_option Elab.async false
/-! PROOFS. Errors and retirement on a part with fewer channels (R2, R211, R221): concrete units on which two statements fail. -/

namespace Sys2Proof.Machine

/-! ### A retirement on a channel that the part does not have (R2, R221) -/

/-- A retire-bank command of the debug window. -/
def fusedBankHdr : Hdr := ⟨.debug, 7, 4⟩

/-- An MX part in SOLO that lists modules on channel 8, which is fused off there, and whose turn it is to retire a bank of it. -/
def fusedBankUnit : State :=
  { State.reset with
    mode := .solo, part := .mx, pops := [(8, ⟨1, 1, 1, 1⟩)], gate := { granted := [⟨fusedBankHdr, .retireBank 8 0 0 0, false⟩] } }

theorem fusedBankUnit_silent : endsIn (exec (.retireBank fusedBankHdr 8 0 0 0) fusedBankUnit) (fun t => !t.pended (Ev.DMC_RETIRE 8)) = true := by
  decide +kernel

/-- Refutes O52: no event of a channel that is fused off fires (R2), and the statement has DMC_RETIRE raised for every channel that lists modules. -/
theorem not_retirementAndMaintenance : ¬ Obligations.RetirementAndMaintenance := by
  unfold Obligations.RetirementAndMaintenance
  rintro ⟨-, -, -, -, retires, -⟩
  obtain ⟨t, ht, -, -, hpended, -⟩ := retires fusedBankUnit fusedBankHdr 8 0 0 0 ⟨1, 1, 1, 1⟩ (by decide +kernel) (by decide +kernel) (by decide)
    (by decide) (by decide) (by decide +kernel) (by decide +kernel)
  have hsilent := of_endsIn fusedBankUnit_silent ht
  rw [Bool.not_eq_true'] at hsilent
  exact Bool.false_ne_true (hsilent.symm.trans hpended)

/-! ### An error on a channel that the part does not have (R2, R211) -/

/-- A burst at the start of frame 0. -/
def fusedBurst : BurstLoc := { subch := 0, lrank := 0, bank := 0, row := 0, column := 0 }

/-- What the devices drive: two of them are wrong on the first beat. -/
def twoWrong : Beats := BitVec.ofNat 40 (7 * 16 ^ 4 + 9 * 16 ^ 9) :: List.replicate 15 0

/-- An MX part in SOLO with channel 8, which is fused off there, ready: its frame 0 is the first of the carve-out. -/
def fusedReadUnit : State :=
  { State.reset with
    mode := .solo, part := .mx, pops := [(8, ⟨1, 1, 1, 1⟩)] }.setFld (F.DMC_STATUS_state 8) dmcReady

theorem fusedReadUnit_silent : endsIn (exec (.dramReadComplete 8 fusedBurst twoWrong .engineRead 0) fusedReadUnit)
    (fun t => !t.pended (Ev.DMC_UE 8)) = true := by
  decide +kernel

/-- Refutes O51: no event of a channel that is fused off fires (R2), and the statement has DMC_UE raised for every channel whose status is ready. -/
theorem not_errorsAreMet : ¬ Obligations.ErrorsAreMet := by
  unfold Obligations.ErrorsAreMet
  rintro ⟨-, -, -, uncorrectable, -⟩
  obtain ⟨t, ht, -, -, -, -, -, hpended, -⟩ := uncorrectable fusedReadUnit 8 fusedBurst twoWrong .engineRead 0 1099478073344 (by decide +kernel)
    (by decide +kernel) (by decide +kernel) (.inr (.inl rfl)) (by decide +kernel) (by decide +kernel) (by decide +kernel)
  have hsilent := of_endsIn fusedReadUnit_silent ht
  rw [Bool.not_eq_true'] at hsilent
  exact Bool.false_ne_true (hsilent.symm.trans hpended)

end Sys2Proof.Machine
end

section
set_option Elab.async false
/-! PROOFS. The rail sequence (R286 to R292) and the statement about it; Fen's supply (R281, R282): a concrete unit on which the statement on
removed rails fails. -/

namespace Sys2Proof.Machine

variable {s t : State}

/-! ### A rise of FEN_VDD with a sample that its register cannot hold (R281, R282) -/

/-- A unit without FEN_VDD whose NOR holds a counter record. -/
def unsampledUnit : State :=
  { State.reset with fen := { vdd := false }, nor := { State.reset.nor with counters := [{ hours := 1, cycles := 1, rails := [], sector := 16 }] } }

/-- A charge taken from the pack voltage touches no register but FEN_BAT_STAT. -/
theorem State.fld_socFrom (s : State) (mv : Nat) {f : Fld} (hf : F.FEN_BAT_STAT_soc.off ≠ f.off) : (s.socFrom mv).fld f = s.fld f := by
  rw [State.socFrom, State.setSoc, State.fld_setFld_ne _ _ (by decide) (by decide) (.inl hf)]
  rfl

/-- The register of a channel's sample has twelve bits. -/
theorem unsampledUnit_rises : (unsampledUnit.doVddRise 4096 false none).fld (F.FEN_MONn_VAL_mv 1) = 0 := by
  rw [State.doVddRise, if_neg (by decide), State.fld_socFrom _ _ (by decide), State.fld_setFld_eq _ _ (by decide) (by decide)]
  decide

/-- Refutes O45: FEN_MONn_VAL.mv holds twelve bits, and the statement has it take every sample below 2^16 as FEN_VDD rises. -/
theorem not_railsRemoved : ¬ Obligations.RailsRemoved := by
  unfold Obligations.RailsRemoved
  rintro ⟨-, -, -, -, -, -, -, -, -, -, -, -, -, -, -, -, -, rises, -⟩
  obtain ⟨t, ht, -, -, -, -, -, -, -, -, -, hmv, -⟩ := rises unsampledUnit 4096 false _ [] rfl rfl (by decide)
  obtain rfl : unsampledUnit.doVddRise 4096 false none = t := Host.Outcome.next.inj ht
  exact absurd (unsampledUnit_rises.symm.trans hmv) (by decide)

/-! ### Fen's commands (R281) -/

theorem State.fenCmd_acts (hv : s.fen.vdd = true) (f : State → State) : s.fenCmd f = .next (f s) := by rw [State.fenCmd, if_pos hv]

/-! ### Fen beside its registers -/

/-- Fen, beside its registers, takes a new state. -/
def State.withFen (s : State) (x : Fen) : State := { s with fen := x }

@[simp] theorem State.withFen_setFld (s : State) (x : Fen) (f : Fld) (v : Nat) : (s.withFen x).setFld f v = (s.setFld f v).withFen x := (rfl)

@[simp] theorem State.withFen_setBit (s : State) (x : Fen) (f : Fld) (b : Bool) : (s.withFen x).setBit f b = (s.setBit f b).withFen x := (rfl)

@[simp] theorem State.withFen_wrap (s : State) (x : Fen) (f : Fld) (n : Nat) : (s.withFen x).wrap f n = (s.wrap f n).withFen x := (rfl)

@[simp] theorem State.fld_withFen (s : State) (x : Fen) (f : Fld) : (s.withFen x).fld f = s.fld f := State.fld_congr rfl rfl f

@[simp] theorem State.bit_withFen (s : State) (x : Fen) (f : Fld) : (s.withFen x).bit f = s.bit f := by
  rw [State.bit, State.fld_withFen, State.bit]

@[simp] theorem State.withFen_fen (s : State) (x : Fen) : (s.withFen x).fen = x := (rfl)

@[simp] theorem State.withFen_mode (s : State) (x : Fen) : (s.withFen x).mode = s.mode := (rfl)

@[simp] theorem State.withFen_part (s : State) (x : Fen) : (s.withFen x).part = s.part := (rfl)

@[simp] theorem State.withFen_kept (s : State) (x : Fen) : (s.withFen x).kept = s.kept := (rfl)

@[simp] theorem State.withFen_nor (s : State) (x : Fen) : (s.withFen x).nor = s.nor := (rfl)

@[simp] theorem State.withFen_fuses (s : State) (x : Fen) : (s.withFen x).fuses = s.fuses := (rfl)

@[simp] theorem State.withFen_withFen (s : State) (x y : Fen) : (s.withFen x).withFen y = s.withFen y := (rfl)

/-! ### The sequence begins (R286, R287) -/

/-- Fen takes the table of the copy that NORC_FEN_SEL names where that is valid. -/
theorem State.startSequence_selected {tb : List RailEntry} (h : railsOf (s.nor.copy (s.bit F.NORC_FEN_SEL_copy)) = some tb) :
    s.startSequence = ((s.setFld F.FEN_SEQ_STAT_attempts (s.fen.failed + 1)).setFld F.FEN_STATUS_rails 1).withFen
      { s.fen with table := tb, fromB := s.bit F.NORC_FEN_SEL_copy, step := 0, trigger := false, phase := .delay, on := [], after := .stay
                   off := 0, vFault := false } := by
  rw [State.startSequence]
  simp only [h]
  exact State.withFen_setFld _ _ _ _

/-- Where neither copy has a valid table fault 2 is latched. -/
theorem State.startSequence_none (ha : railsOf (s.nor.copy false) = none) (hb : railsOf (s.nor.copy true) = none) :
    s.startSequence = s.latchFault 2 := by
  rw [State.startSequence]
  cases s.bit F.NORC_FEN_SEL_copy <;> simp only [ha, hb, Option.map_none, Bool.not_false, Bool.not_true]

theorem State.latchFault_eq (s : State) (cause : Nat) : s.latchFault cause =
    ((((s.setBit F.FEN_SEQ_STAT_fault true).setFld F.FEN_SEQ_STAT_cause cause).setFld F.FEN_STATUS_rails 3).withFen
      { s.fen with phase := .fault, faultLow := true }).raise Ev.FEN_SEQ_FAULT := by
  have hshape : s.latchFault cause = ((((s.setBit F.FEN_SEQ_STAT_fault true).setFld F.FEN_SEQ_STAT_cause cause).withFen
      { ((s.setBit F.FEN_SEQ_STAT_fault true).setFld F.FEN_SEQ_STAT_cause cause).fen with phase := .fault, faultLow := true }).setFld
      F.FEN_STATUS_rails 3).raise Ev.FEN_SEQ_FAULT := rfl
  rw [hshape, State.withFen_setFld, State.setFld_fen, State.setBit_fen]

theorem State.latchFault_fault (s : State) (cause : Nat) : (s.latchFault cause).bit F.FEN_SEQ_STAT_fault = true := by
  rw [State.latchFault_eq, State.bit_raise _ _ _ (by decide) (by decide) (by decide) (by decide)]
  simp

theorem State.latchFault_cause (s : State) {cause : Nat} (hc : cause < 2 ^ (F.FEN_SEQ_STAT_cause.hi + 1 - F.FEN_SEQ_STAT_cause.lo)) :
    (s.latchFault cause).fld F.FEN_SEQ_STAT_cause = cause := by
  rw [State.latchFault_eq, State.fld_raise _ _ _ (by decide) (by decide) (by decide) (by decide), State.fld_withFen,
    State.fld_setFld_ne _ _ (by decide) (by decide) (by decide), State.fld_setFld_of_lt _ _ hc (by decide) (by decide)]

theorem State.latchFault_rails (s : State) (cause : Nat) : (s.latchFault cause).fld F.FEN_STATUS_rails = 3 := by
  rw [State.latchFault_eq, State.fld_raise _ _ _ (by decide) (by decide) (by decide) (by decide), State.fld_withFen,
    State.fld_setFld_of_lt _ _ (by decide) (by decide) (by decide)]

theorem State.latchFault_fen (s : State) (cause : Nat) : (s.latchFault cause).fen = { s.fen with phase := .fault, faultLow := true } := by
  rw [State.latchFault_eq, State.raise_fen, State.withFen_fen]

theorem State.latchFault_others (s : State) (cause : Nat) : (s.latchFault cause).mode = s.mode ∧ (s.latchFault cause).kept = s.kept ∧
    (s.latchFault cause).nor = s.nor ∧ (s.latchFault cause).fuses = s.fuses := by
  rw [State.latchFault_eq]
  refine ⟨?_, ?_, ?_, ?_⟩
  · rw [State.raise_mode, State.withFen_mode, State.setFld_mode, State.setFld_mode, State.setBit_mode]
  · rw [State.raise_kept, State.withFen_kept, State.setFld_kept, State.setFld_kept, State.setBit_kept]
  · rw [State.raise_nor, State.withFen_nor, State.setFld_nor, State.setFld_nor, State.setBit_nor]
  · rw [State.raise_fuses, State.withFen_fuses, State.setFld_fuses, State.setFld_fuses, State.setBit_fuses]

theorem State.doPowerOn_acts (hp : s.fen.phase = .off) (ht : s.fen.trigger = true) (hi : s.fen.inputGood = true) :
    s.doPowerOn = ((s.wrap F.FEN_CYCLES_count).withFen { s.fen with trigger := false, failed := 0, mismatch := 0 }).startSequence := by
  rw [State.doPowerOn, if_neg (by simp [hp, ht, hi])]
  exact congrArg State.startSequence (State.withFen_wrap _ _ _ _)

/-- The registers that the start of the sequence writes. -/
def State.powerOnRegs (s : State) : State := ((s.wrap F.FEN_CYCLES_count).setFld F.FEN_SEQ_STAT_attempts 1).setFld F.FEN_STATUS_rails 1

theorem State.onlyRegs_powerOnRegs (s : State) : s.onlyRegs s.powerOnRegs :=
  ((State.onlyRegs.rfl.setFld F.FEN_CYCLES_count _).setFld F.FEN_SEQ_STAT_attempts 1).setFld F.FEN_STATUS_rails 1

theorem State.regsKept_powerOnRegs (s : State) :
    s.regsKept s.powerOnRegs [F.FEN_CYCLES_count.off, F.FEN_SEQ_STAT_attempts.off, F.FEN_STATUS_rails.off] :=
  ((State.regsKept.rfl.setFld (f := F.FEN_CYCLES_count) _ (by simp)).setFld (f := F.FEN_SEQ_STAT_attempts) 1 (by simp)).setFld
    (f := F.FEN_STATUS_rails) 1 (by simp)

theorem State.onlyRegs.withFen (h : s.onlyRegs t) (x : Fen) : t.withFen x = { s with csr := (t.withFen x).csr, fen := x } := by
  unfold State.onlyRegs at h
  rw [h]
  rfl

theorem State.regsKept.withFen {l : List Nat} (h : s.regsKept t l) (x : Fen) : s.regsKept (t.withFen x) l :=
  fun off hl he => by rw [State.withFen]; exact h off hl he

theorem State.withFen_startSequence (s : State) (x : Fen) {tb : List RailEntry}
    (h : railsOf (s.nor.copy (s.bit F.NORC_FEN_SEL_copy)) = some tb) :
    (s.withFen x).startSequence = ((s.setFld F.FEN_SEQ_STAT_attempts (x.failed + 1)).setFld F.FEN_STATUS_rails 1).withFen
      { x with table := tb, fromB := s.bit F.NORC_FEN_SEL_copy, step := 0, trigger := false, phase := .delay, on := [], after := .stay
               off := 0, vFault := false } := by
  rw [State.startSequence_selected (s := s.withFen x) (tb := tb) (by rw [State.bit_withFen]; exact h)]
  simp only [State.withFen_setFld, State.withFen_withFen, State.withFen_fen, State.bit_withFen]

theorem State.doPowerOn_selected {tb : List RailEntry} (hp : s.fen.phase = .off) (ht : s.fen.trigger = true) (hi : s.fen.inputGood = true)
    (h : railsOf (s.nor.copy (s.bit F.NORC_FEN_SEL_copy)) = some tb) :
    s.doPowerOn = s.powerOnRegs.withFen { s.fen with
      trigger := false, failed := 0, mismatch := 0, table := tb, fromB := s.bit F.NORC_FEN_SEL_copy, step := 0, phase := .delay, on := []
      after := .stay, off := 0, vFault := false } := by
  have hbit : (s.wrap F.FEN_CYCLES_count).bit F.NORC_FEN_SEL_copy = s.bit F.NORC_FEN_SEL_copy :=
    State.bit_wrap_ne _ _ (by decide) (by decide) (by decide)
  have hsel : railsOf ((s.wrap F.FEN_CYCLES_count).nor.copy ((s.wrap F.FEN_CYCLES_count).bit F.NORC_FEN_SEL_copy)) = some tb := by
    rw [hbit, State.wrap_nor, h]
  rw [State.doPowerOn_acts hp ht hi, State.withFen_startSequence _ _ hsel, hbit, State.powerOnRegs, Nat.zero_add]

theorem State.doPowerOn_faults (hp : s.fen.phase = .off) (ht : s.fen.trigger = true) (hi : s.fen.inputGood = true)
    (ha : railsOf (s.nor.copy false) = none) (hb : railsOf (s.nor.copy true) = none) :
    s.doPowerOn = ((s.wrap F.FEN_CYCLES_count).withFen { s.fen with trigger := false, failed := 0, mismatch := 0 }).latchFault 2 := by
  rw [State.doPowerOn_acts hp ht hi]
  exact State.startSequence_none (by rwa [State.withFen_nor, State.wrap_nor]) (by rwa [State.withFen_nor, State.wrap_nor])

/-- Settles O44: each of Fen's commands is its definition where it acts, and the start of the sequence writes three registers. -/
theorem railSequence : Obligations.RailSequence := by
  unfold Obligations.RailSequence
  refine ⟨?unpowered, ?inputTriggers, ?inputNoted, ?inputAgain, ?buttonTriggers, ?buttonNone, ?starts, ?noTable, ?startNone, ?delayPlain, ?delayCore,
    ?delayNone, ?pgDone, ?pgNone, ?settleDone, ?settleNone, ?stepDone, ?stretched, ?stretchNone, ?counted⟩
  case unpowered =>
    intro s f hv
    rw [State.fenCmd, if_neg (by simp [hv])]
  case inputTriggers =>
    intro s hv hi hp
    refine (State.fenCmd_acts hv State.doInputGood).trans (congrArg _ ?_)
    rw [State.doInputGood, if_neg (by simp [hi]), State.pressed, if_pos hp]
    rfl
  case inputNoted =>
    intro s hv hi ho hr
    refine (State.fenCmd_acts hv State.doInputGood).trans (congrArg _ ?_)
    rw [State.doInputGood, if_neg (by simp [hi]), State.pressed, if_neg (by simp [ho, hr])]
  case inputAgain =>
    intro s hv hi
    refine (State.fenCmd_acts hv State.doInputGood).trans (congrArg _ ?_)
    rw [State.doInputGood, if_pos hi]
  case buttonTriggers =>
    intro s hv hp
    refine (State.fenCmd_acts hv State.pressed).trans (congrArg _ ?_)
    rw [State.pressed, if_pos hp]
    rfl
  case buttonNone =>
    intro s hv ho hr
    refine (State.fenCmd_acts hv State.pressed).trans (congrArg _ ?_)
    rw [State.pressed, if_neg (by simp [ho, hr])]
  case starts =>
    intro s tb hv hp ht hi htb
    refine ⟨_, (State.fenCmd_acts hv State.doPowerOn).trans (congrArg _ (State.doPowerOn_selected hp ht hi htb)), ?_, ?_, ?_,
      s.regsKept_powerOnRegs.withFen _, s.onlyRegs_powerOnRegs.withFen _⟩
    · simp [State.powerOnRegs]
    · simp [State.powerOnRegs]
    · simp [State.powerOnRegs]
  case noTable =>
    intro s hv hp ht hi ha hb
    refine ⟨_, (State.fenCmd_acts hv State.doPowerOn).trans (congrArg _ (State.doPowerOn_faults hp ht hi ha hb)), ?_, ?_,
      State.latchFault_fault _ _, State.latchFault_cause _ (by decide), State.latchFault_rails _ _, ?_, ?_⟩
    · rw [State.latchFault_fen]
    · rw [State.latchFault_fen]
    · rw [State.latchFault_fen, State.withFen_fen]
    · obtain ⟨hmode, hkept, hnor, hfuses⟩ := State.latchFault_others
        ((s.wrap F.FEN_CYCLES_count).withFen { s.fen with trigger := false, failed := 0, mismatch := 0 }) 2
      rw [hmode, hkept, hnor, hfuses, State.withFen_mode, State.withFen_kept, State.withFen_nor, State.withFen_fuses,
        State.wrap_mode, State.wrap_kept, State.wrap_nor, State.wrap_fuses]
      exact ⟨rfl, rfl, rfl, rfl⟩
  case startNone =>
    intro s hv hnot
    refine (State.fenCmd_acts hv State.doPowerOn).trans (congrArg _ ?_)
    rw [State.doPowerOn, if_pos (by simpa using hnot)]
  case delayPlain =>
    intro s e hv hp he hc
    refine (State.fenCmd_acts hv State.doRailDelay).trans (congrArg _ ?_)
    simp [State.doRailDelay, State.entry, hp, he, hc]
  case delayCore =>
    intro s e hv hp he hc
    refine (State.fenCmd_acts hv State.doRailDelay).trans (congrArg _ ?_)
    rw [State.doRailDelay]
    simp only [State.entry, hp, he]
    rw [if_pos hc, State.setFld_fen]
  case delayNone =>
    intro s hv hp
    refine (State.fenCmd_acts hv State.doRailDelay).trans (congrArg _ ?_)
    rw [State.doRailDelay]
    split
    · next hphase _ => exact absurd hphase hp
    · rfl
  case pgDone =>
    intro s rail lks e hv hp he hr
    refine (State.fenCmd_acts hv (·.doPgRise rail.val lks)).trans (congrArg _ ?_)
    simp [State.doPgRise, State.entry, hp, he, hr]
  case pgNone =>
    intro s rail lks e hv he hnot
    refine (State.fenCmd_acts hv (·.doPgRise rail.val lks)).trans (congrArg _ ?_)
    simp only [State.doPgRise, State.entry, he]
    split
    · next hphase heq =>
      obtain rfl := Option.some.inj heq
      exact if_neg (fun hr => hnot.elim (· hphase) (· (Fin.ext hr)))
    · rfl
  case settleDone =>
    intro s lks e hv hp he
    refine (State.fenCmd_acts hv (·.doSettle lks)).trans (congrArg _ ?_)
    simp [State.doSettle, State.entry, hp, he]
  case settleNone =>
    intro s lks hv hp
    refine (State.fenCmd_acts hv (·.doSettle lks)).trans (congrArg _ ?_)
    rw [State.doSettle]
    split
    · next hphase _ => exact absurd hphase hp
    · rfl
  case stepDone =>
    intro s e lks hc hlen
    have hlast : decide (s.fen.table.length ≤ s.fen.step + 1) = false := by simpa using hlen
    simp [State.stepDone, hlast, hc]
  case stretched =>
    intro s n hv hmem
    refine (State.fenCmd_acts hv (·.doStretch n.val)).trans (congrArg _ ?_)
    rw [State.doStretch, if_pos (by simpa using hmem)]
  case stretchNone =>
    intro s n hv hmem
    refine (State.fenCmd_acts hv (·.doStretch n.val)).trans (congrArg _ ?_)
    rw [State.doStretch, if_neg (by simpa using hmem)]
  case counted => exact fun s hs => ⟨_, State.core_runs hs State.queueCounter, ⟨_, rfl⟩, rfl⟩

end Sys2Proof.Machine
end

section
set_option Elab.async false
/-! PROOFS. Core voltage, the samples and the hold-up battery (R282 to R284, R293 to R298): the statement about them. -/

namespace Sys2Proof.Machine

variable {s t u : State}

/-! ### The core voltage (R293, R294) -/

theorem State.vTarget_between (s : State) {tj : Int} (hc : -20 < tj) (hh : tj < 85) : 5 ∣ s.vTarget tj := by
  rw [State.vTarget, if_neg (by omega), if_neg (by omega)]
  exact Dvd.intro_left _ rfl

/-- The target reads the two voltages of FEN_VCORE_CFG only. -/
theorem State.vTarget_congr (hc : t.fld F.FEN_VCORE_CFG_v_cold = s.fld F.FEN_VCORE_CFG_v_cold)
    (hh : t.fld F.FEN_VCORE_CFG_v_hot = s.fld F.FEN_VCORE_CFG_v_hot) (tj : Int) : t.vTarget tj = s.vTarget tj := by
  rw [State.vTarget, State.vTarget, hc, hh]

theorem State.coreOn_congr (h : t.fen = s.fen) : t.coreOn = s.coreOn := by rw [State.coreOn, State.coreOn, h]

/-- The voltage one step of 5 mV nearer to its target. -/
def stepTo (v target : Nat) : Nat := if v < target then Nat.min target (v + 5) else Nat.max target (v - 5)

/-- A step reads the junction temperature, follows it where it has moved by 2 °C, and moves the voltage while the regulator is on and unfaulted. -/
theorem State.doVcoreStep_eq (s : State) (tj : Int) {x : Fen}
    (hx : x = if 2 ≤ (tj - s.fen.tj).natAbs then { s.fen with tj := tj } else s.fen) :
    s.doVcoreStep tj =
      if !s.coreOn ∨ s.fen.vFault then (s.setFld F.FEN_VCORE_STAT_tj (ofSigned 8 tj)).withFen x
      else ((s.setFld F.FEN_VCORE_STAT_tj (ofSigned 8 tj)).withFen x).setFld F.FEN_VCORE_STAT_set_mv
        (stepTo (s.fld F.FEN_VCORE_STAT_set_mv) (s.vTarget x.tj)) := by
  have hfollow : (if 2 ≤ (tj - (s.setFld F.FEN_VCORE_STAT_tj (ofSigned 8 tj)).fen.tj).natAbs then
      { s.setFld F.FEN_VCORE_STAT_tj (ofSigned 8 tj) with fen := { (s.setFld F.FEN_VCORE_STAT_tj (ofSigned 8 tj)).fen with tj := tj } }
      else s.setFld F.FEN_VCORE_STAT_tj (ofSigned 8 tj)) = (s.setFld F.FEN_VCORE_STAT_tj (ofSigned 8 tj)).withFen x := by
    rw [State.setFld_fen, hx]
    split <;> rfl
  have hon : ((s.setFld F.FEN_VCORE_STAT_tj (ofSigned 8 tj)).withFen x).coreOn = s.coreOn := by
    rw [hx, State.coreOn, State.withFen_fen, State.coreOn]
    split <;> rfl
  have hfault : x.vFault = s.fen.vFault := by rw [hx]; split <;> rfl
  have hv : ((s.setFld F.FEN_VCORE_STAT_tj (ofSigned 8 tj)).withFen x).vTarget x.tj = s.vTarget x.tj :=
    State.vTarget_congr (by rw [State.fld_withFen, State.fld_setFld_ne _ _ (by decide) (by decide) (by decide)])
      (by rw [State.fld_withFen, State.fld_setFld_ne _ _ (by decide) (by decide) (by decide)]) _
  rw [State.doVcoreStep]
  simp only [hfollow, hon, State.withFen_fen, hfault, hv]
  rw [State.fld_withFen, State.fld_setFld_ne _ _ (by decide) (by decide) (by decide), stepTo]

theorem State.holdTarget_faults {answered : Bool} (h : (s.fen.vFault || (decide (s.fen.off < 10) && answered)) = false) :
    s.holdTarget answered = (s.withFen { s.fen with vFault := true }).raise Ev.FEN_VCORE_FAULT := by
  rw [State.holdTarget, if_neg (by simp [h])]
  rfl

theorem State.doVcoreCheck_eq (hon : s.coreOn = true) (mv : Nat) (answered : Bool) :
    s.doVcoreCheck mv answered = ((s.setFld F.FEN_VCORE_STAT_meas_mv mv).withFen { s.fen with off := s.offTarget mv }).holdTarget answered := by
  have hoff : (s.setFld F.FEN_VCORE_STAT_meas_mv mv).offTarget mv = s.offTarget mv := by
    rw [State.offTarget, State.offTarget, State.fld_setFld_ne _ _ (by decide) (by decide) (by decide), State.setFld_fen]
  have hshape : s.doVcoreCheck mv answered = if !s.coreOn then s else ((s.setFld F.FEN_VCORE_STAT_meas_mv mv).withFen
      { (s.setFld F.FEN_VCORE_STAT_meas_mv mv).fen with off := (s.setFld F.FEN_VCORE_STAT_meas_mv mv).offTarget mv }).holdTarget answered := rfl
  rw [hshape, if_neg (by simp [hon]), hoff, State.setFld_fen]

/-! ### Samples (R282, R284) -/

/-- Only the registers of the monitors and what Fen has counted of their samples have changed. -/
def State.monsOnly (s t : State) : Prop :=
  (∃ c x, s.onlyRegs c ∧ t = c.withFen x ∧ x = { s.fen with inside := x.inside, beyond := x.beyond }) ∧
  ∀ g : Fld, (g.off < 0x10800 ∨ 0x108C0 ≤ g.off) → t.fld g = s.fld g

theorem State.monsOnly.refl (s : State) : s.monsOnly s := ⟨⟨s, s.fen, .rfl, rfl, rfl⟩, fun _ _ => rfl⟩

theorem State.onlyRegs.fen (h : s.onlyRegs t) : t.fen = s.fen := by
  unfold State.onlyRegs at h
  rw [h]

theorem State.monsOnly.trans (h : s.monsOnly t) (k : t.monsOnly u) : s.monsOnly u := by
  obtain ⟨⟨c, x, hc, ht, hx⟩, hf⟩ := h
  obtain ⟨⟨d, y, hd, hu, hy⟩, hg⟩ := k
  refine ⟨⟨d.withFen s.fen, y, ?_, by rw [State.withFen_withFen]; exact hu, ?_⟩, fun g h => (hg g h).trans (hf g h)⟩
  · unfold State.onlyRegs at hc hd ⊢
    rw [hd, ht, hc]
    rfl
  · rw [hy, ht, State.withFen_fen, hx]

/-- What Fen has counted of a channel's samples once one more has come. -/
def Fen.counted (x : Fen) (ch : Nat) (ok : Bool) : Fen := { x with beyond := alPut x.beyond ch (if ok then 0 else alGetD x.beyond ch 0 + 1) }

/-- A sample within both thresholds of its channel, as the converter holds it. -/
def State.within (s : State) (ch mv : Nat) : Bool :=
  decide (Nat.min 1200 mv ≤ s.fld (F.FEN_MONn_CFG_hi_mv ch)) && decide (s.fld (F.FEN_MONn_CFG_lo_mv ch) ≤ Nat.min 1200 mv)

/-- Samples inside both thresholds in a row, this one counted, of a tripped channel. -/
def State.insideRow (s : State) (ch mv : Nat) : Nat := if s.within ch mv then alGetD s.fen.inside ch 0 + 1 else 0

/-- A sample sets its register and counts; a tripped channel is armed again after four inside. -/
theorem State.sampleMon_eq (s : State) (ch mv : Nat) :
    s.sampleMon ch mv =
      if !s.bit (F.FEN_MONn_CFG_tripped ch) then (s.setFld (F.FEN_MONn_VAL_mv ch) (Nat.min 1200 mv)).withFen (s.fen.counted ch (s.within ch mv))
      else if 4 ≤ s.insideRow ch mv then
        ((s.setFld (F.FEN_MONn_VAL_mv ch) (Nat.min 1200 mv)).withFen
          { s.fen.counted ch (s.within ch mv) with inside := alDel s.fen.inside ch }).setBit (F.FEN_MONn_CFG_tripped ch) false
      else (s.setFld (F.FEN_MONn_VAL_mv ch) (Nat.min 1200 mv)).withFen
        { s.fen.counted ch (s.within ch mv) with inside := alPut s.fen.inside ch (s.insideRow ch mv) } := by
  have hcfg : ∀ g : Fld, g.off = 0x10800 + ch * 4 → (s.setFld (F.FEN_MONn_VAL_mv ch) (Nat.min 1200 mv)).fld g = s.fld g := fun g hg =>
    State.fld_setFld_ne _ _ (by simp) (by simp) (.inl (by simp only [hg]; omega))
  have hwithin : (decide (Nat.min 1200 mv ≤ (s.setFld (F.FEN_MONn_VAL_mv ch) (Nat.min 1200 mv)).fld (F.FEN_MONn_CFG_hi_mv ch)) &&
      decide ((s.setFld (F.FEN_MONn_VAL_mv ch) (Nat.min 1200 mv)).fld (F.FEN_MONn_CFG_lo_mv ch) ≤ Nat.min 1200 mv)) = s.within ch mv := by
    rw [hcfg _ rfl, hcfg _ rfl, State.within]
  have htrip : ∀ x, ((s.setFld (F.FEN_MONn_VAL_mv ch) (Nat.min 1200 mv)).withFen x).bit (F.FEN_MONn_CFG_tripped ch) =
      s.bit (F.FEN_MONn_CFG_tripped ch) := fun x => by rw [State.bit_withFen, State.bit, hcfg _ rfl, State.bit]
  have hfen : (s.setFld (F.FEN_MONn_VAL_mv ch) (Nat.min 1200 mv)).fen = s.fen := State.setFld_fen _ _ _
  rw [State.sampleMon]
  simp only [hwithin]
  generalize s.setFld (F.FEN_MONn_VAL_mv ch) (Nat.min 1200 mv) = c at hfen htrip ⊢
  change (if !(c.withFen (c.fen.counted ch (s.within ch mv))).bit (F.FEN_MONn_CFG_tripped ch) then _ else _) = _
  rw [htrip, hfen]
  rfl

theorem State.sampleMon_val (s : State) (ch mv : Nat) :
    (s.sampleMon ch mv).fld (F.FEN_MONn_VAL_mv ch) = Nat.min 1200 mv := by
  have hmv : Nat.min 1200 mv ≤ 1200 := Nat.min_le_left _ _
  have hval : (s.setFld (F.FEN_MONn_VAL_mv ch) (Nat.min 1200 mv)).fld (F.FEN_MONn_VAL_mv ch) = Nat.min 1200 mv :=
    State.fld_setFld_of_lt _ _ (by simp only; omega) (by simp) (by simp)
  rw [s.sampleMon_eq]
  split
  · rw [State.fld_withFen, hval]
  · split
    · rw [State.fld_setBit_ne _ _ (by simp) (by simp) (.inl (by simp only; omega)), State.fld_withFen, hval]
    · rw [State.fld_withFen, hval]

theorem State.sampleMon_beyond (s : State) (ch mv : Nat) : (s.sampleMon ch mv).fen.beyond = (s.fen.counted ch (s.within ch mv)).beyond := by
  rw [s.sampleMon_eq]
  split
  · rw [State.withFen_fen]
  · split
    · rw [State.setBit_fen, State.withFen_fen]
    · rw [State.withFen_fen]

theorem State.onlyRegs.part (h : s.onlyRegs t) : t.part = s.part := by
  unfold State.onlyRegs at h
  rw [h]

theorem State.sampleMon_monsOnly (s : State) {ch : Nat} (hch : ch < 16) (mv : Nat) : s.monsOnly (s.sampleMon ch mv) := by
  have hreg : s.onlyRegs (s.setFld (F.FEN_MONn_VAL_mv ch) (Nat.min 1200 mv)) := State.onlyRegs.rfl.setFld _ _
  have hfld : ∀ g : Fld, (g.off < 0x10800 ∨ 0x108C0 ≤ g.off) → (s.setFld (F.FEN_MONn_VAL_mv ch) (Nat.min 1200 mv)).fld g = s.fld g :=
    fun g hg => State.fld_setFld_ne _ _ (by simp) (by simp) (.inl (by simp only; omega))
  rw [s.sampleMon_eq]
  split
  · exact ⟨⟨_, _, hreg, rfl, rfl⟩, fun g hg => by rw [State.fld_withFen, hfld g hg]⟩
  · split
    · refine ⟨⟨_, _, hreg.setFld (F.FEN_MONn_CFG_tripped ch) _, State.withFen_setBit _ _ _ _, rfl⟩, fun g hg => ?_⟩
      rw [State.fld_setBit_ne _ _ (by simp) (by simp) (.inl (by simp only; omega)), State.fld_withFen, hfld g hg]
    · exact ⟨⟨_, _, hreg, rfl, rfl⟩, fun g hg => by rw [State.fld_withFen, hfld g hg]⟩

theorem State.samples_monsOnly (l : List (Fin 16 × Nat)) (s : State) : s.monsOnly (l.foldl (fun s p => s.sampleMon p.1.val p.2) s) := by
  induction l generalizing s with
  | nil => exact .refl s
  | cons p l ih => exact (s.sampleMon_monsOnly p.1.isLt p.2).trans (ih _)

/-! ### Registers and Fen -/

/-- Nothing changed but registers and Fen. -/
def State.fenOnly (s t : State) : Prop := ∃ c, s.onlyRegs c ∧ t = c.withFen t.fen

theorem State.fenOnly.eq (h : s.fenOnly t) : t = { s with csr := t.csr, fen := t.fen } := by
  obtain ⟨c, hc, ht⟩ := h
  rw [ht]
  exact hc.withFen _

theorem State.fenOnly.setFld (h : s.fenOnly t) (f : Fld) (v : Nat) : s.fenOnly (t.setFld f v) := by
  obtain ⟨c, hc, ht⟩ := h
  exact ⟨c.setFld f v, hc.setFld f v, by rw [State.setFld_fen, ← State.withFen_setFld, ← ht]⟩

theorem State.fenOnly.setBit (h : s.fenOnly t) (f : Fld) (b : Bool) : s.fenOnly (t.setBit f b) := h.setFld f _

theorem State.fenOnly.withFen (h : s.fenOnly t) (x : Fen) : s.fenOnly (t.withFen x) := by
  obtain ⟨c, hc, ht⟩ := h
  exact ⟨c, hc, by rw [State.withFen_fen, ht, State.withFen_withFen]⟩

theorem State.monsOnly.fenOnly (h : s.monsOnly t) : s.fenOnly t := by
  obtain ⟨⟨c, x, hc, rfl, -⟩, -⟩ := h
  exact ⟨c, hc, rfl⟩

theorem State.monsOnly.fen (h : s.monsOnly t) : t.fen = { s.fen with inside := t.fen.inside, beyond := t.fen.beyond } := by
  obtain ⟨⟨c, x, -, rfl, hx⟩, -⟩ := h
  exact hx

/-! ### The charge (R297) -/

/-- The charge in hundredths of a percent after a sample's integral. -/
def State.charge (s : State) (nvs : Int) : Int :=
  max 0 (min 9900 ((s.fen.pack.soc : Int) + (s.fen.pack.rest + nvs * 10 * 10000).fdiv (s.fen.pack.fcc * 3600000 * s.fld F.FEN_BAT_CFG_shunt)))

theorem State.charge_nonneg (s : State) (nvs : Int) : 0 ≤ s.charge nvs := le_max_left _ _

theorem State.charge_le (s : State) (nvs : Int) : s.charge nvs ≤ 9900 := max_le (by decide) (min_le_left _ _)

theorem State.charge_toNat_le (s : State) (nvs : Int) : (s.charge nvs).toNat ≤ 9900 := Int.toNat_le.mpr (s.charge_le nvs)

theorem State.coulombs_uncharged (h : s.fen.pack.fcc = 0) (nvs : Int) : s.coulombs nvs = s := by rw [State.coulombs]; exact if_pos h

theorem State.coulombs_charged (h : s.fen.pack.fcc ≠ 0) (nvs : Int) : ∃ rest, s.coulombs nvs =
    (s.withFen { s.fen with pack := { s.fen.pack with soc := (s.charge nvs).toNat, rest := rest } }).setFld F.FEN_BAT_STAT_soc
      ((s.charge nvs).toNat / 100) := by
  refine ⟨s.fen.pack.rest + nvs * 10 * 10000 - (s.fen.pack.rest + nvs * 10 * 10000).fdiv (s.fen.pack.fcc * 3600000 * s.fld F.FEN_BAT_CFG_shunt) *
    (s.fen.pack.fcc * 3600000 * s.fld F.FEN_BAT_CFG_shunt), ?_⟩
  rw [State.coulombs]
  exact if_neg h

/-- A sample's integral changes the charge in the pack and in its register, and nothing else. -/
theorem State.coulombs_fen (s : State) (nvs : Int) :
    (s.coulombs nvs).fen = { s.fen with pack := { s.fen.pack with soc := (s.coulombs nvs).fen.pack.soc, rest := (s.coulombs nvs).fen.pack.rest } } := by
  by_cases h : s.fen.pack.fcc = 0
  · rw [State.coulombs_uncharged h]
  · obtain ⟨rest, hr⟩ := State.coulombs_charged h nvs
    rw [hr, State.setFld_fen, State.withFen_fen]

theorem State.coulombs_soc_le (s : State) (nvs : Int) : (s.coulombs nvs).fen.pack.soc ≤ Nat.max 9900 s.fen.pack.soc := by
  by_cases h : s.fen.pack.fcc = 0
  · rw [State.coulombs_uncharged h]
    exact Nat.le_max_right _ _
  · obtain ⟨rest, hr⟩ := State.coulombs_charged h nvs
    rw [hr, State.setFld_fen, State.withFen_fen]
    exact (s.charge_toNat_le nvs).trans (Nat.le_max_left _ _)

theorem State.fld_coulombs (s : State) (nvs : Int) {f : Fld} (hf : F.FEN_BAT_STAT_soc.off ≠ f.off ∨ F.FEN_BAT_STAT_soc.hi < f.lo ∨ f.hi < F.FEN_BAT_STAT_soc.lo) :
    (s.coulombs nvs).fld f = s.fld f := by
  by_cases h : s.fen.pack.fcc = 0
  · rw [State.coulombs_uncharged h]
  · obtain ⟨rest, hr⟩ := State.coulombs_charged h nvs
    rw [hr, State.fld_setFld_ne _ _ (by decide) (by decide) hf, State.fld_withFen]

theorem State.fenOnly.coulombs (h : s.fenOnly t) (nvs : Int) : s.fenOnly (t.coulombs nvs) := by
  by_cases hfcc : t.fen.pack.fcc = 0
  · rwa [State.coulombs_uncharged hfcc]
  · obtain ⟨rest, hr⟩ := State.coulombs_charged hfcc nvs
    rw [hr]
    exact (h.withFen _).setFld _ _

/-! ### A sample of Fen (R282, R287, R297) -/

/-- Whether a sample of AMON0 ends a good main input. -/
def State.endsInput (s : State) (amon : List (Fin 16 × Nat)) : Bool :=
  amon.any (fun p => decide (p.1.val = 0 ∧ p.2 ≤ s.fld F.FEN_PF_CFG_thr_mv + 20))

/-- The registers of a current read from the shunt. -/
def State.showCurrent (s : State) (ma : Int) : State :=
  (s.setFld F.FEN_BAT_E_i_10ma (ofSigned 16 (ma.tdiv 10))).setBit F.FEN_BAT_STAT_charging (decide ((s.fld F.FEN_BAT_CFG_rest_ma : Int) < ma))

/-- The state on which a sample's integral is taken. -/
def State.sampled (s : State) (amon : List (Fin 16 × Nat)) (uv : Int) : State :=
  let m := amon.foldl (fun s p => s.sampleMon p.1.val p.2) s
  (m.withFen { m.fen with inputGood := m.fen.inputGood && !s.endsInput amon, pack := { m.fen.pack with current := (uv * 10).tdiv (s.fld F.FEN_BAT_CFG_shunt) } }).showCurrent
    ((uv * 10).tdiv (s.fld F.FEN_BAT_CFG_shunt))

theorem State.doFenSample_eq (s : State) (amon : List (Fin 16 × Nat)) (nvs uv : Int) :
    s.doFenSample amon nvs uv = (s.sampled amon uv).coulombs nvs := by
  have hm := State.samples_monsOnly amon s
  rw [State.doFenSample, State.sampled]
  generalize amon.foldl (fun s p => s.sampleMon p.1.val p.2) s = m at hm ⊢
  have hlow : amon.any (fun p => decide (p.1.val = 0 ∧ p.2 ≤ m.fld F.FEN_PF_CFG_thr_mv + 20)) = s.endsInput amon := by
    rw [hm.2 _ (by decide), State.endsInput]
  simp only [hlow]
  cases s.endsInput amon
  · simp only [Bool.not_false, Bool.and_true]
    rfl
  · simp only [Bool.not_true, Bool.and_false]
    rfl

/-- What the sample left of Fen and of its registers. -/
theorem State.sampled_fen (s : State) (amon : List (Fin 16 × Nat)) (uv : Int) :
    (s.sampled amon uv).fen = { s.fen with
      inside := (s.sampled amon uv).fen.inside, beyond := (s.sampled amon uv).fen.beyond, inputGood := s.fen.inputGood && !s.endsInput amon
      pack := { s.fen.pack with current := (uv * 10).tdiv (s.fld F.FEN_BAT_CFG_shunt) } } := by
  have hm := (State.samples_monsOnly amon s).fen
  rw [State.sampled]
  generalize amon.foldl (fun s p => s.sampleMon p.1.val p.2) s = m at hm ⊢
  simp only [State.showCurrent]
  rw [State.setBit_fen, State.setFld_fen, State.withFen_fen, hm]

theorem State.sampled_fenOnly (s : State) (amon : List (Fin 16 × Nat)) (uv : Int) : s.fenOnly (s.sampled amon uv) := by
  have hm := (State.samples_monsOnly amon s).fenOnly
  rw [State.sampled]
  exact ((hm.withFen _).setFld _ _).setBit _ _

theorem State.sampled_rest (s : State) (amon : List (Fin 16 × Nat)) (x : Fen) :
    ((amon.foldl (fun s p => s.sampleMon p.1.val p.2) s).withFen x).fld F.FEN_BAT_CFG_rest_ma = s.fld F.FEN_BAT_CFG_rest_ma := by
  rw [State.fld_withFen, (State.samples_monsOnly amon s).2 _ (by decide)]

theorem State.sampled_i10ma (s : State) (amon : List (Fin 16 × Nat)) (uv : Int) : (s.sampled amon uv).fld F.FEN_BAT_E_i_10ma =
    ofSigned 16 (((uv * 10).tdiv (s.fld F.FEN_BAT_CFG_shunt)).tdiv 10) % 2 ^ 16 := by
  simp only [State.sampled, State.showCurrent]
  exact (State.fld_setBit_ne _ _ (by decide) (by decide) (by decide)).trans (State.fld_setFld_eq _ _ (by decide) (by decide))

theorem State.sampled_charging (s : State) (amon : List (Fin 16 × Nat)) (uv : Int) : (s.sampled amon uv).bit F.FEN_BAT_STAT_charging =
    decide ((s.fld F.FEN_BAT_CFG_rest_ma : Int) < (uv * 10).tdiv (s.fld F.FEN_BAT_CFG_shunt)) := by
  simp only [State.sampled, State.showCurrent]
  rw [State.bit_setBit_eq _ _ (by decide) (by decide), State.sampled_rest]

/-! ### The pack (R295, R296) -/

/-- A pack that has answered once is no longer lost. -/
theorem State.packIs_lost (s : State) (r : PackRead) : (s.packIs r).bit F.FEN_BAT_STAT_lost = false := by
  rw [State.packIs, State.bit_setFld_ne _ _ (by decide) (by decide) (by decide), State.bit_setFld_ne _ _ (by decide) (by decide) (by decide),
    State.bit_setBit_eq _ _ (by decide) (by decide)]

theorem State.packIs_fen (s : State) (r : PackRead) : (s.packIs r).fen =
    { s.fen with pack := { s.fen.pack with missed := 0, temp := r.temp, fcc := r.fcc, dc := r.dc, serial := r.serial } } := by
  rw [State.packIs, State.setFld_fen, State.setFld_fen, State.setBit_fen]

theorem State.packIs_soh (s : State) {r : PackRead} (hdc : 0 < r.dc) :
    (s.packIs r).fld F.FEN_BAT_STAT_soh = Nat.min 100 (r.fcc * 100 / r.dc) := by
  have hle : Nat.min 100 (r.fcc * 100 / r.dc) ≤ 100 := Nat.min_le_left _ _
  rw [State.packIs, if_neg (by omega), State.fld_setFld_of_lt _ _ (by simp only; omega) (by decide) (by decide)]

theorem State.packLost_lost (s : State) : s.packLost.bit F.FEN_BAT_STAT_lost = true := by
  rw [State.packLost]
  split
  · assumption
  · rw [State.bit_raise _ _ _ (by decide) (by decide) (by decide) (by decide), State.bit_setBit_eq _ _ (by decide) (by decide)]

/-- The failure of the authentication, on a state that differs from `s` in Fen only. -/
theorem State.authFail_eq (s : State) : s.authFail =
    ((s.withFen { s.fen with pack := { s.fen.pack with challenge := none, tries := 0 } }).setBit F.FEN_BAT_STAT_auth false).raise
      Ev.FEN_BAT_AUTH_FAIL := rfl

theorem State.authFail_auth (s : State) : s.authFail.bit F.FEN_BAT_STAT_auth = false := by
  rw [State.authFail_eq, State.bit_raise _ _ _ (by decide) (by decide) (by decide) (by decide), State.bit_setBit_eq _ _ (by decide) (by decide)]

theorem State.authFail_fen (s : State) : s.authFail.fen = { s.fen with pack := { s.fen.pack with challenge := none, tries := 0 } } := by
  rw [State.authFail_eq, State.raise_fen, State.setBit_fen, State.withFen_fen]

theorem State.authFail_pended (h : s.mode ≠ .reset) : s.authFail.pended Ev.FEN_BAT_AUTH_FAIL = true := by
  rw [State.authFail_eq]
  refine State.pended_raise _ _ _ (by decide) ?_ ?_
  · rwa [State.setBit_mode, State.withFen_mode]
  · rw [State.fusedEvent, State.setBit_part, State.withFen_part]
    cases s.part <;> rfl

theorem State.authFail_same (s : State) : State.sameButEvents { s with fen := s.authFail.fen } s.authFail := by
  rw [State.authFail_fen, State.authFail_eq]
  exact ((State.sameButEvents.rfl).setFld _ _).raise _ _

/-! ### The temperature's factor (R298) -/

theorem kTemp_le (t : Int) : kTemp t ≤ 300 := by
  unfold kTemp
  split_ifs <;> omega

theorem kTemp_mono {t u : Int} (h : t ≤ u) : kTemp t ≤ kTemp u := by
  unfold kTemp
  split_ifs <;> omega

/-- Settles O46: each of Fen's commands on the core voltage, the samples and the pack is its definition where it acts. -/
theorem coreVoltageAndBattery : Obligations.CoreVoltageAndBattery := by
  unfold Obligations.CoreVoltageAndBattery
  refine ⟨?targets, ?stepNear, ?stepFollowed, ?stepHeld, ?checkNear, ?checkTenth, ?checkOff, ?sample, ?charge, ?monitor, ?ocvReset, ?ocvMoving,
    ?fullNot, ?ocvSet, ?full, ?rateLow, ?rateNot, ?rateHigh, ?readAnswer, ?readMissed, ?readThird, ?readNone, ?packFacts, ?authStart, ?authReset,
    ?authGood, ?authWrong, ?authBadRecord, ?authNoAnswer, ?authNone, ?retryFails, ?retryAgain, ?noAuth, ?temps⟩
  case targets =>
    refine fun s tj => ⟨fun h => ?_, fun h => ?_, s.vTarget_between⟩
    · rw [State.vTarget, if_pos h, Int.toNat_natCast]
    · rw [State.vTarget, if_neg (by omega), if_pos h, Int.toNat_natCast]
  case stepNear =>
    intro s tj hv hon hf hn
    refine (State.fenCmd_acts hv (·.doVcoreStep tj)).trans (congrArg _ ?_)
    rw [State.doVcoreStep_eq s tj (x := s.fen) (if_neg (by omega)).symm, if_neg (by simp [hon, hf])]
    rfl
  case stepFollowed =>
    intro s tj hv hon hf hn
    refine (State.fenCmd_acts hv (·.doVcoreStep tj)).trans (congrArg _ ?_)
    rw [State.doVcoreStep_eq s tj (if_pos hn).symm, if_neg (by simp [hon, hf])]
    rfl
  case stepHeld =>
    intro s tj hv hoff hn
    refine (State.fenCmd_acts hv (·.doVcoreStep tj)).trans (congrArg _ ?_)
    rw [State.doVcoreStep_eq s tj (x := s.fen) (if_neg (by omega)).symm, if_pos (by simpa using hoff)]
    rfl
  case checkNear =>
    intro s mv hv hon hhi hlo
    refine (State.fenCmd_acts hv (·.doVcoreCheck mv true)).trans (congrArg _ ?_)
    have hoff : s.offTarget mv = 0 := if_neg (by omega)
    rw [State.doVcoreCheck_eq hon, hoff, State.holdTarget, State.withFen_fen, if_pos (by simp)]
    rfl
  case checkTenth =>
    intro s mv answered hv hon hf h9 hfar
    refine (State.fenCmd_acts hv (·.doVcoreCheck mv answered)).trans (congrArg _ ?_)
    have hoff : s.offTarget mv = 10 := by rw [State.offTarget, if_pos (.inr hfar), h9]
    rw [State.doVcoreCheck_eq hon, hoff, State.holdTarget_faults (by rw [State.withFen_fen]; simp [hf]), State.withFen_withFen, State.withFen_fen]
    rfl
  case checkOff =>
    intro s mv answered hv hon
    refine (State.fenCmd_acts hv (·.doVcoreCheck mv answered)).trans (congrArg _ ?_)
    rw [State.doVcoreCheck, if_pos (by simp [hon])]
  case sample =>
    intro s amon nvs uv hv
    have hfen := (s.sampled amon uv).coulombs_fen nvs
    rw [State.sampled_fen] at hfen
    have hsoc := (s.sampled amon uv).coulombs_soc_le nvs
    rw [State.sampled_fen] at hsoc
    refine ⟨_, (State.fenCmd_acts hv (·.doFenSample amon nvs uv)).trans (congrArg _ (s.doFenSample_eq amon nvs uv)), ?_, ?_, ?_,
      ((s.sampled_fenOnly amon uv).coulombs nvs).eq, ?_, ?_, ?_, hsoc, ?_⟩
    · rw [hfen]
    · rw [State.fld_coulombs _ _ (by decide), State.sampled_i10ma, hfen]
    · rw [State.bit, State.fld_coulombs _ _ (by decide), ← State.bit, State.sampled_charging, hfen]
    · rw [hfen]
    · rw [hfen]
    · intro hfcc
      rw [State.coulombs_uncharged (by rw [State.sampled_fen]; exact hfcc), State.sampled_fen]
    · rw [hfen, State.endsInput]
  case charge =>
    intro s q hfcc
    obtain ⟨rest, hr⟩ := State.coulombs_charged (Nat.ne_of_gt hfcc) q
    have hle := s.charge_toNat_le q
    have hcharge : ((s.charge q).toNat : Int) = s.charge q := Int.toNat_of_nonneg (s.charge_nonneg q)
    rw [hr, State.setFld_fen, State.withFen_fen]
    refine ⟨hle, hcharge.trans ?_, State.fld_setFld_of_lt _ _ (by simp only; omega) (by decide) (by decide)⟩
    rw [State.charge, Int.mul_assoc q 10 10000]
    rfl
  case monitor =>
    intro s ch mv _
    refine ⟨s.sampleMon_val ch mv, ?_, fun htrip => ?_⟩
    · rw [s.sampleMon_beyond, Fen.counted, alGetD, alGet_alPut_same, Option.getD_some, State.within]
      simp only [Bool.and_eq_true, decide_eq_true_eq]
    · rw [s.sampleMon_beyond, s.sampleMon_eq, if_pos (by simp [htrip])]
      rfl
  case ocvReset =>
    intro s hv hrest
    refine (State.fenCmd_acts hv State.doOcvReset).trans (congrArg _ ?_)
    rw [State.doOcvReset, if_pos hrest, State.packMv]
  case ocvMoving =>
    intro s hv hrest
    refine (State.fenCmd_acts hv State.doOcvReset).trans (congrArg _ ?_)
    rw [State.doOcvReset, if_neg (by simp [hrest])]
  case fullNot =>
    intro s hv ht
    refine (State.fenCmd_acts hv State.doBatFull).trans (congrArg _ ?_)
    rw [State.doBatFull, if_neg (by simp [ht])]
  case ocvSet =>
    intro s mv c hocv hc
    have hmin : Nat.min 10000 c = c := Nat.min_eq_right hc
    rw [State.socFrom, hocv, Option.getD_some, hmin, State.setSoc]
    exact ⟨by rw [State.setFld_fen], State.fld_setFld_of_lt _ _ (by simp only; omega) (by decide) (by decide)⟩
  case full =>
    intro s hv ht
    refine (State.fenCmd_acts hv State.doBatFull).trans (congrArg _ ?_)
    rw [State.doBatFull, if_pos ht]
  case rateLow =>
    intro s hv hr
    exact (State.fenCmd_acts hv fun s => if s.atRest then s.setBit F.FEN_STATUS_rate_low true else s).trans
      (congrArg _ (if_pos (decide_eq_true hr)))
  case rateNot =>
    intro s hv hr
    exact (State.fenCmd_acts hv fun s => if s.atRest then s.setBit F.FEN_STATUS_rate_low true else s).trans
      (congrArg _ (if_neg (by simp [State.atRest, hr])))
  case rateHigh => exact fun s hv => State.fenCmd_acts hv (·.setBit F.FEN_STATUS_rate_low false)
  case readAnswer =>
    intro s r sb0 hv halt hst
    refine (State.fenCmd_acts hv (·.doBatRead (some r) sb0)).trans (congrArg _ ?_)
    rw [State.doBatRead, if_neg (by simp [halt])]
    simp only [if_neg hst]
  case readMissed =>
    intro s sb0 hv halt hst hm
    refine (State.fenCmd_acts hv (·.doBatRead none sb0)).trans (congrArg _ ?_)
    rw [State.doBatRead, if_neg (by simp [halt])]
    simp only [if_neg hst]
    rw [if_neg (not_or.mpr ⟨hst, by omega⟩)]
  case readThird =>
    intro s r hv halt hm
    refine (State.fenCmd_acts hv (·.doBatRead none (some r))).trans (congrArg _ ?_)
    rw [State.doBatRead, if_neg (by simp [halt])]
    simp only [ite_self]
    rw [if_pos (by omega), State.packAlt]
  case readNone =>
    intro s hv halt
    refine (State.fenCmd_acts hv (·.doBatRead none none)).trans (congrArg _ ?_)
    rw [State.doBatRead, if_pos halt, State.packAlt]
  case packFacts => exact fun s r => ⟨s.packIs_lost r, s.packIs_fen r, s.packIs_soh, s.packLost_lost⟩
  case authStart =>
    intro s hv hm hfresh
    have heq : s.challengePack 1 = s.tickFree.withFen { s.fen with pack := { s.fen.pack with challenge := some (Config.draw s.free), tries := 1 } } := by
      rw [State.challengePack, if_neg hm, if_neg (by simp [hfresh])]
      rfl
    exact ⟨_, (State.fenCmd_acts hv (·.challengePack 1)).trans (congrArg _ heq), rfl, rfl, rfl⟩
  case authReset =>
    intro s hv hm
    refine (State.fenCmd_acts hv (·.challengePack 1)).trans (congrArg _ ?_)
    rw [State.challengePack, if_pos hm]
  case authGood =>
    intro s hv hc
    refine (State.fenCmd_acts hv (·.doBatAuthRead (some true) true)).trans (congrArg _ ?_)
    rw [State.doBatAuthRead.eq_def, if_neg (by simp [Option.isSome_iff_ne_none.mp hc]), if_neg (by simp)]
  case authWrong =>
    intro s hv hc
    refine (State.fenCmd_acts hv (·.doBatAuthRead (some false) true)).trans (congrArg _ ?_)
    rw [State.doBatAuthRead.eq_def, if_neg (by simp [Option.isSome_iff_ne_none.mp hc]), if_neg (by simp)]
  case authBadRecord =>
    intro s k hv hc
    refine (State.fenCmd_acts hv (·.doBatAuthRead (some k) false)).trans (congrArg _ ?_)
    rw [State.doBatAuthRead.eq_def, if_neg (by simp [Option.isSome_iff_ne_none.mp hc]), if_pos (by simp)]
  case authNoAnswer =>
    intro s b hv hc
    refine (State.fenCmd_acts hv (·.doBatAuthRead none b)).trans (congrArg _ ?_)
    rw [State.doBatAuthRead.eq_def, if_neg (by simp [Option.isSome_iff_ne_none.mp hc]), if_neg (by simp)]
  case authNone =>
    intro s sigOk b hv hc
    refine (State.fenCmd_acts hv (·.doBatAuthRead sigOk b)).trans (congrArg _ ?_)
    rw [State.doBatAuthRead.eq_def, if_pos (by simp [hc])]
  case retryFails =>
    intro s hv hc h3
    refine ⟨s.authFail, (State.fenCmd_acts hv State.doBatAuthRetry).trans (congrArg _ ?_), s.authFail_auth, by rw [s.authFail_fen],
      s.authFail_pended, s.authFail_same⟩
    rw [State.doBatAuthRetry, if_neg (by simp [hc]; omega), if_pos h3]
  case retryAgain =>
    intro s hv hc h0 h3
    refine (State.fenCmd_acts hv State.doBatAuthRetry).trans (congrArg _ ?_)
    rw [State.doBatAuthRetry, if_neg (by simp [hc]; omega), if_neg (by omega)]
  case noAuth =>
    intro s h
    rw [State.estimate, if_pos (by simp [h])]
  case temps => exact fun t u h => ⟨kTemp_mono h, kTemp_le u⟩

end Sys2Proof.Machine
end

section
set_option Elab.async false
/-! PROOFS. The window's command sequences (R318, R326, R328): the statement about them. -/

namespace Sys2Proof.Machine

variable {s t : State}

/-! ### The NOR beside its registers -/

/-- The NOR, beside its registers, takes a new state. -/
def State.withNor (s : State) (n : Nor) : State := { s with nor := n }

theorem State.setFld_withNor (s : State) (n : Nor) (f : Fld) (v : Nat) : (s.withNor n).setFld f v = (s.setFld f v).withNor n := rfl

theorem State.onlyRegs.withNor (h : s.onlyRegs t) (n : Nor) : t.withNor n = { s with csr := (t.withNor n).csr, nor := n } := by
  unfold State.onlyRegs at h
  rw [h]
  rfl

theorem State.regsKept.withNor {l : List Nat} (h : s.regsKept t l) (n : Nor) : s.regsKept (t.withNor n) l :=
  fun off hl he => by rw [State.withNor]; exact h off hl he

/-- The registers that follow the operations. -/
def State.showOps (s : State) (l : List NorOp) : State :=
  (s.setBit F.NORC_STAT_busy (l.any NorOp.running)).setBit F.NORC_STAT_suspended (l.any (fun o => !o.running))

theorem State.setOps_eq (s : State) (l : List NorOp) : s.setOps l = (s.showOps l).withNor { s.nor with ops := l } := by
  have hshape : s.setOps l = ((s.withNor { s.nor with ops := l }).setBit F.NORC_STAT_busy (l.any NorOp.running)).setBit F.NORC_STAT_suspended
      (l.any (fun o => !o.running)) := rfl
  rw [hshape, State.setBit, State.setBit, State.setFld_withNor, State.setFld_withNor, State.showOps, State.setBit, State.setBit]

theorem State.showOps_out (s : State) (l : List NorOp) (n : Nor) : ((s.showOps l).withNor n).out = s.out := by
  rw [State.withNor, State.showOps, State.setBit_out, State.setBit_out]

theorem State.showOps_onlyRegs (s : State) (l : List NorOp) : s.onlyRegs (s.showOps l) := (State.onlyRegs.rfl.setFld _ _).setFld _ _

theorem State.showOps_regsKept (s : State) (l : List NorOp) : s.regsKept (s.showOps l) [F.NORC_STAT_busy.off] :=
  (State.regsKept.rfl.setFld (f := F.NORC_STAT_busy) _ (by simp)).setFld (f := F.NORC_STAT_suspended) _ (by simp)

/-! ### Writes and reads of the window -/

/-- A unit that serves management takes the write. -/
theorem State.windowWrite_acts (hs : s.manages) (src : NorSrc) (off : Nat) (v : Word) (ok : Bool) :
    execNorWindowWrite src off v ok s = .next (s.doWindowWrite src off v ok) := by
  rw [execNorWindowWrite, if_neg (not_or.mpr hs)]

theorem State.doWindowWrite_open {q : NorSeq} (hq : s.nor.win = some q) (src : NorSrc) (off : Nat) (v : Word) (ok : Bool) :
    s.doWindowWrite src off v ok = if q.src ≠ src then (s.setBit F.NORC_STAT_foreign true).raise Ev.NORC_SEQ_FOREIGN
      else if !ok then s.abandonWin else s.winWrite q off v := by
  rw [State.doWindowWrite]
  simp only [hq]

theorem State.doWindowWrite_idle (hq : s.nor.win = none) (src : NorSrc) (off : Nat) (v : Word) (ok : Bool) :
    s.doWindowWrite src off v ok =
      if ok ∧ off = 0xA00 ∧ v = 0x4B42#32 then (s.setWin { src := src, step := 1 }).setFld F.NORC_STAT_owner (ownerCode src) else s := by
  rw [State.doWindowWrite]
  simp only [hq]

/-- A read of what the window shows at once: outside the NOR, in a sector that is erase-incomplete, or with nothing running. -/
theorem State.doWindowRead_served {off : Nat} (h : s.nor.size ≤ off ∨ off / 65536 ∈ s.nor.einc ∨ s.nor.ops = []) :
    s.doWindowRead off = s.serveRead off := by
  rw [State.doWindowRead]
  split
  · rfl
  · next hshown =>
    have hops : s.nor.ops = [] := by
      simp only [List.contains_iff_mem, not_or] at hshown
      exact (h.resolve_left hshown.1).resolve_left hshown.2
    rw [hops, if_neg (by simp)]
    rfl

/-- A read inside the one operation that runs waits with it. -/
theorem State.doWindowRead_waits {off : Nat} {o : NorOp} (hsz : off < s.nor.size) (heinc : s.nor.einc = []) (hops : s.nor.ops = [o])
    (hcov : o.covers off = true) : s.doWindowRead off = s.setOps [{ o with reads := o.reads ++ [off] }] := by
  rw [State.doWindowRead, if_neg (by simp [heinc]; omega), if_pos (by simp [hops, hcov]), hops, List.map_singleton, if_pos hcov]

/-- Settles O55: a write of the window goes by the step of the sequence that is open. -/
theorem windowSequences : Obligations.WindowSequences := by
  unfold Obligations.WindowSequences
  refine ⟨?opens, ?ignored, ?foreign, ?badOwner, ?ownerGoesOn, ?second, ?third, ?short, ?erase, ?program, ?timesOut, ?timesNone, ?abandons,
    ?abortNone, ?aborts, ?readShown, ?readWaits, ?readsOnes⟩
  case opens =>
    intro s src hs hw
    refine (State.windowWrite_acts hs src 0xA00 0x4B42#32 true).trans (congrArg _ ?_)
    rw [State.doWindowWrite_idle hw, if_pos ⟨rfl, rfl, rfl⟩, State.setWin]
  case ignored =>
    intro s src off v ok hs hw hno
    refine (State.windowWrite_acts hs src off v ok).trans (congrArg _ ?_)
    rw [State.doWindowWrite_idle hw, if_neg]
    rintro ⟨hok, hoff, hv⟩
    simp [hok, hoff, hv] at hno
  case foreign =>
    intro s src off v ok q hs hw hsrc
    refine (State.windowWrite_acts hs src off v ok).trans (congrArg _ ?_)
    rw [State.doWindowWrite_open hw, if_pos hsrc]
  case badOwner =>
    intro s off v q hs hw
    refine (State.windowWrite_acts hs q.src off v false).trans (congrArg _ ?_)
    rw [State.doWindowWrite_open hw, if_neg (by simp), if_pos (by simp)]
  case ownerGoesOn =>
    intro s off v q hs hw
    refine (State.windowWrite_acts hs q.src off v true).trans (congrArg _ ?_)
    rw [State.doWindowWrite_open hw, if_neg (by simp), if_neg (by simp)]
  case second =>
    intro s q off v hq
    rw [State.winWrite]
    simp only [hq]
  case third =>
    intro s q v hq hv
    rw [State.winWrite]
    simp only [hq, if_pos hv]
    rw [if_neg (by simp)]
  case short =>
    intro s q v hq hv
    have hne : ¬ (v = 0x50#32 ∨ v = 0x60#32) := by rcases hv with rfl | rfl | rfl <;> decide
    rw [State.winWrite]
    simp only [hq, if_pos hv, if_neg hne]
    rw [if_neg (by simp)]
  case erase =>
    intro s q off v hq hc
    rw [State.winWrite]
    simp only [hq, hc]
    rw [if_neg (by decide)]
  case program =>
    intro s q off v hq hc hd
    rw [State.winWrite]
    simp only [hq, hc, hd]
    rw [if_pos True.intro, if_neg (by simp), if_pos (by simp [nextWord])]
    rfl
  case timesOut =>
    intro s q hs hw
    refine (State.core_runs hs fun s => if s.nor.win.isSome then s.abandonWin else s).trans (congrArg _ ?_)
    rw [if_pos (by simp [hw])]
  case timesNone =>
    intro s hs hw
    refine (State.core_runs hs fun s => if s.nor.win.isSome then s.abandonWin else s).trans (congrArg _ ?_)
    rw [if_neg (by simp [hw])]
  case abandons => exact fun s => rfl
  case abortNone =>
    intro s hs hr
    refine (State.core_runs hs State.doNorAbort).trans (congrArg _ ?_)
    rw [State.doNorAbort, State.takeReady, hr, Option.map_none]
  case aborts =>
    intro s q hs hr hc
    refine (State.core_runs hs State.doNorAbort).trans (congrArg _ ?_)
    have hfind : s.nor.ready.find? (fun q => q.code == 0xF0) = some q := by simp [hr, hc]
    rw [State.doNorAbort, State.takeReady, hfind, Option.map_some, hr, List.erase_cons_head]
    rfl
  case readShown =>
    intro s off hs h
    exact (State.core_runs hs (·.doWindowRead off)).trans (congrArg _ (State.doWindowRead_served h))
  case readWaits =>
    intro s off o hs hsz heinc hops hcov
    refine ⟨_, (State.core_runs hs (·.doWindowRead off)).trans (congrArg _ ((State.doWindowRead_waits hsz heinc hops hcov).trans (s.setOps_eq _))),
      rfl, s.showOps_out _ _, (s.showOps_regsKept _).withNor _, (s.showOps_onlyRegs _).withNor _⟩
  case readsOnes =>
    intro n off h
    rw [Nor.byte, if_pos]
    simpa [or_comm] using h

end Sys2Proof.Machine
end

section
set_option Elab.async false
/-! PROOFS. The time unit (R307 to R315): what its operations leave unchanged, and the statements about its inputs and about lock, holdover
and the clocks. -/

namespace Sys2Proof.Machine

variable {s t u : State}

/-! ### The time unit beside its registers -/

/-- The time unit, beside its registers, takes a new state. -/
def State.withClk (s : State) (c : TimeUnit) : State := { s with clk := c }

@[simp] theorem State.withClk_clk (s : State) (c : TimeUnit) : (s.withClk c).clk = c := (rfl)

theorem State.withClk_withClk (s : State) (c d : TimeUnit) : (s.withClk c).withClk d = s.withClk d := (rfl)

theorem State.withClk_setFld (s : State) (c : TimeUnit) (f : Fld) (v : Nat) : (s.withClk c).setFld f v = (s.setFld f v).withClk c := (rfl)

theorem State.withClk_setBit (s : State) (c : TimeUnit) (f : Fld) (b : Bool) : (s.withClk c).setBit f b = (s.setBit f b).withClk c := (rfl)

theorem State.withClk_free (s : State) (c : TimeUnit) : (s.withClk c).free = s.free := (rfl)

@[simp] theorem State.fld_withClk (s : State) (c : TimeUnit) (f : Fld) : (s.withClk c).fld f = s.fld f := State.fld_congr rfl rfl f

@[simp] theorem State.bit_withClk (s : State) (c : TimeUnit) (f : Fld) : (s.withClk c).bit f = s.bit f := by
  rw [State.bit, State.fld_withClk, State.bit]

/-- Only the time unit, the free values taken, registers and what a raise can touch have changed. -/
def State.clkOnly (s t : State) : Prop :=
  t = { s with csr := t.csr, ev := t.ev, out := t.out, peatQ := t.peatQ, clk := t.clk, free := t.free }

theorem State.clkOnly.rfl : s.clkOnly s := by unfold State.clkOnly; cases s; simp

theorem State.clkOnly.trans (h : s.clkOnly t) (k : t.clkOnly u) : s.clkOnly u := by unfold State.clkOnly at *; rw [k, h]

theorem State.sameButEvents.clkOnly (h : s.sameButEvents t) : s.clkOnly t := by
  unfold State.sameButEvents at h
  unfold State.clkOnly
  rw [h]

theorem State.clkOnly.withClk (h : s.clkOnly t) (c : TimeUnit) : s.clkOnly (t.withClk c) := by
  unfold State.clkOnly at h
  rw [h]
  exact Eq.refl _

theorem State.clkOnly.tickFree (h : s.clkOnly t) : s.clkOnly t.tickFree := by
  unfold State.clkOnly at h
  rw [h]
  exact Eq.refl _

theorem State.clkOnly.setFld (h : s.clkOnly t) (f : Fld) (v : Nat) : s.clkOnly (t.setFld f v) := h.trans (t.setFld_sameButEvents f v).clkOnly

theorem State.clkOnly.setBit (h : s.clkOnly t) (f : Fld) (b : Bool) : s.clkOnly (t.setBit f b) := h.setFld f _

theorem State.clkOnly.raise (h : s.clkOnly t) (ev n : Nat) : s.clkOnly (t.raise ev n) := h.trans (t.raise_same ev n).clkOnly

theorem State.clkOnly.same (h : s.clkOnly t) : State.sameButEvents { s with clk := t.clk, free := t.free } t := by
  unfold State.clkOnly at h
  unfold State.sameButEvents
  exact h

theorem State.clkOnly.sameFree (h : s.clkOnly t) (hf : t.free = s.free) : State.sameButEvents { s with clk := t.clk } t := by
  have hs := h.same
  rwa [hf] at hs

/-! ### The unit leaves a source or takes another (R307, R309) -/

/-- What the inputs have told the unit, with time-of-day. -/
def TimeUnit.inputs (c : TimeUnit) : Bool × Nat × Pps × Pps × Nat := (c.announced, c.exchanges, c.pps0, c.pps1, c.tod)

/-- What the end of LOCKED can change of the unit. -/
def TimeUnit.leftLock (c d : TimeUnit) : Prop := d = { c with u0Sum := d.u0Sum, u0Count := d.u0Count, offsets := d.offsets }

theorem State.leaveLocked_eq (s : State) : ∃ c, s.leaveLocked = s.withClk c ∧ s.clk.leftLock c := by
  rw [State.leaveLocked]
  split
  · exact ⟨_, rfl, rfl⟩
  · exact ⟨s.clk, rfl, rfl⟩

/-- The registers that say that a source is followed. -/
def State.lockRegs (s : State) (src : Nat) : State :=
  ((((s.setFld F.TIME_STATUS_source src).setFld F.TIME_STATUS_state locking).setFld F.TIME_HOLD_AGE_value 0).setFld F.TIME_UNCERT_value 0).setBit
    F.TIME_STATUS_in_spec false

theorem State.enterLocking_eq (s : State) (src : Nat) : ∃ c, s.enterLocking src = (s.lockRegs src).withClk c ∧ s.clk.leftLock c := by
  obtain ⟨c, hc, hleft⟩ := s.leaveLocked_eq
  refine ⟨c, ?_, hleft⟩
  rw [State.enterLocking]
  simp only [hc, State.withClk_setFld, State.withClk_setBit, State.lockRegs]

theorem State.enterLocking_inputs (s : State) (src : Nat) : (s.enterLocking src).clk.inputs = s.clk.inputs := by
  obtain ⟨c, hc, hleft⟩ := s.enterLocking_eq src
  rw [hc, State.withClk_clk, hleft, TimeUnit.inputs, TimeUnit.inputs]

theorem State.lockRegs_clkOnly (s : State) (src : Nat) : s.clkOnly (s.lockRegs src) :=
  ((((State.clkOnly.rfl.setFld _ _).setFld _ _).setFld _ _).setFld _ _).setBit _ _

theorem State.enterLocking_clkOnly (s : State) (src : Nat) : s.clkOnly (s.enterLocking src) := by
  obtain ⟨c, hc, -⟩ := s.enterLocking_eq src
  rw [hc]
  exact (s.lockRegs_clkOnly src).withClk c

theorem State.enterLocking_source (s : State) {src : Nat} (h : src < 4) : (s.enterLocking src).fld F.TIME_STATUS_source = src := by
  obtain ⟨c, hc, -⟩ := s.enterLocking_eq src
  rw [hc, State.fld_withClk, State.lockRegs, State.fld_setBit_ne _ _ (by decide) (by decide) (by decide),
    State.fld_setFld_ne _ _ (by decide) (by decide) (by decide), State.fld_setFld_ne _ _ (by decide) (by decide) (by decide),
    State.fld_setFld_ne _ _ (by decide) (by decide) (by decide), State.fld_setFld_of_lt _ _ h (by decide) (by decide)]

/-- A register that says nothing of the source followed is kept. -/
theorem State.fld_enterLocking (s : State) (src : Nat) {f : Fld}
    (hf : f.off ≠ F.TIME_STATUS_source.off ∧ f.off ≠ F.TIME_HOLD_AGE_value.off ∧ f.off ≠ F.TIME_UNCERT_value.off) :
    (s.enterLocking src).fld f = s.fld f := by
  obtain ⟨c, hc, -⟩ := s.enterLocking_eq src
  obtain ⟨hstat, hage, hunc⟩ := hf
  rw [hc, State.fld_withClk, State.lockRegs, State.fld_setBit_ne (f := F.TIME_STATUS_in_spec) _ _ (by decide) (by decide) (.inl hstat.symm),
    State.fld_setFld_ne _ _ (by decide) (by decide) (.inl hunc.symm), State.fld_setFld_ne _ _ (by decide) (by decide) (.inl hage.symm),
    State.fld_setFld_ne (f := F.TIME_STATUS_state) _ _ (by decide) (by decide) (.inl hstat.symm),
    State.fld_setFld_ne _ _ (by decide) (by decide) (.inl hstat.symm)]

theorem State.enterLocking_stepPending (s : State) (src : Nat) :
    (s.enterLocking src).bit F.TIME_STATUS_step_pending = s.bit F.TIME_STATUS_step_pending := by
  obtain ⟨c, hc, -⟩ := s.enterLocking_eq src
  rw [hc, State.bit_withClk, State.lockRegs, State.bit_setBit_ne _ _ (by decide) (by decide) (by decide),
    State.bit_setFld_ne _ _ (by decide) (by decide) (by decide), State.bit_setFld_ne _ _ (by decide) (by decide) (by decide),
    State.bit_setFld_ne _ _ (by decide) (by decide) (by decide), State.bit_setFld_ne _ _ (by decide) (by decide) (by decide)]

/-- The unit follows nothing any more: the registers of it. -/
def State.freeRegs (s : State) : State := (s.setBit F.TIME_STATUS_step_pending false).setFld F.TIME_STATUS_source 0

theorem State.runFree_eq (s : State) : s.runFree = s.freeRegs.withClk { s.clk with slew := 0, step := none, band := none } := by
  have hshape : s.runFree = ((s.withClk { s.clk with slew := 0, step := none, band := none }).setBit F.TIME_STATUS_step_pending false).setFld
      F.TIME_STATUS_source 0 := rfl
  rw [hshape, State.withClk_setBit, State.withClk_setFld, State.freeRegs]

theorem State.freeRegs_source (s : State) : s.freeRegs.fld F.TIME_STATUS_source = 0 :=
  State.fld_setFld_of_lt _ _ (by decide) (by decide) (by decide)

theorem State.freeRegs_clkOnly (s : State) : s.clkOnly s.freeRegs := (State.clkOnly.rfl.setBit _ _).setFld _ _

theorem State.runFree_inputs (s : State) : s.runFree.clk.inputs = s.clk.inputs := by
  rw [s.runFree_eq, State.withClk_clk, TimeUnit.inputs, TimeUnit.inputs]

theorem State.runFree_source (s : State) : s.runFree.fld F.TIME_STATUS_source = 0 := by
  rw [s.runFree_eq, State.fld_withClk, s.freeRegs_source]

theorem State.runFree_clkOnly (s : State) : s.clkOnly s.runFree := by
  rw [s.runFree_eq]
  exact s.freeRegs_clkOnly.withClk _

/-- The holdover registers at an age, their uncertainty rounded one way or the other. -/
theorem State.showUncert_eq (s : State) (n : Nat) : ∃ v, s.showUncert n =
    ((s.tickFree.setFld F.TIME_HOLD_AGE_value n).setFld F.TIME_UNCERT_value v).setBit F.TIME_STATUS_in_spec
      (decide ((s.uncert n).1 ≤ s.fld F.TIME_HOLD_CFG_limit * 10 * (s.uncert n).2)) := ⟨_, rfl⟩

theorem State.showUncert_clk (s : State) (n : Nat) : (s.showUncert n).clk = s.clk := by
  obtain ⟨v, hv⟩ := s.showUncert_eq n
  rw [hv, State.setBit_clk, State.setFld_clk, State.setFld_clk, State.tickFree]

theorem State.showUncert_source (s : State) (n : Nat) : (s.showUncert n).fld F.TIME_STATUS_source = s.fld F.TIME_STATUS_source := by
  obtain ⟨v, hv⟩ := s.showUncert_eq n
  rw [hv, State.fld_setBit_ne _ _ (by decide) (by decide) (by decide), State.fld_setFld_ne _ _ (by decide) (by decide) (by decide),
    State.fld_setFld_ne _ _ (by decide) (by decide) (by decide)]
  exact State.fld_congr rfl rfl _

theorem State.showUncert_clkOnly (s : State) (n : Nat) : s.clkOnly (s.showUncert n) := by
  obtain ⟨v, hv⟩ := s.showUncert_eq n
  rw [hv]
  exact ((State.clkOnly.rfl.tickFree.setFld _ _).setFld _ _).setBit _ _

theorem State.leaveLocked_inputs (s : State) : s.leaveLocked.clk.inputs = s.clk.inputs := by
  obtain ⟨c, hc, hleft⟩ := s.leaveLocked_eq
  rw [hc, State.withClk_clk, hleft, TimeUnit.inputs, TimeUnit.inputs]

theorem State.leaveLocked_clkOnly (s : State) : s.clkOnly s.leaveLocked := by
  obtain ⟨c, hc, -⟩ := s.leaveLocked_eq
  rw [hc]
  exact State.clkOnly.rfl.withClk c

theorem State.enterHoldover_eq (s : State) :
    s.enterHoldover = ((s.leaveLocked.runFree.setFld F.TIME_STATUS_state holdover).showUncert 0).raise Ev.TIME_HOLDOVER := (rfl)

theorem State.enterHoldover_inputs (s : State) : s.enterHoldover.clk.inputs = s.clk.inputs := by
  rw [s.enterHoldover_eq, State.raise_clk, State.showUncert_clk, State.setFld_clk, State.runFree_inputs, State.leaveLocked_inputs]

theorem State.enterHoldover_source (s : State) : s.enterHoldover.fld F.TIME_STATUS_source = 0 := by
  rw [s.enterHoldover_eq, State.fld_raise _ _ _ (by decide) (by decide) (by decide) (by decide), State.showUncert_source,
    State.fld_setFld_ne _ _ (by decide) (by decide) (by decide), State.runFree_source]

theorem State.enterHoldover_clkOnly (s : State) : s.clkOnly s.enterHoldover := by
  rw [s.enterHoldover_eq]
  exact (((s.leaveLocked_clkOnly.trans s.leaveLocked.runFree_clkOnly).setFld _ _).trans (State.showUncert_clkOnly _ 0)).raise _ _

theorem State.bestSrc_lt (s : State) : s.bestSrc < 4 := by
  rw [State.bestSrc]
  split_ifs <;> decide

/-- The best source is one that is ready. -/
theorem State.srcReady_bestSrc (s : State) (h : s.bestSrc ≠ 0) : s.srcReady s.bestSrc = true := by
  revert h
  rw [State.bestSrc]
  split_ifs with h1 h2 h3 <;> simp_all

theorem State.dropSrc_inputs (s : State) : s.dropSrc.clk.inputs = s.clk.inputs := by
  simp only [State.dropSrc]
  split_ifs
  · rfl
  · exact s.enterLocking_inputs _
  · exact s.enterHoldover_inputs
  · rw [State.setFld_clk, State.runFree_inputs]

theorem State.dropSrc_clkOnly (s : State) : s.clkOnly s.dropSrc := by
  simp only [State.dropSrc]
  split_ifs
  · exact .rfl
  · exact s.enterLocking_clkOnly _
  · exact s.enterHoldover_clkOnly
  · exact s.runFree_clkOnly.setFld _ _

/-- A source that is not ready is followed no longer. -/
theorem State.dropSrc_source (s : State) {n : Nat} (hn : n ≠ 0) (h : s.srcReady n = false) : s.dropSrc.fld F.TIME_STATUS_source ≠ n := by
  simp only [State.dropSrc]
  split_ifs with hkept hbest
  · rintro rfl
    exact hkept.elim hn (by simp [h])
  · rw [State.enterLocking_source _ s.bestSrc_lt]
    rintro rfl
    exact absurd (s.srcReady_bestSrc hbest) (by simp [h])
  · rw [State.enterHoldover_source]
    exact hn.symm
  · rw [State.fld_setFld_ne _ _ (by decide) (by decide) (by decide), State.runFree_source]
    exact hn.symm

/-! ### The offset of a source (R307, R311) -/

/-- The unit notes whether an offset lies in the lock band. -/
def TimeUnit.noted (c : TimeUnit) (mrt : Nat) (off : Int) : TimeUnit :=
  { c with band := if off.natAbs ≤ 100 then some (c.band.getD mrt) else none }

/-- The registers of an offset. -/
def State.offsetRegs (s : State) (off : Int) : State := s.setPair F.TIME_OFFSET_LO_value F.TIME_OFFSET_HI_value (ofSigned 64 off)

/-- The unit that slews an offset from now on. -/
def State.slewing (s : State) (off : Int) : State :=
  (((s.offsetRegs off).noteBand off).withClk { ((s.offsetRegs off).noteBand off).clk with slew := off, step := none }).setBit
    F.TIME_STATUS_step_pending false

/-- The unit that is to step by an offset. -/
def State.stepping (s : State) (off : Int) : State :=
  ((s.offsetRegs off).noteBand off).withClk { ((s.offsetRegs off).noteBand off).clk with step := some off, slew := 0 }

theorem State.noteBand_eq (s : State) (off : Int) : s.noteBand off = s.withClk (s.clk.noted s.mrt off) := (rfl)

theorem State.offsetRegs_clk (s : State) (off : Int) : (s.offsetRegs off).clk = s.clk := by
  rw [State.offsetRegs, State.setPair, State.setFld_clk, State.setFld_clk]

theorem State.offsetRegs_mrt (s : State) (off : Int) : (s.offsetRegs off).mrt = s.mrt := by
  rw [State.mrt, State.offsetRegs, State.setPair, State.setFld_mrtQ, State.setFld_mrtQ, State.mrt]

theorem State.slewing_eq (s : State) (off : Int) : s.slewing off =
    ((s.offsetRegs off).setBit F.TIME_STATUS_step_pending false).withClk { s.clk.noted s.mrt off with slew := off, step := none } := by
  rw [State.slewing, State.noteBand_eq, State.withClk_clk, State.withClk_withClk, State.withClk_setBit, s.offsetRegs_clk, s.offsetRegs_mrt]

theorem State.stepping_eq (s : State) (off : Int) : s.stepping off =
    (s.offsetRegs off).withClk { s.clk.noted s.mrt off with step := some off, slew := 0 } := by
  rw [State.stepping, State.noteBand_eq, State.withClk_clk, State.withClk_withClk, s.offsetRegs_clk, s.offsetRegs_mrt]

/-- An offset up to 1 ms is slewed: kept among those of LOCKED, or noted in LOCKING, or the unit takes its source. -/
theorem State.measure_slews (s : State) (src : Nat) {off : Int} (h : off.natAbs ≤ 1000000) : s.measure src off =
    if (s.slewing off).fld F.TIME_STATUS_state = locked ∧ (s.slewing off).fld F.TIME_STATUS_source = src ∧ off.natAbs ≤ 100 then
      (s.slewing off).withClk { (s.slewing off).clk with offsets := (s.slewing off).clk.offsets ++ [((s.slewing off).mrt, off)] }
    else if (s.slewing off).fld F.TIME_STATUS_state = locking ∧ (s.slewing off).fld F.TIME_STATUS_source = src then s.slewing off
    else (s.slewing off).enterLocking src := by
  rw [State.measure]
  exact if_pos h

/-- One above 1 ms waits for a step. -/
theorem State.measure_steps (s : State) (src : Nat) {off : Int} (h : ¬ off.natAbs ≤ 1000000) : s.measure src off =
    if (s.stepping off).bit F.TIME_CTRL_step_allow then (s.stepping off).enterLocking src
    else if (s.stepping off).bit F.TIME_STATUS_step_pending then s.stepping off
    else ((s.stepping off).setBit F.TIME_STATUS_step_pending true).raise Ev.TIME_STEP_PENDING := by
  rw [State.measure]
  exact if_neg h

/-- What is kept of a state over every measurement: its frame, its inputs and its free values. -/
def State.inputsKept (s t : State) : Prop := s.clkOnly t ∧ t.clk.inputs = s.clk.inputs ∧ t.free = s.free

theorem State.inputsKept.trans (h : s.inputsKept t) (k : t.inputsKept u) : s.inputsKept u :=
  ⟨h.1.trans k.1, k.2.1.trans h.2.1, k.2.2.trans h.2.2⟩

theorem State.inputsKept.setBit (h : s.inputsKept t) (f : Fld) (b : Bool) : s.inputsKept (t.setBit f b) := by
  obtain ⟨hf, hi, hfree⟩ := h
  exact ⟨hf.setBit f b, by rwa [State.setBit_clk], by rwa [State.setBit_free]⟩

theorem State.inputsKept.raise (h : s.inputsKept t) (ev n : Nat) : s.inputsKept (t.raise ev n) := by
  obtain ⟨hf, hi, hfree⟩ := h
  exact ⟨hf.raise ev n, by rwa [State.raise_clk], by rwa [State.raise_free]⟩

theorem State.inputsKept.withClk (h : s.inputsKept t) {c : TimeUnit} (hc : c.inputs = s.clk.inputs) : s.inputsKept (t.withClk c) :=
  ⟨h.1.withClk c, by rwa [State.withClk_clk], h.2.2⟩

theorem State.offsetRegs_kept (s : State) (off : Int) : s.inputsKept (s.offsetRegs off) :=
  ⟨(State.clkOnly.rfl.setFld _ _).setFld _ _, by rw [s.offsetRegs_clk],
    by rw [State.offsetRegs, State.setPair, State.setFld_free, State.setFld_free]⟩

theorem State.slewing_kept (s : State) (off : Int) : s.inputsKept (s.slewing off) := by
  rw [s.slewing_eq]
  exact ((s.offsetRegs_kept off).setBit _ _).withClk rfl

theorem State.stepping_kept (s : State) (off : Int) : s.inputsKept (s.stepping off) := by
  rw [s.stepping_eq]
  exact (s.offsetRegs_kept off).withClk rfl

theorem State.enterLocking_kept (s : State) (src : Nat) : s.inputsKept (s.enterLocking src) := by
  refine ⟨s.enterLocking_clkOnly src, s.enterLocking_inputs src, ?_⟩
  obtain ⟨c, hc, -⟩ := s.enterLocking_eq src
  rw [hc]
  rw [State.withClk_free, State.lockRegs, State.setBit_free, State.setFld_free, State.setFld_free, State.setFld_free, State.setFld_free]

theorem State.measure_kept (s : State) (src : Nat) (off : Int) : s.inputsKept (s.measure src off) := by
  by_cases h : off.natAbs ≤ 1000000
  · have hk := s.slewing_kept off
    rw [s.measure_slews src h]
    split_ifs
    · exact hk.withClk hk.2.1
    · exact hk
    · exact hk.trans (State.enterLocking_kept _ src)
  · have hk := s.stepping_kept off
    rw [s.measure_steps src h]
    split_ifs
    · exact hk.trans (State.enterLocking_kept _ src)
    · exact hk
    · exact (hk.setBit _ _).raise _ _

theorem State.offsetFrom_kept (s : State) (src : Nat) (off : Int) : s.inputsKept (s.offsetFrom src off) := by
  rw [State.offsetFrom]
  split
  · exact s.measure_kept src off
  · exact ⟨.rfl, rfl, rfl⟩

theorem State.slewing_pair (s : State) (off : Int) :
    (s.slewing off).pair F.TIME_OFFSET_LO_value F.TIME_OFFSET_HI_value = ofSigned 64 off := by
  have hlt : ofSigned 64 off < 2 ^ 64 := by unfold ofSigned; omega
  rw [s.slewing_eq, State.pair, State.fld_withClk, State.fld_withClk, State.fld_setBit_ne _ _ (by decide) (by decide) (by decide),
    State.fld_setBit_ne _ _ (by decide) (by decide) (by decide), ← State.pair, State.offsetRegs,
    State.pair_setPair _ _ ⟨rfl, rfl⟩ ⟨rfl, rfl⟩ (by decide), Nat.mod_eq_of_lt hlt]

/-- What the unit shows and does of an offset up to 1 ms. -/
def State.slews (t : State) (off : Int) : Prop :=
  t.pair F.TIME_OFFSET_LO_value F.TIME_OFFSET_HI_value = ofSigned 64 off ∧ t.clk.slew = off ∧ t.clk.step = none ∧
  t.bit F.TIME_STATUS_step_pending = false ∧ (t.clk.band.isSome = true ↔ off.natAbs ≤ 100)

theorem State.slewing_slews (s : State) (off : Int) : (s.slewing off).slews off := by
  have hclk : (s.slewing off).clk = { s.clk.noted s.mrt off with slew := off, step := none } := by rw [s.slewing_eq, State.withClk_clk]
  refine ⟨s.slewing_pair off, by rw [hclk], by rw [hclk], ?_, ?_⟩
  · rw [s.slewing_eq, State.bit_withClk, State.bit_setBit_eq _ _ (by decide) (by decide)]
  · rw [hclk, TimeUnit.noted]
    split <;> simp_all

theorem State.slews.enterLocking {off : Int} (h : s.slews off) (src : Nat) : (s.enterLocking src).slews off := by
  obtain ⟨hpair, hslew, hstep, hpend, hband⟩ := h
  obtain ⟨c, hc, hleft⟩ := s.enterLocking_eq src
  have hclk : (s.enterLocking src).clk = c := by rw [hc, State.withClk_clk]
  refine ⟨?_, ?_, ?_, (s.enterLocking_stepPending src).trans hpend, ?_⟩
  · rw [State.pair, s.fld_enterLocking src (by decide), s.fld_enterLocking src (by decide), ← State.pair, hpair]
  · rw [hclk, hleft, hslew]
  · rw [hclk, hleft, hstep]
  · rw [hclk, hleft, hband]

theorem State.measure_slewing (s : State) (src : Nat) {off : Int} (h : off.natAbs ≤ 1000000) : (s.measure src off).slews off := by
  have hs := s.slewing_slews off
  rw [s.measure_slews src h]
  split_ifs
  · obtain ⟨hpair, hrest⟩ := hs
    exact ⟨by rw [State.pair, State.fld_withClk, State.fld_withClk, ← State.pair, hpair], by rw [State.withClk_clk, State.bit_withClk]; exact hrest⟩
  · exact hs
  · exact hs.enterLocking src

/-! ### The inputs (R307, R308) -/

@[simp] theorem TimeUnit.pps_setPps (s : State) (n : Fin 2) (p : Pps) : (s.setPps n p).clk.pps n = p := by
  match n with
  | 0 => rfl
  | 1 => rfl

theorem TimeUnit.pps_setPps_other (s : State) (n : Fin 2) (p : Pps) : (s.setPps n p).clk.pps (1 - n.val) = s.clk.pps (1 - n.val) := by
  match n with
  | 0 => rfl
  | 1 => rfl

theorem State.setPps_clkOnly (s : State) (n : Nat) (p : Pps) : s.clkOnly (s.setPps n p) := State.clkOnly.rfl.withClk _

theorem State.setPps_tod (s : State) (n : Nat) (p : Pps) : (s.setPps n p).clk.tod = s.clk.tod := by
  rw [State.setPps]
  dsimp only
  split <;> rfl

/-- A PPS input that names no second is not ready. -/
theorem State.srcReady_setPps (s : State) (n : Fin 2) : (s.setPps n {}).srcReady (n.val + 2) = false := by
  match n with
  | 0 => exact Bool.and_false _
  | 1 => exact Bool.and_false _

theorem TimeUnit.pps_congr {c d : TimeUnit} (h : d.inputs = c.inputs) (n : Nat) : d.pps n = c.pps n := by
  simp only [TimeUnit.inputs, Prod.mk.injEq] at h
  obtain ⟨-, -, h0, h1, -⟩ := h
  rw [TimeUnit.pps, TimeUnit.pps, h0, h1]

theorem TimeUnit.tod_congr {c d : TimeUnit} (h : d.inputs = c.inputs) : d.tod = c.tod := congrArg (·.2.2.2.2) h

theorem TimeUnit.exchanges_congr {c d : TimeUnit} (h : d.inputs = c.inputs) : d.exchanges = c.exchanges := congrArg (·.2.1) h

theorem TimeUnit.announced_congr {c d : TimeUnit} (h : d.inputs = c.inputs) : d.announced = c.announced := congrArg (·.1) h

theorem State.ptpReceive_passes {lport : Nat} {m : PtpMsg} {prot : Bool} (h : s.ptpPasses lport prot = true) :
    s.ptpReceive lport m prot = doPtpMessageReceive lport m s := by rw [State.ptpReceive, if_pos h]

/-- Settles O7: a message, an edge or a loss changes what its input has told, and the unit then measures or leaves its source. -/
theorem timeInputs : Obligations.TimeInputs := by
  unfold Obligations.TimeInputs
  refine ⟨?announce, ?exchange, ?otherPort, ?unprotected, ?lost, ?setTime, ?setTimeFar, ?edgeNone, ?edge, ?missing⟩
  case announce =>
    intro s lport prot hs hp hl hpresent
    refine (State.core_runs hs (·.ptpReceive lport.val (.announce true) prot)).trans (congrArg _ ?_)
    rw [State.ptpReceive_passes hp, doPtpMessageReceive, if_neg (by simp [hl, hpresent])]
    rfl
  case exchange =>
    intro s lport off prot hs hp hl hpresent
    have hkept := ({ s with clk := { s.clk with exchanges := Nat.min 16 (s.clk.exchanges + 1) } } : State).offsetFrom_kept 1 off
    refine ⟨({ s with clk := { s.clk with exchanges := Nat.min 16 (s.clk.exchanges + 1) } } : State).offsetFrom 1 off,
      (State.core_runs hs (·.ptpReceive lport.val (.exchange off) prot)).trans (congrArg _ ?_), TimeUnit.exchanges_congr hkept.2.1,
      (TimeUnit.tod_congr hkept.2.1).trans rfl, ?_, ?_⟩
    · rw [State.ptpReceive_passes hp, doPtpMessageReceive, if_neg (by simp [hl, hpresent])]
    · intro hbest hoff
      rw [State.offsetFrom, if_pos hbest]
      exact State.measure_slewing _ 1 hoff
    · exact ((State.clkOnly.rfl.withClk _).trans hkept.1).sameFree hkept.2.2
  case otherPort =>
    intro s lport m prot hs hp hl
    refine (State.core_runs hs (·.ptpReceive lport.val m prot)).trans (congrArg _ ?_)
    rw [State.ptpReceive_passes hp, doPtpMessageReceive.eq_def, if_pos (.inl hl)]
  case unprotected =>
    intro s lport m prot hs hp
    refine (State.core_runs hs (·.ptpReceive lport.val m prot)).trans (congrArg _ ?_)
    rw [State.ptpReceive, if_neg (by simp [hp])]
  case lost =>
    intro s hs
    have hin := ({ s with clk := { s.clk with announced := false, exchanges := 0 } } : State).dropSrc_inputs
    refine ⟨_, State.core_runs hs doPtpSourceLost, TimeUnit.announced_congr hin, TimeUnit.exchanges_congr hin,
      State.dropSrc_source _ (by decide) ?_, (TimeUnit.tod_congr hin).trans rfl, ((State.clkOnly.rfl.withClk _).trans (State.dropSrc_clkOnly _)).same⟩
    exact Bool.and_false _
  case setTime =>
    intro s h n second hs hsec
    refine (State.start_starts hs (doSetTime h n.val second)).trans (congrArg _ ?_)
    rw [doSetTime, if_pos hsec]
  case setTimeFar =>
    intro s h n second hs hsec
    refine (State.start_starts hs (doSetTime h n.val second)).trans (congrArg _ ?_)
    rw [doSetTime, if_neg (by omega)]
  case edgeNone =>
    intro s n err hs hn
    refine (State.core_runs hs (doPpsInEdge n.val err)).trans (congrArg _ ?_)
    rw [doPpsInEdge, hn]
  case edge =>
    intro s n err sec hs hn
    have hkept := (s.setPps n ⟨some (sec + 1), if (s.clk.pps n).good = 4 then 4 else if err.natAbs ≤ 1000 then (s.clk.pps n).good + 1 else 0⟩).offsetFrom_kept
      (n.val + 2) ((sec * 1000000000 : Nat) - (s.clk.tod : Int))
    have heq : doPpsInEdge n.val err s = (s.setPps n ⟨some (sec + 1), if (s.clk.pps n).good = 4 then 4 else if err.natAbs ≤ 1000 then
        (s.clk.pps n).good + 1 else 0⟩).offsetFrom (n.val + 2) ((sec * 1000000000 : Nat) - (s.clk.tod : Int)) := by
      rw [doPpsInEdge]
      simp only [hn]
    refine ⟨_, (State.core_runs hs (doPpsInEdge n.val err)).trans (congrArg _ heq), ?_, ?_, ?_, ?_⟩
    · exact (TimeUnit.pps_congr hkept.2.1 n).trans (TimeUnit.pps_setPps s n _)
    · exact (TimeUnit.pps_congr hkept.2.1 _).trans (TimeUnit.pps_setPps_other s n _)
    · exact (TimeUnit.tod_congr hkept.2.1).trans (s.setPps_tod n _)
    · exact ((s.setPps_clkOnly n _).trans hkept.1).sameFree hkept.2.2
  case missing =>
    intro s n hs
    have hin := (s.setPps n {}).dropSrc_inputs
    exact ⟨_, State.core_runs hs (doPpsInMissing n.val), (TimeUnit.pps_congr hin n).trans (TimeUnit.pps_setPps s n {}),
      (TimeUnit.pps_congr hin _).trans (TimeUnit.pps_setPps_other s n {}), State.dropSrc_source _ (by omega) (s.srcReady_setPps n),
      (TimeUnit.tod_congr hin).trans (s.setPps_tod n {}), ((s.setPps_clkOnly n {}).trans (State.dropSrc_clkOnly _)).same⟩

end Sys2Proof.Machine
end

section
set_option Elab.async false
/-! PROOFS. Lock, holdover, the commit clock and the pulses (R309 to R315): the statement about them. -/

namespace Sys2Proof.Machine

variable {s t u : State}

theorem State.clkOnly.mode (h : s.clkOnly t) : t.mode = s.mode := by
  unfold State.clkOnly at h
  rw [h]

theorem State.clkOnly.part (h : s.clkOnly t) : t.part = s.part := by
  unfold State.clkOnly at h
  rw [h]

/-- An event that is not of a fused unit is pending once it has been raised outside RESET. -/
theorem State.pended_raise_unfused (s : State) {ev : Nat} (hev : ev < 384) (hm : s.mode ≠ .reset) (inst : Nat) : (s.raise ev inst).pended ev = true := by
  refine State.pended_raise _ _ _ (by omega) hm ?_
  rw [State.fusedEvent]
  cases s.part
  · rfl
  · simp only [Bool.or_eq_false_iff, Bool.and_eq_false_iff, decide_eq_false_iff_not]
    exact ⟨.inl (by omega), .inl (by omega)⟩

/-! ### The commit clock (R313) -/

theorem State.commit_congr (ht : t.clk.tod = s.clk.tod) (hh : t.clk.held = s.clk.held) : t.commit = s.commit := by
  rw [State.commit, State.commit, ht, hh]

theorem State.commit_lt (s : State) : s.commit < 2 ^ 64 := Nat.mod_lt _ (by decide)

theorem State.commit_held {v : Nat} (h : s.clk.held = some v) : s.commit = v % 2 ^ 64 := by rw [State.commit, h]

theorem State.commit_running (h : s.clk.held = none) : s.commit = s.clk.tod % 2 ^ 64 := by rw [State.commit, h]

/-- Beside events, only the held value and its bit have changed. -/
def State.heldOnly (s t : State) : Prop :=
  s.clkOnly t ∧ t.free = s.free ∧ t.clk = { s.clk with held := t.clk.held } ∧ ∀ f : Fld, f.off = F.TIME_CTRL_step_allow.off → t.fld f = s.fld f

theorem State.heldOnly.refl (s : State) : s.heldOnly s := ⟨.rfl, rfl, rfl, fun _ _ => rfl⟩

theorem State.heldOnly.raise (h : s.heldOnly t) (ev n : Nat) (hev : ev < 640) : s.heldOnly (t.raise ev n) := by
  obtain ⟨hf, hfree, hclk, hfld⟩ := h
  refine ⟨hf.raise ev n, by rwa [State.raise_free], by rw [State.raise_clk]; exact hclk, fun f hoff => ?_⟩
  rw [State.fld_raise _ _ _ hev (by rw [hoff]; decide) (by rw [hoff]; decide) (by rw [hoff]; decide), hfld f hoff]

/-- The commit clock held at a value, or running again, as its status shows. -/
def State.withHeld (s : State) (h : Option Nat) : State := (s.setBit F.TIME_STATUS_commit_held h.isSome).withClk { s.clk with held := h }

theorem State.withHeld_heldOnly (s : State) (h : Option Nat) : s.heldOnly (s.withHeld h) := by
  refine ⟨(State.clkOnly.rfl.setBit _ _).withClk _, by rw [State.withHeld, State.withClk_free, State.setBit_free], rfl, fun f hoff => ?_⟩
  rw [State.withHeld, State.fld_withClk, State.fld_setBit_ne (f := F.TIME_STATUS_commit_held) _ _ (by decide) (by decide) (.inl (by rw [hoff]; decide))]

theorem State.holdCommit_kept (h : v ≤ s.commit ∧ s.clk.held.isSome) : s.holdCommit v = s := by rw [State.holdCommit, if_pos h]

theorem State.holdCommit_passed (h : v ≤ s.clk.tod) : s.holdCommit v = s := by
  rw [State.holdCommit, if_pos h, ite_self]

theorem State.holdCommit_holds (h : ¬ (v ≤ s.commit ∧ s.clk.held.isSome)) (hv : ¬ v ≤ s.clk.tod) :
    s.holdCommit v = if s.clk.held.isSome then s.withHeld (some v) else (s.withHeld (some v)).raise Ev.TIME_COMMIT_HELD := by
  have hshape : (s.withClk { s.clk with held := some v }).setBit F.TIME_STATUS_commit_held true = s.withHeld (some v) := by
    rw [State.withClk_setBit, State.withHeld, Option.isSome_some]
  rw [← hshape, State.holdCommit, if_neg h, if_neg hv]
  rfl

theorem State.holdCommit_heldOnly (s : State) (v : Nat) : s.heldOnly (s.holdCommit v) := by
  by_cases h : v ≤ s.commit ∧ s.clk.held.isSome
  · rw [State.holdCommit_kept h]
    exact .refl s
  · by_cases hv : v ≤ s.clk.tod
    · rw [State.holdCommit_passed hv]
      exact .refl s
    · rw [State.holdCommit_holds h hv]
      split
      · exact s.withHeld_heldOnly _
      · exact (s.withHeld_heldOnly _).raise _ _ (by decide)

theorem State.releaseCommit_held {v : Nat} (h : s.clk.held = some v) : s.releaseCommit = if v < s.clk.tod then s.withHeld none else s := by
  have hshape : (s.withClk { s.clk with held := none }).setBit F.TIME_STATUS_commit_held false = s.withHeld none := by
    rw [State.withClk_setBit, State.withHeld, Option.isSome_none]
  rw [← hshape, State.releaseCommit]
  simp only [h]
  rfl

theorem State.releaseCommit_running (h : s.clk.held = none) : s.releaseCommit = s := by
  rw [State.releaseCommit]
  simp only [h]

theorem State.releaseCommit_heldOnly (s : State) : s.heldOnly s.releaseCommit := by
  cases h : s.clk.held with
  | none =>
    rw [State.releaseCommit_running h]
    exact .refl s
  | some v =>
    rw [State.releaseCommit_held h]
    split
    · exact s.withHeld_heldOnly _
    · exact .refl s

/-- A clock held where it stood is not taken back by a time-of-day that has stepped back. -/
theorem State.holdCommit_commit {was : Nat} (hheld : t.clk.held = s.clk.held) (hback : t.clk.tod < s.clk.tod) (h64 : s.clk.tod < 2 ^ 64)
    (hwas : was = s.commit) : (t.holdCommit was).commit = s.commit := by
  cases h : s.clk.held with
  | some v =>
    have hcommit : t.commit = s.commit := by rw [State.commit_held h, State.commit_held (hheld.trans h)]
    rw [State.holdCommit_kept ⟨by rw [hwas, hcommit], by rw [hheld, h]; rfl⟩, hcommit]
  | none =>
    have htod : s.commit = s.clk.tod := by rw [State.commit_running h, Nat.mod_eq_of_lt h64]
    have hnone : t.clk.held.isSome = false := by rw [hheld, h]; rfl
    rw [State.holdCommit_holds (by simp [hnone]) (by omega), if_neg (by simp [hnone])]
    rw [State.commit_held (v := was) (by rw [State.raise_clk]; rfl), hwas, Nat.mod_eq_of_lt s.commit_lt]

/-! ### The step at a second (R311) -/

/-- The unit after a step, before it takes a source again. -/
def State.stepped (s : State) (off : Int) : State :=
  (((s.setBit F.TIME_CTRL_step_allow false).setBit F.TIME_STATUS_step_pending false).withClk
    { s.clk with tod := (s.clk.tod + off).toNat, pulseSec := (s.clk.tod + off).toNat / 1000000000, step := none })

theorem State.stepSecond_none (h : s.clk.step = none) : s.stepSecond = s := by
  rw [State.stepSecond]
  simp only [h]

/-- The unit after its commit clock has followed the step. -/
def State.stepCommit (s : State) (off : Int) : State :=
  if off < 0 then (s.stepped off).holdCommit s.commit else (s.stepped off).releaseCommit

theorem State.stepSecond_steps {off : Int} (h : s.clk.step = some off) (ha : s.bit F.TIME_CTRL_step_allow = true) :
    s.stepSecond = if ((s.stepCommit off).raise Ev.TIME_STEPPED).fld F.TIME_STATUS_state = locking ∨ ((s.stepCommit off).raise Ev.TIME_STEPPED).bestSrc = 0
      then (s.stepCommit off).raise Ev.TIME_STEPPED
      else ((s.stepCommit off).raise Ev.TIME_STEPPED).enterLocking ((s.stepCommit off).raise Ev.TIME_STEPPED).bestSrc := by
  have hshape : ((s.withClk { s.clk with tod := (s.clk.tod + off).toNat, pulseSec := (s.clk.tod + off).toNat / 1000000000, step := none }).setBit
      F.TIME_CTRL_step_allow false).setBit F.TIME_STATUS_step_pending false = s.stepped off := by
    rw [State.withClk_setBit, State.withClk_setBit, State.stepped]
  rw [State.stepCommit, ← hshape, State.stepSecond]
  simp only [h, ha]
  rfl

theorem State.stepped_heldOnly (s : State) (off : Int) : (s.stepped off).heldOnly (s.stepCommit off) := by
  rw [State.stepCommit]
  split
  · exact State.holdCommit_heldOnly _ _
  · exact State.releaseCommit_heldOnly _

theorem State.stepped_clkOnly (s : State) (off : Int) : s.clkOnly (s.stepped off) := ((State.clkOnly.rfl.setBit _ _).setBit _ _).withClk _

theorem State.stepped_free (s : State) (off : Int) : (s.stepped off).free = s.free := by
  rw [State.stepped, State.withClk_free, State.setBit_free, State.setBit_free]

theorem State.stepped_allow (s : State) (off : Int) : (s.stepped off).bit F.TIME_CTRL_step_allow = false := by
  rw [State.stepped, State.bit_withClk, State.bit_setBit_ne _ _ (by decide) (by decide) (by decide), State.bit_setBit_eq _ _ (by decide) (by decide)]

/-- What the end of LOCKED can change leaves these of the unit. -/
theorem State.enterLocking_held (s : State) (src : Nat) :
    (s.enterLocking src).clk.tod = s.clk.tod ∧ (s.enterLocking src).clk.held = s.clk.held ∧ (s.enterLocking src).clk.step = s.clk.step := by
  obtain ⟨c, hc, hleft⟩ := s.enterLocking_eq src
  have hclk : (s.enterLocking src).clk = c := by rw [hc, State.withClk_clk]
  rw [hclk, hleft]
  exact ⟨rfl, rfl, rfl⟩

theorem State.pended_enterLocking (s : State) (src : Nat) {ev : Nat} (hev : ev < 640) : (s.enterLocking src).pended ev = s.pended ev := by
  rw [State.pended, s.fld_enterLocking src (by simp only; omega), State.pended]

/-- What a step leaves: the unit at its new time, the permission spent, the event pending. -/
theorem State.stepSecond_facts {off : Int} (h : s.clk.step = some off) (ha : s.bit F.TIME_CTRL_step_allow = true) (hm : s.mode ≠ .reset)
    (h64 : s.clk.tod < 2 ^ 64) (hpos : 0 < s.clk.tod) :
    s.stepSecond.clk.tod = ((s.clk.tod : Int) + off).toNat ∧ s.stepSecond.clk.step = none ∧ s.stepSecond.bit F.TIME_CTRL_step_allow = false ∧
      s.stepSecond.pended Ev.TIME_STEPPED = true ∧ (off < 0 → s.stepSecond.commit = s.commit) ∧ s.clkOnly s.stepSecond ∧
      s.stepSecond.free = s.free := by
  obtain ⟨hframe, hfree, hclk, hfld⟩ := s.stepped_heldOnly off
  have hall := (s.stepped_clkOnly off).trans hframe
  have htod : (s.stepCommit off).clk.tod = ((s.clk.tod : Int) + off).toNat := by rw [hclk]; rfl
  have hstep : (s.stepCommit off).clk.step = none := by rw [hclk]; rfl
  have hallow : (s.stepCommit off).bit F.TIME_CTRL_step_allow = false := by
    rw [State.bit, hfld _ rfl, ← State.bit, s.stepped_allow]
  have hcommit : off < 0 → (s.stepCommit off).commit = s.commit := fun hneg => by
    rw [State.stepCommit, if_pos hneg]
    exact State.holdCommit_commit rfl (show ((s.clk.tod : Int) + off).toNat < s.clk.tod by omega) h64 rfl
  have hraised : ((s.stepCommit off).raise Ev.TIME_STEPPED).pended Ev.TIME_STEPPED = true :=
    State.pended_raise_unfused _ (by decide) (by rwa [hall.mode]) 0
  have hbit : ((s.stepCommit off).raise Ev.TIME_STEPPED).bit F.TIME_CTRL_step_allow = false := by
    rw [State.bit_raise _ _ _ (by decide) (by decide) (by decide) (by decide), hallow]
  rw [State.stepSecond_steps h ha]
  have hcm : ((s.stepCommit off).raise Ev.TIME_STEPPED).commit = (s.stepCommit off).commit :=
    State.commit_congr (by rw [State.raise_clk]) (by rw [State.raise_clk])
  split_ifs
  · exact ⟨by rw [State.raise_clk, htod], by rw [State.raise_clk, hstep], hbit, hraised, fun hneg => hcm.trans (hcommit hneg),
      hall.raise _ _, by rw [State.raise_free, hfree, s.stepped_free]⟩
  · obtain ⟨ltod, lheld, lstep⟩ := ((s.stepCommit off).raise Ev.TIME_STEPPED).enterLocking_held ((s.stepCommit off).raise Ev.TIME_STEPPED).bestSrc
    have lkept := State.enterLocking_kept ((s.stepCommit off).raise Ev.TIME_STEPPED) ((s.stepCommit off).raise Ev.TIME_STEPPED).bestSrc
    refine ⟨by rw [ltod, State.raise_clk, htod], by rw [lstep, State.raise_clk, hstep], ?_, ?_, fun hneg => ?_, (hall.raise _ _).trans lkept.1,
      by rw [lkept.2.2, State.raise_free, hfree, s.stepped_free]⟩
    · rw [State.bit, State.fld_enterLocking _ _ (by decide), ← State.bit, hbit]
    · rw [State.pended_enterLocking _ _ (by decide), hraised]
    · rw [State.commit_congr ltod lheld, hcm, hcommit hneg]

/-! ### Pulses (R312) -/

/-- The pulse of an output, where it is enabled. -/
def State.pulsed (s : State) (n : Nat) : List Out :=
  if s.bit (F.TIME_PPS_CFGn_en n) then
    [.pps n (s.fld (F.TIME_PPS_CFGn_width_ms n)) (s.clk.tod / 1000000000 * 1000000000 + toSigned 20 (s.fld (F.TIME_PPS_CFGn_offset_ns n)))]
  else []

/-- What has left the device, beside the rest. -/
def State.withOut (s : State) (l : List Out) : State := { s with out := l }

theorem State.pulse_eq (s : State) (n : Nat) : State.pulse n s = s.withOut (s.out ++ s.pulsed n) := by
  rw [State.pulse, State.pulsed]
  split
  · rfl
  · rw [List.append_nil]
    rfl

theorem State.fld_withOut (s : State) (l : List Out) (f : Fld) : (s.withOut l).fld f = s.fld f := State.fld_congr rfl rfl f

theorem State.pulsed_withOut (s : State) (l : List Out) (n : Nat) : (s.withOut l).pulsed n = s.pulsed n := by
  rw [State.pulsed, State.bit, State.fld_withOut, State.fld_withOut, State.fld_withOut, State.pulsed, State.bit]
  rfl

theorem State.pulses_eq (s : State) : State.pulse 1 (State.pulse 0 s) = s.withOut (s.out ++ s.pulsed 0 ++ s.pulsed 1) := by
  rw [s.pulse_eq, State.pulse_eq, State.pulsed_withOut]
  rfl

/-- The pulses of the other output are not this one's. -/
theorem State.countP_pulsed (s : State) (n k w : Nat) :
    (s.pulsed k).countP (Out.isPulse n w) =
      if s.bit (F.TIME_PPS_CFGn_en k) = true ∧ k = n ∧ s.fld (F.TIME_PPS_CFGn_width_ms k) = w then 1 else 0 := by
  rw [State.pulsed]
  cases s.bit (F.TIME_PPS_CFGn_en k)
  · rw [if_neg (by decide), if_neg (by simp), List.countP_nil]
  · rw [if_pos rfl, List.countP_singleton]
    simp only [Out.isPulse, Bool.and_eq_true, beq_iff_eq, true_and]

/-- The pulse before lies half a second back. -/
def State.pulseLate (s : State) : Bool :=
  match s.clk.pulseAt with
  | some t => decide (t + 500000000 ≤ s.mrt)
  | none => true

theorem State.pulseLate_of (h : s.clk.pulseAt = none ∨ ∃ p, s.clk.pulseAt = some p ∧ p + 500000000 ≤ s.mrt) : s.pulseLate = true := by
  rw [State.pulseLate]
  obtain hn | ⟨p, hp, hlate⟩ := h
  · simp only [hn]
  · simp only [hp]
    exact decide_eq_true hlate

/-- The unit once the outputs have had their boundary. -/
def State.atSecond (s : State) : State :=
  if s.pulseLate then (s.withOut (s.out ++ s.pulsed 0 ++ s.pulsed 1)).withClk { s.clk with pulseAt := some s.mrt, pulseSec := s.clk.tod / 1000000000 }
  else s.withClk { s.clk with pulseSec := s.clk.tod / 1000000000 }

/-- At a boundary that has had no pulse the outputs pulse, half a second after the pulse before, and then a step is made. -/
theorem doPpsOutPulse_acts (hm : s.mode ≠ .doze) (hsec : s.clk.pulseSec < s.clk.tod / 1000000000) :
    doPpsOutPulse s = s.atSecond.stepSecond := by
  rw [doPpsOutPulse]
  refine (if_neg (not_or.mpr ⟨hm, Nat.not_le.mpr hsec⟩)).trans (congrArg State.stepSecond ?_)
  rw [State.atSecond, ← s.pulses_eq]
  rfl

theorem State.withOut_clkOnly (s : State) (l : List Out) : s.clkOnly (s.withOut l) := by
  unfold State.clkOnly
  rw [State.withOut]

theorem State.atSecond_clkOnly (s : State) : s.clkOnly s.atSecond := by
  rw [State.atSecond]
  split
  · exact (s.withOut_clkOnly _).withClk _
  · exact State.clkOnly.rfl.withClk _

theorem State.atSecond_clk (s : State) :
    s.atSecond.clk.tod = s.clk.tod ∧ s.atSecond.clk.held = s.clk.held ∧ s.atSecond.clk.step = s.clk.step ∧ s.atSecond.free = s.free := by
  rw [State.atSecond]
  split
  · exact ⟨rfl, rfl, rfl, rfl⟩
  · exact ⟨rfl, rfl, rfl, rfl⟩

theorem State.bit_atSecond (s : State) (f : Fld) : s.atSecond.bit f = s.bit f := by
  rw [State.atSecond]
  split
  · rw [State.bit_withClk, State.bit, State.fld_withOut, State.bit]
  · rw [State.bit_withClk]

/-! ### A cycle of the TIME clock (R23) -/

theorem State.age_mrtQ (s : State) (q : Nat) : (s.age q).mrtQ = s.mrtQ + q := by
  rw [State.age]
  split
  · rfl
  · rw [State.wrap, State.setFld_mrtQ]

theorem State.age_clk (s : State) (q : Nat) : (s.age q).clk = s.clk := by
  rw [State.age]
  split
  · rfl
  · rw [State.wrap, State.setFld_clk]

theorem State.releaseCommit_mrtQ (s : State) : s.releaseCommit.mrtQ = s.mrtQ := by
  have h := s.releaseCommit_heldOnly.1
  unfold State.clkOnly at h
  rw [h]

theorem State.releaseCommit_tod (s : State) : s.releaseCommit.clk.tod = s.clk.tod := by rw [s.releaseCommit_heldOnly.2.2.1]

theorem State.pass_unslewed (h : s.clk.slew = 0) : s.pass.mrtQ = s.mrtQ + 16 ∧ s.pass.clk.tod = s.clk.tod + 4 := by
  have hslew : (s.age 16).slewCycle = (0, (s.age 16).withClk { (s.age 16).clk with slewFs := 0 }) := by
    rw [State.slewCycle, if_pos (by rw [s.age_clk, h])]
    rfl
  have heq : s.pass = ((s.age 16).withClk { (s.age 16).clk with slewFs := 0, tod := (((s.age 16).clk.tod : Int) + 4 + 0).toNat }).releaseCommit := by
    rw [State.pass]
    simp only [hslew]
    rfl
  rw [heq, State.releaseCommit_mrtQ, State.releaseCommit_tod, State.withClk_clk]
  exact ⟨s.age_mrtQ 16, by simp only [s.age_clk]; omega⟩

theorem State.tick_passes (hr : s.mode ≠ .reset) (hd : s.mode ≠ .doze) : s.tick = s.pass := by
  rw [State.tick]
  split
  · next h => exact absurd h hr
  · next h => exact absurd h hd
  · rfl

/-! ### The statement -/

theorem State.onlyRegs.withClk (h : s.onlyRegs t) (c : TimeUnit) : t.withClk c = { s with csr := (t.withClk c).csr, clk := c } := by
  unfold State.onlyRegs at h
  rw [h]
  rfl

theorem State.regsKept.withClk {l : List Nat} (h : s.regsKept t l) (c : TimeUnit) : s.regsKept (t.withClk c) l :=
  fun off hl he => by rw [State.withClk]; exact h off hl he

/-- The registers of a snapshot of the clocks. -/
theorem doTimeTodSnapshot_eq (s : State) : doTimeTodSnapshot s =
    (((s.setFld F.TIME_TOD_NS_value (s.clk.tod % 1000000000)).setFld F.TIME_TOD_SEC_LO_value (s.clk.tod / 1000000000)).setFld
      F.TIME_TOD_SEC_HI_value (s.clk.tod / 1000000000 / 2 ^ 32 % 65536)).setPair F.TIME_COMMIT_LO_value F.TIME_COMMIT_HI_value s.commit := by
  have hcommit : (((s.setFld F.TIME_TOD_NS_value (s.clk.tod % 1000000000)).setFld F.TIME_TOD_SEC_LO_value (s.clk.tod / 1000000000)).setFld
      F.TIME_TOD_SEC_HI_value (s.clk.tod / 1000000000 / 2 ^ 32 % 65536)).commit = s.commit :=
    State.commit_congr (by rw [State.setFld_clk, State.setFld_clk, State.setFld_clk]) (by rw [State.setFld_clk, State.setFld_clk, State.setFld_clk])
  rw [← hcommit, doTimeTodSnapshot]

/-- What the holdover registers show at an age. -/
theorem State.showUncert_facts (s : State) {n : Nat} (hn : n < 2 ^ 32) : (s.showUncert n).fld F.TIME_HOLD_AGE_value = n ∧
    ((s.showUncert n).bit F.TIME_STATUS_in_spec = true ↔ (s.uncert n).1 ≤ s.fld F.TIME_HOLD_CFG_limit * 10 * (s.uncert n).2) ∧
    s.regsKept (s.showUncert n) [F.TIME_HOLD_AGE_value.off, F.TIME_UNCERT_value.off, F.TIME_STATUS_in_spec.off] ∧
    (s.showUncert n).free = s.free + 1 := by
  obtain ⟨v, hv⟩ := s.showUncert_eq n
  rw [hv]
  refine ⟨?_, ?_, ?_, ?_⟩
  · rw [State.fld_setBit_ne _ _ (by decide) (by decide) (by decide), State.fld_setFld_ne _ _ (by decide) (by decide) (by decide),
      State.fld_setFld_of_lt _ _ hn (by decide) (by decide)]
  · rw [State.bit_setBit_eq _ _ (by decide) (by decide), decide_eq_true_eq]
  · exact (((State.regsKept_of_csr rfl rfl).setFld (f := F.TIME_HOLD_AGE_value) n (by simp)).setFld (f := F.TIME_UNCERT_value) v (by simp)).setFld
      (f := F.TIME_STATUS_in_spec) _ (by simp)
  · rw [State.setBit_free, State.setFld_free, State.setFld_free, State.tickFree]


/-- Settles O8: each command of the time unit is its definition where it acts, and a cycle adds 4 ns. -/
theorem lockAndClocks : Obligations.LockAndClocks := by
  unfold Obligations.LockAndClocks
  refine ⟨?locks, ?ages, ?releases, ?snapshot, ?pulses, ?steps, ?cycle⟩
  case locks =>
    intro s b hs hst hb hlong
    have hband : s.clk.band.any (fun t => decide (t + 16000000000 ≤ s.mrt)) = true := by
      rw [hb, Option.any_some, decide_eq_true_eq]
      exact hlong
    have heq : doTimeLocked s = (s.setFld F.TIME_STATUS_state locked).withClk { s.clk with wasLocked := true } := by
      rw [← State.withClk_setFld, doTimeLocked, if_pos ⟨hst, hband⟩, State.withClk]
    refine ⟨_, (State.core_runs hs doTimeLocked).trans (congrArg _ heq), ?_, ?_, ?_, ?_⟩
    · rw [State.fld_withClk, State.fld_setFld_of_lt _ _ (by decide) (by decide) (by decide)]
    · rw [State.fld_withClk, State.fld_setFld_ne _ _ (by decide) (by decide) (by decide)]
    · exact (State.regsKept.rfl.setFld (f := F.TIME_STATUS_state) _ (by simp)).withClk _
    · exact (State.onlyRegs.rfl.setFld _ _).withClk _
  case ages =>
    intro s hs hst
    have hn : Nat.min 0xFFFFFFFF (s.fld F.TIME_HOLD_AGE_value + 1) < 2 ^ 32 := Nat.lt_of_le_of_lt (Nat.min_le_left _ _) (by decide)
    obtain ⟨hage, hspec, hregs, hfree⟩ := s.showUncert_facts hn
    have hframe := s.showUncert_clkOnly (Nat.min 0xFFFFFFFF (s.fld F.TIME_HOLD_AGE_value + 1))
    have hclk := s.showUncert_clk (Nat.min 0xFFFFFFFF (s.fld F.TIME_HOLD_AGE_value + 1))
    have heq : doHoldoverUpdate s = if s.bit F.TIME_STATUS_in_spec &&
        !(s.showUncert (Nat.min 0xFFFFFFFF (s.fld F.TIME_HOLD_AGE_value + 1))).bit F.TIME_STATUS_in_spec
        then (s.showUncert (Nat.min 0xFFFFFFFF (s.fld F.TIME_HOLD_AGE_value + 1))).raise Ev.TIME_OUT_OF_SPEC
        else s.showUncert (Nat.min 0xFFFFFFFF (s.fld F.TIME_HOLD_AGE_value + 1)) := by rw [doHoldoverUpdate, if_pos hst]
    refine ⟨_, (State.core_runs hs doHoldoverUpdate).trans (congrArg _ heq), ?_⟩
    generalize s.showUncert (Nat.min 0xFFFFFFFF (s.fld F.TIME_HOLD_AGE_value + 1)) = t at *
    have hsame := hframe.same
    rw [hclk, hfree] at hsame
    split
    · have hbit := t.bit_raise (f := F.TIME_STATUS_in_spec) Ev.TIME_OUT_OF_SPEC 0 (by decide) (by decide) (by decide) (by decide)
      have hfld := t.fld_raise (f := F.TIME_HOLD_AGE_value) Ev.TIME_OUT_OF_SPEC 0 (by decide) (by decide) (by decide) (by decide)
      rw [hbit, hfld, hage]
      exact ⟨rfl, hspec, fun _ _ => State.pended_raise_unfused t (by decide) (by rwa [hframe.mode]) 0, hregs.raise _ _ (by decide), hsame.raise _ _⟩
    · next hkept =>
      rw [hage]
      exact ⟨rfl, hspec, fun hwas hnow => absurd (by rw [hwas, hnow]; rfl) hkept, hregs, hsame⟩
  case releases =>
    intro s v hs hheld hv
    have heq : s.releaseCommit = s.withHeld none := by rw [State.releaseCommit_held hheld, if_pos hv]
    refine ⟨_, (State.core_runs hs State.releaseCommit).trans (congrArg _ heq), State.commit_running rfl, ?_, ?_, ?_⟩
    · rw [State.withHeld, State.bit_withClk, State.bit_setBit_eq _ _ (by decide) (by decide), Option.isSome_none]
    · exact (State.regsKept.rfl.setFld (f := F.TIME_STATUS_commit_held) _ (by simp)).withClk _
    · exact (State.onlyRegs.rfl.setFld _ _).withClk _
  case snapshot =>
    intro s hs
    have hns : s.clk.tod % 1000000000 < 2 ^ 32 := by omega
    refine ⟨_, (State.core_runs hs doTimeTodSnapshot).trans (congrArg _ (doTimeTodSnapshot_eq s)), ?_, ?_, ?_, ?_, ?_⟩
    · rw [State.fld_setPair_ne _ _ (by decide) (by decide) (by decide) (by decide) (by decide) (by decide),
        State.fld_setFld_ne _ _ (by decide) (by decide) (by decide), State.fld_setFld_ne _ _ (by decide) (by decide) (by decide),
        State.fld_setFld_of_lt _ _ hns (by decide) (by decide)]
    · rw [State.fld_setPair_ne _ _ (by decide) (by decide) (by decide) (by decide) (by decide) (by decide),
        State.fld_setFld_ne _ _ (by decide) (by decide) (by decide), State.fld_setFld_eq _ _ (by decide) (by decide)]
      norm_num
    · rw [State.fld_setPair_ne _ _ (by decide) (by decide) (by decide) (by decide) (by decide) (by decide),
        State.fld_setFld_of_lt _ _ (Nat.lt_of_lt_of_le (Nat.mod_lt _ (by decide)) (by decide)) (by decide) (by decide)]
      norm_num
    · rw [State.pair_setPair _ _ ⟨rfl, rfl⟩ ⟨rfl, rfl⟩ (by decide), Nat.mod_eq_of_lt s.commit_lt]
    · exact ((((State.onlyRegs.rfl.setFld _ _).setFld _ _).setFld _ _).setFld _ _).setFld _ _
  case pulses =>
    intro s hs hm hsec hlate hstep
    have heq : doPpsOutPulse s = (s.withOut (s.out ++ s.pulsed 0 ++ s.pulsed 1)).withClk
        { s.clk with pulseAt := some s.mrt, pulseSec := s.clk.tod / 1000000000 } := by
      rw [doPpsOutPulse_acts hm hsec, State.stepSecond_none (by rw [s.atSecond_clk.2.2.1, hstep]), State.atSecond, if_pos (State.pulseLate_of hlate)]
    refine ⟨_, (State.core_runs hs doPpsOutPulse).trans (congrArg _ heq), fun n => ?_, rfl⟩
    change (s.out ++ s.pulsed 0 ++ s.pulsed 1).countP _ = _
    rw [List.countP_append, List.countP_append, s.countP_pulsed, s.countP_pulsed, Nat.add_assoc]
    congr 1
    match n with
    | 0 => simp
    | 1 => simp
  case steps =>
    intro s off hs hm hsec h64 hstep ha
    obtain ⟨htod, hheld, hkstep, hfree⟩ := s.atSecond_clk
    obtain ⟨ftod, fstep, fallow, fpend, fcommit, fframe, ffree⟩ := State.stepSecond_facts (s := s.atSecond) (hkstep.trans hstep)
      ((s.bit_atSecond _).trans ha) (by rwa [s.atSecond_clkOnly.mode]) (by rwa [htod]) (by rw [htod]; omega)
    refine ⟨_, (State.core_runs hs doPpsOutPulse).trans (congrArg _ (doPpsOutPulse_acts hm hsec)), by rw [ftod, htod], fstep, fallow, fpend,
      fun hneg => (fcommit hneg).trans (State.commit_congr htod hheld), (s.atSecond_clkOnly.trans fframe).sameFree (ffree.trans hfree)⟩
  case cycle =>
    intro s hp hr hd hslew
    obtain ⟨hq, htod⟩ := State.pass_unslewed hslew
    refine ⟨s.pass, ?_, hq, htod⟩
    rw [step]
    simp only [hp, State.tick_passes hr hd]

end Sys2Proof.Machine
end

section
set_option Elab.async false
/-! PROOFS. Fuse sequences (R341 to R343, R349): what the end of one leaves burned, and the statement about the lifecycle commands. -/

namespace Sys2Proof.Machine

variable {s t u : State}

/-! ### The fuses after a reset, a write and BRINGUP's steps -/

/-- The queue and the fuses are as they were. -/
def State.fusesKept (s t : State) : Prop := t.pending = s.pending ∧ t.fuses = s.fuses

theorem State.fusesKept.refl (s : State) : s.fusesKept s := ⟨rfl, rfl⟩

theorem State.fusesKept.trans (h : s.fusesKept t) (k : t.fusesKept u) : s.fusesKept u := ⟨k.1.trans h.1, k.2.trans h.2⟩

theorem State.fusesKept_of_fixed (h : t.fixed = s.fixed) : s.fusesKept t := by
  simp only [State.fixed, Prod.mk.injEq] at h
  obtain ⟨hp, -, hf, -⟩ := h
  exact ⟨hp, hf⟩

theorem State.fusesKept.after (h : t.fusesKept u) (ht : t.fixed = s.fixed) : s.fusesKept u := (State.fusesKept_of_fixed ht).trans h

theorem State.fusesKept.andThen (h : s.fusesKept t) (hu : u.fixed = t.fixed) : s.fusesKept u := h.trans (State.fusesKept_of_fixed hu)

theorem State.fusesKept_foldl {α : Type} {f : State → α → State} (hf : ∀ (s : State) a, s.fusesKept (f s a)) (l : List α) (s : State) :
    s.fusesKept (l.foldl f s) := by
  induction l generalizing s with
  | nil => exact .refl s
  | cons a l ih => exact (hf s a).trans (ih _)

theorem State.enterReset_fusesKept (s : State) : s.fusesKept s.enterReset := by
  unfold State.enterReset
  split
  · exact .refl s
  · exact ⟨rfl, rfl⟩

theorem State.removeRails_fusesKept (s : State) (a : AfterOff) : s.fusesKept (s.removeRails a) := by
  unfold State.removeRails
  split
  · exact .refl s
  · refine s.enterReset_fusesKept.andThen ?_
    dsimp only
    split <;> simp

theorem State.resequence_fusesKept (s : State) : s.fusesKept s.resequence := (State.removeRails_fusesKept _ _).after (State.cleanAll_fixed _)

theorem State.doReboot_fusesKept (s : State) (v : Word) : s.fusesKept (s.doReboot v) := by
  unfold State.doReboot
  split
  · exact s.resequence_fusesKept
  · exact .refl s

theorem State.powerFailed_fusesKept (s : State) (planned : Bool) : s.fusesKept (s.powerFailed planned) := by
  unfold State.powerFailed
  split
  · exact .refl s
  · exact s.removeRails_fusesKept _
  · exact s.removeRails_fusesKept _
  · (repeat' split)
    · exact State.fusesKept_of_fixed (by simp)
    · exact State.fusesKept_of_fixed (by simp)
    · exact s.removeRails_fusesKept _
  · exact State.fusesKept_of_fixed (by simp)

theorem State.confirmFail_fusesKept (s : State) (path : Nat) (planned : Bool) : s.fusesKept (s.confirmFail path planned) := by
  unfold State.confirmFail
  split
  · exact .refl s
  · refine (State.powerFailed_fusesKept _ _).after ?_
    split <;> simp

theorem State.distrust_fusesKept (s : State) (p cause : Nat) : s.fusesKept (s.distrust p cause) := by
  unfold State.distrust
  extract_lets a b c
  have hb : b.fixed = s.fixed := by
    simp only [b, a]
    split <;> simp
  have hc : c.fixed = s.fixed := by simp [c, hb]
  (repeat' split)
  · exact State.fusesKept_of_fixed hc
  · exact State.fusesKept_of_fixed (by simp [hc])
  · exact (State.confirmFail_fusesKept _ _ _).after hc
  · exact State.fusesKept_of_fixed hc

theorem State.checkPairs_fusesKept (s : State) (failed : BitVec 4) : s.fusesKept (s.checkPairs failed) := by
  unfold State.checkPairs
  extract_lets t
  have ht : s.fusesKept t := by
    refine State.fusesKept_foldl (fun u p => ?_) _ _
    split
    · exact u.distrust_fusesKept _ _
    · exact State.fusesKept_of_fixed (by simp)
  split
  · exact ht.andThen (by simp)
  · exact ht

theorem State.ownWrite_fusesKept {off : Nat} {v : Word} (h : s.ownWrite off v = some t) : s.fusesKept t := by
  unfold State.ownWrite at h
  by_cases hr : off = F.NORC_CTRL_reboot.off
  · simp [hr] at h
    exact h ▸ s.doReboot_fusesKept v
  · simp only [hr, if_false] at h
    (repeat' split at h) <;> cases h <;> exact State.fusesKept_of_fixed (by simp)

theorem State.writeReg_fusesKept (s : State) (src : Option NorSrc) (off : Nat) (v : Word) : s.fusesKept (s.writeReg src off v) := by
  unfold State.writeReg
  split
  · exact .refl s
  · split
    · split <;> exact State.fusesKept_of_fixed (by simp)
    · split
      · exact .refl s
      · split
        · exact State.fusesKept_of_fixed (by simp)
        · split
          case h_1 h => exact State.ownWrite_fusesKept h
          case h_2 => exact State.fusesKept_of_fixed (by simp)

theorem State.writeRegsRecord_fusesKept (s : State) (l : List (Nat × Word)) : s.fusesKept (s.writeRegsRecord l) := by
  refine State.fusesKept_foldl (fun u p => ?_) _ _
  split
  · exact u.writeReg_fusesKept _ _ _
  · exact State.fusesKept_of_fixed (by simp)

theorem State.runImage_fusesKept (s : State) (i : ImageInfo) : s.fusesKept (s.runImage i) := by
  unfold State.runImage
  extract_lets a b c _ _ _ d f
  have ha : s.fusesKept a := (s.checkPairs_fusesKept s.boot.lks).andThen (by simp [a])
  have hf : f.fixed = a.fixed := by simp [f, d, c, b]
  exact ((ha.andThen hf).trans (f.writeRegsRecord_fusesKept i.regs)).andThen (by simp)

theorem State.railMismatch_fusesKept (s : State) (b : Bool) : s.fusesKept (s.railMismatch b) := by
  unfold State.railMismatch
  dsimp only
  split
  · exact State.fusesKept_of_fixed (by simp)
  · exact (State.resequence_fusesKept _).after (by simp)

theorem State.checkCopies_fusesKept (s : State) : s.fusesKept s.checkCopies := by
  unfold State.checkCopies
  extract_lets u _ t
  have ht : t.fixed = s.fixed := by simp [t, u]
  split
  extract_lets u v w
  have hv : v.fixed = s.fixed := by
    simp only [v, u]
    split <;> simp [ht]
  have hw : w.fixed = s.fixed := by
    simp only [w]
    split <;> simp [hv]
  split
  · exact State.fusesKept_of_fixed (by simp [hw])
  · dsimp only
    split
    · exact (State.railMismatch_fusesKept _ _).after (by simp -implicitDefEqProofs [hw])
    · exact (State.runImage_fusesKept _ _).after (by simp -implicitDefEqProofs [hw])

theorem State.bootImage_fusesKept (s : State) : s.fusesKept s.bootImage := by
  unfold State.bootImage
  dsimp only
  split
  · exact (State.checkCopies_fusesKept _).after (by simp)
  · exact State.fusesKept_of_fixed (by simp)

/-! ### A burn that reads back (R341) -/

theorem State.burnEnd_fusesKept {reseq go : State → State} (hr : ∀ u : State, u.fusesKept (reseq u)) (hg : ∀ u : State, u.fusesKept (go u))
    (b : Burn) (h : Option Hdr) (s : State) : s.fusesKept (s.burnEnd reseq go b h) := by
  unfold State.burnEnd
  split
  · exact (hr _).after (by simp)
  · exact (hg _).after (by simp)
  · exact State.fusesKept_of_fixed (by simp)
  · exact State.fusesKept_of_fixed (by simp)
  · exact hg s

/-- A burn has read back: its fuse is burned, and the rest of the sequence is left to do. -/
def State.burned (s : State) (b : Burn) (l : List Burn) (o : Option Hdr) : State :=
  let t := { s with fuses := s.fuses.apply b, thm := { s.thm with burn := if l.isEmpty then none else some ⟨l, o⟩ } }
  if b = .destroyKeys then t.raise Ev.THM_KEY_DESTROYED else t

theorem doFuseBurnDone_burned {reseq go : State → State} {b : Burn} {l : List Burn} {o : Option Hdr} (hbr : s.brownout = false)
    (hb : s.thm.burn = some ⟨b :: l, o⟩) :
    doFuseBurnDone reseq go true s = if l.isEmpty then (s.burned b l o).burnEnd reseq go b o else s.burned b l o := by
  unfold doFuseBurnDone
  simp only [hb]
  rw [if_neg (by simp [hbr])]
  rfl

theorem State.burned_fuses (s : State) (b : Burn) (l : List Burn) (o : Option Hdr) : (s.burned b l o).fuses = s.fuses.apply b := by
  simp only [State.burned]
  split
  · rw [State.raise_fuses]
  · rfl

theorem State.burned_pending (s : State) (b : Burn) (l : List Burn) (o : Option Hdr) : (s.burned b l o).pending = s.pending := by
  simp only [State.burned]
  split
  · rw [State.raise_pending]
  · rfl

theorem State.burned_burn (s : State) (b : Burn) {l : List Burn} (hl : l ≠ []) (o : Option Hdr) : (s.burned b l o).thm.burn = some ⟨l, o⟩ := by
  have hempty : l.isEmpty = false := by simpa using hl
  simp only [State.burned, hempty]
  split
  · rw [State.raise_thm]
    rfl
  · rfl

theorem State.burned_same (s : State) (b : Burn) (l : List Burn) (o : Option Hdr) :
    State.sameButEvents { s with fuses := (s.burned b l o).fuses, thm := (s.burned b l o).thm } (s.burned b l o) := by
  simp only [State.burned]
  split
  · rw [State.raise_fuses, State.raise_thm]
    exact State.sameButEvents.rfl.raise _ _
  · exact .rfl

/-! ### The commands (R342, R343) -/

@[simp] theorem State.lifeOpen_begun (s : State) : s.begun.lifeOpen = s.lifeOpen := by
  rw [State.lifeOpen, State.bit_begun, State.lifeOpen]
  rfl

/-- Outside the place of lifecycle commands they are BUSY. -/
theorem doLifeCommand_busy (hopen : s.lifeOpen = false) (code : Nat) (h : Hdr) (k : Option Token) :
    doLifeCommand code h k s = s.complete h .busy := by
  unfold doLifeCommand
  rw [if_pos (by simp [hopen])]

/-- In their place a transition that exists presents its token outside BLANK. -/
theorem doLifeCommand_presents {code : Nat} (hopen : s.lifeOpen = true) (hgo : s.fuses.canGo code = true) (hl : s.fuses.life ≠ blank) (h : Hdr)
    (k : Token) : doLifeCommand code h (some k) s = s.present k (.life code) (some h) := by
  unfold doLifeCommand
  rw [if_neg (by simp [hopen]), if_neg (by simp [hgo]), if_neg hl]

theorem State.startBurn_starts (hbr : s.brownout = false) (h : Hdr) (l : List Burn) :
    s.startBurn h l = { s with thm := { s.thm with burn := some ⟨l, some h⟩ } } := by
  rw [State.startBurn, if_neg (by simp [hbr])]

/-- The burns of a scrap in BLANK (R350). -/
def scrapSteps : List Burn := [.scrapIntent, .destroyBegun, .revokeOwner, .destroyKeys, .revokeMaker, .life scrapped]

theorem doLifeCommand_scrapBlank (hopen : s.lifeOpen = true) (hl : s.fuses.life = blank) (hbr : s.brownout = false) (h : Hdr) (k : Option Token) :
    doLifeCommand scrapped h k s = { s with thm := { s.thm with burn := some ⟨scrapSteps, some h⟩ } } := by
  have hgo : s.fuses.canGo scrapped = true := by simp [Fuses.canGo, hl, scrapped, secured, returned]
  have hsteps : s.fuses.lifeSteps scrapped = scrapSteps := by
    simp [Fuses.lifeSteps, hl, destroySteps, scrapSteps, scrapped, secured, returned]
  unfold doLifeCommand
  rw [if_neg (by simp [hopen]), if_neg (by simp [hgo]), if_pos hl, hsteps, State.startBurn_starts hbr]

theorem doProvisionBegin_draws (hl : s.fuses.life = blank) (hd : s.fuses.drk = .absent) (hf : s.thm.fresh = true) (hb : s.thm.burn = none)
    (hbr : s.brownout = false) (h : Hdr) : doProvisionBegin h s = { s with thm := { s.thm with burn := some ⟨[.drk], some h⟩ } } := by
  unfold doProvisionBegin
  rw [if_neg (not_not.mpr hl), hd]
  exact (if_pos (by simp [hf, hb])).trans (State.startBurn_starts hbr h _)

theorem doProvisionBegin_repeats (hl : s.fuses.life = blank) (hd : s.fuses.drk = .present) (h : Hdr) :
    doProvisionBegin h s = s.complete h .ok [Config.identityKey, s.fuses.devid] := by
  unfold doProvisionBegin
  rw [if_neg (not_not.mpr hl), hd]

theorem doProvisionCommit_burns {keys : BitVec 4} (hopen : s.lifeOpen = true) (hl : s.fuses.life = blank) (hd : s.fuses.drk = .present)
    (hsealed : s.bit F.GLB_SAVE_STAT_sealed = false) (hk : keys &&& 0b1110#4 ≠ 0) (hbr : s.brownout = false) (h : Hdr) :
    doProvisionCommit h keys true s =
      { s with thm := { s.thm with burn := some ⟨[.keys (keys &&& 0b1110#4), .wrapKey, .life provisioned], some h⟩ } } := by
  unfold doProvisionCommit
  rw [if_neg (by simp [hopen]), if_neg, State.startBurn_starts hbr]
  rw [hsealed]
  rintro (hne | hne | hne | hne | hne)
  · exact hne hl
  · cases hne
  · exact hk hne
  · cases hne
  · exact hne hd

theorem doAdvanceRollback_burns (hl : s.fuses.life = secured) (hb : s.thm.burn = none) (hbr : s.brownout = false)
    (hlt : s.fuses.rollback < Nat.min 128 s.svn) (h : Hdr) : doAdvanceRollback h s =
      { s with thm := { s.thm with burn := some ⟨List.replicate (Nat.min 128 s.svn - s.fuses.rollback) .rollback, some h⟩ } } := by
  unfold doAdvanceRollback
  rw [if_neg (not_not.mpr hl), if_neg (by simp [hb])]
  exact (if_neg (Nat.sub_ne_zero_of_lt hlt)).trans (State.startBurn_starts hbr h _)

/-- Keys are secured from PROVISIONED only, and a unit is returned from PROVISIONED or SECURED. -/
theorem Fuses.not_blank_of_canGo {f : Fuses} {code : Nat} (hcode : code = secured ∨ code = returned) (hgo : f.canGo code = true) : f.life ≠ blank := by
  rintro hl
  obtain rfl | rfl := hcode <;> simp [Fuses.canGo, hl, secured, returned] at hgo

/-! ### The statement -/

/-- Settles O17: each command is its definition where it acts, and the end of a sequence changes no fuse. -/
theorem lifecycleCommands : Obligations.LifecycleCommands := by
  unfold Obligations.LifecycleCommands
  refine ⟨?secure, ?returns, ?scrapBlank, ?scrap, ?secureBusy, ?returnBusy, ?scrapBusy, ?drawDrk, ?sameDrk, ?commit, ?advance, ?burned, ?unread, ?lock⟩
  case secure =>
    intro s h k hs hopen hgo
    exact (State.start_starts hs (doLifeCommand secured h (some k))).trans (congrArg _
      (doLifeCommand_presents (s.lifeOpen_begun.trans hopen) hgo (Fuses.not_blank_of_canGo (.inl rfl) hgo) h k))
  case returns =>
    intro s h k hs hopen hgo
    exact (State.start_starts hs (doLifeCommand returned h (some k))).trans (congrArg _
      (doLifeCommand_presents (s.lifeOpen_begun.trans hopen) hgo (Fuses.not_blank_of_canGo (.inr rfl) hgo) h k))
  case scrapBlank =>
    intro s h k hs hopen hl hbr
    exact (State.start_starts hs (doLifeCommand scrapped h k)).trans (congrArg _
      (doLifeCommand_scrapBlank (s.lifeOpen_begun.trans hopen) hl hbr h k))
  case scrap =>
    intro s h k hs hopen hl hgo
    exact (State.start_starts hs (doLifeCommand scrapped h (some k))).trans (congrArg _
      (doLifeCommand_presents (s.lifeOpen_begun.trans hopen) hgo hl h k))
  case secureBusy =>
    intro s h k hs hopen
    exact (State.start_starts hs (doLifeCommand secured h k)).trans (congrArg _ (doLifeCommand_busy (s.lifeOpen_begun.trans hopen) _ h k))
  case returnBusy =>
    intro s h k hs hopen
    exact (State.start_starts hs (doLifeCommand returned h k)).trans (congrArg _ (doLifeCommand_busy (s.lifeOpen_begun.trans hopen) _ h k))
  case scrapBusy =>
    intro s h k hs hopen
    exact (State.start_starts hs (doLifeCommand scrapped h k)).trans (congrArg _ (doLifeCommand_busy (s.lifeOpen_begun.trans hopen) _ h k))
  case drawDrk =>
    intro s h hs hl hd hf hb hbr
    exact (State.start_starts hs (doProvisionBegin h)).trans (congrArg _ (doProvisionBegin_draws (s := s.begun) hl hd hf hb hbr h))
  case sameDrk =>
    intro s h hs hl hd
    exact (State.start_starts hs (doProvisionBegin h)).trans (congrArg _ (doProvisionBegin_repeats (s := s.begun) hl hd h))
  case commit =>
    intro s h keys hs hopen hl hd hsealed hk hbr
    exact (State.start_starts hs (doProvisionCommit h keys true)).trans (congrArg _
      (doProvisionCommit_burns (s.lifeOpen_begun.trans hopen) hl hd ((s.bit_begun _).trans hsealed) hk hbr h))
  case advance =>
    intro s h hs hl hb hbr hlt
    exact (State.start_starts hs (doAdvanceRollback h)).trans (congrArg _ (doAdvanceRollback_burns (s := s.begun) hl hb hbr hlt h))
  case burned =>
    intro s b l o hs hbr hb
    refine ⟨_, (State.core_runs hs (doFuseBurnDone State.reseq State.bootImage true)).trans (congrArg _ (doFuseBurnDone_burned hbr hb)), ?_⟩
    split
    · next hl =>
      obtain ⟨hp, hf⟩ := State.burnEnd_fusesKept State.resequence_fusesKept State.bootImage_fusesKept b o (s.burned b l o)
      exact ⟨hf.trans (s.burned_fuses b l o), hp.trans (s.burned_pending b l o), fun hne => absurd (by simpa using hl) hne⟩
    · exact ⟨s.burned_fuses b l o, s.burned_pending b l o, fun hne => ⟨s.burned_burn b hne o, s.burned_same b l o⟩⟩
  case unread =>
    intro s b l o hs hb
    refine (State.core_runs hs (doFuseBurnDone State.reseq State.bootImage false)).trans (congrArg _ ?_)
    unfold doFuseBurnDone
    simp only [hb]
    rw [if_pos (by simp)]
  case lock =>
    intro s hs
    refine ⟨_, State.post_passes hs doThmLockSet, ?_, ?_, ?_⟩
    · rw [doThmLockSet, State.bit_setBit_eq _ _ (by decide) (by decide)]
    · exact (State.regsKept_of_csr rfl rfl).setFld _ (by simp)
    · exact State.onlyRegs.rfl.setFld _ _

end Sys2Proof.Machine
end

section
set_option Elab.async false
/-! PROOFS. Entropy, challenges, tokens and debug levels (R340, R346, R347, R364): the statement about them. -/

namespace Sys2Proof.Machine

variable {s t u : State}

/-! ### A completion writes no register (R367) -/

theorem State.sendMsix_csr (s : State) (pf vector : Nat) : (s.sendMsix pf vector).csr = s.csr := by
  rw [State.sendMsix]
  split
  · rfl
  · split <;> rfl

theorem State.setLink_csr (s : State) (l : Nat) (x : Link) : (s.setLink l x).csr = s.csr := by
  rw [State.setLink]

theorem State.putFrame_csr (s : State) (l n i : Nat) (f : SFrame) : (s.putFrame l n i f).csr = s.csr := rfl

theorem State.sendFrame_csr (s : State) (l i : Nat) (f : SFrame) : (s.sendFrame l i f).csr = s.csr := by
  rw [State.sendFrame]
  split
  · rw [State.launch, State.putFrame_csr, State.setLink_csr]
  · exact s.setLink_csr l _

theorem forUp_csr {f : Nat → State → State} (hf : ∀ i (s : State), (f i s).csr = s.csr) : ∀ (k i : Nat) (s : State), (forUp f k i s).csr = s.csr
  | 0, _, _ => rfl
  | k + 1, i, s => (forUp_csr hf k (i + 1) (f i s)).trans (hf i s)

theorem State.sendOn_csr (s : State) (l : Nat) (f : SFrame) : (s.sendOn l f).csr = s.csr := forUp_csr (fun i s => s.sendFrame_csr l i f) _ _ _

theorem State.answer_csr (s : State) (h : Hdr) (code : Nat) (st : Status) (vals : List Nat) : (s.answer h code st vals).csr = s.csr := by
  unfold State.answer
  dsimp only
  split
  · rfl
  · split
    · split
      · split
        · exact State.sendMsix_csr _ _ _
        · rfl
      · split <;> rfl
    · exact s.seamSend_csr _
    · split <;> rfl
    · rfl

theorem State.complete_csr (s : State) (h : Hdr) (st : Status) (vals : List Nat) : (s.complete h st vals).csr = s.csr := by
  rw [State.complete]
  exact State.answer_csr _ _ _ _ _

theorem State.pended_complete (s : State) (h : Hdr) (st : Status) (vals : List Nat) {ev : Nat} (hev : ev < 640) :
    (s.complete h st vals).pended ev = s.pended ev := State.pendKept_of_csr (s.complete_part h st vals) (s.complete_csr h st vals) ev hev

theorem State.fld_completeIf (s : State) (h : Option Hdr) (st : Status) (f : Fld) : (s.completeIf h st).fld f = s.fld f := by
  cases h with
  | none => rfl
  | some h => exact State.fld_congr (s.complete_part h st []) (s.complete_csr h st []) f

theorem State.pended_completeIf (s : State) (h : Option Hdr) (st : Status) {ev : Nat} (hev : ev < 640) :
    (s.completeIf h st).pended ev = s.pended ev := by
  cases h with
  | none => rfl
  | some h => exact s.pended_complete h st [] hev

theorem State.completeIf_same (s : State) (h : Option Hdr) (st : Status) : s.sameButAnswer (s.completeIf h st) := by
  cases h with
  | none => exact .rfl
  | some h => exact (s.complete_only h st []).1

/-- A state that starts from the same registers keeps the same. -/
theorem State.regsKept.from (h : t.regsKept u l) (hp : t.part = s.part) (hc : t.csr = s.csr) : s.regsKept u l := by
  simpa using (State.regsKept_of_csr (l := []) hp hc).trans h

/-! ### Entropy (R340) -/

/-- The registers of an entropy source that has failed, and its event. -/
def State.entropyBad (s : State) : State := ((s.setBit F.THM_ENTROPY_fail true).setBit F.THM_ENTROPY_health_ok false).raise Ev.THM_ENTROPY_FAIL

theorem State.entropyBad_fail (s : State) : s.entropyBad.bit F.THM_ENTROPY_fail = true := by
  rw [State.entropyBad, State.bit_raise _ _ _ (by decide) (by decide) (by decide) (by decide),
    State.bit_setBit_ne _ _ (by decide) (by decide) (by decide), State.bit_setBit_eq _ _ (by decide) (by decide)]

theorem State.entropyBad_health (s : State) : s.entropyBad.bit F.THM_ENTROPY_health_ok = false := by
  rw [State.entropyBad, State.bit_raise _ _ _ (by decide) (by decide) (by decide) (by decide), State.bit_setBit_eq _ _ (by decide) (by decide)]

theorem State.entropyBad_pended (hm : s.mode ≠ .reset) : s.entropyBad.pended Ev.THM_ENTROPY_FAIL = true := by
  rw [State.entropyBad]
  exact State.pended_raise_unfused _ (by decide) (by rwa [State.setBit_mode, State.setBit_mode]) 0

theorem State.entropyBad_regsKept (s : State) : s.regsKept s.entropyBad [F.THM_ENTROPY_fail.off] :=
  ((State.regsKept.rfl.setFld (f := F.THM_ENTROPY_fail) _ (by simp)).setFld (f := F.THM_ENTROPY_health_ok) _ (by simp)).raise _ _ (by decide)

theorem State.entropyBad_same (s : State) : s.sameButEvents s.entropyBad := ((State.sameButEvents.rfl.setFld _ _).setFld _ _).raise _ _

/-- The registers of an entropy source that has been reseeded. -/
def State.entropyGood (s : State) : State := (s.wrap F.THM_ENTROPY_reseeds).setBit F.THM_ENTROPY_health_ok true

theorem State.entropyGood_reseeds (s : State) : s.entropyGood.fld F.THM_ENTROPY_reseeds = (s.fld F.THM_ENTROPY_reseeds + 1) % 2 ^ 16 := by
  rw [State.entropyGood, State.fld_setBit_ne _ _ (by decide) (by decide) (by decide)]
  exact State.fld_wrap_eq _ _ (by decide) (by decide)

theorem State.entropyGood_health (s : State) : s.entropyGood.bit F.THM_ENTROPY_health_ok = true := State.bit_setBit_eq _ _ (by decide) (by decide)

theorem State.entropyGood_regsKept (s : State) : s.regsKept s.entropyGood [F.THM_ENTROPY_reseeds.off] :=
  (State.regsKept.rfl.setFld (f := F.THM_ENTROPY_reseeds) _ (by simp)).setFld (f := F.THM_ENTROPY_health_ok) _ (by simp)

theorem State.entropyGood_onlyRegs (s : State) : s.onlyRegs s.entropyGood := (State.onlyRegs.rfl.setFld _ _).setFld _ _

/-! ### Debug levels (R346, R347) -/

theorem State.openDebug_debug (s : State) {level : Nat} (hl : level < 4) (o : Nat) : (s.openDebug level o).fld F.THM_LIFECYCLE_debug = level := by
  rw [State.openDebug, State.fld_raise _ _ _ (by decide) (by decide) (by decide) (by decide),
    State.fld_setFld_ne _ _ (by decide) (by decide) (by decide), State.fld_setFld_ne _ _ (by decide) (by decide) (by decide),
    State.fld_setFld_of_lt _ _ hl (by decide) (by decide)]

theorem State.openDebug_level (s : State) {level : Nat} (hl : level < 4) (o : Nat) : (s.openDebug level o).fld F.THM_DBG_STAT_level = level := by
  rw [State.openDebug, State.fld_raise _ _ _ (by decide) (by decide) (by decide) (by decide),
    State.fld_setFld_ne _ _ (by decide) (by decide) (by decide), State.fld_setFld_of_lt _ _ hl (by decide) (by decide)]

theorem State.openDebug_openedBy (s : State) (level : Nat) {o : Nat} (ho : o < 4) : (s.openDebug level o).fld F.THM_DBG_STAT_opened_by = o := by
  rw [State.openDebug, State.fld_raise _ _ _ (by decide) (by decide) (by decide) (by decide), State.fld_setFld_of_lt _ _ ho (by decide) (by decide)]

theorem State.openDebug_pended (s : State) (hm : s.mode ≠ .reset) (level o : Nat) : (s.openDebug level o).pended Ev.THM_DBG_OPEN = true := by
  rw [State.openDebug]
  exact State.pended_raise_unfused _ (by decide) (by rwa [State.setFld_mode, State.setFld_mode, State.setFld_mode]) 0

theorem State.openDebug_same (s : State) (level o : Nat) : s.sameButEvents (s.openDebug level o) :=
  (((State.sameButEvents.rfl.setFld _ _).setFld _ _).setFld _ _).raise _ _

theorem State.openDebug_regsKept (s : State) (level o : Nat) :
    s.regsKept (s.openDebug level o) [F.THM_LIFECYCLE_debug.off, F.THM_DBG_STAT_level.off] :=
  (((State.regsKept.rfl.setFld (f := F.THM_LIFECYCLE_debug) level (by simp)).setFld (f := F.THM_DBG_STAT_level) level (by simp)).setFld
    (f := F.THM_DBG_STAT_opened_by) o (by simp)).raise _ _ (by decide)

theorem State.begun_regsKept (s : State) (l : List Nat) : s.regsKept s.begun l := State.regsKept_of_csr rfl rfl

/-- Only the lockstep pairs and registers have changed. -/
def State.pairsOnly (s t : State) : Prop := t = { s with csr := t.csr, lks := t.lks }

theorem State.pairsOnly.rfl : s.pairsOnly s := by unfold State.pairsOnly; cases s; simp

theorem State.pairsOnly.trans (h : s.pairsOnly t) (k : t.pairsOnly u) : s.pairsOnly u := by unfold State.pairsOnly at *; rw [k, h]

theorem State.onlyRegs.pairsOnly (h : s.onlyRegs t) : s.pairsOnly t := by
  unfold State.onlyRegs at h
  unfold State.pairsOnly
  rw [h]

theorem State.pairsOnly.forUp {h : Nat → State → State} (hh : ∀ i (s : State), s.pairsOnly (h i s)) :
    ∀ (k i : Nat) (s : State), s.pairsOnly (Machine.forUp h k i s)
  | 0, _, _ => .rfl
  | k + 1, i, s => (hh i s).trans (State.pairsOnly.forUp hh k (i + 1) (h i s))

theorem State.setPairState_onlyRegs (s : State) (p v : Nat) : s.onlyRegs (s.setPair_ p v) := (State.onlyRegs.rfl.setFld _ _).setFld _ _

theorem State.releasePair_pairsOnly (s : State) (p : Nat) : s.pairsOnly (s.releasePair p) := by
  rw [State.releasePair]
  split
  · have hlks : s.pairsOnly { s with lks := { s.lks with halted := s.lks.halted.erase p } } := by unfold State.pairsOnly; rfl
    exact hlks.trans (State.setPairState_onlyRegs _ _ _).pairsOnly
  · exact .rfl

theorem State.releasePair_none (h : s.lks.halted = []) (p : Nat) : s.releasePair p = s := by
  rw [State.releasePair, if_neg (by simp [h])]

/-- The pairs that a debugger has halted are released. -/
def State.releasePairs (s : State) : State := forUp (fun p s => s.releasePair p) 4 0 s

theorem State.releasePairs_none (h : s.lks.halted = []) : s.releasePairs = s := by
  simp only [State.releasePairs, forUp, State.releasePair_none h]

theorem State.closeDebug_eq (s : State) : s.closeDebug =
    ((s.releasePairs.setFld F.THM_LIFECYCLE_debug 0).setFld F.THM_DBG_STAT_level 0).setFld F.THM_DBG_STAT_opened_by 0 := rfl

theorem State.closeDebug_pairsOnly (s : State) : s.pairsOnly s.closeDebug := by
  rw [s.closeDebug_eq]
  exact (State.pairsOnly.forUp (fun p s => s.releasePair_pairsOnly p) 4 0 s).trans
    (((State.onlyRegs.rfl.setFld _ _).setFld _ _).setFld _ _).pairsOnly

theorem State.closeDebug_debug (s : State) : s.closeDebug.fld F.THM_LIFECYCLE_debug = 0 := by
  rw [s.closeDebug_eq, State.fld_setFld_ne _ _ (by decide) (by decide) (by decide), State.fld_setFld_ne _ _ (by decide) (by decide) (by decide),
    State.fld_setFld_of_lt _ _ (by decide) (by decide) (by decide)]

theorem State.closeDebug_level (s : State) : s.closeDebug.fld F.THM_DBG_STAT_level = 0 := by
  rw [s.closeDebug_eq, State.fld_setFld_ne _ _ (by decide) (by decide) (by decide), State.fld_setFld_of_lt _ _ (by decide) (by decide) (by decide)]

theorem State.closeDebug_openedBy (s : State) : s.closeDebug.fld F.THM_DBG_STAT_opened_by = 0 := by
  rw [s.closeDebug_eq, State.fld_setFld_of_lt _ _ (by decide) (by decide) (by decide)]

theorem State.closeDebug_regsKept (h : s.lks.halted = []) :
    s.regsKept s.closeDebug [F.THM_LIFECYCLE_debug.off, F.THM_DBG_STAT_level.off] := by
  rw [s.closeDebug_eq, State.releasePairs_none h]
  exact ((State.regsKept.rfl.setFld (f := F.THM_LIFECYCLE_debug) 0 (by simp)).setFld (f := F.THM_DBG_STAT_level) 0 (by simp)).setFld
    (f := F.THM_DBG_STAT_opened_by) 0 (by simp)

/-! ### The end of a token's check (R346) -/

/-- A level opened under a token, and the answer to its command. -/
theorem State.openDebug_completeIf (s : State) (hm : s.mode ≠ .reset) {level o : Nat} (hl : level < 4) (ho : o < 4) (h : Option Hdr) :
    ((s.openDebug level o).completeIf h .ok).fld F.THM_LIFECYCLE_debug = level ∧
    ((s.openDebug level o).completeIf h .ok).fld F.THM_DBG_STAT_level = level ∧
    ((s.openDebug level o).completeIf h .ok).fld F.THM_DBG_STAT_opened_by = o ∧
    ((s.openDebug level o).completeIf h .ok).pended Ev.THM_DBG_OPEN = true ∧
    s.sameButAnswer ((s.openDebug level o).completeIf h .ok) := by
  refine ⟨?_, ?_, ?_, ?_, (s.openDebug_same level o).answer.trans (State.completeIf_same _ h .ok)⟩
  · rw [State.fld_completeIf, State.openDebug_debug _ hl]
  · rw [State.fld_completeIf, State.openDebug_level _ hl]
  · rw [State.fld_completeIf, State.openDebug_openedBy _ _ ho]
  · rw [State.pended_completeIf _ _ _ (by decide), s.openDebug_pended hm]

theorem State.openDebug_complete_regsKept (s : State) (level o : Nat) (h : Hdr) :
    s.regsKept ((s.openDebug level o).complete h .ok) [F.THM_LIFECYCLE_debug.off, F.THM_DBG_STAT_level.off] := by
  simpa using (s.openDebug_regsKept level o).trans (State.complete_only _ h .ok []).2

/-- A level closed, and the answer to its command. -/
theorem State.closeDebug_complete (s : State) (h : Hdr) :
    (s.closeDebug.complete h .ok).fld F.THM_LIFECYCLE_debug = 0 ∧ (s.closeDebug.complete h .ok).fld F.THM_DBG_STAT_level = 0 ∧
    (s.closeDebug.complete h .ok).fld F.THM_DBG_STAT_opened_by = 0 ∧
    (s.lks.halted = [] → s.regsKept (s.closeDebug.complete h .ok) [F.THM_LIFECYCLE_debug.off, F.THM_DBG_STAT_level.off]) ∧
    State.sameButAnswer { s with lks := (s.closeDebug.complete h .ok).lks } (s.closeDebug.complete h .ok) := by
  have hans := s.closeDebug.complete_only h .ok []
  have hframe : State.sameButAnswer { s with lks := s.closeDebug.lks } s.closeDebug := by
    have hp := s.closeDebug_pairsOnly
    unfold State.pairsOnly at hp
    unfold State.sameButAnswer
    generalize s.closeDebug = c at hp ⊢
    rw [hp]
  refine ⟨(hans.fld _).trans s.closeDebug_debug, (hans.fld _).trans s.closeDebug_level, (hans.fld _).trans s.closeDebug_openedBy, fun hnone => ?_, ?_⟩
  · simpa using (State.closeDebug_regsKept hnone).trans hans.2
  · rw [State.complete_lks]
    exact hframe.trans hans.1

/-- A token refused for a level. -/
theorem State.refuseToken_facts (s : State) (hm : s.mode ≠ .reset) (level : Nat) (h : Option Hdr) :
    (s.refuseToken (.debug level) h).fld F.THM_DBG_STAT_fails = Nat.min 255 (s.fld F.THM_DBG_STAT_fails + 1) ∧
    (s.refuseToken (.debug level) h).fld F.THM_LIFECYCLE_debug = s.fld F.THM_LIFECYCLE_debug ∧
    (s.refuseToken (.debug level) h).pended Ev.THM_DBG_FAIL = true ∧ s.sameButAnswer (s.refuseToken (.debug level) h) := by
  have heq : s.refuseToken (.debug level) h = ((s.sat F.THM_DBG_STAT_fails).completeIf h .invalid).raise Ev.THM_DBG_FAIL := rfl
  have hbefore := (State.sameButEvents.rfl.setFld F.THM_DBG_STAT_fails _).answer.trans
    (State.completeIf_same (s.sat F.THM_DBG_STAT_fails) h .invalid)
  have hmax : Nat.min F.THM_DBG_STAT_fails.max (s.fld F.THM_DBG_STAT_fails + 1) < 2 ^ 8 := Nat.lt_of_le_of_lt (Nat.min_le_left _ _) (by decide)
  rw [heq]
  refine ⟨?_, ?_, State.pended_raise_unfused _ (by decide) (by rwa [hbefore.mode]) 0, hbefore.trans (State.raise_same _ _ 0).answer⟩
  · rw [State.fld_raise _ _ _ (by decide) (by decide) (by decide) (by decide), State.fld_completeIf, State.sat,
      State.fld_setFld_of_lt _ _ hmax (by decide) (by decide)]
    rfl
  · rw [State.fld_raise _ _ _ (by decide) (by decide) (by decide) (by decide), State.fld_completeIf,
      State.fld_sat_ne _ _ (by decide) (by decide) (by decide)]

theorem doSignatureVerifyDone_checks {v : Verify} {l : List Verify} (hv : s.thm.verify = v :: l) : doSignatureVerifyDone s =
    if v.ok && v.token.sigOk && s.fuses.tokenKey v.token.key then State.acceptToken { s with thm := { s.thm with verify := l } } v
    else State.refuseToken { s with thm := { s.thm with verify := l } } v.use v.for_ := by
  unfold doSignatureVerifyDone
  simp only [hv]

theorem State.acceptToken_debug {v : Verify} {level : Nat} (hu : v.use = .debug level) (s : State) :
    s.acceptToken v = (s.openDebug level (if v.token.key.val = 0 then 3 else 2)).completeIf v.for_ .ok := by
  rw [State.acceptToken, hu]

/-! ### Peat cleared (R364) -/

/-- Only Peat's records, the free values taken and what a raise can touch have changed. -/
def State.peatOnly (s t : State) : Prop :=
  State.sameButEvents { s with kept := { s.kept with peat := t.kept.peat, peatSeq := t.kept.peatSeq }, free := t.free } t

theorem State.peatOnly.raise (h : s.peatOnly t) (ev n : Nat) : s.peatOnly (t.raise ev n) := by
  unfold State.peatOnly at h ⊢
  rw [State.raise_kept, State.raise_free]
  exact h.raise ev n

theorem State.allocRec_peatOnly (s : State) (sev : Nat) (r : PeatRec) : s.peatOnly (s.allocRec sev r) := by
  have hput : ∀ k, s.peatOnly (s.putRec k r) := fun k => by unfold State.peatOnly State.sameButEvents; rfl
  have hfree : ∀ k, s.peatOnly (s.tickFree.putRec k r) := fun k => by unfold State.peatOnly State.sameButEvents; rfl
  have hdrop : s.peatOnly ((s.sat (dropField sev)).raise Ev.PEAT_DROPPED) := by
    refine State.peatOnly.raise ?_ _ _
    unfold State.peatOnly
    rw [State.sat, State.setFld_kept, State.setFld_free]
    exact State.sameButEvents.rfl.setFld _ _
  rw [State.allocRec]
  split
  · exact hfree _
  · split
    · split
      · exact hput _
      · exact hdrop
    · exact hdrop

/-- A record that finds a slot is put there; every other record stays. -/
theorem State.mem_allocRec {sev : Nat} {r : PeatRec} {p : Nat × PeatRec} (hp : p ∈ (s.allocRec sev r).kept.peat) : p.2 = r ∨ p ∈ s.kept.peat := by
  have hput : ∀ {k}, p ∈ alPut s.kept.peat k r → p.2 = r ∨ p ∈ s.kept.peat := fun h => (mem_alPut h).imp_left fun he => by rw [he]
  have hdrop : p ∈ ((s.sat (dropField sev)).raise Ev.PEAT_DROPPED).kept.peat → p.2 = r ∨ p ∈ s.kept.peat := fun h => .inr (by
    rwa [State.raise_kept, State.sat, State.setFld_kept] at h)
  rw [State.allocRec] at hp
  split at hp
  · exact hput hp
  · split at hp
    · split at hp
      · exact hput hp
      · exact hdrop hp
    · exact hdrop hp

/-- What a clear leaves of the records in its scope has started again. -/
theorem clearRec_zero {scope : Nat} {p q : Nat × PeatRec} (h : clearRec scope p = some q) (hs : inScope scope q.2 = true) :
    q.2.data = Live.zero := by
  unfold clearRec at h
  split at h
  · split at h
    · cases h
      rfl
    · cases h
  · next hout =>
    cases h
    exact absurd hs hout

/-- The state whose records of a scope are cleared. -/
def State.cleared (s : State) (scope : Nat) : State := { s with kept := { s.kept with peat := s.kept.peat.filterMap (clearRec scope) } }

theorem State.clearPeat_eq (s : State) (scope key : Nat) : ∃ r : PeatRec, r.kind = 3 ∧
    s.clearPeat scope key = ((s.cleared scope).allocRec 3 r).raise Ev.PEAT_CLEARED := ⟨_, rfl, rfl⟩

theorem State.clearPeat_pended (hm : s.mode ≠ .reset) (scope key : Nat) : (s.clearPeat scope key).pended Ev.PEAT_CLEARED = true := by
  obtain ⟨r, -, hr⟩ := s.clearPeat_eq scope key
  have hmode : ((s.cleared scope).allocRec 3 r).mode = s.mode := by
    have h := (s.cleared scope).allocRec_peatOnly 3 r
    unfold State.peatOnly State.sameButEvents at h
    rw [h]
    rfl
  rw [hr]
  exact State.pended_raise_unfused _ (by decide) (by rwa [hmode]) 0

theorem State.clearPeat_zero (s : State) {scope key : Nat} {p : Nat × PeatRec} (hp : p ∈ (s.clearPeat scope key).kept.peat)
    (hs : inScope scope p.2 = true) (hk : p.2.kind ≠ 3) : p.2.data = Live.zero := by
  obtain ⟨r, hr3, hr⟩ := s.clearPeat_eq scope key
  rw [hr, State.raise_kept] at hp
  obtain hnew | hold := State.mem_allocRec hp
  · exact absurd (hnew ▸ hr3) hk
  · obtain ⟨q, -, hq⟩ := List.mem_filterMap.mp hold
    exact clearRec_zero hq hs

theorem State.clearPeat_peatOnly (s : State) (scope key : Nat) : s.peatOnly (s.clearPeat scope key) := by
  obtain ⟨r, -, hr⟩ := s.clearPeat_eq scope key
  rw [hr]
  exact State.peatOnly.raise ((s.cleared scope).allocRec_peatOnly 3 r) _ _

/-- Peat cleared in BLANK, and the answer to its command: only its records and what an answer can touch have changed. -/
theorem State.clearPeat_complete (s : State) (scope : Nat) (h : Hdr) :
    State.sameButAnswer { s with
      kept := { s.kept with peat := ((s.clearPeat scope 0).complete h .ok).kept.peat, peatSeq := ((s.clearPeat scope 0).complete h .ok).kept.peatSeq }
      free := ((s.clearPeat scope 0).complete h .ok).free } ((s.clearPeat scope 0).complete h .ok) := by
  have hp := s.clearPeat_peatOnly scope 0
  have ha := ((s.clearPeat scope 0).complete_only h .ok []).1
  have hk := (s.clearPeat scope 0).complete_kept h .ok []
  unfold State.peatOnly State.sameButEvents at hp
  unfold State.sameButAnswer at ha ⊢
  rw [hk]
  generalize s.clearPeat scope 0 = c at hp ha hk ⊢
  generalize c.complete h .ok = d at ha hk ⊢
  rw [ha, hp]

/-- A command's row acts only while the core runs. -/
theorem State.runs_of_starts {h : Hdr} {c : Cmd} (hs : s.starts h c) : s.mode ≠ .reset := by
  simp only [State.starts, State.turn, Bool.and_eq_true, bne_iff_ne] at hs
  exact hs.1.1

/-- Settles O16: each command is its definition where it acts, and a completion or a raise leaves the registers of Thimble. -/
theorem thimbleChecks : Obligations.ThimbleChecks := by
  unfold Obligations.ThimbleChecks
  refine ⟨?fails, ?reseeds, ?goesOn, ?noReseed, ?challenge, ?tapChallenge, ?expires, ?tapToken, ?opensBlank, ?presents, ?refuses, ?accepted, ?refused,
    ?closes, ?peatToken, ?peatBlank⟩
  case fails =>
    intro s hs
    have heq : doEntropyHealthFail s = State.entropyBad { s with thm := { s.thm with fresh := false } } := rfl
    exact ⟨_, (State.core_runs hs doEntropyHealthFail).trans (congrArg _ heq), State.entropyBad_fail _, State.entropyBad_health _,
      State.entropyBad_pended (s := { s with thm := { s.thm with fresh := false } }) hs, (State.entropyBad_regsKept _).from rfl rfl,
      State.entropyBad_same _⟩
  case reseeds =>
    intro s hs hw
    have heq : s.doReseed true = State.entropyGood { s with thm := { s.thm with fresh := true } } := by
      rw [State.doReseed, if_neg (by simp [hw])]
      rfl
    exact ⟨_, (State.core_runs hs (·.doReseed true)).trans (congrArg _ heq),
      (State.entropyGood_reseeds _).trans (congrArg (fun n => (n + 1) % 2 ^ 16) (State.fld_congr rfl rfl _)), State.entropyGood_health _,
      (State.entropyGood_regsKept _).from rfl rfl, State.entropyGood_onlyRegs { s with thm := { s.thm with fresh := true } }⟩
  case goesOn =>
    intro s hs hw
    refine (State.core_runs hs (·.doReseed true)).trans (congrArg _ ?_)
    rw [State.doReseed, if_pos (by simp [hw])]
  case noReseed =>
    intro s hs
    have heq : s.doReseed false = s.setBit F.THM_ENTROPY_health_ok false := by
      rw [State.doReseed, if_neg (by simp)]
      rfl
    refine ⟨_, (State.core_runs hs (·.doReseed false)).trans (congrArg _ heq), ?_, ?_, ?_, State.onlyRegs.rfl.setFld _ _⟩
    · rw [State.fld_setBit_ne _ _ (by decide) (by decide) (by decide)]
    · rw [State.bit_setBit_eq _ _ (by decide) (by decide)]
    · exact State.regsKept.rfl.setFld _ (by simp)
  case challenge =>
    intro s h hs hf
    refine (State.start_starts hs (doDebugChallenge h)).trans (congrArg _ ?_)
    exact if_pos hf
  case tapChallenge =>
    intro s hs hf
    refine (State.core_runs hs doTapChallengeRead).trans (congrArg _ ?_)
    exact if_pos hf
  case expires => exact fun s hs => State.core_runs hs doChallengeExpire
  case tapToken => exact fun s k hs => State.core_runs hs (doTapTokenWrite k)
  case opensBlank =>
    intro s h level k hs hl hok
    have heq : doDebugOpen h level.val k s.begun = (s.begun.openDebug level.val 1).complete h .ok :=
      (if_pos (c := s.begun.fuses.life = blank) hl).trans (if_pos (c := s.begun.fuses.levelOk level.val = true) hok)
    obtain ⟨hdebug, hlevel, hby, hpend, hsame⟩ := State.openDebug_completeIf s.begun (State.runs_of_starts (s := s) hs) (level := level.val) (by omega)
      (o := 1) (by decide) (some h)
    exact ⟨_, (State.start_starts hs (doDebugOpen h level.val k)).trans (congrArg _ heq), hdebug, hlevel, hby, hpend,
      (s.begun.openDebug_complete_regsKept level.val 1 h).from rfl rfl, hsame⟩
  case presents =>
    intro s h level k hs hl
    refine (State.start_starts hs (doDebugOpen h level.val (some k))).trans (congrArg _ ?_)
    exact if_neg hl
  case refuses =>
    intro s h level hs hl
    refine (State.start_starts hs (doDebugOpen h level.val none)).trans (congrArg _ ?_)
    exact if_neg hl
  case accepted =>
    intro s v l level hs hv hu hlt hok hsig hkey
    have heq := (doSignatureVerifyDone_checks hv).trans (if_pos (by simp [hok, hsig, hkey]))
    rw [State.acceptToken_debug hu] at heq
    obtain ⟨hdebug, hlevel, hby, hpend, hsame⟩ := State.openDebug_completeIf { s with thm := { s.thm with verify := l } } hs hlt
      (o := if v.token.key.val = 0 then 3 else 2) (by split <;> decide) v.for_
    exact ⟨_, (State.core_runs hs doSignatureVerifyDone).trans (congrArg _ heq), congrArg Thimble.verify hsame.thm, hdebug, hlevel, hby, hpend, hsame⟩
  case refused =>
    intro s v l level hs hv hu hbad
    have heq := (doSignatureVerifyDone_checks hv).trans (if_neg (by rcases hbad with h | h | h <;> simp [h]))
    rw [hu] at heq
    obtain ⟨hfails, hdebug, hpend, hsame⟩ := State.refuseToken_facts { s with thm := { s.thm with verify := l } } hs level v.for_
    exact ⟨_, (State.core_runs hs doSignatureVerifyDone).trans (congrArg _ heq), congrArg Thimble.verify hsame.thm,
      hfails.trans (congrArg (fun n => Nat.min 255 (n + 1)) (State.fld_congr rfl rfl _)), hdebug.trans (State.fld_congr rfl rfl _), hpend, hsame⟩
  case closes =>
    intro s h hs
    obtain ⟨hdebug, hlevel, hby, hregs, hsame⟩ := s.begun.closeDebug_complete h
    exact ⟨_, State.start_starts hs (doDebugClose h), hdebug, hlevel, hby, fun hnone => (hregs hnone).from rfl rfl, hsame⟩
  case peatToken =>
    intro s h scope k hs hl hscope
    refine (State.start_starts hs (doPeatClear h scope.val (some k))).trans (congrArg _ ?_)
    exact (if_neg hscope).trans (if_neg hl)
  case peatBlank =>
    intro s h scope k hs hl hscope
    have heq : doPeatClear h scope.val k s.begun = (s.begun.clearPeat scope.val 0).complete h .ok := (if_neg hscope).trans (if_pos hl)
    refine ⟨_, (State.start_starts hs (doPeatClear h scope.val k)).trans (congrArg _ heq), ?_, fun p hp hin hk => ?_, s.begun.clearPeat_complete _ h⟩
    · rw [State.pended_complete _ _ _ _ (by decide)]
      exact State.clearPeat_pended (s := s.begun) (State.runs_of_starts (s := s) hs) _ _
    · rw [State.complete_kept] at hp
      exact s.begun.clearPeat_zero hp hin hk

end Sys2Proof.Machine
end

section
set_option Elab.async false
/-! PROOFS. DRAM channels: refresh, rows, drift, training and fills (R196 to R217): the statement about them. -/

namespace Sys2Proof.Machine

variable {s t : State}

/-! ### A channel's state beside the registers -/

theorem State.fld_setDram (s : State) (c : Nat) (d : Dram) (f : Fld) : (s.setDram c d).fld f = s.fld f := State.fld_congr rfl rfl f

theorem State.bit_setDram (s : State) (c : Nat) (d : Dram) (f : Fld) : (s.setDram c d).bit f = s.bit f := by
  rw [State.bit, State.fld_setDram, State.bit]

theorem State.dmcState_setDram (s : State) (c k : Nat) (d : Dram) : (s.setDram c d).dmcState k = s.dmcState k := s.fld_setDram c d _

theorem State.dram_setDram (s : State) (c : Nat) (d : Dram) : (s.setDram c d).dram c = d := by
  simp only [State.dram, State.setDram, alGetD, alGet_alPut_same, Option.getD_some]

theorem State.dram_congr (h : t.drams = s.drams) (c : Nat) : t.dram c = s.dram c := by rw [State.dram, h, State.dram]

/-! ### Refresh (R199 to R201) -/

theorem State.dramRefresh_runs (hs : s.runs) (c : Dmc) (sub : Fin 2) (busy : Bool) :
    exec (.dramRefresh c sub busy) s = .next (s.doRefresh c.val sub.val busy) := State.core_runs hs _

theorem State.doRefresh_postponed {c : Nat} (h : s.dmcState c = dmcReady) (sub : Nat) (hn : alGetD (s.dram c).due sub 0 < 4) :
    s.doRefresh c sub true = s.setDram c { s.dram c with due := alPut (s.dram c).due sub (alGetD (s.dram c).due sub 0 + 1) } := by
  rw [State.doRefresh, if_pos h]
  exact if_pos ⟨rfl, hn⟩

/-- What is due once a refresh is made. -/
def stillDue (d : Dram) (sub : Nat) (busy : Bool) : Dram := if busy then d else { d with due := alDel d.due sub }

/-- A refresh that is made: of all banks, or of the one that the choice names. -/
theorem State.doRefresh_made {c : Nat} (h : s.dmcState c = dmcReady) (sub : Nat) (busy : Bool) (hn : busy = true → 4 ≤ alGetD (s.dram c).due sub 0) :
    s.doRefresh c sub busy =
      if s.allBank then s.setDram c { stillDue (s.dram c) sub busy with open_ := (stillDue (s.dram c) sub busy).open_.filter (fun e => e.1 / 512 != sub) }
      else s.tickFree.setDram c { stillDue (s.dram c) sub busy with
        open_ := alDel (stillDue (s.dram c) sub busy).open_ (sub * 512 + Config.choice s.free 512 % 512) } := by
  rw [State.doRefresh, if_pos h]
  exact if_neg (fun ⟨hb, hlt⟩ => absurd (hn hb) (Nat.not_le.mpr hlt))

theorem State.doRefresh_one {c : Nat} (h : s.dmcState c = dmcReady) (sub : Nat) (busy : Bool) (hn : busy = true → 4 ≤ alGetD (s.dram c).due sub 0)
    (hb : s.allBank = false) : ∃ b, b < 512 ∧ s.doRefresh c sub busy = State.setDram { s with free := s.free + 1 } c
      { stillDue (s.dram c) sub busy with open_ := alDel (s.dram c).open_ (sub * 512 + b) } := by
  refine ⟨Config.choice s.free 512 % 512, Nat.mod_lt _ (by decide), ?_⟩
  rw [State.doRefresh_made h sub busy hn, hb]
  cases busy <;> rfl

theorem State.doRefresh_all {c : Nat} (h : s.dmcState c = dmcReady) (sub : Nat) (busy : Bool) (hn : busy = true → 4 ≤ alGetD (s.dram c).due sub 0)
    (hb : s.allBank = true) : s.doRefresh c sub busy = s.setDram c
      { stillDue (s.dram c) sub busy with open_ := (s.dram c).open_.filter (fun (e : Nat × Nat) => e.1 / 512 != sub) } := by
  rw [State.doRefresh_made h sub busy hn, hb]
  cases busy <;> rfl

/-! ### Activates (R200, R202, R203) -/

theorem State.doActivate_off {c : Nat} (h : s.dmcState c = dmcSelfRefresh ∨ s.dmcState c = dmcOff) (loc : BurstLoc) (draw : Nat) :
    s.doActivate c loc draw = s := if_pos h

theorem State.rowHeld_eq_true {c : Nat} {loc : BurstLoc} (ht : s.throttles c = true)
    (h : s.fld (F.DMC_RH_CFG_thr_acts c) ≤ alGetD (alGetD (s.dram c).counters (locKey loc) []) loc.row.toNat 0) : s.rowHeld c loc = true := by
  rw [State.rowHeld, ht, decide_eq_true h, Bool.and_self]

theorem State.rowHeld_eq_false {c : Nat} {loc : BurstLoc} (h : s.throttles c = false ∨
    alGetD (alGetD (s.dram c).counters (locKey loc) []) loc.row.toNat 0 < s.fld (F.DMC_RH_CFG_thr_acts c)) : s.rowHeld c loc = false := by
  rw [State.rowHeld, Bool.and_eq_false_iff, decide_eq_false_iff_not, Nat.not_le]
  exact h

theorem State.doActivate_held {c : Nat} (h : s.dmcState c ≠ dmcSelfRefresh) (ho : s.dmcState c ≠ dmcOff) {loc : BurstLoc}
    (hh : s.rowHeld c loc = true) (draw : Nat) : s.doActivate c loc draw =
      (s.setDram c { s.dram c with held := (s.dram c).held ++ [(loc, draw)] }).sat (F.DMC_RH_STAT_holds c) := by
  rw [State.doActivate, if_neg (not_or.mpr ⟨h, ho⟩)]
  exact if_pos hh

/-- The row that an activate opens, where the page policy leaves it open. -/
def openRow (d : Dram) (loc : BurstLoc) : Dram := { d with open_ := alPut d.open_ (locKey loc) loc.row.toNat }

/-- The open rows of a channel without those of a bank. -/
def closeRow (d : Dram) (loc : BurstLoc) : Dram := { d with open_ := alDel d.open_ (locKey loc) }

/-- The row counters once an activate is counted. -/
def countAct (d : Dram) (loc : BurstLoc) : Dram :=
  { d with counters := alPut d.counters (locKey loc) (countRow (alGetD d.counters (locKey loc) []) loc.row.toNat) }

theorem State.doActivate_opens {c : Nat} (h : s.dmcState c ≠ dmcSelfRefresh) (ho : s.dmcState c ≠ dmcOff) {loc : BurstLoc}
    (hh : s.rowHeld c loc = false) (hi : s.fld (F.DMC_PAGE_CFG_idle_clk c) ≠ 0) (draw : Nat) {d : Dram}
    (hd : d = if s.throttles c then countAct (openRow (s.dram c) loc) loc else openRow (s.dram c) loc) : s.doActivate c loc draw =
      if s.bit (F.DMC_RH_CFG_pnr_en c) ∧ draw % 2 ^ s.fld (F.DMC_RH_CFG_k c) = 0 then (s.setDram c d).refreshNeighbours c (locKey loc)
      else s.setDram c d := by
  have hd' : d = if s.throttles c then countAct (if s.fld (F.DMC_PAGE_CFG_idle_clk c) = 0 then closeRow (s.dram c) loc else openRow (s.dram c) loc) loc
      else (if s.fld (F.DMC_PAGE_CFG_idle_clk c) = 0 then closeRow (s.dram c) loc else openRow (s.dram c) loc) := by rw [if_neg hi]; exact hd
  rw [State.doActivate, if_neg (not_or.mpr ⟨h, ho⟩)]
  refine (if_neg (by rw [hh]; decide)).trans ?_
  rw [← s.bit_setDram c d (F.DMC_RH_CFG_pnr_en c), ← s.fld_setDram c d (F.DMC_RH_CFG_k c), hd']
  rfl

theorem State.refreshNeighbours_closes (s : State) (c k : Nat) : alGet ((s.refreshNeighbours c k).dram c).open_ k = none := by
  rw [State.refreshNeighbours, State.dram_congr ((State.wrap_drams _ _ _).trans (Eq.refl _)), State.dram_setDram]
  exact alGet_alDel_same _ _

theorem State.refreshNeighbours_counts (s : State) (c k : Nat) :
    (s.refreshNeighbours c k).fld (F.DMC_RH_STAT_nrefs c) = (s.fld (F.DMC_RH_STAT_nrefs c) + 1) % 2 ^ 16 := by
  rw [State.refreshNeighbours, State.fld_wrap_eq _ _ (Nat.zero_le _) (by decide : 15 < 32), State.fld_setDram]
  rfl

theorem countRow_of_counted {l : List (Nat × Nat)} {row n : Nat} (h : alGet l row = some n) : countRow l row = alPut l row (n + 1) := by
  rw [countRow, h]

/-- The requests of one row. -/
abbrev sameRow (loc : BurstLoc) : BurstLoc → Bool := fun x => locKey x == locKey loc && x.row == loc.row

/-- A row's counter is set to a lower value. -/
def lowerRow (d : Dram) (loc : BurstLoc) (low : Nat) : Dram :=
  { d with counters := alPut d.counters (locKey loc) (alPut (alGetD d.counters (locKey loc) []) loc.row.toNat low) }

theorem State.doRowHold_held {c : Nat} {loc : BurstLoc} {low : Nat} (hh : s.rowHeld c loc = true)
    (hlen : (alDel (alGetD (s.dram c).counters (locKey loc) []) loc.row.toNat).length = 15)
    (hlow : (lowest (alDel (alGetD (s.dram c).counters (locKey loc) []) loc.row.toNat)).map (·.2) = some low) :
    s.doRowHold c loc = ((s.setDram c (lowerRow (s.dram c) loc low)).refreshNeighbours c (locKey loc)).releaseHeld c (sameRow loc) := by
  obtain ⟨p, hp, rfl⟩ := Option.map_eq_some_iff.mp hlow
  rw [State.doRowHold]
  simp only [hh, hlen, hp, Nat.lt_irrefl, if_true, if_false, Option.elim_some]
  rfl

theorem State.doRowHold_free {c : Nat} {loc : BurstLoc} (hh : s.rowHeld c loc = false) : s.doRowHold c loc = s.releaseHeld c (sameRow loc) := by
  rw [State.doRowHold]
  simp only [hh, Bool.false_eq_true, if_false]

theorem State.releaseHeld_one {c : Nat} {loc : BurstLoc} {draw : Nat} (h : (s.dram c).held = [(loc, draw)]) (p : BurstLoc → Bool) :
    s.releaseHeld c p = if p loc then (s.setDram c { s.dram c with held := [] }).doActivate c loc draw
      else s.setDram c { s.dram c with held := [(loc, draw)] } := by
  rw [State.releaseHeld]
  cases hp : p loc <;> simp [h, hp]

/-! ### Drift (R209) -/

theorem State.driftOf_beyond {c : Nat} {sub : Fin 2} {device : Fin 10} {d : Int} (h : 8 < d.natAbs)
    (hw : (alGetD (s.dram c).drift (sub.val * 10 + device.val) 0).natAbs ≤ 8) : s.driftOf c (sub, device, d) =
      (s.setDram c { s.dram c with drift := alPut (s.dram c).drift (sub.val * 10 + device.val) d }).raise (Ev.DMC_DRIFT (Fin.ofNat 16 c)) := by
  rw [State.driftOf]
  refine if_pos ⟨h, ?_⟩
  rw [decide_eq_false (Nat.not_lt.mpr hw)]
  rfl

theorem State.driftOf_within {c : Nat} {sub : Fin 2} {device : Fin 10} {d : Int}
    (h : d.natAbs ≤ 8 ∨ 8 < (alGetD (s.dram c).drift (sub.val * 10 + device.val) 0).natAbs) :
    s.driftOf c (sub, device, d) = s.setDram c { s.dram c with drift := alPut (s.dram c).drift (sub.val * 10 + device.val) d } := by
  rw [State.driftOf]
  refine if_neg (fun ⟨hd, hw⟩ => ?_)
  rcases h with h | h
  · exact absurd hd (Nat.not_lt.mpr h)
  · rw [decide_eq_true h] at hw
    exact absurd hw (by decide)

end Sys2Proof.Machine
end

section
set_option Elab.async false
/-! PROOFS. Training (R196, R197, R207, R208, R399): starting a helper, setting a channel READY, and the results of a run. -/

namespace Sys2Proof.Machine

variable {s t : State}

/-! ### Several fields written in order -/

/-- Fields take their values, in order. -/
def State.writes (s : State) (l : List (Fld × Nat)) : State := l.foldl (fun s x => s.setFld x.1 x.2) s

theorem State.writes_onlyRegs (s : State) (l : List (Fld × Nat)) : s.onlyRegs (s.writes l) :=
  State.onlyRegs.foldl (fun _ _ => State.onlyRegs.rfl.setFld _ _) l s

theorem State.writes_regsKept {k : List Nat} : ∀ {l : List (Fld × Nat)} (s : State), (∀ x ∈ l, x.1.off ∈ k) → s.regsKept (s.writes l) k
  | [], _, _ => .rfl
  | x :: l, s, h => by
    have hrest := State.writes_regsKept (s.setFld x.1 x.2) fun y hy => h y (List.mem_cons_of_mem _ hy)
    exact ((State.regsKept.rfl (s := s) (l := k)).setFld x.2 (h x List.mem_cons_self)).trans hrest |>.mono (by simp)

/-- A field apart from all that are written holds what it held. -/
theorem State.fld_writes_ne {f : Fld} : ∀ {l : List (Fld × Nat)} (s : State), (∀ x ∈ l, x.1.ok ∧ x.1.apart f) → (s.writes l).fld f = s.fld f
  | [], _, _ => rfl
  | x :: l, s, h => by
    obtain ⟨hok, hap⟩ := h x List.mem_cons_self
    exact (State.fld_writes_ne (s.setFld x.1 x.2) fun y hy => h y (List.mem_cons_of_mem _ hy)).trans (s.fld_setFld_other x.1 f x.2 hok hap)

/-- A field holds the last value written to it. -/
theorem State.fld_writes_of_mem {f : Fld} {v : Nat} (hf : f.ok) (hv : v < 2 ^ f.width) (l k : List (Fld × Nat)) (s : State)
    (h : ∀ x ∈ k, x.1.ok ∧ x.1.apart f) : (s.writes (l ++ (f, v) :: k)).fld f = v := by
  rw [State.writes, List.foldl_append, List.foldl_cons]
  exact (State.fld_writes_ne _ h).trans (State.fld_setFld_fits _ f v hv hf)

/-! ### Registers and channels only -/

/-- Beside registers and channels, a state is that of another. -/
def State.dramsOnly (s t : State) : Prop := t = { s with csr := t.csr, drams := t.drams }

theorem State.dramsOnly.of_onlyRegs (h : s.onlyRegs t) : s.dramsOnly t := by
  unfold State.onlyRegs at h
  unfold State.dramsOnly
  rw [h]

theorem State.dramsOnly.rfl : s.dramsOnly s := .of_onlyRegs .rfl

theorem State.dramsOnly.trans {u : State} (h : s.dramsOnly t) (k : t.dramsOnly u) : s.dramsOnly u := by
  unfold State.dramsOnly at *
  rw [k, h]

theorem State.setDram_dramsOnly (s : State) (c : Nat) (d : Dram) : s.dramsOnly (s.setDram c d) := by
  rw [State.dramsOnly, State.setDram]

theorem State.dramsOnly.setDram (h : s.dramsOnly t) (c : Nat) (d : Dram) : s.dramsOnly (t.setDram c d) := h.trans (t.setDram_dramsOnly c d)

theorem State.dramsOnly.setFld (h : s.dramsOnly t) (f : Fld) (v : Nat) : s.dramsOnly (t.setFld f v) :=
  h.trans (.of_onlyRegs (State.onlyRegs.rfl.setFld f v))

theorem State.onlyRegs.drams (h : s.onlyRegs t) : t.drams = s.drams := by unfold State.onlyRegs at h; rw [h]

theorem State.dramsOnly.mode (h : s.dramsOnly t) : t.mode = s.mode := by unfold State.dramsOnly at h; rw [h]
theorem State.dramsOnly.kept (h : s.dramsOnly t) : t.kept = s.kept := by unfold State.dramsOnly at h; rw [h]
theorem State.dramsOnly.fuses (h : s.dramsOnly t) : t.fuses = s.fuses := by unfold State.dramsOnly at h; rw [h]
theorem State.dramsOnly.boot (h : s.dramsOnly t) : t.boot = s.boot := by unfold State.dramsOnly at h; rw [h]
theorem State.dramsOnly.pops (h : s.dramsOnly t) : t.pops = s.pops := by unfold State.dramsOnly at h; rw [h]
theorem State.dramsOnly.serials (h : s.dramsOnly t) : t.serials = s.serials := by unfold State.dramsOnly at h; rw [h]
theorem State.dramsOnly.nor (h : s.dramsOnly t) : t.nor = s.nor := by unfold State.dramsOnly at h; rw [h]
theorem State.dramsOnly.dmarks (h : s.dramsOnly t) : t.dmarks = s.dmarks := by unfold State.dramsOnly at h; rw [h]
theorem State.dramsOnly.part (h : s.dramsOnly t) : t.part = s.part := by unfold State.dramsOnly at h; rw [h]

/-! ### The register of the helpers (R208) -/

/-- The fields of DMC_TRN_CTRL with the values that a write gives them. -/
def trnWrites (c : Nat) (v : Word) : List (Fld × Nat) :=
  [(F.DMC_TRN_CTRL_op c, bitsOf v 29 27), (F.DMC_TRN_CTRL_chain c, bitsOf v 26 24), (F.DMC_TRN_CTRL_lrank c, bitsOf v 23 20),
    (F.DMC_TRN_CTRL_subch c, bitsOf v 19 19), (F.DMC_TRN_CTRL_count c, Nat.max 1 (bitsOf v 15 8))]

/-- The fields of DMC_TRN_CTRL take their values. -/
def State.trnFields (s : State) (c : Nat) (v : Word) : State := s.writes (trnWrites c v)

theorem State.trnFields_onlyRegs (s : State) (c : Nat) (v : Word) : s.onlyRegs (s.trnFields c v) := s.writes_onlyRegs _

theorem State.trnFields_regsKept (s : State) (c : Nat) (v : Word) : s.regsKept (s.trnFields c v) [(F.DMC_TRN_CTRL_op c).off] :=
  s.writes_regsKept (by simp [trnWrites])

theorem State.fld_trnFields {f : Fld} {c : Nat} (s : State) (v : Word) (h : (F.DMC_TRN_CTRL_op c).off ≠ f.off) :
    (s.trnFields c v).fld f = s.fld f :=
  s.fld_writes_ne (by simp [trnWrites, Fld.ok, Fld.apart, h])

theorem trnCtrl_ne_status (c k : Nat) : (F.DMC_TRN_CTRL_op c).off ≠ (F.DMC_STATUS_state k).off := by
  change 0xC00100 + c * 0x10000 ≠ 0xC00000 + k * 0x10000
  omega

theorem trnCtrl_ne_boot (c : Nat) : (F.DMC_TRN_CTRL_op c).off ≠ F.NORC_BOOT_copy.off := by
  change 0xC00100 + c * 0x10000 ≠ F.NORC_BOOT_copy.off
  have h : F.NORC_BOOT_copy.off < 0xC00100 ∨ F.NORC_BOOT_copy.off % 256 ≠ 0 := by decide
  omega

theorem status_ne_boot (c : Nat) : (F.DMC_STATUS_state c).off ≠ F.NORC_BOOT_copy.off := by
  change 0xC00000 + c * 0x10000 ≠ F.NORC_BOOT_copy.off
  have h : F.NORC_BOOT_copy.off < 0xC00000 ∨ F.NORC_BOOT_copy.off % 256 ≠ 0 := by decide
  omega

theorem bitsOf_byte_lt (v : Word) : bitsOf v 15 8 < 256 := Nat.mod_lt _ (by decide)

theorem State.fld_trnFields_count (s : State) (c : Nat) (v : Word) : (s.trnFields c v).fld (F.DMC_TRN_CTRL_count c) = Nat.max 1 (bitsOf v 15 8) :=
  State.fld_writes_of_mem (by simp [Fld.ok]) (Nat.max_lt.mpr ⟨by simp [Fld.width], bitsOf_byte_lt v⟩)
    [(F.DMC_TRN_CTRL_op c, bitsOf v 29 27), (F.DMC_TRN_CTRL_chain c, bitsOf v 26 24), (F.DMC_TRN_CTRL_lrank c, bitsOf v 23 20),
      (F.DMC_TRN_CTRL_subch c, bitsOf v 19 19)] [] s (by simp)

/-- A helper operation starts (R208). -/
def State.startHelper (s : State) (c op : Nat) : State :=
  let s := if s.dmcState c = dmcOff then s.setFld (F.DMC_STATUS_state c) dmcTraining else s
  (s.setDram c { s.dram c with run := some op }).setBit (F.DMC_TRN_CTRL_busy c) true

theorem State.writeTrn_starts {c : Nat} {v : Word} (hc : c < s.part.dmcs) (hb : s.bit (F.DMC_TRN_CTRL_busy c) = false) (hgo : v.getLsbD 31 = true)
    (hop : bitsOf v 29 27 < 4) : s.writeTrn c v = (s.trnFields c v).startHelper c (bitsOf v 29 27) := by
  rw [State.writeTrn]
  refine (if_neg (not_or.mpr ⟨Nat.not_le.mpr hc, fun h => ?_⟩)).trans ?_
  · rw [hb] at h
    exact absurd h.2 (by decide)
  · exact if_pos ⟨hgo, hop⟩

theorem State.writeTrn_setsReady {c : Nat} {v : Word} (hc : c < s.part.dmcs) (hb : s.bit (F.DMC_TRN_CTRL_busy c) = false) (hgo : v.getLsbD 31 = true)
    (hop : bitsOf v 29 27 = 4) : s.writeTrn c v = (s.trnFields c v).setReadyOp c := by
  rw [State.writeTrn]
  refine (if_neg (not_or.mpr ⟨Nat.not_le.mpr hc, fun h => ?_⟩)).trans ?_
  · rw [hb] at h
    exact absurd h.2 (by decide)
  · exact (if_neg (fun h => absurd h.2 (by rw [hop]; decide))).trans (if_pos ⟨hgo, hop⟩)

/-- A channel in training is no longer OFF. -/
def State.leaveOff (s : State) (c : Nat) : State := if s.dmcState c = dmcOff then s.setFld (F.DMC_STATUS_state c) dmcTraining else s

theorem State.startHelper_eq (s : State) (c op : Nat) : s.startHelper c op =
    ((s.leaveOff c).setDram c { (s.leaveOff c).dram c with run := some op }).setBit (F.DMC_TRN_CTRL_busy c) true := rfl

theorem State.leaveOff_state (s : State) (c : Nat) : (s.leaveOff c).dmcState c = if s.dmcState c = dmcOff then dmcTraining else s.dmcState c := by
  rw [State.leaveOff]
  split
  · exact State.fld_setFld_of_lt _ _ (by decide : 1 < 2 ^ 2) (by decide : 30 ≤ 31) (by decide : 31 < 32)
  · rfl

theorem State.leaveOff_onlyRegs (s : State) (c : Nat) : s.onlyRegs (s.leaveOff c) := .ite (State.onlyRegs.rfl.setFld _ _) .rfl

theorem State.leaveOff_regsKept (s : State) (c : Nat) : s.regsKept (s.leaveOff c) [(F.DMC_STATUS_state c).off] :=
  .ite (s.setFld_regsKept _ _) .rfl

theorem State.fld_leaveOff {f : Fld} {c : Nat} (s : State) (h : (F.DMC_STATUS_state c).off ≠ f.off) : (s.leaveOff c).fld f = s.fld f := by
  rw [State.leaveOff]
  split
  · exact State.fld_setFld_ne _ _ (by decide : 30 ≤ 31) (by decide : 31 < 32) (.inl h)
  · rfl

theorem State.leaveOff_dramsOnly (s : State) (c : Nat) : s.dramsOnly (s.leaveOff c) := .of_onlyRegs (s.leaveOff_onlyRegs c)

theorem State.fld_busy_ne {f : Fld} (s : State) (c : Nat) (b : Bool) (h : (F.DMC_TRN_CTRL_busy c).apart f) :
    (s.setBit (F.DMC_TRN_CTRL_busy c) b).fld f = s.fld f := by
  rw [State.setBit]
  exact State.fld_setFld_other s (F.DMC_TRN_CTRL_busy c) f _ (by simp [Fld.ok]) h

theorem State.bit_busy (s : State) (c : Nat) (b : Bool) : (s.setBit (F.DMC_TRN_CTRL_busy c) b).bit (F.DMC_TRN_CTRL_busy c) = b :=
  State.bit_setBit_same s _ b (by simp [Fld.ok])

theorem State.busy_regsKept (s : State) (c : Nat) (b : Bool) : s.regsKept (s.setBit (F.DMC_TRN_CTRL_busy c) b) [(F.DMC_TRN_CTRL_op c).off] :=
  s.setFld_regsKept _ _

theorem State.startHelper_run (s : State) (c op : Nat) : ((s.startHelper c op).dram c).run = some op := by
  rw [State.startHelper_eq, State.dram_congr (State.setBit_drams _ _ _), State.dram_setDram]

theorem State.startHelper_busy (s : State) (c op : Nat) : (s.startHelper c op).bit (F.DMC_TRN_CTRL_busy c) = true := by
  rw [State.startHelper_eq, State.bit_busy]

theorem State.startHelper_state (s : State) (c op : Nat) :
    (s.startHelper c op).dmcState c = if s.dmcState c = dmcOff then dmcTraining else s.dmcState c := by
  rw [State.startHelper_eq, State.dmcState, State.fld_busy_ne _ _ _ (.inl (trnCtrl_ne_status c c)), State.fld_setDram]
  exact s.leaveOff_state c

theorem State.startHelper_count (s : State) (c op : Nat) :
    (s.startHelper c op).fld (F.DMC_TRN_CTRL_count c) = s.fld (F.DMC_TRN_CTRL_count c) := by
  rw [State.startHelper_eq, State.fld_busy_ne _ _ _ (by simp [Fld.apart]), State.fld_setDram]
  exact State.fld_leaveOff s (f := F.DMC_TRN_CTRL_count c) (trnCtrl_ne_status c c).symm

theorem State.startHelper_regsKept (s : State) (c op : Nat) :
    s.regsKept (s.startHelper c op) [(F.DMC_STATUS_state c).off, (F.DMC_TRN_CTRL_op c).off] := by
  rw [State.startHelper_eq]
  exact ((s.leaveOff_regsKept c).trans (State.regsKept_of_csr (l := []) rfl rfl)).trans (State.busy_regsKept _ c true)

theorem State.startHelper_dramsOnly (s : State) (c op : Nat) : s.dramsOnly (s.startHelper c op) := by
  rw [State.startHelper_eq]
  exact ((s.leaveOff_dramsOnly c).setDram c _).setFld _ _

/-- What a go of a helper operation makes of a channel (R208). -/
structure State.HelperRuns (s t : State) (c op : Nat) (v : Word) : Prop where
  run : (t.dram c).run = some op
  busy : t.bit (F.DMC_TRN_CTRL_busy c) = true
  state : t.dmcState c = if s.dmcState c = dmcOff then dmcTraining else s.dmcState c
  count : t.fld (F.DMC_TRN_CTRL_count c) = Nat.max 1 (bitsOf v 15 8)
  regs : s.regsKept t [(F.DMC_TRN_CTRL_op c).off, (F.DMC_STATUS_state c).off]
  rest : s.dramsOnly t

/-- A go of a helper operation starts its run, and changes nothing but the channel's registers and its state behind them. -/
theorem State.helper_starts {c : Nat} {v : Word} {op : Nat} (hop : bitsOf v 29 27 = op) (hlt : op < 4) (hgo : v.getLsbD 31 = true)
    (hc : c < s.part.dmcs) (hb : s.bit (F.DMC_TRN_CTRL_busy c) = false) : s.HelperRuns (s.writeTrn c v) c op v := by
  have hstate : (s.trnFields c v).dmcState c = s.dmcState c := s.fld_trnFields v (trnCtrl_ne_status c c)
  rw [State.writeTrn_starts hc hb hgo (hop ▸ hlt), hop]
  exact
    { run := State.startHelper_run _ c op
      busy := State.startHelper_busy _ c op
      state := hstate ▸ State.startHelper_state _ c op
      count := (State.startHelper_count _ c op).trans (s.fld_trnFields_count c v)
      regs := ((s.trnFields_regsKept c v).trans (State.startHelper_regsKept _ c op)).mono (by simp)
      rest := (State.dramsOnly.of_onlyRegs (s.trnFields_onlyRegs c v)).trans (State.startHelper_dramsOnly _ c op) }

/-! ### A channel goes READY, or is left OFF (R196, R197, R207, R399) -/

theorem State.channelRate_congr (hn : t.nor = s.nor) (hb : t.bit F.NORC_BOOT_copy = s.bit F.NORC_BOOT_copy) (c : Nat) (p : DimmPop) (d : Dimm) :
    t.channelRate c p d = s.channelRate c p d := by rw [State.channelRate, hn, hb, State.channelRate]

theorem State.keptMark_congr (h : t.dmarks = s.dmarks) (p : DimmPop) (sub : Nat) : t.keptMark p sub = s.keptMark p sub := by
  rw [State.keptMark, h, State.keptMark]

theorem rateCode_le (m : Nat) : rateCode m ≤ 4 := by
  unfold rateCode
  (repeat' split) <;> decide

/-- The image's entry for a channel. -/
def ddrOf (s : State) (c : Nat) : Option DdrEntry :=
  (((s.nor.copy (s.bit F.NORC_BOOT_copy)).map (·.ddr)).getD []).find? (fun e => e.chan.val == c)

theorem State.channelRate_none (c : Nat) (p : DimmPop) (d : Dimm) (h : ddrOf s c = none) : s.channelRate c p d = 0 := by
  rw [ddrOf] at h
  rw [State.channelRate]
  simp only [h]

theorem State.channelRate_some {c : Nat} {e : DdrEntry} (p : DimmPop) (d : Dimm) (h : ddrOf s c = some e) : s.channelRate c p d =
    Nat.min (Nat.min (rateCode d.rate) (e.rate.elim (rateCode d.rate) (·.val))) (loadingRate (if p.slot1.isSome then 2 else 1) e.trace e.spacing) := by
  rw [ddrOf] at h
  rw [State.channelRate]
  simp only [h]

theorem State.channelRate_le (s : State) (c : Nat) (p : DimmPop) (d : Dimm) : s.channelRate c p d ≤ 4 := by
  cases h : ddrOf s c with
  | none => rw [State.channelRate_none c p d h]; decide
  | some e =>
    rw [State.channelRate_some p d h]
    exact (Nat.min_le_left _ _).trans ((Nat.min_le_left _ _).trans (rateCode_le _))

/-- The populations and the serial numbers of the DIMMs that are used. -/
def State.withPops (s : State) (pops : List (Nat × Pop)) (serials : List (Nat × Nat)) : State := { s with pops := pops, serials := serials }

theorem State.fld_withPops (s : State) (a : List (Nat × Pop)) (b : List (Nat × Nat)) (f : Fld) : (s.withPops a b).fld f = s.fld f :=
  State.fld_congr rfl rfl f

theorem State.bit_withPops (s : State) (a : List (Nat × Pop)) (b : List (Nat × Nat)) (f : Fld) : (s.withPops a b).bit f = s.bit f := by
  rw [State.bit, State.fld_withPops, State.bit]

/-- The serial numbers once a channel's DIMMs are used. -/
def serialsWith (l : List (Nat × Nat)) (c : Nat) (p : DimmPop) (d : Dimm) : List (Nat × Nat) :=
  p.slot1.elim (alPut l (c * 2) d.serial) (fun e => alPut (alPut l (c * 2) d.serial) (c * 2 + 1) e.serial)

theorem alGet_serialsWith (l : List (Nat × Nat)) (c : Nat) (p : DimmPop) (d : Dimm) : alGet (serialsWith l c p d) (c * 2) = some d.serial := by
  rw [serialsWith]
  cases p.slot1 with
  | none => exact alGet_alPut_same _ _ _
  | some e => exact (alGet_alPut_other _ _ _ _ (by omega)).trans (alGet_alPut_same _ _ _)

theorem alGet_serialsWith_second (l : List (Nat × Nat)) (c : Nat) {p : DimmPop} {e : Dimm} (d : Dimm) (h : p.slot1 = some e) :
    alGet (serialsWith l c p d) (c * 2 + 1) = some e.serial := by
  rw [serialsWith, h]
  exact alGet_alPut_same _ _ _

/-- The fields of DMC_STATUS of a channel that is READY. -/
def readyWrites (c rate m0 m1 : Nat) (two : Bool) : List (Fld × Nat) :=
  [(F.DMC_STATUS_state c, dmcReady), (F.DMC_STATUS_rate c, rate), (F.DMC_STATUS_dimm0 c, if true then 1 else 0),
    (F.DMC_STATUS_dimm1 c, if two then 1 else 0), (F.DMC_STATUS_mark0 c, m0), (F.DMC_STATUS_mark1 c, m1)]

/-- What DMC_STATUS shows of a READY channel. -/
theorem State.fld_readyWrites (s : State) (c m0 m1 : Nat) (two : Bool) {rate : Nat} (hr : rate ≤ 4) :
    (s.writes (readyWrites c rate m0 m1 two)).fld (F.DMC_STATUS_state c) = dmcReady ∧
    (s.writes (readyWrites c rate m0 m1 two)).fld (F.DMC_STATUS_rate c) = rate ∧
    (s.writes (readyWrites c rate m0 m1 two)).fld (F.DMC_STATUS_mark0 c) = m0 % 16 ∧
    (s.writes (readyWrites c rate m0 m1 two)).fld (F.DMC_STATUS_mark1 c) = m1 % 16 := by
  refine ⟨State.fld_writes_of_mem (by simp [Fld.ok]) (by simp [Fld.width, dmcReady]) [] _ s (by simp [Fld.ok, Fld.apart]),
    State.fld_writes_of_mem (by simp [Fld.ok]) (by simp [Fld.width]; omega) [_] _ s (by simp [Fld.ok, Fld.apart]), ?_, ?_⟩
  · rw [readyWrites, State.writes, List.foldl_cons, List.foldl_cons, List.foldl_cons, List.foldl_cons, List.foldl_cons]
    exact (State.fld_writes_ne (l := [_]) _ (by simp [Fld.ok, Fld.apart])).trans (State.fld_setFld_same _ _ _ (by simp [Fld.ok]))
  · exact State.fld_setFld_same _ _ _ (by simp [Fld.ok])

/-- A channel's populations and serial numbers once its DIMMs are in use. -/
def State.useDimms (s : State) (c : Nat) (p : DimmPop) (d : Dimm) : State :=
  s.withPops (alPut s.pops c (popOf p d)) (serialsWith s.serials c p d)

theorem State.channelRate_useDimms (s : State) (c : Nat) (p : DimmPop) (d : Dimm) : (s.useDimms c p d).channelRate c p d = s.channelRate c p d :=
  State.channelRate_congr (by rw [State.useDimms, State.withPops]) (by rw [State.useDimms, State.bit_withPops]) c p d

theorem State.writes_dmarks (s : State) (l : List (Fld × Nat)) : (s.writes l).dmarks = s.dmarks := by
  have h := s.writes_onlyRegs l
  unfold State.onlyRegs at h
  rw [h]

theorem State.keptMark_useDimms (s : State) (c k : Nat) (p q : DimmPop) (d : Dimm) (l : List (Fld × Nat)) :
    ((s.useDimms c p d).writes l).keptMark q k = s.keptMark q k :=
  State.keptMark_congr (by rw [State.writes_dmarks, State.useDimms, State.withPops]) q k

/-- DMC_STATUS before the marks. -/
abbrev stateWrites (c rate : Nat) (two : Bool) : List (Fld × Nat) :=
  [(F.DMC_STATUS_state c, dmcReady), (F.DMC_STATUS_rate c, rate), (F.DMC_STATUS_dimm0 c, if true then 1 else 0),
    (F.DMC_STATUS_dimm1 c, if two then 1 else 0)]

theorem State.setReady_marks (s : State) (c : Nat) (p : DimmPop) (d : Dimm) {u : State}
    (hu : u = (s.useDimms c p d).writes (stateWrites c ((s.useDimms c p d).channelRate c p d) p.slot1.isSome)) :
    s.setReady c p d = (u.writes [(F.DMC_STATUS_mark0 c, u.keptMark p 0), (F.DMC_STATUS_mark1 c, u.keptMark p 1)]).setDram c
      { directed := d.directedRm, spd := some p } := by
  subst hu
  rfl

/-- A channel's DIMMs are in use: populations, DMC_STATUS and the channel behind it. -/
theorem State.setReady_eq (s : State) (c : Nat) (p : DimmPop) (d : Dimm) : s.setReady c p d =
    ((s.useDimms c p d).writes (readyWrites c (s.channelRate c p d) (s.keptMark p 0) (s.keptMark p 1) p.slot1.isSome)).setDram c
      { directed := d.directedRm, spd := some p } := by
  rw [State.setReady_marks s c p d (Eq.refl _), State.keptMark_useDimms, State.keptMark_useDimms, State.channelRate_useDimms, State.writes,
    State.writes, ← List.foldl_append]
  rw [readyWrites, State.writes, List.cons_append, List.cons_append, List.cons_append, List.cons_append, List.nil_append]

/-- The fields of DMC_STATUS of a channel that is OFF. -/
def offWrites (c : Nat) : List (Fld × Nat) := [(F.DMC_STATUS_state c, dmcOff), (F.DMC_STATUS_dimm0 c, 0), (F.DMC_STATUS_dimm1 c, 0)]

theorem State.chanOff_eq (s : State) (c : Nat) :
    s.chanOff c = (s.withPops (alDel s.pops c) (alDel (alDel s.serials (c * 2)) (c * 2 + 1))).writes (offWrites c) := rfl

theorem State.fld_offWrites (s : State) (c : Nat) : (s.writes (offWrites c)).fld (F.DMC_STATUS_state c) = dmcOff ∧
    (s.writes (offWrites c)).fld (F.DMC_STATUS_dimm0 c) = 0 ∧ (s.writes (offWrites c)).fld (F.DMC_STATUS_dimm1 c) = 0 :=
  ⟨State.fld_writes_of_mem (by simp [Fld.ok]) (by simp [Fld.width]) [] _ s (by simp [Fld.ok, Fld.apart]),
    State.fld_writes_of_mem (by simp [Fld.ok]) (by simp [Fld.width]) [_] _ s (by simp [Fld.ok, Fld.apart]),
    State.fld_writes_of_mem (by simp [Fld.ok]) (by simp [Fld.width]) [_, _] [] s (by simp)⟩

theorem Part.dmcs_le (p : Part) : p.dmcs ≤ 16 := by cases p <;> decide

/-- The events of a channel that the part has belong to no fused unit. -/
theorem State.fusedEvent_dmc {c : Nat} (hc : c < s.part.dmcs) {ev : Nat} (hhi : ev < 256 + 16 * (c % 16) + 16) :
    s.fusedEvent ev = false := by
  rw [State.fusedEvent]
  cases hp : s.part with
  | hx => rfl
  | mx =>
    rw [hp] at hc
    replace hc : c < 8 := hc
    simp only [Bool.or_eq_false_iff, Bool.and_eq_false_iff, decide_eq_false_iff_not]
    exact ⟨.inl (by omega), .inl (by omega)⟩

theorem State.pended_raise_dmc {c : Nat} (hc : c < s.part.dmcs) (hm : s.mode ≠ .reset) {ev : Nat}
    (hhi : ev < 256 + 16 * (c % 16) + 16) (inst : Nat) : (s.raise ev inst).pended ev = true :=
  State.pended_raise _ _ _ (by omega) hm (State.fusedEvent_dmc hc hhi)

/-- The state in which op 4 finds the DIMMs of a channel (R207). -/
def State.foundPop (s : State) (c : Nat) (v : Word) (p : DimmPop) : State := (s.setDram c { s.dram c with spd := some p }).trnFields c v

theorem State.doSetReady_eq {c : Nat} {v : Word} (hc : c < s.part.dmcs) (hb : s.bit (F.DMC_TRN_CTRL_busy c) = false) (hgo : v.getLsbD 31 = true)
    (hop : bitsOf v 29 27 = 4) (p : DimmPop) : s.doSetReady c v p = (s.foundPop c v p).setReadyOp c := by
  rw [State.doSetReady, if_pos hc]
  exact State.writeTrn_setsReady hc (by rw [State.bit_setDram]; exact hb) hgo hop

theorem State.foundPop_dramsOnly (s : State) (c : Nat) (v : Word) (p : DimmPop) : s.dramsOnly (s.foundPop c v p) :=
  (s.setDram_dramsOnly c _).trans (.of_onlyRegs (State.trnFields_onlyRegs _ c v))

theorem State.foundPop_drams (s : State) (c : Nat) (v : Word) (p : DimmPop) : (s.foundPop c v p).dram c = { s.dram c with spd := some p } := by
  rw [State.foundPop, State.dram_congr (State.trnFields_onlyRegs _ c v).drams, State.dram_setDram]

theorem State.foundPop_copy (s : State) (c : Nat) (v : Word) (p : DimmPop) :
    (s.foundPop c v p).bit F.NORC_BOOT_copy = s.bit F.NORC_BOOT_copy := by
  rw [State.bit, State.foundPop, State.fld_trnFields _ v (trnCtrl_ne_boot c), State.fld_setDram, State.bit]

/-- Op 4 of a channel with a fit population, in BRINGUP before the fill. -/
theorem State.setReadyOp_fit {c : Nat} {p : DimmPop} {d : Dimm} (hm : s.mode = .bringup) (hf : s.boot.filled = false)
    (hp : (s.dram c).spd = some p) (hd : p.slot0 = some d) (hok : popOk p = true) : s.setReadyOp c = s.setReady c p d := by
  rw [State.setReadyOp]
  simp [hm, hf, hp, hd, hok]

/-- Op 4 of a channel whose population breaks R197. -/
theorem State.setReadyOp_unfit {c : Nat} {p : DimmPop} (hm : s.mode = .bringup) (hf : s.boot.filled = false) (hp : (s.dram c).spd = some p)
    (hsome : p.slot0 ≠ none ∨ p.slot1 ≠ none) (hok : popOk p = false) :
    s.setReadyOp c = (s.chanOff c).raise (Ev.DMC_POP_BAD (Fin.ofNat 16 c)) := by
  have hnone : ¬ (p.slot0 = none ∧ p.slot1 = none) := fun ⟨h0, h1⟩ => hsome.elim (· h0) (· h1)
  rw [State.setReadyOp]
  simp [hm, hf, hp, hok, hnone]

end Sys2Proof.Machine
end

section
set_option Elab.async false
/-! PROOFS. The end of a helper run (R208): what the result registers hold. -/

namespace Sys2Proof.Machine

variable {s t : State}

/-! ### The points of a lane -/

/-- Failing bursts at each point of a lane's run. -/
def lanePoints (n : Nat) (codes lane : List Nat) : List (Nat × Nat) := codes.zipIdx.map (fun y => (y.1, Nat.min n (lane.getD y.2 0)))

/-- The codes of a sweep that passed. -/
def lanePass (n : Nat) (codes lane : List Nat) : List Nat := ((lanePoints n codes lane).filter (fun y => y.2 == 0)).map (·.1)

theorem lanePass_sublist (n : Nat) (codes lane : List Nat) : (lanePass n codes lane).Sublist codes := by
  have h : (lanePoints n codes lane).map (·.1) = codes := by
    rw [lanePoints, List.map_map]
    exact List.zipIdx_map_fst 0 codes
  calc ((lanePoints n codes lane).filter (fun y => y.2 == 0)).map (·.1)
      |>.Sublist ((lanePoints n codes lane).map (·.1)) := List.filter_sublist.map _
    _ = codes := h

theorem mem_lanePass {n k x : Nat} {codes lane : List Nat} (hk : codes[k]? = some x) (h : lane.getD k 0 = 0) : x ∈ lanePass n codes lane := by
  rw [lanePass, List.mem_map]
  refine ⟨(x, 0), List.mem_filter.mpr ⟨?_, rfl⟩, rfl⟩
  rw [lanePoints, List.mem_map]
  refine ⟨(x, k), List.mem_zipIdx_iff_getElem?.mpr hk, ?_⟩
  rw [h, Nat.min_eq_min, Nat.min_zero]

/-- A rising list has its members between its first and its last. -/
theorem headD_le_of_pairwise {l : List Nat} (hl : l.Pairwise (· < ·)) {x : Nat} (hx : x ∈ l) (a : Nat) : l.headD a ≤ x := by
  cases l with
  | nil => exact absurd hx List.not_mem_nil
  | cons y l =>
    rcases List.mem_cons.mp hx with rfl | hx
    · exact le_rfl
    · exact ((List.pairwise_cons.mp hl).1 x hx).le

theorem le_getLastD_of_pairwise {l : List Nat} (hl : l.Pairwise (· < ·)) {x : Nat} (hx : x ∈ l) (a : Nat) : x ≤ l.getLastD a := by
  induction l generalizing a x with
  | nil => exact absurd hx List.not_mem_nil
  | cons y l ih =>
    obtain ⟨hy, hl'⟩ := List.pairwise_cons.mp hl
    rw [List.getLastD_cons]
    rcases List.mem_cons.mp hx with rfl | hx
    · cases l with
      | nil => exact le_rfl
      | cons z l => exact (hy z List.mem_cons_self).le.trans (ih hl' List.mem_cons_self _)
    · exact ih hl' hx y

/-! ### The codes of a sweep -/

theorem State.mem_sweepCodes {c x : Nat} (h : x ∈ s.sweepCodes c) : x < 1024 := by
  rw [State.sweepCodes, List.mem_filter, decide_eq_true_iff] at h
  exact h.2.trans_lt (Nat.mod_lt _ (Nat.two_pow_pos _))

theorem State.sweepCodes_rise (s : State) (c : Nat) : (s.sweepCodes c).Pairwise (· < ·) := by
  rw [State.sweepCodes]
  refine List.Pairwise.filter _ (List.Pairwise.map _ (fun a b hab => ?_) List.pairwise_lt_range)
  exact Nat.add_lt_add_left (Nat.mul_lt_mul_of_pos_right hab (Nat.lt_of_lt_of_le Nat.zero_lt_one (Nat.le_max_left _ _))) _

/-! ### The results of the lanes -/

/-- The codes that a run of an operation tries. -/
def State.runCodes (s : State) (c op : Nat) : List Nat := if op = 2 then s.sweepCodes c else [0]

theorem State.runCodes_sweep (s : State) (c : Nat) : s.runCodes c 2 = s.sweepCodes c := by rw [State.runCodes, if_pos (Eq.refl _)]

/-- Bursts run at each point. -/
abbrev State.burstCount (s : State) (c : Nat) : Nat := s.fld (F.DMC_TRN_CTRL_count c) * 16

/-- Failing bursts of a lane in all. -/
def laneFails (n : Nat) (codes lane : List Nat) : Nat := Nat.min 4095 ((lanePoints n codes lane).foldl (fun n y => n + y.2) 0)

/-- The fields that the results of a lane are written to. -/
def laneWrites (c op : Nat) (n : Nat) (codes lane : List Nat) (i : Nat) : List (Fld × Nat) :=
  (F.DMC_TRN_RESn_fails c i, laneFails n codes lane) ::
    if op = 2 then [(F.DMC_TRN_RESn_first c i, (lanePass n codes lane).headD 1023), (F.DMC_TRN_RESn_last c i, (lanePass n codes lane).getLastD 0)]
    else []

theorem State.laneDone_eq (s : State) (c op : Nat) (lane : List Nat) (i : Nat) :
    s.laneDone c op (lane, i) = s.writes (laneWrites c op (s.burstCount c) (s.runCodes c op) lane i) := by
  by_cases h : op = 2
  · simp only [State.laneDone, laneWrites, laneFails, lanePass, lanePoints, State.runCodes, State.writes, if_pos h, List.foldl_cons, List.foldl_nil]
  · simp only [State.laneDone, laneWrites, laneFails, lanePoints, State.runCodes, State.writes, if_neg h, List.foldl_cons, List.foldl_nil]

/-- The register of the results of a lane. -/
abbrev resOff (c i : Nat) : Nat := 0xC00140 + c * 0x10000 + i * 0x4

theorem laneWrites_apart {c op n i : Nat} {codes lane : List Nat} {f : Fld} (hf : resOff c i ≠ f.off) :
    ∀ x ∈ laneWrites c op n codes lane i, x.1.ok ∧ x.1.apart f := by
  have h (lo hi : Nat) (hlo : lo ≤ hi) (hhi : hi < 32) : (⟨resOff c i, hi, lo⟩ : Fld).ok ∧ (⟨resOff c i, hi, lo⟩ : Fld).apart f :=
    ⟨⟨hlo, hhi⟩, .inl hf⟩
  intro x hx
  rw [laneWrites] at hx
  split at hx
  · simp only [List.mem_cons, List.not_mem_nil, or_false] at hx
    rcases hx with rfl | rfl | rfl
    · exact h 0 11 (by decide) (by decide)
    · exact h 22 31 (by decide) (by decide)
    · exact h 12 21 (by decide) (by decide)
  · rw [List.mem_singleton] at hx
    subst hx
    exact h 0 11 (by decide) (by decide)

/-- The lanes below a number have their results. -/
def State.lanesDone (s : State) (c op : Nat) (lanes : List (List Nat)) (k : Nat) : State :=
  ((List.range k).map (fun i => (lanes.getD i [], i))).foldl (fun s x => s.laneDone c op x) s

theorem State.lanesDone_succ (s : State) (c op : Nat) (lanes : List (List Nat)) (k : Nat) :
    s.lanesDone c op lanes (k + 1) = (s.lanesDone c op lanes k).laneDone c op (lanes.getD k [], k) := by
  rw [State.lanesDone, List.range_succ, List.map_append, List.foldl_append, ← State.lanesDone]
  rfl

theorem State.lanesDone_onlyRegs (s : State) (c op : Nat) (lanes : List (List Nat)) (k : Nat) : s.onlyRegs (s.lanesDone c op lanes k) :=
  State.onlyRegs.foldl (fun s x => by rw [State.laneDone_eq s c op x.1 x.2]; exact s.writes_onlyRegs _) _ s

/-- A field of no lane below the number holds what it held. -/
theorem State.fld_lanesDone_ne {f : Fld} {c op : Nat} {lanes : List (List Nat)} : ∀ {k : Nat}, (∀ i, i < k → resOff c i ≠ f.off) →
    (s.lanesDone c op lanes k).fld f = s.fld f
  | 0, _ => rfl
  | k + 1, h => by
    rw [State.lanesDone_succ, State.laneDone_eq, State.fld_writes_ne _ (laneWrites_apart (h k k.lt_succ_self))]
    exact State.fld_lanesDone_ne fun i hi => h i (hi.trans k.lt_succ_self)

theorem res_ne_ctrl (c i : Nat) : resOff c i ≠ (F.DMC_TRN_CTRL_count c).off := by
  change 0xC00140 + c * 0x10000 + i * 0x4 ≠ 0xC00100 + c * 0x10000
  omega

theorem res_ne_sweep (c i : Nat) : resOff c i ≠ (F.DMC_TRN_SWEEP_start c).off := by
  change 0xC00140 + c * 0x10000 + i * 0x4 ≠ 0xC00104 + c * 0x10000
  omega

theorem res_ne_res {c i k : Nat} (h : i ≠ k) : resOff c i ≠ resOff c k := by
  change 0xC00140 + c * 0x10000 + i * 0x4 ≠ 0xC00140 + c * 0x10000 + k * 0x4
  omega

theorem State.burstCount_lanesDone (s : State) (c op : Nat) (lanes : List (List Nat)) (k : Nat) :
    (s.lanesDone c op lanes k).burstCount c = s.burstCount c := by
  rw [State.burstCount, State.fld_lanesDone_ne (fun i _ => res_ne_ctrl c i)]

theorem State.sweepCodes_congr {c : Nat} (h : ∀ f : Fld, f.off = (F.DMC_TRN_SWEEP_start c).off → t.fld f = s.fld f) : t.sweepCodes c = s.sweepCodes c := by
  rw [State.sweepCodes, h (F.DMC_TRN_SWEEP_step c) rfl, h (F.DMC_TRN_SWEEP_start c) rfl, h (F.DMC_TRN_SWEEP_stop c) rfl, State.sweepCodes]

theorem State.runCodes_lanesDone (s : State) (c op : Nat) (lanes : List (List Nat)) (k : Nat) :
    (s.lanesDone c op lanes k).runCodes c op = s.runCodes c op := by
  rw [State.runCodes, State.sweepCodes_congr (s := s) (fun f hf => State.fld_lanesDone_ne (fun i _ => hf ▸ res_ne_sweep c i)), State.runCodes]

/-- A field of a lane holds what its results are. -/
theorem State.fld_lanesDone {f : Fld} {c op i : Nat} {lanes : List (List Nat)} (hf : f.off = resOff c i) : ∀ {k : Nat}, i < k → ∃ u : State,
    u.fld f = s.fld f ∧ (s.lanesDone c op lanes k).fld f = (u.writes (laneWrites c op (s.burstCount c) (s.runCodes c op) (lanes.getD i []) i)).fld f
  | k + 1, hi => by
    rw [State.lanesDone_succ, State.laneDone_eq, State.burstCount_lanesDone, State.runCodes_lanesDone]
    by_cases hik : i = k
    · subst hik
      exact ⟨_, State.fld_lanesDone_ne (fun j hj => hf ▸ res_ne_res (Nat.ne_of_lt hj)), rfl⟩
    · rw [State.fld_writes_ne _ (laneWrites_apart (hf ▸ res_ne_res (Ne.symm hik)))]
      exact State.fld_lanesDone hf (by omega)

theorem State.fld_laneWrites_fails (s : State) (c op n i : Nat) (codes lane : List Nat) :
    (s.writes (laneWrites c op n codes lane i)).fld (F.DMC_TRN_RESn_fails c i) = laneFails n codes lane := by
  refine State.fld_writes_of_mem (by simp [Fld.ok]) ?_ [] _ s ?_
  · exact (Nat.min_le_left _ _).trans_lt (by simp [Fld.width])
  · split <;> simp [Fld.ok, Fld.apart]

theorem lanePass_headD_lt {n a : Nat} {codes lane : List Nat} (h : ∀ x ∈ codes, x < 1024) (ha : a < 1024) : (lanePass n codes lane).headD a < 1024 := by
  cases hl : lanePass n codes lane with
  | nil => exact ha
  | cons x l => exact h x ((lanePass_sublist n codes lane).subset (hl ▸ List.mem_cons_self))

theorem getLastD_mem {l : List Nat} (hl : l ≠ []) (a : Nat) : l.getLastD a ∈ l := by
  rw [List.getLastD_eq_getLast?, List.getLast?_eq_getLast_of_ne_nil hl, Option.getD_some]
  exact List.getLast_mem hl

theorem lanePass_getLastD_lt {n a : Nat} {codes lane : List Nat} (h : ∀ x ∈ codes, x < 1024) (ha : a < 1024) :
    (lanePass n codes lane).getLastD a < 1024 := by
  by_cases hl : lanePass n codes lane = []
  · rw [hl]
    exact ha
  · exact h _ ((lanePass_sublist n codes lane).subset (getLastD_mem hl a))

theorem State.fld_laneWrites_sweep (s : State) {c n i : Nat} {codes : List Nat} (lane : List Nat) (h : ∀ x ∈ codes, x < 1024) :
    (s.writes (laneWrites c 2 n codes lane i)).fld (F.DMC_TRN_RESn_first c i) = (lanePass n codes lane).headD 1023 ∧
    (s.writes (laneWrites c 2 n codes lane i)).fld (F.DMC_TRN_RESn_last c i) = (lanePass n codes lane).getLastD 0 :=
  ⟨State.fld_writes_of_mem (by simp [Fld.ok]) (lanePass_headD_lt h (by decide)) [_] [_] s (by simp [Fld.ok, Fld.apart]),
    State.fld_writes_of_mem (by simp [Fld.ok]) (lanePass_getLastD_lt h (by decide)) [_, _] [] s (by simp)⟩

theorem State.fld_laneWrites_plain (s : State) {c op n i : Nat} {codes : List Nat} (lane : List Nat) (h : op ≠ 2) :
    (s.writes (laneWrites c op n codes lane i)).fld (F.DMC_TRN_RESn_first c i) = s.fld (F.DMC_TRN_RESn_first c i) ∧
    (s.writes (laneWrites c op n codes lane i)).fld (F.DMC_TRN_RESn_last c i) = s.fld (F.DMC_TRN_RESn_last c i) := by
  rw [laneWrites, if_neg h]
  exact ⟨State.fld_writes_ne s (by simp [Fld.ok, Fld.apart]), State.fld_writes_ne s (by simp [Fld.ok, Fld.apart])⟩

/-! ### The end of the run -/

/-- The helper is free again, with the results of its lanes written. -/
def State.runEnds (s : State) (c op : Nat) (lanes : List (List Nat)) : State :=
  ((s.lanesDone c op lanes 40).setDram c { (s.lanesDone c op lanes 40).dram c with run := none }).setBit (F.DMC_TRN_CTRL_busy c) false

theorem State.doRunDone_idle {c : Nat} (h : (s.dram c).run = none) (lanes : List (List Nat)) : s.doRunDone c lanes = s := by
  rw [State.doRunDone, h]

theorem State.doRunDone_ends {c op : Nat} (h : (s.dram c).run = some op) (lanes : List (List Nat)) : s.doRunDone c lanes = s.runEnds c op lanes := by
  rw [State.doRunDone, h, State.runEnds, State.lanesDone]

theorem State.runEnds_run (s : State) (c op : Nat) (lanes : List (List Nat)) : ((s.runEnds c op lanes).dram c).run = none := by
  rw [State.runEnds, State.dram_congr (State.setBit_drams _ _ _), State.dram_setDram]

theorem State.runEnds_dramsOnly (s : State) (c op : Nat) (lanes : List (List Nat)) : s.dramsOnly (s.runEnds c op lanes) :=
  ((State.dramsOnly.of_onlyRegs (s.lanesDone_onlyRegs c op lanes 40)).setDram c _).setFld _ _

theorem State.fld_runEnds {f : Fld} {c i : Nat} (s : State) (op : Nat) (lanes : List (List Nat)) (hf : f.off = resOff c i) (hi : i < 40) :
    ∃ u : State, u.fld f = s.fld f ∧
      (s.runEnds c op lanes).fld f = (u.writes (laneWrites c op (s.burstCount c) (s.runCodes c op) (lanes.getD i []) i)).fld f := by
  rw [State.runEnds, State.fld_busy_ne _ _ _ (.inl (hf ▸ (res_ne_ctrl c i).symm)), State.fld_setDram]
  exact State.fld_lanesDone hf hi

theorem State.runEnds_fails (s : State) {c op i : Nat} (lanes : List (List Nat)) (hi : i < 40) :
    (s.runEnds c op lanes).fld (F.DMC_TRN_RESn_fails c i) = laneFails (s.burstCount c) (s.runCodes c op) (lanes.getD i []) := by
  obtain ⟨u, -, hu⟩ := s.fld_runEnds (f := F.DMC_TRN_RESn_fails c i) op lanes rfl hi
  rw [hu, State.fld_laneWrites_fails]

theorem laneFails_single (n : Nat) (lane : List Nat) : laneFails n [0] lane = Nat.min 4095 (Nat.min n (lane.getD 0 0)) := by
  simp [laneFails, lanePoints]

theorem State.runEnds_plain (s : State) {c op i : Nat} (lanes : List (List Nat)) (hi : i < 40) (hop : op ≠ 2) :
    (s.runEnds c op lanes).fld (F.DMC_TRN_RESn_first c i) = s.fld (F.DMC_TRN_RESn_first c i) ∧
    (s.runEnds c op lanes).fld (F.DMC_TRN_RESn_last c i) = s.fld (F.DMC_TRN_RESn_last c i) := by
  obtain ⟨u, hu, hfirst⟩ := s.fld_runEnds (f := F.DMC_TRN_RESn_first c i) op lanes rfl hi
  obtain ⟨w, hw, hlast⟩ := s.fld_runEnds (f := F.DMC_TRN_RESn_last c i) op lanes rfl hi
  rw [hfirst, hlast, (u.fld_laneWrites_plain _ hop).1, (w.fld_laneWrites_plain _ hop).2]
  exact ⟨hu, hw⟩

/-- The codes of the sweep that a lane passed. -/
abbrev State.passed (s : State) (c : Nat) (lanes : List (List Nat)) (i : Nat) : List Nat :=
  lanePass (s.burstCount c) (s.sweepCodes c) (lanes.getD i [])

theorem State.runEnds_sweep (s : State) {c i : Nat} (lanes : List (List Nat)) (hi : i < 40) :
    (s.runEnds c 2 lanes).fld (F.DMC_TRN_RESn_first c i) = (s.passed c lanes i).headD 1023 ∧
    (s.runEnds c 2 lanes).fld (F.DMC_TRN_RESn_last c i) = (s.passed c lanes i).getLastD 0 := by
  obtain ⟨u, -, hfirst⟩ := s.fld_runEnds (f := F.DMC_TRN_RESn_first c i) 2 lanes rfl hi
  obtain ⟨w, -, hlast⟩ := s.fld_runEnds (f := F.DMC_TRN_RESn_last c i) 2 lanes rfl hi
  rw [hfirst, hlast, State.runCodes_sweep]
  exact ⟨(u.fld_laneWrites_sweep _ fun x hx => State.mem_sweepCodes hx).1, (w.fld_laneWrites_sweep _ fun x hx => State.mem_sweepCodes hx).2⟩

/-- The codes that a lane passes lie between the first and the last. -/
theorem State.runEnds_between (s : State) {c i k x : Nat} {lanes : List (List Nat)} (hi : i < 40) (hk : (s.sweepCodes c)[k]? = some x)
    (h : (lanes.getD i []).getD k 0 = 0) : (s.runEnds c 2 lanes).fld (F.DMC_TRN_RESn_first c i) ≤ x ∧
    x ≤ (s.runEnds c 2 lanes).fld (F.DMC_TRN_RESn_last c i) := by
  have hx : x ∈ s.passed c lanes i := mem_lanePass hk h
  have hrise : (s.passed c lanes i).Pairwise (· < ·) := (s.sweepCodes_rise c).sublist (lanePass_sublist _ _ _)
  obtain ⟨hfirst, hlast⟩ := s.runEnds_sweep (c := c) lanes hi
  rw [hfirst, hlast]
  exact ⟨headD_le_of_pairwise hrise hx _, le_getLastD_of_pairwise hrise hx _⟩

/-- The first and the last passing code are codes of the sweep. -/
theorem State.runEnds_ofSweep (s : State) {c i : Nat} {lanes : List (List Nat)} (hi : i < 40)
    (h : (s.runEnds c 2 lanes).fld (F.DMC_TRN_RESn_first c i) ≤ (s.runEnds c 2 lanes).fld (F.DMC_TRN_RESn_last c i)) :
    (s.runEnds c 2 lanes).fld (F.DMC_TRN_RESn_first c i) ∈ s.sweepCodes c ∧
    (s.runEnds c 2 lanes).fld (F.DMC_TRN_RESn_last c i) ∈ s.sweepCodes c := by
  obtain ⟨hfirst, hlast⟩ := s.runEnds_sweep (c := c) lanes hi
  rw [hfirst, hlast] at h ⊢
  have hne : s.passed c lanes i ≠ [] := fun hnil => by
    rw [hnil] at h
    exact absurd h (by decide)
  have hsub := (lanePass_sublist (s.burstCount c) (s.sweepCodes c) (lanes.getD i [])).subset
  refine ⟨hsub ?_, hsub (getLastD_mem hne 0)⟩
  cases hl : s.passed c lanes i with
  | nil => exact absurd hl hne
  | cons x l => rw [State.passed] at hl; rw [hl]; exact List.mem_cons_self

end Sys2Proof.Machine
end

section
set_option Elab.async false
/-! PROOFS. The fills (R197, R207, R215 to R217, R221), and the statement about the DRAM channels. -/

namespace Sys2Proof.Machine

variable {s t : State}

/-! ### Training that failed (R207) -/

/-- A channel in training is left OFF, and reported. -/
def State.failChannel (s : State) (c : Nat) : State := (s.setFld (F.DMC_STATUS_state c) dmcOff).raise (Ev.DMC_TRAIN_FAIL (Fin.ofNat 16 c))

theorem trainFail_lt (c : Fin 16) : Ev.DMC_TRAIN_FAIL c < 640 := by
  change 257 + 16 * c.val < 640
  omega

theorem State.failChannel_same (s : State) (c : Nat) : s.sameButEvents (s.failChannel c) := (s.setFld_sameButEvents _ _).raise _ _

theorem status_notEvent (c : Nat) : notEvent (F.DMC_STATUS_state c).off := by
  change (0xC00000 + c * 0x10000 < 0x30100 ∨ 0x301A0 ≤ 0xC00000 + c * 0x10000) ∧ _ ∧ _
  have hovf : F.EVT_OVF_frames.off < 0xC00000 := by decide
  have hlost : F.PEAT_STATUS_lost.off < 0xC00000 := by decide
  exact ⟨.inr (by omega), (Nat.lt_of_lt_of_le hovf (Nat.le_add_right _ _)).ne', (Nat.lt_of_lt_of_le hlost (Nat.le_add_right _ _)).ne'⟩

theorem State.failChannel_state (s : State) (c k : Nat) : (s.failChannel c).dmcState k = if k = c then dmcOff else s.dmcState k := by
  obtain ⟨hr, hovf, hlost⟩ := status_notEvent k
  rw [State.failChannel, State.dmcState, State.fld_raise _ _ _ (trainFail_lt _) hr hovf hlost]
  split
  · next h =>
    subst h
    exact State.fld_setFld_fits _ _ _ (by simp [Fld.width]) (by simp [Fld.ok])
  · next h =>
    refine State.fld_setFld_other _ _ _ _ (by simp [Fld.ok]) (.inl ?_)
    exact fun hoff => h (by simpa using hoff.symm)

theorem State.failChannel_pended_of_pended (s : State) (c : Nat) {ev : Nat} (hev : ev < 640) (h : s.pended ev = true) : (s.failChannel c).pended ev = true := by
  rw [State.failChannel]
  refine State.pended_raise_of_pended _ _ _ _ hev ?_
  rw [State.pended_setFld_ne _ _ _ _ hev (by decide : 30 ≤ 31) (by decide : 31 < 32) (.inr ?_)]
  · exact h
  · change 0x301A0 ≤ 0xC00000 + c * 0x10000
    omega

theorem State.failChannel_pended {c : Nat} (hc : c < s.part.dmcs) (hm : s.mode ≠ .reset) :
    (s.failChannel c).pended (Ev.DMC_TRAIN_FAIL (Fin.ofNat 16 c)) = true := by
  rw [State.failChannel]
  refine State.pended_raise_dmc (c := c) ?_ ?_ ?_ 0
  · rw [State.setFld_part]; exact hc
  · rw [State.setFld_mode]; exact hm
  · change 257 + 16 * (c % 16) < _
    omega

/-- What the channels that are left OFF change. -/
structure State.ChannelsFail (s t : State) (l : List Nat) : Prop where
  same : s.sameButEvents t
  state : ∀ k, t.dmcState k = if k ∈ l then dmcOff else s.dmcState k
  kept : ∀ ev, ev < 640 → s.pended ev = true → t.pended ev = true
  pended : s.mode ≠ .reset → ∀ c ∈ l, c < s.part.dmcs → t.pended (Ev.DMC_TRAIN_FAIL (Fin.ofNat 16 c)) = true

theorem State.failChannels (l : List Nat) (s : State) : s.ChannelsFail (l.foldl State.failChannel s) l := by
  induction l generalizing s with
  | nil => exact ⟨.rfl, fun k => by simp, fun _ _ h => h, fun _ c hc => absurd hc List.not_mem_nil⟩
  | cons c l ih =>
    obtain ⟨hsame, hstate, hkept, hpended⟩ := ih (s.failChannel c)
    have hone := s.failChannel_same c
    refine ⟨hone.trans hsame, fun k => ?_, fun ev hev h => hkept ev hev (s.failChannel_pended_of_pended c hev h), fun hm k hk hlt => ?_⟩
    · rw [List.foldl_cons, hstate, State.failChannel_state]
      by_cases hkc : k = c <;> simp [hkc]
    · rw [List.foldl_cons]
      rcases List.mem_cons.mp hk with rfl | hk
      · exact hkept _ (trainFail_lt _) (State.failChannel_pended hlt hm)
      · exact hpended (by rw [hone.mode]; exact hm) k hk (by rw [hone.part]; exact hlt)

theorem State.failTraining_eq (s : State) :
    s.failTraining = ((List.range s.part.dmcs).filter (fun c => s.dmcState c == dmcTraining)).foldl State.failChannel s := rfl

theorem State.failTraining_fails (s : State) :
    s.ChannelsFail s.failTraining ((List.range s.part.dmcs).filter (fun c => s.dmcState c == dmcTraining)) := by
  rw [State.failTraining_eq]
  exact State.failChannels _ s

theorem State.failTraining_state {c : Nat} (s : State) (hc : c < s.part.dmcs) :
    s.failTraining.dmcState c = if s.dmcState c = dmcTraining then dmcOff else s.dmcState c := by
  rw [s.failTraining_fails.state c]
  simp [hc]

theorem State.failTraining_pended {c : Nat} (hm : s.mode ≠ .reset) (hc : c < s.part.dmcs) (h : s.dmcState c = dmcTraining) :
    s.failTraining.pended (Ev.DMC_TRAIN_FAIL (Fin.ofNat 16 c)) = true :=
  s.failTraining_fails.pended hm c (by simp [hc, h]) hc

/-! ### Debug reads that wait -/

theorem State.releaseReads_none (h : s.boot.reads = []) : s.releaseReads = s := by
  have hboot : { s.boot with reads := [] } = s.boot := by rw [← h]
  rw [State.releaseReads, h, List.filter_nil, List.filter_nil, List.foldl_nil, hboot]

theorem State.releaseReads_one {a : Nat} (h : s.boot.reads = [a]) :
    s.releaseReads = if s.tapWaits a then s else State.tapRead { s with boot := { s.boot with reads := [] } } a := by
  rw [State.releaseReads, h]
  cases hw : s.tapWaits a with
  | true =>
    have hboot : { s.boot with reads := [a] } = s.boot := by rw [← h]
    simp [hw, hboot]
  | false => simp [hw]

/-! ### The carve-out (R215) -/

/-- An address of the carve-out. -/
def inCarve (a : Nat) : Bool := decide (carveBase ≤ a) && decide (a < carveEnd)

/-- Memory with nothing listed in the carve-out. -/
def clearCarve (m : List Host.Cell) : List Host.Cell := m.filter (fun c => !inCarve c.1)

theorem alGet_filter_none {α : Type} (f : Nat → Bool) (l : List (Nat × α)) {n : Nat} (h : f n = false) : alGet (l.filter (fun p => f p.1)) n = none := by
  induction l with
  | nil => rfl
  | cons p l ih =>
    obtain ⟨k, v⟩ := p
    rw [List.filter_cons]
    split
    · next hk =>
      rw [alGet_cons, if_neg (fun hkn => by rw [← hkn, hk] at h; exact absurd h (by decide)), ih]
    · exact ih

theorem memRead_clearCarve (m : List Host.Cell) (a : Nat) : memRead (clearCarve m) a = if carveBase ≤ a ∧ a < carveEnd then 0 else memRead m a := by
  by_cases h : carveBase ≤ a ∧ a < carveEnd
  · rw [if_pos h, memRead, clearCarve, alGet_filter_none (fun a => !inCarve a)]
    · rfl
    · rw [inCarve, decide_eq_true h.1, decide_eq_true h.2]
      rfl
  · rw [if_neg h, memRead, clearCarve, alGet_filter _ _ _ (fun _ => ?_), memRead]
    rw [inCarve, ← Bool.decide_and, decide_eq_false h]
    rfl

theorem clearCarve_wf {m : List Host.Cell} (h : Memory.wf m = true) : Memory.wf (clearCarve m) = true := memFilter_wf _ m h

/-- The carve-out is filled: it lies where the frames found let it, and it reads as zeros. -/
def State.fillCarve (s : State) : State :=
  { s with
    boot := { s.boot with filled := true }, moved := s.pops.flatMap (fun p => s.skipRetired p.1 p.2)
    kept := { s.kept with mem := clearCarve s.kept.mem } }

theorem State.doCarveFill_starts (hm : s.mode = .bringup) (hr : s.boot.ran = true) (hf : s.boot.filled = false) : s.doCarveFill =
    if 2 ≤ s.applyRecs.failTraining.pops.length ∧ 524288 ≤ s.applyRecs.failTraining.framesFound then s.applyRecs.failTraining.fillCarve
    else s.applyRecs.failTraining := by
  rw [State.doCarveFill, if_pos ⟨hm, hr, by rw [hf]; rfl⟩]
  rfl

theorem State.doCarveFill_none (h : s.mode ≠ .bringup ∨ s.boot.ran = false ∨ s.boot.filled = true) : s.doCarveFill = s := by
  rw [State.doCarveFill]
  refine if_neg (fun ⟨hm, hr, hf⟩ => ?_)
  rcases h with h | h | h
  · exact h hm
  · rw [h] at hr
    exact absurd hr (by decide)
  · rw [h] at hf
    exact absurd hf (by decide)

theorem State.failTraining_same (s : State) : s.sameButEvents s.failTraining := s.failTraining_fails.same

theorem State.framesFound_congr (h : t.pops = s.pops) : t.framesFound = s.framesFound := by rw [State.framesFound, h, State.framesFound]

theorem State.applyRecs_fld (s : State) (f : Fld) : s.applyRecs.fld f = s.fld f := State.fld_congr rfl rfl f

/-- The state of the channels once retirement records and failed training have taken effect. -/
theorem State.applied_state {c : Nat} (s : State) (hc : c < s.part.dmcs) :
    s.applyRecs.failTraining.dmcState c = if s.dmcState c = dmcTraining then dmcOff else s.dmcState c := by
  have h : s.applyRecs.dmcState c = s.dmcState c := s.applyRecs_fld _
  rw [State.failTraining_state s.applyRecs hc, h]

theorem State.applied_pops (s : State) : s.applyRecs.failTraining.pops = s.pops := s.applyRecs.failTraining_same.pops

theorem State.applied_framesFound (s : State) : s.applyRecs.failTraining.framesFound = s.framesFound := State.framesFound_congr s.applied_pops

theorem State.carveoutFill_fills (hm : s.mode = .bringup) (hr : s.boot.ran = true) (hf : s.boot.filled = false) (hreads : s.boot.reads = [])
    (h2 : 2 ≤ s.pops.length) (hframes : 524288 ≤ s.framesFound) : exec .carveoutFill s = .next s.applyRecs.failTraining.fillCarve := by
  have hfill : s.doCarveFill = s.applyRecs.failTraining.fillCarve := by
    rw [State.doCarveFill_starts hm hr hf, s.applied_pops, s.applied_framesFound, if_pos ⟨h2, hframes⟩]
  have hboot : s.applyRecs.failTraining.boot = s.boot := s.applyRecs.failTraining_same.boot
  change execCarveoutFill s = _
  refine (State.core_runs (by rw [State.runs, hm]; decide) _).trans ?_
  rw [hfill, State.releaseReads_none]
  rw [State.fillCarve, hboot]
  exact hreads

theorem State.carveoutFill_fails (hm : s.mode = .bringup) (hr : s.boot.ran = true) (hf : s.boot.filled = false) (hreads : s.boot.reads = [])
    (h : s.pops.length < 2 ∨ s.framesFound < 524288) : exec .carveoutFill s = .next s.applyRecs.failTraining := by
  have hfill : s.doCarveFill = s.applyRecs.failTraining := by
    rw [State.doCarveFill_starts hm hr hf, s.applied_pops, s.applied_framesFound]
    exact if_neg (fun ⟨h2, hframes⟩ => h.elim (Nat.not_lt.mpr h2) (Nat.not_lt.mpr hframes))
  change execCarveoutFill s = _
  refine (State.core_runs (by rw [State.runs, hm]; decide) _).trans ?_
  rw [hfill, State.releaseReads_none]
  rw [s.applyRecs.failTraining_same.boot]
  exact hreads

/-! ### A line of a fresh frame (R217) -/

theorem State.doFillLine_fills {tile l : Nat} (hf : s.fills = true) (ht : s.kept.freshAge.find? (fun u => (s.clearLineOf u).isSome) = some tile)
    (hl : s.clearLineOf tile = some l) : s.doFillLine = s.setValid tile l := by
  rw [State.doFillLine, hf]
  simp only [ht, hl, Option.elim_some, Bool.not_true, Bool.false_eq_true, if_false]

theorem State.doFillLine_none (h : s.fills = false ∨ s.kept.freshAge.find? (fun u => (s.clearLineOf u).isSome) = none) : s.doFillLine = s := by
  rw [State.doFillLine]
  rcases h with h | h
  · rw [h]
    rfl
  · simp [h]

theorem State.setValid_sets {tile l : Nat} {bits : List Nat} (h : alGet s.kept.freshTab tile = some bits) (hn : (setAdd bits l).length ≠ 256) :
    s.setValid tile l = { s with kept := { s.kept with freshTab := alPut s.kept.freshTab tile (setAdd bits l) } } := by
  rw [State.setValid, h]
  exact if_neg hn

theorem State.setValid_frees {tile l : Nat} {bits : List Nat} (h : alGet s.kept.freshTab tile = some bits) (hn : (setAdd bits l).length = 256) :
    s.setValid tile l = s.freeFresh tile := by
  rw [State.setValid, h]
  exact if_pos hn

theorem State.fillLine_runs (hs : s.runs) : exec .fillLine s = .next s.doFillLine.afterFree := by
  change execFillLine s = _
  exact State.core_runs hs _

/-! ### The register writes of training -/

theorem mode_of_passes {off : Nat} {v : Word} (hs : s.passes off v) : s.mode ≠ .reset := fun h => by
  rw [State.passes, State.turnWrite, h] at hs
  exact absurd hs (by simp)

/-- A helper's go, as the row that the write takes. -/
theorem State.helperRow {c : Nat} {v : Word} {op : Nat} (hs : s.passes (trnOff c) v) (hlt : op < 4) (hgo : v.getLsbD 31 = true)
    (hop : bitsOf v 29 27 = op) (hc : c < s.part.dmcs) (hb : s.bit (F.DMC_TRN_CTRL_busy c) = false) :
    ∃ t, s.post (trnOff c) v (fun s => s.writeTrn c v) = .next t ∧ (t.dram c).run = some op ∧ t.bit (F.DMC_TRN_CTRL_busy c) = true ∧
      t.dmcState c = (if s.dmcState c = dmcOff then dmcTraining else s.dmcState c) ∧ t.fld (F.DMC_TRN_CTRL_count c) = Nat.max 1 (bitsOf v 15 8) ∧
      t.kept = s.kept ∧ t.mode = s.mode ∧ s.regsKept t [(F.DMC_TRN_CTRL_op c).off, (F.DMC_STATUS_state c).off] ∧
      t = { s.taken with csr := t.csr, gate := t.gate, drams := t.drams } := by
  have h : s.taken.HelperRuns (s.taken.writeTrn c v) c op v := State.helper_starts hop hlt hgo hc (by rw [State.bit_taken]; exact hb)
  have hstate : s.taken.dmcState c = s.dmcState c := s.fld_taken _
  refine ⟨_, State.post_passes hs _, h.run, h.busy, hstate ▸ h.state, h.count, h.rest.kept, h.rest.mode, h.regs.from rfl rfl, ?_⟩
  generalize s.taken.writeTrn c v = t at h
  have hrest := h.rest
  have hgate : t.gate = s.taken.gate := by unfold State.dramsOnly at hrest; rw [hrest]
  unfold State.dramsOnly at hrest
  rw [hgate]
  exact hrest

theorem State.trnSetReady_takes {c : Dmc} {v : Word} (hs : s.passes (trnOff c.val) v) (hc : c.val < s.part.dmcs)
    (hb : s.bit (F.DMC_TRN_CTRL_busy c.val) = false) (hgo : v.getLsbD 31 = true) (hop : bitsOf v 29 27 = 4) (pop : DimmPop) :
    exec (.trnSetReady c v pop) s = .next ((s.taken.foundPop c.val v pop).setReadyOp c.val) := by
  change execTrnSetReady c v pop s = _
  refine (State.post_passes hs _).trans ?_
  rw [State.doSetReady_eq (s := s.taken) hc (by rw [State.bit_taken]; exact hb) hgo hop]

theorem popBad_lt (c : Fin 16) : Ev.DMC_POP_BAD c < 640 := by
  change 256 + 16 * c.val < 640
  omega

/-- What a channel that goes READY shows. -/
theorem State.setReady_shows (s : State) (c : Nat) (p : DimmPop) (d : Dimm) : (s.setReady c p d).dmcState c = dmcReady ∧
    (s.setReady c p d).fld (F.DMC_STATUS_rate c) = s.channelRate c p d ∧ (s.setReady c p d).fld (F.DMC_STATUS_mark0 c) = s.keptMark p 0 % 16 ∧
    (s.setReady c p d).fld (F.DMC_STATUS_mark1 c) = s.keptMark p 1 % 16 := by
  rw [State.setReady_eq, State.dmcState_setDram, State.fld_setDram, State.fld_setDram, State.fld_setDram]
  exact State.fld_readyWrites _ _ _ _ _ (s.channelRate_le c p d)

/-- Beside registers and channels, a channel that goes READY changes the populations and the serial numbers. -/
theorem State.setReady_rest (s : State) (c : Nat) (p : DimmPop) (d : Dimm) : (s.useDimms c p d).dramsOnly (s.setReady c p d) := by
  rw [State.setReady_eq]
  exact (State.dramsOnly.of_onlyRegs (State.writes_onlyRegs _ _)).setDram _ _

theorem State.chanOff_rest (s : State) (c : Nat) :
    (s.withPops (alDel s.pops c) (alDel (alDel s.serials (c * 2)) (c * 2 + 1))).onlyRegs (s.chanOff c) := by
  rw [State.chanOff_eq]
  exact State.writes_onlyRegs _ _

theorem State.chanOff_shows (s : State) (c : Nat) : (s.chanOff c).fld (F.DMC_STATUS_state c) = dmcOff ∧
    (s.chanOff c).fld (F.DMC_STATUS_dimm0 c) = 0 ∧ (s.chanOff c).fld (F.DMC_STATUS_dimm1 c) = 0 := by
  rw [State.chanOff_eq]
  exact State.fld_offWrites _ c

theorem State.fld_popBad {f : Fld} (s : State) {c : Nat} (e : Fin 16) (hf : f.off = (F.DMC_STATUS_state c).off) :
    (s.raise (Ev.DMC_POP_BAD e)).fld f = s.fld f := by
  obtain ⟨hr, hovf, hlost⟩ := status_notEvent c
  rw [← hf] at hr hovf hlost
  exact State.fld_raise s _ 0 (popBad_lt e) hr hovf hlost

theorem State.withPops_part (s : State) (a : List (Nat × Pop)) (b : List (Nat × Nat)) : (s.withPops a b).part = s.part := by rw [State.withPops]
theorem State.withPops_mode (s : State) (a : List (Nat × Pop)) (b : List (Nat × Nat)) : (s.withPops a b).mode = s.mode := by rw [State.withPops]
theorem State.withPops_kept (s : State) (a : List (Nat × Pop)) (b : List (Nat × Nat)) : (s.withPops a b).kept = s.kept := by rw [State.withPops]
theorem State.withPops_fuses (s : State) (a : List (Nat × Pop)) (b : List (Nat × Nat)) : (s.withPops a b).fuses = s.fuses := by rw [State.withPops]
theorem State.withPops_pops (s : State) (a : List (Nat × Pop)) (b : List (Nat × Nat)) : (s.withPops a b).pops = a := by rw [State.withPops]
theorem State.withPops_serials (s : State) (a : List (Nat × Pop)) (b : List (Nat × Nat)) : (s.withPops a b).serials = b := by rw [State.withPops]

/-- Op 4 of a fit channel, as the row that the write takes. -/
theorem State.setReadyRow {c : Dmc} {v : Word} {pop : DimmPop} {d : Dimm} (hs : s.passes (trnOff c.val) v) (hm : s.mode = .bringup)
    (hf : s.boot.filled = false) (hc : c.val < s.part.dmcs) (hb : s.bit (F.DMC_TRN_CTRL_busy c.val) = false) (hgo : v.getLsbD 31 = true)
    (hop : bitsOf v 29 27 = 4) (hd : pop.slot0 = some d) (hok : popOk pop = true) : ∃ t, exec (.trnSetReady c v pop) s = .next t ∧
    t.dmcState c.val = dmcReady ∧ alGet t.pops c.val = some (popOf pop d) ∧ alGet t.serials (c.val * 2) = some d.serial ∧
    (∀ e, pop.slot1 = some e → alGet t.serials (c.val * 2 + 1) = some e.serial) ∧ t.fld (F.DMC_STATUS_rate c.val) = s.channelRate c.val pop d ∧
    t.fld (F.DMC_STATUS_mark0 c.val) = s.keptMark pop 0 % 16 ∧ t.fld (F.DMC_STATUS_mark1 c.val) = s.keptMark pop 1 % 16 ∧
    t.dram c.val = { directed := d.directedRm, spd := some pop } ∧ t.kept = s.kept ∧ t.mode = s.mode ∧ t.fuses = s.fuses := by
  have hfound : s.taken.dramsOnly (s.taken.foundPop c.val v pop) := s.taken.foundPop_dramsOnly c.val v pop
  have hcopy : (s.taken.foundPop c.val v pop).bit F.NORC_BOOT_copy = s.bit F.NORC_BOOT_copy :=
    (s.taken.foundPop_copy c.val v pop).trans (s.bit_taken _)
  have hspd : ((s.taken.foundPop c.val v pop).dram c.val).spd = some pop := by rw [State.foundPop_drams]
  have htakes := State.trnSetReady_takes hs hc hb hgo hop pop
  generalize s.taken.foundPop c.val v pop = u at hfound hcopy hspd htakes
  have hrest := u.setReady_rest c.val pop d
  rw [State.useDimms] at hrest
  obtain ⟨hstate, hrate, hmark0, hmark1⟩ := u.setReady_shows c.val pop d
  rw [State.channelRate_congr (s := s) hfound.nor hcopy] at hrate
  rw [State.keptMark_congr (s := s) hfound.dmarks] at hmark0 hmark1
  have hpops : (u.setReady c.val pop d).pops = alPut u.pops c.val (popOf pop d) := hrest.pops.trans (State.withPops_pops _ _ _)
  have hserials : (u.setReady c.val pop d).serials = serialsWith u.serials c.val pop d := hrest.serials.trans (State.withPops_serials _ _ _)
  rw [State.setReadyOp_fit (hfound.mode.trans hm) ((congrArg Boot.filled hfound.boot).trans hf) hspd hd hok] at htakes
  refine ⟨_, htakes, hstate, ?_, ?_, fun e he => ?_, hrate, hmark0, hmark1, ?_, (hrest.kept.trans (State.withPops_kept _ _ _)).trans hfound.kept,
    (hrest.mode.trans (State.withPops_mode _ _ _)).trans hfound.mode, (hrest.fuses.trans (State.withPops_fuses _ _ _)).trans hfound.fuses⟩
  · rw [hpops, alGet_alPut_same]
  · rw [hserials, alGet_serialsWith]
  · rw [hserials, alGet_serialsWith_second _ _ _ he]
  · rw [State.setReady_eq, State.dram_setDram]

theorem State.onlyRegs.pops (h : s.onlyRegs t) : t.pops = s.pops := by unfold State.onlyRegs at h; rw [h]
theorem State.onlyRegs.serials (h : s.onlyRegs t) : t.serials = s.serials := by unfold State.onlyRegs at h; rw [h]
theorem State.onlyRegs.kept (h : s.onlyRegs t) : t.kept = s.kept := by unfold State.onlyRegs at h; rw [h]
theorem State.onlyRegs.mode (h : s.onlyRegs t) : t.mode = s.mode := by unfold State.onlyRegs at h; rw [h]

theorem State.bit_of_fld_zero {f : Fld} (h : s.fld f = 0) : s.bit f = false := by rw [State.bit, h]; rfl

/-- Op 4 of a channel whose population breaks R197, as the row that the write takes. -/
theorem State.popBadRow {c : Dmc} {v : Word} {pop : DimmPop} (hs : s.passes (trnOff c.val) v) (hm : s.mode = .bringup)
    (hf : s.boot.filled = false) (hc : c.val < s.part.dmcs) (hb : s.bit (F.DMC_TRN_CTRL_busy c.val) = false) (hgo : v.getLsbD 31 = true)
    (hop : bitsOf v 29 27 = 4) (hsome : pop.slot0 ≠ none ∨ pop.slot1 ≠ none) (hok : popOk pop = false) : ∃ t, exec (.trnSetReady c v pop) s = .next t ∧
    t.dmcState c.val = dmcOff ∧ t.bit (F.DMC_STATUS_dimm0 c.val) = false ∧ t.bit (F.DMC_STATUS_dimm1 c.val) = false ∧
    t.pended (Ev.DMC_POP_BAD (Fin.ofNat 16 c.val)) = true ∧ t.pops = alDel s.pops c.val ∧
    t.serials = alDel (alDel s.serials (c.val * 2)) (c.val * 2 + 1) ∧ t.kept = s.kept ∧ t.mode = s.mode := by
  have hfound : s.taken.dramsOnly (s.taken.foundPop c.val v pop) := s.taken.foundPop_dramsOnly c.val v pop
  have hspd : ((s.taken.foundPop c.val v pop).dram c.val).spd = some pop := by rw [State.foundPop_drams]
  have htakes := State.trnSetReady_takes hs hc hb hgo hop pop
  generalize s.taken.foundPop c.val v pop = u at hfound hspd htakes
  rw [State.setReadyOp_unfit (hfound.mode.trans hm) ((congrArg Boot.filled hfound.boot).trans hf) hspd hsome hok] at htakes
  obtain ⟨hstate, hdimm0, hdimm1⟩ := u.chanOff_shows c.val
  have hrest := u.chanOff_rest c.val
  have hpart : (u.chanOff c.val).part = s.part := (hrest.part.trans (State.withPops_part _ _ _)).trans hfound.part
  have hmode : (u.chanOff c.val).mode = s.mode := (hrest.mode.trans (State.withPops_mode _ _ _)).trans hfound.mode
  have hpops : (u.chanOff c.val).pops = alDel s.pops c.val :=
    (hrest.pops.trans (State.withPops_pops _ _ _)).trans (congrArg (alDel · c.val) hfound.pops)
  have hserials : (u.chanOff c.val).serials = alDel (alDel s.serials (c.val * 2)) (c.val * 2 + 1) :=
    (hrest.serials.trans (State.withPops_serials _ _ _)).trans (congrArg (fun l => alDel (alDel l (c.val * 2)) (c.val * 2 + 1)) hfound.serials)
  have hkept : (u.chanOff c.val).kept = s.kept := (hrest.kept.trans (State.withPops_kept _ _ _)).trans hfound.kept
  generalize u.chanOff c.val = w at htakes hstate hdimm0 hdimm1 hpart hmode hpops hserials hkept
  refine ⟨_, htakes, ?_, State.bit_of_fld_zero ?_, State.bit_of_fld_zero ?_, ?_, ?_, ?_, ?_, ?_⟩
  · exact (w.fld_popBad _ rfl).trans hstate
  · exact (w.fld_popBad (f := F.DMC_STATUS_dimm0 c.val) (c := c.val) _ rfl).trans hdimm0
  · exact (w.fld_popBad (f := F.DMC_STATUS_dimm1 c.val) (c := c.val) _ rfl).trans hdimm1
  · refine State.pended_raise_dmc (c := c.val) (by rw [hpart]; exact hc) (by rw [hmode, hm]; decide) ?_ 0
    change 256 + 16 * (c.val % 16) < _
    omega
  · rw [State.raise_pops, hpops]
  · rw [State.raise_serials, hserials]
  · rw [State.raise_kept, hkept]
  · rw [State.raise_mode, hmode]

end Sys2Proof.Machine
end

section
set_option Elab.async false
/-! PROOFS. The statement about the DRAM channels (R199 to R217, R399). -/

namespace Sys2Proof.Machine

theorem loading_limits : loadingRate 1 150 0 = 4 ∧ loadingRate 2 125 10 = 4 ∧ loadingRate 2 125 11 = 2 ∧ loadingRate 2 175 99 = 2 ∧
    loadingRate 2 176 0 = 0 := by decide

/-- A rate has a limit for each of its causes (R399). -/
theorem State.channelRate_limits {s : State} {c : Nat} {p : DimmPop} {d : Dimm} {i : ImageInfo} {e : DdrEntry}
    (hi : s.nor.copy (s.bit F.NORC_BOOT_copy) = some i) (he : i.ddr = [e]) (hc : e.chan.val = c) : s.channelRate c p d ≤ rateCode d.rate ∧
    s.channelRate c p d ≤ loadingRate (if p.slot1.isSome then 2 else 1) e.trace e.spacing ∧ (∀ r, e.rate = some r → s.channelRate c p d ≤ r.val) := by
  have hddr : ddrOf s c = some e := by
    rw [ddrOf, hi]
    simp [he, hc]
  rw [State.channelRate_some p d hddr]
  refine ⟨(Nat.min_le_left _ _).trans (Nat.min_le_left _ _), Nat.min_le_right _ _, fun r hr => ?_⟩
  rw [hr]
  exact (Nat.min_le_left _ _).trans (Nat.min_le_right _ _)

theorem State.channelRate_unlisted {s : State} {c : Nat} (p : DimmPop) (d : Dimm)
    (h : ∀ i, s.nor.copy (s.bit F.NORC_BOOT_copy) = some i → ∀ e ∈ i.ddr, e.chan.val ≠ c) : s.channelRate c p d = 0 := by
  refine State.channelRate_none c p d ?_
  rw [ddrOf, List.find?_eq_none]
  intro e he
  cases hi : s.nor.copy (s.bit F.NORC_BOOT_copy) with
  | none => rw [hi] at he; exact absurd he List.not_mem_nil
  | some i => rw [hi] at he; simpa using h i hi e he

/-- Settles O49: each row through the rule of its operation; the ends of runs by induction over the lanes, failed training by induction over the channels. -/
theorem dramChannels : Obligations.DramChannels := by
  unfold Obligations.DramChannels
  refine ⟨?postponed, ?madeAll, ?madeOne, ?dueAll, ?dueOne, ?notReady, ?temp, ?precharge, ?opens, ?counts, ?held, ?off, ?neighbours, ?countRow,
    ?lowers, ?notHeld, ?cleared, ?released, ?drifts, ?driftKnown, ?zq, ?run0, ?run1, ?run2, ?run3, ?ready, ?popBad, ?rateNone, ?rateLimits,
    loading_limits, ?doneIdle, ?donePlain, ?doneSweep, ?carveFills, ?carveFails, ?carveNone, ?reads, ?fills, ?frees, ?fillNone⟩
  case postponed =>
    intro s c sub hs h hn
    rw [State.dramRefresh_runs hs, State.doRefresh_postponed h sub.val hn]
  case madeAll =>
    intro s c sub hs h hn hb
    rw [State.dramRefresh_runs hs, State.doRefresh_all h sub.val true (fun _ => hn) hb]
    rfl
  case madeOne =>
    intro s c sub hs h hn hb
    obtain ⟨b, hb512, hmade⟩ := State.doRefresh_one h sub.val true (fun _ => hn) hb
    exact ⟨_, State.dramRefresh_runs hs c sub true, b, hb512, hmade⟩
  case dueAll =>
    intro s c sub hs h hb
    rw [State.dramRefresh_runs hs, State.doRefresh_all h sub.val false (fun hf => absurd hf (by decide)) hb]
    rfl
  case dueOne =>
    intro s c sub hs h hb
    obtain ⟨b, hb512, hmade⟩ := State.doRefresh_one h sub.val false (fun hf => absurd hf (by decide)) hb
    exact ⟨_, State.dramRefresh_runs hs c sub false, b, hb512, hmade⟩
  case notReady =>
    intro s c sub busy hs h
    rw [State.dramRefresh_runs hs, State.doRefresh, if_neg h]
  case temp =>
    intro s c temp hs
    change execDramTempRead c temp s = _
    exact State.core_runs hs _
  case precharge =>
    intro s c sub lrank bank hs
    change execBankIdlePrecharge c sub lrank bank s = _
    exact State.core_runs hs _
  case opens =>
    intro s c loc draw hs h ho ht hi hdraw
    change execDramActivate c loc draw s = _
    have hp : ¬ (s.bit (F.DMC_RH_CFG_pnr_en c.val) = true ∧ draw % 2 ^ s.fld (F.DMC_RH_CFG_k c.val) = 0) := fun ⟨he, hk⟩ =>
      hdraw.elim (fun hn => by rw [hn] at he; exact absurd he (by decide)) (fun hn => hn hk)
    refine (State.core_runs hs _).trans ?_
    rw [State.doActivate_opens h ho (State.rowHeld_eq_false (.inl ht)) hi draw (Eq.refl _), if_neg hp, ht]
    rfl
  case counts =>
    intro s c loc draw hs h ho ht hlt hi he hk
    change execDramActivate c loc draw s = _
    refine (State.core_runs hs _).trans ?_
    rw [State.doActivate_opens h ho (State.rowHeld_eq_false (.inr hlt)) hi draw (Eq.refl _), if_pos ⟨he, hk⟩, ht]
    rfl
  case held =>
    intro s c loc draw hs h ho ht hle
    change execDramActivate c loc draw s = _
    refine (State.core_runs hs _).trans ?_
    rw [State.doActivate_held h ho (State.rowHeld_eq_true ht hle)]
  case off =>
    intro s c loc draw hs h
    change execDramActivate c loc draw s = _
    refine (State.core_runs hs _).trans ?_
    rw [State.doActivate_off h]
  case neighbours => exact fun s c k => ⟨s.refreshNeighbours_closes c k, s.refreshNeighbours_counts c k⟩
  case countRow => exact fun l row n h => countRow_of_counted h
  case lowers =>
    intro s c loc low hs ht hle hlen hlow
    change execRowThrottleHold c loc s = _
    refine (State.core_runs hs _).trans ?_
    rw [State.doRowHold_held (State.rowHeld_eq_true ht hle) hlen hlow]
    rfl
  case notHeld =>
    intro s c loc hs h
    change execRowThrottleHold c loc s = _
    refine (State.core_runs hs _).trans ?_
    rw [State.doRowHold_free (State.rowHeld_eq_false h)]
  case cleared =>
    intro s c hs
    change execRowCounterClear c s = _
    exact State.core_runs hs _
  case released => exact fun s c p loc draw h => State.releaseHeld_one h p
  case drifts =>
    intro s c sub device d hs h hw
    change execDqsDriftCheck c [(sub, device, d)] s = _
    refine (State.core_runs hs _).trans ?_
    rw [List.foldl_cons, List.foldl_nil, State.driftOf_beyond h hw]
  case driftKnown =>
    intro s c sub device d hs h
    change execDqsDriftCheck c [(sub, device, d)] s = _
    refine (State.core_runs hs _).trans ?_
    rw [List.foldl_cons, List.foldl_nil, State.driftOf_within h]
  case zq => exact fun s c hs => State.core_runs hs _
  case run0 => exact fun s c v hs hgo hop hc hb => State.helperRow hs (by decide) hgo hop hc hb
  case run1 => exact fun s c v hs hgo hop hc hb => State.helperRow hs (by decide) hgo hop hc hb
  case run2 => exact fun s c v hs hgo hop hc hb => State.helperRow hs (by decide) hgo hop hc hb
  case run3 => exact fun s c v hs hgo hop hc hb => State.helperRow hs (by decide) hgo hop hc hb
  case ready => exact fun s c v pop d hs hm hf hc hb hgo hop hd hok => State.setReadyRow hs hm hf hc hb hgo hop hd hok
  case popBad => exact fun s c v pop hs hm hf hc hb hgo hop hsome hok => State.popBadRow hs hm hf hc hb hgo hop hsome hok
  case rateNone => exact fun s c p d h => State.channelRate_unlisted p d h
  case rateLimits => exact fun s c p d i e hi he hc => State.channelRate_limits hi he hc
  case doneIdle =>
    intro s c lanes hs h
    change execTrnRunDone c lanes s = _
    refine (State.core_runs hs _).trans ?_
    rw [State.doRunDone_idle h]
  case donePlain =>
    intro s c lanes op hs h hop
    have hends : exec (.trnRunDone c lanes) s = .next (s.runEnds c.val op lanes) := by
      change execTrnRunDone c lanes s = _
      refine (State.core_runs hs _).trans ?_
      rw [State.doRunDone_ends h]
    refine ⟨_, hends, s.runEnds_run c.val op lanes, State.bit_busy _ _ false, fun i hi => ?_, fun i hi => s.runEnds_plain lanes hi hop,
      s.runEnds_dramsOnly c.val op lanes⟩
    rw [s.runEnds_fails lanes hi, State.runCodes, if_neg hop, laneFails_single]
  case doneSweep =>
    intro s c lanes hs h
    have hends : exec (.trnRunDone c lanes) s = .next (s.runEnds c.val 2 lanes) := by
      change execTrnRunDone c lanes s = _
      refine (State.core_runs hs _).trans ?_
      rw [State.doRunDone_ends h]
    refine ⟨_, hends, s.runEnds_run c.val 2 lanes, State.bit_busy _ _ false, fun i k x hi hk h0 => s.runEnds_between hi hk h0,
      fun i x hi hx hle => ?_, s.runEnds_dramsOnly c.val 2 lanes⟩
    obtain ⟨hfirst, hlast⟩ := s.runEnds_ofSweep hi hle
    rcases hx with rfl | rfl
    · exact hfirst
    · exact hlast
  case carveFills =>
    intro s hm hr hf hreads h2 hframes hwf
    have hsame := s.applyRecs.failTraining_same
    have hboot : s.applyRecs.failTraining.boot = s.boot := hsame.boot
    have hkept : s.applyRecs.failTraining.kept = s.kept := hsame.kept
    refine ⟨_, State.carveoutFill_fills hm hr hf hreads h2 hframes, ?_, fun a => ?_, ?_, ?_, ?_, fun c hc => ?_, ?_, ?_⟩
    · rw [State.fillCarve, hboot]
    · rw [State.fillCarve, hkept, memRead_clearCarve]
    · rw [State.fillCarve, hkept]
      exact clearCarve_wf hwf
    · rw [State.fillCarve, hkept]
    · rw [State.fillCarve]
      exact hsame.mode
    · rw [State.fillCarve]
      exact (State.fld_congr (s := s.applyRecs.failTraining) rfl rfl _).trans (s.applied_state hc)
    · rw [State.fillCarve]
      exact hsame.retFrames
    · rw [State.fillCarve]
      exact hsame.retBanks
  case carveFails =>
    intro s hm hr hf hreads h
    have hsame := s.applyRecs.failTraining_same
    refine ⟨_, State.carveoutFill_fails hm hr hf hreads h, hsame.boot, hsame.kept, hsame.moved, hsame.mode, fun c hc => s.applied_state hc,
      fun c hc ht => ?_⟩
    exact State.failTraining_pended (s := s.applyRecs) (by change s.mode ≠ .reset; rw [hm]; decide) hc ((s.applyRecs_fld _).trans ht)
  case carveNone =>
    intro s hs h
    change execCarveoutFill s = _
    refine (State.core_runs hs _).trans ?_
    rw [State.doCarveFill_none h]
  case reads => exact fun s a h => State.releaseReads_one h
  case fills =>
    intro s tile l bits hs hf ht hl hbits hn
    rw [State.fillLine_runs hs, State.doFillLine_fills hf ht hl, State.setValid_sets hbits hn]
  case frees =>
    intro s tile l bits hs hf ht hl hbits hn
    rw [State.fillLine_runs hs, State.doFillLine_fills hf ht hl, State.setValid_frees hbits hn]
  case fillNone =>
    intro s hs h
    rw [State.fillLine_runs hs, State.doFillLine_none h]

end Sys2Proof.Machine
end

section
set_option Elab.async false
/-! PROOFS. The start of a SAVE (R144, R147): a concrete unit on which the statement about it fails. -/

namespace Sys2Proof.Machine

/-! ### A context that is listed twice (R33, R147) -/

/-- A WRITE that has begun, with a chain of one cell that Spool holds free. -/
def strayMsg : Msg :=
  { psn := 0, last := 0, verb := .write, region := none, pieces := [], len := 0, data := [], imm := 0, cmp := 0, swapAdd := 0, relaxed := false
    ackReq := false, local_ := false, entry := none, got := 0, phase := .receiving, atPoint := false, fwd := false, dup := false, resent := false
    pub := none, result := none, solicit := false, arrived := 0, cells := [(5, 7)] }

/-- A unit in SOLO that lists queue pair 1 twice, the second time as bound to engine 0, and queue pair 2 of engine 0 with that WRITE; the engine has two bad
frees within this second. A Peat snapshot is being copied, so raises wait. -/
def twiceListedUnit : State :=
  ({ State.reset with
    mode := .solo, fen := { State.reset.fen with vdd := true }, spool := { State.reset.spool with badFrees := [(0, 0), (0, 0)] }
    kept := { State.reset.kept with
      qps := [(1, {}), (1, { engine := some 0 }), (2, { engine := some 0, msgs := [strayMsg] })] } }.setBit F.FEN_PF_CFG_adc_en true).setBit F.PEAT_SNAP_CTRL_busy true

/-- The rollback of queue pair 2 fences engine 0, after queue pair 1 has been rolled back, and the fence binds queue pair 1 to another engine. -/
theorem twiceListedUnit_binds : endsIn (exec (.powerFailConfirm .sampled) twiceListedUnit) (fun t => (t.qpAt 1).any (fun q => q.engine.isSome)) = true := by
  decide +kernel

/-- Refutes O37: a discard of step 3 can be the third bad free of an engine, whose fence binds every listed queue pair of it anew (R33, R88); one that the
contexts list twice has been rolled back by then, and keeps that engine. -/
theorem not_saveRuns : ¬ Obligations.SaveRuns := by
  unfold Obligations.SaveRuns
  rintro ⟨-, -, -, confirms, -⟩
  obtain ⟨t, ht, -, -, -, -, -, -, -, -, hqps, -⟩ := confirms twiceListedUnit .sampled (by decide +kernel) (by decide +kernel) (.inl (by decide +kernel))
    (by decide +kernel) (.inl rfl)
  have hbound := of_endsIn twiceListedUnit_binds ht
  cases hq : t.qpAt 1 with
  | none => rw [hq] at hbound; exact absurd hbound (by decide)
  | some q =>
    rw [hq, Option.any_some, (hqps 1 q hq).1] at hbound
    exact absurd hbound (by decide)

end Sys2Proof.Machine
end

section
set_option Elab.async false
/-! PROOFS. The arrival of a packet (R72): the cells that hold it, the checks it passes, and the WRITE that is accepted. -/

namespace Sys2Proof.Machine

variable {s t u : State}

/-! ### What an arrival leaves alone -/

/-- `t` is `s` but for Spool, the descriptor cache, extent jobs, queue pairs and the tiles' ages. -/
def State.arrivedFrom (s t : State) : Prop :=
  t = { s with
    free := t.free, spool := t.spool, descs := t.descs, tlr := { s.tlr with jobs := t.tlr.jobs }
    kept := { s.kept with qps := t.kept.qps, tiles := t.kept.tiles, homes := t.kept.homes, records := t.kept.records } }

theorem State.arrivedFrom.rfl : s.arrivedFrom s := Eq.refl s

theorem State.arrivedFrom.trans (h : s.arrivedFrom t) (k : t.arrivedFrom u) : s.arrivedFrom u := by
  unfold State.arrivedFrom at h k ⊢
  rw [h] at k
  exact k

theorem State.arrivedFrom.modQp (s : State) (n : Nat) (f : Qp → Qp) : s.arrivedFrom (s.modQp n f) := .refl _

theorem State.arrivedFrom.touch (s : State) (n : Nat) : s.arrivedFrom (s.touch n) := by
  unfold State.touch
  extract_lets x
  split
  · exact .rfl
  · exact .refl _

theorem State.touch_qps (s : State) (n : Nat) : (s.touch n).kept.qps = s.kept.qps := by
  unfold State.touch
  extract_lets x
  split <;> rfl

theorem State.touch_spool (s : State) (n : Nat) : (s.touch n).spool = s.spool := by
  unfold State.touch
  extract_lets x
  split <;> rfl

/-! ### Spool's cells (R30, R35) -/

/-- `t` is `s` but for Spool and what leaves the device. -/
def State.cellsFrom (s t : State) : Prop := t = { s with free := t.free, spool := t.spool, out := t.out }

theorem State.cellsFrom.rfl : s.cellsFrom s := Eq.refl s

theorem State.cellsFrom.trans (h : s.cellsFrom t) (k : t.cellsFrom u) : s.cellsFrom u := by
  unfold State.cellsFrom at h k ⊢
  rw [h] at k
  exact k

theorem State.cellsFrom.spool (s : State) (x : Spool) : s.cellsFrom { s with spool := x } := .refl _

/-- A port whose PFC is off for the priority sends no pause, so only its cells change. -/
theorem State.takeCell_quiet (s : State) (port prio : Nat) (h : s.pfcOn port prio = false) :
    s.takeCell (64 + port) prio = s.tickFree.setCell s.pickCell ⟨64 + port, ((s.cell s.pickCell).gen + 1) % 65536, prio⟩ := by
  have hpfc : (s.tickFree.setCell s.pickCell ⟨64 + port, ((s.cell s.pickCell).gen + 1) % 65536, prio⟩).pfcOn port prio = false := h
  unfold State.takeCell State.pauseCheck
  extract_lets i c s1
  simp only [Nat.add_sub_cancel_left]
  split
  · rw [if_neg]
    rw [show s1.pfcOn port prio = false from hpfc]
    simp
  · rfl

theorem State.takeCell_cellsFrom (s : State) (o prio : Nat) : s.cellsFrom (s.takeCell o prio) ∧ (s.takeCell o prio).spool.inHand = s.spool.inHand := by
  unfold State.takeCell State.pauseCheck
  extract_lets i c s1
  split
  · split <;> exact ⟨.refl _, .refl _⟩
  · exact ⟨.refl _, .refl _⟩

theorem State.takeChain_cellsFrom {o prio k : Nat} {l : List (Nat × Nat)} (h : s.takeChain o prio k = some (t, l)) : s.cellsFrom t := by
  induction k generalizing s t l with
  | zero =>
    cases h
    exact .rfl
  | succ k ih =>
    unfold State.takeChain at h
    split at h
    · split at h
      · rename_i hrest
        cases h
        exact (s.takeCell_cellsFrom o prio).1.trans (ih hrest)
      · cases h
    · cases h

/-- A chain holds as many cells as were asked for. -/
theorem State.takeChain_length {o prio k : Nat} {l : List (Nat × Nat)} (h : s.takeChain o prio k = some (t, l)) : l.length = k := by
  induction k generalizing s t l with
  | zero => cases h; rfl
  | succ k ih =>
    unfold State.takeChain at h
    split at h
    · split at h
      · rename_i hrest
        cases h
        rw [List.length_cons, ih hrest]
      · cases h
    · cases h

/-- With PFC off for the priority the chain changes the cells alone. -/
theorem State.takeChain_quiet {port prio k : Nat} {l : List (Nat × Nat)} (hpfc : s.pfcOn port prio = false)
    (h : s.takeChain (64 + port) prio k = some (t, l)) : t = { s with free := t.free, spool := { s.spool with cells := t.spool.cells } } := by
  induction k generalizing s t l with
  | zero => cases h; rfl
  | succ k ih =>
    unfold State.takeChain at h
    split at h
    · split at h
      · rename_i hrest
        cases h
        rw [State.takeCell_quiet _ _ _ hpfc] at hrest
        rw [ih (s := s.tickFree.setCell _ _) hpfc hrest]
        rfl
      · cases h
    · cases h

theorem State.grantCells_cellsFrom (s : State) (k : Nat) : s.cellsFrom (s.grantCells k) ∧ (s.grantCells k).spool.inHand = s.spool.inHand := by
  induction k generalizing s with
  | zero => exact ⟨.rfl, rfl⟩
  | succ k ih =>
    unfold State.grantCells
    split
    · exact ⟨.rfl, rfl⟩
    · rename_i w hw
      have hcell := State.takeCell_cellsFrom { s with spool := { s.spool with waiting := s.spool.waiting.erase w } } w.1 w.2
      exact ⟨((State.cellsFrom.spool s _).trans hcell.1).trans (ih _).1, (ih _).2.trans hcell.2⟩

theorem State.dropHand_cellsFrom (s : State) : s.cellsFrom s.dropHand ∧ s.dropHand.spool.inHand = [] := by
  have h := State.grantCells_cellsFrom { s with spool := { s.spool with inHand := [], cells := releaseIn s.spool.cells s.spool.inHand } } s.spool.waiting.length
  exact ⟨(State.cellsFrom.spool s _).trans h.1, h.2⟩

/-- With nothing in hand and nobody waiting, nothing is given back. -/
theorem State.dropHand_idle (s : State) (hhand : s.spool.inHand = []) (hwait : s.spool.waiting = []) : s.dropHand = s := by
  unfold State.dropHand
  rw [hwait, hhand]
  change { s with spool := { s.spool with inHand := [] } } = s
  rw [← hhand]

theorem State.passChain_cells (s : State) (e : Nat) (l : List (Nat × Nat)) :
    s.passChain e l = { s with spool := { s.spool with cells := (s.passChain e l).spool.cells } } := by
  unfold State.passChain
  induction l generalizing s with
  | nil => rfl
  | cons c l ih =>
    rw [List.foldl_cons, ih]
    rfl

/-! ### The row, and the checks that come first -/

/-- Nothing waits for an entry of the fresh-frame table, or none was freed: the row ends with at most the note of it gone. -/
theorem State.afterFree_idle (s : State) (h : s.nc.freed = false ∨ (s.parks = [] ∧ s.kept.own = [] ∧ s.seam.fwdWait = [] ∧ s.seam.early = [])) :
    s.afterFree = { s with nc := { s.nc with freed := false } } := by
  unfold State.afterFree
  rcases h with h | ⟨hparks, hown, hwait, hearly⟩
  · rw [h, if_neg (by simp), ← h]
  · split
    · simp only [State.retryAll, State.retryParks, State.retryOwn, hparks, hown, hwait, hearly, List.foldl_nil, List.isEmpty_nil, if_true]
      rw [← hown]
    · rename_i hfreed
      rw [← Bool.eq_false_iff.2 hfreed]

theorem State.wake_disarmed (s : State) (w : Wake) (h : s.doze.armed = false) : s.wake w = s := by
  unfold State.wake
  rw [h]
  rfl

/-- An arrival that leaves the wake sources disarmed wakes nothing. -/
theorem State.doReceive_disarmed (s : State) (p : Packet) (h : (s.receive p).doze.armed = false) : s.doReceive p = s.receive p := by
  unfold State.doReceive
  extract_lets t
  rw [State.wake_disarmed _ _ h, ite_self]

/-- PACKET_RECEIVE of a unit whose wake sources stay disarmed (R72). -/
theorem State.packetReceive_runs {p : Packet} (hs : s.runs) (ht : s.receive p = t) (hwake : t.doze.armed = false) :
    exec (.packetReceive p) s = .next t.afterFree := by
  subst ht
  change execPacketReceive p s = _
  exact (State.core_runs hs _).trans (by rw [State.doReceive_disarmed _ _ hwake])

/-- What takes a management frame to the gate (R368). -/
def deliverMgmt (s : State) (f : MgmtFrame) : State := if s.mode = .save then s else s.deliverFrame .mqp f

theorem State.receive_present {p : Packet} (h : s.lportPresent p.lport.val = true) : s.receive p = s.doPacket p deliverMgmt := by
  rw [State.receive, if_pos h]
  rfl

theorem State.receive_absent {p : Packet} (h : s.lportPresent p.lport.val = false) : s.receive p = s := by
  rw [State.receive, if_neg (by rw [h]; exact Bool.false_ne_true)]

theorem State.slide_besideAssocs (s : State) (p : Packet) : s.slide p = { s with kept := { s.kept with assocs := (s.slide p).kept.assocs } } := by
  unfold State.slide
  split
  · extract_lets low
    split <;> rfl
  · rfl

theorem State.slide_hostsServed (s : State) (p : Packet) : (s.slide p).hostsServed = s.hostsServed := by
  rw [State.slide_besideAssocs]
  rfl

theorem State.slide_untagged {p : Packet} (h : p.tagged = false) : s.slide p = s := by
  unfold State.slide
  split
  · rw [h]; rfl
  · rfl

section
variable {p : Packet} {deliver : State → MgmtFrame → State} (hdual : p.dual = none)
include hdual

theorem State.doPacket_macsec (h : s.t1 p = false) : s.doPacket p deliver = s.sat (F.PORT_RX_DROP_macsec (portOf p.lport.val)) := by
  rw [State.doPacket, hdual]
  simp only [h, Bool.not_false, if_true]
  rfl

theorem State.doPacket_header (h1 : s.t1 p = true) (h : p.hdrOk = false) :
    s.doPacket p deliver = (s.slide p).sat (F.PORT_RX_DROP_header (portOf p.lport.val)) := by
  rw [State.doPacket, hdual]
  simp only [h1, h, Bool.not_true, Bool.not_false, Bool.false_eq_true, if_true, if_false]
  rfl

theorem State.doPacket_unserved (h1 : s.t1 p = true) (h : p.hdrOk = true) (hserved : s.hostsServed = false) :
    s.doPacket p deliver = (s.slide p).sat (F.PORT_RX_DROP_qp (portOf p.lport.val)) := by
  have hserved' : (s.slide p).hostsServed = false := (s.slide_hostsServed p).trans hserved
  rw [State.doPacket, hdual]
  simp only [h1, h, hserved', Bool.not_true, Bool.not_false, Bool.false_eq_true, if_true, if_false]
  rfl

theorem State.doPacket_served (h1 : s.t1 p = true) (h : p.hdrOk = true) (hserved : s.hostsServed = true) :
    s.doPacket p deliver = ((s.slide p).takeChain (64 + portOf p.lport) p.prio.val (cellsFor p.data.length)).elim (s.slide p)
      (fun x => (State.route { x.1 with spool := { x.1.spool with inHand := x.2 } } p deliver).dropHand) := by
  have hserved' : (s.slide p).hostsServed = true := (s.slide_hostsServed p).trans hserved
  rw [State.doPacket, hdual]
  simp only [h1, h, hserved', Bool.not_true, Bool.false_eq_true, if_false]
  cases (s.slide p).takeChain (64 + portOf p.lport) p.prio.val (cellsFor p.data.length) <;> rfl
end
end Sys2Proof.Machine
end

section
set_option Elab.async false
/-! PROOFS. A one-packet WRITE that passes T3 to T11 is accepted (R72), and the statement about arrivals. -/

namespace Sys2Proof.Machine

variable {s t u : State}

/-! ### T9 and T10: the region, and the granule -/

/-- A range within one tile is one part. -/
theorem splitTiles_one {a n : Nat} (k : Nat) (hn : 0 < n) (h : a % 65536 + n ≤ 65536) : splitTiles (k + 2) a n = [(a, n)] := by
  have hmin : Nat.min n (65536 - a % 65536) = n := Nat.min_eq_left (by omega)
  simp only [splitTiles, if_neg (Nat.ne_of_gt hn), hmin, Nat.sub_self, if_true]

theorem sliceParts_whole (a n : Nat) (hn : 0 < n) : sliceParts [(a, n)] 0 n = [(a, n)] := by
  have hmin : Nat.min (n - 0) n = n := Nat.min_self n
  simp only [sliceParts, if_neg (Nat.ne_of_gt hn), if_neg (Nat.not_le_of_gt hn), hmin, Nat.add_zero]

/-- A tile that is present in DRAM and neither split nor churning. -/
def Tile.plain (x : Tile) : Prop := x.home = .dram ∧ x.units = [] ∧ x.churn = false ∧ x.present = true

theorem State.lookupWrite_dram {i u : Nat} (unit : Option Nat) (key : Nat) (hmode : s.mode = .solo) (h : (s.tile i).homeOf u = .dram) :
    s.lookupWrite i unit u key = (s, .ok) := by
  have himage : s.holdsImage = false := by rw [State.holdsImage, hmode]; rfl
  simp only [State.lookupWrite, h, himage, Bool.false_eq_true, false_and, if_false]

theorem State.touch_mode (s : State) (i : Nat) : (s.touch i).mode = s.mode := by
  unfold State.touch
  extract_lets x
  split <;> rfl

/-- An access leaves the home of the granules where it is. -/
theorem State.homeOf_touch (s : State) (i u : Nat) : ((s.touch i).tile i).homeOf u = (s.tile i).homeOf u := by
  unfold State.touch
  extract_lets x
  split
  · rfl
  · have hput : (s.setTile i { x with age := 0 }).tile i = { x with age := 0 } := by
      simp only [State.tile, State.setTile, alGetD, alGet_alPut_same, Option.getD_some]
    rw [hput]
    rfl

/-- The lookup of a write onto such a tile, on a unit that runs alone, finds the granule at once (R51, step 10). -/
theorem State.lookup_plain {a n : Nat} (key qp psn : Nat) (hmode : s.mode = .solo) (hblind : s.seam.blind = false) (ha : a < carveBase) (hn : 0 < n)
    (hx : (s.tile (tileOf a)).plain) : s.lookup true key qp psn [(a, n)] = ((s.raiseJob (tileOf a)).touch (tileOf a), .ok) := by
  obtain ⟨hhome, hunits, hchurn, hpresent⟩ := hx
  have hawaited : s.awaited (tileOf a) = false := by rw [State.awaited, hpresent, hblind]; rfl
  have hgranules : (s.tile (tileOf a)).granules a n = [none] := by rw [Tile.granules, hunits, hchurn]; rfl
  have hdram : (s.tile (tileOf a)).homeOf (a % 65536 / 4096) = .dram := by rw [Tile.homeOf, hunits, hhome]; rfl
  have hwrite := State.lookupWrite_dram (s := (s.raiseJob (tileOf a)).touch (tileOf a)) none key ((State.touch_mode _ _).trans hmode)
    ((State.homeOf_touch _ _ _).trans hdram)
  simp only [State.lookup, State.lookupPart, List.foldl_cons, List.foldl_nil, if_neg (not_or.2 ⟨Nat.not_le_of_gt ha, Nat.ne_of_gt hn⟩), hawaited,
    Bool.false_eq_true, if_false, hgranules, Option.getD_none, if_true, hwrite, Need.join]

/-- Where a write of a region that is not tiled lands. -/
def State.landing (s : State) (r : Reth) : Nat := (s.rgn (keyIndex r.key)).target + (r.va - (s.rgn (keyIndex r.key)).vaBase)

/-- A request that its region grants, into one tile of a region that is not tiled, is admitted with that one part (R51). -/
theorem State.admits_untiled {pd : Nat} {r : Reth} (hpoison : s.descPoisoned (keyIndex r.key) = false)
    (hkey : s.keyCheck pd r.key .write r.va r.len true = none) (htiled : (s.rgn (keyIndex r.key)).tiled = false) (hn : 0 < r.len)
    (hfits : s.landing r % 65536 + r.len ≤ 65536) :
    s.admits pd r.key .write r.va r.len true = (s.cacheDesc (keyIndex r.key), .ok (keyIndex r.key, [(s.landing r, r.len)])) := by
  have hcount : keyIndex r.key < s.fld F.RGN_RDT_CFG_count := by
    by_contra hle
    rw [State.keyCheck] at hkey
    simp only [Nat.le_of_not_lt hle, if_true, reduceCtorEq] at hkey
  have hkey' : (s.cacheDesc (keyIndex r.key)).keyCheck pd r.key .write r.va r.len true = none := hkey
  have hpoison' : (s.cacheDesc (keyIndex r.key)).descPoisoned (keyIndex r.key) = false := hpoison
  have hrgn : (s.cacheDesc (keyIndex r.key)).rgn (keyIndex r.key) = s.rgn (keyIndex r.key) := rfl
  have htrans : (s.cacheDesc (keyIndex r.key)).translate (s.rgn (keyIndex r.key)) (r.va - (s.rgn (keyIndex r.key)).vaBase) r.len =
      (s.cacheDesc (keyIndex r.key), .ok [(s.landing r, r.len)]) := by
    rw [State.translate, htiled, if_neg Bool.false_ne_true, ← splitTiles_one (r.len / 65536) hn hfits]
    rfl
  rw [State.admits]
  simp only [hcount, hpoison, Bool.not_false, and_self, if_true, hpoison', Bool.false_eq_true, and_false, if_false, hkey', Bool.not_true, hrgn, htrans]

/-! ### T6 to T11: the message -/

/-- A WRITE of one packet that R72's checks from T3 on let through: the queue pair `q` of number `n` waits for it, and the range of its header `r` lies in
one plain tile of a region that grants it. -/
structure State.takesWrite (s : State) (p : Packet) (n : Nat) (q : Qp) (r : Reth) : Prop where
  mode     : s.mode = .solo
  blind    : s.seam.blind = false
  poison   : s.kept.poison = []
  rc       : q.rc = true
  nak      : q.nak = none
  naked    : q.naked = false
  replace  : q.replace = none
  cur      : q.cur = none
  past     : q.past = []
  rnrAt    : q.rnrAt = none
  epsn     : q.epsn = p.psn
  psn      : p.psn < 2 ^ 24
  fresh    : ∀ m ∈ q.msgs, m.psn ≠ p.psn
  op       : p.op = .writeOnly
  reth     : p.reth = some r
  len      : p.data.length = r.len
  pos      : 0 < r.len
  pmtu     : r.len ≤ q.pmtu
  max      : r.len ≤ 2 ^ 31
  walkUe   : p.walkUe = none
  desc     : s.descPoisoned (keyIndex r.key) = false
  key      : s.keyCheck q.pd r.key .write r.va r.len true = none
  untiled  : (s.rgn (keyIndex r.key)).tiled = false
  fits     : s.landing r % 65536 + r.len ≤ 65536
  below    : s.landing r < carveBase
  tile     : (s.tile (tileOf (s.landing r))).plain

/-- The message that such a packet makes, once it is accepted. -/
def State.written (s : State) (p : Packet) (q : Qp) (r : Reth) : Msg :=
  { mkMsg q p .write (some (keyIndex r.key)) (s.rgn (keyIndex r.key)).local_ [(s.landing r, r.len)] r.len 1 with
    data := p.data, got := p.data.length, last := p.psn, ackReq := p.ackReq, arrived := s.mrt, cells := s.spool.inHand, phase := .accepted }

/-- The acceptance of a message of whole data, on a unit without poison that runs alone. -/
theorem State.accept_alone {n : Nat} {m : Msg} (hmode : s.mode = .solo) (hpoison : s.kept.poison = []) :
    s.accept n m = s.setMsg n { m with phase := .accepted } := by
  have hclean : ∀ w x, s.partPoisoned w x = false := fun w x => by
    rw [State.partPoisoned, hpoison, List.any_eq_false]
    intro l _
    simp
  have ht11 : s.t11 m = true := by
    unfold State.t11
    split <;> simp [hclean]
  have hmirrored : ∀ x, (s.setMsg n x).mirrored = false := fun x => by
    change (s.mode = .paired || s.mode = .resync : Bool) = false
    rw [hmode]
    rfl
  rw [State.accept, if_pos ht11, State.forwardReady, hmirrored]
  rfl

/-- `t` is `s` after an arrival for queue pair `n`, whose context is now `q`; the message that was admitted has taken what held the packet. -/
structure State.landed (s t : State) (n : Nat) (q : Qp) : Prop where
  frame   : s.arrivedFrom t
  qp      : t.qpAt n = some q
  others  : ∀ k, k ≠ n → t.qpAt k = s.qpAt k
  hand    : t.spool.inHand = []
  waiting : t.spool.waiting = s.spool.waiting

/-- A context that is rewritten as it was. -/
theorem State.qpAt_modQp_fix {n : Nat} {q : Qp} {f : Qp → Qp} (hq : s.qpAt n = some q) (hf : f q = q) (k : Nat) : (s.modQp n f).qpAt k = s.qpAt k := by
  rw [State.qpAt_modQp]
  split
  · rename_i hk
    rw [hk, hq, Option.map_some, hf]
  · rfl

/-- A context whose next packet has come in order (R75). -/
def Qp.inTurn (q : Qp) : Qp := { q with naked := false, nak := q.nak.filter (fun k => k.2.1 != 1) }

/-- A context that waits no longer for the packet of an RNR NAK, if this is it (R63). -/
def Qp.cameAgain (p : Packet) (q : Qp) : Qp := { q with rnrAt := q.rnrAt.filter (fun r => r != p.psn) }

/-- A rewriting of the context as it was comes before an arrival unnoticed. -/
theorem State.landed.after_modQp {n : Nat} {q x : Qp} {f : Qp → Qp} (hq : s.qpAt n = some q) (hf : f q = q) (h : (s.modQp n f).landed t n x) :
    s.landed t n x where
  frame := .trans (.modQp _ _ _) h.frame
  qp := h.qp
  others k hk := (h.others k hk).trans (State.qpAt_modQp_fix hq hf k)
  hand := h.hand
  waiting := h.waiting

/-- The cells in hand pass to the message's engine (R35). -/
theorem State.takeHand_arrivedFrom (s : State) (n : Nat) (m : Msg) : s.arrivedFrom (s.takeHand n m).1 ∧ (s.takeHand n m).1.spool.inHand = [] ∧
    (s.takeHand n m).1.spool.waiting = s.spool.waiting ∧ (s.takeHand n m).1.kept = s.kept ∧ (s.takeHand n m).2 = { m with cells := m.cells ++ s.spool.inHand } := by
  unfold State.takeHand
  rw [State.passChain_cells]
  exact ⟨.refl _, .refl _, .refl _, .refl _, .refl _⟩

/-- A message of an RC queue pair with the data of its only packet and the cells that held it. -/
def State.joined (s : State) (m : Msg) (p : Packet) : Msg :=
  { m with cells := m.cells ++ s.spool.inHand, data := m.data ++ p.data, got := m.got + p.data.length, last := p.psn, ackReq := p.ackReq, arrived := s.mrt }

/-- The data of a whole message whose granules are all there (R72). -/
theorem State.receiveData_whole {p : Packet} {n : Nat} {q : Qp} {m : Msg} (hq : s.qpAt n = some q) (hrc : q.rc = true) (hphase : m.phase = .receiving)
    (hlook : s.lookup true (s.domainKey q.pd) n m.psn (sliceParts m.pieces m.got p.data.length) = (u, .ok)) :
    s.receiveData n m p true =
      (((u.takeHand n m).1.modQp n (fun x => { x with epsn := psnAdd p.psn 1 })).modQp n
        (fun x => { x with cur := none, msgs := x.msgs ++ [u.joined m p] })).accept n (u.joined m p) := by
  have hmrt : (u.takeHand n m).1.mrt = u.mrt := by rw [State.takeHand, State.passChain_cells]; rfl
  have hjoin : { (u.takeHand n m).2 with
      data := (u.takeHand n m).2.data ++ p.data, got := (u.takeHand n m).2.got + p.data.length, last := p.psn, ackReq := p.ackReq,
      arrived := (u.takeHand n m).1.mrt } = u.joined m p := by
    rw [hmrt]
    rfl
  rw [State.receiveData, hq]
  simp only [hlook, hrc, if_true]
  rw [hjoin]
  exact if_pos hphase

/-- The replacement of the newest message, whose PSN no other has. -/
theorem map_append_replace {ms : List Msg} {m x : Msg} (h : ∀ y ∈ ms, y.psn ≠ m.psn) (hx : x.psn = m.psn) (hm : m.committed = false) :
    (ms ++ [m]).map (fun y => if y.psn = x.psn ∧ !y.committed then x else y) = ms ++ [x] := by
  rw [List.map_append, hx]
  congr 1
  · exact (List.map_congr_left (fun y hy => if_neg (fun hc => h y hy hc.1))).trans (List.map_id _)
  · simp [hm]

section
variable {p : Packet} {n : Nat} {q : Qp} {r : Reth} (h : s.takesWrite p n q r) (hq : s.qpAt n = some q)
include h hq

/-- The packet's data makes the message, which takes the packet's cells and is accepted (R72, R35). -/
theorem State.receiveData_write :
    s.landed (s.receiveData n (mkMsg q p .write (some (keyIndex r.key)) (s.rgn (keyIndex r.key)).local_ [(s.landing r, r.len)] r.len 1) p true) n
      { q with epsn := psnAdd p.psn 1, msgs := q.msgs ++ [s.written p q r] } := by
  generalize hm : mkMsg q p .write (some (keyIndex r.key)) (s.rgn (keyIndex r.key)).local_ [(s.landing r, r.len)] r.len 1 = m
  have hpsn : m.psn = p.psn := by rw [← hm]; exact if_pos h.rc
  have hlook : s.lookup true (s.domainKey q.pd) n m.psn (sliceParts m.pieces m.got p.data.length) =
      ((s.raiseJob (tileOf (s.landing r))).touch (tileOf (s.landing r)), .ok) := by
    rw [← hm, h.len]
    exact (congrArg _ (sliceParts_whole _ _ h.pos)).trans (State.lookup_plain _ _ _ h.mode h.blind h.below h.pos h.tile)
  rw [State.receiveData_whole hq h.rc (by rw [← hm]; rfl) hlook]
  generalize hu : (s.raiseJob (tileOf (s.landing r))).touch (tileOf (s.landing r)) = u
  have hframe : s.arrivedFrom u := by
    rw [← hu]
    exact State.arrivedFrom.trans (t := s.raiseJob (tileOf (s.landing r))) (.refl _) (.touch _ _)
  have hqps : u.kept.qps = s.kept.qps := by rw [← hu, State.touch_qps]; rfl
  have hspool : u.spool = s.spool := by rw [← hu, State.touch_spool]; rfl
  obtain ⟨hhand, hempty, hwait, hkept, -⟩ := u.takeHand_arrivedFrom n m
  generalize (u.takeHand n m).1 = v at hhand hempty hwait hkept
  have hv : s.arrivedFrom v := hframe.trans hhand
  have hqv : v.kept.qps = s.kept.qps := (congrArg (·.qps) hkept).trans hqps
  have hat : ∀ k, v.qpAt k = s.qpAt k := fun k => by rw [State.qpAt, hqv]; rfl
  have hmode : v.mode = .solo := by rw [hv]; exact h.mode
  have hpoison : v.kept.poison = [] := by rw [hv]; exact h.poison
  have hmsg : { u.joined m p with phase := .accepted } = s.written p q r := by
    have hmrt : u.mrt = s.mrt := by rw [hframe]; rfl
    simp only [State.joined, State.written, mkMsg, hspool, hmrt, ← hm, List.nil_append, Nat.zero_add]
  rw [State.accept_alone (s := (v.modQp n _).modQp n _) hmode hpoison, hmsg]
  refine ⟨hv.trans (.trans (.modQp _ _ _) (.trans (.modQp _ _ _) (.modQp _ _ _))), ?_, fun k hk => ?_, hempty, hwait.trans (congrArg (·.waiting) hspool)⟩
  · simp only [State.setMsg, State.qpAt_modQp, if_true, hat, hq, Option.map_some]
    rw [map_append_replace (m := u.joined m p) (x := s.written p q r)]
    · rw [h.cur]
    · exact fun y hy => hpsn ▸ h.fresh y hy
    · exact (if_pos h.rc).trans hpsn.symm
    · rw [Msg.committed, ← hm]; rfl
  · simp only [State.setMsg, State.qpAt_modQp, if_neg hk, hat]

/-- T8 and T9 (R72, R51): the header fits the packet and the region grants it. -/
theorem State.startWrite_write :
    s.landed (s.startWrite n q p .write .only r) n { q with epsn := psnAdd p.psn 1, msgs := q.msgs ++ [s.written p q r] } := by
  have hlen : ¬ (2 ^ 31 < r.len ∨ r.len < p.data.length ∨ (Pos.only = .only ∧ p.data.length ≠ r.len)) := by
    rw [h.len]
    have := h.max
    simp only [ne_eq, not_true, and_false, or_false, lt_self_iff_false]
    omega
  have hcached : (s.cacheDesc (keyIndex r.key)).takesWrite p n q r := { h with }
  have hwritten : (s.cacheDesc (keyIndex r.key)).written p q r = s.written p q r := rfl
  have hrecv := State.receiveData_write hcached hq
  rw [hwritten] at hrecv
  have hstart : s.startWrite n q p .write .only r = (s.cacheDesc (keyIndex r.key)).receiveData n
      (mkMsg q p .write (some (keyIndex r.key)) (s.rgn (keyIndex r.key)).local_ [(s.landing r, r.len)] r.len 1) p true := by
    rw [State.startWrite, if_neg hlen, h.walkUe]
    simp only [if_neg (Nat.ne_of_gt h.pos), State.meet, State.admits_untiled h.desc h.key h.untiled h.pos h.fits]
    have hlocal : (r.len != 0) = true := by simpa using Nat.ne_of_gt h.pos
    rw [hlocal]
    rfl
  rw [hstart]
  exact { hrecv with frame := State.arrivedFrom.trans (t := s.cacheDesc (keyIndex r.key)) (.refl _) hrecv.frame }

/-- T7 (R72): the packet begins and ends a message. -/
theorem State.inOrder_write : s.landed (s.inOrder n p) n { q with epsn := psnAdd p.psn 1, msgs := q.msgs ++ [s.written p q r] } := by
  have hfix : q.inTurn = q := by
    obtain ⟨hnak, hnaked⟩ := And.intro h.nak h.naked
    unfold Qp.inTurn
    cases q
    simp only at hnak hnaked
    rw [hnak, hnaked]
    rfl
  have hq' := (State.qpAt_modQp_fix hq (f := Qp.inTurn) hfix n).trans hq
  have hpmtu : ¬ q.pmtu < p.data.length := by rw [h.len]; exact Nat.not_lt.2 h.pmtu
  have hbegin : s.inOrder n p = (s.modQp n Qp.inTurn).startWrite n q p .write .only r := by
    rw [State.inOrder, hq]
    simp only [Option.bind_some, h.replace, Option.isSome_none, Bool.false_eq_true, if_false]
    change (match (s.modQp n Qp.inTurn).qpAt n with | none => _ | some q => _) = _
    rw [hq']
    simp only [h.op, opVerb, h.cur, legal, h.past, List.find?_nil, hpmtu, h.reth, Option.getD_some, Bool.not_true, Bool.false_eq_true, if_false, false_or,
      reduceCtorEq, BEq.rfl, Bool.or_true, false_and]
    rfl
  rw [hbegin]
  exact State.landed.after_modQp (f := Qp.inTurn) hq hfix (State.startWrite_write (s := s.modQp n Qp.inTurn) { h with } hq')

/-- T6 (R75): the packet has the PSN that the queue pair expects. -/
theorem State.t6_write : s.landed (s.t6 n q p) n { q with epsn := psnAdd p.psn 1, msgs := q.msgs ++ [s.written p q r] } := by
  have hdist : psnDist q.epsn p.psn = 0 := by
    have := h.psn
    rw [psnDist, h.epsn]
    omega
  have hfix : q.cameAgain p = q := by
    unfold Qp.cameAgain
    have hrnr := h.rnrAt
    cases q
    simp only at hrnr
    rw [hrnr]
    rfl
  have hq' := (State.qpAt_modQp_fix hq (f := fun q => q.cameAgain p) hfix n).trans hq
  have hturn : s.t6 n q p = (s.modQp n (fun q => q.cameAgain p)).inOrder n p := by
    rw [State.t6]
    simp only [h.rnrAt, hdist, Bool.false_eq_true, if_false, if_true]
    rfl
  rw [hturn]
  exact State.landed.after_modQp (f := fun q => q.cameAgain p) hq hfix (State.inOrder_write (s := s.modQp n (fun q => q.cameAgain p)) { h with } hq')

/-- T3 to T5 (R72): the queue pair serves requests of this peer. -/
theorem State.route_write {deliver : State → MgmtFrame → State} (hqpn : p.qpn = 0x10000 + n) (hn : n < 0x10000) (hlive : qpLive q.state = true)
    (hengine : q.engine ≠ none) (hfwd : q.fwdUntil = none) (ht5 : q.t5 p = true) (hce : p.ce = false) (hect : p.ect = false) :
    s.landed (s.route p deliver) n { q with epsn := psnAdd p.psn 1, msgs := q.msgs ++ [s.written p q r] } := by
  have hrange : ¬ (p.qpn < 0x10000 ∨ 0x20000 ≤ p.qpn) := by omega
  have hnum : p.qpn - 0x10000 = n := by omega
  have ht3 : q.t3 p = true := by rw [Qp.t3, h.op]; exact h.rc
  have hfailing : q.failing = false := by rw [Qp.failing, h.nak]
  have hecho : s.echo n p = s := by
    rw [State.echo, hq]
    simp only [hce, hect, Bool.false_and, Bool.or_self, Bool.false_eq_true, if_false]
  have hbound : q.engine.isNone = false := Option.isNone_eq_false_iff.2 (Option.ne_none_iff_isSome.1 hengine)
  have ht6 : s.route p deliver = s.t6 n q p := by
    rw [State.route, if_neg hrange]
    simp only [hnum, hq, ht3, if_true]
    rw [State.t4, hfwd]
    simp only [Option.any_none, Bool.false_eq_true, and_false, if_false, hlive, Bool.not_true, hbound, ht5, hfailing, Bool.or_self, hecho, hq,
      Option.getD_some, h.op, opResponse, h.rc, if_true]
  rw [ht6]
  exact State.t6_write h hq

end

/-! ### The statement about arrivals -/

/-- A row whose state is `s` after an arrival keeps what the arrival keeps. -/
theorem State.arrivedFrom.afterFree (h : s.arrivedFrom t)
    (hfree : (s.nc.freed = false ∧ s.kept.freshTab = []) ∨ (s.parks = [] ∧ s.kept.own = [] ∧ s.seam.fwdWait = [] ∧ s.seam.early = [])) :
    t.afterFree = { t with nc := { t.nc with freed := false } } := by
  have hnc : t.nc = s.nc := by rw [h]
  have hparks : t.parks = s.parks := by rw [h]
  have hown : t.kept.own = s.kept.own := by rw [h]
  have hseam : t.seam = s.seam := by rw [h]
  refine State.afterFree_idle _ ?_
  rw [hnc, hparks, hown, hseam]
  exact hfree.imp And.left id

/-- The first clause: the WRITE that passes is accepted, and nothing but its context and its cells has moved (R72). -/
theorem State.packetReceive_write {p : Packet} {n : Nat} {q : Qp} {r : Reth} (h : s.takesWrite p n q r) (hq : s.qpAt n = some q)
    (harmed : s.doze.armed = false) (hgates : s.gates = true) (hport : s.lportPresent p.lport.val = true) (hpolicy : s.msecPolicy p.lport.val = 0)
    (htag : p.tagged = false) (hhdr : p.hdrOk = true) (hdual : p.dual = none) (hqpn : p.qpn = 0x10000 + n) (hn : n < 0x10000)
    (hlive : qpLive q.state = true) (hengine : q.engine ≠ none) (hfwd : q.fwdUntil = none) (ht5 : q.t5 p = true) (hce : p.ce = false)
    (hect : p.ect = false) (hcells : (s.takeChain (64 + portOf p.lport.val) p.prio.val (cellsFor p.data.length)).isSome = true)
    (hpfc : s.pfcOn (portOf p.lport.val) p.prio.val = false) (hwait : s.spool.waiting = [])
    (hfree : (s.nc.freed = false ∧ s.kept.freshTab = []) ∨ (s.parks = [] ∧ s.kept.own = [] ∧ s.seam.fwdWait = [] ∧ s.seam.early = [])) :
    ∃ t l, exec (.packetReceive p) s = .next { t with nc := { t.nc with freed := false } } ∧ l.length = cellsFor p.data.length ∧
      s.landed t n { q with epsn := psnAdd p.psn 1, msgs := q.msgs ++ [{ s.written p q r with cells := l }] } := by
  obtain ⟨⟨s1, l⟩, hchain⟩ := Option.isSome_iff_exists.1 hcells
  have ht1 : s.t1 p = true := by rw [State.t1, hpolicy, htag]; rfl
  have hserved : s.hostsServed = true := by rw [State.hostsServed, State.serves, h.mode, hgates]; rfl
  have hs1 := State.takeChain_quiet hpfc hchain
  generalize hs2 : ({ s1 with spool := { s1.spool with inHand := l } } : State) = s2
  have hfresh : s2 = { s with free := s1.free, spool := { s.spool with cells := s1.spool.cells, inHand := l } } := by rw [← hs2, hs1]
  have hto : s.arrivedFrom s2 := by rw [hfresh]; exact .refl _
  have htakes : s2.takesWrite p n q r := by rw [hfresh]; exact { h with }
  have hq2 : s2.qpAt n = some q := by rw [hfresh]; exact hq
  have hland := State.route_write htakes hq2 (deliver := deliverMgmt) hqpn hn hlive hengine hfwd ht5 hce hect
  have hidle : (s2.route p deliverMgmt).dropHand = s2.route p deliverMgmt :=
    State.dropHand_idle _ hland.hand (hland.waiting.trans (by rw [hfresh]; exact hwait))
  have hreceive : s.receive p = s2.route p deliverMgmt := by
    rw [State.receive_present hport, State.doPacket_served hdual ht1 hhdr hserved, State.slide_untagged htag, hchain]
    exact (congrArg (fun x => (State.route x p deliverMgmt).dropHand) hs2).trans hidle
  have hframe := hto.trans hland.frame
  have hwritten : s2.written p q r = { s.written p q r with cells := l } := by rw [hfresh]; rfl
  refine ⟨s2.route p deliverMgmt, l, ?_, State.takeChain_length hchain, hframe, hwritten ▸ hland.qp, fun k hk => (hland.others k hk).trans ?_, hland.hand,
    hland.waiting.trans ?_⟩
  · rw [State.packetReceive_runs (by rw [State.runs, h.mode]; decide) hreceive (by rw [hframe]; exact harmed), hframe.afterFree hfree]
  · rw [hfresh]; rfl
  · rw [hfresh]

/-- A packet of no queue pair is dropped, and the cells that held it are free again (R72, R35). -/
theorem State.doPacket_noQp {p : Packet} {deliver : State → MgmtFrame → State} (hdual : p.dual = none) (ht1 : s.t1 p = true) (hhdr : p.hdrOk = true)
    (hserved : s.hostsServed = true) (hcells : ((s.slide p).takeChain (64 + portOf p.lport.val) p.prio.val (cellsFor p.data.length)).isSome = true)
    (hnone : p.qpn < 0x10000 ∨ 0x20000 ≤ p.qpn ∨ s.qpAt (p.qpn - 0x10000) = none) :
    ((s.slide p).sat (F.PORT_RX_DROP_qp (portOf p.lport.val))).cellsFrom (s.doPacket p deliver) ∧ (s.doPacket p deliver).spool.inHand = [] := by
  obtain ⟨⟨s1, l⟩, hchain⟩ := Option.isSome_iff_exists.1 hcells
  rw [State.doPacket_served hdual ht1 hhdr hserved, hchain]
  have hs1 := State.takeChain_cellsFrom hchain
  have hroute : State.route { s1 with spool := { s1.spool with inHand := l } } p deliver =
      State.drop { s1 with spool := { s1.spool with inHand := l } } p F.PORT_RX_DROP_qp := by
    rw [State.route]
    split
    · rfl
    · rename_i hrange
      have hq : s1.qpAt (p.qpn - 0x10000) = none := by
        rw [hs1, State.slide_besideAssocs]
        exact (hnone.resolve_left (not_or.1 hrange).1).resolve_left (not_or.1 hrange).2
      extract_lets n
      change (match s1.qpAt n with | none => _ | some q => _) = _
      rw [hq]
  change State.cellsFrom _ (State.dropHand (State.route { s1 with spool := { s1.spool with inHand := l } } p deliver)) ∧ _
  obtain ⟨hdrop, hhand⟩ := State.dropHand_cellsFrom (State.route { s1 with spool := { s1.spool with inHand := l } } p deliver)
  refine ⟨State.cellsFrom.trans ?_ hdrop, hhand⟩
  rw [hroute, hs1]
  exact .refl _

theorem State.slide_doze (s : State) (p : Packet) : (s.slide p).doze = s.doze := by rw [State.slide_besideAssocs]

/-- A drop counter after a drop, and the registers beside it. -/
theorem State.dropped_fld (s : State) (p : Packet) (k : Nat) :
    ((s.slide p).sat (F.PORT_RX_DROP_qp k)).fld (F.PORT_RX_DROP_qp k) = Nat.min (F.PORT_RX_DROP_qp k).max (s.fld (F.PORT_RX_DROP_qp k) + 1) ∧
      s.regsKept ((s.slide p).sat (F.PORT_RX_DROP_qp k)) [(F.PORT_RX_DROP_qp k).off] := by
  have hpart : (s.slide p).part = s.part := by rw [State.slide_besideAssocs]
  have hcsr : (s.slide p).csr = s.csr := by rw [State.slide_besideAssocs]
  have hfits : ∀ v, Nat.min (F.PORT_RX_DROP_qp k).max v < 2 ^ (F.PORT_RX_DROP_qp k).width := fun v =>
    Nat.lt_of_le_of_lt (Nat.min_le_left _ _) (Nat.sub_lt (Nat.two_pow_pos _) Nat.one_pos)
  rw [← State.fld_congr hpart hcsr]
  exact ⟨State.fld_setFld_fits _ _ _ (hfits _) (by simp [Fld.ok]), ((s.slide p).setFld_regsKept _ _).from hpart hcsr⟩

/-- The fifth clause: a packet of no queue pair (R72). -/
theorem State.packetReceive_noQp {p : Packet} (hs : s.runs) (harmed : s.doze.armed = false) (hport : s.lportPresent p.lport.val = true)
    (hdual : p.dual = none) (ht1 : s.t1 p = true) (hhdr : p.hdrOk = true) (hserved : s.hostsServed = true)
    (hcells : ((s.slide p).takeChain (64 + portOf p.lport.val) p.prio.val (cellsFor p.data.length)).isSome = true)
    (hnone : p.qpn < 0x10000 ∨ 0x20000 ≤ p.qpn ∨ s.qpAt (p.qpn - 0x10000) = none)
    (hfree : s.nc.freed = false ∨ (s.parks = [] ∧ s.kept.own = [] ∧ s.seam.fwdWait = [] ∧ s.seam.early = [])) :
    ∃ t, exec (.packetReceive p) s = .next t ∧
      t.fld (F.PORT_RX_DROP_qp (portOf p.lport.val)) =
        Nat.min (F.PORT_RX_DROP_qp (portOf p.lport.val)).max (s.fld (F.PORT_RX_DROP_qp (portOf p.lport.val)) + 1) ∧
      t.kept = (s.slide p).kept ∧ s.regsKept t [(F.PORT_RX_DROP_qp (portOf p.lport.val)).off] ∧ t.spool.inHand = [] := by
  obtain ⟨hfrom, hhand⟩ := State.doPacket_noQp (deliver := deliverMgmt) hdual ht1 hhdr hserved hcells hnone
  obtain ⟨hcount, hregs⟩ := s.dropped_fld p (portOf p.lport.val)
  generalize hu : s.doPacket p deliverMgmt = u at hfrom hhand
  have hdoze : u.doze = s.doze := by rw [hfrom, State.sat_doze, State.slide_doze]
  have hnc : u.nc = s.nc := by rw [hfrom, State.sat_nc, State.slide_besideAssocs]
  have hparks : u.parks = s.parks := by rw [hfrom, State.sat_parks, State.slide_besideAssocs]
  have hseam : u.seam = s.seam := by rw [hfrom, State.sat_seam, State.slide_besideAssocs]
  have hkept : u.kept = (s.slide p).kept := by rw [hfrom, State.sat_kept]
  have hown : (s.slide p).kept.own = s.kept.own := by rw [State.slide_besideAssocs]
  have hexec := State.packetReceive_runs hs ((State.receive_present hport).trans hu) (by rw [hdoze]; exact harmed)
  rw [State.afterFree_idle u (by rw [hnc, hparks, hseam, hkept, hown]; exact hfree)] at hexec
  generalize (s.slide p).sat (F.PORT_RX_DROP_qp (portOf p.lport.val)) = v at hfrom hcount hregs
  refine ⟨_, hexec, ?_, hkept, ?_, hhand⟩
  · rw [← hcount, hfrom]
    rfl
  · rw [hfrom]
    exact hregs

/-- Settles O25, clause by clause: the checks of R72 in their order. -/
theorem writeAccepted : Obligations.WriteAccepted := by
  unfold Obligations.WriteAccepted
  refine ⟨?_, ?_, ?_, ?_, ?_, ?_, ?_⟩
  · intro s p n q r hmode harmed hgates hport hpolicy htag hhdr hdual hqpn hn hq hrc hlive hengine hfwd ht5 hnak hnaked hreplace hcur hpast hce hect hepsn
      hrnr hcells hpfc hwait _ hpsn hnew hop hreth hlen hpos hpmtu hmax hwalk hdesc hkey htiled hfits hbelow hhome hunits hchurn hpresent hblind hpoison hfree
    have htakes : s.takesWrite p n q r :=
      ⟨hmode, hblind, hpoison, hrc, hnak, hnaked, hreplace, hcur, hpast, hrnr, hepsn, hpsn, hnew, hop, hreth, hlen, hpos, hpmtu, hmax, hwalk, hdesc, hkey,
        htiled, hfits, hbelow, hhome, hunits, hchurn, hpresent⟩
    obtain ⟨t, l, hexec, hcount, hland⟩ := State.packetReceive_write htakes hq harmed hgates hport hpolicy htag hhdr hdual hqpn hn hlive hengine hfwd ht5 hce
      hect hcells hpfc hwait hfree
    have hframe := hland.frame
    refine ⟨_, hexec, ⟨_, hland.qp, if_pos hrc, rfl, rfl, rfl, rfl, rfl, rfl, hcount⟩, hland.hand, ?_, ?_, ?_, hland.others, ?_, ?_, ?_, ?_, ?_⟩ <;>
      rw [hframe]
  · intro s p hs harmed hport hdual ht1
    exact State.packetReceive_runs hs ((State.receive_present hport).trans (State.doPacket_macsec hdual ht1)) ((State.sat_doze _ _ _).symm ▸ harmed)
  · intro s p hs harmed hport hdual ht1 hhdr
    refine State.packetReceive_runs hs ((State.receive_present hport).trans (State.doPacket_header hdual ht1 hhdr)) ?_
    rw [State.sat_doze, State.slide_doze]
    exact harmed
  · intro s p hs harmed hport hdual ht1 hhdr hserved
    refine State.packetReceive_runs hs ((State.receive_present hport).trans (State.doPacket_unserved hdual ht1 hhdr hserved)) ?_
    rw [State.sat_doze, State.slide_doze]
    exact harmed
  · intro s p hs harmed hport hdual ht1 hhdr hserved hcells hnone hfree
    exact State.packetReceive_noQp hs harmed hport hdual ht1 hhdr hserved hcells hnone hfree
  · intro s p hs harmed hport hdual ht1 hhdr hserved hcells
    refine State.packetReceive_runs hs ((State.receive_present hport).trans ?_) ?_
    · rw [State.doPacket_served hdual ht1 hhdr hserved, Option.isNone_iff_eq_none.1 (Option.isSome_eq_false_iff.1 hcells), Option.elim_none]
    · rw [State.slide_doze]
      exact harmed
  · intro s p hs harmed hport
    exact State.packetReceive_runs hs (State.receive_absent hport) harmed

end Sys2Proof.Machine
end

section
set_option Elab.async false
/-! PROOFS. What the end of BRINGUP and the entry into RESTORE leave as it was (R38, R153, R164). -/

namespace Sys2Proof.Machine

/-- The value of a register of a part whose registers are `csr`. -/
def regIn (part : Part) (csr : List (Nat × Word)) (off : Nat) : Word := (alGet csr off).getD (resetWord part off)

/-- RGN_RANGE_TOP, SEAM_CLAIM, GLB_SAVE_STAT, SEAM_PAIR_CFG and GLB_RESTORE_CFG. -/
@[simp] def standRegs : List Nat := [0x200000, 0xA00004, 0x200, 0xA00010, 0x210]

/-- Those registers and the role. -/
def standIn (part : Part) (csr : List (Nat × Word)) : List Word × Nat := (standRegs.map (regIn part csr), bitsOf (regIn part csr 0xA00000) 29 29)

/-- What the steps around the end of BRINGUP work around: memory, domains and tiles with their map, the queue pairs, the mode, what stands outside the core's
tables, and the registers of `standIn`. -/
structure Standing where
  mem : List Host.Cell
  domains : List (Nat × Domain)
  wrapCount : Nat
  tiles : List (Nat × Tile)
  map : List (Nat × Nat)
  qps : List (Nat × Qp)
  mode : Mode
  boot : Boot
  area : SaveArea
  nor : Nor
  fuses : Fuses
  part : Part
  pops : List (Nat × Pop)
  usable : Nat
  root : Option Root
  formatted : Bool
  mrtQ : Nat
  regs : List Word × Nat

def State.standing (s : State) : Standing :=
  ⟨s.kept.mem, s.kept.domains, s.kept.wrapCount, s.kept.tiles, s.kept.map, s.kept.qps, s.mode, s.boot, s.area, s.nor, s.fuses, s.part, s.pops, s.nand.usable,
    s.nand.root, s.nand.formatted, s.mrtQ, standIn s.part s.csr⟩

@[simp] theorem State.standing_mk
    pending free part mode prevMode changes mrtQ csr latch out kept gate weft spool ev mons peatQ peatSnap pcie pcieHeld mqpOut sbus cryp scan lks fuses thm clk
    save pf brownout entries descs shared tlr fetches parks pops retFrames retBanks retRecs serials moved nc ports fencedAt seam tests nand svn area drams dmarks fen doze nor boot :
    (State.mk pending free part mode prevMode changes mrtQ csr latch out kept gate weft spool ev mons peatQ peatSnap pcie pcieHeld mqpOut sbus cryp scan lks fuses thm clk
    save pf brownout entries descs shared tlr fetches parks pops retFrames retBanks retRecs serials moved nc ports fencedAt seam tests nand svn area drams dmarks fen doze nor boot).standing =
      ⟨kept.mem, kept.domains, kept.wrapCount, kept.tiles, kept.map, kept.qps, mode, boot, area, nor, fuses, part, pops, nand.usable, nand.root, nand.formatted, mrtQ, standIn part csr⟩ := rfl

@[simp] theorem State.standing_eta (s : State) :
    (⟨s.kept.mem, s.kept.domains, s.kept.wrapCount, s.kept.tiles, s.kept.map, s.kept.qps, s.mode, s.boot, s.area, s.nor, s.fuses, s.part, s.pops, s.nand.usable,
      s.nand.root, s.nand.formatted, s.mrtQ, standIn s.part s.csr⟩ : Standing) = s.standing := rfl

@[simp] theorem State.standing_ite (c : Prop) [Decidable c] (s t : State) : (if c then s else t).standing = if c then s.standing else t.standing :=
  apply_ite _ _ _ _

@[simp] theorem standing_forUp {f : Nat → State → State} (hf : ∀ i s, (f i s).standing = s.standing) (k i : Nat) (s : State) :
    (forUp f k i s).standing = s.standing := by
  induction k generalizing i s with
  | zero => rfl
  | succ k ih => rw [forUp, ih, hf]

@[simp] theorem standing_foldl {α : Type} {f : State → α → State} (hf : ∀ s a, (f s a).standing = s.standing) (l : List α) (s : State) :
    (l.foldl f s).standing = s.standing := by
  induction l generalizing s with
  | nil => rfl
  | cons a l ih => rw [List.foldl_cons, ih, hf]

/-- A field beside those of `standIn`. -/
@[simp] def Fld.beside (f : Fld) : Bool :=
  decide (f.lo ≤ f.hi) && decide (f.hi < 32) && !(0xA00000 :: standRegs).contains f.off

theorem State.standing_of_regs {s t : State} (hregs : standIn t.part t.csr = standIn s.part s.csr) (h : t = { s with csr := t.csr, ev := t.ev, out := t.out, peatQ := t.peatQ }) :
    t.standing = s.standing := by
  rw [State.standing, hregs, h]
  rfl

@[simp] theorem State.setFld_standing (s : State) {f : Fld} (v : Nat) (h : f.beside = true) : (s.setFld f v).standing = s.standing := by
  simp only [Fld.beside, standRegs, Bool.and_eq_true, decide_eq_true_eq, Bool.not_eq_true', List.contains_cons, Bool.or_eq_false_iff, beq_eq_false_iff_ne] at h
  obtain ⟨⟨hlo, hhi⟩, hlead, h1, h2, h3, h4, h5, -⟩ := h
  refine State.standing_of_regs ?_ rfl
  have hreg : ∀ off, off ≠ f.off → regIn (s.setFld f v).part (s.setFld f v).csr off = regIn s.part s.csr off := fun off hoff => s.reg_setReg_other _ _ _ hoff
  have hflag : bitsOf (regIn (s.setFld f v).part (s.setFld f v).csr 0xA00000) 29 29 = bitsOf (regIn s.part s.csr 0xA00000) 29 29 :=
    s.fld_setFld_other f ⟨0xA00000, 29, 29⟩ v ⟨hlo, hhi⟩ (.inl hlead)
  rw [standIn, standIn, hflag]
  simp only [standRegs, List.map_cons, List.map_nil, hreg _ h1.symm, hreg _ h2.symm, hreg _ h3.symm, hreg _ h4.symm, hreg _ h5.symm]

@[simp] theorem State.setBit_standing (s : State) {f : Fld} (b : Bool) (h : f.beside = true) : (s.setBit f b).standing = s.standing := by
  rw [State.setBit, State.setFld_standing _ _ h]

@[simp] theorem State.wrap_standing (s : State) {f : Fld} (n : Nat) (h : f.beside = true) : (s.wrap f n).standing = s.standing := by
  rw [State.wrap, State.setFld_standing _ _ h]

@[simp] theorem State.sat_standing (s : State) {f : Fld} (n : Nat) (h : f.beside = true) : (s.sat f n).standing = s.standing := by
  rw [State.sat, State.setFld_standing _ _ h]

@[simp] theorem State.raise_standing (s : State) {ev : Nat} (inst : Nat) (hev : ev < 640) : (s.raise ev inst).standing = s.standing := by
  obtain ⟨heq, hregs⟩ := s.raise_only ev inst hev
  refine State.standing_of_regs ?_ heq
  have hreg : ∀ off, eventRegister off = false → regIn (s.raise ev inst).part (s.raise ev inst).csr off = regIn s.part s.csr off := fun off hoff =>
    hregs off List.not_mem_nil hoff
  simp only [standIn, standRegs, List.map_cons, List.map_nil, hreg 0x200000 (by decide), hreg 0xA00004 (by decide), hreg 0x200 (by decide),
    hreg 0xA00010 (by decide), hreg 0x210 (by decide), hreg 0xA00000 (by decide)]

@[simp] theorem State.put_standing (s : State) (o : Out) : (State.put s o).standing = s.standing := by
  simp [State.put]

@[simp] theorem State.sendMsix_standing (s : State) (pf : Nat) (vector : Nat) : (State.sendMsix s pf vector).standing = s.standing := by
  simp [State.sendMsix]

@[simp] theorem State.setLink_standing (s : State) (l : Nat) (x : Link) : (State.setLink s l x).standing = s.standing := by
  simp [State.setLink]

@[simp] theorem State.putFrame_standing (s : State) (l : Nat) (n : Nat) (i : Nat) (f : SFrame) : (State.putFrame s l n i f).standing = s.standing := by
  simp [State.putFrame]

@[simp] theorem State.launch_standing (s : State) (l : Nat) (i : Nat) (f : SFrame) : (State.launch s l i f).standing = s.standing := by
  simp [State.launch]

@[simp] theorem State.sendFrame_standing (s : State) (l : Nat) (i : Nat) (f : SFrame) : (State.sendFrame s l i f).standing = s.standing := by
  simp [State.sendFrame]

@[simp] theorem State.sendOn_standing (s : State) (l : Nat) (f : SFrame) : (State.sendOn s l f).standing = s.standing := by
  simp [State.sendOn]

@[simp] theorem State.seamSend_standing (s : State) (f : SFrame) : (State.seamSend s f).standing = s.standing := by
  simp [State.seamSend]

@[simp] theorem State.pumpN_standing (x0 : Nat) (x1 : Nat) (x2 : State) : (State.pumpN x0 x1 x2).standing = x2.standing := by
  induction x0 generalizing x2 with
  | zero => rfl
  | succ k ih => unfold State.pumpN; dsimp only; (repeat' split) <;> simp [ih]

@[simp] theorem State.pump_standing (s : State) (l : Nat) : (State.pump s l).standing = s.standing := by
  simp [State.pump]

@[simp] theorem State.answer_standing (s : State) (h : Hdr) (code : Nat) (st : Status) (vals : List Nat) : (State.answer s h code st vals).standing = s.standing := by
  unfold State.answer
  (repeat' split) <;> simp

@[simp] theorem State.complete_standing (s : State) (h : Hdr) (st : Status) (vals : List Nat) : (State.complete s h st vals).standing = s.standing := by
  simp [State.complete]

@[simp] theorem State.endDoze_standing (s : State) : (State.endDoze s).standing = s.standing := by
  unfold State.endDoze
  dsimp only
  split <;> simp -implicitDefEqProofs

@[simp] theorem State.tickFree_standing (s : State) : (State.tickFree s).standing = s.standing := by
  simp [State.tickFree]

@[simp] theorem State.putRec_standing (s : State) (slot : Nat) (r : PeatRec) : (State.putRec s slot r).standing = s.standing := by
  simp [State.putRec]

theorem dropField_beside (sev : Nat) : (dropField sev).beside = true := by
  unfold dropField
  split <;> rfl

@[simp] theorem State.allocRec_standing (s : State) (sev : Nat) (r : PeatRec) : (State.allocRec s sev r).standing = s.standing := by
  unfold State.allocRec
  (repeat' split) <;> simp [Ev.PEAT_DROPPED, dropField_beside, -Fld.beside]

@[simp] theorem State.lifeRec_standing (m : Nat) (s : State) : (State.lifeRec m s).standing = s.standing := by
  unfold State.lifeRec
  split <;> simp

@[simp] theorem State.ownRec_standing (ev : Nat) (s : State) : (State.ownRec ev s).standing = s.standing := by
  unfold State.ownRec
  split <;> simp

@[simp] theorem State.startPeat_standing (s : State) : (State.startPeat s).standing = s.standing := by
  simp [State.startPeat]

@[simp] theorem State.notePeatLost_standing (s : State) : (State.notePeatLost s).standing = s.standing := by
  simp [State.notePeatLost, Ev.PEAT_STORE_LOST]

@[simp] theorem State.losePeat_standing (s : State) : (State.losePeat s).standing = s.standing := by
  simp [State.losePeat]

@[simp] theorem State.setThrottle_standing (s : State) : (State.setThrottle s).standing = s.standing := by
  simp [State.setThrottle, Ev.TLR_THROTTLE]

@[simp] theorem State.reviewCap_standing (s : State) : (State.reviewCap s).standing = s.standing := by
  simp [State.reviewCap, Ev.TLR_CAP_BELOW_PIN, Ev.TLR_CAP_OVER_FROZEN]

@[simp] theorem State.capNow_standing (s : State) : (State.capNow s).standing = s.standing := by
  simp [State.capNow, Ev.TLR_CAP_GROW, Ev.TLR_CAP_SHRINK]

@[simp] theorem State.reviewFull_standing (s : State) : (State.reviewFull s).standing = s.standing := by
  simp [State.reviewFull, Ev.QLT_FULL]

@[simp] theorem State.firstCap_standing (s : State) (was : Mode) : (State.firstCap s was).standing = s.standing := by
  simp [State.firstCap]

@[simp] theorem State.poisonLine_standing (s : State) (line : Nat) : (State.poisonLine s line).standing = s.standing := by
  simp [State.poisonLine]

@[simp] theorem State.poisonUnit_standing (s : State) (t : Nat) (unit : Nat) : (State.poisonUnit s t unit).standing = s.standing := by
  simp [State.poisonUnit]

@[simp] theorem State.holdCommit_standing (s : State) (v : Nat) : (State.holdCommit s v).standing = s.standing := by
  simp [State.holdCommit, Ev.TIME_COMMIT_HELD]

@[simp] theorem State.raiseCommit_standing (s : State) (stamp : Nat) : (State.raiseCommit s stamp).standing = s.standing := by
  simp [State.raiseCommit]

@[simp] theorem State.sendTack_standing (s : State) (type : Nat) : (State.sendTack s type).standing = s.standing := by
  simp [State.sendTack]

@[simp] theorem State.openRecord_standing (s : State) : (State.openRecord s).standing = s.standing := by
  simp [State.openRecord]

@[simp] theorem State.dropStamp_standing (s : State) : (State.dropStamp s).standing = s.standing := by
  simp [State.dropStamp]

@[simp] theorem State.entryPoint_standing (s : State) (c : Nat) (q : Nat) : (State.entryPoint s c q).standing = s.standing := by
  simp [State.entryPoint]

@[simp] theorem State.twinGone_standing (s : State) : (State.twinGone s).standing = s.standing := by
  simp [State.twinGone]

@[simp] theorem State.showQuilt_standing (s : State) : (State.showQuilt s).standing = s.standing := by
  simp -implicitDefEqProofs [State.showQuilt]

/-! ### What does change it -/

theorem State.setMode_standing (s : State) (m : Mode) : (s.setMode m).standing = { s.standing with mode := m } := by
  unfold State.setMode
  split
  · rename_i h
    rw [← h]
    rfl
  · extract_lets u
    have hu : u.standing = s.standing := by
      simp only [u]
      split <;> simp
    rw [State.raise_standing _ _ (by decide)]
    change { u.standing with mode := m } = _
    rw [hu]

/-- A status of the pair beside the role. -/
theorem State.setBit_status_standing (s : State) {f : Fld} (b : Bool) (h : f.off = 0xA00000 ∧ f.lo ≤ f.hi ∧ f.hi < 29) : (s.setBit f b).standing = s.standing := by
  obtain ⟨hoff, hlo, hhi⟩ := h
  have hreg : ∀ off, off ≠ f.off → regIn (s.setBit f b).part (s.setBit f b).csr off = regIn s.part s.csr off := fun off hne => s.reg_setReg_other _ _ _ hne
  have hflag : bitsOf (regIn (s.setBit f b).part (s.setBit f b).csr 0xA00000) 29 29 = bitsOf (regIn s.part s.csr 0xA00000) 29 29 :=
    s.fld_setFld_other f ⟨0xA00000, 29, 29⟩ _ ⟨hlo, by omega⟩ (.inr (.inl hhi))
  refine State.standing_of_regs ?_ rfl
  rw [standIn, standIn, hflag]
  simp only [standRegs, List.map_cons, List.map_nil, hreg 0x200000 (by omega), hreg 0xA00004 (by omega), hreg 0x200 (by omega), hreg 0xA00010 (by omega),
    hreg 0x210 (by omega)]

/-- A field of one of the registers is what it was. -/
theorem State.fld_of_standing {s t : State} (h : t.standing.regs.1 = s.standing.regs.1) (f : Fld) (hf : f.off ∈ standRegs) : t.fld f = s.fld f := by
  have hreg : regIn t.part t.csr f.off = regIn s.part s.csr f.off := (List.map_inj_left.1 h) _ hf
  exact congrArg (fun w => bitsOf w f.hi f.lo) hreg

theorem State.lead_of_standing {s : State} (h : s.standing.regs.2 = 1) : s.lead = true := by
  have hfld : s.fld F.SEAM_STATUS_lead = 1 := h
  rw [State.lead, State.bit, hfld]
  rfl

/-- The role is set. -/
theorem State.setLead_standing (s : State) : (s.setBit F.SEAM_STATUS_lead true).standing = { s.standing with regs := (s.standing.regs.1, 1) } := by
  have hreg : ∀ off, off ≠ 0xA00000 → regIn (s.setBit F.SEAM_STATUS_lead true).part (s.setBit F.SEAM_STATUS_lead true).csr off = regIn s.part s.csr off :=
    fun off hne => s.reg_setReg_other _ _ _ hne
  have hflag : bitsOf (regIn (s.setBit F.SEAM_STATUS_lead true).part (s.setBit F.SEAM_STATUS_lead true).csr 0xA00000) 29 29 = 1 :=
    s.fld_setFld_fits F.SEAM_STATUS_lead 1 (by decide)
  have hregs : standIn (s.setBit F.SEAM_STATUS_lead true).part (s.setBit F.SEAM_STATUS_lead true).csr = (s.standing.regs.1, 1) := by
    rw [standIn, hflag]
    simp only [State.standing, standIn, standRegs, List.map_cons, List.map_nil, hreg 0x200000 (by decide), hreg 0xA00004 (by decide), hreg 0x200 (by decide),
      hreg 0xA00010 (by decide), hreg 0x210 (by decide)]
  rw [State.standing, hregs]
  rfl

/-! ### Queue pairs without messages -/

/-- No queue pair holds a message. -/
def State.noMsgs (s : State) : Prop := ∀ p ∈ s.kept.qps, p.2.msgs = []

theorem State.noMsgs.of_standing {s t : State} (hs : s.noMsgs) (h : t.standing = s.standing) : t.noMsgs := by
  have hqps : t.kept.qps = s.kept.qps := congrArg Standing.qps h
  rw [State.noMsgs, hqps]
  exact hs

theorem State.noMsgs.sweep {s : State} (hs : s.noMsgs) (n : Nat) : s.sweep n = s := by
  unfold State.sweep
  cases hq : s.qpAt n with
  | none => rfl
  | some q =>
    have hmsgs : q.msgs = [] := hs (n, q) (mem_of_alGet hq)
    simp only [hmsgs, List.length_nil, State.sweepN]

theorem State.noMsgs.sweepAll {s : State} (hs : s.noMsgs) : s.sweepAll = s := by
  unfold State.sweepAll
  induction s.kept.qps with
  | nil => rfl
  | cons p l ih => rw [List.foldl_cons, hs.sweep, ih]

theorem State.noMsgs.reviewPair {s : State} (hs : s.noMsgs) : s.reviewPair.standing = s.standing := by
  unfold State.reviewPair
  extract_lets tok held req a b c was d
  have ha : a.standing = s.standing := by simp [a]
  have hb : b.standing = s.standing := by simp [b, ha]
  have hc : c.standing = s.standing := (State.setBit_status_standing _ _ (by decide)).trans hb
  have hd : d.standing = s.standing := (State.setBit_status_standing _ _ (by decide)).trans hc
  split
  · rw [State.pump_standing, State.pump_standing, (hs.of_standing hd).sweepAll, hd]
  · exact hd

/-- With no queue pairs a commit reaches its point unseen. -/
theorem State.reachPoint_standing {s : State} (n psn : Nat) (pub : Option (Nat × Nat)) (hs : s.kept.qps = []) :
    (s.reachPoint n psn pub).standing = s.standing := by
  unfold State.reachPoint
  extract_lets mark a b
  have ha : a.standing = s.standing := by
    simp only [a, State.modQp, State.standing_mk, hs]
    change _ = ({ s with kept := { s.kept with qps := s.kept.qps } } : State).standing
    rw [hs]
    rfl
  have hb : b.standing = s.standing := by
    simp only [b]
    split
    · rw [State.entryPoint_standing, ha]
    · exact ha
  have hnone : b.noMsgs := by
    have hqps : b.kept.qps = [] := (congrArg Standing.qps hb).trans hs
    rw [State.noMsgs, hqps]
    exact fun p hp => absurd hp List.not_mem_nil
  rw [hnone.sweep, hb]

end Sys2Proof.Machine
end

section
set_option Elab.async false
/-! PROOFS. A unit without a pair begins to serve at the end of BRINGUP (R164, R165). -/

namespace Sys2Proof.Machine

variable {s t u : State}

/-! ### The claim -/

/-- What stands, but for the claim. -/
def Standing.unclaimed (x : Standing) : Standing := { x with regs := (x.regs.1.set 1 0, x.regs.2) }

theorem State.qps_of_standing {x : Standing} (h : s.standing = x) : s.kept.qps = x.qps := congrArg Standing.qps h
theorem State.mode_of_standing {x : Standing} (h : s.standing = x) : s.mode = x.mode := congrArg Standing.mode h
theorem State.role_of_standing {x : Standing} (h : s.standing = x) : s.standing.regs.2 = x.regs.2 := congrArg (fun x => x.regs.2) h
theorem State.qps_of_unclaimed {x : Standing} (h : s.standing.unclaimed = x.unclaimed) : s.kept.qps = x.qps := congrArg Standing.qps h
theorem State.mode_of_unclaimed {x : Standing} (h : s.standing.unclaimed = x.unclaimed) : s.mode = x.mode := congrArg Standing.mode h
theorem State.role_of_unclaimed {x : Standing} (h : s.standing.unclaimed = x.unclaimed) : s.standing.regs.2 = x.regs.2 := congrArg (fun x => x.regs.2) h

theorem State.setClaim_unclaimed (s : State) (v : Nat) : (s.setFld F.SEAM_CLAIM_epoch v).standing.unclaimed = s.standing.unclaimed := by
  have hreg : ∀ off, off ≠ 0xA00004 → regIn (s.setFld F.SEAM_CLAIM_epoch v).part (s.setFld F.SEAM_CLAIM_epoch v).csr off = regIn s.part s.csr off :=
    fun off hne => s.reg_setReg_other _ _ _ hne
  have hregs : ((standIn (s.setFld F.SEAM_CLAIM_epoch v).part (s.setFld F.SEAM_CLAIM_epoch v).csr).1.set 1 0,
      (standIn (s.setFld F.SEAM_CLAIM_epoch v).part (s.setFld F.SEAM_CLAIM_epoch v).csr).2) = ((standIn s.part s.csr).1.set 1 0, (standIn s.part s.csr).2) := by
    simp only [standIn, standRegs, List.map_cons, List.map_nil, List.set_cons_succ, List.set_cons_zero, hreg 0x200000 (by decide), hreg 0x200 (by decide),
      hreg 0xA00010 (by decide), hreg 0x210 (by decide), hreg 0xA00000 (by decide)]
  generalize hv : s.setFld F.SEAM_CLAIM_epoch v = u at hregs
  have hu : u.standing = { s.standing with regs := standIn u.part u.csr } := by
    rw [State.standing, ← hv]
    rfl
  rw [hu, Standing.unclaimed, Standing.unclaimed]
  exact congrArg (fun r => { s.standing with regs := r }) hregs

theorem State.raiseEpoch_unclaimed (s : State) : s.raiseEpoch.standing.unclaimed = s.standing.unclaimed := by
  unfold State.raiseEpoch
  split
  · exact State.setClaim_unclaimed _ _
  · exact State.setClaim_unclaimed _ _

theorem State.raiseEpoch_qps (s : State) : s.raiseEpoch.kept.qps = s.kept.qps := State.qps_of_unclaimed (State.raiseEpoch_unclaimed s)

/-! ### SOLO without queue pairs -/

theorem State.noMsgs_of_nil (h : s.kept.qps = []) : s.noMsgs := by
  rw [State.noMsgs, h]
  exact fun p hp => absurd hp List.not_mem_nil

theorem State.adoptAll_nil (h : s.kept.qps = []) : s.adoptAll = s := by
  rw [State.adoptAll, h]
  rfl

theorem State.bindAll_nil (h : s.kept.qps = []) : s.bindAll = s := by
  rw [State.bindAll, h]
  rfl

theorem State.reachPoints_standing (l : List Unmacked) (h : s.kept.qps = []) :
    (l.foldl (fun s c => s.reachPoint c.qp c.psn c.pub) s).standing = s.standing := by
  induction l generalizing s with
  | nil => rfl
  | cons c l ih =>
    have hstep := State.reachPoint_standing c.qp c.psn c.pub h
    rw [List.foldl_cons, ih ((State.qps_of_standing hstep).trans h), hstep]

/-- A unit that serves alone as LEAD enters SOLO once more: only its claim has risen (R179). -/
theorem State.enterSolo_unclaimed (h : s.kept.qps = []) (hmode : s.mode = .solo) (hlead : s.standing.regs.2 = 1) :
    s.enterSolo.standing.unclaimed = s.standing.unclaimed := by
  unfold State.enterSolo
  extract_lets was a cs x y z b c d
  have ha : a.standing.unclaimed = s.standing.unclaimed := by
    have hopen : s.raiseEpoch.openRecord.standing = s.raiseEpoch.standing := State.openRecord_standing _
    have hrole : s.raiseEpoch.standing.regs.2 = 1 := (State.role_of_unclaimed (State.raiseEpoch_unclaimed s)).trans hlead
    simp only [a]
    rw [State.setLead_standing, hopen, ← hrole]
    exact State.raiseEpoch_unclaimed s
  have hb : b.standing.unclaimed = s.standing.unclaimed := by
    simp only [b]
    rw [State.standing_mk, State.standing_eta]
    exact ha
  clear_value b
  have hbmode : b.mode = .solo := (State.mode_of_unclaimed hb).trans hmode
  have hbqps : b.kept.qps = [] := (State.qps_of_unclaimed hb).trans h
  have hsolo : ((b.setMode .solo).dropStamp).standing = b.standing := by
    rw [State.dropStamp_standing, State.setMode_standing, ← hbmode]
    rfl
  have hc : c.standing = b.standing :=
    ((State.noMsgs_of_nil ((State.qps_of_standing hsolo).trans hbqps)).reviewPair).trans hsolo
  have hd : d.standing = b.standing := (State.reachPoints_standing cs ((State.qps_of_standing hc).trans hbqps)).trans hc
  rw [State.firstCap_standing, State.twinGone_standing, hd, hb]

/-- What the unit does with its witness where it serves alone, without queue pairs (R179). -/
theorem State.seize_unclaimed (h : s.kept.qps = []) (hmode : s.mode = .solo) (hlead : s.standing.regs.2 = 1) :
    s.seize.standing.unclaimed = s.standing.unclaimed := by
  have hmirrored : s.mirrored = false := by rw [State.mirrored, hmode]; rfl
  have hmust : s.mustTake = false := by rw [State.mustTake, hmirrored]; rfl
  have hrefused : s.refusedWrite = false := by rw [State.refusedWrite, hmirrored]; rfl
  unfold State.seize
  rw [hmust, hrefused]
  simp only [Bool.false_eq_true, if_false]
  split
  · rfl
  · split
    · have hsolo := State.enterSolo_unclaimed h hmode hlead
      have hqps : s.enterSolo.kept.qps = [] := (State.qps_of_unclaimed hsolo).trans h
      rw [State.raise_standing _ _ (by decide), State.adoptAll_nil hqps, State.bindAll_nil hqps, hsolo]
    · split
      · rw [State.raise_standing _ _ (by decide), (State.noMsgs_of_nil ((State.raiseEpoch_qps s).trans h)).reviewPair, State.raiseEpoch_unclaimed]
      · rfl

/-- A unit without a pair serves in SOLO as LEAD (R165). -/
theorem State.stand_unclaimed (h : s.kept.qps = []) (hpair : s.pairEn = false) :
    s.stand.standing.unclaimed = { s.standing with mode := .solo, regs := (s.standing.regs.1, 1) }.unclaimed := by
  unfold State.stand
  rw [hpair]
  simp only [Bool.false_eq_true, if_false]
  generalize ha' : ((s.openRecord.setBit F.SEAM_STATUS_lead true).setMode .solo).dropStamp.firstCap _ = a
  have ha : a.standing = { s.standing with mode := .solo, regs := (s.standing.regs.1, 1) } := by
    rw [← ha']
    rw [State.firstCap_standing, State.dropStamp_standing, State.setMode_standing, State.setLead_standing, State.openRecord_standing]
  have hqps : a.kept.qps = [] := (State.qps_of_standing ha).trans h
  have hreview := (State.noMsgs_of_nil hqps).reviewPair
  rw [State.adoptAll_nil hqps, State.bindAll_nil hqps,
    State.seize_unclaimed ((State.qps_of_standing hreview).trans hqps) (State.mode_of_standing (hreview.trans ha))
      (State.role_of_standing (hreview.trans ha)), hreview, ha]

end Sys2Proof.Machine
end

section
set_option Elab.async false
/-! PROOFS. What the NAND's part of BRINGUP leaves as it was (R229 to R233), and the ends of BRINGUP that serve (R38, R152, R164). -/

namespace Sys2Proof.Machine

variable {s t u : State}

/-! ### The NAND (R229 to R233) -/

/-- What stands, but for the channels' populations. -/
def Standing.popless (x : Standing) : Standing := { x with pops := [] }

/-- What stands, but for what a format and a fit to the slots set. -/
def Standing.bare (x : Standing) : Standing := { x with pops := [], usable := 0, area := {}, root := none, formatted := false }

theorem NCH_STATUS_beside (c : Nat) : (F.NCH_STATUS_state c).beside = true ∧ (F.NCH_STATUS_rate c).beside = true ∧ (F.NCH_STATUS_targets c).beside = true := by
  have h : ∀ x ∈ 0xA00000 :: standRegs, ¬ 0xE80000 + c * 0x1000 = x := by simp [standRegs]; omega
  refine ⟨?_, ?_, ?_⟩ <;> simpa [Fld.beside] using h

theorem DMC_STATUS_beside (c : Nat) : (F.DMC_STATUS_state c).beside = true ∧ (F.DMC_STATUS_dimm0 c).beside = true ∧ (F.DMC_STATUS_dimm1 c).beside = true := by
  have h : ∀ x ∈ 0xA00000 :: standRegs, ¬ 0xC00000 + c * 0x10000 = x := by simp [standRegs]; omega
  refine ⟨?_, ?_, ?_⟩ <;> simpa [Fld.beside] using h

theorem State.standing_targets (s : State) (l : List Nat) : ({ s with nand := { s.nand with targets := l } } : State).standing = s.standing := rfl

@[simp] theorem State.scanChannel_standing (s : State) (c : Fin 32 × List NandChip) : (s.scanChannel c).standing = s.standing := by
  obtain ⟨hstate, hrate, htargets⟩ := NCH_STATUS_beside c.1.val
  have hraise : ∀ (l : List NandChip), (l.foldl (fun s x => s.raise Ev.NCH_TARGET_FAIL (c.1.val * 16 + x.ce.val)) s).standing = s.standing := fun l =>
    standing_foldl (fun u x => State.raise_standing _ _ (by decide)) _ _
  rw [State.scanChannel]
  dsimp only
  split
  · exact hraise _
  · rw [State.standing_targets, State.setFld_standing _ _ htargets, State.setFld_standing _ _ hrate, State.setFld_standing _ _ hstate, hraise]

theorem State.format_bare (s : State) (sc : NandScan) : (s.format sc).standing.bare = s.standing.bare := by
  unfold State.format
  extract_lets p bt n raw d map tier spare chans
  rfl

theorem State.fitSlot_popless (k : Nat) (s : State) : (State.fitSlot k s).standing.popless = s.standing.popless := by
  induction k generalizing s with
  | zero => rfl
  | succ k ih =>
    unfold State.fitSlot
    split
    · rfl
    · split
      · rename_i c _ _
        obtain ⟨hstate, h0, h1⟩ := DMC_STATUS_beside c
        rw [ih, State.setBit_standing _ _ h1, State.setBit_standing _ _ h0, State.setFld_standing _ _ hstate]
        rfl
      · rfl

/-- The NAND is brought up: what the scan finds, a format where no root record is found, and the channels that a slot has room for. -/
theorem State.bringNand_standing (s : State) (sc : NandScan) : ∃ a : State, a.standing = s.standing ∧
    (s.bringNand sc).standing.popless = (if s.nand.formatted = true ∧ sc.root = true then a else a.format sc).standing.popless := by
  unfold State.bringNand
  extract_lets n a b c d rate
  have ha : a.standing = s.standing := by
    simp only [a]
    rw [standing_forUp (fun c u => State.setFld_standing _ _ (NCH_STATUS_beside c).1), State.standing_mk]
    rfl
  clear_value a
  have hb : b.standing = s.standing := (standing_foldl (fun u c => u.scanChannel_standing c) _ _).trans ha
  clear_value b
  have hformatted : b.nand.formatted = s.nand.formatted := congrArg Standing.formatted hb
  have hc : c = if s.nand.formatted = true ∧ sc.root = true then b else b.format sc := by
    rw [← hformatted]
  refine ⟨b, hb, ?_⟩
  rw [← hc]
  clear_value c
  have hd : d.standing.popless = c.standing.popless := by
    simp only [d]
    split
    · rw [State.fitSlot_popless, State.raise_standing _ _ (by decide), State.setBit_standing _ _ (by decide)]
    · rfl
  rw [State.showQuilt_standing, State.setFld_standing _ _ (by decide), State.setFld_standing _ _ (by decide), hd]

end Sys2Proof.Machine
end

section
set_option Elab.async false
/-! PROOFS. BRINGUP ends without an image, or with its images discarded: the unit serves in SOLO (R38, R152, R164). -/

namespace Sys2Proof.Machine

variable {s t u v : State}

/-! ### Readings of what stands -/

/-- A register beside the claim is what it was where the rest stands. -/
theorem State.fld_of_unclaimed {x : Standing} (h : t.standing.unclaimed = x.unclaimed) (hx : x.regs.1 = s.standing.regs.1) (f : Fld)
    (hf : f.off ∈ [0x200000, 0x200, 0xA00010, 0x210]) : t.fld f = s.fld f := by
  have hlist : t.standing.regs.1.set 1 0 = s.standing.regs.1.set 1 0 := (congrArg (fun y => y.regs.1) h).trans (congrArg (·.set 1 0) hx)
  simp only [State.standing, standIn, standRegs, List.map_cons, List.map_nil, List.set_cons_succ, List.set_cons_zero, List.cons.injEq] at hlist
  obtain ⟨htop, -, hsave, hpair, hrestore, -⟩ := hlist
  have hreg : regIn t.part t.csr f.off = regIn s.part s.csr f.off := by
    simp only [List.mem_cons, List.not_mem_nil, or_false] at hf
    rcases hf with hf | hf | hf | hf <;> rw [hf] <;> assumption
  exact congrArg (fun w => bitsOf w f.hi f.lo) hreg

/-! ### The steps before the image is looked for -/

/-- BRINGUP up to the search for an image: the NAND, the range of tenants, boot's ready flag, and the energy at hand (R38, R46, R121). -/
def State.surveyed (s : State) (sc : NandScan) : State :=
  let a := (s.bringNand sc).setFld F.RGN_RANGE_TOP_top_tiles (Nat.min 0x68000000 ((s.bringNand sc).nand.usable + (s.bringNand sc).framesFound))
  let c := { a with boot := { a.boot with ready := true } }
  c.setFld F.TLR_CAP_IN_e_est (c.fld F.FEN_BAT_E_e_est % 65536)

theorem State.doBringupComplete_ends (h : s.canEnd = true) (sc : NandScan) : s.doBringupComplete sc = ((s.surveyed sc).endBringup sc).reviewFull := by
  simp only [State.doBringupComplete, if_pos h, State.surveyed]

theorem State.ready_standing (s : State) : ({ s with boot := { s.boot with ready := true } } : State).standing =
    { s.standing with boot := { s.boot with ready := true } } := rfl

/-- A register that is set leaves the rest of what stands. -/
theorem State.setFld_standing_regs (s : State) (f : Fld) (v : Nat) : (s.setFld f v).standing = { s.standing with regs := (s.setFld f v).standing.regs } := rfl

/-- The survey in terms of the NAND that was brought up. -/
theorem State.surveyed_standing (s : State) (sc : NandScan) : (s.surveyed sc).standing =
    { (s.bringNand sc).standing with boot := { (s.bringNand sc).boot with ready := true }, regs := (s.surveyed sc).standing.regs } ∧
    (s.surveyed sc).fld F.RGN_RANGE_TOP_top_tiles = Nat.min 0x68000000 ((s.bringNand sc).nand.usable + (s.bringNand sc).framesFound) ∧
    ∀ f : Fld, f.off ∈ [0xA00004, 0x200, 0xA00010, 0x210] → (s.surveyed sc).fld f = (s.bringNand sc).fld f := by
  unfold State.surveyed
  generalize s.bringNand sc = b
  have htop : (b.setFld F.RGN_RANGE_TOP_top_tiles (Nat.min 0x68000000 (b.nand.usable + b.framesFound))).fld F.RGN_RANGE_TOP_top_tiles =
      Nat.min 0x68000000 (b.nand.usable + b.framesFound) :=
    b.fld_setFld_fits _ _ (Nat.lt_of_le_of_lt (Nat.min_le_left _ _) (by decide))
  have hother : ∀ f : Fld, f.off ∈ [0xA00004, 0x200, 0xA00010, 0x210] →
      (b.setFld F.RGN_RANGE_TOP_top_tiles (Nat.min 0x68000000 (b.nand.usable + b.framesFound))).fld f = b.fld f := by
    intro f hf
    refine b.fld_setFld_other F.RGN_RANGE_TOP_top_tiles f _ (by decide) (.inl ?_)
    simp only [List.mem_cons, List.not_mem_nil, or_false] at hf
    rcases hf with hf | hf | hf | hf <;> rw [hf] <;> decide
  have hset := b.setFld_standing_regs F.RGN_RANGE_TOP_top_tiles (Nat.min 0x68000000 (b.nand.usable + b.framesFound))
  generalize b.setFld F.RGN_RANGE_TOP_top_tiles (Nat.min 0x68000000 (b.nand.usable + b.framesFound)) = a at htop hother hset
  have hboot : a.boot = b.boot := congrArg Standing.boot hset
  extract_lets x y c
  have hstand : (c.setFld F.TLR_CAP_IN_e_est (c.fld F.FEN_BAT_E_e_est % 65536)).standing = { a.standing with boot := { b.boot with ready := true } } := by
    simp only [c]
    rw [State.setFld_standing _ _ (by decide), State.ready_standing, hboot]
  refine ⟨?_, ?_, fun f hf => ?_⟩
  · rw [hstand, hset]
  · rw [State.fld_of_standing (s := a) (congrArg (fun x => x.regs.1) hstand) _ (by decide)]
    exact htop
  · rw [State.fld_of_standing (s := a) (congrArg (fun x => x.regs.1) hstand) _ (by revert hf; simp; omega)]
    exact hother f hf

theorem State.bare_of_popless {x : Standing} (h : t.standing.popless = x.popless) : t.standing.bare = x.bare :=
  show t.standing.popless.bare = x.popless.bare from congrArg Standing.bare h
theorem State.image_of_popless {x : Standing} (h : t.standing.popless = x.popless) : t.area = x.area ∧ t.nand.root = x.root :=
  ⟨congrArg Standing.area h, congrArg Standing.root h⟩
theorem State.boot_of_bare {x : Standing} (h : t.standing.bare = x.bare) : t.boot = x.boot := congrArg Standing.boot h
theorem State.regs_of_bare {x : Standing} (h : t.standing.bare = x.bare) : t.standing.regs = x.regs :=
  show t.standing.bare.regs = x.bare.regs from congrArg Standing.regs h
theorem State.image_of_standing {x : Standing} (h : t.standing = x) : t.area = x.area ∧ t.nand.root = x.root :=
  ⟨congrArg Standing.area h, congrArg Standing.root h⟩
theorem State.room_of_standing {x : Standing} (h : t.standing = x) : t.nand.usable = x.usable ∧ t.pops = x.pops :=
  ⟨congrArg Standing.usable h, congrArg Standing.pops h⟩

theorem State.format_image (s : State) (sc : NandScan) : (s.format sc).area.journal = [] ∧ (s.format sc).nand.root = none := by
  unfold State.format
  extract_lets p bt n raw d map tier spare chans
  exact ⟨rfl, rfl⟩

/-- Bringing the NAND up leaves all but the DRAM found, the capacity and, at a format, the save area. -/
theorem State.bringNand_bare (s : State) (sc : NandScan) : (s.bringNand sc).standing.bare = s.standing.bare := by
  obtain ⟨a, ha, hb⟩ := s.bringNand_standing sc
  have hformat := a.format_bare sc
  rw [ha] at hformat
  rw [State.bare_of_popless hb]
  split
  · rw [ha]
  · exact hformat

/-- The journal and the root record: kept where the NAND is formatted, empty after a format. -/
theorem State.bringNand_image (s : State) (sc : NandScan) :
    (s.nand.formatted = true → sc.root = true → (s.bringNand sc).area = s.area ∧ (s.bringNand sc).nand.root = s.nand.root) ∧
    (s.area.journal = [] → (s.bringNand sc).area.journal = []) ∧ (s.nand.root = none → (s.bringNand sc).nand.root = none) := by
  obtain ⟨a, ha, hb⟩ := s.bringNand_standing sc
  obtain ⟨haarea, haroot⟩ := State.image_of_standing ha
  obtain ⟨harea, hroot⟩ := State.image_of_popless hb
  rw [harea, hroot]
  split
  · exact ⟨fun _ _ => ⟨haarea, haroot⟩, fun h => (congrArg (·.journal) haarea).trans h, haroot.trans⟩
  · rename_i hformat
    exact ⟨fun h1 h2 => absurd ⟨h1, h2⟩ hformat, fun _ => (a.format_image sc).1, fun _ => (a.format_image sc).2⟩

/-- The survey leaves what no format sets, with boot ready and the range of tenants set. -/
theorem State.surveyed_bare (s : State) (sc : NandScan) :
    (s.surveyed sc).standing.bare = { s.standing with boot := { s.boot with ready := true }, regs := (s.surveyed sc).standing.regs }.bare := by
  have hb := s.bringNand_bare sc
  have hstand := (s.surveyed_standing sc).1
  have hboot := State.boot_of_bare hb
  generalize s.bringNand sc = b at hb hstand hboot
  rw [hstand, hboot]
  exact congrArg (fun x : Standing => { x with boot := { s.boot with ready := true }, regs := (s.surveyed sc).standing.regs }) hb

theorem State.surveyed_fld (s : State) (sc : NandScan) {f : Fld} (hf : f.off ∈ [0xA00004, 0x200, 0xA00010, 0x210]) : (s.surveyed sc).fld f = s.fld f := by
  have hb := congrArg Prod.fst (State.regs_of_bare (s.bringNand_bare sc))
  rw [(s.surveyed_standing sc).2.2 f hf]
  exact State.fld_of_standing hb f (by revert hf; simp; omega)

/-- The range of tenants covers the tier and the frames found (R46). -/
theorem State.surveyed_top (s : State) (sc : NandScan) :
    (s.surveyed sc).fld F.RGN_RANGE_TOP_top_tiles = Nat.min 0x68000000 ((s.surveyed sc).nand.usable + (s.surveyed sc).framesFound) := by
  obtain ⟨hstand, htop, -⟩ := s.surveyed_standing sc
  obtain ⟨husable, hpops⟩ := State.room_of_standing hstand
  generalize s.bringNand sc = b at htop husable hpops
  rw [htop, husable, State.framesFound, State.framesFound, hpops]
  rfl

/-- The save area and the root record of the survey are those of the NAND. -/
theorem State.surveyed_image (s : State) (sc : NandScan) :
    (s.nand.formatted = true → sc.root = true → (s.surveyed sc).area = s.area ∧ (s.surveyed sc).nand.root = s.nand.root) ∧
    (s.area.journal = [] → (s.surveyed sc).area.journal = []) ∧ (s.nand.root = none → (s.surveyed sc).nand.root = none) := by
  obtain ⟨harea, hroot⟩ := State.image_of_standing (s.surveyed_standing sc).1
  have himage := s.bringNand_image sc
  generalize s.bringNand sc = b at harea hroot himage
  rw [harea, hroot]
  exact himage

/-! ### No image -/

/-- Reading the journal drops records, and counts. -/
theorem State.readJournal_standing (s : State) (sc : NandScan) :
    (s.readJournal sc).standing = { s.standing with area := { s.area with journal := (s.readJournal sc).area.journal } } := by
  rw [State.readJournal, State.sat_standing _ _ (by decide)]
  rfl

theorem State.readJournal_empty (h : s.area.journal = []) (sc : NandScan) : (s.readJournal sc).area.journal = [] := by
  rw [State.readJournal, h]
  rfl

/-- With an empty journal and no root record there is no image (R152). -/
theorem State.findImage_none (hjournal : s.area.journal = []) (hroot : s.nand.root = none) (sc : NandScan) : s.findImage sc = .none := by
  have hnewest : s.newestRec = none := by rw [State.newestRec, hjournal]; rfl
  rw [State.findImage, hnewest, hroot]
  rfl

/-- The survey of a unit without an image ends in service. -/
theorem State.endBringup_none (hlife : s.fuses.life ≠ Machine.returned) (hjournal : s.area.journal = []) (hroot : s.nand.root = none) (sc : NandScan) :
    ∃ w : State, s.endBringup sc = w.stand ∧ w.standing = { s.standing with area := { s.area with journal := [] } } := by
  have hread := s.readJournal_standing sc
  rw [State.readJournal_empty hjournal] at hread
  rw [State.endBringup, if_neg hlife]
  generalize s.readJournal sc = a at hread
  extract_lets x b
  have hb : b.standing = { s.standing with area := { s.area with journal := [] } } := (State.sat_standing _ _ (by decide)).trans hread
  clear_value b
  obtain ⟨harea, hbroot⟩ := State.image_of_standing hb
  rw [State.findImage_none (congrArg (·.journal) harea) (hbroot.trans hroot) sc]
  exact ⟨b.notePeatLost, rfl, (State.notePeatLost_standing b).trans hb⟩

end Sys2Proof.Machine
end

section
set_option Elab.async false
/-! PROOFS. The ends of BRINGUP in service, and discard-image (R38, R152, R164). -/

namespace Sys2Proof.Machine

variable {s t u v w : State}

theorem State.reads_of_unclaimed {x : Standing} (h : t.standing.unclaimed = x.unclaimed) :
    t.kept.mem = x.mem ∧ t.kept.domains = x.domains ∧ t.kept.tiles = x.tiles ∧ t.kept.map = x.map ∧ t.boot = x.boot ∧ t.area = x.area ∧ t.nor = x.nor ∧
      t.fuses = x.fuses ∧ t.nand.usable = x.usable ∧ t.pops = x.pops :=
  ⟨congrArg Standing.mem h, congrArg Standing.domains h, congrArg Standing.tiles h, congrArg Standing.map h, congrArg Standing.boot h, congrArg Standing.area h,
    congrArg Standing.nor h, congrArg Standing.fuses h, congrArg Standing.usable h, congrArg Standing.pops h⟩

theorem State.reads_of_bare {x : Standing} (h : t.standing.bare = x.bare) :
    t.kept.mem = x.mem ∧ t.kept.domains = x.domains ∧ t.kept.qps = x.qps ∧ t.mode = x.mode ∧ t.boot = x.boot ∧ t.nor = x.nor ∧ t.fuses = x.fuses ∧
      t.mrtQ = x.mrtQ :=
  ⟨congrArg Standing.mem h, congrArg Standing.domains h, congrArg Standing.qps h, congrArg Standing.mode h, congrArg Standing.boot h, congrArg Standing.nor h,
    congrArg Standing.fuses h, congrArg Standing.mrtQ h⟩

theorem State.reads_of_standing {x : Standing} (h : t.standing = x) :
    t.kept.mem = x.mem ∧ t.kept.domains = x.domains ∧ t.boot = x.boot ∧ t.nor = x.nor ∧ t.fuses = x.fuses :=
  ⟨congrArg Standing.mem h, congrArg Standing.domains h, congrArg Standing.boot h, congrArg Standing.nor h, congrArg Standing.fuses h⟩

theorem State.bit_of_fld {f : Fld} (h : t.fld f = s.fld f) : t.bit f = s.bit f := by rw [State.bit, State.bit, h]

theorem State.canEnd_mode (h : s.canEnd = true) : s.mode = .bringup := by
  simp only [State.canEnd, Bool.and_eq_true, beq_iff_eq] at h
  tauto

theorem State.bringupComplete_runs (h : s.runs) (sc : NandScan) : exec (.bringupComplete sc) s = .next (s.doBringupComplete sc) := by
  change execBringupComplete sc s = _
  exact State.core_runs h _

/-- A unit that stands with no pair and no queue pairs, as what stood before it: only the mode, the role and the claim have moved. -/
theorem State.stand_reads (hqps : w.kept.qps = []) (hpair : w.pairEn = false) :
    w.stand.mode = .solo ∧ w.stand.lead = true ∧ (∀ f : Fld, f.off ∈ [0x200000, 0x200, 0xA00010, 0x210] → w.stand.fld f = w.fld f) ∧
      w.stand.standing.unclaimed = { w.standing with mode := .solo, regs := (w.standing.regs.1, 1) }.unclaimed := by
  have h := State.stand_unclaimed hqps hpair
  generalize w.stand = t at h
  exact ⟨State.mode_of_unclaimed h, State.lead_of_standing (State.role_of_unclaimed h), fun f hf => State.fld_of_unclaimed h rfl f hf, h⟩

/-- The first clause: a unit without a pair and without an image enters SOLO (R38, R164). -/
theorem State.bringup_serves (sc : NandScan) (hend : s.canEnd = true) (hlife : s.fuses.life ≠ Machine.returned) (hpair : s.pairEn = false)
    (hjournal : s.area.journal = []) (hroot : s.nand.root = none) (hqps : s.kept.qps = []) :
    ∃ t, exec (.bringupComplete sc) s = .next t ∧ t.mode = .solo ∧ t.boot.ready = true ∧ t.lead = true ∧
      t.fld F.RGN_RANGE_TOP_top_tiles = Nat.min 0x68000000 (t.nand.usable + t.framesFound) ∧ t.kept.mem = s.kept.mem ∧ t.kept.domains = s.kept.domains ∧
      t.fuses = s.fuses ∧ t.nor = s.nor := by
  have hexec := State.bringupComplete_runs (by rw [State.runs, State.canEnd_mode hend]; decide) sc
  rw [State.doBringupComplete_ends hend] at hexec
  have hbare := s.surveyed_bare sc
  have htop := s.surveyed_top sc
  have himage := s.surveyed_image sc
  have hpair' : (s.surveyed sc).pairEn = false := (State.bit_of_fld (s.surveyed_fld sc (by decide))).trans hpair
  generalize s.surveyed sc = v at hexec hbare htop himage hpair'
  obtain ⟨hmem, hdomains, hvqps, -, hboot, hnor, hfuses, -⟩ := State.reads_of_bare hbare
  obtain ⟨w, hw, hwstand⟩ := State.endBringup_none (by rw [hfuses]; exact hlife) (himage.2.1 hjournal) (himage.2.2 hroot) sc
  rw [hw] at hexec
  obtain ⟨husable, hpops⟩ := State.room_of_standing hwstand
  have hwpair : w.pairEn = false :=
    (State.bit_of_fld (State.fld_of_standing (congrArg (fun x => x.regs.1) hwstand) F.SEAM_PAIR_CFG_pair_en (by decide))).trans hpair'
  have hwtop : w.fld F.RGN_RANGE_TOP_top_tiles = v.fld F.RGN_RANGE_TOP_top_tiles := State.fld_of_standing (congrArg (fun x => x.regs.1) hwstand) _ (by decide)
  obtain ⟨hmode, hlead, hfld, hstand⟩ := State.stand_reads (((State.qps_of_standing hwstand).trans hvqps).trans hqps) hwpair
  generalize w.stand = x at hexec hmode hlead hfld hstand
  have hreview := State.reviewFull_standing x
  generalize x.reviewFull = t at hexec hreview
  rw [← hreview] at hstand
  obtain ⟨htmem, htdomains, -, -, htboot, -, htnor, htfuses, htusable, htpops⟩ := State.reads_of_unclaimed hstand
  obtain ⟨hwmem, hwdomains, hwboot, hwnor, hwfuses⟩ := State.reads_of_standing hwstand
  refine ⟨t, hexec, State.mode_of_unclaimed hstand, ?_, State.lead_of_standing (State.role_of_unclaimed hstand), ?_, htmem.trans (hwmem.trans hmem),
    htdomains.trans (hwdomains.trans hdomains), htfuses.trans (hwfuses.trans hfuses), htnor.trans (hwnor.trans hnor)⟩
  · rw [htboot.trans (hwboot.trans hboot)]
  · rw [State.fld_of_standing (congrArg (fun x => x.regs.1) hreview) _ (by decide), hfld _ (by decide), hwtop, htop, htusable.trans husable,
      State.framesFound, State.framesFound, htpops.trans hpops]
    rfl

/-! ### discard-image (R152) -/

/-- What a discard leaves of a unit. -/
theorem State.discardAll_reads (s : State) : s.discardAll.kept.mem = [] ∧ s.discardAll.kept.tiles = [] ∧ s.discardAll.kept.map = [] ∧
    s.discardAll.area.slot0 = {} ∧ s.discardAll.area.slot1 = {} ∧ s.discardAll.bit F.GLB_SAVE_STAT_lost = false ∧ s.discardAll.kept.qps = s.kept.qps ∧
    s.discardAll.fuses = s.fuses ∧ s.discardAll.pairEn = s.pairEn := by
  unfold State.discardAll
  extract_lets ks ns a gen b ar c
  have ha : a.kept.mem = [] ∧ a.kept.tiles = [] ∧ a.kept.map = [] ∧ a.kept.qps = s.kept.qps ∧ a.fuses = s.fuses ∧ a.csr = s.csr ∧ a.part = s.part :=
    ⟨rfl, rfl, rfl, rfl, rfl, rfl, rfl⟩
  have hb : b.kept = a.kept ∧ b.fuses = a.fuses ∧ b.csr = a.csr ∧ b.part = a.part := by
    simp only [b]
    split
    · exact ⟨rfl, rfl, rfl, rfl⟩
    · exact ⟨rfl, rfl, rfl, rfl⟩
  obtain ⟨hmem, htiles, hmap, hqps, hfuses, hcsr, hpart⟩ := ha
  obtain ⟨hbkept, hbfuses, hbcsr, hbpart⟩ := hb
  have hpair : c.fld F.SEAM_PAIR_CFG_pair_en = s.fld F.SEAM_PAIR_CFG_pair_en := State.fld_congr (hbpart.trans hpart) (hbcsr.trans hcsr) _
  have hkept : c.kept = a.kept := hbkept
  have hcfuses : c.fuses = s.fuses := hbfuses.trans hfuses
  have hslots : c.area.slot0 = {} ∧ c.area.slot1 = {} := ⟨rfl, rfl⟩
  clear_value c
  clear_value b
  refine ⟨by rw [State.setBit_kept, hkept, hmem], by rw [State.setBit_kept, hkept, htiles], by rw [State.setBit_kept, hkept, hmap], hslots.1, hslots.2,
    ?_, by rw [State.setBit_kept, hkept, hqps], hcfuses, ?_⟩
  · exact State.bit_setBit_same _ _ _
  · rw [State.pairEn, State.pairEn, State.bit, State.bit, ← hpair]
    exact congrArg (· != 0) (State.fld_setFld_other _ _ _ _ (by decide) (by decide))

theorem State.begun_standing (s : State) : s.begun.standing = s.standing := rfl

theorem State.begun_isLost (s : State) : s.begun.isLost = s.isLost := rfl

/-- The discard of images that are lost: the unit serves, with nothing kept (R152). -/
theorem State.discardImage_serves {h : Hdr} (hs : s.starts h .discardImage) (hlost : s.isLost = true) (hpair : s.pairEn = false) (hqps : s.kept.qps = []) :
    ∃ t, exec (.discardImage h) s = .next t ∧ t.mode = .solo ∧ t.kept.mem = [] ∧ t.kept.tiles = [] ∧ t.kept.map = [] ∧ t.area.slot0 = ({} : Slot) ∧
      t.area.slot1 = ({} : Slot) ∧ t.bit F.GLB_SAVE_STAT_lost = false ∧ t.fuses = s.fuses := by
  have hexec : exec (.discardImage h) s = .next (s.begun.doDiscardImage h) := by
    change execDiscardImage h s = _
    exact State.start_starts hs _
  rw [State.doDiscardImage, if_pos ((State.begun_isLost s).trans hlost)] at hexec
  obtain ⟨hmem, htiles, hmap, hslot0, hslot1, hflag, hdqps, hfuses, hdpair⟩ := s.begun.discardAll_reads
  generalize s.begun.discardAll = d at hexec hmem htiles hmap hslot0 hslot1 hflag hdqps hfuses hdpair
  have hdone : ((d.losePeat).complete h .ok).standing = d.standing := by rw [State.complete_standing, State.losePeat_standing]
  generalize (d.losePeat).complete h .ok = w at hexec hdone
  have hfld := fun f hf => State.fld_of_standing (congrArg (fun x => x.regs.1) hdone) f hf
  have hwpair : w.pairEn = false := (State.bit_of_fld (hfld F.SEAM_PAIR_CFG_pair_en (by decide))).trans (hdpair.trans hpair)
  obtain ⟨hmode, -, hwfld, hstand⟩ := State.stand_reads ((State.qps_of_standing hdone).trans (hdqps.trans hqps)) hwpair
  rw [hdone] at hstand
  generalize w.stand = t at hexec hmode hwfld hstand
  obtain ⟨htmem, -, httiles, htmap, -, htarea, -, htfuses, -, -⟩ := State.reads_of_unclaimed hstand
  refine ⟨t, hexec, hmode, htmem.trans hmem, httiles.trans htiles, htmap.trans hmap, (congrArg (·.slot0) htarea).trans hslot0,
    (congrArg (·.slot1) htarea).trans hslot1, ?_, htfuses.trans hfuses⟩
  exact (State.bit_of_fld ((hwfld F.GLB_SAVE_STAT_lost (by decide)).trans (hfld _ (by decide)))).trans hflag

end Sys2Proof.Machine
end

section
set_option Elab.async false
/-! PROOFS. RESTORE is entered with an image (R153, R159), and the statement about the end of BRINGUP. -/

namespace Sys2Proof.Machine

variable {s t u v w : State}

/-! ### The image's tables (R153, R159) -/

/-- The unit with the tables of an image. -/
def State.withImage (s : State) (slot : Nat) (img : Image) : State :=
  { s with
    seam := { s.seam with acked := img.head.mirrorStamp }
    kept := { img.kept with
      tiles := img.kept.tiles.map (fun p => (p.1, p.2.restored s.mrt)), freshTab := [], rdt := img.kept.rdt.map (fun (p : Nat × Rgn) => (p.1, p.2.restored))
      qps := img.kept.qps.map (fun (p : Nat × Qp) => (p.1, p.2.restored))
      subs := img.kept.subs.map (fun (p : Nat × Sub) => if p.2.state == SubState.live then (p.1, p.2.restart) else p)
      imgSync := some img.head.mirrorStamp }
    tlr := { s.tlr with pinned := img.pinned, jobs := img.jobs }
    save := { step := 0, delta := img.head.delta, slot := slot, gen := img.head.generation, room := s.roomFor img.head } }

/-- The registers that show an image (R153). -/
def State.showImage (s : State) (slot left : Nat) (img : Image) : State :=
  s.writes [(F.GLB_SAVE_STAT_sealed, 1), (F.GLB_SAVE_STAT_lost, 0), (F.GLB_SAVE_STAT_delta, if img.head.delta then 1 else 0), (F.GLB_SAVE_STAT_slot, slot),
    (F.GLB_SAVE_STAT_dur_10ms, Nat.min 65535 (img.head.saveMs / 10)), (F.GLB_SAVE_GEN_gen_lo, img.head.generation), (F.GLB_RESTORE_STAT_left_tiles, left),
    (F.SEAM_CLAIM_epoch, img.head.epoch), (F.SEAM_STATUS_lead, if img.head.lead then 1 else 0), (F.CRYP_WRAP_CNT_count_lo, img.kept.wrapCount)]

/-- The entry into RESTORE once the registers show the image (R159). -/
def State.openRestore (s : State) (img : Image) : State :=
  let s := (s.lostCopies img).foldl (fun (s : State) k => s.poisonUnit (k / 17) (k % 17)) s
  let s := (s.raiseCommit img.head.lastCommit).setMode .restore
  let s := (s.kept.qps.map (·.1)).foldl State.finishRestored s.startPeat
  (s.failQps.sendTack 1).reviewPair.firstCap .bringup

theorem State.enterRestore_eq (s : State) (slot : Nat) (img : Image) : s.enterRestore slot img =
    (((s.withImage slot img).showImage slot (((img.kept.tiles.map (fun p => (p.1, p.2.restored s.mrt))).filter (fun p => !p.2.present)).length) img).openRestore img) := by
  simp only [State.enterRestore, State.withImage, State.showImage, State.openRestore, State.writes, List.foldl_cons, List.foldl_nil, State.setBit, if_true,
    Bool.false_eq_true, if_false]

/-- What stands, but for the queue pairs. -/
def Standing.qpless (x : Standing) : Standing := { x with qps := [] }

/-- A queue pair of the image that holds no message is rewritten as it was. -/
theorem State.finishRestored_qpless (hs : s.noMsgs) (n : Nat) :
    (s.finishRestored n).standing.qpless = s.standing.qpless ∧ (s.finishRestored n).noMsgs ∧ (s.finishRestored n).csr = s.csr := by
  unfold State.finishRestored
  cases hq : s.qpAt n with
  | none => exact ⟨rfl, hs, rfl⟩
  | some q =>
    have hmsgs : q.msgs = [] := hs (n, q) (mem_of_alGet hq)
    simp only [hmsgs, List.foldl_nil]
    refine ⟨rfl, fun p hp => ?_, rfl⟩
    rcases mem_alPut hp with hnew | hold
    · rw [hnew]
    · exact hs p hold

theorem State.finishAll_qpless (l : List Nat) (hs : s.noMsgs) :
    (l.foldl State.finishRestored s).standing.qpless = s.standing.qpless ∧ (l.foldl State.finishRestored s).noMsgs ∧
      (l.foldl State.finishRestored s).csr = s.csr := by
  induction l generalizing s with
  | nil => exact ⟨rfl, hs, rfl⟩
  | cons n l ih =>
    obtain ⟨hone, hnone, hcsr⟩ := State.finishRestored_qpless hs n
    obtain ⟨hrest, hmsgs, hregs⟩ := ih hnone
    exact ⟨hrest.trans hone, hmsgs, hregs.trans hcsr⟩

theorem State.fld_of_qpless {x : Standing} (h : t.standing.qpless = x.qpless) (hx : x.regs.1 = s.standing.regs.1) (f : Fld) (hf : f.off ∈ standRegs) :
    t.fld f = s.fld f :=
  State.fld_of_standing ((show t.standing.regs.1 = x.regs.1 from congrArg (fun y => y.regs.1) h).trans hx) f hf

/-- RESTORE opens: of what stands only the mode and the queue pairs move, where they come back as they were (R159). -/
theorem State.openRestore_qpless (img : Image) (hs : s.noMsgs) (herr : s.bit F.GLB_RESTORE_CFG_qp_err = false) :
    (s.openRestore img).standing.qpless = { s.standing with mode := .restore }.qpless := by
  unfold State.openRestore
  extract_lets a b c
  have ha : a.standing = s.standing := standing_foldl (fun u k => State.poisonUnit_standing _ _ _) _ _
  clear_value a
  have hb : b.standing = { s.standing with mode := .restore } := by
    simp only [b]
    rw [State.setMode_standing, State.raiseCommit_standing, ha]
  clear_value b
  have hpeat : b.startPeat.standing = b.standing := State.startPeat_standing b
  have hmsgs : b.startPeat.noMsgs := by
    have hqps : b.startPeat.kept.qps = s.kept.qps := State.qps_of_standing (hpeat.trans hb)
    rw [State.noMsgs, hqps]
    exact hs
  obtain ⟨hfin, hfinMsgs, -⟩ := State.finishAll_qpless (b.kept.qps.map (·.1)) hmsgs
  rw [hpeat, hb] at hfin
  change c.standing.qpless = _ at hfin
  change c.noMsgs at hfinMsgs
  clear_value c
  have hcerr : c.bit F.GLB_RESTORE_CFG_qp_err = false := (State.bit_of_fld (State.fld_of_qpless hfin rfl _ (by decide))).trans herr
  have hfail : c.failQps = c := by rw [State.failQps, hcerr]; rfl
  have htack : (c.sendTack 1).standing = c.standing := State.sendTack_standing c 1
  rw [hfail, State.firstCap_standing, (hfinMsgs.of_standing htack).reviewPair, htack, hfin]

theorem State.standing_onlyRegs (h : s.onlyRegs t) : t.standing = { s.standing with regs := t.standing.regs } := by
  unfold State.onlyRegs at h
  rw [h]
  rfl

/-- A field that is written, and not again, holds the value as far as it fits. -/
theorem State.fld_writes_mod {f : Fld} {v : Nat} (hf : f.ok) (l k : List (Fld × Nat)) (s : State) (h : ∀ x ∈ k, x.1.ok ∧ x.1.apart f) :
    (s.writes (l ++ (f, v) :: k)).fld f = v % 2 ^ f.width := by
  rw [State.writes, List.foldl_append, List.foldl_cons]
  exact (State.fld_writes_ne _ h).trans (State.fld_setFld_same _ f v hf)

/-- The registers that show an image touch nothing else that stands. -/
theorem State.showImage_reads (s : State) (slot left : Nat) (img : Image) :
    (s.showImage slot left img).standing = { s.standing with regs := (s.showImage slot left img).standing.regs } ∧
    (s.showImage slot left img).fld F.SEAM_CLAIM_epoch = img.head.epoch % 2 ^ 32 ∧
    (s.showImage slot left img).bit F.GLB_SAVE_STAT_sealed = true ∧
    (s.showImage slot left img).bit F.GLB_RESTORE_CFG_qp_err = s.bit F.GLB_RESTORE_CFG_qp_err := by
  refine ⟨State.standing_onlyRegs (s.writes_onlyRegs _), ?_, ?_, ?_⟩
  · exact State.fld_writes_mod (by decide) [_, _, _, _, _, _, _] [_, _] s (by simp [Fld.ok, Fld.apart])
  · have hsealed : (s.showImage slot left img).fld F.GLB_SAVE_STAT_sealed = 1 % 2 ^ 1 := State.fld_writes_mod (f := F.GLB_SAVE_STAT_sealed) (v := 1) (by decide) [] [_, _, _, _, _, _, _, _, _] s (by simp [Fld.ok, Fld.apart])
    rw [State.bit, hsealed]
    rfl
  · exact State.bit_of_fld (State.fld_writes_ne s (by simp [Fld.ok, Fld.apart]))

theorem State.reads_of_qpless {x : Standing} (h : t.standing.qpless = x.qpless) :
    t.mode = x.mode ∧ t.kept.mem = x.mem ∧ t.kept.domains = x.domains ∧ t.kept.wrapCount = x.wrapCount ∧ t.kept.tiles = x.tiles ∧ t.fuses = x.fuses ∧
      t.nor = x.nor ∧ t.boot = x.boot :=
  ⟨congrArg Standing.mode h, congrArg Standing.mem h, congrArg Standing.domains h, congrArg Standing.wrapCount h, congrArg Standing.tiles h,
    congrArg Standing.fuses h, congrArg Standing.nor h, congrArg Standing.boot h⟩

/-- The tables of the image, in a unit that otherwise stands as it did. -/
theorem State.withImage_standing (s : State) (slot : Nat) (img : Image) : (s.withImage slot img).standing =
    { s.standing with
      mem := img.kept.mem, domains := img.kept.domains, wrapCount := img.kept.wrapCount, tiles := img.kept.tiles.map (fun p => (p.1, p.2.restored s.mrt))
      map := img.kept.map, qps := img.kept.qps.map (fun (p : Nat × Qp) => (p.1, p.2.restored)) } := rfl

/-- Queue pairs of an image without messages come back without. -/
theorem State.noMsgs_of_image {img : Image} (hwith : t.kept.qps = img.kept.qps.map (fun (p : Nat × Qp) => (p.1, p.2.restored)))
    (hmsgs : ∀ p ∈ img.kept.qps, p.2.msgs = []) : t.noMsgs := by
  rw [State.noMsgs, hwith]
  intro p hp
  obtain ⟨y, hy, hpy⟩ := List.mem_map.1 hp
  rw [← hpy]
  exact hmsgs y hy

/-- A unit that has entered RESTORE with an image (R153). -/
theorem State.enterRestore_reads (slot : Nat) (img : Image) (hmsgs : ∀ p ∈ img.kept.qps, p.2.msgs = []) (herr : s.bit F.GLB_RESTORE_CFG_qp_err = false) :
    (s.enterRestore slot img).mode = .restore ∧ (s.enterRestore slot img).kept.mem = img.kept.mem ∧
    (s.enterRestore slot img).kept.domains = img.kept.domains ∧ (s.enterRestore slot img).kept.wrapCount = img.kept.wrapCount ∧
    (s.enterRestore slot img).kept.tiles = img.kept.tiles.map (fun p => (p.1, p.2.restored s.mrt)) ∧
    (s.enterRestore slot img).fld F.SEAM_CLAIM_epoch = img.head.epoch % 2 ^ 32 ∧ (s.enterRestore slot img).bit F.GLB_SAVE_STAT_sealed = true ∧
    (s.enterRestore slot img).fuses = s.fuses ∧ (s.enterRestore slot img).nor = s.nor ∧ (s.enterRestore slot img).boot = s.boot := by
  rw [State.enterRestore_eq]
  generalize ((img.kept.tiles.map (fun p => (p.1, p.2.restored s.mrt))).filter (fun p => !p.2.present)).length = left
  have hwith := s.withImage_standing slot img
  generalize s.withImage slot img = a at hwith
  obtain ⟨hshow, hepoch, hsealed, hqperr⟩ := a.showImage_reads slot left img
  generalize a.showImage slot left img = b at hshow hepoch hsealed hqperr
  have hamsgs : b.noMsgs := State.noMsgs_of_image ((State.qps_of_standing hshow).trans (State.qps_of_standing hwith)) hmsgs
  have haerr : a.bit F.GLB_RESTORE_CFG_qp_err = s.bit F.GLB_RESTORE_CFG_qp_err :=
    State.bit_of_fld (State.fld_of_standing (congrArg (fun x => x.regs.1) hwith) _ (by decide))
  have hopen := State.openRestore_qpless img hamsgs (hqperr.trans (haerr.trans herr))
  generalize b.openRestore img = t at hopen
  have hregs := fun f hf => State.fld_of_qpless hopen rfl f hf
  rw [hshow, hwith] at hopen
  obtain ⟨hmode, hmem, hdomains, hwrap, htiles, hfuses, hnor, hboot⟩ := State.reads_of_qpless hopen
  exact ⟨hmode, hmem, hdomains, hwrap, htiles, (hregs _ (by decide)).trans hepoch, (State.bit_of_fld (hregs F.GLB_SAVE_STAT_sealed (by decide))).trans hsealed, hfuses, hnor, hboot⟩

/-! ### The image that BRINGUP finds (R152) -/

theorem State.sealedImage_of {r : JRec} {img : Image} (hrec : s.newestRec = some r) (htype : r.type = .sealed_) (hoff : r.off = 0)
    (hbase : (s.slotAt r.slot.val).base = some img) : s.sealedImage = some (r.slot.val, img) := by
  rw [State.sealedImage, hrec]
  simp only [htype, if_true, hoff, hbase, Option.map_some]

theorem State.slotAt_congr (h0 : t.area.slot0 = s.area.slot0) (h1 : t.area.slot1 = s.area.slot1) (n : Nat) : t.slotAt n = s.slotAt n := by
  rw [State.slotAt, State.slotAt, h0, h1]

theorem State.imagePasses_congr (hf : t.fuses = s.fuses) (h : ∀ n, t.slotAt n = s.slotAt n) (sc : NandScan) (n : Nat) (img : Image) :
    t.imagePasses sc n img = s.imagePasses sc n img := by
  have hsec : ∀ u, t.sectionFails n img u = s.sectionFails n img u := fun u => by rw [State.sectionFails, State.sectionFails, h]
  simp only [State.imagePasses, hf, hsec]

theorem State.findImage_sealed {sc : NandScan} {r : JRec} {img : Image} (hrec : s.newestRec = some r) (htype : r.type = .sealed_) (hoff : r.off = 0)
    (hbase : (s.slotAt r.slot.val).base = some img) (hpass : s.imagePasses sc r.slot.val img = true)
    (hroot : s.nand.root.any (fun x => decide (s.area.wseq < x.wseq)) = false) : s.findImage sc = .image r.slot.val img := by
  rw [State.findImage, hrec]
  simp only [htype, State.sealedImage_of hrec htype hoff hbase, hpass, if_true, hroot, Bool.false_eq_true, if_false]

end Sys2Proof.Machine
end

section
set_option Elab.async false
/-! PROOFS. The event of an older image stays pending through RESTORE's entry (R152, R356), and the statement about the end of BRINGUP. -/

namespace Sys2Proof.Machine

variable {s t u : State}

/-! ### Events stay pending -/

/-- Every event that was pending is pending still. -/
def State.pendsOn (s t : State) : Prop := ∀ ev, ev < 640 → s.pended ev = true → t.pended ev = true

theorem State.pendsOn.rfl : s.pendsOn s := fun _ _ h => h

theorem State.pendsOn.trans (h : s.pendsOn t) (k : t.pendsOn u) : s.pendsOn u := fun ev hev hp => k ev hev (h ev hev hp)

theorem State.pendsOn.ite {a b : State} {p : Prop} [Decidable p] (ha : s.pendsOn a) (hb : s.pendsOn b) : s.pendsOn (if p then a else b) := by
  split <;> assumption

theorem State.pendKept.pendsOn (h : s.pendKept t) : s.pendsOn t := fun ev hev hp => (h ev hev).trans hp

theorem State.pendsOn.csr (h : s.pendsOn t) (hp : u.part = t.part) (hc : u.csr = t.csr) : s.pendsOn u := h.trans (State.pendKept_of_csr hp hc).pendsOn

theorem State.pendsOn.setFld (h : s.pendsOn t) {f : Fld} (v : Nat) (hlo : f.lo ≤ f.hi) (hhi : f.hi < 32) (hf : f.off < 0x30100 ∨ 0x301A0 ≤ f.off) :
    s.pendsOn (t.setFld f v) := fun ev hev hp => (State.pended_setFld_ne _ _ _ _ hev hlo hhi hf).trans (h ev hev hp)

theorem State.pendsOn.setBit (h : s.pendsOn t) {f : Fld} (b : Bool) (hlo : f.lo ≤ f.hi) (hhi : f.hi < 32) (hf : f.off < 0x30100 ∨ 0x301A0 ≤ f.off) :
    s.pendsOn (t.setBit f b) := h.setFld _ hlo hhi hf

theorem State.pendsOn.raise (h : s.pendsOn t) (ev inst : Nat) : s.pendsOn (t.raise ev inst) := fun e he hp => State.pended_raise_of_pended _ _ _ _ he (h e he hp)

theorem State.pendsOn.foldl {α : Type} {f : State → α → State} (hf : ∀ (s : State) a, s.pendsOn (f s a)) (l : List α) (s : State) : s.pendsOn (l.foldl f s) := by
  induction l generalizing s with
  | nil => exact .rfl
  | cons a l ih => exact (hf s a).trans (ih _)

theorem State.pendsOn.forUp {f : Nat → State → State} (hf : ∀ i (s : State), s.pendsOn (f i s)) (k i : Nat) (s : State) : s.pendsOn (forUp f k i s) := by
  induction k generalizing i s with
  | zero => exact .rfl
  | succ k ih => exact (hf i s).trans (ih _ _)

theorem State.complete_pendsOn (s : State) (h : Hdr) (st : Status) (vals : List Nat) : s.pendsOn (s.complete h st vals) :=
  fun _ hev hp => (State.pended_complete _ _ _ _ hev).trans hp

theorem State.endDoze_pendsOn (s : State) : s.pendsOn s.endDoze := by
  unfold State.endDoze
  extract_lets c d w
  have hw : s.pendsOn w := .csr .rfl rfl rfl
  clear_value w c
  cases c with
  | none => exact hw
  | some h => exact hw.trans (w.complete_pendsOn _ _ _)

theorem State.setMode_pendsOn (s : State) (m : Mode) : s.pendsOn (s.setMode m) := by
  unfold State.setMode
  split
  · exact .rfl
  · extract_lets a
    have ha : s.pendsOn a := by
      simp only [a]
      split
      · exact s.endDoze_pendsOn
      · exact s.endDoze_pendsOn
      · exact s.endDoze_pendsOn
      · exact .rfl
    clear_value a
    refine State.pendsOn.raise ?_ _ _
    exact State.pendsOn.csr (t := a) ha rfl rfl

theorem State.allocRec_pendsOn (s : State) (sev : Nat) (r : PeatRec) : s.pendsOn (s.allocRec sev r) := by
  have hdrop : s.pendsOn ((s.sat (dropField sev)).raise Ev.PEAT_DROPPED) := by
    have hf : (dropField sev).lo ≤ (dropField sev).hi ∧ (dropField sev).hi < 32 ∧ ((dropField sev).off < 0x30100 ∨ 0x301A0 ≤ (dropField sev).off) := by
      unfold dropField
      split <;> decide
    exact State.pendsOn.raise (State.pendsOn.setFld .rfl _ hf.1 hf.2.1 hf.2.2) _ _
  unfold State.allocRec
  split
  · exact .csr .rfl rfl rfl
  · split
    · exact .ite (.csr .rfl rfl rfl) hdrop
    · exact hdrop

theorem State.ownRec_pendsOn (ev : Nat) (s : State) : s.pendsOn (State.ownRec ev s) := by
  unfold State.ownRec
  split
  · exact .rfl
  · exact s.allocRec_pendsOn _ _

theorem State.lifeRec_pendsOn (m : Nat) (s : State) : s.pendsOn (State.lifeRec m s) := by
  unfold State.lifeRec
  extract_lets cfg inst fresh
  split
  · exact .ite .rfl (.csr .rfl rfl rfl)
  · exact s.allocRec_pendsOn _ _

theorem State.startPeat_pendsOn (s : State) : s.pendsOn s.startPeat := by
  have hown := fun u => State.pendsOn.forUp State.ownRec_pendsOn 5 240 u
  have hlife := fun u => State.pendsOn.forUp State.lifeRec_pendsOn 16 0 u
  rw [State.startPeat]
  generalize hd : ({ s with kept := { s.kept with peat := s.kept.peat.map (fun p => (p.1, { p.2 with lastAt := none })) } } : State) = d
  have hsd : s.pendsOn d := by
    rw [← hd]
    exact .csr .rfl rfl rfl
  exact hsd.trans ((hown d).trans (hlife _))

theorem State.raiseCommit_pendsOn (s : State) (c : Nat) : s.pendsOn (s.raiseCommit c) := by
  have hset : s.pendsOn (({ s with clk := { s.clk with held := some c } } : State).setBit F.TIME_STATUS_commit_held true) :=
    .setBit (.csr .rfl rfl rfl) _ (by decide) (by decide) (by decide)
  unfold State.raiseCommit State.holdCommit
  exact .ite .rfl (.ite .rfl (.ite .rfl (.ite hset (.raise hset _ _))))

theorem State.pumpN_csr (k l : Nat) (s : State) : (State.pumpN k l s).csr = s.csr := by
  induction k generalizing s with
  | zero => rfl
  | succ k ih =>
    unfold State.pumpN
    extract_lets x
    split
    · rfl
    · split
      · rw [ih, State.launch, State.putFrame_csr, State.setLink_csr, State.setLink_csr]
      · rfl

theorem State.pump_pendsOn (s : State) (l : Nat) : s.pendsOn (s.pump l) :=
  .csr .rfl (congrArg (·.2.1) (State.pump_fixed s l)) (State.pumpN_csr _ _ _)

theorem State.noMsgs.reviewPair_pendsOn (hs : s.noMsgs) : s.pendsOn s.reviewPair := by
  unfold State.reviewPair
  extract_lets tok held req a b c was d
  have ha : a.standing = s.standing ∧ s.pendsOn a := ⟨by simp [a], .setBit (.setBit .rfl _ (by decide) (by decide) (by decide)) _ (by decide) (by decide) (by decide)⟩
  have hb : b.standing = s.standing ∧ s.pendsOn b := ⟨(State.setBit_standing _ _ (by decide)).trans ha.1, .setBit ha.2 _ (by decide) (by decide) (by decide)⟩
  have hc : c.standing = s.standing ∧ s.pendsOn c :=
    ⟨(State.setBit_status_standing _ _ (by decide)).trans hb.1, .setBit hb.2 _ (by decide) (by decide) (by decide)⟩
  have hd : d.standing = s.standing ∧ s.pendsOn d :=
    ⟨(State.setBit_status_standing _ _ (by decide)).trans hc.1, .setBit hc.2 _ (by decide) (by decide) (by decide)⟩
  split
  · rw [(hs.of_standing hd.1).sweepAll]
    exact hd.2.trans ((d.pump_pendsOn 0).trans (State.pump_pendsOn _ 1))
  · exact hd.2

theorem State.reviewFull_pendsOn (s : State) : s.pendsOn s.reviewFull := by
  have hset : ∀ b, s.pendsOn (s.setBit F.QLT_STATUS_full b) := fun b => .setBit .rfl _ (by decide) (by decide) (by decide)
  unfold State.reviewFull
  extract_lets n full was a
  exact .ite ((hset _).raise _ _) (hset _)

theorem State.reviewCap_pendsOn (s : State) : s.pendsOn s.reviewCap := by
  have hthrottle : ∀ u : State, u.pendsOn u.setThrottle := fun u => by
    unfold State.setThrottle
    exact .ite .rfl (.raise (.setBit .rfl _ (by decide) (by decide) (by decide)) _ _)
  have hclear : ∀ (u : State) b, u.pendsOn (u.setBit F.TLR_STATUS_throttle b) := fun u b => .setBit .rfl _ (by decide) (by decide) (by decide)
  unfold State.reviewCap
  extract_lets above wasOver a b c below was d e
  have ha : s.pendsOn a := .setBit .rfl _ (by decide) (by decide) (by decide)
  have hb : s.pendsOn b := .ite (ha.raise _ _) ha
  have hc : s.pendsOn c := hb.trans (.ite (hclear _ _) (.ite (hthrottle _) (.ite (hclear _ _) .rfl)))
  have hd : s.pendsOn d := .setBit hc _ (by decide) (by decide) (by decide)
  have he : s.pendsOn e := .ite (hd.raise _ _) hd
  exact he.csr rfl rfl

theorem State.capNow_pendsOn (s : State) : s.pendsOn s.capNow := by
  unfold State.capNow
  extract_lets c l x a b low d
  have ha : s.pendsOn a := .csr .rfl rfl rfl
  have hb : s.pendsOn b := .setFld (.setFld ha _ (by decide) (by decide) (by decide)) _ (by decide) (by decide) (by decide)
  have hcap : ∀ v, s.pendsOn (b.setFld F.TLR_HOMECAP_cap_tiles v) := fun v => .setFld hb _ (by decide) (by decide) (by decide)
  have hd : s.pendsOn d := .ite ((hcap _).raise _ _) (.ite ((hcap _).raise _ _) hb)
  exact (State.pendsOn.setFld hd _ (by decide) (by decide) (by decide)).trans (State.reviewCap_pendsOn _)

theorem State.part_foldl_finish (l : List Nat) (s : State) : (l.foldl State.finishRestored s).part = s.part :=
  congrArg (·.2.1) (fixed_foldl (fun u n => u.finishRestored_fixed n) l s)

/-- The entry into RESTORE takes no pending event away (R356). -/
theorem State.openRestore_pendsOn (img : Image) (hs : s.noMsgs) (herr : s.bit F.GLB_RESTORE_CFG_qp_err = false) : s.pendsOn (s.openRestore img) := by
  unfold State.openRestore
  extract_lets a b c
  have hpoison : ∀ (u : State) k, u.pendsOn (u.poisonUnit (k / 17) (k % 17)) := fun u k =>
    .foldl (f := fun s l => s.poisonLine (k / 17 * 256 + l)) (fun u l => .csr .rfl rfl rfl) _ _
  have ha : a.standing = s.standing ∧ s.pendsOn a := ⟨standing_foldl (fun u k => State.poisonUnit_standing _ _ _) _ _, .foldl hpoison _ _⟩
  clear_value a
  have hb : b.standing = { s.standing with mode := .restore } ∧ s.pendsOn b := by
    simp only [b]
    rw [State.setMode_standing, State.raiseCommit_standing, ha.1]
    exact ⟨rfl, ha.2.trans ((State.raiseCommit_pendsOn _ _).trans (State.setMode_pendsOn _ _))⟩
  clear_value b
  have hpeat : b.startPeat.standing = b.standing := State.startPeat_standing b
  have hmsgs : b.startPeat.noMsgs := by
    have hqps : b.startPeat.kept.qps = s.kept.qps := State.qps_of_standing (hpeat.trans hb.1)
    rw [State.noMsgs, hqps]
    exact hs
  obtain ⟨hfin, hfinMsgs, hfinCsr⟩ := State.finishAll_qpless (b.kept.qps.map (·.1)) hmsgs
  rw [hpeat, hb.1] at hfin
  change c.standing.qpless = _ at hfin
  change c.noMsgs at hfinMsgs
  have hcOn : s.pendsOn c := (hb.2.trans (State.startPeat_pendsOn b)).csr (State.part_foldl_finish _ _) hfinCsr
  clear_value c
  have hcerr : c.bit F.GLB_RESTORE_CFG_qp_err = false := (State.bit_of_fld (State.fld_of_qpless hfin rfl _ (by decide))).trans herr
  have hfail : c.failQps = c := by rw [State.failQps, hcerr]; rfl
  have htack : (c.sendTack 1).standing = c.standing := State.sendTack_standing c 1
  have htackOn : c.pendsOn (c.sendTack 1) := by
    unfold State.sendTack
    exact .ite (.csr .rfl rfl rfl) .rfl
  rw [hfail, State.firstCap, if_pos rfl]
  exact hcOn.trans (htackOn.trans (((hfinMsgs.of_standing htack).reviewPair_pendsOn).trans ((State.reviewFull_pendsOn _).trans (State.capNow_pendsOn _))))

theorem State.writes_pendsOn {l : List (Fld × Nat)} (s : State)
    (h : ∀ x ∈ l, x.1.lo ≤ x.1.hi ∧ x.1.hi < 32 ∧ (x.1.off < 0x30100 ∨ 0x301A0 ≤ x.1.off)) : s.pendsOn (s.writes l) := by
  induction l generalizing s with
  | nil => exact .rfl
  | cons x l ih =>
    obtain ⟨hlo, hhi, hoff⟩ := h x List.mem_cons_self
    exact (State.pendsOn.setFld .rfl _ hlo hhi hoff).trans (ih _ fun y hy => h y (List.mem_cons_of_mem _ hy))

theorem State.showImage_pendsOn (s : State) (slot left : Nat) (img : Image) : s.pendsOn (s.showImage slot left img) :=
  s.writes_pendsOn (by simp)

theorem State.enterRestore_pendsOn (slot : Nat) (img : Image) (hmsgs : ∀ p ∈ img.kept.qps, p.2.msgs = []) (herr : s.bit F.GLB_RESTORE_CFG_qp_err = false) :
    s.pendsOn (s.enterRestore slot img) := by
  rw [State.enterRestore_eq]
  generalize ((img.kept.tiles.map (fun p => (p.1, p.2.restored s.mrt))).filter (fun p => !p.2.present)).length = left
  have hwith := s.withImage_standing slot img
  have hwithOn : s.pendsOn (s.withImage slot img) := .csr .rfl rfl rfl
  generalize s.withImage slot img = a at hwith hwithOn
  obtain ⟨hshow, -, -, hqperr⟩ := a.showImage_reads slot left img
  have hshowOn := hwithOn.trans (a.showImage_pendsOn slot left img)
  generalize a.showImage slot left img = b at hshow hqperr hshowOn
  have haerr : a.bit F.GLB_RESTORE_CFG_qp_err = s.bit F.GLB_RESTORE_CFG_qp_err :=
    State.bit_of_fld (State.fld_of_standing (congrArg (fun x => x.regs.1) hwith) _ (by decide))
  exact hshowOn.trans (State.openRestore_pendsOn img (State.noMsgs_of_image ((State.qps_of_standing hshow).trans (State.qps_of_standing hwith)) hmsgs) (hqperr.trans (haerr.trans herr)))

/-! ### The statement about the end of BRINGUP -/

theorem State.newestRec_congr (h : t.area.journal = s.area.journal) : t.newestRec = s.newestRec := by
  unfold State.newestRec State.lastGen
  rw [h]

theorem State.reads_same (h : t.standing = s.standing) :
    t.mode = s.mode ∧ t.kept.mem = s.kept.mem ∧ t.kept.domains = s.kept.domains ∧ t.kept.wrapCount = s.kept.wrapCount ∧ t.kept.tiles = s.kept.tiles ∧
      t.fuses = s.fuses ∧ t.nor = s.nor ∧ t.boot = s.boot := State.reads_of_qpless (congrArg Standing.qpless h)

/-- The second clause: the image that the newest record seals is restored (R152, R153). -/
theorem State.bringup_restores {sc : NandScan} {r : JRec} {img : Image} (hend : s.canEnd = true) (hlife : s.fuses.life ≠ Machine.returned)
    (hformat : s.nand.formatted = true) (hfound : sc.root = true) (hrec : (s.readJournal sc).newestRec = some r) (htype : r.type = .sealed_) (hoff : r.off = 0)
    (hbase : (s.slotAt r.slot.val).base = some img) (hpass : s.imagePasses sc r.slot.val img = true) (hmsgs : ∀ p ∈ img.kept.qps, p.2.msgs = [])
    (hroot : s.nand.root.any (fun x => decide (s.area.wseq < x.wseq)) = false) (herr : s.bit F.GLB_RESTORE_CFG_qp_err = false) :
    ∃ t, exec (.bringupComplete sc) s = .next t ∧ t.mode = .restore ∧ t.kept.mem = img.kept.mem ∧ t.kept.domains = img.kept.domains ∧
      t.kept.wrapCount = img.kept.wrapCount ∧ t.kept.tiles = img.kept.tiles.map (fun p => (p.1, p.2.restored s.mrt)) ∧
      t.fld F.SEAM_CLAIM_epoch = img.head.epoch % 2 ^ 32 ∧ t.bit F.GLB_SAVE_STAT_sealed = true ∧ t.fuses = s.fuses ∧ t.nor = s.nor ∧ t.boot.ready = true := by
  have hexec := State.bringupComplete_runs (by rw [State.runs, State.canEnd_mode hend]; decide) sc
  rw [State.doBringupComplete_ends hend] at hexec
  have hbare := s.surveyed_bare sc
  obtain ⟨harea, hvroot⟩ := (s.surveyed_image sc).1 hformat hfound
  have hverr : (s.surveyed sc).bit F.GLB_RESTORE_CFG_qp_err = false := (State.bit_of_fld (s.surveyed_fld sc (by decide))).trans herr
  generalize s.surveyed sc = v at hexec hbare harea hvroot hverr
  obtain ⟨-, -, -, -, hboot, hnor, hfuses, hmrt⟩ := State.reads_of_bare hbare
  have hjournal : (v.readJournal sc).area.journal = (s.readJournal sc).area.journal := by
    rw [State.readJournal, State.readJournal, State.sat_area, State.sat_area, harea]
  have hread := v.readJournal_standing sc
  rw [hjournal] at hread
  rw [State.endBringup, if_neg (by rw [hfuses]; exact hlife)] at hexec
  generalize v.readJournal sc = a at hexec hread
  dsimp only at hexec
  generalize hk : a.scanFails sc = k at hexec
  have hb : (a.sat F.CRC_FAIL_CNT_save k).standing = { v.standing with area := { v.area with journal := (s.readJournal sc).area.journal } } := by
    rw [State.sat_standing _ _ (by decide), hread]
  generalize a.sat F.CRC_FAIL_CNT_save k = b at hexec hb
  obtain ⟨hbarea, hbroot⟩ := State.image_of_standing hb
  obtain ⟨-, -, hbboot, hbnor, hbfuses⟩ := State.reads_of_standing hb
  have hslot : ∀ n, b.slotAt n = s.slotAt n := State.slotAt_congr (by rw [hbarea, harea]) (by rw [hbarea, harea])
  have hfind : b.findImage sc = .image r.slot.val img := by
    refine State.findImage_sealed (hrec ▸ State.newestRec_congr (by rw [hbarea])) htype hoff (by rw [hslot]; exact hbase)
      ((State.imagePasses_congr (hbfuses.trans hfuses) hslot sc _ _).trans hpass) ?_
    have hroot' : b.nand.root = s.nand.root := hbroot.trans hvroot
    have hwseq : b.area.wseq = s.area.wseq := by rw [hbarea, harea]
    rw [hroot', hwseq]
    exact hroot
  rw [hfind] at hexec
  have hberr : b.bit F.GLB_RESTORE_CFG_qp_err = false :=
    (State.bit_of_fld (State.fld_of_standing (congrArg (fun x => x.regs.1) hb) _ (by decide))).trans hverr
  have hbmrt : b.mrt = s.mrt := congrArg (· / 4) ((congrArg Standing.mrtQ hb).trans hmrt)
  have hreads := State.enterRestore_reads r.slot.val img hmsgs hberr
  dsimp only at hexec
  generalize b.enterRestore r.slot.val img = w at hexec hreads
  obtain ⟨hmode, hmem, hdomains, hwrap, htiles, hepoch, hsealed, hwfuses, hwnor, hwboot⟩ := hreads
  have hreview := State.reviewFull_standing w
  generalize w.reviewFull = t at hexec hreview
  obtain ⟨htmode, htmem, htdomains, htwrap, httiles, htfuses, htnor, htboot⟩ := State.reads_same hreview
  have hregs := fun f hf => State.fld_of_standing (congrArg (fun x => x.regs.1) hreview) f hf
  refine ⟨t, hexec, htmode.trans hmode, htmem.trans hmem, htdomains.trans hdomains, htwrap.trans hwrap, ?_, (hregs _ (by decide)).trans hepoch,
    (State.bit_of_fld (hregs F.GLB_SAVE_STAT_sealed (by decide))).trans hsealed, htfuses.trans (hwfuses.trans (hbfuses.trans hfuses)),
    htnor.trans (hwnor.trans (hbnor.trans hnor)), ?_⟩
  · rw [← hbmrt]
    exact httiles.trans htiles
  · rw [htboot.trans (hwboot.trans (hbboot.trans hboot))]

/-- The fourth clause: the older image is restored on command (R152). -/
theorem State.acceptOlder_restores {h : Hdr} {n : Nat} {img : Image} (hs : s.starts h .acceptOlderImage) (hlost : s.isLost = true)
    (holder : s.olderImage = some (n, img)) (hmsgs : ∀ p ∈ img.kept.qps, p.2.msgs = []) (herr : s.bit F.GLB_RESTORE_CFG_qp_err = false) :
    ∃ t, exec (.acceptOlderImage h) s = .next t ∧ t.mode = .restore ∧ t.kept.mem = img.kept.mem ∧ t.kept.domains = img.kept.domains ∧
      t.kept.wrapCount = img.kept.wrapCount ∧ t.kept.tiles = img.kept.tiles.map (fun p => (p.1, p.2.restored s.mrt)) ∧
      t.fld F.SEAM_CLAIM_epoch = img.head.epoch % 2 ^ 32 ∧ t.bit F.GLB_SAVE_STAT_sealed = true ∧ t.fuses = s.fuses ∧ t.nor = s.nor ∧
      t.pended Ev.GLB_IMAGE_OLDER = true := by
  have hexec : exec (.acceptOlderImage h) s = .next (s.begun.doAcceptOlder h) := by
    change execAcceptOlderImage h s = _
    exact State.start_starts hs _
  have hmode : s.mode = .bringup := by
    simp only [State.isLost, Bool.and_eq_true, beq_iff_eq] at hlost
    exact hlost.1.1
  have holder' : s.begun.olderImage = some (n, img) := holder
  rw [State.doAcceptOlder, State.begun_isLost, hlost] at hexec
  simp only [Bool.not_true, Bool.false_eq_true, if_false, holder'] at hexec
  have hdone : (s.begun.complete h .ok).standing = s.standing := State.complete_standing _ _ _ _
  generalize s.begun.complete h .ok = a at hexec hdone
  have hamode : a.mode = .bringup := (State.mode_of_standing hdone).trans hmode
  have hraised := State.pended_raise_unfused a (ev := Ev.GLB_IMAGE_OLDER) (by decide) (by rw [hamode]; decide) 0
  have hraise : (a.raise Ev.GLB_IMAGE_OLDER).standing = s.standing := (State.raise_standing _ _ (by decide)).trans hdone
  generalize a.raise Ev.GLB_IMAGE_OLDER = b at hexec hraise hraised
  obtain ⟨-, -, -, hbnor, hbfuses⟩ := State.reads_of_standing hraise
  have hberr : b.bit F.GLB_RESTORE_CFG_qp_err = false :=
    (State.bit_of_fld (State.fld_of_standing (congrArg (fun x => x.regs.1) hraise) _ (by decide))).trans herr
  have hbmrt : b.mrt = s.mrt := congrArg (· / 4) (congrArg Standing.mrtQ hraise)
  have hpend := State.enterRestore_pendsOn n img hmsgs hberr Ev.GLB_IMAGE_OLDER (by decide) hraised
  have hreads := State.enterRestore_reads n img hmsgs hberr
  generalize b.enterRestore n img = t at hexec hpend hreads
  obtain ⟨htmode, hmem, hdomains, hwrap, htiles, hepoch, hsealed, hfuses, hnor, -⟩ := hreads
  exact ⟨t, hexec, htmode, hmem, hdomains, hwrap, hbmrt ▸ htiles, hepoch, hsealed, hfuses.trans hbfuses, hnor.trans hbnor, hpend⟩

/-- Settles O38, clause by clause. -/
theorem bringupEnds : Obligations.BringupEnds := by
  unfold Obligations.BringupEnds
  refine ⟨?_, ?_, ?_, ?_, ?_, ?_, ?_⟩
  · intro s sc hend hlife hpair hjournal hroot hqps _ _ _ _
    exact State.bringup_serves sc hend hlife hpair hjournal hroot hqps
  · intro s sc r img hend hlife hformat hfound hrec htype hoff hbase hpass _ hmsgs hroot herr _ _ _ _ _
    exact State.bringup_restores hend hlife hformat hfound hrec htype hoff hbase hpass hmsgs hroot herr
  · intro s sc hs hend
    rw [State.bringupComplete_runs hs, State.doBringupComplete, if_neg (by rw [hend]; exact Bool.false_ne_true)]
  · intro s h n img hs hlost holder _ hmsgs herr _ _ _ _ _
    exact State.acceptOlder_restores hs hlost holder hmsgs herr
  · intro s h hs hlost
    change execAcceptOlderImage h s = _
    refine (State.start_starts hs _).trans ?_
    rw [State.doAcceptOlder, State.begun_isLost, hlost]
    rfl
  · intro s h hs hlost hpair hqps _ _ _ _
    exact State.discardImage_serves hs hlost hpair hqps
  · intro s h hs hlost
    change execDiscardImage h s = _
    refine (State.start_starts hs _).trans ?_
    rw [State.doDiscardImage, State.begun_isLost, hlost]
    rfl

end Sys2Proof.Machine
end

section
set_option Elab.async false
/-! PROOFS. A failed erase whose parity block overflows its target's numbers (R240, R248). -/

namespace Sys2Proof.Machine

/-- Target 16 erases its block 0. Target 15 counts its tier blocks from number 2^20 on, so that the name of its first one is the name of that block; group 0, which
the block belongs to, has a closed member on target 32 with a written page whose parity is due. -/
def overflowingUnit : State :=
  { State.reset with
    mode := .solo
    nand := { State.reset.nand with
      first := 2 ^ 20, perTarget := 1, targets := [15], groups := [(0, {})]
      blocks := [(blockKey 16 0, { st := .erasing }), (blockKey 32 0, { st := .closed, fill := 4 })] } }

/-- The erase fails, and the retired block becomes the parity block of its group. -/
theorem overflowingUnit_reuses :
    endsIn (exec (.nandEraseComplete 16 0 false) overflowingUnit) (fun t => decide ((t.blk (blockKey 16 0)).st = .parity)) = true := by
  decide +kernel

/-- Refutes O35: the parity block of the group is drawn after the block has been retired (R240, R248), and the name of a target's fresh block may be that of a
block of the next target, for the number of the first tier block is any number. -/
theorem not_flashWork : ¬ Obligations.FlashWork := by
  unfold Obligations.FlashWork
  rintro ⟨-, -, eraseFails, -⟩
  have hgroup : ∀ x, alGet overflowingUnit.nand.groups (overflowingUnit.blk (blockKey 16 0)).group = some x → x.block ≠ some (blockKey 16 0) := by
    intro x hx
    obtain rfl : ({} : PGroup) = x := Option.some.inj hx
    exact nofun
  obtain ⟨t, ht, -, hretired, -⟩ := eraseFails overflowingUnit 16 0 (by decide +kernel) (by decide +kernel) (by decide +kernel) hgroup (by decide) rfl
    (by decide +kernel)
  have hparity : (t.blk (blockKey 16 0)).st = .parity := of_decide_eq_true (of_endsIn overflowingUnit_reuses ht)
  exact absurd (hparity.symm.trans hretired) nofun

end Sys2Proof.Machine
end
